-- ==== Sys2Proof/Word.lean ====
section
/-!
DEFINITION. Sys2Proof/Word.lean: the word types of the ZK4 and the plainest arithmetic on them (R12: little-endian bytes).
-/
namespace Sys2Proof

/-- One byte of any memory. -/
abbrev Byte := BitVec 8
/-- A 16-bit field. -/
abbrev Half := BitVec 16
/-- A 32-bit word: FP32 bits, identifiers, u32 fields. -/
abbrev Word := BitVec 32
/-- A 64-bit word: status words, descriptor words, u64 fields. -/
abbrev DWord := BitVec 64

/-- A sparse table: keys strictly rising, no entry equal to the table's default value. -/
abbrev Table (α : Type) := List (Nat × α)

/-- The low `n` bytes of a number, least significant first (R12). -/
def bytesLE (n v : Nat) : List Byte :=
  (List.range n).map (fun i => BitVec.ofNat 8 (v / 256 ^ i))

/-- The number whose bytes, least significant first, are given (R12). -/
def natLE (bs : List Byte) : Nat :=
  bs.foldr (fun b acc => b.toNat + 256 * acc) 0

/-- Bits `[hi:lo]` of a word as a number. -/
def bitsOf {w : Nat} (x : BitVec w) (hi lo : Nat) : Nat :=
  (x.toNat / 2 ^ lo) % 2 ^ (hi + 1 - lo)

/-- Bit `k` of a word. -/
def bitOf {w : Nat} (x : BitVec w) (k : Nat) : Bool := x.getLsbD k

/-- A field's two's complement value, for a field of `w` bits. -/
def signedOf (w v : Nat) : Int :=
  if v % 2 ^ w < 2 ^ (w - 1) then ((v % 2 ^ w : Nat) : Int) else ((v % 2 ^ w : Nat) : Int) - ((2 ^ w : Nat) : Int)

/-- An integer's two's complement field of `w` bits. -/
def unsignedOf (w : Nat) (v : Int) : Nat := (v % ((2 ^ w : Nat) : Int)).toNat

/-- A flag as a bit value. -/
def bitNat (b : Bool) : Nat := if b then 1 else 0

/-- A count that stops at its field's largest value. -/
def satTo (limit v : Nat) : Nat := min limit v

end Sys2Proof
end

