-- ==== Sys2Proof/Types.lean ====
section
/-!
DEFINITION. Sys2Proof/Types.lean: the operand types of the commands: unit numbers (R7), ports and requests (R39, R475),
descriptors as their eight 64-bit words (R243 to R250), and the plan image as the load check reads it (R236 to R242).
-/
namespace Sys2Proof

/-- Global tile number, 64·die + tile (R7). -/
abbrev TileId := Fin 256
/-- Array number within its tile (R7). -/
abbrev ArrIdx := Fin 16
/-- Compute die number (R7). -/
abbrev DieId := Fin 4
/-- HBM stack and base die number (R7). -/
abbrev StackId := Fin 8
/-- Vorran link number (R7). -/
abbrev LinkId := Fin 48
/-- Lake number: 0 to 255 tiles, 256 and 257 I/O dies (R480, R384). -/
abbrev LakeId := Fin 258
/-- Job rank (R44). -/
abbrev Rank := Fin 1024

/-- A unit that events and health records name (R411): the kind (0 none) and the index within the kind. -/
structure UnitRef where
  kind : Nat
  index : Nat
  deriving DecidableEq, Repr

/-- The port a request came through (R39, R484). -/
inductive Port where
  /-- Host slot 0 to 15 of BAR0. -/
  | host (slot : Fin 16)
  /-- The management port, with the source's IPv4 address and UDP port. -/
  | mgmt (addr : Word) (udp : Half)
  /-- A peer package, by job rank. -/
  | peer (rank : Rank)
  deriving DecidableEq, Repr

/-- A request's port, tag (R475) and, on the management port, its datagram sequence number (R471). -/
structure Req where
  port : Port
  tag : Word
  seq : Word
  deriving DecidableEq, Repr

/-- The kinds of sync event (R370). -/
inductive SyncKind where
  | tick | echoReq | echoReply | hold | late | stretch | updateDone | complete | prepared | start | abort | expel
  deriving DecidableEq, Repr

/-- A sync event (R369): the kind, the rank that raised it, the frame field and the payload. -/
structure SyncEvent where
  kind : SyncKind
  origin : Nat
  frame : Nat
  payload : Nat
  deriving DecidableEq, Repr

/-- What a C0 message carries (R357, R474): a peer mailbox message, a Mirror record (R429) or a scale observation (R320). -/
inductive C0Kind where
  | request | response | mirror | observation
  deriving DecidableEq, Repr

/-- A C0 message of at most 384 bytes (R357). -/
structure C0Message where
  source : Rank
  dest : Rank
  kind : C0Kind
  bytes : List Byte
  deriving DecidableEq, Repr

/-- How the decoder of R342 found a codeword: no error, so many symbol errors corrected, or uncorrectable with the lanes
whose symbols the errors include. -/
inductive FlitOutcome where
  | clean
  | corrected (symbols : Nat)
  | uncorrectable (lanes : BitVec 4)
  deriving DecidableEq, Repr

/-- The words of a control flit that its receiver acts on (R347, R359). -/
structure ControlWords where
  ackHigh : Nat
  ackPrev : Bool
  ackValid : Bool
  /-- flit times that arrived uncorrectable, with their previous-frame bit -/
  nacks : List (Nat × Bool)
  /-- the sender's view of the eight members: 0 down, 1 half, 2 full, 3 training -/
  view : List Nat
  /-- retry list: member, flit time and the abandoned bit -/
  retries : List (Nat × Nat × Bool)
  events : List SyncEvent
  messages : List C0Message
  /-- at discovery, the far end's serial number and link number (R350) -/
  discovery : Option (DWord × LinkId)
  deriving DecidableEq, Repr

/-- What the boards and sensors deliver at a tick: junction readings in 1/64 °C by tile (R107), energies of the counter frame
in nJ by counter (R461, R462), activity of the events that count cycles or bytes by 256·block + code (R509), dies whose
rail is not within 20 mV of its request (R526), and whether NOR writes fail now (R413). -/
structure TickInputs where
  temps : List (TileId × Int)
  energy : List (Nat × Nat)
  activity : List (Nat × Nat)
  railOff : List DieId
  norFails : Bool
  deriving DecidableEq, Repr

/-- A residue mismatch that a checker found (R72, R148 kind 3): the stage and the two residues. -/
structure ResidueErr where
  stage : Nat
  predicted : Nat
  observed : Nat
  deriving DecidableEq, Repr

/-- One element of a row as a row read found it: row, column, element (0 positive, 1 negative) and level. -/
structure CellRead where
  row : Fin 512
  col : Fin 520
  element : Fin 2
  level : Fin 4
  deriving DecidableEq, Repr

/-- A conductance that a verify or a row read measured, in nS (R157, R158). -/
structure CellMeasure where
  col : Fin 520
  element : Fin 2
  nanoSiemens : Nat
  deriving DecidableEq, Repr

/-- What enters a tile's event queue besides suspects (R128). -/
inductive QueueEvent where
  /-- engine code of R148 kind 3 -/
  | residue (engine : Nat) (op : Nat) (err : ResidueErr)
  /-- origin and class of R148 kind 4, the address and the link or stack number -/
  | poison (origin : Nat) (atRest : Bool) (op : Nat) (addr : Nat) (number : Nat)
  | deadline (op : Nat)
  deriving DecidableEq, Repr

/-- The rail groups (R527). -/
inductive RailGroup where
  | io | sd | hbm | core0 | core1 | core2 | core3 | prog
  deriving DecidableEq, Repr

/-- A PCIe error of R534. -/
inductive PcieErr where
  | correctable
  | uncorrectable (aer : Word) (fatal : Bool)
  | narrow (width : Nat) (speed : Nat)
  deriving DecidableEq, Repr

/-- How a base die finds the errors of one codeword read: position 0 to 40 and the nonzero error symbol there (R279, R280). -/
abbrev SymbolErrors := List (Fin 41 × Half)

end Sys2Proof
end

