-- ==== Sys2Proof/PlanTypes.lean ====
section
/-!
DEFINITION. Sys2Proof/PlanTypes.lean: the plan image, as the words of its tables (R235 to R243, R292, R303, R315, R352,
R435, R547). The spec names the tables but not where each lies inside its section, so an image is the lists of their raw
entries; every field of an entry is read by the layouts of Sys2Proof/Machine/PlanFmt.lean (log 3).
-/
namespace Sys2Proof

/-- A 64-byte operation descriptor, words D0 to D7 (R243). -/
structure Desc where
  d0 : DWord
  d1 : DWord
  d2 : DWord
  d3 : DWord
  d4 : DWord
  d5 : DWord
  d6 : DWord
  d7 : DWord
  deriving DecidableEq, Repr

/-- A frame template of a rank block: its stride table and its descriptors (R242). -/
structure Template where
  strides : List Word
  descs : List Desc
  deriving DecidableEq, Repr

/-- A rank block (R238, R242, R315, R547). -/
structure RankBlock where
  templates : List Template
  numerics : List (BitVec 128)
  weightMap : List (BitVec 256)
  /-- FP32 column scales of the weight map, after its entries -/
  colScales : List Word
  /-- base of the programmed-weight image by tile (R99) -/
  imageBase : List (Nat × Nat)
  /-- link slot lists by template, entries of R352 in order of their group's stream -/
  slots : List (List (BitVec 256))
  deriving DecidableEq, Repr

/-- An update program (R294, R298): its six constants and the instructions of its passes. -/
structure UpdProgram where
  consts : List Word
  prologue1 : List Word
  body1 : List Word
  prologue2 : List Word
  body2 : List Word
  deriving DecidableEq, Repr

/-- The placement of one step's update (R291). -/
structure UpdPlacement where
  first : Word
  last : Word
  /-- committed reduction slots that complete each stack's gradient buffer -/
  slots : List Word
  deriving DecidableEq, Repr

/-- The update section (R291). -/
structure UpdSection where
  tBase : Word
  groups : List (BitVec 512)
  programs : List UpdProgram
  /-- curves of 64 points (R303) -/
  curves : List (List DWord)
  placements : List UpdPlacement
  /-- HBM allowance in bytes of each stack, by update frame's plan position -/
  allowances : List (Nat × List Word)
  deriving DecidableEq, Repr

/-- A plan image (R234 to R236). -/
structure PlanImage where
  /-- words 0x000 to 0x038 of the header (R235) -/
  header : List DWord
  directory : List (BitVec 128)
  ranks : List (BitVec 256)
  regions : List (BitVec 128)
  settings : List (Word × Word)
  steps : List (BitVec 128)
  blockHeader : BitVec 128
  blockIndex : List (BitVec 128)
  blocks : List RankBlock
  update : UpdSection
  ckptHeader : BitVec 512
  ckptEntries : List (BitVec 128)
  sequence : List (BitVec 128)
  deriving DecidableEq, Repr

/-- An image with nothing in it. -/
def PlanImage.empty : PlanImage :=
  { header := [], directory := [], ranks := [], regions := [], settings := [], steps := [], blockHeader := 0,
    blockIndex := [], blocks := [],
    update := { tBase := 0, groups := [], programs := [], curves := [], placements := [], allowances := [] },
    ckptHeader := 0, ckptEntries := [], sequence := [] }

end Sys2Proof
end

