-- ==== Sys2Proof/Syntax.lean ====
section
/-!
DEFINITION. Sys2Proof/Syntax.lean: the commands of the block, one constructor for each row of the opcode table, in the
table's order. The table gives no operand bits; the operands are what the rule of each row names (log 3), and what the
outside world delivers with the event: measured values, error patterns, received bytes, the cycle of the counter frame.
-/
namespace Sys2Proof

/-- A command of the ZK4. `r` is the request a mailbox command answers, `cyc` the cycle of the counter frame (R441), `op` a
package index of the running plan frame (R242). -/
inductive Instr where
  /-- FRAME_TICK (R30). -/
  | frameTick (inputs : TickInputs)
  /-- TICK_LOSS (R367). -/
  | tickLoss (cyc : Nat)
  /-- COMMIT_POINT (R32). -/
  | commitPoint
  /-- LEDGER_RECORD_WRITE (R144). -/
  | ledgerRecordWrite (readBackOk : Bool) (cyc : Nat)
  /-- OPERATION_ISSUE (R251). -/
  | operationIssue (op : Fin 1048576) (cyc : Nat)
  /-- MVM (R80). -/
  | mvm (op : Fin 1048576) (vec : Fin 1562) (cyc : Nat)
  /-- MVM_RESULT (R87). -/
  | mvmResult (tile : TileId) (arr : ArrIdx) (slots : List (Fin 1562)) (cyc : Nat)
  /-- SPLIT_RERUN (R95). -/
  | splitRerun (tile : TileId) (arr : ArrIdx) (cyc : Nat)
  /-- OUTPUT_CONVERSION (R125). -/
  | outputConversion (tile : TileId) (group : Half) (vec : Fin 1562)
  /-- PRISM_ARBITRATION (R129). -/
  | prismArbitration (tile : TileId) (res : Option ResidueErr) (cyc : Nat)
  /-- EVENT_QUEUE_ENTRY (R128). -/
  | eventQueueEntry (tile : TileId) (e : QueueEvent) (cyc : Nat)
  /-- CHECK_DEADLINE_EXPIRY (R128). -/
  | checkDeadlineExpiry (tile : TileId) (op : Fin 1048576) (cyc : Nat)
  /-- VECTOR_READBACK_SLOT (R132). -/
  | vectorReadbackSlot (tile : TileId) (arr : ArrIdx) (reads : List CellRead)
  /-- MATRIX (R190). -/
  | matrix (op : Fin 1048576) (res : Option ResidueErr) (cyc : Nat)
  /-- VECTOR (R199). -/
  | vector (op : Fin 1048576) (res : Option ResidueErr) (cyc : Nat)
  /-- DMA (R247). -/
  | dma (op : Fin 1048576) (cyc : Nat)
  /-- PROGRAM (R161). -/
  | program (op : Fin 1048576) (cyc : Nat)
  /-- ATTEND (R226). -/
  | attend (op : Fin 1048576) (res : Option ResidueErr) (cyc : Nat)
  /-- SAMPLE (R232). -/
  | sample (op : Fin 1048576) (res : Option ResidueErr) (cyc : Nat)
  /-- QUANTISE (R57). -/
  | quantise (op : Fin 1048576) (res : Option ResidueErr) (cyc : Nat)
  /-- COMPRESS (R213). -/
  | compress (op : Fin 1048576) (res : Option ResidueErr) (cyc : Nat)
  /-- JOIN (R243). -/
  | join (op : Fin 1048576) (cyc : Nat)
  /-- PROGRAMMING_SLOT (R158). -/
  | programmingSlot (tile : TileId) (arr : ArrIdx) (meas : List CellMeasure) (cyc : Nat)
  /-- PROGRAMMING_SPAN_START (R169). -/
  | programmingSpanStart
  /-- CALIBRATION (R185). -/
  | calibration (tile : TileId) (arr : ArrIdx)
  /-- TEST_SLOT_RUN (R261). -/
  | testSlotRun (arrayPass : Bool) (enginePass : Bool) (reads : List CellRead)
  /-- UPDATE_CHUNK_COMPLETE (R309). -/
  | updateChunkComplete (st : StackId) (en : Fin 8) (cyc : Nat)
  /-- UPDATE_SCAN (R299). -/
  | updateScan
  /-- UPDATE_REDO (R313). -/
  | updateRedo
  /-- NOP (R296). -/
  | nop (st : StackId) (en : Fin 8)
  /-- LDS (R296). -/
  | lds (st : StackId) (en : Fin 8) (d : Fin 32) (stream : Fin 8) (cyc : Nat)
  /-- STS (R296). -/
  | sts (st : StackId) (en : Fin 8) (stream : Fin 8) (a : Fin 32)
  /-- MOV (R296). -/
  | mov (st : StackId) (en : Fin 8) (d : Fin 32) (a : Fin 32)
  /-- ADD (R296). -/
  | add (st : StackId) (en : Fin 8) (d : Fin 32) (a : Fin 32) (b : Fin 32) (res : Option ResidueErr)
  /-- SUB (R296). -/
  | sub (st : StackId) (en : Fin 8) (d : Fin 32) (a : Fin 32) (b : Fin 32) (res : Option ResidueErr)
  /-- MUL (R296). -/
  | mul (st : StackId) (en : Fin 8) (d : Fin 32) (a : Fin 32) (b : Fin 32) (res : Option ResidueErr)
  /-- FMA (R296). -/
  | fma (st : StackId) (en : Fin 8) (d : Fin 32) (a : Fin 32) (b : Fin 32) (c : Fin 32) (res : Option ResidueErr)
  /-- DIV (R296). -/
  | div (st : StackId) (en : Fin 8) (d : Fin 32) (a : Fin 32) (b : Fin 32) (res : Option ResidueErr)
  /-- SQRT (R296). -/
  | sqrt (st : StackId) (en : Fin 8) (d : Fin 32) (a : Fin 32)
  /-- RSQRT (R296). -/
  | rsqrt (st : StackId) (en : Fin 8) (d : Fin 32) (a : Fin 32)
  /-- EXP (R296). -/
  | exp (st : StackId) (en : Fin 8) (d : Fin 32) (a : Fin 32)
  /-- LN (R296). -/
  | ln (st : StackId) (en : Fin 8) (d : Fin 32) (a : Fin 32)
  /-- MAX (R296). -/
  | max (st : StackId) (en : Fin 8) (d : Fin 32) (a : Fin 32) (b : Fin 32)
  /-- MIN (R296). -/
  | min (st : StackId) (en : Fin 8) (d : Fin 32) (a : Fin 32) (b : Fin 32)
  /-- ABS (R296). -/
  | abs (st : StackId) (en : Fin 8) (d : Fin 32) (a : Fin 32)
  /-- SEL (R296). -/
  | sel (st : StackId) (en : Fin 8) (d : Fin 32) (a : Fin 32) (b : Fin 32) (c : Fin 32)
  /-- CMPLT (R296). -/
  | cmplt (st : StackId) (en : Fin 8) (d : Fin 32) (a : Fin 32) (b : Fin 32)
  /-- RED (R298). -/
  | red (st : StackId) (en : Fin 8) (slot : Fin 4) (a : Fin 32)
  /-- HBM_READ (R280). -/
  | hbmRead (st : StackId) (off : BitVec 36) (errs : SymbolErrors) (cyc : Nat)
  /-- HBM_WRITE (R283). -/
  | hbmWrite (st : StackId) (off : BitVec 36) (data : List Byte) (poisoned : Bool) (cyc : Nat)
  /-- SCRUB_READ (R282). -/
  | scrubRead (st : StackId) (errs : List (Fin 64 × SymbolErrors))
  /-- ITEM_ENQUEUE (R392). -/
  | itemEnqueue (lake : LakeId) (cls : Fin 5) (kind : Fin 64) (port : Fin 64) (words : List DWord) (poison : List Nat) (rest : Bool)
  /-- ITEM_DEQUEUE (R395). -/
  | itemDequeue (lake : LakeId) (cls : Fin 5) (flips : List (Nat × DWord)) (tagFlips : Fin 3) (compute : Bool) (cyc : Nat)
  /-- CREDIT_BORROW (R394). -/
  | creditBorrow (lake : LakeId) (cls : Fin 5) (port : Fin 64)
  /-- FLIT_RECEIVE (R348). -/
  | flitReceive (link : LinkId) (time : Fin 15620) (retry : Bool) (poison : BitVec 10) (payload : List Byte) (outcome : FlitOutcome) (cyc : Nat)
  /-- CONTROL_FLIT (R347). -/
  | controlFlit (link : LinkId) (time : Fin 15620) (w : ControlWords) (outcome : FlitOutcome) (cyc : Nat)
  /-- SLOT_ENTRY_TRANSMIT (R353). -/
  | slotEntryTransmit (dir : Fin 6) (time : Fin 15620)
  /-- RETRY_TIMEOUT (R358). -/
  | retryTimeout (dir : Fin 6) (member : Fin 8) (time : Fin 15620) (previous : Bool)
  /-- LANE_FAILURE (R362). -/
  | laneFailure (link : LinkId) (lane : Fin 4) (cyc : Nat)
  /-- LANE_DEGRADE_RETRAIN (R363). -/
  | laneDegradeRetrain (link : LinkId) (failed : BitVec 4)
  /-- ECHO_MEASUREMENT (R366). -/
  | echoMeasurement (link : LinkId) (token : Half)
  /-- EYE_MEASUREMENT (R382). -/
  | eyeMeasurement (link : LinkId) (lane : Fin 4) (height : Half) (width : Half) (ser : Word) (admission : Bool)
  /-- C0_MESSAGE (R357). -/
  | c0Message (link : LinkId) (m : C0Message)
  /-- TICK (R366). -/
  | syncTick (link : LinkId) (frame : BitVec 48) (departure : Fin 8388608) (aligned : Bool) (arrival : Int)
  /-- MEMBER_ALIGNED (R374). -/
  | memberAligned (frame : BitVec 48)
  /-- ECHO_REQ (R370). -/
  | echoReq (link : LinkId) (token : Half) (turnaround : Word)
  /-- ECHO_REPLY (R370). -/
  | echoReply (link : LinkId) (token : Half) (turnaround : Word) (roundTrip : Word)
  /-- HOLD (R373). -/
  | hold (link : LinkId) (origin : Rank) (frame : BitVec 48) (cause : Fin 16) (cyc : Nat)
  /-- LATE (R373). -/
  | late (link : LinkId) (origin : Rank) (frame : BitVec 48) (unit : Byte) (cyc : Nat)
  /-- STRETCH (R267). -/
  | stretch (link : LinkId) (origin : Rank) (frame : BitVec 48) (pos : Word)
  /-- UPDATE_DONE (R311). -/
  | updateDone (link : LinkId) (origin : Rank) (frame : BitVec 48) (version : Word) (attempt : Byte) (skipped : Bool)
  /-- COMPLETE (R313). -/
  | complete (link : LinkId) (origin : Rank) (frame : BitVec 48) (attempt : Byte) (whole : Bool) (cyc : Nat)
  /-- PREPARED (R270). -/
  | prepared (link : LinkId) (origin : Rank) (planId : Word)
  /-- START (R270). -/
  | syncStart (link : LinkId) (origin : Rank) (frame : BitVec 48) (planId : Word)
  /-- ABORT (R270). -/
  | syncAbort (link : LinkId) (origin : Rank) (planId : Word) (reason : Byte)
  /-- EXPEL (R432). -/
  | expel (link : LinkId) (origin : Rank) (frame : BitVec 48) (rank : Rank) (cyc : Nat)
  /-- PLAN_START (R270). -/
  | planStart
  /-- PREPARATION_COMPLETE (R270). -/
  | preparationComplete
  /-- PLAN_LOAD_TIMEOUT (R270). -/
  | planLoadTimeout
  /-- SCALE_OBSERVATION (R320). -/
  | scaleObservation (rank : Rank) (planFrame : Word) (index : Half) (maxIn : Word) (maxAll : Word) (overflow : Bool) (quantised : Bool)
  /-- MIRROR_RECORD (R429). -/
  | mirrorRecord (record : BitVec 512)
  /-- MIRROR_TALLY (R430). -/
  | mirrorTally (cyc : Nat)
  /-- PREFETCH_COMPLETION (R220). -/
  | prefetchCompletion (block : Nat) (bytes : List Byte) (completed : Bool) (cyc : Nat)
  /-- PREFETCH_TIMEOUT (R220). -/
  | prefetchTimeout (block : Nat) (cyc : Nat)
  /-- OFFLOAD_WRITE (R217). -/
  | offloadWrite (op : Fin 1048576) (block : Nat) (cyc : Nat)
  /-- DROOP (R445). -/
  | droop (tile : TileId)
  /-- DROOP_HOLD_EXPIRY (R445). -/
  | droopHoldExpiry (tile : TileId)
  /-- DROOP_DECAY_STEP (R445). -/
  | droopDecayStep (tile : TileId)
  /-- PEAK_SAMPLE (R447). -/
  | peakSample (core0 : Nat) (core1 : Nat) (core2 : Nat) (core3 : Nat) (other : Nat)
  /-- AOM_SAMPLE (R493). -/
  | aomSample (inputs : List (Nat × Rat)) (cyc : Nat)
  /-- LD (R493). -/
  | ld (k : Fin 4096)
  /-- MEAN (R493). -/
  | mean (n : Fin 4096)
  /-- SCALE (R493). -/
  | scale
  /-- GT (R493). -/
  | gt (k : Fin 4096)
  /-- LT (R493). -/
  | lt (k : Fin 4096)
  /-- OUTSIDE (R493). -/
  | outside (k : Fin 4096)
  /-- RUN (R493). -/
  | run (n : Fin 4096)
  /-- AND (R493). -/
  | aomAnd
  /-- OR (R493). -/
  | aomOr
  /-- SAVE (R493). -/
  | save
  /-- AOM_THROTTLE_EXPIRY (R459). -/
  | aomThrottleExpiry (slot : Fin 33)
  /-- POWER_DOWN_SEQUENCE (R528). -/
  | powerDownSequence
  /-- EOMET_HEARTBEAT (R466). -/
  | eometHeartbeat
  /-- EOMET_RESTART (R467). -/
  | eometRestart
  /-- DOORBELL (R469). -/
  | doorbell (slot : Fin 16)
  /-- REGISTER_WRITE (R39). -/
  | registerWrite (off : BitVec 24) (data : List Byte)
  /-- MGMT_DATAGRAM (R472). -/
  | mgmtDatagram (addr : Word) (udp : Half) (bytes : List Byte)
  /-- REASSEMBLY_TIMEOUT (R472). -/
  | reassemblyTimeout (addr : Word) (udp : Half) (seq : Word)
  /-- PEER_REQUEST (R474). -/
  | peerRequest (rank : Rank) (bytes : List Byte)
  /-- EVENT_RAISE (R407). -/
  | eventRaise (code : Half) (unit : UnitRef) (level : Fin 8) (ps : List DWord) (charge : Option (Fin 8 × Bool × Bool))
  /-- EVENT_RESEND (R407). -/
  | eventResend
  /-- EVENT_SUPPRESSION_END (R408). -/
  | eventSuppressionEnd
  /-- HEALTH_FOLD (R413). -/
  | healthFold (norFails : Bool)
  /-- TXN_TIMEOUT (R490). -/
  | txnTimeout (id : Word)
  /-- ATTEST_TOKEN_REFILL (R500). -/
  | attestTokenRefill
  /-- SNAPSHOT_COMPLETE (R506). -/
  | snapshotComplete
  /-- DUMP_RECORD_WRITE (R515). -/
  | dumpRecordWrite (delivered : Bool)
  /-- IDENTITY (R481). -/
  | identity (r : Req)
  /-- RUN_STATUS (R480). -/
  | runStatus (r : Req)
  /-- STOP_AT_POSITION (R482). -/
  | stopAtPosition (r : Req) (pos : Word)
  /-- STOP_NOW (R482). -/
  | stopNow (r : Req) (cyc : Nat)
  /-- RESET_WARM (R499). -/
  | resetWarm (r : Req)
  /-- RESET_POWER_CYCLE (R499). -/
  | resetPowerCycle (r : Req)
  /-- EVENT_READ (R480). -/
  | eventRead (r : Req) (first : Word) (count : Half)
  /-- EVENT_ACK (R473). -/
  | eventAck (r : Req) (seq : Word)
  /-- SETTING_GET (R480). -/
  | settingGet (r : Req) (ids : List Word)
  /-- SETTING_SET (R487). -/
  | settingSet (r : Req) (id : Word) (value : Word)
  /-- TXN_BEGIN (R488). -/
  | txnBegin (r : Req)
  /-- TXN_STAGE (R488). -/
  | txnStage (r : Req) (txn : Word) (pairs : List (Word × Word))
  /-- TXN_COMMIT (R489). -/
  | txnCommit (r : Req) (txn : Word) (target : BitVec 48)
  /-- TXN_ROLLBACK (R490). -/
  | txnRollback (r : Req) (txn : Word)
  /-- TXN_STATUS (R480). -/
  | txnStatus (r : Req) (txn : Word)
  /-- ARRAY_STATUS (R480). -/
  | arrayStatus (r : Req) (tile : TileId) (mask : Half)
  /-- LEDGER_HEAD (R480). -/
  | ledgerHead (r : Req)
  /-- LEDGER_EXPORT (R480). -/
  | ledgerExport (r : Req) (frame : BitVec 48) (count : Word) (host : DWord)
  /-- LEDGER_EXPORT_DONE (R480). -/
  | ledgerExportDone (r : Req)
  /-- OFFLOAD_REGISTER (R215). -/
  | offloadRegister (r : Req) (host : DWord) (length : DWord)
  /-- OFFLOAD_RELEASE (R480). -/
  | offloadRelease (r : Req)
  /-- HOST_TRANSFER_TO_HOST (R42). -/
  | hostTransferToHost (r : Req) (device : DWord) (host : DWord) (length : DWord)
  /-- HOST_TRANSFER_TO_DEVICE (R42). -/
  | hostTransferToDevice (r : Req) (device : DWord) (host : DWord) (length : DWord)
  /-- HOST_TRANSFER_DONE (R480). -/
  | hostTransferDone (r : Req) (poisoned : Bool)
  /-- MEMORY_STATUS (R480). -/
  | memoryStatus (r : Req) (st : Byte)
  /-- NUMERICS_STATE (R480). -/
  | numericsState (r : Req) (part : Byte) (first : Word) (count : Half)
  /-- CONTEXT_LOAD (R228). -/
  | contextLoad (r : Req) (context : Word) (host : DWord) (promptLen : Word) (word8 : DWord) (word18 : DWord)
  /-- CONTEXT_LOAD_DONE (R228). -/
  | contextLoadDone (r : Req)
  /-- CONTEXT_READ (R480). -/
  | contextRead (r : Req) (first : Word) (count : Half)
  /-- CONTEXT_WRITE (R227). -/
  | contextWrite (r : Req) (context : Word) (word8 : DWord) (word18 : DWord)
  /-- CONTEXT_STOP (R230). -/
  | contextStop (r : Req) (context : Word)
  /-- CONTEXT_RELEASE (R225). -/
  | contextRelease (r : Req) (context : Word)
  /-- CONTEXT_TOKENS (R229). -/
  | contextTokens (r : Req) (context : Word) (first : Word) (count : Word) (host : DWord)
  /-- CONTEXT_TOKENS_DONE (R229). -/
  | contextTokensDone (r : Req)
  /-- LINK_STATUS (R380). -/
  | linkStatus (r : Req) (mask : DWord)
  /-- QUEUE_STATUS (R406). -/
  | queueStatus (r : Req) (lake : Half)
  /-- POWER_STATUS (R461). -/
  | powerStatus (r : Req) (kind : Byte) (index : Half)
  /-- AOM_FILTER_READ (R492). -/
  | aomFilterRead (r : Req) (slot : Byte)
  /-- AOM_FILTER_LOAD (R492). -/
  | aomFilterLoad (r : Req) (filter : BitVec 1024)
  /-- AOM_FILTER_REMOVE (R492). -/
  | aomFilterRemove (r : Req) (slot : Byte)
  /-- FW_STAGE (R498). -/
  | fwStage (r : Req) (host : DWord) (length : Word)
  /-- FW_STAGE_DONE (R498). -/
  | fwStageDone (r : Req)
  /-- FW_ACTIVATE (R498). -/
  | fwActivate (r : Req) (slot : Byte)
  /-- ATTEST (R500). -/
  | attest (r : Req) (nonce : BitVec 256)
  /-- IDENTITY_CERT (R501). -/
  | identityCert (r : Req)
  /-- OWNER_KEY_SET (R502). -/
  | ownerKeySet (r : Req) (record : List Byte)
  /-- MGMT_KEY_SET (R503). -/
  | mgmtKeySet (r : Req) (key : BitVec 256)
  /-- PLAN_LOAD_NOW (R269). -/
  | planLoadNow (r : Req) (host : DWord) (length : DWord) (image : PlanImage)
  /-- PLAN_LOAD_AT_BOUNDARY (R273). -/
  | planLoadAtBoundary (r : Req) (host : DWord) (length : DWord) (image : PlanImage)
  /-- PLAN_DISCARD (R480). -/
  | planDiscard (r : Req)
  /-- PLAN_STATUS (R480). -/
  | planStatus (r : Req)
  /-- HEALTH_READ (R412). -/
  | healthRead (r : Req) (kind : Byte) (first : Half) (count : Half)
  /-- HEALTH_LOG (R413). -/
  | healthLog (r : Req) (first : Word) (count : Word) (host : DWord)
  /-- HEALTH_LOG_DONE (R413). -/
  | healthLogDone (r : Req)
  /-- SELFTEST (R424). -/
  | selftest (r : Req)
  /-- SELFTEST_TILE (R425). -/
  | selftestTile (nominalFails : List UnitRef) (marginFails : List UnitRef)
  /-- SELFTEST_DONE (R426). -/
  | selftestDone
  /-- COUNTER_CONFIG (R508). -/
  | counterConfig (r : Req) (kind : Byte) (first : Half) (count : Half) (words : List Half)
  /-- COUNTER_READ (R519). -/
  | counterRead (r : Req) (kind : Byte) (first : Half) (count : Half)
  /-- COUNTER_CLEAR (R512). -/
  | counterClear (r : Req) (kind : Byte) (first : Half) (count : Half) (mask : Byte)
  /-- DUMP_REGISTER (R515). -/
  | dumpRegister (r : Req) (host : DWord) (length : DWord)
  /-- DUMP_RELEASE (R519). -/
  | dumpRelease (r : Req)
  /-- BANDWIDTH_READ (R513). -/
  | bandwidthRead (r : Req) (first : Byte) (count : Byte)
  /-- DUMP_STATUS (R519). -/
  | dumpStatus (r : Req)
  /-- FUNCTION_LEVEL_RESET (R470). -/
  | functionLevelReset (cyc : Nat)
  /-- PCIE_LINK_DOWN (R222). -/
  | pcieLinkDown (cyc : Nat)
  /-- D3HOT_ENTRY (R535). -/
  | d3hotEntry (cyc : Nat)
  /-- PCIE_ERROR (R534). -/
  | pcieError (e : PcieErr) (cyc : Nat)
  /-- POWER_ON (R499). -/
  | powerOn
  /-- FIRMWARE_VERIFY (R497). -/
  | firmwareVerify
  /-- EOMET_START (R499). -/
  | eometStart
  /-- RAIL_GROUP_ENABLE (R527). -/
  | railGroupEnable (g : RailGroup)
  /-- POWER_GOOD_ASSERT (R527). -/
  | powerGoodAssert (g : RailGroup)
  /-- POWER_GOOD_TIMEOUT (R529). -/
  | powerGoodTimeout (g : RailGroup)
  /-- POWER_GOOD_LOSS (R529). -/
  | powerGoodLoss (g : RailGroup) (cyc : Nat)
  /-- PG_AON_LOSS (R529). -/
  | pgAonLoss
  /-- HBM_TRAINING (R499). -/
  | hbmTraining
  /-- LANE_TRAINING (R341). -/
  | laneTraining (down : List LinkId)
  /-- BOOT_COMPLETE (R499). -/
  | bootComplete
  /-- SYS_RST_N_LOW (R532). -/
  | sysRstNLow (cyc : Nat)
  /-- SYS_RST_N_RISE (R532). -/
  | sysRstNRise
  /-- PERST_N_LOW (R532). -/
  | perstNLow (cyc : Nat)
  /-- PERST_N_RISE (R532). -/
  | perstNRise
  /-- THERMAL_TRIP (R543). -/
  | thermalTrip (die : Fin 6) (cyc : Nat)
  /-- REFCLK_LOSS (R531). -/
  | refclkLoss (cyc : Nat)
  /-- LINKREF_LOSS (R531). -/
  | linkrefLoss
  /-- PAGE (R537). -/
  | page (p : Byte) (pecOk : Bool)
  /-- CLEAR_FAULTS (R538). -/
  | clearFaults (pecOk : Bool)
  /-- VOUT_MODE (R537). -/
  | voutMode
  /-- STATUS_WORD (R538). -/
  | statusWord
  /-- READ_VOUT (R537). -/
  | readVout
  /-- READ_IOUT (R537). -/
  | readIout
  /-- READ_POUT (R537). -/
  | readPout
  /-- READ_TEMPERATURE_1 (R537). -/
  | readTemperature1
  /-- READ_TEMPERATURE_2 (R537). -/
  | readTemperature2
  /-- PMBUS_REVISION (R537). -/
  | pmbusRevision
  /-- SMBUS_UNKNOWN_COMMAND (R537). -/
  | smbusUnknownCommand (code : Byte)
  /-- JTAG_TEST_INSTRUCTION (R540). -/
  | jtagTestInstruction
  /-- ARP_REQUEST (R471). -/
  | arpRequest (mac : BitVec 48) (ip : Word) (target : Word)
  /-- ICMP_ECHO_REQUEST (R471). -/
  | icmpEchoRequest (addr : Word) (payload : List Byte)
  /-- ALERT_RESPONSE_ADDRESS (R537). -/
  | alertResponseAddress
  deriving DecidableEq, Repr

end Sys2Proof
end

