-- ==== Sys2Proof/Decode.lean ====
section
/-!
DEFINITION. Sys2Proof/Decode.lean: the command that a table word spells. Commands reach the block as events of its ports,
pins and sequencers, and spec/opcode_table.json gives no row any bits, so no word spells a command (log 4).
-/
namespace Sys2Proof

/-- The command a word of `nbits` bits spells: none, for every word. -/
def decodeTableWord (_nbits _w : Nat) : Option Instr := none

end Sys2Proof
end

