-- ==== Sys2Proof/Config.lean ====
section
/-!
DEFINITION. Sys2Proof/Config.lean: what a part fixes, and the free values. An opaque constant has no body, so nothing can be
proved of its value: a statement holds for every value of it.
-/
namespace Sys2Proof.Config

/-- A free FP32 word: the value of the n-th draw (log 2). -/
opaque freeWord : Nat → Word
/-- A free byte of the n-th draw (log 2). -/
opaque freeByte : Nat → Byte
/-- Deviation in codes of one conversion: the n-th draw, the column, and the phase or pass (R104, R105; log 2). -/
opaque convNoise : Nat → Nat → Nat → Int
/-- The Reference weight of a master element under a column scale where one of them is not finite (R112; log 16). -/
opaque referenceWeight : Word → Word → Int
/-- Factory calibration entry of an array, set point and column (R183; log 8). -/
opaque factoryEntry : Nat → Nat → Nat → Word
/-- HSS verification of RFC 8554 with the parameters of R495: public key, message, signature. -/
opaque hssVerify : List Byte → List Byte → List Byte → Bool
/-- The device identity key's HSS signature with a leaf (R500). -/
opaque hssSign : Nat → List Byte → List Byte
/-- SHA-256 of Tolpavi's firmware key, as fused in the OTP (R495). -/
opaque firmwareKeyHash : List Byte
/-- The identity certificate stored at manufacture (R501). -/
opaque identityCert : List Byte
/-- The boot control word (R478, R496), whose layout no rule gives, at the n-th draw. -/
opaque bootControlWord : Nat → DWord

/-- Where the budget of a transition frame lies between its neighbours' (R448), in W of tiles and of the rest. -/
opaque transitionTile : Nat
opaque transitionOther : Nat

/-- The 8 check bits of a Lake tag: a SEC-DED code that R385 does not name (log 24). -/
opaque tagCheck : DWord → Byte

end Sys2Proof.Config
end

