-- ==== Sys2Proof/Machine/Digest.lean ====
section
/-!
DEFINITION. Sys2Proof/Machine/Digest.lean: the digests and checks over bytes: SHA-256 (R149, R231, R309, R478),
HMAC-SHA-256 (R471), the CRC-64 of off-load trailers (R216), the mixer of the stochastic bits (R305) and the main-memory code (R279).
-/
namespace Sys2Proof.Machine

/-- The round constants of SHA-256. -/
def shaK : List Nat :=
  [0x428a2f98, 0x71374491, 0xb5c0fbcf, 0xe9b5dba5, 0x3956c25b, 0x59f111f1, 0x923f82a4, 0xab1c5ed5,
   0xd807aa98, 0x12835b01, 0x243185be, 0x550c7dc3, 0x72be5d74, 0x80deb1fe, 0x9bdc06a7, 0xc19bf174] ++
  [0xe49b69c1, 0xefbe4786, 0x0fc19dc6, 0x240ca1cc, 0x2de92c6f, 0x4a7484aa, 0x5cb0a9dc, 0x76f988da,
   0x983e5152, 0xa831c66d, 0xb00327c8, 0xbf597fc7, 0xc6e00bf3, 0xd5a79147, 0x06ca6351, 0x14292967] ++
  [0x27b70a85, 0x2e1b2138, 0x4d2c6dfc, 0x53380d13, 0x650a7354, 0x766a0abb, 0x81c2c92e, 0x92722c85,
   0xa2bfe8a1, 0xa81a664b, 0xc24b8b70, 0xc76c51a3, 0xd192e819, 0xd6990624, 0xf40e3585, 0x106aa070] ++
  [0x19a4c116, 0x1e376c08, 0x2748774c, 0x34b0bcb5, 0x391c0cb3, 0x4ed8aa4a, 0x5b9cca4f, 0x682e6ff3,
   0x748f82ee, 0x78a5636f, 0x84c87814, 0x8cc70208, 0x90befffa, 0xa4506ceb, 0xbef9a3f7, 0xc67178f2]

/-- The eight chaining words of SHA-256. -/
structure ShaState where
  a : Word
  b : Word
  c : Word
  d : Word
  e : Word
  f : Word
  g : Word
  h : Word
deriving DecidableEq, Repr

/-- The initial chaining words. -/
def shaInit : ShaState :=
  { a := 0x6a09e667, b := 0xbb67ae85, c := 0x3c6ef372, d := 0xa54ff53a,
    e := 0x510e527f, f := 0x9b05688c, g := 0x1f83d9ab, h := 0x5be0cd19 }

/-- The message schedule of one block from its sixteen words, most recent word first. -/
def shaSchedule (w16 : List Word) : List Word :=
  ((List.range 48).foldl (fun (w : List Word) _ =>
    let g := fun k => w.getD k 0
    let s0 := (g 14).rotateRight 7 ^^^ (g 14).rotateRight 18 ^^^ (g 14) >>> 3
    let s1 := (g 1).rotateRight 17 ^^^ (g 1).rotateRight 19 ^^^ (g 1) >>> 10
    (g 15 + s0 + g 6 + s1) :: w) w16.reverse).reverse

/-- One round. -/
def shaRound (s : ShaState) (kw : Word) : ShaState :=
  let s1 := s.e.rotateRight 6 ^^^ s.e.rotateRight 11 ^^^ s.e.rotateRight 25
  let ch := (s.e &&& s.f) ^^^ (~~~s.e &&& s.g)
  let t1 := s.h + s1 + ch + kw
  let s0 := s.a.rotateRight 2 ^^^ s.a.rotateRight 13 ^^^ s.a.rotateRight 22
  let mj := (s.a &&& s.b) ^^^ (s.a &&& s.c) ^^^ (s.b &&& s.c)
  { a := t1 + (s0 + mj), b := s.a, c := s.b, d := s.c, e := s.d + t1, f := s.e, g := s.f, h := s.g }

/-- One block of sixteen words. -/
def shaBlock (s : ShaState) (w16 : List Word) : ShaState :=
  let r := (List.zipWith (fun (w : Word) k => w + BitVec.ofNat 32 k) (shaSchedule w16) shaK).foldl shaRound s
  { a := s.a + r.a, b := s.b + r.b, c := s.c + r.c, d := s.d + r.d,
    e := s.e + r.e, f := s.f + r.f, g := s.g + r.g, h := s.h + r.h }

/-- Big-endian 32-bit words of a byte list. -/
def beWords : List Byte → List Word
  | a :: b :: c :: d :: rest => BitVec.ofNat 32 (((a.toNat * 256 + b.toNat) * 256 + c.toNat) * 256 + d.toNat) :: beWords rest
  | _ => []

/-- Blocks of sixteen words. -/
def shaBlocks (fuel : Nat) (s : ShaState) (ws : List Word) : ShaState :=
  match fuel with
  | 0 => s
  | fuel + 1 => if ws.isEmpty then s else shaBlocks fuel (shaBlock s (ws.take 16)) (ws.drop 16)

/-- Big-endian bytes of a number. -/
def bytesBE (n v : Nat) : List Byte := (bytesLE n v).reverse

/-- SHA-256 of a byte string. -/
def sha256 (msg : List Byte) : List Byte :=
  let n := msg.length
  let padded := msg ++ [0x80] ++ List.replicate ((119 - n % 64) % 64) 0 ++ bytesBE 8 (8 * n)
  let ws := beWords padded
  let s := shaBlocks (ws.length / 16 + 1) shaInit ws
  [s.a, s.b, s.c, s.d, s.e, s.f, s.g, s.h].flatMap (fun w => bytesBE 4 w.toNat)

/-- HMAC-SHA-256, the auth field's function (R471). -/
def hmacSha256 (key msg : List Byte) : List Byte :=
  let k := if key.length > 64 then sha256 key else key
  let k := k ++ List.replicate (64 - k.length) 0
  sha256 (k.map (fun b => b ^^^ 0x5c) ++ sha256 (k.map (fun b => b ^^^ 0x36) ++ msg))

/-- The CRC-64 of R216: ECMA-182 polynomial, bit-reflected, initial value and final XOR of all ones. -/
def crc64 (msg : List Byte) : DWord :=
  let poly : DWord := (0x42F0E1EBA9EA3693 : DWord).reverse
  let step := fun (c : DWord) (b : Byte) =>
    (List.range 8).foldl (fun (c : DWord) _ => if c.getLsbD 0 then (c >>> 1) ^^^ poly else c >>> 1) (c ^^^ b.zeroExtend 64)
  ~~~(msg.foldl step (~~~0))

/-- The mixer of R305. -/
def mix64 (x : DWord) : DWord :=
  let k : DWord := 0xD6E8FEB86659FD93
  let x := (x ^^^ (x >>> 32)) * k
  let x := (x ^^^ (x >>> 32)) * k
  x ^^^ (x >>> 32)

/-- The 16 random bits of the stochastic store, keyed by seed, update count, group and element (R305). -/
def stochBits (seed : DWord) (count : Word) (group : Half) (element : DWord) : Nat :=
  let k := mix64 (mix64 (seed ^^^ 0x5A4B555200000000) ^^^ count.zeroExtend 64)
  let k := mix64 (k ^^^ (group.zeroExtend 64 <<< 48))
  let r := mix64 (k ^^^ (element >>> 2))
  (r.toNat / 2 ^ (16 * (element.toNat % 4))) % 65536

/-- Multiplication by x in GF(2^16) with the field polynomial of R279. -/
def gfTimesX (a : Half) : Half :=
  if a.getLsbD 15 then (a <<< 1) ^^^ 0x100B else a <<< 1

/-- Multiplication in GF(2^16) (R279). -/
def gfMul (a b : Half) : Half :=
  ((List.range 16).foldl (fun (acc : Half × Half) i =>
    (if b.getLsbD i then acc.1 ^^^ acc.2 else acc.1, gfTimesX acc.2)) (0, a)).1

/-- α to a power, α = x. -/
def gfAlpha (n : Nat) : Half := (List.range n).foldl (fun a _ => gfTimesX a) 1

/-- The generator polynomial of R279 without its leading 1, coefficient of x^0 first. -/
def rsGenerator : List Half :=
  let full := (List.range 9).foldl (fun (g : List Half) i =>
    let a := gfAlpha i
    List.zipWith (· ^^^ ·) (0 :: g) ((g.map (gfMul a)) ++ [0])) [1]
  full.take 9

/-- The nine check symbols p0 to p8 of 32 data symbols: the remainder of the data polynomial modulo the generator (R279). -/
def rsChecks (data : List Half) : List Half :=
  data.reverse.foldl (fun (rem : List Half) d =>
    let top := d ^^^ rem.getLastD 0
    List.zipWith (fun r g => r ^^^ gfMul top g) (0 :: rem.dropLast) rsGenerator) (List.replicate 9 0)

/-- The syndromes of a received codeword, data symbols then check symbols (R279): the codeword polynomial at α^0 to α^8. -/
def rsSyndromes (data checks : List Half) : List Half :=
  let coeffs := checks ++ data
  (List.range 9).map (fun j =>
    let a := gfAlpha j
    coeffs.reverse.foldl (fun acc c => gfMul acc a ^^^ c) 0)

end Sys2Proof.Machine
end

