-- ==== Sys2Proof/Machine/Float.lean ====
section
/-!
DEFINITION. Sys2Proof/Machine/Float.lean: the digital formats and their rounding (R45 to R56, R199).
A finite value is an exact rational; a format's bits come from it by one rounding.
-/
namespace Sys2Proof.Machine

/-- A floating-point value as the engines see it: negative zero is zero (R48), every NaN is one NaN (R47). -/
inductive FVal where
  | nan
  | inf (neg : Bool)
  | fin (x : Rat)
deriving DecidableEq, Repr

/-- The rounding modes that R49 defines on an exact real value. -/
inductive Rounding where
  | odd
  | nearestEven
deriving DecidableEq, Repr

/-- A binary format: significand bits with the hidden bit, and the exponent of the smallest subnormal (R45). -/
structure Format where
  sig : Nat
  lowExp : Int
deriving DecidableEq, Repr

/-- FP32 (R45). -/
def fp32 : Format := { sig := 24, lowExp := -149 }
/-- BF16, the upper half of FP32 (R45). -/
def bf16 : Format := { sig := 8, lowExp := -133 }

/-- 2 to an integer power. -/
def pow2 (e : Int) : Rat :=
  if 0 ≤ e then mkRat ((2 ^ e.toNat : Nat) : Int) 1 else mkRat 1 (2 ^ (-e).toNat)

/-- The floor of the base-2 logarithm of a positive rational. -/
def floorLog2 (x : Rat) : Int :=
  let n := x.num.natAbs
  let g : Int := (Nat.log2 n : Int) - (Nat.log2 x.den : Int)
  if pow2 g ≤ x then (if pow2 (g + 1) ≤ x then g + 1 else g) else g - 1

/-- Rounding to the nearest integer, ties to even: the rne of R86, R184 and R112. -/
def rneInt (x : Rat) : Int :=
  let q := x.floor
  let r := x - (q : Rat)
  if r < mkRat 1 2 then q
  else if mkRat 1 2 < r then q + 1
  else if q % 2 = 0 then q else q + 1

/-- Truncation toward zero. -/
def truncInt (x : Rat) : Int :=
  if 0 ≤ x then x.floor else -((-x).floor)

/-- The least natural number whose square is at least a nonnegative rational: the tolerance rule of R119 and R121. -/
def ceilSqrt (x : Rat) : Nat :=
  let n := x.ceil.toNat
  let q := Nat.sqrt n
  if q * q = n then q else q + 1

/-- A nonnegative real given by its floor at every binary scale: `floorAt e` is the floor of v ÷ 2^e with
whether the division is exact. The primitives of R199 reach the rounding through it. -/
structure Real2 where
  zero : Bool
  log : Int
  floorAt : Int → Nat × Bool

/-- A nonnegative rational as such a real. -/
def Real2.ofRat (x : Rat) : Real2 :=
  { zero := x == 0, log := floorLog2 x,
    floorAt := fun e =>
      let y := x / pow2 e
      (y.floor.toNat, y == ((y.floor.toNat : Int) : Rat)) }

/-- The magnitude bits of a format for a nonnegative real, one rounding; an overflow gives infinity's pattern (R49, R50). -/
def roundMag (fmt : Format) (mode : Rounding) (v : Real2) (sticky : Bool) : Nat :=
  if v.zero then (if sticky then (match mode with | .odd => 1 | .nearestEven => 0) else 0) else
  let e := max (v.log - ((fmt.sig : Int) - 1)) fmt.lowExp
  let q : Nat :=
    match mode with
    | .odd =>
      let (f, exact) := v.floorAt e
      if exact && !sticky then f else (if f % 2 = 0 then f + 1 else f)
    | .nearestEven =>
      let (f, exact) := v.floorAt (e - 1)
      let up := f % 2 = 1 && (!exact || sticky || (f / 2) % 2 = 1)
      f / 2 + (if up then 1 else 0)
  let half := 2 ^ (fmt.sig - 1)
  let bits := if q < half then q else (e - fmt.lowExp + 1).toNat * half + (q - half)
  min bits (255 * half)

/-- The bits of a format for a value, with the sign rule of R48 and the canonical NaN of R47. -/
def encodeWith (fmt : Format) (mode : Rounding) (sticky : Bool) (v : FVal) : Nat :=
  let half := 2 ^ (fmt.sig - 1)
  let signBit := 256 * half
  match v with
  | .nan => 255 * half + half / 2
  | .inf neg => 255 * half + (if neg then signBit else 0)
  | .fin x =>
    let m := roundMag fmt mode (Real2.ofRat (if x < 0 then -x else x)) sticky
    if m = 0 then 0 else m + (if x < 0 then signBit else 0)

/-- FP32 bits of a value. -/
def toF32 (mode : Rounding) (v : FVal) : Word := BitVec.ofNat 32 (encodeWith fp32 mode false v)
/-- BF16 bits of a value. -/
def toBf16 (mode : Rounding) (v : FVal) : Half := BitVec.ofNat 16 (encodeWith bf16 mode false v)

/-- The value of a format's bits; a negative zero reads as zero, every NaN as one (R45 to R48). -/
def decodeFloat (fmt : Format) (bits : Nat) : FVal :=
  let half := 2 ^ (fmt.sig - 1)
  let e := (bits / half) % 256
  let f := bits % half
  let neg := (bits / (256 * half)) % 2 = 1
  if e = 255 then (if f = 0 then .inf neg else .nan)
  else
    let m : Rat := if e = 0 then mkRat (f : Int) 1 * pow2 fmt.lowExp
      else mkRat ((f + half : Nat) : Int) 1 * pow2 (fmt.lowExp + (e : Int) - 1)
    .fin (if neg then -m else m)

/-- The value of FP32 bits. -/
def ofF32 (b : Word) : FVal := decodeFloat fp32 b.toNat
/-- The value of BF16 bits. -/
def ofBf16 (b : Half) : FVal := decodeFloat bf16 b.toNat

/-- An intermediate value of an operation: FP32 by round to odd (R51). -/
def rto (v : FVal) : FVal := ofF32 (toF32 .odd v)
/-- A value after an intermediate conversion to BF16 (R51, R52). -/
def rtoBf16 (v : FVal) : FVal := ofBf16 (toBf16 .odd v)

/-- Zero. -/
def FVal.zero : FVal := .fin 0
/-- One. -/
def FVal.one : FVal := .fin 1
/-- Whether a value is zero. -/
def FVal.isZero : FVal → Bool
  | .fin x => x == 0
  | _ => false
/-- Whether a value is NaN. -/
def FVal.isNan : FVal → Bool
  | .nan => true
  | _ => false
/-- Whether a value is finite. -/
def FVal.isFinite : FVal → Bool
  | .fin _ => true
  | _ => false
/-- Whether a value is negative. -/
def FVal.isNeg : FVal → Bool
  | .fin x => decide (x < 0)
  | .inf n => n
  | .nan => false
/-- A finite value's rational; 0 for the others. -/
def FVal.rat : FVal → Rat
  | .fin x => x
  | _ => 0

/-- Exact negation. -/
def fNeg : FVal → FVal
  | .nan => .nan
  | .inf n => .inf (!n)
  | .fin x => .fin (-x)

/-- Exact sum (R54). -/
def fAdd : FVal → FVal → FVal
  | .nan, _ => .nan
  | _, .nan => .nan
  | .inf a, .inf b => if a = b then .inf a else .nan
  | .inf a, .fin _ => .inf a
  | .fin _, .inf b => .inf b
  | .fin x, .fin y => .fin (x + y)

/-- Exact difference (R54). -/
def fSub (a b : FVal) : FVal := fAdd a (fNeg b)

/-- Exact product (R54). -/
def fMul : FVal → FVal → FVal
  | .nan, _ => .nan
  | _, .nan => .nan
  | .inf a, .inf b => .inf (a != b)
  | .inf a, .fin y => if y = 0 then .nan else .inf (a != decide (y < 0))
  | .fin x, .inf b => if x = 0 then .nan else .inf (b != decide (x < 0))
  | .fin x, .fin y => .fin (x * y)

/-- Exact quotient with the special cases of R199. -/
def fDiv : FVal → FVal → FVal
  | .nan, _ => .nan
  | _, .nan => .nan
  | .inf _, .inf _ => .nan
  | .inf a, .fin y => .inf (a != decide (y < 0))
  | .fin _, .inf _ => .fin 0
  | .fin x, .fin y =>
    if y = 0 then (if x = 0 then .nan else .inf (decide (x < 0))) else .fin (x / y)

/-- The order of two values that are not NaN. -/
def fLt : FVal → FVal → Bool
  | .nan, _ => false
  | _, .nan => false
  | .inf a, .inf b => a && !b
  | .inf a, .fin _ => a
  | .fin _, .inf b => !b
  | .fin x, .fin y => decide (x < y)

/-- The larger operand (R199). -/
def fMax (a b : FVal) : FVal := if a.isNan || b.isNan then .nan else if fLt a b then b else a
/-- The smaller operand (R199). -/
def fMin (a b : FVal) : FVal := if a.isNan || b.isNan then .nan else if fLt b a then b else a
/-- The absolute value. -/
def fAbs : FVal → FVal
  | .nan => .nan
  | .inf _ => .inf false
  | .fin x => .fin (if x < 0 then -x else x)

/-- The square root of a positive rational as a real. -/
def Real2.sqrt (x : Rat) : Real2 :=
  { zero := x == 0, log := floorLog2 x / 2,
    floorAt := fun e =>
      let y := x / pow2 (2 * e)
      let n := y.floor.toNat
      let q := Nat.sqrt n
      (q, y == ((q * q : Nat) : Int)) }

/-- Fixed-point e^(x) for 0 ≤ x, to `p` fraction bits: a Taylor sum after halving x ten times, then ten squarings. -/
def expFixed (p : Nat) (x : Rat) : Nat :=
  let one : Nat := 2 ^ p
  let t := ((x * mkRat ((one : Nat) : Int) 1024).floor).toNat
  let (s, _) := (List.range (p / 4 + 16)).foldl
    (fun (acc : Nat × Nat) i =>
      let term := acc.2 * t / one / (i + 1)
      (acc.1 + term, term)) (one, one)
  (List.range 10).foldl (fun y _ => y * y / one) s

/-- The floor of a real at a scale, from a fixed-point estimate whose relative error is below 2^(48-p), and
whether both ends of the error interval have the same floor. -/
def floorFrom (p : Nat) (v : Nat) (e : Int) : Nat × Bool :=
  let err := v / 2 ^ (p - 48) + 1
  let scale := fun (n : Nat) => ((mkRat (n : Int) 1) * pow2 (-(p : Int)) / pow2 e).floor.toNat
  let lo := scale (v - err)
  let hi := scale (v + err)
  (lo, lo == hi)

/-- The first working precision at which the floor is settled. -/
def settleFloor (est : Nat → Nat) (e : Int) : List Nat → Nat
  | [] => 0
  | [p] => (floorFrom p (est p) e).1
  | p :: rest =>
    let r := floorFrom p (est p) e
    if r.2 then r.1 else settleFloor est e rest

/-- The working precisions of the transcendental primitives. -/
def precisions : List Nat := [224, 640, 1280]

/-- e^x for a nonzero rational x, |x| at most 200, as a real: the value is irrational, so no floor is exact. -/
def Real2.exp (x : Rat) : Real2 :=
  let est := fun p =>
    if 0 ≤ x then expFixed p x else 2 ^ (2 * p) / expFixed p (-x)
  let coarse := est 224
  let log := floorLog2 (mkRat (coarse : Int) 1) - 224
  -- just below 1 the coarse estimate may read 1 exactly
  let log := if x < 0 && log ≥ 0 then -1 else log
  { zero := false, log := log, floorAt := fun e => (settleFloor est e precisions, false) }

/-- e^x with the special cases of R199, rounded once. -/
def fExp (fmt : Format) (mode : Rounding) : FVal → FVal
  | .nan => .nan
  | .inf true => .fin 0
  | .inf false => .inf false
  | .fin x =>
    if x = 0 then .fin 1
    else if 200 < x then .inf false
    else if x < -200 then
      decodeFloat fmt (roundMag fmt mode { zero := false, log := -400, floorAt := fun _ => (0, false) } false)
    else decodeFloat fmt (roundMag fmt mode (Real2.exp x) false)

/-- Fixed-point 2·artanh(z) for 0 ≤ z ≤ 1/3, to `p` fraction bits. -/
def artanh2Fixed (p : Nat) (z : Rat) : Nat :=
  let one : Nat := 2 ^ p
  let t := ((z * mkRat ((one : Nat) : Int) 1).floor).toNat
  let t2 := t * t / one
  let (s, _) := (List.range (p / 3 + 8)).foldl
    (fun (acc : Nat × Nat) i => (acc.1 + acc.2 / (2 * i + 1), acc.2 * t2 / one)) (0, t)
  2 * s

/-- Fixed-point |ln x| for a positive x other than 1: x is 2^k·m with m from 2/3 to 4/3. -/
def lnFixed (p : Nat) (x : Rat) : Nat :=
  let g := floorLog2 x
  let m0 := x / pow2 g
  let k : Int := if mkRat 4 3 < m0 then g + 1 else g
  let m := x / pow2 k
  let z := (m - 1) / (m + 1)
  let lm : Int := if z < 0 then -(artanh2Fixed p (-z) : Int) else (artanh2Fixed p z : Int)
  let l2 : Int := artanh2Fixed p (mkRat 1 3)
  (k * l2 + lm).natAbs

/-- |ln x| for a positive rational x other than 1, as a real: the value is irrational. -/
def Real2.lnAbs (x : Rat) : Real2 :=
  let log := floorLog2 (mkRat (lnFixed 224 x : Int) 1) - 224
  { zero := false, log := log, floorAt := fun e => (settleFloor (fun p => lnFixed p x) e precisions, false) }

/-- ln x with the special cases of R199, rounded once. -/
def fLn (fmt : Format) (mode : Rounding) : FVal → FVal
  | .nan => .nan
  | .inf true => .nan
  | .inf false => .inf false
  | .fin x =>
    if x = 0 then .inf true
    else if x < 0 then .nan
    else if x = 1 then .fin 0
    else
      let m := decodeFloat fmt (roundMag fmt mode (Real2.lnAbs x) false)
      if x < 1 then fNeg m else m

/-- √x with the special cases of R199, rounded once. -/
def fSqrt (fmt : Format) (mode : Rounding) : FVal → FVal
  | .nan => .nan
  | .inf true => .nan
  | .inf false => .inf false
  | .fin x =>
    if x = 0 then .fin 0 else if x < 0 then .nan
    else decodeFloat fmt (roundMag fmt mode (Real2.sqrt x) false)

/-- 1 ÷ √x with the special cases of R199, rounded once. -/
def fRsqrt (fmt : Format) (mode : Rounding) : FVal → FVal
  | .nan => .nan
  | .inf true => .nan
  | .inf false => .fin 0
  | .fin x =>
    if x = 0 then .inf false else if x < 0 then .nan
    else decodeFloat fmt (roundMag fmt mode (Real2.sqrt (1 / x)) false)

/-- A value rounded to a format. -/
def roundTo (fmt : Format) (mode : Rounding) (v : FVal) : FVal := decodeFloat fmt (encodeWith fmt mode false v)

/-- Stochastic rounding of FP32 bits to BF16 with 16 random bits (R53), then R48. -/
def stochasticBf16 (v : Word) (u : Nat) : Half :=
  match ofF32 v with
  | .nan => 0x7FC0
  | .inf neg => if neg then 0xFF80 else 0x7F80
  | .fin _ =>
    let t := v.toNat / 65536
    let g := v.toNat % 65536
    let r := if 65536 ≤ g + u % 65536 then t + 1 else t
    let r := if r % 32768 = 0x7F80 then r - 1 else r
    BitVec.ofNat 16 (if r % 32768 = 0 then 0 else r)

/-- FP32 to INT32 by nearest even with the symmetric saturation of R52: the value, whether it saturated,
whether the input was NaN. -/
def toInt32 : FVal → Int × Bool × Bool
  | .nan => (0, false, true)
  | .inf neg => (if neg then -(2 ^ 31 - 1) else 2 ^ 31 - 1, true, false)
  | .fin x =>
    let q := rneInt x
    if q > 2 ^ 31 - 1 then (2 ^ 31 - 1, true, false)
    else if q < -(2 ^ 31 - 1) then (-(2 ^ 31 - 1), true, false)
    else (q, false, false)

end Sys2Proof.Machine
end

