-- ==== Sys2Proof/Machine/PlanFmt.lean ====
section
/-!
DEFINITION. Sys2Proof/Machine/PlanFmt.lean: the fields of the plan image's tables: header (R235), rank table (R237), regions
(R239), sequence and steps (R240, R241), descriptors (R243 to R250), numerics list (R315), update groups and curves (R292,
R303), slot entries (R352), checkpoint plan (R435) and weight map (R547).
-/
namespace Sys2Proof.Machine

/-- A header word by its offset (R235). -/
def hdr (p : PlanImage) (off : Nat) : DWord := p.header.getD (off / 8) 0

def planId (p : PlanImage) : Word := BitVec.ofNat 32 (bitsOf (hdr p 0x08) 31 0)
def planRanks (p : PlanImage) : Nat := bitsOf (hdr p 0x18) 10 0
def planTorus (p : PlanImage) : Nat × Nat × Nat :=
  (bitsOf (hdr p 0x18) 20 16, bitsOf (hdr p 0x18) 25 21, bitsOf (hdr p 0x18) 30 26)
def planFrames (p : PlanImage) : Nat := bitsOf (hdr p 0x20) 31 0
def planSteps (p : PlanImage) : Nat := bitsOf (hdr p 0x20) 63 32
def planSkew (p : PlanImage) : Nat := bitsOf (hdr p 0x28) 0 0
def planFixedFreq (p : PlanImage) : Bool := bitOf (hdr p 0x28) 1
def planSeed (p : PlanImage) : DWord := hdr p 0x10

/-- A rank table entry (R237). -/
def rkRank (e : BitVec 256) : Nat := bitsOf e 9 0
def rkCoord (e : BitVec 256) : Nat × Nat × Nat := (bitsOf e 20 16, bitsOf e 25 21, bitsOf e 30 26)
def rkBlock (e : BitVec 256) : Nat := bitsOf e 47 32
def rkGroup (e : BitVec 256) : Nat := bitsOf e 63 48
def rkSerial (e : BitVec 256) : DWord := BitVec.ofNat 64 (bitsOf e 127 64)

/-- The rank table entry of a rank. -/
def rankEntry (p : PlanImage) (rank : Nat) : Option (BitVec 256) := p.ranks.find? (fun e => rkRank e == rank)
/-- The entry whose serial is the package's (R237). -/
def serialEntry (p : PlanImage) (serial : DWord) : Option (BitVec 256) := p.ranks.find? (fun e => rkSerial e == serial)
/-- A rank's rank block (R238). -/
def rankBlock (p : PlanImage) (rank : Nat) : Option RankBlock :=
  (rankEntry p rank).bind (fun e => p.blocks[rkBlock e]?)
/-- The ranks of a replica group, ascending. -/
def groupRanks (p : PlanImage) (g : Nat) : List Nat := ((p.ranks.filter (fun e => rkGroup e == g)).map rkRank).mergeSort (· ≤ ·)

/-- A region table entry (R239). -/
def rgStack (e : BitVec 128) : Nat := bitsOf e 2 0
def rgKind (e : BitVec 128) : Nat := bitsOf e 15 8
def rgBase (e : BitVec 128) : Nat := bitsOf e 63 16
def rgLength (e : BitVec 128) : Nat := bitsOf e 127 64
/-- A region's device address (R276). -/
def rgAddr (e : BitVec 128) : Nat := rgStack e * 2 ^ 36 + rgBase e
/-- The first region of a kind. -/
def regionOf (p : PlanImage) (kind : Nat) : Option (BitVec 128) := p.regions.find? (fun e => rgKind e == kind)

/-- A sequence entry (R240). -/
def sqTemplate (e : BitVec 128) : Nat := bitsOf e 15 0
def sqPhase (e : BitVec 128) : Nat := bitsOf e 17 16
def sqCommit (e : BitVec 128) : Bool := bitOf e 18
def sqBoundary (e : BitVec 128) : Bool := bitOf e 19
def sqRepeat (e : BitVec 128) : Nat := bitsOf e 63 32

/-- The sequence entry and iteration of a plan position (R240). -/
def seqFind (es : List (BitVec 128)) (k pos : Nat) : Option (Nat × Nat) :=
  match es with
  | [] => none
  | e :: rest => if pos < sqRepeat e then some (k, pos) else seqFind rest (k + 1) (pos - sqRepeat e)
/-- The sequence entry and iteration of a plan position in a plan. -/
def seqAt (p : PlanImage) (pos : Nat) : Option (Nat × Nat) := seqFind p.sequence 0 pos
/-- The sequence entry itself. -/
def seqEntry (p : PlanImage) (k : Nat) : BitVec 128 := p.sequence.getD k 0
/-- Whether a plan boundary lies at the tick that begins a plan position (R271). -/
def boundaryAt (p : PlanImage) (pos : Nat) : Bool :=
  match seqAt p pos with
  | some (k, i) => i == 0 && sqBoundary (seqEntry p k)
  | none => pos == planFrames p

/-- A step table entry (R241). -/
def spCommit (e : BitVec 128) : Nat := bitsOf e 31 0
def spDeadline (e : BitVec 128) : Nat := bitsOf e 63 32
def spLearning (e : BitVec 128) : Nat := bitsOf e 95 64
/-- The step of a plan position: the first whose commit frame does not lie before it. -/
def stepOf (p : PlanImage) (pos : Nat) : Nat := p.steps.countP (fun e => decide (spCommit e < pos))

/-- Descriptor fields (R243). -/
def dsClass (d : Desc) : Nat := bitsOf d.d0 5 0
def dsSplit (d : Desc) : Bool := bitOf d.d0 6
def dsReference (d : Desc) : Bool := bitOf d.d0 7
def dsTile (d : Desc) : Nat := bitsOf d.d0 23 16
def dsArray (d : Desc) : Nat := bitsOf d.d0 27 24
def dsIndex (d : Desc) : Nat := bitsOf d.d0 51 32
def dsPredCount (d : Desc) : Nat := bitsOf d.d0 54 52
/-- The predecessors, in order (R243). -/
def dsPreds (d : Desc) : List Nat :=
  [bitsOf d.d1 19 0, bitsOf d.d1 39 20, bitsOf d.d1 59 40, bitsOf d.d2 19 0].take (dsPredCount d)
def dsNotBefore (d : Desc) : Nat := bitsOf d.d3 16 0
def dsTensor (d : Desc) : Nat := bitsOf d.d3 63 32

/-- Operand word fields (R244). -/
def oprOffset (w : DWord) : Nat := bitsOf w 35 0
def oprUnit (w : DWord) : Nat := bitsOf w 43 36
def oprSpace (w : DWord) : Nat := bitsOf w 47 44
def oprStride (w : DWord) : Nat := bitsOf w 55 48
/-- An operand's offset in an iteration: offset + i × stride (R244). -/
def oprAt (t : Template) (w : DWord) (iter : Nat) : Nat :=
  if oprStride w = 0 then oprOffset w
  else ((oprOffset w : Int) + (iter : Int) * signedOf 32 (t.strides.getD (oprStride w - 1) 0).toNat).toNat

/-- D7 of an MVM (R245). -/
def mvScale (d : Desc) : Nat := bitsOf d.d7 15 0
def mvGroup (d : Desc) : Nat := bitsOf d.d7 31 16
def mvContrib (d : Desc) : Nat := bitsOf d.d7 42 32
def mvLayer (d : Desc) : Nat := bitsOf d.d7 50 43
def mvVectors (d : Desc) : Nat := bitsOf d.d7 61 51
/-- D7 of a matrix operation (R246). -/
def mxM (d : Desc) : Nat := bitsOf d.d7 15 0
def mxN (d : Desc) : Nat := bitsOf d.d7 31 16
def mxLen (d : Desc) : Nat := bitsOf d.d7 51 32
def mxAcc (d : Desc) : Bool := bitOf d.d7 52
def mxMode (d : Desc) : Nat := bitsOf d.d7 54 53
def mxBf16 (d : Desc) : Bool := bitOf d.d7 55
/-- D7 of a vector operation (R248). -/
def vcCode (d : Desc) : Nat := bitsOf d.d7 7 0
def vcElements (d : Desc) : Nat := bitsOf d.d7 39 8
def vcInBf16 (d : Desc) : Bool := bitOf d.d7 40
def vcOutBf16 (d : Desc) : Bool := bitOf d.d7 41
def vcBroadcast (d : Desc) : Bool := bitOf d.d7 42
def vcConv (d : Desc) : Nat := bitsOf d.d7 46 43
def vcRow (d : Desc) : Nat := bitsOf d.d7 63 48
/-- D7 of a DMA (R247). -/
def dmTranspose (d : Desc) : Bool := bitOf d.d7 32
def dmBytes (d : Desc) : Nat := bitsOf d.d7 31 0
def dmRows (d : Desc) : Nat := bitsOf d.d7 15 0
def dmCols (d : Desc) : Nat := bitsOf d.d7 31 16
def dmPitch (d : Desc) : Nat := bitsOf d.d7 52 33 * 128
/-- D7 of a program descriptor (R247). -/
def prSlots (d : Desc) : Nat := bitsOf d.d7 7 0
def prEnergy (d : Desc) : Nat := bitsOf d.d7 18 8
/-- D7 of an attend descriptor (R249). -/
def atHead (d : Desc) : Nat := bitsOf d.d7 15 0
def atWidthCode (d : Desc) : Nat := bitsOf d.d7 19 16
def atWidth (d : Desc) : Nat := 32 * 2 ^ atWidthCode d
def atContext (d : Desc) : Nat := bitsOf d.d7 47 20
/-- D7 of a sample descriptor (R247). -/
def smFirst (d : Desc) : Nat := bitsOf d.d7 17 0
def smCount (d : Desc) : Nat := bitsOf d.d7 35 18
/-- D7 of a quantise descriptor (R247). -/
def qtScale (d : Desc) : Nat := bitsOf d.d7 15 0
def qtElements (d : Desc) : Nat := bitsOf d.d7 47 16
def qtInBf16 (d : Desc) : Bool := bitOf d.d7 48
/-- D7 of a compress descriptor (R247). -/
def cpBlocks (d : Desc) : Nat := bitsOf d.d7 31 0

/-- A numerics list entry (R315). -/
def nmIndex (e : BitVec 128) : Nat := bitsOf e 15 0
def nmKind (e : BitVec 128) : Nat := bitsOf e 17 16
def nmIsScale (e : BitVec 128) : Bool := bitOf e 16
def nmMonitored (e : BitVec 128) : Bool := bitOf e 17
def nmLayer (e : BitVec 128) : Nat := bitsOf e 25 18
def nmPow2 (e : BitVec 128) : Bool := bitOf e 26
def nmShared (e : BitVec 128) : Bool := bitOf e 27
def nmTensor (e : BitVec 128) : Nat := bitsOf e 63 32
def nmInitial (e : BitVec 128) : Word := BitVec.ofNat 32 (bitsOf e 95 64)

/-- A group table entry (R292). -/
def gpNumber (e : BitVec 512) : Nat := bitsOf e 15 0
def gpProgram (e : BitVec 512) : Nat := bitsOf e 21 16
def gpStack (e : BitVec 512) : Nat := bitsOf e 24 22
def gpMask (e : BitVec 512) : Bool := bitOf e 25
def gpPrecond (e : BitVec 512) : Nat := bitsOf e 27 26
/-- Format of state stream k: 0 absent, 1 BF16, 2 FP32. -/
def gpStateFmt (e : BitVec 512) (k : Nat) : Nat := bitsOf e (33 + 2 * k) (32 + 2 * k)
def gpElements (e : BitVec 512) : Nat := bitsOf e 103 64
def gpRows (e : BitVec 512) : Nat := bitsOf e 127 104
def gpBankRegion (e : BitVec 512) : Nat := bitsOf e 143 128
def gpBankBase (e : BitVec 512) : Nat := bitsOf e 191 144
def gpGradRegion (e : BitVec 512) : Nat := bitsOf e 207 192
def gpGradBase (e : BitVec 512) : Nat := bitsOf e 255 208
def gpMaskRegion (e : BitVec 512) : Nat := bitsOf e 271 256
def gpMaskBase (e : BitVec 512) : Nat := bitsOf e 319 272
def gpSched (e : BitVec 512) : Nat := bitsOf e 335 320
def gpCurves (e : BitVec 512) : Nat := bitsOf e 338 336
def gpPeriod (e : BitVec 512) : Nat := bitsOf e 367 352
def gpBlock (e : BitVec 512) : Nat := 128 * 2 ^ bitsOf e 369 368
def gpIterations (e : BitVec 512) : Nat := bitsOf e 375 370 + 1
def gpEps (e : BitVec 512) : Word := BitVec.ofNat 32 (bitsOf e 415 384)
def gpBeta (e : BitVec 512) : Word := BitVec.ofNat 32 (bitsOf e 447 416)

/-- A slot entry (R352). -/
def slKind (e : BitVec 256) : Nat := bitsOf e 3 0
def slEarliest (e : BitVec 256) : Nat := bitsOf e 17 4
def slJoin (e : BitVec 256) : Nat := bitsOf e 39 20
def slBytes (e : BitVec 256) : Nat := bitsOf e 95 64
def slSource (e : BitVec 256) : DWord := BitVec.ofNat 64 (bitsOf e 159 96)
def slDest (e : BitVec 256) : DWord := BitVec.ofNat 64 (bitsOf e 223 160)
/-- Flits of an entry: ⌈bytes ÷ 640⌉. -/
def slFlits (e : BitVec 256) : Nat := (slBytes e + 639) / 640

/-- Checkpoint plan header and entries (R435). -/
def ckEvery (h : BitVec 512) : Nat := bitsOf h 15 0
def ckSlots (h : BitVec 512) : Nat := bitsOf h 17 16
def ckStart (h : BitVec 512) : Nat := bitsOf h 19 18
def ckFill (h : BitVec 512) : Bool := bitOf h 20
def ckBaseCount (h : BitVec 512) : Nat := bitsOf h 63 32
def ckRegionCount (h : BitVec 512) : Nat := bitsOf h 67 64 + 1
def ckRegions (h : BitVec 512) : List Nat :=
  (List.range (ckRegionCount h)).map (fun k => bitsOf h (143 + 16 * k) (128 + 16 * k))
def ceRank (e : BitVec 128) : Nat := bitsOf e 9 0
def ceBuddy (e : BitVec 128) : Nat := bitsOf e 19 10
def ceSource (e : BitVec 128) : Nat := bitsOf e 29 20
def ceSlot (e : BitVec 128) : Nat := bitsOf e 30 30
def ceFills (e : BitVec 128) : Bool := bitOf e 31

/-- A weight map entry (R547). -/
def wmTile (e : BitVec 256) : Nat := bitsOf e 7 0
def wmArray (e : BitVec 256) : Nat := bitsOf e 11 8
def wmFormat (e : BitVec 256) : Nat := bitsOf e 13 12
def wmGroup (e : BitVec 256) : Nat := bitsOf e 31 16
def wmBase (e : BitVec 256) : Nat := bitsOf e 71 32
def wmRows (e : BitVec 256) : Nat := bitsOf e 81 72
def wmCols (e : BitVec 256) : Nat := bitsOf e 91 82
def wmRowStride (e : BitVec 256) : Int := signedOf 32 (bitsOf e 127 96)
def wmColStride (e : BitVec 256) : Int := signedOf 32 (bitsOf e 159 128)
def wmScale (e : BitVec 256) : Word := BitVec.ofNat 32 (bitsOf e 191 160)
def wmColScales (e : BitVec 256) : Nat := bitsOf e 223 192
/-- The element of the group that a covered position names. -/
def wmElement (e : BitVec 256) (r k : Nat) : Int :=
  (wmBase e : Int) + (r : Int) * wmRowStride e + (k : Int) * wmColStride e

/-- The value of a curve at an update count (R304). -/
def curveValue (points : List DWord) (c : Nat) : Word :=
  let used := points.filter (fun p => bitsOf p 31 0 != 0xFFFFFFFF)
  let val := fun (p : DWord) => BitVec.ofNat 32 (bitsOf p 63 32)
  match used with
  | [] => 0
  | p0 :: _ =>
    if c ≤ bitsOf p0 31 0 then val p0
    else
      match used.getLast? with
      | none => 0
      | some pl =>
        if bitsOf pl 31 0 ≤ c then val pl
        else
          match (List.zip used (used.drop 1)).find? (fun ab => bitsOf ab.1 31 0 ≤ c && c < bitsOf ab.2 31 0) with
          | none => 0
          | some (a, b) =>
            let ca : Rat := ((bitsOf a 31 0 : Int) : Rat)
            let cb : Rat := ((bitsOf b 31 0 : Int) : Rat)
            let va := (ofF32 (val a)).rat
            let vb := (ofF32 (val b)).rat
            toF32 .odd (.fin (va + (vb - va) * (((c : Int) : Rat) - ca) / (cb - ca)))

end Sys2Proof.Machine
end

