-- ==== Sys2Proof/Machine/Store.lean ====
section
/-!
DEFINITION. Sys2Proof/Machine/Store.lean: sparse tables, which hold every memory and register file of the state in one
canonical form, and the byte operations over them.
-/
namespace Sys2Proof.Machine

/-- The entry of a key, or the table's default. -/
def tget {α : Type} (d : α) : Table α → Nat → α
  | [], _ => d
  | (k, v) :: rest, x => if k = x then v else tget d rest x

/-- The entry of a key, if the table lists one. -/
def tfind {α : Type} : Table α → Nat → Option α
  | [], _ => none
  | (k, v) :: rest, x => if k = x then some v else tfind rest x

/-- The table without a key. -/
def terase {α : Type} (t : Table α) (x : Nat) : Table α := t.filter (fun e => e.1 != x)

/-- Insertion of a value other than the default, keeping the keys rising. -/
def tput {α : Type} : Table α → Nat → α → Table α
  | [], x, v => [(x, v)]
  | (k, w) :: rest, x, v =>
    if k = x then (x, v) :: rest
    else if x < k then (x, v) :: (k, w) :: rest
    else (k, w) :: tput rest x v

/-- Writing a key: the default removes the entry, so that equal memories are equal data. -/
def tset {α : Type} [DecidableEq α] (d : α) (t : Table α) (x : Nat) (v : α) : Table α :=
  if v = d then terase t x else tput t x v

/-- Changing the entry of a key. -/
def tmod {α : Type} [DecidableEq α] (d : α) (t : Table α) (x : Nat) (f : α → α) : Table α := tset d t x (f (tget d t x))

/-- The keys a table lists. -/
def tkeys {α : Type} (t : Table α) : List Nat := t.map Prod.fst

/-- The keys rise strictly. -/
def keysRise {α : Type} : Table α → Bool
  | [] => true
  | [_] => true
  | a :: b :: rest => decide (a.1 < b.1) && keysRise (b :: rest)

/-- The canonical form of a table with a default value. -/
def tableWf {α : Type} [DecidableEq α] (d : α) (t : Table α) : Bool :=
  keysRise t && t.all (fun e => decide (e.2 ≠ d))

/-- Reading bytes from an address upward. -/
def readBytes (m : Table Byte) (a n : Nat) : List Byte := (List.range n).map (fun i => tget 0 m (a + i))

/-- Writing bytes from an address upward. -/
def writeBytes (m : Table Byte) (a : Nat) : List Byte → Table Byte
  | [] => m
  | b :: bs => writeBytes (tset 0 m a b) (a + 1) bs

/-- The little-endian number of bytes in memory (R12). -/
def readLE (m : Table Byte) (a n : Nat) : Nat := natLE (readBytes m a n)

/-- The canonical form of a byte memory: addresses strictly rising, and no entry equal to what an unlisted address reads. -/
abbrev Memory.wf (m : Table Byte) : Bool := tableWf 0 m

end Sys2Proof.Machine
end

