-- ==== Sys2Proof/Machine/StateArray.lean ====
section
/-!
DEFINITION. Sys2Proof/Machine/StateArray.lean: the state of the tiles and their arrays: MVMs in flight, accumulator groups,
suspects, Loupe vectors, calibration and drift, programming jobs and wear (R80 to R132, R151 to R188, R420 to R426).
-/
namespace Sys2Proof.Machine

/-- An MVM whose array runs, between its start and its result (R83, R91, R98 to R102). -/
structure MvmRun where
  gen : Nat
  op : Nat
  vec : Nat
  tile : Nat
  array : Nat
  cycle : Nat
  /-- values the array lanes apply, row 0 first -/
  lanes : List Int
  /-- split from the start (R97) -/
  split : Bool
  /-- the high pass of a two-pass vector (R335) -/
  high : Bool
  /-- saturated and granted a rerun that has not run (R95) -/
  rerun : Bool
  /-- the draw of the converter noise -/
  draw : Nat
  deriving DecidableEq, Repr

/-- A suspect in a tile's event queue, with what Loupe keeps for Prism (R122, R123, R128). -/
structure Suspect where
  gen : Nat
  op : Nat
  vec : Nat
  tile : Nat
  array : Nat
  causes : List Nat
  dv : Int
  tv : Int
  du : Int
  tu : Int
  lanes : List Int
  /-- corrected high and low phase values of every data column of J -/
  phases : List (Int × Int)
  split : Bool
  high : Bool
  cycle : Nat
  deriving DecidableEq, Repr

/-- One output vector of an accumulator group (R88, R125, R245). -/
structure GroupOut where
  gen : Nat
  group : Nat
  vec : Nat
  home : Nat
  /-- tile-memory offset of the BF16 output vector -/
  addr : Nat
  contributors : Nat
  arrived : Nat
  reported : Nat
  sums : List Int
  scaleA : Word
  scalesW : List Word
  kConst : Nat
  covered : Nat
  /-- contributing suspects without a verdict, by tile, array, op and vector -/
  suspects : List (Nat × Nat × Nat × Nat)
  converted : Bool
  consumed : Bool
  deriving DecidableEq, Repr

/-- A row group's wear record (R175), with the most pulses one of its elements received in the running counter frame (R174). -/
structure RowGroup where
  wear : Word
  refreshed : BitVec 48
  decile : Nat
  wornOut : Bool
  pulses : Nat
  /-- the NOR's copy of the wear, the wear at the end of the last complete interval of 2²⁰ frames, and its increase over that
  interval (R177) -/
  saved : Word
  mark : Word
  grown : Word
  deriving DecidableEq, Repr

/-- The record at manufacture (R175). -/
def RowGroup.fresh : RowGroup :=
  { wear := 0, refreshed := 0, decile := 1, wornOut := false, pulses := 0, saved := 0, mark := 0, grown := 0 }

/-- The drift sums of the MVMs of one plan frame (R180, R182). -/
structure DriftSums where
  gen : Nat
  l : Int
  d : Int
  z : Int
  n : Int
  /-- Σ l of the frame, and the observed low-phase sums of c514, c517 and c512 -/
  sumL : Int
  obs1 : Int
  obs2 : Int
  obs3 : Int
  deriving DecidableEq, Repr

/-- One element that a programming attempt works on (R158): its target level and the pulses applied so far. -/
structure ElementWork where
  col : Nat
  element : Nat
  target : Nat
  pulses : Nat
  sets : Nat
  /-- pulses of every attempt on it in this frame -/
  total : Nat
  /-- the latest verify found it above the target's window, or a refresh starts it: its next pulse is RESET -/
  above : Bool
  done : Bool
  deriving DecidableEq, Repr

/-- A weight that a row job settles (R159): its column, the integer aimed at, and whether it has settled. -/
structure WeightWork where
  col : Nat
  target : Int
  settled : Bool
  deriving DecidableEq, Repr

/-- Mordant's work on one row of one array (R159, R163, R165). -/
structure RowJob where
  row : Nat
  requeued : Bool
  refresh : Bool
  attempt : Nat
  weights : List WeightWork
  elements : List ElementWork
  /-- the next slot reads the row -/
  reading : Bool
  /-- slots and energy (pJ) reserved and not used -/
  slotsLeft : Nat
  energyLeft : Nat
  pinned : Bool
  /-- elements of the disturb reserve used (R164) -/
  disturbed : Nat
  deriving DecidableEq, Repr

/-- A row whose final read has ended and that switches at the tick (R166): digits read back and integers taken. -/
structure RowSwitch where
  row : Nat
  digits : List Int
  weights : List Int
  pinned : Bool
  requeued : Bool
  refresh : Bool
  deriving DecidableEq, Repr

/-- A drift and calibration result that takes effect at the next tick (R180, R185). -/
structure CalResult where
  sets : Table Word
  anchored : Nat
  anchorTemp : Int
  quality : Nat
  deriving DecidableEq, Repr

/-- One array. -/
structure ArrayState where
  /-- Loupe's checksum vectors by row (R116), and rows whose entry fails its parity -/
  v : Table Int
  u : Table Int
  badParity : List Nat
  /-- stage 2 of a regeneration: its next slot of 128 (R132), rows switched since, rows found differing -/
  regen : Option Nat
  regenSwitched : List Nat
  regenRows : Table (List Int)
  regenDiffer : Nat
  cond : DWord
  mu : Nat
  deltaO : Int
  /-- level ratios λ1, λ2, λ3 in units of 2⁻¹⁴ -/
  lambda1 : Nat
  lambda2 : Nat
  lambda3 : Nat
  drift : List DriftSums
  /-- drift values of a committed frame, in force from the next tick -/
  driftNext : Option (Nat × Int)
  /-- calibration header fields (R183) and the anchored entries by 520·set + column; unlisted entries are the factory's -/
  anchored : BitVec 48
  anchorTemp : Int
  quality : Nat
  attempts : Nat
  sets : Table Word
  calNext : Option CalResult
  /-- temperature (1/64 °C), μ and δo latched at the tick (R184) -/
  coefTemp : Int
  coefMu : Nat
  coefDelta : Int
  calValid : Bool
  calPending : Bool
  calPlaced : Bool
  calFails : Nat
  lastCal : Nat
  wrong : List Nat
  quarantined : Bool
  /-- counter frame of the quarantine, and clean calibration and margin item since (R417) -/
  cleanCal : Bool
  cleanItem : Bool
  /-- every MVM of the array gets a Prism verdict (R418) -/
  alwaysPrism : Bool
  retirePending : Bool
  pins : List (Nat × Nat)
  pinOverflow : Bool
  /-- pinned weights to try once more since the latest recalibration (R160) -/
  retryPins : List (Nat × Nat)
  clipped : Nat
  groups : Table RowGroup
  pendingRows : List Nat
  requeued : List Nat
  job : Option RowJob
  toSwitch : List RowSwitch
  refreshing : List Nat
  version : Word
  /-- the NOR's copy of the calibration block (R183) -/
  norCal : CalResult
  deriving DecidableEq, Repr

/-- An array as reset leaves it. -/
def ArrayState.fresh : ArrayState :=
  { v := [], u := [], badParity := [], regen := none, regenSwitched := [], regenRows := [], regenDiffer := 0, cond := 0,
    mu := 16384, deltaO := 0, lambda1 := 16384, lambda2 := 16384, lambda3 := 16384, drift := [], driftNext := none,
    anchored := 0, anchorTemp := 0, quality := 0, attempts := 0, sets := [], calNext := none, coefTemp := 0,
    coefMu := 16384, coefDelta := 0, calValid := false, calPending := false, calPlaced := false, calFails := 0,
    lastCal := 0, wrong := [], quarantined := false, cleanCal := false, cleanItem := false, alwaysPrism := false,
    retirePending := false, pins := [], pinOverflow := false, retryPins := [], clipped := 0, groups := [], pendingRows := [],
    requeued := [], job := none, toSwitch := [], refreshing := [], version := 0,
    norCal := { sets := [], anchored := 0, anchorTemp := 0, quality := 0 } }

/-- A pending nominal repeat of a test item (R423): the unit, the item (0 to 7 engines, 16 + array for an array) and the
pattern set. -/
structure TestRepeat where
  unit : UnitRef
  item : Nat
  pattern : Nat
  deriving DecidableEq, Repr

/-- One tile: its event queue, its budgets of the frame, its limiter sources and its sensors. -/
structure TileState where
  queue : List Suspect
  splitUsed : Nat
  outliersTaken : Nat
  /-- junction temperature, 1/64 °C (R107) -/
  temp : Int
  overTemp : Bool
  thermal : Nat
  droop : Nat
  /-- the supply is below the threshold, or has recovered less than 1,024 cycles ago (R445) -/
  droopLow : Bool
  /-- episodes that began in the running counter frame; below, those of the one before and of the last that committed (R462) -/
  droopEpisodes : Nat
  /-- an episode has overlapped the running counter frame -/
  droopSeen : Bool
  droopEnded : Nat
  droopCommitted : Nat
  /-- programming windows open in this counter frame: slots left by array, and energy left in pJ (R161, R162) -/
  windows : Table Nat
  energy : Nat
  /-- test-slot visit (R420 to R423) -/
  repeats : List TestRepeat
  skipped : Nat
  dirty : List UnitRef
  deriving DecidableEq, Repr

/-- A tile as reset leaves it, at 40 °C. -/
def TileState.fresh : TileState :=
  { queue := [], splitUsed := 0, outliersTaken := 0, temp := 2560, overTemp := false, thermal := 0,
    droop := 0, droopLow := false, droopEpisodes := 0, droopSeen := false, droopEnded := 0, droopCommitted := 0, windows := [], energy := 0, repeats := [],
    skipped := 0, dirty := [] }

/-- The operations' working state: MVMs in flight and accumulator outputs kept until their frame commits. -/
structure OpsState where
  mvms : List MvmRun
  outs : List GroupOut
  deriving DecidableEq, Repr

end Sys2Proof.Machine
end

