-- ==== Sys2Proof/Machine/StateMem.lean ====
section
/-!
DEFINITION. Sys2Proof/Machine/StateMem.lean: the memories with their poison and journals (R22, R275 to R290), the update
engines and versions (R289 to R314, R428 to R430), and the numerics (R316 to R339).
-/
namespace Sys2Proof.Machine

/-- A poisoned codeword or tile-memory line: the run of the plan frame that wrote it last, if one did, and where the poison
came from (R148 kind 4: 0 tile memory, 1 HBM, 2 Lake, 3 link) with the link or stack number. -/
structure PoisonMark where
  gen : Option Nat
  origin : Nat
  number : Nat
  deriving DecidableEq, Repr

/-- A pre-image that undoes a provisional write (R283): the run that wrote, the line's address, its bytes and its poison. -/
structure PreImage where
  gen : Nat
  addr : Nat
  data : List Byte
  poison : Option PoisonMark
  deriving DecidableEq, Repr

/-- A host DMA write that has landed and takes effect at the tick (R42). -/
structure HostWrite where
  addr : Nat
  data : List Byte
  poisoned : Bool
  /-- the transfer whose final response is owed -/
  req : Req
  deriving DecidableEq, Repr

/-- What a base die counts (R281, R282, R480 MEMORY_STATUS). -/
structure StackCounts where
  corrections : Nat
  uncorrectables : Nat
  scrub : Nat
  journalHigh : Nat
  deriving DecidableEq, Repr

/-- No count yet. -/
def StackCounts.zero : StackCounts := { corrections := 0, uncorrectables := 0, scrub := 0, journalHigh := 0 }

/-- The memories. Keys of `hbm` are device addresses (R276), of `tile` 2²³·tile + offset. -/
structure MemState where
  hbm : Table Byte
  hbmPoison : Table PoisonMark
  hbmJournal : List PreImage
  tile : Table Byte
  tilePoison : Table PoisonMark
  tileJournal : List PreImage
  host : Table Byte
  landed : List HostWrite
  /-- codewords the plan has written in the running counter frame -/
  planWrote : List Nat
  /-- frame of the last correction, by codeword -/
  lastCorrected : Table Nat
  counts : Table StackCounts
  deriving DecidableEq, Repr

/-- Where an update engine stands in its work (R301). -/
structure EngineWork where
  /-- position of the group in the group table -/
  group : Nat
  pass : Nat
  inBody : Bool
  pc : Nat
  chunk : Nat
  batch : Nat
  deriving DecidableEq, Repr

/-- One update engine (R291, R294): scalar registers s0 to s15, and vector registers by 16·lane + register. -/
structure UpdEngine where
  work : Option EngineWork
  scalars : Table Word
  vectors : Table Word
  deriving DecidableEq, Repr

/-- An engine at the start of a pass: every register +0. -/
def UpdEngine.idle : UpdEngine := { work := none, scalars := [], vectors := [] }

/-- An entry of the version digest ring (R310). -/
structure RingEntry where
  version : Word
  count : Word
  groups : Nat
  skipped : Bool
  redo : Bool
  digest : List Byte
  deriving DecidableEq, Repr

/-- A member's update-done report (R311). -/
structure DoneReport where
  rank : Nat
  version : Nat
  attempt : Nat
  skipped : Bool
  deriving DecidableEq, Repr

/-- A Mirror record (R429). -/
structure MirrorRecord where
  rank : Nat
  group : Nat
  count : Nat
  prevCount : Nat
  digest : List Byte
  deriving DecidableEq, Repr

/-- What the engines restore when an update frame fails (R302). -/
structure UpdSnapshot where
  scanned : Bool
  skipped : Bool
  engines : Table UpdEngine
  reds : Table Word
  chunkDigests : Table (List Byte)
  ratioD : Table Word
  ratioW : Table Word
  deriving DecidableEq, Repr

/-- The update of the running step, its reports, and the committed versions (R289 to R314). -/
structure UpdState where
  engines : Table UpdEngine
  /-- RED operands of the step, by program, slot, group and element (R298) -/
  reds : Table Word
  scanned : Bool
  skipped : Bool
  /-- chunk digests of the alternate version by group and chunk (R309) -/
  chunkDigests : Table (List Byte)
  ring : List RingEntry
  /-- gradient completion counters (R376) -/
  gradients : Table Nat
  attempt : Nat
  redo : Bool
  /-- the attempt was abandoned and the redo or rollback is not settled (R313) -/
  abandoned : Bool
  /-- this package's update-done for the attempt has been sent -/
  sent : Bool
  reports : List DoneReport
  completeReports : List (Nat × Bool)
  /-- members expelled since the attempt began -/
  lostMembers : List Nat
  /-- what each open run of an update frame restores -/
  snapshots : List (Nat × UpdSnapshot)
  /-- sums of the ratio monitor by group (R330) -/
  ratioD : Table Word
  ratioW : Table Word
  ratios : Table Word
  /-- root jobs that kept the committed root raise EV-0441; statistics and roots written by the plan -/
  mirrorPrev : List Byte
  mirrorPrevCount : Nat
  mirrorRecords : List MirrorRecord
  /-- this package's record of the round, and the tick it was formed at -/
  mirrorOwn : Option MirrorRecord
  mirrorTick : Nat
  mirrorSend : Bool
  deriving DecidableEq, Repr

/-- An observation of a scale (R317). -/
structure Observation where
  maxIn : Word
  maxAll : Word
  overflow : Bool
  quantised : Bool
  deriving DecidableEq, Repr

/-- No observation. -/
def Observation.none : Observation := { maxIn := 0, maxAll := 0, overflow := false, quantised := false }

/-- The share counts of a tensor (R331). -/
structure ShareCounts where
  n : Nat
  zeros : Nat
  sat : Nat
  nf : Nat
  deriving DecidableEq, Repr

/-- No count yet. -/
def ShareCounts.zero : ShareCounts := { n := 0, zeros := 0, sat := 0, nf := 0 }

/-- What the operations of one plan frame add to the numerics (R103, R317, R331). -/
structure FrameNumerics where
  obs : Table Observation
  /-- outliers and elements quantised by tensor -/
  outliers : Table Nat
  elements : Table Nat
  shares : Table ShareCounts
  deriving DecidableEq, Repr

/-- Nothing yet. -/
def FrameNumerics.zero : FrameNumerics := { obs := [], outliers := [], elements := [], shares := [] }

/-- A scale table entry (R322) with the values scheduled for the next plan frames (R319). -/
structure ScaleEntry where
  scale : Word
  estimate : Word
  latest : Word
  maxIn : Word
  maxAll : Word
  overflows : Nat
  layer : Nat
  observed : Bool
  cold : Bool
  shared : Bool
  pow2 : Bool
  tensor : Word
  basis : Word
  /-- first plan frame, value and basis of the values in force of late and of the updates not yet in force (R318, R319) -/
  scheduled : List (Nat × Word × Word)
  deriving DecidableEq, Repr

/-- An entry that no plan has set. -/
def ScaleEntry.zero : ScaleEntry :=
  { scale := 0, estimate := 0, latest := 0, maxIn := 0, maxAll := 0, overflows := 0, layer := 0, observed := false,
    cold := false, shared := false, pow2 := false, tensor := 0, basis := 0, scheduled := [] }

/-- A layer word (R339), with the last plan frame its request covers. -/
structure LayerWord where
  warmup : Nat
  requested : Bool
  hold : Nat
  granted : Bool
  refused : Bool
  refusedRun : Nat
  overflowFrames : Nat
  /-- first and last plan frame of the request (R333) -/
  fromFrame : Nat
  toFrame : Nat
  deriving DecidableEq, Repr

/-- The reset value. -/
def LayerWord.zero : LayerWord :=
  { warmup := 0, requested := false, hold := 0, granted := false, refused := false, refusedRun := 0,
    overflowFrames := 0, fromFrame := 0, toFrame := 0 }

/-- A monitor record (R332). -/
structure MonitorRecord where
  kind : Nat
  layer : Nat
  id : Nat
  frame : Nat
  step : Nat
  value : Word
  threshold : Word
  count : Nat
  deriving DecidableEq, Repr

/-- A shared observation (R320): rank, plan frame, scale index, whether the layer was in warm-up, and the observation. -/
structure SharedObs where
  rank : Nat
  warm : Bool
  frame : Nat
  index : Nat
  obs : Observation
  deriving DecidableEq, Repr

/-- The numerics of the package (R316 to R339). -/
structure NumState where
  scales : Table ScaleEntry
  /-- scale values captured for recomputation (R321) -/
  snapshot : Table Word
  lossExp : Nat
  lossCold : Bool
  lossClean : Nat
  lossHalvedLast : Bool
  lossHalvings : Nat
  /-- exponent in force for the running step (R323) -/
  lossInForce : Nat
  layers : Table LayerWord
  ring : List MonitorRecord
  head : Nat
  shares : Table ShareCounts
  /-- the share monitor has been enabled through all of the running window -/
  windowWhole : Bool
  sharedIn : List SharedObs
  sharedOut : List SharedObs
  /-- consecutive plan frames in which EV-0420 was raised (R338) -/
  refusedRuns : Nat
  /-- the scale block captured at the latest flip (R326, R436) -/
  block : List Byte
  deriving DecidableEq, Repr

end Sys2Proof.Machine
end

