-- ==== Sys2Proof/Machine/StateFrame.lean ====
section
/-!
DEFINITION. Sys2Proof/Machine/StateFrame.lean: the state of the frame timebase, of the plan frames between their start and
their commit point (R30 to R36, R133 to R142), and of the check ledger (R144 to R149).
-/
namespace Sys2Proof.Machine

/-- RUN_STATE run (R40). -/
inductive RunState where
  | ready | running | held | halted
  deriving DecidableEq, Repr

/-- The counts of one tile in one plan frame, before the saturation of a tile entry (R147). -/
structure TileCounts where
  mvmRun : Nat
  zeroBypass : Nat
  splitReruns : Nat
  clampedMvm : Nat
  clampedCols : Nat
  outliersTaken : Nat
  outliersClamped : Nat
  suspects : Nat
  checkerWrong : Nat
  arrayWrong : Nat
  residue : Nat
  queueMax : Nat
  level : Nat
  accClamped : Nat
  degraded : Bool
  deriving DecidableEq, Repr

/-- No count yet. -/
def TileCounts.zero : TileCounts :=
  { mvmRun := 0, zeroBypass := 0, splitReruns := 0, clampedMvm := 0, clampedCols := 0, outliersTaken := 0,
    outliersClamped := 0, suspects := 0, checkerWrong := 0, arrayWrong := 0, residue := 0, queueMax := 0, level := 0,
    accClamped := 0, degraded := false }

/-- An exception entry (R148). -/
structure ExcEntry where
  kind : Nat
  tile : Nat
  array : Nat
  level : Nat
  causes : Nat
  op : Nat
  a : Int
  b : Int
  c : Int
  d : Int
  cycle : Nat
  deriving DecidableEq, Repr

/-- A failed check: the event that names it, the unit it names (R548) and its cycle. -/
structure FailedCheck where
  code : Nat
  unit : UnitRef
  cycle : Nat
  deriving DecidableEq, Repr

/-- An operation in flight or completed: its package index and the cycle it issued in (R251). -/
structure InFlight where
  op : Nat
  cycle : Nat
  /-- vectors of an MVM issued so far -/
  vectors : Nat
  /-- checks of the operation that have not reported -/
  checks : Nat
  deriving DecidableEq, Repr

/-- One plan frame between its start and its commit point (R31, R32, R136). -/
structure PlanFrame where
  /-- tells this run of the plan frame from every other run -/
  gen : Nat
  /-- plan position, step, phase mark (R40) and sequence entry with its iteration (R240) -/
  index : Nat
  step : Nat
  phase : Nat
  entry : Nat
  iteration : Nat
  /-- counter frame in which this run began -/
  started : Nat
  replay : Bool
  late : Bool
  /-- the committed version whose bank view the frame uses: the one in force when it first began (R289) -/
  view : Word
  inflight : List InFlight
  completed : List Nat
  /-- layers whose fall-back is granted (R257) -/
  fallback : List Nat
  tiles : Table TileCounts
  excs : List ExcEntry
  excOverflow : Bool
  corrected : Nat
  poison : Nat
  substituted : Nat
  fallbackTensors : Nat
  nonfinite : Nat
  level : Nat
  failures : List FailedCheck
  num : FrameNumerics
  /-- kind 2 link entries delivered to each stack's gradient buffer (R376) -/
  gradients : Table Nat
  deriving DecidableEq, Repr

/-- What a ledger record reports, before its encoding (R145, R146). -/
structure RecordData where
  frame : Nat
  planFrame : Nat
  step : Nat
  outcome : Nat
  late : Bool
  /-- the plan frame whose counts the record carries -/
  body : Option PlanFrame
  phase : Nat
  suspectsPending : Table Nat
  live : Word
  master : Word
  fixedFreq : Bool
  boost : Bool
  overTemp : List Nat
  warmUp : Bool
  regenerating : Table Nat
  quarantined : Table Nat
  testTile : Option Nat
  deriving DecidableEq, Repr

/-- The ledger writer (R144, R149). -/
structure LedgerState where
  /-- the record that awaits its C0 slot -/
  ready : Option RecordData
  /-- counter frame of the latest complete record, and its digest -/
  latest : Option Nat
  digest : List Byte
  /-- first counter frame recorded under the loaded plan -/
  first : Option Nat
  deriving DecidableEq, Repr

/-- The frame status page (R40). -/
structure StatusPage where
  seq : DWord
  frameNow : DWord
  committed : DWord
  planPos : DWord
  runState : DWord
  version : DWord
  deriving DecidableEq, Repr

/-- What held in the counter frame that the last tick ended, for its record (R146, R147): the versions, the clock, the tiles over
temperature, and the tile that held the test slot. -/
structure EndedFrame where
  live : Word
  master : Word
  fixedFreq : Bool
  boost : Bool
  overTemp : List Nat
  testTile : Option Nat
  deriving DecidableEq, Repr

/-- The frame timebase, the plan position and the run state. -/
structure FrameState where
  counter : BitVec 48
  cycle : Nat
  pos : Word
  step : Word
  run : RunState
  late : Bool
  degraded : Bool
  fixedFreq : Bool
  boost : Bool
  /-- the counter frame that the last tick ended -/
  ended : EndedFrame
  committed : BitVec 48
  live : Word
  master : Word
  page : StatusPage
  running : Option PlanFrame
  closed : Option PlanFrame
  nextGen : Nat
  /-- the ticks, by the counter frame they begin, that HOLD and LATE have made hold ticks (R373) -/
  holdTargets : List Nat
  /-- the running counter frame was begun by a hold tick; the last 1,024 frames so begun (R40) -/
  holdFrame : Bool
  holdHist : List Nat
  /-- counter frames at whose ending tick the package was late, in the last 1,024 (R266) -/
  lateHist : List Nat
  /-- stretch asserted, and the counter frame at whose tick it took effect (R267, R268) -/
  stretchAsked : Bool
  stretchSince : Option Nat
  /-- stretch ticks shifted by holds added under R268 -/
  stretchShift : Nat
  /-- failed frames of the last 16, with the unit each names (R141, R548) -/
  failures : List (Nat × UnitRef)
  /-- position named by STOP mode 0 (R482) -/
  stopAt : Option Nat
  deriving DecidableEq, Repr

end Sys2Proof.Machine
end

