-- ==== Sys2Proof/Machine/StateLink.lean ====
section
/-!
DEFINITION. Sys2Proof/Machine/StateLink.lean: the state of the Vorran links, the tick tree and plan start (R341 to R383, R269
to R274, R432 to R434), and of the Lakes (R384 to R406).
-/
namespace Sys2Proof.Machine

/-- The eight counters of a link (R381). -/
structure LinkCounters where
  received : Nat
  corrected : Nat
  symbols : Nat
  uncorrectable : Nat
  retrySent : Nat
  retryReceived : Nat
  abandoned : Nat
  forwarded : Nat
  deriving DecidableEq, Repr

/-- No count yet. -/
def LinkCounters.zero : LinkCounters :=
  { received := 0, corrected := 0, symbols := 0, uncorrectable := 0, retrySent := 0, retryReceived := 0,
    abandoned := 0, forwarded := 0 }

/-- A lane's quality word (R381) and what R362 counts on it. -/
structure LaneState where
  height : Nat
  width : Nat
  ser : Word
  /-- consecutive uncorrectable codewords whose errors include the lane's symbols -/
  badRun : Nat
  deriving DecidableEq, Repr

/-- No measurement yet. -/
def LaneState.zero : LaneState := { height := 0, width := 0, ser := 0, badRun := 0 }

/-- A link (R380): its width 0 down, 1 half, 2 full, 3 training, and what its receiver keeps (R358, R359). -/
structure LinkState where
  width : Nat
  pair : Bool
  failed : BitVec 4
  miscabled : Bool
  farRank : Nat
  farLink : Nat
  delay : Nat
  counters : LinkCounters
  lanes : Table LaneState
  ackHigh : Nat
  ackPrev : Bool
  ackValid : Bool
  nacks : List (Nat × Bool)
  /-- deferrals of each flit time of the frame (R396) -/
  deferred : Table Nat
  /-- tick of the lane test announced under R363 -/
  testTick : Option Nat
  /-- ECHO tokens sent and not answered -/
  echoes : List Nat
  deriving DecidableEq, Repr

/-- A link as reset leaves it. -/
def LinkState.fresh : LinkState :=
  { width := 0, pair := false, failed := 0, miscabled := false, farRank := 0, farLink := 0, delay := 0,
    counters := LinkCounters.zero, lanes := [], ackHigh := 0, ackPrev := false, ackValid := false, nacks := [],
    deferred := [], testTick := none, echoes := [] }

/-- A flit of the group stream that has been sent and not acknowledged, or that waits for retry (R358, R360). -/
structure FlitRec where
  /-- member and flit time of the latest sending, and its counter frame -/
  member : Nat
  time : Nat
  frame : Nat
  /-- member and flit time of the first sending, by which retry lists name the flit -/
  firstMember : Nat
  firstTime : Nat
  /-- plan position, entry of its slot list and flit of the entry -/
  plan : Nat
  entry : Nat
  flit : Nat
  tries : Nat
  deriving DecidableEq, Repr

/-- Progress of a slot entry (R352, R355). -/
structure EntryProgress where
  sent : Nat
  acked : Nat
  delivered : Nat
  done : Bool
  deriving DecidableEq, Repr

/-- Nothing sent or received. -/
def EntryProgress.zero : EntryProgress := { sent := 0, acked := 0, delivered := 0, done := false }

/-- A flit put on the wire: member, flit time, type of R346, the stream flit it carries, its payload and its poison bits. -/
structure TxFlit where
  member : Nat
  time : Nat
  kind : Nat
  entry : Nat
  flit : Nat
  payload : List Byte
  poison : Nat
  deriving DecidableEq, Repr

/-- One direction's link group (R349): the transmitter's stream and retry buffer, and the receiver's place in the stream. -/
structure GroupState where
  txEntry : Nat
  txFlit : Nat
  tx : Table EntryProgress
  buffer : List FlitRec
  queue : List FlitRec
  /-- flits listed in a control flit and due as retry flits on that member -/
  listed : List FlitRec
  abandoned : List FlitRec
  rxEntry : Nat
  rxFlit : Nat
  rx : Table EntryProgress
  /-- stream flits that arrived uncorrectable or deferred -/
  missing : List FlitRec
  /-- retry flits to come, by the link member that carries them: carrier, member and flit time of the first sending -/
  expected : List (Nat × Nat × Nat)
  wire : List TxFlit
  deriving DecidableEq, Repr

/-- A group with nothing sent. -/
def GroupState.fresh : GroupState :=
  { txEntry := 0, txFlit := 0, tx := [], buffer := [], queue := [], listed := [], abandoned := [], rxEntry := 0,
    rxFlit := 0, rx := [], missing := [], expected := [], wire := [] }

/-- A sync event that waits for control positions, with the links that have still to carry it (R371). -/
structure Forward where
  event : SyncEvent
  links : List Nat
  deriving DecidableEq, Repr

/-- Bytes received so far of a checkpoint, a restore or a fill (R379, R438, R440), by the device address its slot or bank
begins at. -/
structure Transfer where
  kind : Nat
  base : Nat
  bytes : Nat
  /-- the first 64 bytes, and what follows the image -/
  head : List Byte
  tail : List Byte
  deriving DecidableEq, Repr

/-- The links and Vorran sync. -/
structure LinkSide where
  links : Table LinkState
  groups : Table GroupState
  seen : List (SyncKind × Nat × Nat)
  forward : List Forward
  messages : List C0Message
  delivered : List C0Message
  /-- the tick tree (R365 to R367): parent link, depth, timer corrections in 1/256 ns, aligned ticks -/
  parent : Option Nat
  depth : Nat
  phase : Int
  rate : Int
  errorNow : Option Int
  alignedCount : Nat
  aligned : Bool
  expelled : List Nat
  /-- EXPEL events to process: tick and rank -/
  expelTargets : List (Nat × Nat)
  transfers : List Transfer
  deriving DecidableEq, Repr

/-- The stages of a plan load (R270). -/
inductive LoadStage where
  | idle | preparing | prepared | starting
  deriving DecidableEq, Repr

/-- The loaded and the staged plan, and the progress of a start (R269 to R274). -/
structure PlanState where
  loaded : Option PlanImage
  manifest : List Byte
  staged : Option PlanImage
  stagedManifest : List Byte
  stage : LoadStage
  loadFrame : Nat
  startFrame : Option Nat
  prepared : List Nat
  /-- the request whose final response is owed at the start or the refusal -/
  loadReq : Option Req
  rank : Option Nat
  /-- plan position at which the running step's span must end, and whether it has been reported overrun -/
  overrun : Bool
  /-- tick at which the survivors stop (R433), once it is known -/
  stopTick : Option Nat
  stopAsked : Bool
  /-- the plan halted at its last frame or under R433 -/
  stoppedClean : Bool
  /-- programming span in progress: the version, its first plan position, and the frames of its scan left -/
  spanVersion : Option Nat
  spanPos : Nat
  spanScan : Nat
  /-- write offset within the switch-log region's current half (R173) -/
  logHalf : Bool
  logOffset : Nat
  /-- row switches of the latest tick, logged at the next commit point: plan position, and the entry's other bits (R173) -/
  logPending : List (Nat × Nat)
  deriving DecidableEq, Repr

/-- One cell of a Lake (R384, R385). -/
structure Cell where
  tag : DWord
  check : Byte
  payload : List DWord
  deriving DecidableEq, Repr

/-- An item in a queue, by its cells in order, with the producer port that wrote it (R386, R387). -/
structure LakeItem where
  cls : Nat
  kind : Nat
  cells : List Nat
  port : Nat
  sharedCells : Nat
  deriving DecidableEq, Repr

/-- A Lake (R384 to R406). Unlisted cells are free: each reads as its reset tag. -/
structure LakeState where
  cells : Table Cell
  /-- items in order of arrival; a class's queue is its items in this order -/
  items : List LakeItem
  /-- fixed credits spent and not returned, by 64·class + port (R393) -/
  spent : Table Nat
  /-- borrowed credits not spent, by 64·class + port (R394) -/
  borrowed : Table Nat
  /-- output credits spent and not refilled, by 8·consumer class + class (R388, R395) -/
  holdSpent : Table Nat
  /-- freed cells of a class's reservation that no hold and no port was short of -/
  freeOwn : Table Nat
  /-- shared cells lent to each class -/
  lent : Table Nat
  highWater : Table Nat
  creditWait : Table Nat
  poison : Table Nat
  deferrals : Nat
  /-- the cells of the latest item a consumer took, as the port delivered them -/
  taken : List Cell
  deriving DecidableEq, Repr

/-- A Lake as reset leaves it: no cell in use. -/
def LakeState.fresh : LakeState :=
  { cells := [], items := [], spent := [], borrowed := [], holdSpent := [], freeOwn := [], lent := [], highWater := [],
    creditWait := [], poison := [], deferrals := 0, taken := [] }

end Sys2Proof.Machine
end

