-- ==== Sys2Proof/Machine/StateMgmt.lean ====
section
/-!
DEFINITION. Sys2Proof/Machine/StateMgmt.lean: the state of event delivery and the health history (R407 to R419), and of
Eomet: mailboxes, the management port, settings, transactions, keys, firmware and attestation (R466 to R503).
-/
namespace Sys2Proof.Machine

/-- An event record (R484); `ps` are the values p0 to p3 that the raising rule names. -/
structure EventRec where
  code : Nat
  unit : UnitRef
  level : Nat
  suppressed : Nat
  seq : Word
  time : Word
  frame : Nat
  rank : Nat
  planId : Word
  ps : List Nat
  deriving DecidableEq, Repr

/-- The event ring and what numbers, limits and acknowledges its records (R407 to R409, R546, R469). -/
structure EventState where
  /-- the latest 8,192 records, oldest first -/
  ring : List EventRec
  nextSeq : Word
  /-- records with lower numbers are acknowledged -/
  acked : Nat
  /-- first and last record lost since the last acknowledgement -/
  lost : Option (Word × Word)
  /-- records stored in this second of health time, by code -/
  counts : Table Nat
  /-- records suppressed in this second, by code -/
  suppressed : Table Nat
  /-- R546: for each mark (code and unit), the group of frames it was last raised in, plus one -/
  once : Table Nat
  /-- a record awaits MSI vector 16, and the frame that vector was last raised in -/
  msiDue : Bool
  msiFrame : Option Nat
  deriving DecidableEq, Repr

/-- The state field of a health record (R412). -/
inductive UnitState where
  | inService | quarantined | retired | neverWritten
  deriving DecidableEq, Repr

/-- A health record with the log applied (R412); kind and index are its key. -/
structure HealthRec where
  state : UnitState
  marginal : Bool
  wornOut : Bool
  since : Word
  t1 : Word
  t2 : Word
  t3 : Word
  events : Word
  counters : Table Nat
  skipped : Nat
  cause : Nat
  lastPass : Word
  deriving DecidableEq, Repr

/-- The record written at manufacture (R412). -/
def HealthRec.fresh : HealthRec :=
  { state := .inService, marginal := false, wornOut := false, since := 0, t1 := 0, t2 := 0, t3 := 0, events := 0,
    counters := [], skipped := 0, cause := 0, lastPass := 0 }

/-- A health-log entry (R413). -/
structure LogEntry where
  time : Word
  code : Nat
  unit : UnitRef
  counter : Nat
  counted : Bool
  nominal : Bool
  permanent : Bool
  frame : Nat
  rank : Nat
  deriving DecidableEq, Repr

/-- The health history of the NOR (R410 to R416). -/
structure HealthState where
  time : Word
  savedTime : Word
  /-- records by 4,096·kind + index, with the log applied -/
  recs : Table HealthRec
  log : List LogEntry
  /-- log entries already folded into the records -/
  folded : Nat
  /-- a NOR write has failed and is retried at every tick -/
  norFailing : Bool
  /-- EV-0133 raised since the last plan boundary -/
  norReported : Bool
  /-- units whose disagreement of R418 has been reported -/
  disagreed : List UnitRef
  /-- units that leave at the next plan boundary (R418) -/
  leaving : List UnitRef
  deriving DecidableEq, Repr

/-- The status values of a response (R476). -/
inductive Status where
  | ok | accepted | busy | busyLive | badOpcode | badLength | badField | badValue | notPermitted | noTxn | notOwner
  | txnConflict | refusedState | signature | exhausted | failed
  deriving DecidableEq, Repr

/-- A response: its header fields (R475) and its body. -/
structure Response where
  opcode : Nat
  status : Status
  tag : Word
  final : Bool
  frame : Nat
  digest : List Byte
  body : List Byte
  deriving DecidableEq, Repr

/-- One host slot (R468, R469): its open request's opcode, DONE, and the response buffer's content. -/
structure HostSlot where
  openReq : Option Nat
  done : DWord
  response : Option Response
  deriving DecidableEq, Repr

/-- A slot after reset. -/
def HostSlot.closed : HostSlot := { openReq := none, done := 0, response := none }

/-- A class C command that has been accepted and not completed (R477): its operands in the order of R480. -/
structure OpenCommand where
  opcode : Nat
  req : Req
  args : List Nat
  deriving DecidableEq, Repr

/-- A staged value: the tick from which it may become live, the transaction that staged it, or the request of SETTING_SET that
did (R479, R486, R488). -/
structure StagedValue where
  value : Word
  notBefore : Nat
  txn : Option Nat
  req : Option Req
  deriving DecidableEq, Repr

/-- The owner of a transaction (R488). -/
inductive Owner where
  | host
  | mgmt (addr : Word) (udp : Half)
  | peer (rank : Rank)
  deriving DecidableEq, Repr

/-- The states of a transaction (R480). -/
inductive TxnPhase where
  | opened | committed | closed
  deriving DecidableEq, Repr

/-- A transaction (R488 to R490). -/
structure Txn where
  owner : Owner
  phase : TxnPhase
  pairs : Table Word
  /-- the frame whose beginning tick makes the tick settings live -/
  effect : Nat
  /-- the tick settings have become live -/
  tickDone : Bool
  /-- the request whose final response is owed -/
  commitReq : Option Req
  deriving DecidableEq, Repr

/-- A source of the management port: the answered sequence numbers with their responses, and those open (R472). -/
structure MgmtSource where
  addr : Word
  udp : Half
  answered : List (Word × Response)
  opened : List Word
  deriving DecidableEq, Repr

/-- A request being reassembled from its fragments (R472). -/
structure Reassembly where
  addr : Word
  udp : Half
  seq : Word
  parts : Table (List Byte)
  last : Option Nat
  deriving DecidableEq, Repr

/-- A message that has left on the management port (R471, R473). -/
inductive OutMsg where
  | response (addr : Word) (udp : Half) (seq : Word) (fragment : Nat) (payload : List Byte) (auth : List Byte)
  | events (addr : Word) (udp : Half) (seq : Word) (payload : List Byte) (auth : List Byte)
  | arpReply (mac : BitVec 48) (ip : Word) (target : BitVec 48) (targetIp : Word)
  | icmpReply (addr : Word) (payload : List Byte)
  deriving DecidableEq, Repr

/-- A firmware slot of the NOR (R494 to R498). -/
structure FwSlot where
  manifest : BitVec 512
  key : List Byte
  signature : List Byte
  /-- SHA-256 of the bytes outside the signature section -/
  hash : List Byte
  length : Nat
  deriving DecidableEq, Repr

/-- Eomet's state: mailboxes, the management port, settings, keys, images (R466 to R503). -/
structure EoState where
  /-- request buffers of BAR0, by offset from 0x0002_0000 -/
  buffers : Table Byte
  slots : Table HostSlot
  ignoredDoorbells : Nat
  /-- times each MSI vector has been raised -/
  msi : Table Nat
  opened : List OpenCommand
  /-- requests the port of each peer rank has open -/
  peerOpen : Table Nat
  live : Table Word
  staged : Table StagedValue
  txns : Table Txn
  nextTxn : Nat
  sources : List MgmtSource
  reassembly : List Reassembly
  /-- datagrams with a wrong auth field since the last EV-0705, and the second it was last raised in plus one -/
  authDrops : Nat
  authSecond : Nat
  /-- messages sent on the management port, latest first -/
  outbox : List OutMsg
  ownerKey : Option (List Byte)
  ownerCounter : Nat
  /-- SHA-256 of the last owner key record's key field -/
  mgmtKey : Option (List Byte)
  tokens : Nat
  leaf : Nat
  /-- reservation fuses blown -/
  leafFuses : Nat
  /-- a fuse has been blown since the last reset -/
  leafReady : Bool
  otpSecurity : Nat
  fwSlots : Table FwSlot
  fwPreferred : Bool
  fwActive : Bool
  fwVersion : Nat
  fwSecurity : Nat
  restarts : Nat
  deriving DecidableEq, Repr

end Sys2Proof.Machine
end

