-- ==== Sys2Proof/Machine/StatePower.lean ====
section
/-!
DEFINITION. Sys2Proof/Machine/StatePower.lean: the state of power control (R441 to R465), of the AOM's filters (R459, R460,
R492, R493), of the counters and telemetry (R505 to R519), of boot, pins and SMBus (R499, R524 to R543), and of the
contexts and host DMA (R215 to R230).
-/
namespace Sys2Proof.Machine

/-- The limiter sources above one tile, the cap controller and the operating points. -/
structure PowerState where
  /-- operating point of each die, and the target its rail is rising to (R455) -/
  points : Table Nat
  rising : Table Nat
  /-- dies whose switch down is deferred (R456) -/
  deferred : Table Nat
  /-- droop-active dies of the running counter frame, of the last and of the one before -/
  droopNow : List Nat
  droopLast : List Nat
  droopBefore : List Nat
  peak : Table Nat
  /-- µs at or below 95% of the limit since the last lowering -/
  peakBelow : Table Nat
  /-- dies whose peak source was above 0 in the running counter frame, and in the last -/
  peakNow : List Nat
  peakLast : List Nat
  /-- package power outside the core rails in the previous 1 µs, mW -/
  otherPower : Nat
  /-- cap controller (R450) -/
  capLevel : Nat
  /-- the cap level of the last counter frame (R538) -/
  capBefore : Nat
  capSum : Nat
  capHist : Table Nat
  capWindow : Nat
  /-- reference energies in nJ at point 0: of tiles by 4·phase + die, of the rest by phase -/
  refTile : Table Nat
  refOther : Table Nat
  /-- AOM levels, by 4·slot + die, each held by its filter until its expiry -/
  aomLevels : Table Nat
  /-- an AOM level was in force in the running counter frame -/
  aomNow : Bool
  shed : Bool
  deriving DecidableEq, Repr

/-- What one AOM filter keeps between samples (R493). -/
structure FilterState where
  saved : Bool
  last : Bool
  /-- latest samples of lo and hi, newest first -/
  samples : List (Rat × Rat)
  /-- samples in a row in which each RUN's condition held, by instruction -/
  runs : Table Nat
  deriving DecidableEq, Repr

/-- A filter that has not run. -/
def FilterState.fresh : FilterState := { saved := false, last := false, samples := [], runs := [] }

/-- The AOM: filter slots as loaded (R492), what waits for the next tick, the inputs, and the registers of the program
that the instruction commands run (R493). -/
structure AomState where
  slots : Table (BitVec 1024)
  staged : List (Nat × Option (BitVec 1024))
  filters : Table FilterState
  inputs : Table Rat
  /-- the filter whose program runs, or ran last -/
  cur : Nat
  lo : Rat
  hi : Rat
  cond : Bool
  /-- inputs that set lo and hi, and the one that set the deciding value -/
  loFrom : Nat
  hiFrom : Nat
  decider : Nat
  /-- instruction number within the program, for RUN -/
  pc : Nat
  deriving DecidableEq, Repr

/-- A port bandwidth entry's frames, newest first (R513). -/
structure PortWindow where
  now : Nat
  frames : List Nat
  deriving DecidableEq, Repr

/-- Nothing counted. -/
def PortWindow.zero : PortWindow := { now := 0, frames := [] }

/-- The counters that a tick latches (R505): programmable counters by 8·block + k, their words, energies and ports. -/
structure Telemetry where
  counters : Table Word
  overflow : Table Nat
  cleared : Table Nat
  config : Table Half
  energy : Table Nat
  ports : Table PortWindow
  deriving DecidableEq, Repr

/-- Snapshot n: the shadows latched at the tick that ended counter frame n (R505). -/
structure Snapshot where
  frame : Nat
  tele : Telemetry
  linkWords : Table DWord
  links : Table LinkState
  lakes : Table LakeState
  limits : Table DWord
  complete : Bool
  deriving DecidableEq, Repr

/-- The dump ring (R515 to R518). -/
structure DumpRing where
  addr : Nat
  length : Nat
  written : Nat
  sequence : Nat
  base : Nat
  size : Nat
  dropped : Nat
  deriving DecidableEq, Repr

/-- Counters and telemetry. -/
structure CountState where
  tele : Telemetry
  /-- activity of the running counter frame by 256·block + event code (R509) -/
  activity : Table Nat
  /-- configuration words and clears that wait: the first frame whose tick they may take effect at, and the counter -/
  stagedConfig : List (Nat × Nat × Half)
  stagedClear : List (Nat × Nat)
  shadow : Option Snapshot
  ring : Option DumpRing
  bwWindow : Nat
  /-- dump records not written since the latest EV-0141 -/
  dumpDrops : Nat
  deriving DecidableEq, Repr

/-- Boot, pins, clocks, PCIe and SMBus. -/
structure PinState where
  stage : Nat
  recovery : Bool
  selftest : Bool
  selftestTile : Nat
  selftestPermanent : Nat
  selftestMarginal : Nat
  /-- the self-test at start-up overwrites the stacks; after a halt it does not (R425) -/
  selftestStart : Bool
  pgAon : Bool
  enables : List RailGroup
  goods : List RailGroup
  /-- rail groups that the latest power down has removed, in order (R528) -/
  removed : List RailGroup
  poweringDown : Bool
  /-- power down was asked for while a plan ran: it waits for the expulsion tick (R459) -/
  downAtTick : Bool
  standbyFault : Bool
  faultN : Bool
  thermtripN : Bool
  alertHold : Bool
  sysRst : Bool
  perst : Bool
  refclk : Bool
  linkref : Bool
  pcieUp : Bool
  pcieWidth : Nat
  pcieSpeed : Nat
  pcieErrors : Nat
  /-- the strap lands ADDR[2:0], sampled at PG_AON (R537) -/
  addr : Nat
  page : Nat
  status : Table Half
  /-- means of the last complete 1 ms, and sums of the running one, by 4·page + 0 voltage, 1 current, 2 power -/
  means : Table Rat
  sums : Table Rat
  /-- samples in the running 1 ms -/
  samples : Nat
  /-- samples in a row above and below a page's voltage range -/
  overRuns : Table Nat
  underRuns : Table Nat
  /-- reply of the latest SMBus command: bytes, or none for a NACK -/
  reply : Option (List Byte)
  jtagVoid : Bool
  /-- a management-domain reset waits for the expulsion tick (R467) -/
  restartDue : Bool
  heartbeatAge : Nat
  watchdog : Bool
  /-- junction above 125 °C recorded in the OTP (R544) -/
  otpHot : Bool
  deriving DecidableEq, Repr

/-- An off-load block read that has been issued and not delivered (R219, R220). -/
structure Prefetch where
  /-- block index in the off-load buffer -/
  slot : Nat
  /-- destination: a key of tile memory, or an HBM device address -/
  toHbm : Bool
  dest : Nat
  /-- the tensor and step that the plan expects (R220) -/
  tensor : Nat
  step : Nat
  reread : Bool
  deriving DecidableEq, Repr

/-- A host command on a context that takes effect at the next tick (R227, R228, R230): its opcode and operands, and the request
whose response is owed. -/
structure CtxOrder where
  opcode : Nat
  context : Nat
  req : Option Req
  /-- the prompt that has arrived, of a load -/
  tokens : List Nat
  word8 : DWord
  word18 : DWord
  deriving DecidableEq, Repr

/-- The contexts' pools (R223 to R229), their waiting writes, and host DMA. -/
structure CtxState where
  /-- KV blocks and directory pages in use, by number -/
  kvUsed : List Nat
  dirUsed : List Nat
  /-- commands that take effect at the next tick, in their order -/
  orders : List CtxOrder
  offload : Option (Nat × Nat)
  prefetches : List Prefetch
  deriving DecidableEq, Repr

end Sys2Proof.Machine
end

