-- ==== Sys2Proof/Machine/State.lean ====
section
/-!
DEFINITION. Sys2Proof/Machine/State.lean: the state of one ZK4 package with the queue of commands that wait for it, the
state right after reset, and the ways a command can stop.
-/
namespace Sys2Proof.Machine

/-- What the part was given at manufacture (R481): stepping, ordering code, serial number, stack capacities, PCI vendor. -/
structure Identity where
  stepping : Byte
  ordering : Byte
  serial : DWord
  capacity : DWord
  pciVendor : Half
  deriving DecidableEq, Repr

/-- One package. -/
structure State where
  /-- commands that wait, first in, first out (the model's queue, log 1) -/
  pending : List Instr
  /-- draws of free values so far (the model's own, log 2) -/
  free : Nat
  id : Identity
  fr : FrameState
  led : LedgerState
  tiles : Table TileState
  /-- arrays by 16·tile + array -/
  arrays : Table ArrayState
  /-- element levels G0 to G3 by 2·(520·(512·array + row) + column) + element (R60) -/
  cells : Table Nat
  ops : OpsState
  mem : MemState
  upd : UpdState
  num : NumState
  link : LinkSide
  plan : PlanState
  lakes : Table LakeState
  pow : PowerState
  aom : AomState
  cnt : CountState
  pin : PinState
  ctx : CtxState
  ev : EventState
  hl : HealthState
  eo : EoState
  deriving DecidableEq, Repr

/-- What a command can stop on. Each constructor says who raises it. -/
inductive Fault where
  /-- HBM_READ and HBM_WRITE raise it on a device address at or above the reported capacity, which R276 calls
  unmapped: the spec says that such an address does not exist. Safe: the model stops where the hardware has nothing. -/
  | unmapped (addr : Nat)
  deriving DecidableEq, Repr

/-- What the model refuses by name. -/
inductive Refusal where
  /-- A command whose meaning is not written. Raised by an arm of exec only. Safe. -/
  | notModelled (mnemonic : String)
  deriving DecidableEq, Repr

/-- The frame timebase right after reset (R30, R40). -/
def FrameState.reset : FrameState :=
  { counter := 0, cycle := 0, pos := 0, step := 0, run := .ready, late := false, degraded := false, fixedFreq := false,
    boost := false,
    ended := { live := 0, master := 0, fixedFreq := false, boost := false, overTemp := [], testTile := none }, committed := 0, live := 0, master := 0,
    page := { seq := 0, frameNow := 0, committed := 0, planPos := 0, runState := 0, version := 0 },
    running := none, closed := none, nextGen := 1, holdTargets := [], holdFrame := false, holdHist := [],
    lateHist := [], stretchAsked := false, stretchSince := none, stretchShift := 0, failures := [], stopAt := none }

/-- The update side right after reset. -/
def UpdState.reset : UpdState :=
  { engines := [], reds := [], scanned := false, skipped := false, chunkDigests := [], ring := [], gradients := [],
    attempt := 0, redo := false, abandoned := false, sent := false, reports := [], completeReports := [],
    lostMembers := [], snapshots := [], ratioD := [], ratioW := [], ratios := [], mirrorPrev := [],
    mirrorPrevCount := 0, mirrorRecords := [], mirrorOwn := none, mirrorTick := 0, mirrorSend := false }

/-- The numerics right after reset: loss exponent 0x10 (R325), every other field 0 (R322, R339). -/
def NumState.reset : NumState :=
  { scales := [], snapshot := [], lossExp := 16, lossCold := false, lossClean := 0, lossHalvedLast := false,
    lossHalvings := 0, lossInForce := 16, layers := [], ring := [], head := 0, shares := [], windowWhole := false,
    sharedIn := [], sharedOut := [], refusedRuns := 0, block := [] }

/-- The links right after reset. -/
def LinkSide.reset : LinkSide :=
  { links := [], groups := [], seen := [], forward := [], messages := [], delivered := [], parent := none, depth := 0,
    phase := 0, rate := 0, errorNow := none, alignedCount := 0, aligned := false, expelled := [],
    expelTargets := [], transfers := [] }

/-- No plan. -/
def PlanState.reset : PlanState :=
  { loaded := none, manifest := [], staged := none, stagedManifest := [], stage := .idle, loadFrame := 0,
    startFrame := none, prepared := [], loadReq := none, rank := none, overrun := false, stopTick := none,
    stopAsked := false, stoppedClean := false, spanVersion := none, spanPos := 0, spanScan := 0, logHalf := false,
    logOffset := 0, logPending := [] }

/-- Power control right after reset: point 0 on every die, every source at level 0. The cap window is the default 2.0 s. -/
def PowerState.reset : PowerState :=
  { points := [], rising := [], deferred := [], droopNow := [], droopLast := [], droopBefore := [], peak := [],
    peakBelow := [], peakNow := [], peakLast := [], otherPower := 0, capLevel := 0, capBefore := 0, capSum := 0, capHist := [],
    capWindow := 20000, refTile := [], refOther := [], aomLevels := [], aomNow := false, shed := false }

/-- The AOM right after reset: no runtime filter (the defaults come at EOMET_START, R499). -/
def AomState.reset : AomState :=
  { slots := [], staged := [], filters := [], inputs := [], cur := 0, lo := 0, hi := 0, cond := false, loFrom := 0,
    hiFrom := 0, decider := 0, pc := 0 }

/-- Counters right after reset (R508, R511, R513, R517). -/
def CountState.reset : CountState :=
  { tele := { counters := [], overflow := [], cleared := [], config := [], energy := [], ports := [] }, activity := [],
    stagedConfig := [], stagedClear := [], shadow := none, ring := none, bwWindow := 4, dumpDrops := 0 }

/-- Boot and pins right after reset: stage 0 (R481), the rail groups off, clocks present, the PCIe link up (log 13). -/
def PinState.reset : PinState :=
  { stage := 0, recovery := false, selftest := false, selftestTile := 0, selftestPermanent := 0, selftestMarginal := 0,
    selftestStart := true, pgAon := true, enables := [], goods := [], removed := [], poweringDown := false,
    downAtTick := false, standbyFault := false, faultN := false, thermtripN := false, alertHold := false,
    sysRst := false, perst := false, refclk := true, linkref := true, pcieUp := true, pcieWidth := 16, pcieSpeed := 640,
    pcieErrors := 0, addr := 0, page := 0, status := [], means := [], sums := [], samples := 0, overRuns := [],
    underRuns := [], reply := none, jtagVoid := false, restartDue := false, heartbeatAge := 0, watchdog := false, otpHot := false }

/-- Events right after reset: sequence numbers from 0 (R407). -/
def EventState.reset : EventState :=
  { ring := [], nextSeq := 0, acked := 0, lost := none, counts := [], suppressed := [], once := [], msiDue := false,
    msiFrame := none }

/-- The health history of a part as manufactured (R410, R412). -/
def HealthState.reset : HealthState :=
  { time := 0, savedTime := 0, recs := [], log := [], folded := 0, norFailing := false, norReported := false,
    disagreed := [], leaving := [] }

/-- Eomet right after reset: every setting at its default, 16 attestation tokens, empty slots (logs 11 and 12). -/
def EoState.reset : EoState :=
  { buffers := [], slots := [], ignoredDoorbells := 0, msi := [], opened := [], peerOpen := [], live := [],
    staged := [], txns := [], nextTxn := 1, sources := [], reassembly := [], authDrops := 0, authSecond := 0,
    outbox := [], ownerKey := none, ownerCounter := 0, mgmtKey := none, tokens := 16, leaf := 0, leafFuses := 0,
    leafReady := false, otpSecurity := 0, fwSlots := [], fwPreferred := false, fwActive := false, fwVersion := 0,
    fwSecurity := 0, restarts := 0 }

/-- The part that State.reset stands for: a ZK4-384-L of stepping B0 with serial number 1 (log 12). -/
def Identity.reset : Identity :=
  { stepping := 0xB0, ordering := 1, serial := 1, capacity := 0x3030303030303030, pciVendor := 0 }

/-- The machine right after reset. -/
def State.reset : State :=
  { pending := [], free := 0, id := Identity.reset, fr := FrameState.reset,
    led := { ready := none, latest := none, digest := [], first := none }, tiles := [], arrays := [], cells := [],
    ops := { mvms := [], outs := [] },
    mem := { hbm := [], hbmPoison := [], hbmJournal := [], tile := [], tilePoison := [], tileJournal := [], host := [],
             landed := [], planWrote := [], lastCorrected := [], counts := [] },
    upd := UpdState.reset, num := NumState.reset, link := LinkSide.reset, plan := PlanState.reset, lakes := [],
    pow := PowerState.reset, aom := AomState.reset, cnt := CountState.reset, pin := PinState.reset,
    ctx := { kvUsed := [], dirUsed := [], orders := [], offload := none, prefetches := [] },
    ev := EventState.reset, hl := HealthState.reset, eo := EoState.reset }

end Sys2Proof.Machine
end

