-- ==== Sys2Proof/Machine/Settings.lean ====
section
/-!
DEFINITION. Sys2Proof/Machine/Settings.lean: the settings with their identifiers, ranges, defaults and effect kinds (R120, R189,
R340, R428, R465, R485, R486, R491, R521), and how they are read and written.
-/
namespace Sys2Proof.Machine
open Sys2Proof

/-- The effect kinds of R486. -/
inductive EffectKind where
  | tick | boundary | reset
  deriving DecidableEq, Repr

/-- What values a setting takes: an integer range, or one the rule words otherwise. -/
inductive SettingRange where
  | span (lo hi : Nat)
  /-- 0, or a range -/
  | offOr (lo hi : Nat)
  /-- a power of two in a range -/
  | pow2 (lo hi : Nat)
  /-- FP32, positive and finite -/
  | fpPositive
  /-- FP32, +0 or positive and finite -/
  | fpOffOr
  deriving DecidableEq, Repr

/-- One setting. -/
structure SettingRow where
  id : Nat
  range : SettingRange
  default : Nat
  effect : EffectKind

/-- Loupe, Mordant, calibration and Mirror settings (R120, R189, R428). k_sigma is in sixteenths. -/
def settingRowsTile : List SettingRow :=
  [ ⟨0x00020101, .span 64 128, 96, .tick⟩,
    ⟨0x00020201, .span 0 8, 4, .boundary⟩,
    ⟨0x00020202, .span 0 20000, 16000, .boundary⟩,
    ⟨0x00020203, .offOr 3600 604800, 86400, .tick⟩,
    ⟨0x00020204, .offOr 16384 16777216, 1048576, .tick⟩,
    ⟨0x00020301, .span 1 64, 8, .boundary⟩ ]

/-- Numerics settings (R340). Headroom is in sixteenths. -/
def settingRowsNumerics : List SettingRow :=
  [ ⟨0x00040101, .span 16 128, 20, .boundary⟩,
    ⟨0x00040102, .span 4 12, 8, .boundary⟩,
    ⟨0x00040103, .span 1 65535, 2000, .boundary⟩,
    ⟨0x00040104, .span 1 3, 3, .tick⟩,
    ⟨0x00040105, .pow2 16 65536, 256, .boundary⟩,
    ⟨0x00040106, .fpPositive, 0x3C000000, .tick⟩,
    ⟨0x00040107, .fpOffOr, 0, .tick⟩,
    ⟨0x00040108, .span 0 65535, 58982, .tick⟩,
    ⟨0x00040109, .span 0 65535, 64, .tick⟩,
    ⟨0x0004010A, .span 0 65535, 0, .tick⟩,
    ⟨0x0004010B, .span 0 1, 1, .boundary⟩,
    ⟨0x0004010C, .span 16 4096, 256, .boundary⟩ ]

/-- Power settings (R465). The cap window is in tenths of a second. -/
def settingRowsPower : List SettingRow :=
  [ ⟨0x00060101, .span 600 1500, 1400, .tick⟩,
    ⟨0x00060102, .span 5 80, 20, .tick⟩,
    ⟨0x00060103, .span 1000 1650, 1650, .tick⟩,
    ⟨0x00060104, .span 20 80, 40, .tick⟩,
    ⟨0x00060105, .span 4 12, 8, .tick⟩,
    ⟨0x00060106, .span 0 1, 1, .boundary⟩,
    ⟨0x00060107, .span 0 4, 4, .tick⟩,
    ⟨0x00060108, .span 80 98, 95, .tick⟩,
    ⟨0x00060109, .span 70 90, 85, .tick⟩ ]

/-- Management port and telemetry settings (R491, R521). -/
def settingRowsMgmt : List SettingRow :=
  [ ⟨0x00010101, .span 0 1, 0, .reset⟩,
    ⟨0x00010102, .span 0 0xFFFFFFFF, 0, .tick⟩,
    ⟨0x00010103, .span 8 30, 16, .tick⟩,
    ⟨0x00010104, .span 0 0xFFFFFFFF, 0, .tick⟩,
    ⟨0x00010105, .span 1024 65535, 23115, .tick⟩,
    ⟨0x00010106, .span 0 0xFFFFFFFF, 0, .tick⟩,
    ⟨0x00010107, .span 1024 65535, 23116, .tick⟩,
    ⟨0x00010201, .span 0 10, 4, .tick⟩,
    ⟨0x00010202, .span 0 16, 4, .tick⟩,
    ⟨0x00010203, .span 1 255, 255, .tick⟩ ]

/-- Every setting. -/
def settingRows : List SettingRow := settingRowsTile ++ settingRowsNumerics ++ settingRowsPower ++ settingRowsMgmt

/-- The row of an identifier. -/
def settingRow (id : Nat) : Option SettingRow := settingRows.find? (fun r => r.id == id)

/-- Whether a value is in a range. -/
def inRange (r : SettingRange) (v : Word) : Bool :=
  let n := v.toNat
  match r with
  | .span lo hi => decide (lo ≤ n) && decide (n ≤ hi)
  | .offOr lo hi => n == 0 || (decide (lo ≤ n) && decide (n ≤ hi))
  | .pow2 lo hi => decide (lo ≤ n) && decide (n ≤ hi) && n == 2 ^ Nat.log2 n
  | .fpPositive => (ofF32 v).isFinite && !(ofF32 v).isZero && !(ofF32 v).isNeg
  | .fpOffOr => n == 0 || ((ofF32 v).isFinite && !(ofF32 v).isZero && !(ofF32 v).isNeg)

/-- The live value of a setting (R486): what the state lists, else the default. -/
def setting (s : State) (id : Nat) : Nat :=
  match tfind s.eo.live id with
  | some v => v.toNat
  | none => match settingRow id with
    | some r => r.default
    | none => 0

/-- The staged value of a setting, or its live value where nothing is staged. -/
def stagedSetting (s : State) (id : Nat) : Nat :=
  match tfind s.eo.staged id with
  | some v => v.value.toNat
  | none => setting s id

/-- Giving a setting a live value; the default leaves no entry. -/
def setLive (s : State) (id : Nat) (v : Word) : State :=
  match settingRow id with
  | some r => { s with eo.live := tset (BitVec.ofNat 32 r.default) s.eo.live id v }
  | none => s

/-- Plan-bound settings: those that take effect at a plan boundary (R274). -/
def planBound (id : Nat) : Bool :=
  match settingRow id with
  | some r => r.effect == .boundary
  | none => false

/-- RUN_STATE 1 or 2 (R482). -/
def planRuns (s : State) : Bool := s.fr.run == .running || s.fr.run == .held

/-- Whether a setting is live in the sense of R487. -/
def settingIsLive (s : State) (id : Nat) : Bool :=
  let block := id / 65536
  (planBound id && planRuns s) || ((block == 2 || block == 4) && planRuns s) || block == 6

end Sys2Proof.Machine
end

