-- ==== Sys2Proof/Machine/Ops.lean ====
section
/-!
DEFINITION. Sys2Proof/Machine/Ops.lean: the named operations that the commands share: reading and changing the parts of the
state, free values, raising events and charging units (R407 to R416), the escalations (R140, R432), and the plan frame.
-/
namespace Sys2Proof.Machine
open Sys2Proof

/-- A meaning that answers a next state. -/
abbrev Result := Host.Outcome State Fault Refusal

/-- The counter frame now running. -/
def now (s : State) : Nat := s.fr.counter.toNat

/-- The cycle of the counter frame that a command carries (R441). -/
def atCycle (s : State) (cyc : Nat) : State := { s with fr.cycle := cyc }

/-- The next draw of free values (log 2). -/
def draw (s : State) : State := { s with free := s.free + 1 }

/-- A tile. -/
def tileOf (s : State) (t : Nat) : TileState := tget TileState.fresh s.tiles t
/-- Changing a tile. -/
def modTile (s : State) (t : Nat) (f : TileState → TileState) : State :=
  { s with tiles := tmod TileState.fresh s.tiles t f }
/-- The key of an array: 16·tile + array. -/
def arrKey (t a : Nat) : Nat := 16 * t + a
/-- An array by its key. -/
def arrOf (s : State) (k : Nat) : ArrayState := tget ArrayState.fresh s.arrays k
/-- Changing an array. -/
def modArr (s : State) (k : Nat) (f : ArrayState → ArrayState) : State :=
  { s with arrays := tmod ArrayState.fresh s.arrays k f }
/-- A link. -/
def linkOf (s : State) (l : Nat) : LinkState := tget LinkState.fresh s.link.links l
/-- Changing a link. -/
def modLink (s : State) (l : Nat) (f : LinkState → LinkState) : State :=
  { s with link.links := tmod LinkState.fresh s.link.links l f }
/-- A link group by direction (R349). -/
def groupOf (s : State) (d : Nat) : GroupState := tget GroupState.fresh s.link.groups d
/-- Changing a link group. -/
def modGroup (s : State) (d : Nat) (f : GroupState → GroupState) : State :=
  { s with link.groups := tmod GroupState.fresh s.link.groups d f }
/-- A stack's counts. -/
def stackOf (s : State) (k : Nat) : StackCounts := tget StackCounts.zero s.mem.counts k
/-- Changing a stack's counts. -/
def modStack (s : State) (k : Nat) (f : StackCounts → StackCounts) : State :=
  { s with mem.counts := tmod StackCounts.zero s.mem.counts k f }
/-- An update engine, 8·stack + engine. -/
def engineOf (s : State) (k : Nat) : UpdEngine := tget UpdEngine.idle s.upd.engines k
/-- Changing an update engine. -/
def modEngine (s : State) (k : Nat) (f : UpdEngine → UpdEngine) : State :=
  { s with upd.engines := tmod UpdEngine.idle s.upd.engines k f }

/-- Units as events and health records name them (R411). -/
def unitNone : UnitRef := ⟨0, 0⟩
def unitArray (k : Nat) : UnitRef := ⟨1, k⟩
def unitTile (t : Nat) : UnitRef := ⟨2, t⟩
def unitStack (k : Nat) : UnitRef := ⟨3, k⟩
def unitLink (l : Nat) : UnitRef := ⟨4, l⟩
def unitIoDie (d : Nat) : UnitRef := ⟨5, d⟩
def unitPackage : UnitRef := ⟨6, 0⟩
/-- The key of a unit's record. -/
def unitKey (u : UnitRef) : Nat := 4096 * u.kind + u.index

/-- The rank as records report it: 0x3FF without a plan (R413, R484). -/
def rankField (s : State) : Nat := s.plan.rank.getD 0x3FF

/-- The identifier of the loaded plan, or 0. -/
def planIdField (s : State) : Word :=
  match s.plan.loaded with
  | some p => planId p
  | none => 0

/-- Adding to the activity that a tick's counters take (R509): block index, event code, amount. -/
def active (s : State) (block code n : Nat) : State :=
  { s with cnt.activity := tmod 0 s.cnt.activity (256 * block + code) (· + n) }

/-- Blocks of the programmable counters: tiles, then base dies, then I/O dies. -/
def blockTile (t : Nat) : Nat := t
def blockBase (k : Nat) : Nat := 256 + k
def blockIo (d : Nat) : Nat := 264 + d

/-- Payload bytes at a port (R513). -/
def portBytes (s : State) (port n : Nat) : State :=
  { s with cnt.tele.ports := tmod PortWindow.zero s.cnt.tele.ports port (fun w => { w with now := w.now + n }) }

/-- The compute die of a tile (R7). -/
def dieOf (t : Nat) : Nat := t / 64
/-- The AOM's level on a die: 16 once it has shed, else the highest that a filter holds (R444, R459). -/
def aomLevel (s : State) (die : Nat) : Nat :=
  if s.pow.shed then 16 else (s.pow.aomLevels.filter (fun x => x.1 % 4 == die)).foldl (fun m x => max m x.2) 0
/-- The levels that the sources request of a tile, in the order of R444: droop, peak, cap, thermal, AOM. -/
def tileLevels (s : State) (t : Nat) : List Nat :=
  [(tileOf s t).droop, tget 0 s.pow.peak (dieOf t), s.pow.capLevel, (tileOf s t).thermal, aomLevel s (dieOf t)]
/-- The limiter level of a tile: the highest requested (R444). -/
def limiterLevel (s : State) (t : Nat) : Nat := (tileLevels s t).foldl max 0
/-- The source in force: 0 none, else the first that requests the level (R444, R462). -/
def limiterSource (s : State) (t : Nat) : Nat :=
  if limiterLevel s t = 0 then 0 else ((tileLevels s t).findIdx (fun l => l == limiterLevel s t)) + 1

/-! ### Events (R407, R408, R484) -/

/-- The record stored for an event. -/
def eventRecord (s : State) (code : Nat) (u : UnitRef) (level supp : Nat) (ps : List Nat) : EventRec :=
  { code := code, unit := u, level := level, suppressed := supp, seq := s.ev.nextSeq, time := s.hl.time, frame := now s,
    rank := rankField s, planId := planIdField s, ps := ps.take 4 }

/-- The 64 bytes of an event record (R484). -/
def eventBytes (e : EventRec) : List Byte :=
  bytesLE 8 (e.code + e.unit.kind * 2 ^ 16 + e.unit.index * 2 ^ 20 + e.level * 2 ^ 32 + e.suppressed * 2 ^ 40)
  ++ bytesLE 8 (e.seq.toNat + e.time.toNat * 2 ^ 32)
  ++ bytesLE 8 (e.frame % 2 ^ 48 + e.rank * 2 ^ 48)
  ++ bytesLE 8 e.planId.toNat
  ++ (List.range 4).flatMap (fun i => bytesLE 8 (e.ps.getD i 0))

/-- The 16-byte auth field of a datagram over its header and payload (R471): zero while no key is set. -/
def authField (s : State) (msg : List Byte) : List Byte :=
  match s.eo.mgmtKey with
  | some k => (hmacSha256 k msg).take 16
  | none => List.replicate 16 0

/-- The first 16 bytes of a datagram header (R471). -/
def datagramHead (type fragment : Nat) (seq : Word) (len : Nat) : List Byte :=
  [0x5A, 0x4B, 0x4D, 0x50, 0x01] ++ bytesLE 1 type ++ bytesLE 1 fragment ++ [0] ++ bytesLE 4 seq.toNat ++ bytesLE 2 len ++ [0, 0]

/-- Putting a message on the management port and counting its UDP payload (R513 port 127). -/
def sendMgmt (s : State) (m : OutMsg) (bytes : Nat) : State :=
  portBytes { s with eo.outbox := m :: s.eo.outbox } 127 bytes

/-- Sending event records to the collector (R473): the address 0 is the limited broadcast. -/
def sendEvents (s : State) (recs : List EventRec) : State :=
  match recs with
  | [] => s
  | e :: _ =>
    let payload := recs.flatMap eventBytes
    let head := datagramHead 3 0x40 e.seq payload.length
    let addr := setting s 0x00010106
    let dest : Word := if addr = 0 then 0xFFFFFFFF else BitVec.ofNat 32 addr
    sendMgmt s (.events dest (BitVec.ofNat 16 (setting s 0x00010107)) e.seq payload (authField s (head ++ payload)))
      (32 + payload.length)

/-- MSI vector 16 signals new records at most once per millisecond, which is 10 frames (R469). -/
def msiEvent (s : State) : State :=
  let due := match s.ev.msiFrame with
    | some f => decide (f + 10 ≤ now s)
    | none => true
  if due then { s with eo.msi := tmod 0 s.eo.msi 16 (· + 1), ev.msiDue := false, ev.msiFrame := some (now s) }
  else { s with ev.msiDue := true }

/-- Storing a record: numbered, kept in the ring of 8,192, sent to the collector. A record that leaves the ring before it
is acknowledged is lost (R409). -/
def storeEvent (s : State) (e : EventRec) : State :=
  let ring := s.ev.ring ++ [e]
  let out := ring.take (ring.length - 8192)
  let lostNow := out.filter (fun r => decide (s.ev.acked ≤ r.seq.toNat))
  let lost := match lostNow.head?, lostNow.getLast? with
    | some a, some b => some ((s.ev.lost.map Prod.fst).getD a.seq, b.seq)
    | _, _ => s.ev.lost
  let s := { s with ev.ring := ring.drop (ring.length - 8192), ev.nextSeq := s.ev.nextSeq + 1, ev.lost := lost }
  msiEvent (sendEvents s [e])

/-- Raising an event (R407). At most 64 records of one code are stored in a second of health time; the rest are counted
for EV-0122, which is itself not limited (R408). -/
def raise (s : State) (code : Nat) (u : UnitRef) (level : Nat) (ps : List Nat) : State :=
  if tget 0 s.ev.counts code < 64 ∨ code = 0x0122 then
    storeEvent { s with ev.counts := tmod 0 s.ev.counts code (· + 1) } (eventRecord s code u level 0 ps)
  else { s with ev.suppressed := tmod 0 s.ev.suppressed code (· + 1) }

/-- No escalation level (R484). -/
def noLevel : Nat := 7

/-- Raising an event once per group of n counter frames (R546), for one unit. -/
def raiseOnce (s : State) (n : Nat) (code : Nat) (u : UnitRef) (level : Nat) (ps : List Nat) : State :=
  let key := code * 65536 + unitKey u
  let group := now s / n + 1
  if tget 0 s.ev.once key = group then s
  else raise { s with ev.once := tset 0 s.ev.once key group } code u level ps

/-! ### The health history (R412 to R416) -/

/-- A unit's record with the log applied. -/
def health (s : State) (u : UnitRef) : HealthRec := tget HealthRec.fresh s.hl.recs (unitKey u)
/-- Changing a unit's record. -/
def modHealth (s : State) (u : UnitRef) (f : HealthRec → HealthRec) : State :=
  { s with hl.recs := tmod HealthRec.fresh s.hl.recs (unitKey u) f }

/-- A saturating 32-bit count. -/
def satIncr (w : Word) : Word := if w = 0xFFFFFFFF then w else w + 1

/-- The record after a counted event at a time (R415). -/
def shiftCounted (r : HealthRec) (t : Word) : HealthRec :=
  { r with t3 := r.t2, t2 := r.t1, t1 := t, events := satIncr r.events }

/-- Whether a record's latest counted event makes its unit permanent (R415): three counted events within 24 hours. -/
def threeInDay (r : HealthRec) (t : Word) : Bool :=
  decide (3 ≤ r.events.toNat) && decide (t.toNat ≤ r.t3.toNat + 86400)

/-- Giving a unit a state, with its time and cause (R412). -/
def setUnitState (s : State) (u : UnitRef) (st : UnitState) (code : Nat) : State :=
  modHealth s u (fun r => { r with state := st, since := s.hl.time, cause := code % 65536 })

/-- Charging an event to a unit under a fault kind (R413 to R416): the counter, the classification of a counted event, the
log entry, and retirement of a unit that becomes permanent, with EV-0130. -/
def charge (s : State) (u : UnitRef) (kind : Nat) (counted nominal : Bool) (code : Nat) : State :=
  let r0 := health s u
  let r1 := { r0 with counters := tmod 0 r0.counters kind (fun c => satTo 65535 (c + 1)) }
  let r2 := if counted then shiftCounted r1 s.hl.time else r1
  let perm := (counted && threeInDay r2 s.hl.time) || nominal
  let entry : LogEntry := { time := s.hl.time, code := code % 65536, unit := u, counter := kind, counted := counted,
                            nominal := nominal, permanent := perm, frame := now s, rank := rankField s }
  let s := modHealth s u (fun _ => r2)
  let s := { s with hl.log := s.hl.log ++ [entry] }
  if perm ∧ r2.state ≠ .retired then raise (setUnitState s u .retired code) 0x0130 u noLevel [code] else s

/-- Raising an event that is charged to its unit. -/
def raiseCharged (s : State) (code : Nat) (u : UnitRef) (level : Nat) (ps : List Nat) (kind : Nat) (counted : Bool) : State :=
  charge (raise s code u level ps) u kind counted false code

/-! ### The plan frame -/

/-- Changing the plan frame of a run, whether it is running or closed. -/
def modGen (s : State) (gen : Nat) (f : PlanFrame → PlanFrame) : State :=
  { s with fr.running := s.fr.running.map (fun p => if p.gen = gen then f p else p),
           fr.closed := s.fr.closed.map (fun p => if p.gen = gen then f p else p) }

/-- The running plan frame's run, or 0. -/
def runningGen (s : State) : Nat := (s.fr.running.map PlanFrame.gen).getD 0

/-- Changing a tile's counts in a plan frame. -/
def modCounts (p : PlanFrame) (t : Nat) (f : TileCounts → TileCounts) : PlanFrame :=
  { p with tiles := tmod TileCounts.zero p.tiles t f }

/-- Counting on a tile of a run (R147). -/
def tally (s : State) (gen t : Nat) (f : TileCounts → TileCounts) : State := modGen s gen (fun p => modCounts p t f)

/-- A level taken in a run and on a tile. -/
def noteLevel (s : State) (gen : Nat) (t : Option Nat) (level : Nat) : State :=
  modGen s gen (fun p =>
    let p := { p with level := max p.level level }
    match t with
    | some t => modCounts p t (fun c => { c with level := max c.level level })
    | none => p)

/-- An exception entry of a run: the first 59 are kept (R148). -/
def addExc (s : State) (gen : Nat) (e : ExcEntry) : State :=
  modGen s gen (fun p =>
    if p.excs.length < 59 then { p with excs := p.excs ++ [e] } else { p with excOverflow := true })

/-- An L0 correction counted in the ledger record of the running plan frame (R146). -/
def countCorrected (s : State) : State :=
  { s with fr.running := s.fr.running.map (fun p => { p with corrected := p.corrected + 1 }) }

/-- The rank block the package runs. -/
def myBlock (s : State) : Option RankBlock :=
  match s.plan.loaded, s.plan.rank with
  | some p, some r => rankBlock p r
  | _, _ => none

/-- The template of a plan frame. -/
def frameTemplate (s : State) (f : PlanFrame) : Option Template :=
  match s.plan.loaded, myBlock s with
  | some p, some b => b.templates[sqTemplate (seqEntry p f.entry)]?
  | _, _ => none

/-- The descriptor of a package index in a template. -/
def descOf (t : Template) (op : Nat) : Option Desc := t.descs.find? (fun d => dsIndex d == op)

/-- The descriptor that the running plan frame gives a package index, with its template. -/
def runningDesc (s : State) (op : Nat) : Option (Template × Desc) :=
  match s.fr.running with
  | none => none
  | some f => match frameTemplate s f with
    | none => none
    | some t => (descOf t op).map (fun d => (t, d))

/-! ### Sync events and escalation (R371, R432) -/

/-- The links that carry sync events: those not down, but for links to an expelled package (R371). -/
def liveLinks (s : State) : List Nat :=
  (List.range 48).filter (fun l =>
    ((linkOf s l).width == 1 || (linkOf s l).width == 2) && !(s.link.expelled.contains (linkOf s l).farRank))
/-- Putting a sync event in the line for some links. -/
def relay (s : State) (e : SyncEvent) (links : List Nat) : State :=
  { s with link.forward := s.link.forward ++ [{ event := e, links := links }] }
/-- Flooding a sync event of the package's own, once (R371). -/
def flood (s : State) (k : SyncKind) (frame payload : Nat) : State :=
  let origin := s.plan.rank.getD 0
  if s.link.seen.contains (k, origin, frame) then s
  else relay { s with link.seen := (k, origin, frame) :: s.link.seen }
    { kind := k, origin := origin, frame := frame, payload := payload } (liveLinks s)

/-- The counter frame that an EXPEL sent now names: the running one if at least 16 µs (19,200 cycles) of it remain (R432). -/
def expelFrame (s : State) : Nat := if s.fr.cycle + 19200 ≤ 120000 then now s else now s + 1

/-- Flooding EXPEL for a rank, and recording it as this package will process it at its tick (R432). -/
def floodExpel (s : State) (rank : Nat) : State :=
  let f := expelFrame s
  let s := flood s .expel f rank
  { s with link.expelTargets := if s.link.expelTargets.contains (f + 1, rank) then s.link.expelTargets
                                else s.link.expelTargets ++ [(f + 1, rank)] }

/-- Escalation to L3 (R140, R432): the event of the cause, EV-0250, and EXPEL of the package's own rank. A package without a
rank has no job to leave. -/
def takeL3 (s : State) (code : Nat) (u : UnitRef) (ps : List Nat) : State :=
  let s := raise s code u 3 ps
  let s := { s with fr.running := s.fr.running.map (fun p => { p with level := max p.level 3 }) }
  let s := raise s 0x0250 unitPackage 3 []
  match s.plan.rank with
  | some r => floodExpel s r
  | none => s

end Sys2Proof.Machine
end

