-- ==== Sys2Proof/Machine/Memory.lean ====
section
/-!
DEFINITION. Sys2Proof/Machine/Memory.lean: the accesses to HBM and tile memory that the commands share: codewords and lines,
poison (R285 to R287), the write journal (R283) and the bank view (R289).
-/
namespace Sys2Proof.Machine
open Sys2Proof

/-! ### Units of access -/

/-- The aligned units of `u` bytes that `n` bytes from an address cover. -/
def unitsOf (u a n : Nat) : List Nat :=
  if n = 0 then [] else (List.range ((a + n + u - 1) / u - a / u)).map (fun i => u * (a / u + i))
/-- The 64-byte codewords of HBM that a range covers (R278). -/
def linesOf (a n : Nat) : List Nat := unitsOf 64 a n
/-- The 32-byte lines of tile memory that a range covers (R22). -/
def rowsOf (a n : Nat) : List Nat := unitsOf 32 a n
/-- The bytes of a unit after a write of bytes at an address, as the merge of R278 forms them. -/
def mergeUnit (old : List Byte) (u base a : Nat) (bytes : List Byte) : List Byte :=
  (List.range u).map (fun i =>
    if a ≤ base + i ∧ base + i < a + bytes.length then bytes.getD (base + i - a) 0 else old.getD i 0)
/-- Whether a write covers the whole unit. -/
def covers (u base a n : Nat) : Bool := decide (a ≤ base) && decide (base + u ≤ a + n)

/-! ### HBM -/

/-- A stack's reported capacity in bytes (R2, R481). -/
def stackBytes (s : State) (k : Nat) : Nat := bitsOf s.id.capacity (8 * k + 7) (8 * k) * 2 ^ 30
/-- The stack of a device address, and the offset in it (R276). -/
def devStack (a : Nat) : Nat := a / 2 ^ 36
def devOffset (a : Nat) : Nat := a % 2 ^ 36
/-- Whether a device address is mapped (R276). -/
def hbmMapped (s : State) (a : Nat) : Bool := decide (devStack a < 8) && decide (devOffset a < stackBytes s (devStack a))
/-- The base of a stack's device-reserved region (R277), as a device address. -/
def reservedBase (s : State) (k : Nat) : Nat := k * 2 ^ 36 + (stackBytes s k - 2 ^ 28)
/-- Whether a range of device addresses is mapped and outside the device-reserved region. -/
def hbmUsable (s : State) (a n : Nat) : Bool :=
  let k := devStack a
  decide (k < 8) && decide (devOffset a + n + 2 ^ 28 ≤ stackBytes s k)

/-- The poison of the codeword at a device address. -/
def hbmMark (s : State) (a : Nat) : Option PoisonMark := tfind s.mem.hbmPoison (a / 64 * 64)
/-- The marks of the poisoned codewords of a range, with their addresses. -/
def hbmMarks (s : State) (a n : Nat) : List (Nat × PoisonMark) :=
  (linesOf a n).filterMap (fun l => (hbmMark s l).map (fun m => (l, m)))
/-- The data bytes of a range of HBM. -/
def hbmBytes (s : State) (a n : Nat) : List Byte := readBytes s.mem.hbm a n

/-- Setting or clearing the poison of a codeword. -/
def setMark (s : State) (line : Nat) (m : Option PoisonMark) : State :=
  match m with
  | some m => { s with mem.hbmPoison := tput s.mem.hbmPoison line m }
  | none => { s with mem.hbmPoison := terase s.mem.hbmPoison line }
/-- Storing a whole codeword. -/
def putLine (s : State) (line : Nat) (data : List Byte) (m : Option PoisonMark) : State :=
  setMark { s with mem.hbm := writeBytes s.mem.hbm line data } line m
/-- The poison pattern's data: 64 zero bytes (R285). -/
def poisonData : List Byte := List.replicate 64 0

/-- Bytes read from or written to a stack, in the base die's counters and at its port (R509, R513). -/
def stackRead (s : State) (k n : Nat) : State := portBytes (active s (blockBase k) 1 n) (98 + 2 * k) n
def stackWritten (s : State) (k n : Nat) : State := portBytes (active s (blockBase k) 2 n) (99 + 2 * k) n

/-- Journaled bytes of a run on a stack. -/
def journalBytes (s : State) (gen k : Nat) : Nat :=
  64 * s.mem.hbmJournal.countP (fun p => p.gen == gen && devStack p.addr == k)
/-- The pre-image of a codeword, kept the first time a run writes to it (R283). -/
def saveLine (s : State) (gen line : Nat) : State :=
  if s.mem.hbmJournal.any (fun p => p.gen == gen && p.addr == line) then s
  else
    let pre : PreImage := { gen := gen, addr := line, data := hbmBytes s line 64, poison := hbmMark s line }
    let s := { s with mem.hbmJournal := s.mem.hbmJournal ++ [pre] }
    let k := devStack line
    let s := active s (blockBase k) 4 1
    modStack s k (fun c => { c with journalHigh := max c.journalHigh (journalBytes s gen k) })

/-- How a write reaches HBM: a journaled write of a run, or one that R284 does not journal. -/
inductive WriteMode where
  | journaled (gen : Nat)
  | plain
  deriving DecidableEq, Repr

/-- One codeword of a write (R278, R283, R285): a whole codeword clears poison; a partial write to a poisoned codeword leaves
it poisoned. Poisoned source data stores the poison pattern (R286). -/
def writeLine (s : State) (mode : WriteMode) (line a : Nat) (bytes : List Byte) (poison : Option (Nat × Nat)) : State :=
  let s := match mode with
    | .journaled gen => { saveLine s gen line with mem.planWrote := line :: (saveLine s gen line).mem.planWrote }
    | .plain => s
  let gen : Option Nat := match mode with
    | .journaled gen => some gen
    | .plain => none
  let k := devStack line
  let s := stackWritten s k 64
  let s := if covers 64 line a bytes.length then s else active (stackRead s k 64) (blockBase k) 3 1
  match poison with
  | some (origin, number) => putLine s line poisonData (some { gen := gen, origin := origin, number := number })
  | none =>
    if (hbmMark s line).isSome && !(covers 64 line a bytes.length) then s
    else putLine s line (mergeUnit (hbmBytes s line 64) 64 line a bytes) none
/-- A write of bytes to HBM; `poison` gives the origin and number of a codeword's poison. -/
def writeHbm (s : State) (mode : WriteMode) (a : Nat) (bytes : List Byte) (poison : Nat → Option (Nat × Nat)) : State :=
  (linesOf a bytes.length).foldl (fun s l => writeLine s mode l a bytes (poison l)) s
/-- The poisoned codewords that a write covers only in part: consumptions by the writing operation (R285). -/
def partialPoison (s : State) (a n : Nat) : List (Nat × PoisonMark) :=
  (hbmMarks s a n).filter (fun p => !(covers 64 p.1 a n))
/-- No poison in the written data. -/
def noPoison : Nat → Option (Nat × Nat) := fun _ => none

/-! ### Tile memory -/

/-- The key of a byte of a tile's memory: 2²³·tile + offset. -/
def tileKey (t off : Nat) : Nat := 2 ^ 23 * t + off
/-- The bytes of a range of a tile's memory. -/
def tileBytes (s : State) (t off n : Nat) : List Byte := readBytes s.mem.tile (tileKey t off) n
/-- The poison of a line of tile memory. -/
def tileMark (s : State) (key : Nat) : Option PoisonMark := tfind s.mem.tilePoison (key / 32 * 32)
/-- The marks of the poisoned lines of a range. -/
def tileMarks (s : State) (t off n : Nat) : List (Nat × PoisonMark) :=
  (rowsOf (tileKey t off) n).filterMap (fun l => (tileMark s l).map (fun m => (l, m)))
/-- The pre-image of a line of tile memory, kept for the replay (log 10). -/
def saveRow (s : State) (gen line : Nat) : State :=
  if s.mem.tileJournal.any (fun p => p.gen == gen && p.addr == line) then s
  else { s with mem.tileJournal := s.mem.tileJournal ++
    [{ gen := gen, addr := line, data := readBytes s.mem.tile line 32, poison := tileMark s line }] }
/-- One line of a write to tile memory: poisoned data marks it, a whole write clears it. -/
def writeRow (s : State) (gen : Option Nat) (line a : Nat) (bytes : List Byte) (poison : Option (Nat × Nat)) : State :=
  let s := match gen with
    | some g => saveRow s g line
    | none => s
  let s := { s with mem.tile := writeBytes s.mem.tile line (mergeUnit (readBytes s.mem.tile line 32) 32 line a bytes) }
  match poison with
  | some (origin, number) =>
    { s with mem.tilePoison := tput s.mem.tilePoison line { gen := gen, origin := origin, number := number } }
  | none => if covers 32 line a bytes.length then { s with mem.tilePoison := terase s.mem.tilePoison line } else s
/-- A write of bytes to tile memory by a run, or by no run. -/
def writeTile (s : State) (gen : Option Nat) (t off : Nat) (bytes : List Byte) (poison : Nat → Option (Nat × Nat)) : State :=
  (rowsOf (tileKey t off) bytes.length).foldl
    (fun s l => writeRow s gen l (tileKey t off) bytes (poison l)) s

/-! ### Undoing and keeping provisional writes (R283, R284) -/

/-- Writing a run's pre-images back and dropping them. -/
def restoreGen (s : State) (gen : Nat) : State :=
  let s := (s.mem.hbmJournal.filter (fun p => p.gen == gen)).foldl
    (fun s p => putLine s p.addr (if p.poison.isSome then poisonData else p.data) p.poison) s
  let s := (s.mem.tileJournal.filter (fun p => p.gen == gen)).foldl
    (fun s p => { s with
      mem.tile := writeBytes s.mem.tile p.addr p.data,
      mem.tilePoison := match p.poison with
        | some m => tput s.mem.tilePoison p.addr m
        | none => terase s.mem.tilePoison p.addr }) s
  { s with mem.hbmJournal := s.mem.hbmJournal.filter (fun p => p.gen != gen),
           mem.tileJournal := s.mem.tileJournal.filter (fun p => p.gen != gen) }
/-- Dropping a committed run's pre-images. -/
def dropGen (s : State) (gen : Nat) : State :=
  { s with mem.hbmJournal := s.mem.hbmJournal.filter (fun p => p.gen != gen),
           mem.tileJournal := s.mem.tileJournal.filter (fun p => p.gen != gen) }
/-- What a host read of a codeword returns: its committed content (R42, R283), the oldest pre-image that an open frame has. -/
def committedLine (s : State) (line : Nat) : List Byte × Bool :=
  match s.mem.hbmJournal.find? (fun p => p.addr == line) with
  | some p => (if p.poison.isSome then poisonData else p.data, p.poison.isSome)
  | none => (hbmBytes s line 64, (hbmMark s line).isSome)

/-! ### Operand spaces (R244) and the bank view (R289) -/

/-- The region of a plan that holds a device address. -/
def regionAt (p : PlanImage) (a : Nat) : Option (BitVec 128) :=
  p.regions.find? (fun e => decide (rgAddr e ≤ a) && decide (a < rgAddr e + rgLength e))
/-- The device address that a plan operation reaches through the bank view of a version: in a region of kind 8 an offset
below half the length addresses the committed bank, one above it the alternate bank. -/
def bankAddr (s : State) (view : Word) (a : Nat) : Nat :=
  match s.plan.loaded with
  | none => a
  | some p =>
    match regionAt p a with
    | none => a
    | some e =>
      if rgKind e = 8 then
        let half := rgLength e / 2
        let o := a - rgAddr e
        let bank := if o < half then view.toNat % 2 else 1 - view.toNat % 2
        rgAddr e + bank * half + o % half
      else a
/-- Whether a codeword of a device address takes no journaled writes (R284): only the ledger writer, the switch log, buddy
checkpoints, the update engines and root jobs write there, the last two in the alternate bank of a version-bank region. -/
def unjournaledAt (s : State) (a : Nat) : Bool :=
  match s.plan.loaded.bind (fun p => regionAt p a) with
  | some e =>
    [1, 2, 9].contains (rgKind e) ||
    (rgKind e == 8 && decide ((a - rgAddr e) / max 1 (rgLength e / 2) % 2 ≠ s.fr.master.toNat % 2))
  | none => false

/-- Where an operand word points in an iteration (R244): a tile's memory, or HBM through the bank view. -/
inductive Place where
  | tile (t off : Nat)
  | hbm (a : Nat)
  | none
  deriving DecidableEq, Repr

/-- The bytes of a place. -/
def placeBytes (s : State) (p : Place) (n : Nat) : List Byte :=
  match p with
  | .tile t off => tileBytes s t off n
  | .hbm a => hbmBytes s a n
  | .none => List.replicate n 0
/-- The poisoned units of a place, with their marks. -/
def placeMarks (s : State) (p : Place) (n : Nat) : List (Nat × PoisonMark) :=
  match p with
  | .tile t off => tileMarks s t off n
  | .hbm a => hbmMarks s a n
  | .none => []
/-- Whether a run is still running or closed: a discarded run writes nothing. -/
def openGen (s : State) (gen : Nat) : Bool :=
  s.fr.running.any (fun p => p.gen == gen) || s.fr.closed.any (fun p => p.gen == gen)
/-- A plan operation's write of bytes to a place, journaled wherever it goes (R284). -/
def placeWrite (s : State) (gen : Nat) (p : Place) (bytes : List Byte) (poison : Nat → Option (Nat × Nat)) : State :=
  if !(openGen s gen) then s else
  match p with
  | .tile t off => writeTile s (some gen) t off bytes poison
  | .hbm a => writeHbm s (.journaled gen) a bytes poison
  | .none => s
/-- The poisoned units that a write to a place covers only in part: consumptions by the writing operation (R22, R285). -/
def placePartial (s : State) (p : Place) (n : Nat) : List (Nat × PoisonMark) :=
  match p with
  | .hbm a => partialPoison s a n
  | .tile t off => (tileMarks s t off n).filter (fun m => !(covers 32 m.1 (tileKey t off) n))
  | .none => []
/-! ### Discarding and restarting runs (R35, R136, R138, R302) -/

/-- What the update engines restore when an update frame fails. -/
def restoreUpdate (s : State) (x : UpdSnapshot) : State :=
  { s with
    upd.scanned := x.scanned, upd.skipped := x.skipped, upd.engines := x.engines, upd.reds := x.reds,
    upd.chunkDigests := x.chunkDigests, upd.ratioD := x.ratioD, upd.ratioW := x.ratioW }
/-- Dropping what the operations of a run keep: outputs, MVMs in flight, suspects, drift sums and engine snapshots. -/
def dropWork (s : State) (gen : Nat) : State :=
  { s with
    ops.outs := s.ops.outs.filter (fun o => o.gen != gen), ops.mvms := s.ops.mvms.filter (fun m => m.gen != gen),
    tiles := s.tiles.map (fun x => (x.1, { x.2 with queue := x.2.queue.filter (fun q => q.gen != gen) })),
    arrays := s.arrays.map (fun x => (x.1, { x.2 with drift := x.2.drift.filter (fun d => d.gen != gen) })),
    upd.snapshots := s.upd.snapshots.filter (fun x => x.1 != gen) }
/-- Discarding the results of a run. -/
def discardGen (s : State) (gen : Nat) : State :=
  let s := restoreGen s gen
  let s := match s.upd.snapshots.find? (fun x => x.1 == gen) with
    | some x => restoreUpdate s x.2
    | none => s
  dropWork s gen
/-- The run of a plan position with nothing done. -/
def newRun (gen index step phase entry iteration started : Nat) (view : Word) : PlanFrame :=
  { gen := gen, index := index, step := step, phase := phase, entry := entry, iteration := iteration, started := started,
    replay := false, late := false, view := view, inflight := [], completed := [], fallback := [], tiles := [], excs := [],
    excOverflow := false, corrected := 0, poison := 0, substituted := 0, fallbackTensors := 0, nonfinite := 0, level := 0,
    failures := [], num := FrameNumerics.zero, gradients := [] }
/-- The replay of a plan frame: it keeps its view, its granted layers and its link data (R136). -/
def replayRun (f : PlanFrame) (gen started : Nat) : PlanFrame :=
  { newRun gen f.index f.step f.phase f.entry f.iteration started f.view with
    replay := true, late := f.late, fallback := f.fallback, gradients := f.gradients, level := 1 }
/-- The engines' snapshot for an open run. -/
def takeSnapshot (s : State) (gen : Nat) : State :=
  let x : UpdSnapshot := { scanned := s.upd.scanned, skipped := s.upd.skipped, engines := s.upd.engines, reds := s.upd.reds,
                           chunkDigests := s.upd.chunkDigests, ratioD := s.upd.ratioD, ratioW := s.upd.ratioW }
  { s with upd.snapshots := s.upd.snapshots ++ [(gen, x)] }
/-- Restarting a run as its replay; its snapshot, if it had one, serves the replay. -/
def restartRun (s : State) (f : PlanFrame) : State :=
  let had := s.upd.snapshots.any (fun x => x.1 == f.gen)
  let s := discardGen s f.gen
  let s := if had then takeSnapshot s s.fr.nextGen else s
  { s with fr.running := some (replayRun f s.fr.nextGen (now s)), fr.closed := none, fr.nextGen := s.fr.nextGen + 1 }
/-- A failed check of a run (R133, R548). A late frame whose check fails is restarted at once (R138), with the failure counted
for R140. -/
def failCheck (s : State) (gen : Nat) (code : Nat) (u : UnitRef) : State :=
  let s := modGen s gen (fun p => { p with failures := p.failures ++ [{ code := code, unit := u, cycle := s.fr.cycle }] })
  match s.fr.running with
  | some f =>
    if f.gen = gen ∧ s.fr.late ∧ f.replay = false then
      restartRun { raise s 0x0220 u 1 [] with fr.failures := s.fr.failures ++ [(now s, u)] } f
    else s
  | none => s

/-- A place further on. -/
def Place.plus (p : Place) (n : Nat) : Place :=
  match p with
  | .tile t off => .tile t (off + n)
  | .hbm a => .hbm (a + n)
  | .none => .none

end Sys2Proof.Machine
end

