-- ==== Sys2Proof/Machine/Check.lean ====
section
/-!
DEFINITION. Sys2Proof/Machine/Check.lean: failed checks and their levels: residue mismatches (R72, R140), consumed poison (R140,
R285 to R287), the event queue's overflow (R128) and errors in the handling machinery (R140).
-/
namespace Sys2Proof.Machine
open Sys2Proof

/-- An exception entry with its kind-specific words, at the running cycle (R148). -/
def excEntry (s : State) (kind tile array level causes op : Nat) (a b c d : Int) : ExcEntry :=
  { kind := kind, tile := tile, array := array, level := level, causes := causes, op := op, a := a, b := b, c := c, d := d,
    cycle := s.fr.cycle }

/-- A run's exception entry with the level it took, on a tile if one applies. -/
def noteExc (s : State) (gen : Nat) (tile : Option Nat) (e : ExcEntry) : State := noteLevel (addExc s gen e) gen tile e.level

/-- A residue mismatch outside Prism (R72, R140): EV-0230 with tile and engine, L1, charged to the tile. -/
def residueMismatch (s : State) (gen t engine op : Nat) (r : ResidueErr) : State :=
  let s := tally s gen t (fun c => { c with residue := c.residue + 1 })
  let s := noteExc s gen (some t) (excEntry s 3 t 0 1 0 op engine r.stage r.predicted r.observed)
  let s := failCheck s gen 0x0230 (unitTile t)
  raiseCharged s 0x0230 (unitTile t) 1 [t, engine] 1 true

/-- An error in the handling machinery (R140): L3 with EV-0222, charged to the unit (R414); `k` is the unit of R148 kind 9. -/
def machineryError (s : State) (gen : Nat) (tile : Option Nat) (u : UnitRef) (k op : Nat) : State :=
  let s := noteExc s gen tile (excEntry s 9 (tile.getD 0) 0 3 0 op k 0 0 0)
  charge (takeL3 s 0x0222 u []) u 7 true false 0x0222

/-- The unit of a poisoned word's origin (R548): origins of R148 kind 4. -/
def originUnit (t origin number : Nat) : UnitRef :=
  match origin with
  | 1 => unitStack number
  | 3 => unitLink number
  | 2 => if number = 0 then unitTile t else unitIoDie (number - 1)
  | _ => unitTile t

/-- A consumption of poison (R140, R286, R287): EV-0220, L1 where the word was in flight, L3 where it was at rest. -/
def poisonConsumed (s : State) (gen t op origin number addr : Nat) (atRest : Bool) : State :=
  let level := if atRest then 3 else 1
  let u := originUnit t origin number
  let s := modGen s gen (fun p => { p with poison := p.poison + 1 })
  let s := noteExc s gen (some t)
    (excEntry s 4 t 0 level 0 op origin (bitNat atRest) (addr % 2 ^ 32) number)
  if atRest then takeL3 s 0x0220 u [] else failCheck s gen 0x0220 u

/-- Whether a poisoned word is at rest: its last write came from no open plan frame (R287). -/
def markAtRest (s : State) (m : PoisonMark) : Bool :=
  match m.gen with
  | none => true
  | some g => !((s.fr.running.any (fun p => p.gen == g)) || (s.fr.closed.any (fun p => p.gen == g)))

/-- Consumptions of poisoned units by an operation of a run. -/
def consumeMarks (s : State) (gen t op : Nat) (ms : List (Nat × PoisonMark)) : State :=
  ms.foldl (fun s m => poisonConsumed s gen t op m.2.origin m.2.number m.1 (markAtRest s m.2)) s

/-- An entry that arrives while a tile's event queue holds 8 overflows it: L3, EV-0208, charged to the tile (R128, R414). -/
def queueOverflow (s : State) (gen t kind op : Nat) : State :=
  let u := unitTile t
  let s := noteExc s gen (some t) (excEntry s 8 t 0 3 0 op 8 kind 0 0)
  charge (takeL3 s 0x0208 u []) u 7 true false 0x0208

/-- Entering a tile's event queue: the queue's depth in the run's counts, and overflow where it is full (R128). -/
def enterQueue (s : State) (gen t kind op : Nat) (settle : State → State) : State :=
  let held := (tileOf s t).queue.length
  if 8 ≤ held then queueOverflow s gen t kind op
  else settle (tally s gen t (fun c => { c with queueMax := max c.queueMax (held + 1) }))

/-- A residue mismatch that a checker reports with an operation, through the tile's event queue (R128). -/
def checkResidue (s : State) (gen t engine op : Nat) (res : Option ResidueErr) : State :=
  match res with
  | none => s
  | some r => enterQueue s gen t 3 op (fun s => residueMismatch s gen t engine op r)

/-- The poison an operation consumes, each through the tile's event queue (R128). -/
def checkPoison (s : State) (gen t op : Nat) (ms : List (Nat × PoisonMark)) : State :=
  match ms with
  | [] => s
  | m :: rest => rest.foldl (fun s m => enterQueue s gen t 4 op (fun s => consumeMarks s gen t op [m]))
      (enterQueue s gen t 4 op (fun s => consumeMarks s gen t op [m]))

/-- A correction in memory or on a link (L0), counted in the ledger record (R146). -/
def correction (s : State) : State := countCorrected s

end Sys2Proof.Machine
end

