-- ==== Sys2Proof/Machine/Dot.lean ====
section
/-!
DEFINITION. Sys2Proof/Machine/Dot.lean: the defined dot products (R68 to R71, R77), row reduction and the vector
primitives and composites (R199 to R201), attention (R226) and the C8 form (R213).
-/
namespace Sys2Proof.Machine

/-- The special values of a sum of exact terms with an accumulator: NaN, or the one infinity, or nothing (R68). -/
def sumSpecial (terms : List FVal) : Option FVal :=
  if terms.any FVal.isNan then some .nan
  else
    let pos := terms.any (fun t => t == .inf false)
    let neg := terms.any (fun t => t == .inf true)
    if pos && neg then some .nan
    else if pos then some (.inf false)
    else if neg then some (.inf true)
    else none

/-- The block sum of up to 32 exact terms in the 64-bit window with its sticky bit, rounded to odd (R68, R69). -/
def blockSum (ps : List Rat) : FVal :=
  let nz := ps.filter (fun p => p != 0)
  match nz with
  | [] => .zero
  | p0 :: rest =>
    let mag := fun (p : Rat) => floorLog2 (if p < 0 then -p else p)
    let e := rest.foldl (fun m p => max m (mag p)) (mag p0)
    let scale := pow2 (56 - e)
    let (s, sticky) := nz.foldl (fun (acc : Int × Bool) p =>
      let t := p * scale
      let q := truncInt t
      (acc.1 + q, acc.2 || (q : Rat) != t)) ((0 : Int), false)
    if s = 0 then .zero else decodeFloat fp32 (encodeWith fp32 .odd sticky (.fin ((s : Rat) * pow2 (e - 56))))

/-- Groups of 32 in ascending order. -/
def blocks32 (fuel : Nat) (xs : List Rat) : List (List Rat) :=
  match fuel with
  | 0 => []
  | fuel + 1 => if xs.isEmpty then [] else xs.take 32 :: blocks32 fuel (xs.drop 32)

/-- The finite path of R68: block sums added in ascending order, each addition rounded to odd. A sum that
leaves the finite range becomes an infinity of R50 and stays with it. -/
def sumBlocks (c : FVal) (ps : List Rat) : FVal :=
  (blocks32 (ps.length / 32 + 1) ps).foldl (fun acc b => rto (fAdd acc (blockSum b))) c

/-- The dot product of R68 before its output conversion: an FP32 value. -/
def dotF32 (a b : List FVal) (c : FVal) : FVal :=
  let terms := List.zipWith fMul a b
  match sumSpecial (c :: terms) with
  | some v => v
  | none => sumBlocks c (terms.map FVal.rat)

/-- A row reduction (R200). -/
def reduceF32 (x : List FVal) : FVal :=
  match sumSpecial x with
  | some v => v
  | none => sumBlocks .zero (x.map FVal.rat)

/-- Subnormals become zero (R77). -/
def flushF (fmt : Format) (v : FVal) : FVal :=
  match v with
  | .fin x => if (if x < 0 then -x else x) < pow2 (fmt.lowExp + ((fmt.sig : Int) - 1)) then .fin 0 else v
  | _ => v

/-- The Heritage dot product of R77 before its output conversion. -/
def dotHeritage (a b : List FVal) (c : FVal) : FVal :=
  let fa := a.map (flushF bf16)
  let fb := b.map (flushF bf16)
  let c := flushF fp32 c
  let terms := List.zipWith fMul fa fb
  match sumSpecial (c :: terms) with
  | some v => v
  | none =>
    terms.foldl (fun acc t =>
      let p := flushF fp32 (roundTo fp32 .nearestEven t)
      flushF fp32 (roundTo fp32 .nearestEven (fAdd acc p))) c

/-- The exact INT8 dot product (R71). -/
def dotInt (a b : List Int) : Int := (List.zipWith (· * ·) a b).foldl (· + ·) 0

/-- A sum delivered in INT32 with the symmetric clamp of R71 and R89, and whether it was clamped. -/
def clampInt32 (v : Int) : Int × Bool :=
  if v > 2 ^ 31 - 1 then (2 ^ 31 - 1, true)
  else if v < -(2 ^ 31) then (-(2 ^ 31 - 1), true)
  else (v, false)

/-- The element-wise primitives by the code of R248: one result from two inputs and the old output. -/
def vecPrimitive (code : Nat) (fmt : Format) (mode : Rounding) (a b c : FVal) : FVal :=
  match code with
  | 0x01 => roundTo fmt mode (fAdd a b)
  | 0x02 => roundTo fmt mode (fSub a b)
  | 0x03 => roundTo fmt mode (fMul a b)
  | 0x04 => roundTo fmt mode (fDiv a b)
  | 0x05 => roundTo fmt mode (fMax a b)
  | 0x06 => roundTo fmt mode (fMin a b)
  | 0x07 => fExp fmt mode a
  | 0x08 => fLn fmt mode a
  | 0x09 => fRsqrt fmt mode a
  | 0x0A => roundTo fmt mode (fDiv .one a)
  | 0x0B => fSqrt fmt mode a
  | 0x0D => if fLt a b then .one else .zero
  | 0x0E => roundTo fmt mode (if c.isZero then b else a)
  | _ => roundTo fmt mode a

/-- Softmax of one row (R201): every step rounds to odd, the last by the output's mode. -/
def softmaxRow (fmt : Format) (mode : Rounding) (x : List FVal) : List FVal :=
  let m := match x with
    | [] => FVal.zero
    | y :: ys => ys.foldl fMax y
  let e := x.map (fun xi => fExp fp32 .odd (rto (fSub xi m)))
  let s := reduceF32 e
  e.map (fun ei => roundTo fmt mode (fDiv ei s))

/-- RMS normalisation of one row with gains and ε (R201). -/
def rmsNormRow (fmt : Format) (mode : Rounding) (x g : List FVal) (eps : FVal) : List FVal :=
  let q := x.map (fun xi => rto (fMul xi xi))
  let mu := rto (fDiv (reduceF32 q) (.fin ((x.length : Int) : Rat)))
  let r := fRsqrt fp32 .odd (rto (fAdd mu eps))
  List.zipWith (fun xi gi => roundTo fmt mode (fMul (rto (fMul xi r)) gi)) x g

/-- The gated SiLU of one element (R201). -/
def siluGate (fmt : Format) (mode : Rounding) (a b : FVal) : FVal :=
  let t := fExp fp32 .odd (fNeg a)
  let d := rto (fAdd .one t)
  let s := rto (fDiv .one d)
  roundTo fmt mode (fMul (rto (fMul a s)) b)

/-- The state of one attention between chunks of 4,096 positions (R226). -/
structure AttendAcc where
  m : FVal
  s : FVal
  acc : List FVal

/-- One chunk of the attention of R226. -/
def attendChunk (q : List FVal) (sigma : FVal) (st : AttendAcc) (ks vs : List (List FVal)) : AttendAcc :=
  let z := ks.map (fun k => rto (fMul (dotF32 q k .zero) sigma))
  let mn := z.foldl fMax st.m
  let r := fExp fp32 .odd (rto (fSub st.m mn))
  let r := if st.m == .inf true then FVal.zero else r
  let e := z.map (fun zi => rtoBf16 (fExp fp32 .odd (rto (fSub zi mn))))
  let s := rto (fAdd (rto (fMul r st.s)) (reduceF32 e))
  let acc := (List.range st.acc.length).map (fun d =>
    let col := vs.map (fun v => v.getD d .zero)
    rto (fAdd (rto (fMul r (st.acc.getD d .zero))) (dotF32 e col .zero)))
  { m := mn, s := s, acc := acc }

/-- Chunks of 4,096 rows in ascending order. -/
def chunks4096 {α : Type} (fuel : Nat) (xs : List α) : List (List α) :=
  match fuel with
  | 0 => []
  | fuel + 1 => if xs.isEmpty then [] else xs.take 4096 :: chunks4096 fuel (xs.drop 4096)

/-- The attention of one query head (R226): BF16 bits of each output. -/
def attend (q : List FVal) (ks vs : List (List FVal)) (sigma : FVal) : List Half :=
  let init : AttendAcc := { m := .inf true, s := .zero, acc := q.map (fun _ => FVal.zero) }
  let cs := List.zip (chunks4096 (ks.length / 4096 + 1) ks) (chunks4096 (vs.length / 4096 + 1) vs)
  let r := cs.foldl (fun st c => attendChunk q sigma st c.1 c.2) init
  r.acc.map (fun a => toBf16 .nearestEven (fDiv a r.s))

/-- Compression of one block of 32 values to E and 32 INT8 values, with the number clamped at ±127 (R213). -/
def compressBlock (x : List FVal) : Nat × List Int × Nat :=
  if x.any (fun v => !v.isFinite) then (255, x.map (fun _ => (0 : Int)), 0)
  else
    let logs := (x.filter (fun v => !v.isZero)).map (fun v => floorLog2 (fAbs v).rat)
    let e : Int := match logs with
      | [] => 1
      | l :: ls => max 1 (127 + ls.foldl max l)
    let raw := x.map (fun v => rneInt (v.rat * pow2 (133 - e)))
    (e.toNat, raw.map (fun r => max (-127) (min 127 r)),
     raw.countP (fun r => decide (r > 127) || decide (r < -127)))

/-- The values of a C8 block (R212, R213). -/
def decompressBlock (e : Nat) (q : List Int) : List FVal :=
  if e = 255 then q.map (fun _ => FVal.nan) else q.map (fun (v : Int) => .fin ((v : Rat) * pow2 ((e : Int) - 133)))

end Sys2Proof.Machine
end

