-- ==== Sys2Proof/Machine/Operands.lean ====
section
/-!
DEFINITION. Sys2Proof/Machine/Operands.lean: the operand forms of descriptors (R244 to R250): where an operand lies, the elements
it holds in each format and layout (R191, R192), the engines' results written with their poison, and the completion of an
operation (R251).
-/
namespace Sys2Proof.Machine
open Sys2Proof

/-! ### Where an operand lies -/

/-- The place of an operand word of a descriptor in a plan frame (R244): spaces 1 own tile, 2 another tile, 3 HBM region,
5 accumulator group of the home tile. Space 4, the off-load buffer, is host memory and has no place on the package. -/
def placeOf (s : State) (t : Template) (f : PlanFrame) (d : Desc) (w : DWord) : Place :=
  let off := oprAt t w f.iteration
  match oprSpace w with
  | 1 => .tile (dsTile d) off
  | 2 => .tile (oprUnit w) off
  | 3 => match s.plan.loaded.bind (fun p => p.regions[oprUnit w]?) with
    | some e => .hbm (bankAddr s f.view (rgAddr e + off))
    | none => .none
  | 5 => .tile (dsTile d) off
  | _ => .none

/-! ### Elements of byte strings -/

/-- Groups of n bytes. -/
def groupsOf (n : Nat) : Nat → List Byte → List (List Byte)
  | 0, _ => []
  | fuel + 1, bs => if bs.isEmpty then [] else bs.take n :: groupsOf n fuel (bs.drop n)
/-- FP32 values of a byte string. -/
def f32List (bs : List Byte) : List FVal := (groupsOf 4 (bs.length / 4 + 1) bs).map (fun g => ofF32 (BitVec.ofNat 32 (natLE g)))
/-- BF16 values of a byte string. -/
def bf16List (bs : List Byte) : List FVal := (groupsOf 2 (bs.length / 2 + 1) bs).map (fun g => ofBf16 (BitVec.ofNat 16 (natLE g)))
/-- Floating-point values of n elements, BF16 or FP32. -/
def floatsAt (s : State) (p : Place) (n : Nat) (isBf16 : Bool) : List FVal :=
  if isBf16 then bf16List (placeBytes s p (2 * n)) else f32List (placeBytes s p (4 * n))
/-- INT32 values of n elements. -/
def intsAt (s : State) (p : Place) (n : Nat) : List Int :=
  (groupsOf 4 (n + 1) (placeBytes s p (4 * n))).map (fun g => signedOf 32 (natLE g))
/-- INT8 values of n elements. -/
def bytesAt (s : State) (p : Place) (n : Nat) : List Int := (placeBytes s p n).map (fun b => b.toInt)
/-- Bytes of an element of a format. -/
def elemSize (isBf16 : Bool) : Nat := if isBf16 then 2 else 4
/-- The format of an element. -/
def elemFormat (isBf16 : Bool) : Format := if isBf16 then bf16 else fp32
/-- Bytes of values written in a format, each rounded to nearest even (R51). -/
def floatBytes (isBf16 : Bool) (xs : List FVal) : List Byte :=
  xs.flatMap (fun x =>
    if isBf16 then bytesLE 2 (toBf16 .nearestEven x).toNat else bytesLE 4 (toF32 .nearestEven x).toNat)
/-- Bytes of INT32 values. -/
def intBytes (xs : List Int) : List Byte := xs.flatMap (fun x => bytesLE 4 (unsignedOf 32 x))

/-! ### Panels and blocks (R191, R192) -/

/-- The byte offset of element k of row r of a panelled operand of reduction length n: BF16 panels of 64 × 32 elements. -/
def panelBf16 (n r k : Nat) : Nat := 4096 * ((r / 64) * ((n + 31) / 32) + k / 32) + 64 * (r % 64) + 2 * (k % 32)
/-- The same for INT8 panels of 64 × 64 elements. -/
def panelInt8 (n r k : Nat) : Nat := 4096 * ((r / 64) * ((n + 63) / 64) + k / 64) + 64 * (r % 64) + k % 64
/-- The bytes of a panelled operand of R rows. -/
def panelBytes (rows n e : Nat) : Nat := 4096 * (((rows + 63) / 64) * ((n + e - 1) / e))
/-- A row of a BF16 operand. -/
def rowBf16 (s : State) (p : Place) (n r : Nat) : List FVal :=
  (List.range n).map (fun k => ofBf16 (BitVec.ofNat 16 (natLE (placeBytes s (p.plus (panelBf16 n r k)) 2))))
/-- A row of an INT8 operand. -/
def rowInt8 (s : State) (p : Place) (n r : Nat) : List Int :=
  (List.range n).map (fun k => ((placeBytes s (p.plus (panelInt8 n r k)) 1).headD 0).toInt)
/-- The byte offset of an output element: blocks of 64 × 64, row-major (R192). -/
def blockOffset (cols size r c : Nat) : Nat :=
  size * 4096 * ((r / 64) * ((cols + 63) / 64) + c / 64) + size * (64 * (r % 64) + c % 64)

/-! ### Non-finite flags (R55, R56) -/

/-- The non-finite flag of an output in raster order: first index, kind and count. -/
def nonFinite (xs : List FVal) : Option (Nat × Nat × Nat) :=
  let kindOf := fun (v : FVal) => match v with
    | .nan => 0
    | .inf neg => if neg then 2 else 1
    | .fin _ => 3
  match xs.findIdx? (fun v => !v.isFinite) with
  | none => none
  | some i => some (i, kindOf (xs.getD i .zero), satTo (2 ^ 32 - 1) (xs.countP (fun v => !v.isFinite)))

/-- Recording a non-finite flag in a run: an exception entry, the count of flagged operations, and EV-0401 for the first of
the frame (R56). -/
def noteNonFinite (s : State) (gen t op : Nat) (fl : Option (Nat × Nat × Nat)) : State :=
  match fl with
  | none => s
  | some (i, k, n) =>
    let first := (s.fr.running.map PlanFrame.nonfinite).getD 0 == 0
    let s := addExc s gen (excEntry s 5 t 0 0 0 op i k n 0)
    let s := modGen s gen (fun p => { p with nonfinite := p.nonfinite + 1 })
    if first then raise s 0x0401 (unitTile t) noLevel [] else s

/-! ### Issue and completion (R251) -/

/-- Whether an operation of the running plan frame is in flight. -/
def inFlight (f : PlanFrame) (op : Nat) : Bool := f.inflight.any (fun x => x.op == op)
/-- Whether an operation of a plan frame has completed. -/
def isCompleted (f : PlanFrame) (op : Nat) : Bool := f.completed.contains op
/-- Completing an operation: every check on it has reported. -/
def finishOp (s : State) (op : Nat) : State :=
  { s with fr.running := s.fr.running.map (fun f =>
      if inFlight f op then
        { f with inflight := f.inflight.filter (fun x => x.op != op), completed := f.completed ++ [op] }
      else f) }

/-- The effect of an engine's operation: it acts where the operation is in flight in the running plan frame and its
descriptor has the class, and completes it. Otherwise the command names nothing and changes nothing (log 5). -/
def withOp (s : State) (op cls : Nat) (f : PlanFrame → Template → Desc → State → State) : State :=
  match s.fr.running, runningDesc s op with
  | some fr, some (t, d) =>
    if inFlight fr op ∧ dsClass d = cls then finishOp (f fr t d s) op else s
  | _, _ => s

/-! ### Inputs and outputs of an engine -/

/-- The quadrant of a stack and of a tile: two stacks and one compute die to a quadrant (R24). -/
def quadOfStack (k : Nat) : Nat := k / 2
def quadOfTile (t : Nat) : Nat := t / 64
/-- The number of a pair of quadrants in the order of R513. -/
def quadPair (a b : Nat) : Nat :=
  match min a b, max a b with
  | 0, 1 => 0
  | 0, 2 => 1
  | 0, 3 => 2
  | 1, 2 => 3
  | 1, 3 => 4
  | _, _ => 5
/-- Bytes that cross between quadrants: both I/O dies' counter of the sender's half, and the pair's port (R509, R513). -/
def crossing (s : State) (a b n : Nat) : State :=
  if a = b then s
  else portBytes (active s (blockIo (a / 2)) 5 n) (114 + 2 * quadPair a b + (if a < b then 0 else 1)) n
/-- An operation other than the accumulator's own conversion consumes the converted outputs it reads (R125). -/
def markConsumed (s : State) (u off n : Nat) : State :=
  { s with ops.outs := s.ops.outs.map (fun o =>
      if o.converted ∧ o.home = u ∧ off < o.addr + 2 * o.sums.length ∧ o.addr < off + n then { o with consumed := true } else o) }
/-- Bytes that a tile reads from a place (R509, R513), which consume outputs there. -/
def countRead (s : State) (t : Nat) (p : Place) (n : Nat) : State :=
  match p with
  | .tile u off => crossing (active (markConsumed s u off n) (blockTile u) 15 n) (quadOfTile u) (quadOfTile t) n
  | .hbm a => crossing (stackRead s (devStack a) (64 * (linesOf a n).length)) (quadOfStack (devStack a)) (quadOfTile t) n
  | .none => s
/-- Bytes that a tile writes to a place; HBM's own counters count in the write. -/
def countWrite (s : State) (t : Nat) (p : Place) (n : Nat) : State :=
  match p with
  | .tile u _ => crossing (active s (blockTile u) 16 n) (quadOfTile t) (quadOfTile u) n
  | .hbm a => crossing s (quadOfTile t) (quadOfStack (devStack a)) n
  | .none => s
/-- An engine's use of its operands: the bytes it moves, and the poison that its inputs and its partial writes consume
(R22, R285, R286). -/
def useOperands (s : State) (gen t op : Nat) (ins : List (Place × Nat)) (out : Place × Nat) : State :=
  let s' := ins.foldl (fun s x => countRead s t x.1 x.2) (countWrite s t out.1 out.2)
  checkPoison s' gen t op
    (ins.flatMap (fun x => placeMarks s x.1 x.2) ++ placePartial s out.1 out.2)

end Sys2Proof.Machine
end

