-- ==== Sys2Proof/Machine/NumOps.lean ====
section
/-!
DEFINITION. Sys2Proof/Machine/NumOps.lean: what operations add to the numerics of their plan frame: observations (R317), the outlier
comparison of R103, and the share monitor's counts (R331).
-/
namespace Sys2Proof.Machine
open Sys2Proof

/-- The numerics list of the package's rank (R315). -/
def numericsList (s : State) : List (BitVec 128) := ((myBlock s).map RankBlock.numerics).getD []
/-- The list entry of a scale index. -/
def scaleEntryOf (s : State) (index : Nat) : Option (BitVec 128) :=
  (numericsList s).find? (fun e => nmIndex e == index && nmIsScale e)
/-- Whether a tensor is monitored (R315). -/
def monitored (s : State) (tensor : Nat) : Bool := (numericsList s).any (fun e => nmTensor e == tensor && nmMonitored e)
/-- The live value of a scale index for the running plan frame, or the snapshot's in recomputation (R316, R321). -/
def scaleInForce (s : State) (f : PlanFrame) (index : Nat) : Word :=
  if f.phase = 2 then tget 0 s.num.snapshot index else (tget ScaleEntry.zero s.num.scales index).scale

/-- Counting elements of a monitored tensor in a run (R331). -/
def noteShares (s : State) (gen tensor n zeros sat nf : Nat) : State :=
  if monitored s tensor then
    modGen s gen (fun p => { p with num.shares := tmod ShareCounts.zero p.num.shares tensor (fun c =>
      { n := c.n + n, zeros := c.zeros + zeros, sat := c.sat + sat, nf := c.nf + nf }) })
  else s
/-- The share counts of floating-point outputs. -/
def noteFloats (s : State) (gen tensor : Nat) (xs : List FVal) : State :=
  noteShares s gen tensor xs.length (xs.countP FVal.isZero) 0 (xs.countP (fun x => !x.isFinite))
/-- The observation of a quantise operation (R317); operations of learning-marked frames recompute and make none (R205). -/
def noteObservation (s : State) (f : PlanFrame) (index : Nat) (o : Observation) : State :=
  if f.phase = 2 then s
  else modGen s f.gen (fun p => { p with num.obs := tmod Observation.none p.num.obs index (fun a =>
    { maxIn := if a.maxIn.toNat < o.maxIn.toNat then o.maxIn else a.maxIn,
      maxAll := if a.maxAll.toNat < o.maxAll.toNat then o.maxAll else a.maxAll,
      overflow := a.overflow || o.overflow, quantised := a.quantised || o.quantised }) })
/-- Outliers and elements quantised, by tensor (R103). -/
def noteQuantised (s : State) (gen tensor outliers elements : Nat) : State :=
  modGen s gen (fun p => { p with num.outliers := tmod 0 p.num.outliers tensor (· + outliers),
                                  num.elements := tmod 0 p.num.elements tensor (· + elements) })

end Sys2Proof.Machine
end

