-- ==== Sys2Proof/Machine/Engines.lean ====
section
/-!
DEFINITION. Sys2Proof/Machine/Engines.lean: the digital engines' operations: MATRIX (R190 to R197, R68 to R79), VECTOR (R198 to
R201), QUANTISE (R57, R250, R316), COMPRESS (R212, R213) and JOIN (R243).
-/
namespace Sys2Proof.Machine
open Sys2Proof

/-! ### MATRIX (R190) -/

/-- One output element of a matrix operation before its output rounding: BF16 and Heritage modes. -/
def matrixElem (s : State) (d : Desc) (a b out : Place) (r c : Nat) : FVal :=
  let x := rowBf16 s a (mxLen d) r
  let y := rowBf16 s b (mxLen d) c
  let size := elemSize (mxBf16 d)
  let acc : FVal :=
    if mxAcc d then
      decodeFloat (elemFormat (mxBf16 d)) (natLE (placeBytes s (out.plus (blockOffset (mxN d) size r c)) size))
    else .zero
  if mxMode d = 2 then dotHeritage x y acc else dotF32 x y acc
/-- One INT32 output element of INT8 mode and whether it was clamped (R71, R197). -/
def matrixInt (s : State) (d : Desc) (a b out : Place) (r c : Nat) : Int × Bool :=
  let acc : Int := if mxAcc d then signedOf 32 (natLE (placeBytes s (out.plus (blockOffset (mxN d) 4 r c)) 4)) else 0
  clampInt32 (dotInt (rowInt8 s a (mxLen d) r) (rowInt8 s b (mxLen d) c) + acc)
/-- The output elements in raster order: M rows of N columns. -/
def rasterIdx (d : Desc) : List (Nat × Nat) :=
  (List.range (mxM d)).flatMap (fun r => (List.range (mxN d)).map (fun c => (r, c)))
/-- The output of Heritage mode: nearest even, subnormals flushed (R77). -/
def heritageOut (isBf16 : Bool) (v : FVal) : FVal :=
  flushF (elemFormat isBf16) (roundTo (elemFormat isBf16) .nearestEven v)

/-- The effect of a matrix operation on its plan frame (R190 to R197). -/
def matrixOp (res : Option ResidueErr) (f : PlanFrame) (t : Template) (d : Desc) (s : State) : State :=
  let op := dsIndex d
  let tile := dsTile d
  let a := placeOf s t f d d.d4
  let b := placeOf s t f d d.d5
  let o := placeOf s t f d d.d6
  let e := if mxMode d = 1 then 64 else 32
  let size := elemSize (mxBf16 d)
  let outLen := size * 4096 * (((mxM d + 63) / 64) * ((mxN d + 63) / 64))
  let ins := [(a, panelBytes (mxM d) (mxLen d) e), (b, panelBytes (mxN d) (mxLen d) e)] ++
    (if mxAcc d then [(o, outLen)] else [])
  let s1 := useOperands s f.gen tile op ins (o, 0)
  let s2 :=
    if mxMode d = 1 then
      let vals := (rasterIdx d).map (fun rc => (rc, (matrixInt s d a b o rc.1 rc.2).1))
      let s1 := vals.foldl (fun st x =>
        placeWrite st f.gen (o.plus (blockOffset (mxN d) 4 x.1.1 x.1.2)) (intBytes [x.2]) noPoison) s1
      noteShares s1 f.gen (dsTensor d) vals.length (vals.countP (fun x => x.2 == 0)) 0 0
    else
      let vals := (rasterIdx d).map (fun rc =>
        let v := matrixElem s d a b o rc.1 rc.2
        (rc, if mxMode d = 2 then heritageOut (mxBf16 d) v else roundTo (elemFormat (mxBf16 d)) .nearestEven v))
      let s1 := vals.foldl (fun st x =>
        placeWrite st f.gen (o.plus (blockOffset (mxN d) size x.1.1 x.1.2)) (floatBytes (mxBf16 d) [x.2]) noPoison) s1
      noteNonFinite (noteFloats s1 f.gen (dsTensor d) (vals.map Prod.snd)) f.gen tile op (nonFinite (vals.map Prod.snd))
  checkResidue s2 f.gen tile 0 op res

/-- MATRIX (R190). -/
def execMatrix (op : Fin 1048576) (res : Option ResidueErr) (cyc : Nat) (s : State) : Result :=
  .next (withOp (atCycle s cyc) op 2 (matrixOp res))

/-! ### VECTOR (R199) -/

/-- Groups of a row's length. -/
def rowsOfList {α : Type} (n : Nat) : Nat → List α → List (List α)
  | 0, _ => []
  | fuel + 1, xs => if xs.isEmpty then [] else xs.take n :: rowsOfList n fuel (xs.drop n)

/-- What a vector operation writes: bytes, and the values or inputs that its non-finite flag looks at. -/
structure VecOut where
  bytes : List Byte
  flag : Option (Nat × Nat × Nat)
  /-- elements, zeros, saturations and non-finite counts for R331 -/
  shares : Nat × Nat × Nat × Nat

/-- A floating-point output. -/
def VecOut.ofFloats (isBf16 : Bool) (xs : List FVal) : VecOut := 
  { bytes := floatBytes isBf16 xs, flag := nonFinite xs,
    shares := (xs.length, xs.countP FVal.isZero, 0, xs.countP (fun x => !x.isFinite)) }

/-- The flag of a conversion to an integer format: NaN inputs (R55). -/
def nanFlag (xs : List FVal) : Option (Nat × Nat × Nat) :=
  match xs.findIdx? FVal.isNan with
  | none => none
  | some i => some (i, 0, satTo (2 ^ 32 - 1) (xs.countP FVal.isNan))

/-- The conversions of code 0x0C (R248, R52). -/
def vecConvert (s : State) (p : Place) (n conv : Nat) : VecOut :=
  match conv with
  | 0 => VecOut.ofFloats false (floatsAt s p n true)
  | 1 => VecOut.ofFloats true ((floatsAt s p n false).map (roundTo bf16 .nearestEven))
  | 2 => VecOut.ofFloats false ((intsAt s p n).map (fun (i : Int) => roundTo fp32 .nearestEven (.fin (i : Rat))))
  | 3 =>
    let xs := floatsAt s p n false
    let ys := xs.map toInt32
    { bytes := intBytes (ys.map (fun y => y.1)), flag := nanFlag xs,
      shares := (ys.length, ys.countP (fun y => y.1 == 0), ys.countP (fun y => y.2.1), xs.countP FVal.isNan) }
  | _ =>
    let ys := bytesAt s p n
    { bytes := intBytes ys, flag := none, shares := (ys.length, ys.countP (fun y => y == 0), 0, 0) }
/-- Input bytes of an element of a conversion. -/
def convInSize (conv : Nat) : Nat := if conv = 0 then 2 else if conv = 4 then 1 else 4

/-- What a vector operation computes from its places (R199 to R201, R248). -/
def vecCompute (s : State) (d : Desc) (a b o : Place) : VecOut :=
  let n := vcElements d
  let fmt := elemFormat (vcOutBf16 d)
  let xs := floatsAt s a n (vcInBf16 d)
  let rows := fun (_ : Unit) => rowsOfList (vcRow d) (n + 1) xs
  match vcCode d with
  | 0x0C => vecConvert s a n (vcConv d)
  | 0x10 => VecOut.ofFloats false ((rows ()).map (fun r => roundTo fp32 .nearestEven (reduceF32 r)))
  | 0x20 => VecOut.ofFloats (vcOutBf16 d) ((rows ()).flatMap (softmaxRow fmt .nearestEven))
  | 0x21 =>
    let eps := (floatsAt s b 1 false).headD .zero
    let g := floatsAt s (b.plus 64) (vcRow d) (vcInBf16 d)
    VecOut.ofFloats (vcOutBf16 d) ((rows ()).flatMap (fun r => rmsNormRow fmt .nearestEven r g eps))
  | code =>
    let ys :=
      if vcBroadcast d then
        let y := (floatsAt s b 1 (vcInBf16 d)).headD .zero
        xs.map (fun _ => y)
      else floatsAt s b n (vcInBf16 d)
    let cs := if code = 0x0E then floatsAt s o n (vcInBf16 d) else xs
    let out := (List.range n).map (fun i =>
      let x := xs.getD i .zero
      let y := ys.getD i .zero
      if code = 0x22 then siluGate fmt .nearestEven x y
      else if code = 0x0E then (if (cs.getD i .zero).isZero then roundTo fmt .nearestEven y else roundTo fmt .nearestEven x)
      else vecPrimitive code fmt .nearestEven x y .zero)
    VecOut.ofFloats (vcOutBf16 d) out

/-- Bytes that a vector operation reads at D4 and D5 and writes at D6. -/
def vecSizes (d : Desc) : Nat × Nat × Nat :=
  let n := vcElements d
  let e := elemSize (vcInBf16 d)
  let out := elemSize (vcOutBf16 d)
  match vcCode d with
  | 0x0C => (n * convInSize (vcConv d), 0, n * (if vcConv d = 1 then 2 else 4))
  | 0x10 => (n * e, 0, 4 * (n / max 1 (vcRow d)))
  | 0x20 => (n * e, 0, n * out)
  | 0x21 => (n * e, 64 + vcRow d * e, n * out)
  | code =>
    let unary := decide (code ∈ [0x07, 0x08, 0x09, 0x0A, 0x0B])
    (n * e, if unary then 0 else if vcBroadcast d then e else n * e, n * out)

/-- The effect of a vector operation. -/
def vectorOp (res : Option ResidueErr) (f : PlanFrame) (t : Template) (d : Desc) (s : State) : State :=
  let op := dsIndex d
  let tile := dsTile d
  let a := placeOf s t f d d.d4
  let b := placeOf s t f d d.d5
  let o := placeOf s t f d d.d6
  let (na, nb, no) := vecSizes d
  let ins := [(a, na), (b, nb)] ++ (if vcCode d = 0x0E then [(o, vcElements d * elemSize (vcInBf16 d))] else [])
  let out := vecCompute s d a b o
  let s1 := useOperands s f.gen tile op ins (o, no)
  let s2 := placeWrite s1 f.gen o out.bytes noPoison
  let s2 := noteShares s2 f.gen (dsTensor d) out.shares.1 out.shares.2.1 out.shares.2.2.1 out.shares.2.2.2
  checkResidue (noteNonFinite s2 f.gen tile op out.flag) f.gen tile 1 op res

/-- VECTOR (R199). -/
def execVector (op : Fin 1048576) (res : Option ResidueErr) (cyc : Nat) (s : State) : Result :=
  .next (withOp (atCycle s cyc) op 3 (vectorOp res))

/-! ### QUANTISE (R57) -/

/-- One element quantised to A8 (R57). -/
inductive QElem where
  /-- carried by the byte of its lane -/
  | byte (q : Int)
  /-- delivered beside the tensor, and whether it saturated -/
  | outlier (q : Int) (sat : Bool)
  /-- a NaN or an infinity, encoded as 0 -/
  | bad
  deriving DecidableEq, Repr

/-- The quantiser (R57). -/
def quantElem (scale : Rat) (x : FVal) : QElem :=
  match x with
  | .fin v =>
    let q := rneInt (v / scale)
    if q.natAbs ≤ 127 then .byte q
    else if q.natAbs ≤ 32767 then .outlier q false
    else .outlier (if 0 < q then 32767 else -32767) true
  | _ => .bad

/-- The largest magnitude of finite values, as FP32 bits. -/
def maxMagnitude (xs : List FVal) : Word :=
  toF32 .nearestEven (.fin (xs.foldl (fun (m : Rat) x => if x.isFinite then max m (fAbs x).rat else m) 0))
/-- The flag of non-finite inputs of a quantisation (R55): the kind is the input's. -/
def badInputs (xs : List FVal) : Option (Nat × Nat × Nat) := nonFinite xs

/-- The byte of a lane (R57, R250). The spec gives an outlier's own byte no value: it is free (log 14), but never 0x80 (R58). -/
def laneByte (draw i : Nat) (q : QElem) : Byte :=
  match q with
  | .byte v => BitVec.ofInt 8 v
  | .outlier _ _ => if Config.freeByte (draw + i) = 0x80 then 0 else Config.freeByte (draw + i)
  | .bad => 0
/-- The record of one A8 vector (R250, R316): header, entries in lane order, zero padding. -/
def recordBytes (scale : Word) (qs : List QElem) : List Byte :=
  let outs := (List.zipIdx qs).filterMap (fun x => match x.1 with
    | .outlier q _ => some (x.2, q)
    | _ => none)
  let body := outs.flatMap (fun e => bytesLE 4 (unsignedOf 16 e.2 + 65536 * e.1))
  bytesLE 4 scale.toNat ++ bytesLE 4 outs.length ++ body ++ List.replicate ((8 - body.length % 8) % 8) 0

/-- The effect of a quantise operation (R57, R250, R316, R317). -/
def quantiseOp (res : Option ResidueErr) (f : PlanFrame) (t : Template) (d : Desc) (s : State) : State :=
  let op := dsIndex d
  let tile := dsTile d
  let n := qtElements d
  let a := placeOf s t f d d.d4
  let o := placeOf s t f d d.d5
  let l := placeOf s t f d d.d6
  let scale := scaleInForce s f (qtScale d)
  let xs := floatsAt s a n (qtInBf16 d)
  let qs := xs.map (quantElem (ofF32 scale).rat)
  let vecs := (n + 511) / 512
  let bytes := (List.zipIdx qs).map (fun x => laneByte s.free x.2 x.1) ++ List.replicate (512 * vecs - n) 0
  let recs := (List.range vecs).flatMap (fun v => recordBytes scale ((qs.drop (512 * v)).take 512))
  let outs := qs.countP (fun q => match q with
    | .outlier _ _ => true
    | _ => false)
  let sats := qs.countP (fun q => match q with
    | .outlier _ sat => sat
    | _ => false)
  let kept := (List.zip xs qs).filterMap (fun x => match x.2 with
    | .byte _ => some x.1
    | _ => none)
  let s1 := useOperands s f.gen tile op [(a, n * elemSize (qtInBf16 d))] (o, bytes.length)
  let s2 := placeWrite (placeWrite { s1 with free := s1.free + n } f.gen o bytes noPoison) f.gen l recs noPoison
  let s3 := noteObservation s2 f (qtScale d)
    { maxIn := maxMagnitude kept, maxAll := maxMagnitude xs, overflow := decide (0 < sats), quantised := true }
  let s4 := noteQuantised s3 f.gen (dsTensor d) outs n
  let zeros := qs.countP (fun q => q == .byte 0 || q == .bad)
  let s5 := noteShares s4 f.gen (dsTensor d) n zeros sats (xs.countP (fun x => !x.isFinite))
  checkResidue (noteNonFinite s5 f.gen tile op (badInputs xs)) f.gen tile 1 op res

/-- QUANTISE (R57). -/
def execQuantise (op : Fin 1048576) (res : Option ResidueErr) (cyc : Nat) (s : State) : Result :=
  .next (withOp (atCycle s cyc) op 8 (quantiseOp res))

/-! ### COMPRESS (R213) and JOIN (R243) -/

/-- The effect of a compress operation: BF16 input, 33-byte blocks (R212; log 15). -/
def compressOp (res : Option ResidueErr) (f : PlanFrame) (t : Template) (d : Desc) (s : State) : State :=
  let op := dsIndex d
  let tile := dsTile d
  let n := cpBlocks d
  let a := placeOf s t f d d.d4
  let o := placeOf s t f d d.d5
  let xs := floatsAt s a (32 * n) true
  let blocks := (List.range n).map (fun b => compressBlock ((xs.drop (32 * b)).take 32))
  let bytes := blocks.flatMap (fun b => bytesLE 1 b.1 ++ b.2.1.map (fun q => BitVec.ofInt 8 q))
  let s1 := useOperands s f.gen tile op [(a, 64 * n)] (o, 33 * n)
  let s2 := placeWrite s1 f.gen o bytes noPoison
  let clamps := blocks.foldl (fun acc b => acc + b.2.2) 0
  let zeros := blocks.foldl (fun acc b => acc + b.2.1.countP (fun q => q == 0)) 0
  let s3 := noteShares s2 f.gen (dsTensor d) (32 * n) zeros clamps (xs.countP (fun x => !x.isFinite))
  checkResidue (noteNonFinite s3 f.gen tile op (nonFinite xs)) f.gen tile 1 op res

/-- COMPRESS (R213). -/
def execCompress (op : Fin 1048576) (res : Option ResidueErr) (cyc : Nat) (s : State) : Result :=
  .next (withOp (atCycle s cyc) op 9 (compressOp res))

/-- The effect of a join: none but its completion. -/
def joinOp (_ : PlanFrame) (_ : Template) (_ : Desc) (s : State) : State := s

/-- JOIN (R243): it does nothing and completes. -/
def execJoin (op : Fin 1048576) (cyc : Nat) (s : State) : Result := .next (withOp (atCycle s cyc) op 10 joinOp)

end Sys2Proof.Machine
end

