-- ==== Sys2Proof/Machine/Weights.lean ====
section
/-!
DEFINITION. Sys2Proof/Machine/Weights.lean: the array formats (R60 to R66, R81, R545), the programmed-weight image (R99), the cells
of an array, the weight map (R547), and the BF16 masters behind it (R289, R292).
-/
namespace Sys2Proof.Machine
open Sys2Proof

/-! ### Formats: 0 T, 1 W2, 2 W4, 3 W8 -/

/-- Weight columns per array (R81). -/
def fmtColumns (fmt : Nat) : Nat := match fmt with
  | 0 => 512
  | 1 => 512
  | 2 => 170
  | _ => 73
/-- Cells of one weight (R62). -/
def fmtCells (fmt : Nat) : Nat := match fmt with
  | 0 => 1
  | 1 => 1
  | 2 => 3
  | _ => 7
/-- The number of data columns of the set J (R116): the weight columns' cells, from c0 upward. -/
def fmtData (fmt : Nat) : Nat := fmtColumns fmt * fmtCells fmt
/-- The format constant K (R62). -/
def fmtK (fmt : Nat) : Nat := match fmt with
  | 0 => 3
  | 3 => 6
  | _ => 1
/-- Bits of a packed weight (R66). -/
def fmtBits (fmt : Nat) : Nat := match fmt with
  | 0 => 2
  | 1 => 2
  | 2 => 4
  | _ => 8
/-- The lowest and highest integer of a format and its step (R153). -/
def fmtRange (fmt : Nat) : Int × Int × Int := match fmt with
  | 0 => (-1, 1, 1)
  | 1 => (-3, 3, 2)
  | 2 => (-8, 7, 1)
  | _ => (-128, 127, 1)
/-- The integer of an uncovered weight position (R545). -/
def uncoveredWeight (fmt : Nat) : Int := if fmt = 1 then 1 else 0
/-- The rows one INT32 sum may hold (R65). -/
def fmtRowLimit (fmt : Nat) : Nat := match fmt with
  | 0 => 5592405
  | 1 => 5592405
  | 2 => 1118481
  | _ => 10965

/-- The canonical slice digits of an integer, least significant first (R63). -/
def slices (w : Int) : Nat → List Int
  | 0 => []
  | 1 => [w]
  | n + 2 =>
    let d := (w + 2) % 4 - 2
    d :: slices ((w - d) / 4) (n + 1)
/-- The digits of a weight's cells in column order, every copy of a slice alike (R62, R81). -/
def canonDigits (fmt : Nat) (w : Int) : List Int :=
  match fmt with
  | 0 => [3 * w]
  | 1 => [w]
  | 2 => match slices w 2 with
    | [d0, d1] => [d1, d1, d0]
    | _ => []
  | _ => match slices w 4 with
    | [d0, d1, d2, d3] => [d3, d3, d3, d2, d2, d1, d0]
    | _ => []
/-- Whether an integer is in a format's range (R62). -/
def inFormat (fmt : Nat) (w : Int) : Bool :=
  let (lo, hi, step) := fmtRange fmt
  decide (lo ≤ w) && decide (w ≤ hi) && decide ((w - lo) % step = 0)
/-- The integer whose canonical digits a weight's cells hold, all copies equal, if there is one (R159). -/
def digitsWeight (fmt : Nat) (ds : List Int) : Option Int :=
  let w : Int := match fmt, ds with
    | 0, [d] => d / 3
    | 1, [d] => d
    | 2, [d1, _, d0] => 4 * d1 + d0
    | _, [d3, _, _, d2, _, d1, d0] => 64 * d3 + 16 * d2 + 4 * d1 + d0
    | _, _ => 0
  if inFormat fmt w && canonDigits fmt w == ds then some w else none
/-- The integer Y of a weight column from its cells' values in column order (R64). -/
def recombine (fmt : Nat) (ys : List Int) : Int :=
  match fmt, ys with
  | 2, [a, b, y0] => 2 * (a + b) + y0
  | 3, [a, b, c, d, e, y1, y0] => 128 * (a + b + c) + 48 * (d + e) + 24 * y1 + 6 * y0
  | _, y :: _ => y
  | _, _ => 0
/-- The cells of weight column k among values of the data columns. -/
def cellsOf {α : Type} (fmt k : Nat) (ys : List α) : List α := (ys.drop (fmtCells fmt * k)).take (fmtCells fmt)
/-- The weight columns' integers from the combined values of the data columns. -/
def recombineAll (fmt : Nat) (ys : List Int) : List Int :=
  (List.range (fmtColumns fmt)).map (fun k => recombine fmt (cellsOf fmt k ys))

/-! ### Packed weights and the image (R66, R99) -/

/-- The value of a packed code, and whether the code is invalid (R66). -/
def weightOfCode (fmt code : Nat) : Int × Bool :=
  match fmt with
  | 0 => match code with
    | 0 => (0, false)
    | 1 => (1, false)
    | 3 => (-1, false)
    | _ => (0, true)
  | 1 => (2 * (code : Int) - 3, false)
  | _ => (signedOf (fmtBits fmt) code, false)
/-- The packed code of a value. -/
def codeOfWeight (fmt : Nat) (w : Int) : Nat :=
  match fmt with
  | 1 => ((w + 3) / 2).toNat
  | _ => unsignedOf (fmtBits fmt) w
/-- The weights of a packed row. -/
def unpackRow (fmt : Nat) (bytes : List Byte) : List (Int × Bool) :=
  let n := natLE bytes
  (List.range (fmtColumns fmt)).map (fun k => weightOfCode fmt (n / 2 ^ (fmtBits fmt * k) % 2 ^ fmtBits fmt))
/-- The 128 bytes of an image row. -/
def packRow (fmt : Nat) (ws : List Int) : List Byte :=
  bytesLE 128 ((List.range ws.length).foldl (fun acc k => acc + codeOfWeight fmt (ws.getD k 0) * 2 ^ (fmtBits fmt * k)) 0)

/-- The base of the image region of a tile (R99). -/
def imageBase (s : State) (tile : Nat) : Nat :=
  ((myBlock s).bind (fun b => (b.imageBase.find? (fun e => e.1 == tile)).map Prod.snd)).getD 0
/-- The offset of an image row in its tile's memory. -/
def imageOff (s : State) (k row : Nat) : Nat := imageBase s (k / 16) + (512 * (k % 16) + row) * 128
/-- The weight map entry of an array (R547). -/
def mapEntry (s : State) (k : Nat) : Option (BitVec 256) :=
  (myBlock s).bind (fun b => b.weightMap.find? (fun e => 16 * wmTile e + wmArray e == k))
/-- The weight format an array holds for the whole plan (R81, R152). -/
def arrFmt (s : State) (k : Nat) : Nat := ((mapEntry s k).map wmFormat).getD 1
/-- The programmed integers of a row. -/
def imageRow (s : State) (k row : Nat) : List Int :=
  (unpackRow (arrFmt s k) (tileBytes s (k / 16) (imageOff s k row) 128)).map Prod.fst
/-- Whether an image row holds an invalid code (R66). -/
def imageInvalid (s : State) (k row : Nat) : Bool :=
  (unpackRow (arrFmt s k) (tileBytes s (k / 16) (imageOff s k row) 128)).any Prod.snd
/-- Writing an image row: only Mordant does (R99), outside every plan frame. -/
def setImageRow (s : State) (k row : Nat) (ws : List Int) : State :=
  writeTile s none (k / 16) (imageOff s k row) (packRow (arrFmt s k) ws) noPoison
/-- The canonical digits of a row's weights in data column order (R63). -/
def imageDigits (s : State) (k row : Nat) : List Int := (imageRow s k row).flatMap (canonDigits (arrFmt s k))

/-! ### Cells (R60, R61, R179) -/

/-- The key of an element. -/
def cellKey (k row col element : Nat) : Nat := 2 * (520 * (512 * k + row) + col) + element
/-- The level of an element: 0 positive, 1 negative. -/
def levelOf (s : State) (k row col element : Nat) : Nat := tget 0 s.cells (cellKey k row col element)
/-- Giving an element a level. -/
def setLevel (s : State) (k row col element v : Nat) : State :=
  { s with cells := tset 0 s.cells (cellKey k row col element) v }
/-- A cell's digit. -/
def cellDigit (s : State) (k row col : Nat) : Int := (levelOf s k row col 0 : Int) - (levelOf s k row col 1 : Int)
/-- The canonical pair of levels of a digit. -/
def digitLevels (d : Int) : Nat × Nat := if 0 ≤ d then (d.toNat, 0) else (0, (-d).toNat)
/-- The digits of a row's data columns. -/
def rowDigits (s : State) (k row : Nat) : List Int := (List.range (fmtData (arrFmt s k))).map (fun j => cellDigit s k row j)
/-- The fixed digit of a reference column (R179), c512 to c519. -/
def refDigit (col row : Nat) : Int :=
  match col with
  | 512 => 3
  | 513 => -3
  | 514 => 1
  | 515 => -1
  | 517 => 2
  | 518 => -2
  | 519 => if row % 2 = 0 then 3 else -3
  | _ => 0
/-- The target digit of every column of a row for given weights: data columns, unused columns at 0, reference columns. -/
def targetDigit (fmt : Nat) (ws : List Int) (row col : Nat) : Int :=
  if col < fmtData fmt then ((canonDigits fmt (ws.getD (col / fmtCells fmt) 0)).getD (col % fmtCells fmt) 0)
  else if col < 512 then 0 else refDigit col row

/-! ### Loupe's vectors (R116) -/

/-- vᵢ of a row's digits. -/
def sumV (ds : List Int) : Int := ds.foldl (· + ·) 0
/-- uᵢ of a row's digits. -/
def sumU (ds : List Int) : Int := (List.zipIdx ds).foldl (fun acc x => acc + ((x.2 : Int) + 1) * x.1) 0
/-- Replacing a row's entries from digits (R117). -/
def setVectors (s : State) (k row : Nat) (ds : List Int) : State :=
  modArr s k (fun a => { a with v := tset 0 a.v row (sumV ds), u := tset 0 a.u row (sumU ds),
                                badParity := a.badParity.filter (fun r => r != row) })

/-! ### Masters (R289, R292, R293) -/

/-- The group table entry of a parameter group. -/
def groupEntry (p : PlanImage) (g : Nat) : Option (BitVec 512) := p.update.groups.find? (fun e => gpNumber e == g)
/-- The device address of a bank offset of a region: the bank of a version (R289). -/
def bankBase (p : PlanImage) (region : Nat) (version : Nat) : Nat :=
  match p.regions[region]? with
  | some e => rgAddr e + (version % 2) * (rgLength e / 2)
  | none => 0
/-- The BF16 master of an element of a group in the bank of a version. -/
def masterOf (s : State) (version g element : Nat) : FVal :=
  match s.plan.loaded.bind (fun p => (groupEntry p g).map (fun e => (p, e))) with
  | none => .zero
  | some (p, e) => ofBf16 (BitVec.ofNat 16 (natLE (hbmBytes s (bankBase p (gpBankRegion e) version + gpBankBase e + 2 * element) 2)))
/-- Whether a weight position of an array is covered (R545). -/
def coveredAt (e : BitVec 256) (row col : Nat) : Bool := decide (row < wmRows e) && decide (col < wmCols e)
/-- The programming scale of a weight column (R152, R547). -/
def mapScale (b : RankBlock) (e : BitVec 256) (col : Nat) : Word :=
  if wmFormat e = 3 then b.colScales.getD ((wmColScales e - 32 * b.weightMap.length) / 4 + col) 0 else wmScale e
/-- The master behind a weight position. -/
def masterAt (s : State) (version : Nat) (e : BitVec 256) (row col : Nat) : FVal :=
  masterOf s version (wmGroup e) (wmElement e row col).toNat

end Sys2Proof.Machine
end

