-- ==== Sys2Proof/Machine/Coef.lean ====
section
/-!
DEFINITION. Sys2Proof/Machine/Coef.lean: the column coefficients (R183, R184), the phase values (R59, R86, R93) and the noise model
(R105 to R110).
-/
namespace Sys2Proof.Machine
open Sys2Proof

/-! ### Coefficients -/

/-- A calibration entry: the anchored word, or the factory's (R183). -/
def calEntry (a : ArrayState) (k set col : Nat) : Word :=
  match tfind a.sets (520 * set + col) with
  | some w => w
  | none => Config.factoryEntry k set col
/-- Gain and offset of an entry. -/
def entryGain (w : Word) : Nat := bitsOf w 15 0
def entryOffset (w : Word) : Int := signedOf 16 (bitsOf w 31 16)
/-- The word of a gain and an offset. -/
def entryWord (g : Nat) (o : Int) : Word := BitVec.ofNat 32 (g % 65536 + 65536 * unsignedOf 16 o)
/-- The set points in 1/64 °C (R183). -/
def setPoint (i : Nat) : Int := 1920 + 1120 * (i : Int)
/-- A temperature clamped to the set points (R184). -/
def clampTemp (t : Int) : Int := max 1920 (min 6400 t)
/-- The lower set point that brackets a temperature (R184). -/
def lowerSet (t : Int) : Nat := min 3 ((clampTemp t - 1920) / 1120).toNat
/-- The interpolated gain and offset of a column at a temperature (R184). -/
def interpolated (a : ArrayState) (k : Nat) (temp : Int) (col : Nat) : Int × Int :=
  let t := clampTemp temp
  let i := lowerSet temp
  let wa := calEntry a k i col
  let wb := calEntry a k (i + 1) col
  let part := fun (x y : Int) => rneInt ((x : Rat) + ((y - x) * (t - setPoint i) : Int) / 1120)
  (part (entryGain wa) (entryGain wb), part (entryOffset wa) (entryOffset wb))
/-- The coefficients of a column (R184): μ and δo enter data columns only. -/
def columnCoef (a : ArrayState) (k : Nat) (temp : Int) (mu : Nat) (deltaO : Int) (col : Nat) : Int × Int :=
  let (g, o) := interpolated a k temp col
  if col < 512 then (min (rneInt ((g * (mu : Int) : Int) / 16384)) 65535, o + deltaO) else (g, o)
/-- The coefficients in force since the tick (R86). -/
def coefNow (a : ArrayState) (k col : Nat) : Int × Int := columnCoef a k a.coefTemp a.coefMu a.coefDelta col

/-! ### Phases and charge (R59, R84) -/

/-- The high and low phase values of a lane. -/
def laneHigh (a : Int) : Int := a / 16
def laneLow (a : Int) : Int := a % 16
/-- Pulse levels of a phase: 0 high, 1 low. -/
def pulseOf (phase : Nat) (a : Int) : Nat := if phase = 0 then (laneHigh a).natAbs else (laneLow a).natAbs
/-- The signed pulse of a phase. -/
def signedPulse (phase : Nat) (a : Int) : Int := if phase = 0 then laneHigh a else laneLow a
/-- The rows with their lane values that drive a phase, of the rows of a pass: pass 4 is all rows. -/
def drivenRows (lanes : List Int) (phase pass : Nat) : List (Nat × Int) :=
  (List.zipIdx lanes).filterMap (fun x =>
    if (pass = 4 ∨ x.2 / 128 = pass) ∧ signedPulse phase x.1 ≠ 0 then some (x.2, signedPulse phase x.1) else none)
/-- The charge of a column in a phase (R84), in charge units. -/
def columnCharge (s : State) (k : Nat) (rows : List (Nat × Int)) (col : Nat) : Int :=
  rows.foldl (fun q x => q + cellDigit s k x.1 col * x.2) 0
/-- The converter's code (R85): nominal, with the deviation of one conversion, limited to 0 to 511. -/
def convCode (q : Int) (step : Rat) (noise : Int) : Nat :=
  (max 0 (min 511 (256 + rneInt ((q : Rat) / step) + noise))).toNat
/-- Whether a code is a rail. -/
def isRail (c : Nat) : Bool := c == 0 || c == 511
/-- A phase value from a code (R86): factor 45, or 180 in split mode (R93). -/
def phaseValue (factor : Int) (c : Nat) (g o : Int) : Int :=
  rneInt (((factor * ((c : Int) - 256) * g - 4096 * o : Int) : Rat) / 65536)

/-- One phase of one column, outside split mode: value and whether it reached a rail. -/
def normalPhase (s : State) (k : Nat) (lanes : List Int) (draw phase col : Nat) : Int × Bool :=
  let rows := drivenRows lanes phase 4
  if rows.isEmpty then (0, false)
  else
    let (g, o) := coefNow (arrOf s k) k col
    let c := convCode (columnCharge s k rows col) (mkRat 45 4) (Config.convNoise draw col phase)
    (phaseValue 45 c g o, isRail c)
/-- One phase of one column in split mode: the sum of the passes' values, and whether any pass reached a rail (R93, R94). -/
def splitPhase (s : State) (k : Nat) (lanes : List Int) (draw phase col : Nat) : Int × Bool :=
  (List.range 4).foldl (fun acc pass =>
    let rows := drivenRows lanes phase pass
    if rows.isEmpty then acc
    else
      let (g, o) := coefNow (arrOf s k) k col
      let c := convCode (columnCharge s k rows col) 45 (Config.convNoise draw col (2 + 2 * pass + phase))
      (acc.1 + phaseValue 180 c g o, acc.2 || isRail c)) (0, false)

/-! ### The condition word (R105 to R110) -/

/-- Fields of a condition word. -/
def cwTempBand (w : DWord) : Nat := bitsOf w 2 0
def cwOverTemp (w : DWord) : Bool := bitOf w 3
def cwValid (w : DWord) : Bool := bitOf w 7
def cwRho2 (w : DWord) : Rat := mkRat (bitsOf w 31 16) (2 ^ 26)
def cwSigmaN2 (w : DWord) : Rat := mkRat (bitsOf w 47 32) 256
/-- The temperature band of a junction reading in 1/64 °C (R106, R107). -/
def tempBand (t : Int) : Nat := if t < 2880 then 0 else if t < 3840 then 1 else if t < 4800 then 2 else if t < 5760 then 3 else 4
/-- The age band of an age in frames of 100 µs (R106, R107). -/
def ageBand (frames : Nat) : Nat :=
  if frames < 10000 then 0 else if frames < 600000 then 1 else if frames < 36000000 then 2
  else if frames < 864000000 then 3 else if frames < 6048000000 then 4 else 5
/-- σ_n² in units of 2⁻⁸ (R106). -/
def sigmaN2Field (band : Nat) : Nat := match band with
  | 0 => 400
  | 1 => 484
  | 2 => 576
  | 3 => 784
  | _ => 1024
/-- ρ_T, ρ_A and ρ_W in hundredths of a per cent (R106). -/
def rhoT (band : Nat) : Nat := [50, 55, 60, 70, 80].getD band 80
def rhoA (band : Nat) : Nat := [20, 30, 45, 60, 80, 100].getD band 100
def rhoW (decile : Nat) : Nat := [10, 10, 12, 15, 18, 22, 26, 31, 37, 45, 60].getD decile 60
/-- The rho2 field: ρ² in units of 2⁻²⁶, rounded up (R110). -/
def rho2Field (tb ab wd : Nat) : Nat :=
  (mkRat (((rhoT tb) ^ 2 + (rhoA ab) ^ 2 + (rhoW wd) ^ 2 : Nat) * 2 ^ 26 : Int) (10 ^ 8)).ceil.toNat
/-- The condition word of the fields of R110. -/
def condWord (temp : Int) (age decile : Nat) (valid retired test exhausted : Bool) : DWord :=
  let tb := tempBand temp
  let ab := ageBand age
  BitVec.ofNat 64 (tb + 8 * bitNat (decide (6400 < temp)) + 16 * ab + 128 * bitNat valid + 256 * decile
    + 4096 * bitNat retired + 8192 * bitNat test + 16384 * bitNat exhausted + 65536 * (rho2Field tb ab decile % 65536)
    + 2 ^ 32 * sigmaN2Field tb + 2 ^ 48 * unsignedOf 16 temp)

/-- The sum of squared pulse levels of the rows of a pass. -/
def sumP2 (lanes : List Int) (phase pass : Nat) : Nat :=
  (drivenRows lanes phase pass).foldl (fun acc x => acc + x.2.natAbs ^ 2) 0
/-- σ_p² of a phase (R105). -/
def phaseVar (w : DWord) (lanes : List Int) (phase : Nat) (split : Bool) : Rat :=
  let one := fun (q : Rat) (pass : Nat) =>
    if (drivenRows lanes phase pass).isEmpty then 0
    else q + cwSigmaN2 w + cwRho2 w * ((9 * sumP2 lanes phase pass : Nat) : Int)
  if split then (List.range 4).foldl (fun acc pass => acc + one (mkRat 43200 256) pass) 0 else one (mkRat 2700 256) 4
/-- σ_c² (R108). -/
def copyVar (w : DWord) (lanes : List Int) (split : Bool) : Rat :=
  256 * phaseVar w lanes 0 split + phaseVar w lanes 1 split
/-- σ_Y² of a weight column (R108). -/
def columnVar (fmt : Nat) (w : DWord) (lanes : List Int) (split : Bool) : Rat :=
  (match fmt with
   | 2 => (9 : Rat)
   | 3 => 54372
   | _ => 1) * copyVar w lanes split

end Sys2Proof.Machine
end

