-- ==== Sys2Proof/Machine/Loupe.lean ====
section
/-!
DEFINITION. Sys2Proof/Machine/Loupe.lean: Loupe's comparison and envelope (R116 to R124), the rebuild of its vectors (R132), and
quarantine (R140, R142, R417).
-/
namespace Sys2Proof.Machine
open Sys2Proof

/-- What Loupe reports of an MVM: cause codes of R122 with the differences and tolerances. -/
structure LoupeReport where
  causes : List Nat
  dv : Int
  tv : Int
  du : Int
  tu : Int
  deriving DecidableEq, Repr

/-- Loupe's k: tile.loupe.k_sigma in sixteenths, plus 3 under over_temp (R119, R120). -/
def loupeK (s : State) (w : DWord) : Rat := mkRat (setting s 0x00020101) 16 + (if cwOverTemp w then 3 else 0)
/-- The constants of a format: |J| and Σ(j+1)² (R119). -/
def jCount (fmt : Nat) : Nat := fmtData fmt
def jSquares (fmt : Nat) : Nat := let n := fmtData fmt; n * (n + 1) * (2 * n + 1) / 6
/-- A tolerance: the least T with T² ≥ k²·σ_c²·c (R119). -/
def tolerance (k : Rat) (var : Rat) (c : Nat) : Nat := ceilSqrt (k * k * var * ((c : Int) : Rat))
/-- The envelope of a phase (R121). -/
def envelope (k : Rat) (w : DWord) (lanes : List Int) (phase : Nat) (split : Bool) : Nat :=
  3 * (drivenRows lanes phase 4).foldl (fun acc x => acc + x.2.natAbs) 0 + ceilSqrt (k * k * phaseVar w lanes phase split)
/-- Σ aᵢ·eᵢ over the entries of one of Loupe's vectors (R118). -/
def predicted (entries : Table Int) (lanes : List Int) : Int :=
  (List.zipIdx lanes).foldl (fun acc x => if x.1 = 0 then acc else acc + x.1 * tget 0 entries x.2) 0
/-- Whether a phase value of an unexcluded column leaves its envelope (R121). -/
def outsideEnvelope (kk : Rat) (w : DWord) (lanes : List Int) (split : Bool) (phases : List (Int × Int))
    (excluded : Nat → Bool) : Bool :=
  let eh := envelope kk w lanes 0 split
  let el := envelope kk w lanes 1 split
  let hi := !(drivenRows lanes 0 4).isEmpty
  let lo := !(drivenRows lanes 1 4).isEmpty
  (List.zipIdx phases).any (fun x =>
    !(excluded x.2) && ((hi && decide (eh < x.1.1.natAbs)) || (lo && decide (el < x.1.2.natAbs))))

/-- Loupe's report on an MVM whose array ran (R118 to R122). `rail`: a rail code in a split pass. -/
def loupeReport (s : State) (k : Nat) (lanes : List Int) (phases : List (Int × Int)) (split rail : Bool) : LoupeReport :=
  let a := arrOf s k
  let fmt := arrFmt s k
  let kk := loupeK s a.cond
  let ys := phases.map (fun p => 16 * p.1 + p.2)
  let dv := sumV ys - predicted a.v lanes
  let du := sumU ys - predicted a.u lanes
  let var := copyVar a.cond lanes split
  let tv : Int := tolerance kk var (jCount fmt)
  let tu : Int := tolerance kk var (jSquares fmt)
  let parity := (List.zipIdx lanes).any (fun x => x.1 != 0 && a.badParity.contains x.2)
  { causes := (if tv < dv.natAbs then [1] else []) ++ (if tu < du.natAbs then [2] else [])
      ++ (if outsideEnvelope kk a.cond lanes split phases (fun _ => false) then [3] else [])
      ++ (if rail then [4] else []) ++ (if parity then [5] else []),
    dv := dv, tv := tv, du := du, tu := tu }
/-- Loupe's report on a clamped MVM: the envelope of the unsaturated data columns only (R124). -/
def clampedReport (s : State) (k : Nat) (lanes : List Int) (phases : List (Int × Int)) (sat : List Nat) : LoupeReport :=
  let a := arrOf s k
  let kk := loupeK s a.cond
  { causes := if outsideEnvelope kk a.cond lanes false phases (fun j => sat.contains j) then [3] else [],
    dv := 0, tv := 0, du := 0, tu := 0 }

/-! ### Regeneration (R132) -/

/-- Rebuilding rows' entries from the image's canonical digits. -/
def rebuildRows (s : State) (k : Nat) (rows : List Nat) : State :=
  rows.foldl (fun s r => setVectors s k r (imageDigits s k r)) s
/-- Starting stage 2 of a regeneration, or starting it again. -/
def startReadback (s : State) (k : Nat) : State :=
  modArr s k (fun a => { a with regen := some 0, regenSwitched := [], regenRows := [], regenDiffer := 0 })
/-- A checker-wrong verdict rebuilds the vectors from the image and starts the read-back; on an array that is already
regenerating it only restarts the read-back. -/
def regenerate (s : State) (k : Nat) : State :=
  if (arrOf s k).regen.isSome then startReadback s k else startReadback (rebuildRows s k (List.range 512)) k
/-- A parity error (cause 5): EV-0207; it starts a rebuild, or on a regenerating array restarts stage 2 and rebuilds from
the image the entries of the rows whose parity failed. -/
def parityError (s : State) (k : Nat) : State :=
  let s := raise s 0x0207 (unitArray k) 0 []
  if (arrOf s k).regen.isSome then startReadback (rebuildRows s k (arrOf s k).badParity) k else regenerate s k

/-! ### Quarantine (R142, R187, R417) -/

/-- Quarantining an array: its MVMs run on Prism's exact path, its condition word loses its valid bit, and it can return
only after a calibration and a margin item that pass from now on. -/
def quarantineArray (s : State) (k : Nat) : State :=
  modArr s k (fun a => { a with quarantined := true, calValid := false, cleanCal := false, cleanItem := false, job := none,
                                cond := a.cond &&& ~~~(0x80 : DWord) })
/-- Quarantine at L2 with the event of its cause, noted in the running plan frame's level. -/
def quarantineL2 (s : State) (k code : Nat) : State :=
  let s := raise (quarantineArray s k) code (unitArray k) 2 []
  noteLevel s (runningGen s) (some (k / 16)) 2

/-! ### Exact products (R104, R129, R142) -/

/-- Y* of every weight column from the image: K·Σ lane·w over the driven rows, outliers excluded. -/
def exactY (s : State) (k : Nat) (lanes : List Int) : List Int :=
  let fmt := arrFmt s k
  let kc : Int := fmtK fmt
  let zero : List Int := List.replicate (fmtColumns fmt) 0
  (List.zipIdx lanes).foldl (fun acc x =>
    if x.1 = 0 then acc
    else List.zipWith (fun y w => y + kc * x.1 * w) acc (imageRow s k x.2)) zero

end Sys2Proof.Machine
end

