-- ==== Sys2Proof/Machine/Mvm.lean ====
section
/-!
DEFINITION. Sys2Proof/Machine/Mvm.lean: the analogue MVM and its accumulation: MVM (R80, R91, R97 to R102, R113, R142, R335), MVM_RESULT
(R86, R87, R92 to R96, R118 to R124), SPLIT_RERUN (R93, R94) and OUTPUT_CONVERSION (R64, R67, R89, R90, R125, R245).
-/
namespace Sys2Proof.Machine
open Sys2Proof

/-! ### Outlier lists (R250, R316) -/

/-- The record of an A8 vector: the scale of its header and its outliers by lane. -/
structure OutRecord where
  scale : Word
  entries : List (Nat × Int)
  /-- bytes the record takes -/
  size : Nat

/-- The record at a place. -/
def readRecord (s : State) (p : Place) : OutRecord :=
  let head := placeBytes s p 8
  let n := min 512 (natLE (head.drop 4))
  let es := (List.range n).map (fun i =>
    let w := natLE (placeBytes s (p.plus (8 + 4 * i)) 4)
    (w / 65536 % 512, signedOf 16 w))
  { scale := BitVec.ofNat 32 (natLE (head.take 4)), entries := es, size := (8 + 4 * n + 7) / 8 * 8 }
/-- The record of vector v: records follow one another. -/
def recordAt (s : State) (p : Place) : Nat → OutRecord × Place
  | 0 => (readRecord s p, p)
  | v + 1 =>
    let (r, q) := recordAt s p v
    let q' := q.plus r.size
    (readRecord s q', q')

/-! ### Accumulator groups (R88, R125, R245) -/

/-- The MVM descriptors that contribute to an accumulator group, by package index. -/
def groupDescs (t : Template) (g : Nat) : List Desc := t.descs.filter (fun d => dsClass d == 1 && mvGroup d == g)
/-- The descriptor whose tile is the group's home: the lowest package index (R245). -/
def homeDesc (t : Template) (d : Desc) : Desc :=
  (groupDescs t (mvGroup d)).foldl (fun b x => if dsIndex x < dsIndex b then x else b) d
/-- The key of an output vector. -/
def sameOut (o : GroupOut) (gen group vec : Nat) : Bool := o.gen == gen && o.group == group && o.vec == vec
/-- Changing an output vector. -/
def modOut (s : State) (gen group vec : Nat) (f : GroupOut → GroupOut) : State :=
  { s with ops.outs := s.ops.outs.map (fun o => if sameOut o gen group vec then f o else o) }

/-- The column scale s_j of a Reference-mode output column (R112): over every position of the column in the arrays of the
group's Reference contributors (log 16). -/
def refScale (s : State) (f : PlanFrame) (t : Template) (d : Desc) (col : Nat) : FVal :=
  let arrays := (groupDescs t (mvGroup d)).map (fun x => 16 * dsTile x + dsArray x)
  let m := arrays.foldl (fun (m : FVal) k =>
    match mapEntry s k with
    | none => m
    | some e => (List.range (wmRows e)).foldl (fun m r => fMax m (fAbs (masterAt s f.view.toNat e r col))) m) .zero
  if m.isZero then .one else roundTo fp32 .nearestEven (fDiv m (.fin 127))
/-- A Reference weight (R112). Of a master column that holds a non-finite element the spec states no weight: it is free (log 16). -/
def refWeight (master scale : FVal) : Int :=
  max (-127) (min 127 (if master.isFinite && scale.isFinite then rneInt (master.rat / scale.rat)
    else Config.referenceWeight (toF32 .odd master) (toF32 .odd scale)))

/-- The output vector of an MVM's group, made when the first contributor issues. -/
def ensureOut (s : State) (f : PlanFrame) (t : Template) (d : Desc) (vec : Nat) (scaleA : Word) : State :=
  if s.ops.outs.any (fun o => sameOut o f.gen (mvGroup d) vec) then s
  else
    let k := 16 * dsTile d + dsArray d
    let fmt := arrFmt s k
    let n := fmtColumns fmt
    let h := homeDesc t d
    let scales : List Word := (List.range n).map (fun c =>
      if dsReference d then toF32 .nearestEven (refScale s f t d c)
      else match myBlock s, mapEntry s k with
        | some b, some e => mapScale b e c
        | _, _ => 0)
    let covered := ((mapEntry s k).map wmCols).getD n
    let out : GroupOut :=
      { gen := f.gen, group := mvGroup d, vec := vec, home := dsTile h, addr := oprAt t h.d6 f.iteration + 2 * n * vec,
        contributors := mvContrib d, arrived := 0, reported := 0, sums := List.replicate n 0, scaleA := scaleA,
        scalesW := scales, kConst := if dsReference d then 1 else fmtK fmt, covered := covered, suspects := [],
        converted := false, consumed := false }
    { s with ops.outs := s.ops.outs ++ [out] }
/-- Adding integers to an output's sums. -/
def addSums (s : State) (gen group vec : Nat) (ys : List Int) : State :=
  modOut s gen group vec (fun o => { o with sums := List.zipWith (· + ·) o.sums ys })
/-- A contributor's arrival, with Loupe's report on it. -/
def arriveOut (s : State) (gen group vec : Nat) : State :=
  modOut s gen group vec (fun o => { o with arrived := o.arrived + 1, reported := o.reported + 1 })

/-! ### Completion of an MVM operation (R251) -/

/-- An MVM completes once its vectors have issued, every check on them has reported, and its outputs are converted. -/
def tryFinishMvm (s : State) (op : Nat) : State :=
  match s.fr.running, runningDesc s op with
  | some f, some (_, d) =>
    match f.inflight.find? (fun x => x.op == op) with
    | some x =>
      let outs := s.ops.outs.filter (fun o => o.gen == f.gen && o.group == mvGroup d)
      if x.vectors = mvVectors d ∧ x.checks = 0 ∧ outs.all (fun o => o.converted || decide (mvVectors d ≤ o.vec)) then finishOp s op
      else s
    | none => s
  | _, _ => s
/-- Changing an operation's entry. -/
def modFlight (s : State) (gen op : Nat) (f : InFlight → InFlight) : State :=
  modGen s gen (fun p => { p with inflight := p.inflight.map (fun x => if x.op = op then f x else x) })
/-- A check of an operation has reported. -/
def checkReported (s : State) (gen op : Nat) : State :=
  tryFinishMvm (modFlight s gen op (fun x => { x with checks := x.checks - 1 })) op

/-! ### Issue of one vector -/

/-- Outlier lanes of a two-pass vector (R335): low and high lane of an outlier that the engine does not take. -/
def twoPass (q : Int) : Int × Int :=
  let sg : Int := if q < 0 then -1 else 1
  if q.natAbs ≤ 16383 then (sg * ((q.natAbs % 128 : Nat) : Int), sg * ((q.natAbs / 128 : Nat) : Int)) else (127 * sg, 127 * sg)
/-- Whether an outlier not taken is clamped. -/
def isClamped (granted : Bool) (q : Int) : Bool := !granted || decide (16383 < q.natAbs)
/-- The lanes of a pass: A8 bytes, with outliers' lanes replaced. -/
def passLanes (a8 : List Int) (taken : List (Nat × Int)) (rest : List (Nat × Int)) (granted high : Bool) : List Int :=
  (List.zipIdx a8).map (fun x =>
    match taken.find? (fun e => e.1 == x.2), rest.find? (fun e => e.1 == x.2) with
    | some _, _ => 0
    | none, some e =>
      if granted then (if high then (twoPass e.2).2 else (twoPass e.2).1) else (if e.2 < 0 then -127 else 127)
    | none, none => if high then 0 else x.1)
/-- The outlier engine's contribution (R100): K·q·w of every weight column. -/
def outlierSums (s : State) (k : Nat) (taken : List (Nat × Int)) : List Int :=
  let fmt := arrFmt s k
  let kc : Int := fmtK fmt
  taken.foldl (fun acc e => List.zipWith (fun y w => y + kc * e.2 * w) acc (imageRow s k e.1))
    (List.replicate (fmtColumns fmt) 0)
/-- Marking a scale's overflow (R317), except in recomputation (R205). -/
def markOverflow (s : State) (f : PlanFrame) (index : Nat) : State :=
  noteObservation s f index { maxIn := 0, maxAll := 0, overflow := true, quantised := false }
/-- Counting an issued vector of an operation. -/
def vectorIssued (s : State) (gen op checks : Nat) : State :=
  modFlight s gen op (fun x => { x with vectors := x.vectors + 1, checks := x.checks + checks })

/-- One pass of a vector on the array: a zero bypass (R91), the exact path of a quarantined array (R142), or an array run.
`weight` is 128 for the high pass of a two-pass vector (R336). -/
def runPass (s : State) (f : PlanFrame) (d : Desc) (vec : Nat) (lanes : List Int) (high : Bool) : State :=
  let tile := dsTile d
  let k := 16 * tile + dsArray d
  let op := dsIndex d
  let weight : Int := if high then 128 else 1
  if lanes.all (fun x => x == 0) then
    let s := tally s f.gen tile (fun c => { c with zeroBypass := c.zeroBypass + 1 })
    arriveOut (active s (blockTile tile) 2 1) f.gen (mvGroup d) vec
  else if (arrOf s k).quarantined then
    let s := modGen s f.gen (fun p => { p with substituted := p.substituted + 1 })
    let s := addSums s f.gen (mvGroup d) vec ((exactY s k lanes).map (fun y => weight * y))
    arriveOut s f.gen (mvGroup d) vec
  else
    let run : MvmRun :=
      { gen := f.gen, op := op, vec := vec, tile := tile, array := dsArray d, cycle := s.fr.cycle, lanes := lanes,
        split := dsSplit d, high := high, rerun := false, draw := s.free }
    let s := draw { s with ops.mvms := s.ops.mvms ++ [run] }
    let s := tally s f.gen tile (fun c => { c with mvmRun := c.mvmRun + 1 })
    let s := modFlight s f.gen op (fun x => { x with checks := x.checks + 1 })
    active s (blockTile tile) 1 (if dsSplit d then 4 else 1)

/-- An analogue vector: its outliers, its lanes and its passes. -/
def issueAnalogue (s : State) (f : PlanFrame) (t : Template) (d : Desc) (vec : Nat) (a8 : List Int) (rec : OutRecord) : State :=
  let tile := dsTile d
  let k := 16 * tile + dsArray d
  let room := min 64 (4096 - (tileOf s tile).outliersTaken)
  let taken := rec.entries.take room
  let rest := rec.entries.drop room
  let granted := f.fallback.contains (mvLayer d) && !dsSplit d
  let clamped := rest.filter (fun e => isClamped granted e.2)
  let s := ensureOut s f t d vec rec.scale
  let s := if granted then modOut s f.gen (mvGroup d) vec (fun o => { o with contributors := o.contributors + 1 }) else s
  let s := addSums s f.gen (mvGroup d) vec (outlierSums s k taken)
  let s := if taken.any (fun e => imageInvalid s k e.1) then raise s 0x0402 (unitTile tile) noLevel [] else s
  let s := modTile s tile (fun x => { x with outliersTaken := x.outliersTaken + taken.length })
  let s := active s (blockTile tile) 4 taken.length
  let s := tally s f.gen tile (fun c =>
    { c with outliersTaken := c.outliersTaken + taken.length, outliersClamped := c.outliersClamped + clamped.length,
             degraded := c.degraded || !clamped.isEmpty })
  let s := if clamped.isEmpty then s else markOverflow s f (mvScale d)
  let s := noteShares s f.gen (dsTensor d) 0 0 clamped.length 0
  let s := vectorIssued s f.gen (dsIndex d) 0
  let s := runPass s f d vec (passLanes a8 taken rest granted false) false
  let s := if granted then runPass s f d vec (passLanes a8 taken rest granted true) true else s
  tryFinishMvm s (dsIndex d)

/-- A Reference-mode vector (R113): every outlier taken, exact INT8 products against the Reference weights. -/
def issueReference (s : State) (f : PlanFrame) (t : Template) (d : Desc) (vec : Nat) (a8 : List Int) (rec : OutRecord) : State :=
  let k := 16 * dsTile d + dsArray d
  let q := fun (r : Nat) => match rec.entries.find? (fun e => e.1 == r) with
    | some e => e.2
    | none => a8.getD r 0
  let s := ensureOut s f t d vec rec.scale
  let ys : List Int := match mapEntry s k with
    | none => []
    | some e => (List.range (fmtColumns (arrFmt s k))).map (fun c =>
        if wmCols e ≤ c then 0
        else
          let sj := refScale s f t d c
          (List.range (wmRows e)).foldl (fun acc r => acc + q r * refWeight (masterAt s f.view.toNat e r c) sj) 0)
  let s := addSums s f.gen (mvGroup d) vec ys
  let s := vectorIssued s f.gen (dsIndex d) 0
  tryFinishMvm (arriveOut s f.gen (mvGroup d) vec) (dsIndex d)

/-- Issuing vector `vec` of an MVM: the vectors of a descriptor issue in order (R251). -/
def issueVector (s : State) (op vec : Nat) : State :=
  match s.fr.running, runningDesc s op with
  | some f, some (t, d) =>
    match f.inflight.find? (fun x => x.op == op) with
    | some x =>
      if dsClass d = 1 ∧ x.vectors = vec ∧ vec < mvVectors d ∧ limiterLevel s (dsTile d) < 16 then
        let input := (placeOf s t f d d.d4).plus (512 * vec)
        let list := placeOf s t f d d.d5
        let (rec, at') := recordAt s list vec
        let a8 := (placeBytes s input 512).map (fun b => b.toInt)
        let s := useOperands s f.gen (dsTile d) op [(input, 512), (at', rec.size)] (.none, 0)
        if dsReference d then issueReference s f t d vec a8 rec else issueAnalogue s f t d vec a8 rec
      else s
    | none => s
  | _, _ => s

/-- MVM (R80). -/
def execMvm (op : Fin 1048576) (vec : Fin 1562) (cyc : Nat) (s : State) : Result :=
  .next (issueVector (atCycle s cyc) op vec)

/-! ### Results -/

/-- The phase values of the data columns of a run, and the columns that reached a rail. -/
def runPhases (s : State) (m : MvmRun) (split : Bool) : List ((Int × Int) × Bool) :=
  let k := 16 * m.tile + m.array
  (List.range (fmtData (arrFmt s k))).map (fun j =>
    let one := fun (ph : Nat) => if split then splitPhase s k m.lanes m.draw ph j else normalPhase s k m.lanes m.draw ph j
    let h := one 0
    let l := one 1
    ((h.1, l.1), h.2 || l.2))

/-- The drift sums of an MVM's frame, by the reference columns outside split mode (R180, R182). -/
def addDrift (s : State) (m : MvmRun) : State :=
  let k := 16 * m.tile + m.array
  let v := fun (ph col : Nat) => (normalPhase s k m.lanes m.draw ph col).1
  let sumL : Int := m.lanes.foldl (fun acc x => acc + laneLow x) 0
  let hasH := !(drivenRows m.lanes 0 4).isEmpty
  let hasL := !(drivenRows m.lanes 1 4).isEmpty
  let z := (if hasH then v 0 516 else 0) + (if hasL then v 1 516 else 0)
  let n := (bitNat hasH + bitNat hasL : Nat)
  let zero : DriftSums := { gen := m.gen, l := 0, d := 0, z := 0, n := 0, sumL := 0, obs1 := 0, obs2 := 0, obs3 := 0 }
  let upd := fun (d : DriftSums) =>
    { d with l := d.l + 6 * sumL, d := d.d + (v 1 512 - v 1 513), z := d.z + z, n := d.n + n, sumL := d.sumL + sumL,
             obs1 := d.obs1 + v 1 514, obs2 := d.obs2 + v 1 517, obs3 := d.obs3 + v 1 512 }
  modArr s k (fun a =>
    if a.drift.any (fun d => d.gen == m.gen) then { a with drift := a.drift.map (fun d => if d.gen = m.gen then upd d else d) }
    else { a with drift := a.drift ++ [upd zero] })

/-- The plan frame of a run, if it is running or closed. -/
def frameOf (s : State) (gen : Nat) : Option PlanFrame :=
  if (s.fr.running.map PlanFrame.gen) = some gen then s.fr.running
  else if (s.fr.closed.map PlanFrame.gen) = some gen then s.fr.closed else none
/-- The accumulator group of an operation in a run. -/
def groupOfOp (s : State) (gen op : Nat) : Nat :=
  match (frameOf s gen).bind (fun f => (frameTemplate s f).bind (fun t => descOf t op)) with
  | some d => mvGroup d
  | none => 0
/-- Delivering a run's integers to its output (R87, R88, R336). -/
def deliverRun (s : State) (m : MvmRun) (phases : List (Int × Int)) : State :=
  let fmt := arrFmt s (16 * m.tile + m.array)
  let ys := recombineAll fmt (phases.map (fun p => 16 * p.1 + p.2))
  let w : Int := if m.high then 128 else 1
  let g := groupOfOp s m.gen m.op
  arriveOut (addSums s m.gen g m.vec (ys.map (fun y => w * y))) m.gen g m.vec
/-- Removing a run. -/
def dropRun (s : State) (m : MvmRun) : State :=
  { s with ops.mvms := s.ops.mvms.filter (fun x => !(x == m)) }
/-- A suspect's record for Prism (R122, R123). -/
def suspectOf (m : MvmRun) (r : LoupeReport) (phases : List (Int × Int)) (split : Bool) (cycle : Nat) : Suspect :=
  { gen := m.gen, op := m.op, vec := m.vec, tile := m.tile, array := m.array, causes := r.causes, dv := r.dv, tv := r.tv,
    du := r.du, tu := r.tu, lanes := m.lanes, phases := phases, split := split, high := m.high, cycle := cycle }
/-- Queueing a suspect: counted, kept on its output, and entered in the tile's event queue. -/
def queueSuspect (s : State) (q : Suspect) : State :=
  let s := tally s q.gen q.tile (fun c => { c with suspects := c.suspects + 1 })
  let s := active s (blockTile q.tile) 5 1
  let g := groupOfOp s q.gen q.op
  let s := modOut s q.gen g q.vec (fun o => { o with suspects := o.suspects ++ [(q.tile, q.array, q.op, q.vec)] })
  let s := if q.causes.contains 5 then parityError s (16 * q.tile + q.array) else s
  enterQueue s q.gen q.tile 1 q.op (fun s => modTile s q.tile (fun t => { t with queue := t.queue ++ [q] }))

end Sys2Proof.Machine
end

