-- ==== Sys2Proof/Machine/Prism.lean ====
section
/-!
DEFINITION. Sys2Proof/Machine/Prism.lean: what follows a Loupe report: MVM_RESULT (R86, R87, R92 to R96, R123, R124), SPLIT_RERUN (R93,
R94), OUTPUT_CONVERSION (R89, R90, R125), PRISM_ARBITRATION (R129 to R131), EVENT_QUEUE_ENTRY and CHECK_DEADLINE_EXPIRY (R128), and
VECTOR_READBACK_SLOT (R132).
-/
namespace Sys2Proof.Machine
open Sys2Proof

/-! ### Converting outputs (R67, R90) -/

/-- A weight column's output value (R67): Y·s_a·s_w ÷ K rounded to odd, then to nearest even in BF16. -/
def outputValue (o : GroupOut) (col : Nat) : FVal :=
  if o.covered ≤ col then .zero
  else
    let y := (clampInt32 (o.sums.getD col 0)).1
    let v : FVal := if y = 0 then .zero
      else fDiv (fMul (fMul (.fin (y : Rat)) (ofF32 o.scaleA)) (ofF32 (o.scalesW.getD col 0))) (.fin ((o.kConst : Int) : Rat))
    roundTo bf16 .nearestEven (roundTo fp32 .odd v)
/-- The outputs of a vector. -/
def outputValues (o : GroupOut) : List FVal := (List.range o.sums.length).map (outputValue o)
/-- Writing an output vector to its home tile (R245). -/
def writeOutput (s : State) (o : GroupOut) : State :=
  let bytes := floatBytes true (outputValues o)
  let s := writeTile s (some o.gen) o.home o.addr bytes noPoison
  active s (blockTile o.home) 16 bytes.length
/-- Columns whose exact sum leaves the INT32 range (R89). -/
def clampedColumns (o : GroupOut) : Nat := o.sums.countP (fun y => (clampInt32 y).2)

/-! ### Prism (R129, R130) -/

/-- The weight columns whose error leaves the bound: err² > m²·σ_Y², exactly (R129). -/
def outsideBound (s : State) (q : Suspect) (errs : List Int) : List Int :=
  let k := 16 * q.tile + q.array
  let w := (arrOf s k).cond
  let m : Rat := if cwOverTemp w then 9 else 6
  let var := columnVar (arrFmt s k) w q.lanes q.split
  errs.filter (fun e => decide (m * m * var < ((e * e : Int) : Rat)))

/-- Correcting an output by the exact differences, and converting it again where it was converted (R129). -/
def correctOutput (s : State) (gen group vec : Nat) (diffs : List Int) : State :=
  let s := addSums s gen group vec diffs
  match s.ops.outs.find? (fun o => sameOut o gen group vec) with
  | some o => if o.converted then writeOutput s o else s
  | none => s

/-- Array-wrong verdicts on an array within the last 1,000 counter frames (R141). -/
def recentWrong (s : State) (a : ArrayState) : List Nat := a.wrong.filter (fun f => decide (now s ≤ f + 999))

/-- The verdict on a suspect and the actions of R130; every weight column is replaced on an array-wrong verdict. -/
def prismVerdict (s : State) (q : Suspect) : State :=
  let k := 16 * q.tile + q.array
  let u := unitArray k
  let fmt := arrFmt s k
  let ystar := exactY s k q.lanes
  let ys := recombineAll fmt (q.phases.map (fun p => 16 * p.1 + p.2))
  let errs := List.zipWith (fun y x => y - x) ys ystar
  let bad := outsideBound s q errs
  let causes := q.causes.foldl (fun acc c => acc + 2 ^ (c - 1)) 0
  let g := groupOfOp s q.gen q.op
  let s := modOut s q.gen g q.vec (fun o => { o with suspects := o.suspects.erase (q.tile, q.array, q.op, q.vec) })
  let sat := fun (x : Int) => max (-(2 ^ 31)) (min (2 ^ 31 - 1) x)
  if bad.isEmpty then
    let s := tally s q.gen q.tile (fun c => { c with checkerWrong := c.checkerWrong + 1 })
    let s := noteExc s q.gen (some q.tile) (excEntry s 1 q.tile q.array 0 causes q.op (sat q.dv) q.tv (sat q.du) q.tu)
    raise (regenerate s k) 0x0201 u 0 []
  else
    let weight : Int := if q.high then 128 else 1
    let consumed := (s.ops.outs.find? (fun o => sameOut o q.gen g q.vec)).any (fun o => o.consumed)
    let s := correctOutput s q.gen g q.vec (errs.map (fun e => -(weight * e)))
    let s := modArr s k (fun a => { a with calPending := true, wrong := now s :: recentWrong s a })
    let third := decide (3 ≤ (arrOf s k).wrong.length)
    let code := if consumed then 0x0203 else 0x0202
    let level := if third then 2 else if consumed then 1 else 0
    let largest : Int := errs.foldl (fun (m : Int) e => max m e.natAbs) 0
    let s := tally s q.gen q.tile (fun c => { c with arrayWrong := c.arrayWrong + 1 })
    let s := noteExc s q.gen (some q.tile)
      (excEntry s 2 q.tile q.array level causes q.op (sat q.dv) q.tv bad.length (sat largest))
    let s := raiseCharged s code u (if consumed then 1 else 0) [] 0 true
    let s := if consumed ∨ third then failCheck s q.gen code u else s
    if third then noteLevel (raise (quarantineArray s k) 0x0204 u 2 []) q.gen (some q.tile) 2 else s

/-- Settling the suspect at the head of a tile's queue. -/
def settleHead (s : State) (tile : Nat) (res : Option ResidueErr) : State :=
  match (tileOf s tile).queue with
  | [] => s
  | q :: rest =>
    let s := modTile s tile (fun t => { t with queue := rest })
    match res with
    | some r =>
      let s := tally s q.gen tile (fun c => { c with residue := c.residue + 1 })
      let s := noteExc s q.gen (some tile) (excEntry s 3 tile 0 3 0 q.op 4 r.stage r.predicted r.observed)
      machineryError s q.gen (some tile) (unitTile tile) 0 q.op
    | none => prismVerdict s q

/-- PRISM_ARBITRATION (R129): Prism takes the next suspect; a residue mismatch in its own work is L3. -/
def execPrismArbitration (tile : TileId) (res : Option ResidueErr) (cyc : Nat) (s : State) : Result :=
  .next (settleHead (atCycle s cyc) tile res)

/-! ### Reports (R123, R124, R128) -/

/-- What follows Loupe's report on a run: a pass, a suspect, or under R418 a verdict on every MVM of the array. -/
def takeReport (s : State) (m : MvmRun) (r : LoupeReport) (phases : List (Int × Int)) (split : Bool) : State :=
  let q := suspectOf m r phases split s.fr.cycle
  let s :=
    if !r.causes.isEmpty then queueSuspect s q
    else if (arrOf s (16 * m.tile + m.array)).alwaysPrism then
      prismVerdict (tally s m.gen m.tile (fun c => { c with suspects := c.suspects + 1 })) q
    else s
  checkReported s m.gen m.op

/-- The result of a run in split mode: its own passes, or a rerun (R93, R94, R97). -/
def splitResult (s : State) (m : MvmRun) : State :=
  let vals := runPhases s m true
  let phases := vals.map Prod.fst
  let s := deliverRun (dropRun s m) m phases
  takeReport s m (loupeReport s (16 * m.tile + m.array) m.lanes phases true (vals.any Prod.snd)) phases true

/-- The last slot of an array before its programming window (R161, R255). -/
def windowStart (s : State) (k : Nat) : Nat :=
  1562 - ((s.fr.running.bind (frameTemplate s)).map (fun t =>
    (t.descs.filter (fun d => dsClass d == 5 && 16 * dsTile d + dsArray d == k)).foldl (fun acc d => acc + prSlots d) 0)).getD 0

/-- Whether a saturated run is granted a rerun (R95): one of the tile's 32, with four free slots that end before the
array's window and the tick. -/
def rerunGranted (s : State) (m : MvmRun) (slots : List (Fin 1562)) : Bool :=
  let k := 16 * m.tile + m.array
  decide ((tileOf s m.tile).splitUsed < 32) && decide (4 ≤ slots.length)
    && (slots.take 4).all (fun x => decide (x.val < windowStart s k))

/-- The result of a run outside split mode (R92, R95, R96). -/
def normalResult (s : State) (m : MvmRun) (slots : List (Fin 1562)) : State :=
  let k := 16 * m.tile + m.array
  let fmt := arrFmt s k
  let vals := runPhases s m false
  let phases := vals.map Prod.fst
  let sat := (List.zipIdx vals).filterMap (fun x => if x.1.2 then some x.2 else none)
  let s := addDrift s m
  if sat.isEmpty then
    let s := deliverRun (dropRun s m) m phases
    takeReport s m (loupeReport s k m.lanes phases false false) phases false
  else if rerunGranted s m slots then
    let s := modTile s m.tile (fun t => { t with splitUsed := t.splitUsed + 1 })
    let s := tally s m.gen m.tile (fun c => { c with splitReruns := c.splitReruns + 1 })
    let s := active s (blockTile m.tile) 3 1
    { s with ops.mvms := s.ops.mvms.map (fun x => if x = m then { x with rerun := true } else x) }
  else
    let cols := (List.range (fmtColumns fmt)).countP (fun c => sat.any (fun j => j / fmtCells fmt == c))
    let s := tally s m.gen m.tile (fun c =>
      { c with clampedMvm := c.clampedMvm + 1, clampedCols := c.clampedCols + cols, degraded := true })
    let tensor := (((frameOf s m.gen).bind (fun f => (frameTemplate s f).bind (fun t => descOf t m.op))).map dsTensor).getD 0
    let s := noteShares s m.gen tensor 0 0 cols 0
    let s := deliverRun (dropRun s m) m phases
    takeReport s m (clampedReport s k m.lanes phases sat) phases false

/-- The earliest run of an array that awaits its result. -/
def nextRun (s : State) (tile arr : Nat) (rerun : Bool) : Option MvmRun :=
  s.ops.mvms.find? (fun m => m.tile == tile && m.array == arr && m.rerun == rerun)

/-- MVM_RESULT (R87): 96 ns after its start the corrected values of the array's next MVM reach the accumulator and Loupe. -/
def execMvmResult (tile : TileId) (arr : ArrIdx) (slots : List (Fin 1562)) (cyc : Nat) (s : State) : Result :=
  let s := atCycle s cyc
  .next (match nextRun s tile arr false with
    | none => s
    | some m => if m.split then splitResult s m else normalResult s m slots)

/-- SPLIT_RERUN (R95): the four passes of the array's granted rerun. -/
def execSplitRerun (tile : TileId) (arr : ArrIdx) (cyc : Nat) (s : State) : Result :=
  let s := atCycle s cyc
  .next (match nextRun s tile arr true with
    | none => s
    | some m => splitResult (active s (blockTile tile) 1 4) m)

/-! ### Output conversion (R125) -/

/-- The flag of one output vector joined to its operation's flag: the least raster index, the counts added (R55). -/
def joinFlag (e : ExcEntry) (i k n : Nat) : ExcEntry :=
  if e.a ≤ i then { e with c := min (2 ^ 32 - 1) (e.c + n) } else { e with a := i, b := k, c := min (2 ^ 32 - 1) (e.c + n) }
/-- Recording an output vector's flag: an MVM operation carries one flag over all its output vectors. -/
def noteNonFiniteRow (s : State) (gen t op : Nat) (fl : Option (Nat × Nat × Nat)) : State :=
  match fl with
  | none => s
  | some (i, k, n) =>
    let has := (frameOf s gen).any (fun f => f.excs.any (fun e => e.kind == 5 && e.op == op))
    if has then modGen s gen (fun p => { p with excs := p.excs.map (fun e => if e.kind = 5 ∧ e.op = op then joinFlag e i k n else e) })
    else noteNonFinite s gen t op fl
/-- Converting an output whose contributors have all arrived and been reported on (R88 to R90, R125). -/
def convertOutput (s : State) (o : GroupOut) : State :=
  let n := clampedColumns o
  let t : Option Template := (frameOf s o.gen).bind (frameTemplate s)
  let ds : List Desc := match t with
    | some t => groupDescs t o.group
    | none => []
  let home := (ds.map dsIndex).foldl min ((ds.map dsIndex).headD 0)
  let s := tally s o.gen o.home (fun c => { c with accClamped := c.accClamped + n, degraded := c.degraded || decide (0 < n) })
  let flag := (nonFinite (outputValues o)).map (fun x => (x.1 + o.sums.length * o.vec, x.2.1, x.2.2))
  let s := noteNonFiniteRow (writeOutput s o) o.gen o.home home flag
  let tensor := ((ds.find? (fun d => dsIndex d == home)).map dsTensor).getD 0
  let s := noteFloats (noteShares s o.gen tensor 0 0 n 0) o.gen tensor (outputValues o)
  let s := modOut s o.gen o.group o.vec (fun x => { x with converted := true })
  ds.foldl (fun s d => tryFinishMvm s (dsIndex d)) s

/-- OUTPUT_CONVERSION (R125). -/
def execOutputConversion (tile : TileId) (group : Half) (vec : Fin 1562) (s : State) : Result :=
  .next (match s.ops.outs.find? (fun o => sameOut o (runningGen s) group.toNat vec && o.home == tile.val) with
    | none => s
    | some o =>
      if o.arrived = o.contributors ∧ o.reported = o.contributors ∧ o.converted = false then convertOutput s o else s)

/-! ### The event queue's other entries (R128) -/

/-- EVENT_QUEUE_ENTRY (R128): a residue mismatch, a consumption of poison or a deadline expiry, settled by the check
controller; it overflows a queue of 8. -/
def execEventQueueEntry (tile : TileId) (e : QueueEvent) (cyc : Nat) (s : State) : Result :=
  let s := atCycle s cyc
  let g := runningGen s
  let t := tile.val
  .next (match e with
    | .residue engine op r =>
      enterQueue s g t 3 op (fun s => if engine = 4 then machineryError s g (some t) (unitTile t) 0 op
                                      else residueMismatch s g t engine op r)
    | .poison origin rest op addr number => enterQueue s g t 4 op (fun s => poisonConsumed s g t op origin number addr rest)
    | .deadline op => enterQueue s g t 0 op (fun s => noteLevel (failCheck s g 0x0220 (unitTile t)) g (some t) 1))

/-- CHECK_DEADLINE_EXPIRY (R128, R133): an operation in flight whose check has not reported in time fails its frame. -/
def execCheckDeadlineExpiry (tile : TileId) (op : Fin 1048576) (cyc : Nat) (s : State) : Result :=
  let s := atCycle s cyc
  .next (match s.fr.running with
    | none => s
    | some f =>
      if inFlight f op then
        enterQueue s f.gen tile 0 op (fun s => noteLevel (failCheck s f.gen 0x0220 (unitTile tile)) f.gen (some tile.val) 1)
      else s)

/-! ### Read-back (R132) -/

/-- The levels that a row read found, where they differ from what the elements held (log 6). -/
def applyReads (s : State) (k : Nat) (reads : List CellRead) : State :=
  reads.foldl (fun s r => setLevel s k r.row r.col r.element r.level) s

/-- One slot of stage 2: four rows are read back; after the last, their entries replace the image-built ones except on rows
that have switched since, and rows that differ from the image are queued for Mordant (R132). -/
def readbackSlot (s : State) (k : Nat) (slot : Nat) (reads : List CellRead) : State :=
  let s := applyReads s k reads
  let rows := (List.range 4).map (fun i => 4 * slot + i)
  let got := rows.map (fun r => (r, rowDigits s k r))
  let differ := got.countP (fun x => x.2 != imageDigits s k x.1)
  let s := modArr s k (fun a => { a with
    regenRows := got.foldl (fun t x => tput t x.1 x.2) a.regenRows, regenDiffer := a.regenDiffer + differ,
    requeued := a.requeued ++ ((got.filter (fun x => x.2 != imageDigits s k x.1)).map Prod.fst).filter (fun r => !(a.requeued.contains r)),
    regen := some (slot + 1) })
  if slot + 1 < 128 then s
  else
    let a := arrOf s k
    let s := (a.regenRows.filter (fun x => !(a.regenSwitched.contains x.1))).foldl (fun s x => setVectors s k x.1 x.2) s
    let s := modArr s k (fun a => { a with regen := none, regenRows := [], regenSwitched := [], regenDiffer := 0 })
    if a.regenDiffer = 0 then s
    else addExc (raise s 0x0206 (unitArray k) noLevel [a.regenDiffer]) (runningGen s)
      (excEntry s 7 (k / 16) (k % 16) 0 0 0 a.regenDiffer 0 0 0)

/-- VECTOR_READBACK_SLOT (R132): the next of 128 slots of a regenerating array. -/
def execVectorReadbackSlot (tile : TileId) (arr : ArrIdx) (reads : List CellRead) (s : State) : Result :=
  let k := arrKey tile arr
  .next (match (arrOf s k).regen with
    | none => s
    | some slot => readbackSlot s k slot reads)

end Sys2Proof.Machine
end

