-- ==== Sys2Proof/Machine/Mordant.lean ====
section
/-!
DEFINITION. Sys2Proof/Machine/Mordant.lean: programming the arrays: PROGRAM (R161, R162, R168), PROGRAMMING_SLOT (R156 to R165),
PROGRAMMING_SPAN_START (R153 to R155, R169), and what the tick does with rows that have ended (R166, R169, R174 to R178).
-/
namespace Sys2Proof.Machine
open Sys2Proof

/-! ### The rotating test slot's tile (R260) -/

/-- The test tile of a counter frame. -/
def testTileOf (frame : Nat) : Nat := let g := frame / 1024; 64 * (g % 4) + (g / 4) % 64
/-- The tile that holds the test slot: only while a plan runs (R260). -/
def testTile (s : State) : Option Nat := if planRuns s then some (testTileOf (now s)) else none
/-- Whether a tile holds the test slot now. -/
def holdsTest (s : State) (tile : Nat) : Bool := testTile s == some tile

/-! ### Hysteresis quantisation (R153) -/

/-- The programmed integer for a master, a scale, the present integer, a format and the hysteresis band in sixteenths; the
test is skipped for version 0 at plan load. -/
def quantWeight (m : FVal) (scale : Word) (wp : Int) (fmt : Nat) (h : Nat) (first : Bool) : Int :=
  let (lo, hi, step) := fmtRange fmt
  match m with
  | .nan => wp
  | .inf neg => if neg then lo else hi
  | .fin x =>
    let t := x / (ofF32 scale).rat
    let d := t - (wp : Rat)
    if !first && decide (16 * (if d < 0 then -d else d) ≤ (((8 + h : Nat) : Int) * step : Int)) then wp
    else
      let k := rneInt ((t - (lo : Rat)) / (step : Rat))
      min (max (lo + k * step) lo) hi
/-- Whether a weight counts as clipped (R155). -/
def isClipped (m : FVal) (scale : Word) (fmt : Nat) : Bool :=
  let (lo, hi, _) := fmtRange fmt
  match m with
  | .fin x => let t := x / (ofF32 scale).rat; decide (t < (lo : Rat)) || decide ((hi : Rat) < t)
  | _ => true
/-- The band h in sixteenths (R154). -/
def hysteresis (s : State) : Nat := setting s 0x00020201
/-- The target integers of a row under a version: quantised where covered, the fixed integer elsewhere; a pinned weight keeps
0 unless it is tried again after a recalibration (R160). -/
def rowTargets (s : State) (k row version : Nat) (first : Bool) : List Int :=
  let fmt := arrFmt s k
  let cur := imageRow s k row
  let a := arrOf s k
  match myBlock s, mapEntry s k with
  | some b, some e =>
    (List.range (fmtColumns fmt)).map (fun c =>
      if !(coveredAt e row c) then uncoveredWeight fmt
      else if a.pins.contains (row, c) && !(a.retryPins.contains (row, c)) then 0
      else quantWeight (masterAt s version e row c) (mapScale b e c) (cur.getD c 0) fmt (hysteresis s) first)
  | _, _ => cur
/-- The clipped weights of a row under a version. -/
def rowClipped (s : State) (k row version : Nat) : Nat :=
  match myBlock s, mapEntry s k with
  | some b, some e =>
    (List.range (fmtColumns (arrFmt s k))).countP (fun c =>
      coveredAt e row c && isClipped (masterAt s version e row c) (mapScale b e c) (arrFmt s k))
  | _, _ => 0

/-! ### PROGRAMMING_SPAN_START (R169) -/

/-- The arrays of the rank's weight map. -/
def mapArrays (s : State) : List Nat :=
  match myBlock s with
  | some b => b.weightMap.map (fun e => 16 * wmTile e + wmArray e)
  | none => []
/-- The scan of one array: rows with a changed weight become pending, and clipped weights are counted (R155, R169). -/
def scanArray (s : State) (version : Nat) (k : Nat) : State :=
  let rows := (List.range 512).filter (fun r => rowTargets s k r version false != imageRow s k r)
  let clip := (List.range 512).foldl (fun acc r => acc + rowClipped s k r version) 0
  let s := modArr s k (fun a => { a with pendingRows := rows, clipped := clip })
  if clip = 0 then s else raise s 0x0260 (unitArray k) noLevel []
/-- PROGRAMMING_SPAN_START (R169): the scan of the span that the latest step-commit tick opened. -/
def execProgrammingSpanStart (s : State) : Result :=
  .next (match s.plan.spanVersion with
    | some v =>
      if s.plan.spanScan = 0 then s
      else { (mapArrays s).foldl (fun s k => scanArray s v k) s with plan.spanScan := 0 }
    | none => s)

/-! ### PROGRAM (R161, R168) -/

/-- Whether an array's programming window passes unused in this frame (R168, R167). -/
def windowUnused (s : State) (f : PlanFrame) (k : Nat) : Bool :=
  let a := arrOf s k
  a.calPlaced || a.quarantined || decide ((health s (unitArray k)).state = .retired) || holdsTest s (k / 16)
    || decide (s.pow.capLevel = 15) || f.replay
/-- The effect of a program descriptor: the window opens with its slots of 80 ns, and the tile's allowance grows. -/
def programOp (f : PlanFrame) (_ : Template) (d : Desc) (s : State) : State :=
  let k := 16 * dsTile d + dsArray d
  if windowUnused s f k then s
  else modTile s (dsTile d) (fun t => { t with windows := tmod 0 t.windows (dsArray d) (· + 64 * prSlots d / 80),
                                               energy := t.energy + 1000000 * prEnergy d })
/-- PROGRAM (R161). -/
def execProgram (op : Fin 1048576) (cyc : Nat) (s : State) : Result := .next (withOp (atCycle s cyc) op 5 programOp)

/-! ### PROGRAMMING_SLOT (R158 to R165) -/

/-- The verify window's centre of a level in nS (R157, R182). -/
def levelCentre (a : ArrayState) (lv : Nat) : Rat :=
  let l : Nat := match lv with
    | 0 => 0
    | 1 => a.lambda1
    | 2 => a.lambda2
    | _ => a.lambda3
  mkRat (l * 5000 * lv : Nat) 16384
/-- Whether a conductance verifies a level (R157). -/
def verifies (a : ArrayState) (lv nS : Nat) : Bool :=
  if lv = 0 then decide (nS ≤ 1000)
  else let d := ((nS : Int) : Rat) - levelCentre a lv; decide (-750 ≤ d) && decide (d ≤ 750)
/-- The level that a conductance reads as: midpoints lie halfway between adjacent centres (R157). -/
def readLevel (a : ArrayState) (nS : Nat) : Nat :=
  (List.range 3).countP (fun i => decide ((levelCentre a i + levelCentre a (i + 1)) / 2 ≤ ((nS : Int) : Rat)))
/-- Whether a conductance lies above a level's window. -/
def aboveWindow (a : ArrayState) (lv nS : Nat) : Bool :=
  if lv = 0 then decide (1000 < nS) else decide (levelCentre a lv + 750 < ((nS : Int) : Rat))

/-- The element works that take a row's cells to target digits: the elements whose level changes (R156). -/
def elementWorks (s : State) (k row : Nat) (cols : List (Nat × Int)) : List ElementWork :=
  cols.flatMap (fun c =>
    let (p, n) := digitLevels c.2
    [(0, p), (1, n)].filterMap (fun x =>
      let cur := levelOf s k row c.1 x.1
      if cur = x.2 then none
      else some { col := c.1, element := x.1, target := x.2, pulses := 0, sets := 0, total := 0, above := decide (x.2 < cur), done := false }))
/-- The columns of a weight with their target digits. -/
def weightCells (fmt : Nat) (col : Nat) (w : Int) : List (Nat × Int) :=
  (List.zipIdx (canonDigits fmt w)).map (fun x => (fmtCells fmt * col + x.2, x.1))
/-- Energy in pJ and slots that a row reserves (R163). -/
def rowReserve (n : Nat) : Nat × Nat := (540 * n + 2880 + 2000 + 6000, 12 * ((n + 127) / 128) + 3 + 5)

/-- The next row of an array's work (R165): rows queued for reprogramming, rows of the span, rows of a group to refresh. -/
def nextRow (a : ArrayState) : Option (Nat × Bool × Bool) :=
  match a.requeued.head?, a.pendingRows.head?, a.refreshing.head? with
  | some r, _, _ => some (r, true, false)
  | none, some r, _ => some (r, false, false)
  | none, none, some r => some (r, false, true)
  | none, none, none => none
/-- The job of a row. -/
def rowJob (s : State) (k row : Nat) (requeued refresh : Bool) : RowJob :=
  let fmt := arrFmt s k
  let cur := imageRow s k row
  let tg := if refresh then cur else rowTargets s k row s.fr.master.toNat false
  let changed := (List.range (fmtColumns fmt)).filter (fun c =>
    refresh || requeued || tg.getD c 0 != cur.getD c 0 || (arrOf s k).retryPins.contains (row, c))
  let works :=
    if refresh then
      (List.range 520).flatMap (fun c => (List.range 2).map (fun e =>
        { col := c, element := e, target := levelOf s k row c e, pulses := 0, sets := 0, total := 0, above := true, done := false }))
    else elementWorks s k row (changed.flatMap (fun c => weightCells fmt c (tg.getD c 0)))
  { row := row, requeued := requeued, refresh := refresh, attempt := 1,
    weights := changed.map (fun c => { col := c, target := tg.getD c 0, settled := false }), elements := works,
    reading := works.isEmpty, slotsLeft := 0, energyLeft := 0, pinned := false, disturbed := 0 }

/-- Whether Mordant may use an array's slots without a window: the held frames of an overrun span (R171). -/
def heldSlots (s : State) : Bool := s.plan.overrun && s.fr.holdFrame
/-- Slots and energy that remain for an array: its window's, or those of a held frame. -/
def slotsFor (s : State) (tile arr : Nat) : Nat := if heldSlots s then 1249 else tget 0 (tileOf s tile).windows arr
/-- Energy that remains for a tile. -/
def energyFor (s : State) (tile : Nat) : Nat := if heldSlots s then 1000000 * setting s 0x00020202 else (tileOf s tile).energy

/-- Starting the next row, where its reservation fits; a row waiting for budget blocks those behind it (R163, R165). -/
def startRow (s : State) (k : Nat) : State :=
  match nextRow (arrOf s k) with
  | none => s
  | some (row, requeued, refresh) =>
    let job := rowJob s k row requeued refresh
    let (e, n) := rowReserve job.elements.length
    if slotsFor s (k / 16) (k % 16) < n ∨ energyFor s (k / 16) < e then s
    else
      let s := if heldSlots s then s else modTile s (k / 16) (fun t =>
        { t with windows := tmod 0 t.windows (k % 16) (· - n), energy := t.energy - e })
      modArr s k (fun a => { a with
        job := some { job with slotsLeft := n, energyLeft := e },
        requeued := a.requeued.filter (fun r => r != row), pendingRows := a.pendingRows.filter (fun r => r != row) })

/-- One pulse on an element and its verify (R158): the measured conductance, or the level the pulse aims at. -/
def pulseElement (a : ArrayState) (w : ElementWork) (ms : List CellMeasure) : ElementWork × Nat × Nat :=
  let reset := w.above
  let aim := if reset then 0 else w.target
  let energy := if reset then 60 else 30
  let w := { w with pulses := w.pulses + 1, sets := w.sets + (if reset then 0 else 1), total := w.total + 1 }
  match ms.find? (fun m => m.col.val == w.col && m.element.val == w.element) with
  | some m =>
    let ok := verifies a w.target m.nanoSiemens
    ({ w with done := ok || decide (4 ≤ w.pulses), above := aboveWindow a w.target m.nanoSiemens }, readLevel a m.nanoSiemens, energy)
  | none => ({ w with done := decide (aim = w.target) || decide (4 ≤ w.pulses), above := false }, aim, energy)

/-- One slot of pulses on up to 128 elements of the row. -/
def pulseSlot (s : State) (k : Nat) (job : RowJob) (meas : List CellMeasure) : State :=
  let a := arrOf s k
  let todo := (job.elements.filter (fun w => !w.done)).take 128
  let res := todo.map (fun w => pulseElement a w meas)
  let s := res.foldl (fun s r => setLevel s k job.row r.1.col r.1.element r.2.1) s
  let upd := fun (w : ElementWork) => match res.find? (fun r => r.1.col == w.col && r.1.element == w.element) with
    | some r => r.1
    | none => w
  let els := job.elements.map upd
  let spent := res.foldl (fun acc r => acc + r.2.2) 0
  let top := res.foldl (fun m r => max m r.1.total) 0
  let job := { job with elements := els, reading := els.all (fun w => w.done), slotsLeft := job.slotsLeft - 1,
                        energyLeft := job.energyLeft - spent }
  let s := active s (blockTile (k / 16)) 14 todo.length
  modArr s k (fun a => { a with
    job := some job,
    groups := tmod RowGroup.fresh a.groups (job.row / 32) (fun g => { g with pulses := max g.pulses top }) })

/-- Returning what a row did not use of its reservation (R163). -/
def returnReserve (s : State) (k : Nat) (job : RowJob) : State :=
  if heldSlots s then s
  else modTile s (k / 16) (fun t =>
    { t with windows := tmod 0 t.windows (k % 16) (· + job.slotsLeft), energy := t.energy + job.energyLeft })

/-- A settle failure or an overflow of the disturb reserve: the array is quarantined, EV-0263, charged (R159, R164, R414). -/
def settleFailure (s : State) (k : Nat) : State :=
  charge (quarantineL2 s k 0x0263) (unitArray k) 4 true false 0x0263

/-- Pinning a weight (R159, R160): EV-0262; the 65th marks the array for retirement, EV-0266. -/
def pinWeight (s : State) (k row col : Nat) : State :=
  let a := arrOf s k
  let s := raise s 0x0262 (unitArray k) noLevel [row, col]
  if a.pins.contains (row, col) then s
  else if a.pins.length < 64 then modArr s k (fun a => { a with pins := a.pins ++ [(row, col)] })
  else
    let s := modArr s k (fun a => { a with pinOverflow := true, retirePending := true })
    raiseCharged s 0x0266 (unitArray k) noLevel [] 4 true

/-- The end of a row at its final row read (R164, R166): it switches at the tick that ends the frame. -/
def endRow (s : State) (k : Nat) (job : RowJob) : State :=
  let fmt := arrFmt s k
  let ds := rowDigits s k job.row
  let ws := (List.range (fmtColumns fmt)).map (fun c => (digitsWeight fmt (cellsOf fmt c ds)).getD ((imageRow s k job.row).getD c 0))
  let drifted := (List.range (fmtColumns fmt)).any (fun c =>
    !(job.weights.any (fun w => w.col == c)) && ws.getD c 0 != (imageRow s k job.row).getD c 0)
  let sw : RowSwitch := { row := job.row, digits := ds, weights := ws, pinned := job.pinned, requeued := job.requeued, refresh := job.refresh }
  let s := returnReserve s k job
  let retried := (job.weights.filter (fun w => w.settled)).map (fun w => (job.row, w.col))
  modArr s k (fun a => { a with
    job := none, toSwitch := a.toSwitch ++ [sw],
    requeued := if drifted && !(a.requeued.contains job.row) then a.requeued ++ [job.row] else a.requeued,
    refreshing := if job.refresh then a.refreshing.filter (fun r => r != job.row) else a.refreshing,
    pins := if job.pinned then a.pins else a.pins.filter (fun x => !(a.retryPins.contains x && retried.contains x)),
    retryPins := a.retryPins.filter (fun x => x.1 != job.row) })

/-- The cells of the row that were not pulsed and need the disturb reserve (R164): reference cells off their fixed digit, and
weights that read back as no valid integer. -/
def disturbedCells (s : State) (k : Nat) (job : RowJob) : List (Nat × Int) × List WeightWork :=
  let fmt := arrFmt s k
  let cur := imageRow s k job.row
  let refs := ((List.range 8).map (· + 512)).filterMap (fun c =>
    if cellDigit s k job.row c ≠ refDigit c job.row then some (c, refDigit c job.row) else none)
  let ds := rowDigits s k job.row
  let bad := (List.range (fmtColumns fmt)).filter (fun c =>
    !(job.weights.any (fun w => w.col == c)) && (digitsWeight fmt (cellsOf fmt c ds)).isNone)
  (refs ++ bad.flatMap (fun c => weightCells fmt c (cur.getD c 0)),
   bad.map (fun c => { col := c, target := cur.getD c 0, settled := false }))

/-- A row read that ends an attempt (R159): weights settle on any valid integer; the others take another attempt, the third on
0; after it, or for W2 after the second, the array is quarantined. -/
def readSlot (s : State) (k : Nat) (job : RowJob) (meas : List CellMeasure) : State :=
  let fmt := arrFmt s k
  let a := arrOf s k
  let s := meas.foldl (fun s m => setLevel s k job.row m.col m.element (readLevel a m.nanoSiemens)) s
  let ds := rowDigits s k job.row
  let judge := fun (w : WeightWork) => { w with settled := (digitsWeight fmt (cellsOf fmt w.col ds)).isSome }
  let fresh := job.weights.filter (fun w => !w.settled)
  let ws := job.weights.map (fun w => if w.settled then w else judge w)
  let open' := ws.filter (fun w => !w.settled)
  let job := { job with weights := ws, slotsLeft := job.slotsLeft - 1, energyLeft := job.energyLeft - 2000 }
  let pinned := if job.attempt = 3 then fresh.filter (fun w => (judge w).settled) else []
  let s := pinned.foldl (fun s w => pinWeight s k job.row w.col) s
  let job := { job with pinned := job.pinned || !pinned.isEmpty }
  if open'.isEmpty then
    let (cells, extra) := disturbedCells s k job
    let works := elementWorks s k job.row cells
    if works.isEmpty then endRow s k job
    else if 16 < job.disturbed + works.length then settleFailure s k
    else modArr s k (fun a => { a with job := some { job with attempt := 1, weights := job.weights ++ extra, elements := works,
                                                              reading := false, disturbed := job.disturbed + works.length } })
  else if 3 ≤ job.attempt ∨ (job.attempt = 2 ∧ fmt = 1) then settleFailure s k
  else
    let attempt := job.attempt + 1
    let ws := job.weights.map (fun w => if w.settled then w else { w with target := if attempt = 3 then 0 else w.target })
    let works := elementWorks s k job.row ((ws.filter (fun w => !w.settled)).flatMap (fun w => weightCells fmt w.col w.target))
    let keep := works.map (fun w => { w with total := ((job.elements.find? (fun x => x.col == w.col && x.element == w.element)).map ElementWork.total).getD 0 })
    modArr s k (fun a => { a with job := some { job with attempt := attempt, weights := ws, elements := keep, reading := keep.isEmpty } })

/-- One programming slot of an array (R158): it starts the next row if none is in work, then pulses or reads. -/
def programmingSlotOn (s : State) (k : Nat) (meas : List CellMeasure) : State :=
  let s := match (arrOf s k).job with
    | some _ => s
    | none => startRow s k
  match (arrOf s k).job with
  | none => s
  | some job => if job.reading then readSlot s k job meas else pulseSlot s k job meas

/-- PROGRAMMING_SLOT (R158). -/
def execProgrammingSlot (tile : TileId) (arr : ArrIdx) (meas : List CellMeasure) (cyc : Nat) (s : State) : Result :=
  let k := arrKey tile arr
  let s := atCycle s cyc
  .next (if (arrOf s k).quarantined || s.pow.shed then s else programmingSlotOn s k meas)

/-! ### At the tick (R166, R169, R174 to R178) -/

/-- The decile of a row group's wear (R176). -/
def wearDecile (wear : Nat) : Nat := min 10 ((wear - 1) / 10000000 + 1)
/-- One row switches (R166): image, vectors, and a switch-log entry for the next commit point (R173). -/
def switchRow (s : State) (k : Nat) (sw : RowSwitch) (pos : Nat) : State :=
  let s := setImageRow s k sw.row sw.weights
  let s := setVectors s k sw.row sw.digits
  let s := modArr s k (fun a => { a with regenSwitched := if a.regen.isSome then sw.row :: a.regenSwitched else a.regenSwitched })
  let rest := (k / 16) * 2 ^ 24 + (k % 16) * 2 ^ 32 + sw.row * 2 ^ 36 + bitNat sw.pinned * 2 ^ 45 + bitNat sw.requeued * 2 ^ 46
  { s with plan.logPending := s.plan.logPending ++ [(pos, rest)] }
/-- Row groups of an array at a tick: wear advances by the frame's pulses (R174), deciles and worn-out groups follow (R176), and
a group whose refresh has ended takes the frame (R178). -/
def wearTick (s : State) (k frame : Nat) : State :=
  let a := arrOf s k
  let step := fun (g : Nat) (r : RowGroup) =>
    let w := satTo (2 ^ 32 - 1) (r.wear.toNat + min 12 r.pulses)
    let refreshed := a.toSwitch.any (fun x => x.refresh && x.row / 32 == g) && !(a.refreshing.any (fun x => x / 32 == g))
    { r with wear := BitVec.ofNat 32 w, pulses := 0, decile := wearDecile w, wornOut := r.wornOut || decide (100000000 ≤ w),
             refreshed := if refreshed then BitVec.ofNat 48 frame else r.refreshed }
  let groups := a.groups.map (fun e => (e.1, step e.1 e.2))
  let worn := groups.any (fun e => e.2.wornOut && !((tget RowGroup.fresh a.groups e.1).wornOut))
  let s := modArr s k (fun a => { a with groups := groups.filter (fun e => decide (e.2 ≠ RowGroup.fresh)),
                                         retirePending := a.retirePending || worn })
  if worn then raise s 0x0266 (unitArray k) noLevel [] else s

/-- Row groups due for refresh (R178): refreshed longer ago than tile.mordant.refresh_age; their 32 rows wait. -/
def refreshTick (s : State) (k frame : Nat) : State :=
  let age := setting s 0x00020203
  if age = 0 then s
  else
    let a := arrOf s k
    let due := (List.range 16).filter (fun g =>
      decide ((tget RowGroup.fresh a.groups g).refreshed.toNat + 10000 * age < frame) && !(a.refreshing.any (fun r => r / 32 == g)))
    modArr s k (fun a => { a with refreshing := a.refreshing ++ due.flatMap (fun g => (List.range 32).map (fun i => 32 * g + i)) })
/-- One array at a tick: its ended rows switch, its wear advances, and it holds the span's version once no row is pending. -/
def mordantArrayTick (s : State) (frame pos : Nat) (k : Nat) : State :=
  let sw := (arrOf s k).toSwitch
  let s := sw.foldl (fun s x => switchRow s k x pos) s
  let s := wearTick s k frame
  let s := modArr s k (fun a => { a with toSwitch := [] })
  let s := refreshTick s k frame
  match s.plan.spanVersion with
  | some v =>
    let a := arrOf s k
    if s.plan.spanScan = 0 ∧ a.pendingRows = [] ∧ a.job = none then modArr s k (fun a => { a with version := BitVec.ofNat 32 v })
    else s
  | none => s
/-- Every array at a tick; windows and allowances end with the frame (R161, R166, R174). -/
def mordantTick (s : State) (frame pos : Nat) : State :=
  let keys := (mapArrays s ++ (tkeys s.arrays).filter (fun k => !((mapArrays s).contains k)))
  let s := keys.foldl (fun s k => mordantArrayTick s frame pos k) s
  (tkeys s.tiles).foldl (fun s t => modTile s t (fun x => { x with windows := [], energy := 0 })) s
/-- The end of a programming span: every row of every array in use has switched, and v is live (R169). -/
def spanTick (s : State) : State :=
  match s.plan.spanVersion with
  | some v =>
    if s.plan.spanScan = 0 ∧ (mapArrays s).all (fun k => (arrOf s k).version == BitVec.ofNat 32 v) then
      { s with fr.live := BitVec.ofNat 32 v, plan.spanVersion := none, plan.overrun := false }
    else s
  | none => s

end Sys2Proof.Machine
end

