-- ==== Sys2Proof/Machine/Calib.lean ====
section
/-!
DEFINITION. Sys2Proof/Machine/Calib.lean: drift (R179 to R182), in-service calibration (R183, R185 to R187) and the condition words
that a tick writes (R107, R110, R184).
-/
namespace Sys2Proof.Machine
open Sys2Proof

/-! ### Drift (R180 to R182) -/

/-- μ and δo after a committed frame's sums (R180), held at their limits (R181): the values and whether either left them. -/
def driftUpdate (mu : Nat) (deltaO : Int) (d : DriftSums) : Nat × Int × Bool :=
  let meas := rneInt ((16384 * d.l : Int) / (d.d : Rat))
  let m := (mu : Int) + rneInt ((meas - (mu : Int) : Int) / 8)
  let o := deltaO + (if d.n = 0 then 0 else rneInt ((2 * d.z : Int) / (d.n : Rat)))
  let m' := max 15565 (min 20480 m)
  let o' := max (-64) (min 64 o)
  (m'.toNat, o', m' != m || o' != o)
/-- A level ratio in units of 2⁻¹⁴: observed over predicted charge (R182). -/
def levelRatio (observed predicted : Int) : Nat := (rneInt ((16384 * observed : Int) / (predicted : Rat))).toNat
/-- The drift values of a committed run on one array: staged for the next tick. -/
def commitDrift (s : State) (gen k : Nat) : State :=
  let a := arrOf s k
  match a.drift.find? (fun d => d.gen == gen) with
  | none => s
  | some d =>
    let s := modArr s k (fun a => { a with drift := a.drift.filter (fun x => x.gen != gen) })
    let s := if d.sumL = 0 then s
      else modArr s k (fun a => { a with lambda1 := levelRatio d.obs1 d.sumL, lambda2 := levelRatio d.obs2 (2 * d.sumL),
                                         lambda3 := levelRatio d.obs3 (3 * d.sumL) })
    if d.l < 262144 ∨ d.d = 0 then s
    else
      let (m, o, held) := driftUpdate a.mu a.deltaO d
      let s := modArr s k (fun a => { a with driftNext := some (m, o), calPending := a.calPending || held })
      if held then raise s 0x0264 (unitArray k) noLevel [] else s
/-- The measurements of a failed run are discarded (R180). -/
def dropDrift (s : State) (gen k : Nat) : State :=
  modArr s k (fun a => { a with drift := a.drift.filter (fun x => x.gen != gen) })

/-! ### CALIBRATION (R185 to R187) -/

/-- The lanes of a calibration vector (R185). -/
def calVector (v : Nat) : List Int :=
  (List.range 512).map (fun r =>
    if (r + 512 * 8 - 8 * v) % 512 < 48 then (((29 * v + 13 * r) % 255 : Nat) : Int) - 127 else 0)
/-- The predicted charge of a column in a phase: canonical digits of the image, or the fixed reference digits (R185). -/
def calPredict (s : State) (k : Nat) (lanes : List Int) (phase col : Nat) : Int :=
  (drivenRows lanes phase 4).foldl (fun q x =>
    q + targetDigit (arrFmt s k) (imageRow s k x.1) x.1 col * x.2) 0
/-- A run's z of a column: draws are numbered by vector and run. -/
def calZ (s : State) (k v run phase col : Nat) : Int :=
  let rows := drivenRows (calVector v) phase 4
  if rows.isEmpty then 0
  else (convCode (columnCharge s k rows col) (mkRat 45 4) (Config.convNoise (s.free + 2 * v + run) col phase) : Int) - 256
/-- The 128 samples of a column: z of the first run, z of the second, and P, by vector and phase. -/
def calSamples (s : State) (k col : Nat) : List (Int × Int × Int) :=
  (List.range 64).flatMap (fun v => (List.range 2).map (fun ph =>
    (calZ s k v 0 ph col, calZ s k v 1 ph col, calPredict s k (calVector v) ph col)))
/-- The least squares fit of P by α·z + β over the first runs: none where z does not vary. -/
def fitLine (xs : List (Int × Int × Int)) : Option (Rat × Rat) :=
  let n : Rat := (xs.length : Int)
  let sz : Rat := (xs.foldl (fun acc x => acc + x.1) 0 : Int)
  let sp : Rat := (xs.foldl (fun acc x => acc + x.2.2) 0 : Int)
  let szz : Rat := (xs.foldl (fun acc x => acc + x.1 * x.1) 0 : Int)
  let szp : Rat := (xs.foldl (fun acc x => acc + x.1 * x.2.2) 0 : Int)
  let den := n * szz - sz * sz
  if den = 0 then none
  else
    let alpha := (n * szp - sz * sp) / den
    some (alpha, (sp - alpha * sz) / n)
/-- The median of rationals. -/
def median (xs : List Rat) : Rat :=
  let ys := xs.mergeSort (fun a b => decide (a ≤ b))
  let n := ys.length
  if n = 0 then 1 else if n % 2 = 1 then ys.getD (n / 2) 1 else (ys.getD (n / 2 - 1) 1 + ys.getD (n / 2) 1) / 2

/-- What a calibration found in a column: α, β and the fitted entries. -/
structure ColFit where
  alpha : Rat
  beta : Rat
  gain : Int
  offset : Int

/-- The fit of every column (R185): a column with Σ P² below 2¹⁶ keeps g_i scaled by the median ratio and fits its offset. -/
def calFits (s : State) (k : Nat) (samples : List (List (Int × Int × Int))) : List ColFit :=
  let a := arrOf s k
  let temp := signedOf 16 (bitsOf a.cond 63 48)
  let raw := samples.map (fun xs =>
    let power : Int := xs.foldl (fun acc x => acc + x.2.2 * x.2.2) 0
    if power < 65536 then none else fitLine xs)
  let gi := fun (c : Nat) => (interpolated a k temp c).1
  let ratios := (List.zipIdx raw).filterMap (fun x => x.1.map (fun ab => (((rneInt (16384 * ab.1 / mkRat 45 4)) : Int) : Rat) / ((gi x.2 : Int) : Rat)))
  let med := median ratios
  (List.zipIdx raw).map (fun x =>
    match x.1 with
    | some (al, be) => { alpha := al, beta := be, gain := rneInt (16384 * al / mkRat 45 4), offset := rneInt (-16 * be) }
    | none =>
      let g := rneInt (((gi x.2 : Int) : Rat) * med)
      let al : Rat := (g : Rat) * mkRat 45 4 / 16384
      let xs := samples.getD x.2 []
      let n : Rat := (xs.length : Int)
      let be := ((xs.foldl (fun acc y => acc + y.2.2) 0 : Int) - al * (xs.foldl (fun acc y => acc + y.1) 0 : Int)) / n
      { alpha := al, beta := be, gain := g, offset := rneInt (-16 * be) })
/-- Repeat agreement (R186). -/
def repeatAgrees (xs : List (Int × Int × Int)) : Bool :=
  decide (xs.foldl (fun (acc : Int) x => acc + (x.1 - x.2.1) * (x.1 - x.2.1)) 0 ≤ (xs.length : Int))
    && xs.all (fun x => decide ((x.1 - x.2.1).natAbs ≤ 4))
/-- Q² (R186): mean square of α·z + β − P over every column and run, over the mean square of σ_p. -/
def qualitySquared (s : State) (k : Nat) (samples : List (List (Int × Int × Int))) (fits : List ColFit) : Rat :=
  let w := (arrOf s k).cond
  let res := (List.zip samples fits).foldl (fun (acc : Rat) x =>
    x.1.foldl (fun acc y =>
      let e1 := x.2.alpha * (y.1 : Rat) + x.2.beta - (y.2.2 : Rat)
      let e2 := x.2.alpha * (y.2.1 : Rat) + x.2.beta - (y.2.2 : Rat)
      acc + e1 * e1 + e2 * e2) acc) 0
  let var := (List.range 64).foldl (fun (acc : Rat) v =>
    acc + phaseVar w (calVector v) 0 false + phaseVar w (calVector v) 1 false) 0
  if var = 0 then 0 else (res / ((samples.length : Int) * 256 : Rat)) / (var / 128)
/-- The re-anchored sets (R185). -/
def reanchor (a : ArrayState) (k : Nat) (fits : List ColFit) : Table Word :=
  let temp := signedOf 16 (bitsOf a.cond 63 48)
  (List.range 5).foldl (fun t set => (List.zipIdx fits).foldl (fun t x =>
    let (gi, oi) := interpolated a k temp x.2
    let e := calEntry a k set x.2
    let g := rneInt (((entryGain e : Int) : Rat) * ((x.1.gain : Rat) / ((gi : Int) : Rat)))
    let o := entryOffset e + x.1.offset - oi
    tput t (520 * set + x.2) (entryWord g.toNat o)) t) []

/-- A failed calibration (R187): repeated in the next frame that can hold it; the second in a row quarantines the array,
EV-0265, charged. -/
def calFailed (s : State) (k : Nat) : State :=
  let s := modArr s k (fun a => { a with calPlaced := false, calPending := true, calFails := a.calFails + 1, attempts := satTo 255 (a.attempts + 1) })
  if (arrOf s k).calFails < 2 then s
  else charge (quarantineL2 s k 0x0265) (unitArray k) 4 true false 0x0265

/-- A calibration of an array (R185): on acceptance its result is staged for the next tick, and each pinned weight is tried
once more (R160). -/
def calibrate (s : State) (k : Nat) : State :=
  let samples := (List.range 520).map (fun c => calSamples s k c)
  let fits := calFits s k samples
  let q2 := qualitySquared s k samples fits
  let accepted := samples.all repeatAgrees && decide (q2 ≤ mkRat 25 16)
  let s' := { s with free := s.free + 128 }
  if accepted then
    let a := arrOf s k
    let res : CalResult := { sets := reanchor a k fits, anchored := now s, anchorTemp := signedOf 16 (bitsOf a.cond 63 48),
                             quality := satTo 255 (Nat.sqrt (q2 * 4096).floor.toNat) }
    modArr s' k (fun a => { a with
      calNext := some res, calPlaced := false, calPending := false, calFails := 0, attempts := 0, lastCal := now s,
      cleanCal := a.cleanCal || (a.quarantined && holdsTest s (k / 16)), retryPins := a.pins,
      requeued := a.requeued ++ ((a.pins.map Prod.fst).eraseDups.filter (fun r => !(a.requeued.contains r))) })
  else calFailed s' k

/-- CALIBRATION (R185). -/
def execCalibration (tile : TileId) (arr : ArrIdx) (s : State) : Result := .next (calibrate s (arrKey tile arr))

/-! ### At the tick (R107, R180, R184, R187) -/

/-- Taking the staged drift and calibration results, and the coefficients of the new frame (R180, R184, R185). -/
def takeCalibration (a : ArrayState) : ArrayState :=
  let a := match a.driftNext with
    | some (m, o) => { a with mu := m, deltaO := o, driftNext := none }
    | none => a
  match a.calNext with
  | some r => { a with sets := r.sets, anchored := BitVec.ofNat 48 r.anchored, anchorTemp := r.anchorTemp, quality := r.quality,
                       mu := 16384, deltaO := 0, calNext := none, calValid := !a.quarantined }
  | none => a
/-- The drift age of an array in frames (R107): since its least recently programmed row group. -/
def driftAge (a : ArrayState) (frame : Nat) : Nat :=
  let oldest := (List.range 16).foldl (fun m g => min m (tget RowGroup.fresh a.groups g).refreshed.toNat) frame
  frame - oldest
/-- The highest wear decile of an array (R107). -/
def worstDecile (a : ArrayState) : Nat := (List.range 16).foldl (fun m g => max m (tget RowGroup.fresh a.groups g).decile) 1
/-- Whether a periodic calibration is due (R187). -/
def calDue (s : State) (a : ArrayState) (frame : Nat) : Bool :=
  let p := setting s 0x00020204
  p != 0 && decide (a.lastCal + p ≤ frame)
/-- An array's tick: staged results, the condition word and the coefficients of the frame that begins. -/
def arrayTick (s : State) (frame k : Nat) : State :=
  let t := (tileOf s (k / 16)).temp
  let retired := decide ((health s (unitArray k)).state = .retired)
  modArr s k (fun a =>
    let a := takeCalibration a
    let a := { a with calPending := a.calPending || calDue s a frame }
    let w := condWord t (driftAge a frame) (worstDecile a) (a.calValid && !s.pin.jtagVoid) retired (holdsTest s (k / 16)) false
    { a with cond := w, coefTemp := t, coefMu := a.mu, coefDelta := a.deltaO })

end Sys2Proof.Machine
end

