-- ==== Sys2Proof/Machine/Context.lean ====
section
/-!
DEFINITION. Sys2Proof/Machine/Context.lean: the context table and its directories (R223 to R230), the sampler SAMPLE (R231 to R233),
ATTEND (R226, R249) and the grants that a tick makes (R225).
-/
namespace Sys2Proof.Machine
open Sys2Proof

/-! ### The context table (R227, R228): region kind 3, 64 bytes an entry -/

/-- The device address of a context entry's word. -/
def ctxAddr (s : State) (n off : Nat) : Nat :=
  ((s.plan.loaded.bind (fun p => regionOf p 3)).map rgAddr).getD 0 + 64 * n + off
/-- A word of a context entry. -/
def ctxWord (s : State) (n off : Nat) : DWord := BitVec.ofNat 64 (natLE (hbmBytes s (ctxAddr s n off) 8))
/-- Writing a word of a context entry, by a run or by the device. -/
def setCtxWord (s : State) (mode : WriteMode) (n off : Nat) (w : Nat) : State :=
  writeHbm s mode (ctxAddr s n off) (bytesLE 8 w) noPoison
/-- Replacing bits [hi:lo] of a number. -/
def setBits (w hi lo v : Nat) : Nat :=
  w - (w / 2 ^ lo % 2 ^ (hi + 1 - lo)) * 2 ^ lo + (v % 2 ^ (hi + 1 - lo)) * 2 ^ lo

def ctxState (s : State) (n : Nat) : Nat := bitsOf (ctxWord s n 0) 2 0
def ctxLength (s : State) (n : Nat) : Nat := bitsOf (ctxWord s n 0) 28 8
def ctxMaxLength (s : State) (n : Nat) : Nat := bitsOf (ctxWord s n 8) 20 0
def ctxKvRoot (s : State) (n : Nat) : Nat := bitsOf (ctxWord s n 0x10) 31 0
def ctxTokenRoot (s : State) (n : Nat) : Nat := bitsOf (ctxWord s n 0x10) 63 32
def ctxEpoch (s : State) (n : Nat) : Nat := bitsOf (ctxWord s n 0x28) 31 0
/-- Giving a context a state with a reason. -/
def setCtxState (s : State) (mode : WriteMode) (n st reason : Nat) : State :=
  setCtxWord s mode n 0 (setBits (setBits (ctxWord s n 0).toNat 2 0 st) 5 3 reason)

/-! ### Pages and blocks (R223, R224, R229) -/

/-- The page number that means absent. -/
def absentPage : Nat := 0xFFFFFFFF
/-- An entry of a directory page: 1,024 entries of 4 bytes. -/
def dirEntry (s : State) (page i : Nat) : Nat := if page = absentPage then absentPage else natLE (hbmBytes s (4096 * page + 4 * i) 4)
/-- Writing an entry of a directory page. -/
def setDirEntry (s : State) (page i v : Nat) : State := writeHbm s .plain (4096 * page + 4 * i) (bytesLE 4 v) noPoison
/-- What a two-level directory holds for an index: through root entry ⌊i/1,024⌋ and leaf entry i mod 1,024. -/
def dirLookup (s : State) (root i : Nat) : Nat := dirEntry s (dirEntry s root (i / 1024)) (i % 1024)
/-- The lowest number below a limit that is not in use. -/
def lowestFree (used : List Nat) (base limit : Nat) : Option Nat :=
  ((List.range (used.length + 1)).map (· + base)).find? (fun n => !(used.contains n) && decide (n < base + limit))
/-- The heads of a KV block: one more than the largest head position that an attend descriptor names (log 20). -/
def kvHeads (s : State) : Nat :=
  match myBlock s with
  | some b => b.templates.foldl (fun m t => t.descs.foldl (fun m d => if dsClass d = 6 then max m (atHead d + 1) else m) m) 0
  | none => 0
/-- The head width that the plan fixes. -/
def kvWidth (s : State) : Nat :=
  match (myBlock s).bind (fun b => b.templates.findSome? (fun t => t.descs.find? (fun d => dsClass d == 6))) with
  | some d => atWidth d
  | none => 64
/-- Bytes of a KV block (R223). -/
def kvBlockBytes (s : State) : Nat := kvHeads s * 256 * kvWidth s
/-- KV blocks of the pool. -/
def kvBlocks (s : State) : Nat :=
  match s.plan.loaded.bind (fun p => regionOf p 4) with
  | some e => if kvBlockBytes s = 0 then 0 else rgLength e / kvBlockBytes s
  | none => 0
/-- The first page number of the directory pool and its pages. -/
def dirPool (s : State) : Nat × Nat :=
  match s.plan.loaded.bind (fun p => regionOf p 5) with
  | some e => (rgAddr e / 4096, rgLength e / 4096)
  | none => (0, 0)
/-- Taking a page from the directory pool, filled with a value in every entry. -/
def takePage (s : State) (fill : Nat) : Option (State × Nat) :=
  let (base, n) := dirPool s
  (lowestFree s.ctx.dirUsed base n).map (fun p =>
    (writeHbm { s with ctx.dirUsed := p :: s.ctx.dirUsed } .plain (4096 * p) ((List.replicate 1024 (bytesLE 4 fill)).flatten) noPoison, p))
/-- Taking a KV block. -/
def takeBlock (s : State) : Option (State × Nat) :=
  (lowestFree s.ctx.kvUsed 0 (kvBlocks s)).map (fun b => ({ s with ctx.kvUsed := b :: s.ctx.kvUsed }, b))
/-- The leaf page of a directory for an index, taken from the pool if the root lacks it. -/
def ensureLeaf (s : State) (root i : Nat) : Option (State × Nat) :=
  let leaf := dirEntry s root (i / 1024)
  if leaf ≠ absentPage then some (s, leaf)
  else (takePage s absentPage).map (fun x => (setDirEntry x.1 root (i / 1024) x.2, x.2))
/-- The KV block of a position, granted if the context lacks it (R225); a plan without attention keeps none. -/
def ensureKv (s : State) (n pos : Nat) : Option State :=
  if kvBlockBytes s = 0 then some s
  else
  let root := ctxKvRoot s n
  let b := pos / 64
  (ensureLeaf s root b).bind (fun x =>
    if dirEntry x.1 x.2 (b % 1024) ≠ absentPage then some x.1
    else (takeBlock x.1).map (fun y => setDirEntry y.1 x.2 (b % 1024) y.2))
/-- The token page of a position, granted if the context lacks it (R229). -/
def ensureToken (s : State) (n pos : Nat) : Option State :=
  let root := ctxTokenRoot s n
  let b := pos / 256
  (ensureLeaf s root b).bind (fun x =>
    if dirEntry x.1 x.2 (b % 1024) ≠ absentPage then some x.1
    else (takePage x.1 0).map (fun y => setDirEntry y.1 x.2 (b % 1024) y.2))
/-- The device address of a token record entry, if its page is held. -/
def tokenAddr (s : State) (n pos : Nat) : Option Nat :=
  let page := dirLookup s (ctxTokenRoot s n) (pos / 256)
  if page = absentPage then none else some (4096 * page + 16 * (pos % 256))
/-- The pages and blocks that a context holds, below a directory root. -/
def dirPages (s : State) (root : Nat) : List Nat :=
  if root = absentPage then [] else ((List.range 1024).map (fun i => dirEntry s root i)).filter (fun p => p != absentPage)
def dirLeaves (s : State) (root : Nat) : List Nat :=
  (dirPages s root).flatMap (fun leaf => ((List.range 1024).map (fun i => dirEntry s leaf i)).filter (fun p => p != absentPage))
/-- Returning everything a context holds to the pools (R225). -/
def releaseHeld (s : State) (n : Nat) : State :=
  let kv := ctxKvRoot s n
  let tk := ctxTokenRoot s n
  let pages := kv :: tk :: (dirPages s kv ++ dirPages s tk ++ dirLeaves s tk)
  let blocks := dirLeaves s kv
  { s with ctx.dirUsed := s.ctx.dirUsed.filter (fun p => !(pages.contains p)),
           ctx.kvUsed := s.ctx.kvUsed.filter (fun b => !(blocks.contains b)) }

/-! ### Grants at a tick (R225) -/

/-- The contexts whose token step lies in a template: the ranges of its sample descriptors, in ascending order (R230). -/
def stepContexts (t : Template) : List Nat :=
  (((t.descs.filter (fun d => dsClass d == 7)).flatMap (fun d =>
    (List.range (smCount d)).map (fun i => smFirst d + i))).eraseDups).mergeSort (· ≤ ·)
/-- One context's grant: the block of the position its token step writes, and the page of the token it appends; a context that
cannot be granted stalls. Answers whether it stalled. -/
def grantContext (s : State) (n : Nat) : State × Bool :=
  let st := ctxState s n
  if st = 1 ∨ st = 2 ∨ st = 3 then
    let len := ctxLength s n
    match (ensureKv s n (len - 1)).bind (fun s => ensureToken s n len) with
    | some s => (if st = 3 then setCtxState s .plain n 2 0 else s, false)
    | none => (setCtxState s .plain n 3 0, true)
  else (s, false)
/-- The allocator at a tick: grants in ascending context number; EV-0430 with the number stalled. -/
def grantTick (s : State) (t : Template) : State :=
  let (s, stalled) := (stepContexts t).foldl (fun acc n =>
    let (s, b) := grantContext acc.1 n
    (s, acc.2 + bitNat b)) (s, 0)
  if stalled = 0 then s else raise s 0x0430 unitPackage noLevel [stalled]

/-! ### ATTEND (R226, R249) -/

/-- The rows of a context's keys or values for a head: 64 positions a block, K then V. -/
def kvRows (s : State) (pool : Place) (n head w count : Nat) (value : Bool) : List (List FVal) :=
  (List.range count).map (fun p =>
    let b := dirLookup s (ctxKvRoot s n) (p / 64)
    let off := b * kvBlockBytes s + head * 256 * w + (if value then 128 * w else 0) + 2 * w * (p % 64)
    floatsAt s (pool.plus off) w true)
/-- A context's length at the tick that began a run: what the run's journal keeps of the entry, if the run has written it. -/
def ctxLengthAt (s : State) (gen n : Nat) : Nat :=
  let a := ctxAddr s n 0
  match s.mem.hbmJournal.find? (fun x => x.gen == gen && x.addr == a / 64 * 64) with
  | some x => bitsOf (BitVec.ofNat 64 (natLE ((x.data.drop (a % 64)).take 8))) 28 8
  | none => ctxLength s n
/-- The effect of an attend operation: positions 0 to p, where p is the context's length at the tick less one (R249). -/
def attendOp (res : Option ResidueErr) (f : PlanFrame) (t : Template) (d : Desc) (s : State) : State :=
  let w := atWidth d
  let a := placeOf s t f d d.d4
  let pool := placeOf s t f d d.d5
  let o := placeOf s t f d d.d6
  let n := atContext d
  let count := ctxLengthAt s f.gen n
  let sigma := (floatsAt s a 1 false).headD .zero
  let q := floatsAt s (a.plus 64) w true
  let out := attend q (kvRows s pool n (atHead d) w count false) (kvRows s pool n (atHead d) w count true) sigma
  let blocks := (List.range ((count + 63) / 64)).map (fun b =>
    (pool.plus (dirLookup s (ctxKvRoot s n) b * kvBlockBytes s + atHead d * 256 * w), 256 * w))
  let s1 := useOperands s f.gen (dsTile d) (dsIndex d) ((a, 64 + 2 * w) :: blocks) (o, 2 * w)
  let s2 := placeWrite s1 f.gen o (out.flatMap (fun h => bytesLE 2 h.toNat)) noPoison
  let vals := out.map ofBf16
  let s3 := noteFloats s2 f.gen (dsTensor d) vals
  checkResidue (noteNonFinite s3 f.gen (dsTile d) (dsIndex d) (nonFinite vals)) f.gen (dsTile d) 0 (dsIndex d) res
/-- ATTEND (R226). -/
def execAttend (op : Fin 1048576) (res : Option ResidueErr) (cyc : Nat) (s : State) : Result :=
  .next (withOp (atCycle s cyc) op 6 (attendOp res))

/-! ### The sampler (R231 to R233) -/

/-- The random bits of a token (R231). -/
def sampleBits (seed : DWord) (n epoch pos : Nat) : Nat :=
  let msg : List Byte := [0x5A, 0x4B, 0x53, 0x31] ++ bytesLE 8 seed.toNat ++ bytesLE 4 n ++ bytesLE 4 epoch ++ bytesLE 4 pos
    ++ bytesLE 4 0 ++ bytesLE 4 0
  natLE ((sha256 msg).take 4)
/-- The indices kept: all, or the k largest, ties to the lower index (R232). -/
def keptIndices (l : List FVal) (k : Nat) : List Nat :=
  let idx := List.range l.length
  if k = 0 then idx
  else
    let sorted := idx.mergeSort (fun i j => !(fLt (l.getD i .zero) (l.getD j .zero)))
    sorted.take k
/-- Prefix sums of the weights, in blocks of 32, rounded to odd (R232, R200). -/
def prefixSums (fuel : Nat) (base : FVal) (w : List FVal) : List FVal :=
  match fuel with
  | 0 => []
  | fuel + 1 =>
    if w.isEmpty then []
    else
      let blk := w.take 32
      let step := blk.foldl (fun (acc : FVal × List FVal) x => let p := rto (fAdd acc.1 x); (p, acc.2 ++ [p])) (base, [])
      step.2 ++ prefixSums fuel (rto (fAdd base (reduceF32 blk))) (w.drop 32)
/-- What the sampler answers for one context. -/
inductive Sampled where
  | nonFinite
  | token (tok : Nat) (logprob : Word)
  deriving DecidableEq, Repr
/-- The procedure of R232. -/
def sampleToken (l : List FVal) (temp : FVal) (k u : Nat) : Sampled :=
  if l.any (fun x => x.isNan || x == .inf false) || l.all (fun x => x == .inf true) then .nonFinite
  else
    let tt := if temp.isZero then FVal.one else temp
    let keep := keptIndices l k
    let m := keep.foldl (fun m i => fMax m (l.getD i .zero)) (.inf true)
    let w := (List.range l.length).map (fun i =>
      if keep.contains i then fExp fp32 .odd (rto (fDiv (fSub (l.getD i .zero) m) tt)) else .zero)
    let pre := prefixSums (l.length / 32 + 1) .zero w
    let sum := pre.getLastD .zero
    let tok :=
      if temp.isZero then (l.findIdx? (fun x => x == m)).getD 0
      else (pre.findIdx? (fun p => decide (((u : Int) : Rat) * sum.rat < p.rat * 4294967296))).getD 0
    .token tok (toF32 .nearestEven (fSub (fLn fp32 .odd (w.getD tok .zero)) (fLn fp32 .odd sum)))

/-- The operation whose output a sample's logits are, among its template's descriptors, and the number of logits of a context
(log 19). -/
def logitsOf (t : Template) (d : Desc) : Option (Desc × Nat) :=
  (t.descs.find? (fun x => (dsClass x == 2 || dsClass x == 3) && x.d6 == d.d4 && dsIndex x != dsIndex d)).map (fun x =>
    (x, if dsClass x = 2 then mxN x else vcElements x / max 1 (smCount d)))
/-- The logits of the i-th context of a sample's range. -/
def logitRow (s : State) (p : Place) (src : Desc) (v i : Nat) : List FVal :=
  (List.range v).map (fun c =>
    let off := if dsClass src = 2 then blockOffset v 4 i c else 4 * (v * i + c)
    ofF32 (BitVec.ofNat 32 (natLE (placeBytes s (p.plus off) 4))))
/-- The version tag of a token (R172). -/
def versionTag (s : State) (f : PlanFrame) : Nat :=
  let mixed := s.plan.spanVersion.isSome
  s.fr.live.toNat + 2 ^ 32 * bitNat mixed + (if mixed then 2 ^ 33 * ((f.index - s.plan.spanPos) % 2 ^ 24) else 0)
/-- Whether a context takes part in a token step (R230). -/
def takesPart (s : State) (n : Nat) : Bool := ctxState s n == 1 || ctxState s n == 2
/-- Appending a sampled token (R229, R230) and finishing the context where a reason applies. -/
def appendToken (s : State) (f : PlanFrame) (n tok : Nat) (lp : Word) : State :=
  let mode := WriteMode.journaled f.gen
  let len := ctxLength s n
  let tag := versionTag s f
  let w8 := ctxWord s n 8
  let s := match tokenAddr s n len with
    | some a => writeHbm s mode a (bytesLE 4 tok ++ bytesLE 4 lp.toNat ++ bytesLE 8 tag) noPoison
    | none => s
  let first := if bitsOf (ctxWord s n 0x20) 63 32 = 0 ∧ bitsOf (ctxWord s n 0x30) 47 0 = 0 then tag % 2 ^ 32 else bitsOf (ctxWord s n 0x20) 31 0
  let s := setCtxWord s mode n 0x20 (first + 2 ^ 32 * (tag % 2 ^ 32))
  let s := setCtxWord s mode n 0x30 (now s % 2 ^ 48)
  let len' := len + 1
  let reason := if bitOf w8 56 && bitsOf w8 55 32 == tok then 1 else if bitsOf w8 20 0 ≤ len' then 2 else if 1048576 ≤ len' then 3 else 0
  let w0 := setBits (ctxWord s n 0).toNat 28 8 len'
  setCtxWord s mode n 0 (setBits (setBits w0 2 0 (if reason = 0 then 2 else 4)) 5 3 reason)
/-- One context's token step. -/
def sampleContext (f : PlanFrame) (d : Desc) (p : Place) (src : Desc) (v : Nat) (s : State) (i : Nat) : State :=
  let n := smFirst d + i
  if takesPart s n then
    let w18 := ctxWord s n 0x18
    let l := logitRow s p src v i
    let seed := (s.plan.loaded.map planSeed).getD 0
    let u := sampleBits seed n (ctxEpoch s n) (ctxLength s n)
    match sampleToken l (ofF32 (BitVec.ofNat 32 (bitsOf w18 31 0))) (bitsOf w18 40 32) u with
    | .nonFinite => setCtxState s (.journaled f.gen) n 4 4
    | .token tok lp => appendToken s f n tok lp
  else s
/-- The effect of a sample operation. -/
def sampleOp (res : Option ResidueErr) (f : PlanFrame) (t : Template) (d : Desc) (s : State) : State :=
  match logitsOf t d with
  | none => s
  | some (src, v) =>
    let p := placeOf s t f d d.d4
    let idx := List.range (smCount d)
    let flag := nonFinite ((idx.filter (fun i => takesPart s (smFirst d + i))).flatMap (fun i =>
      let l := logitRow s p src v i
      if sampleToken l .one 0 0 = .nonFinite then l else []))
    let s1 := useOperands s f.gen (dsTile d) (dsIndex d) [(p, 4 * v * smCount d)] (.none, 0)
    let s2 := idx.foldl (sampleContext f d p src v) s1
    checkResidue (noteNonFinite s2 f.gen (dsTile d) (dsIndex d) flag) f.gen (dsTile d) 1 (dsIndex d) res
/-- SAMPLE (R232). -/
def execSample (op : Fin 1048576) (res : Option ResidueErr) (cyc : Nat) (s : State) : Result :=
  .next (withOp (atCycle s cyc) op 7 (sampleOp res))

end Sys2Proof.Machine
end

