-- ==== Sys2Proof/Machine/Dma.lean ====
section
/-!
DEFINITION. Sys2Proof/Machine/Dma.lean: DMA with its transposed form (R195, R247, R286), the off-load buffer: OFFLOAD_WRITE (R215 to
R217), PREFETCH_COMPLETION and PREFETCH_TIMEOUT (R219, R220).
-/
namespace Sys2Proof.Machine
open Sys2Proof

/-- The unit of poison of a place, and its absolute start. -/
def placeUnit (p : Place) : Nat := match p with
  | .hbm _ => 64
  | _ => 32
def placeKey (p : Place) : Nat := match p with
  | .hbm a => a
  | .tile t off => tileKey t off
  | .none => 0
/-- The poison that a copy of n bytes gives a destination unit: that of the first poisoned source unit it takes bytes
from (R286). -/
def copyPoison (s : State) (src dst : Place) (n l : Nat) : Option (Nat × Nat) :=
  let u := placeUnit dst
  let d := placeKey dst
  let lo := max l d - d
  let hi := min (l + u) (d + n) - d
  ((placeMarks s (src.plus lo) (hi - lo)).head?).map (fun m => (m.2.origin, m.2.number))
/-- Copying n bytes with their poison; a partial write to a poisoned unit is a consumption (R22, R285). -/
def copyBytes (s : State) (gen tile op : Nat) (src dst : Place) (n : Nat) : State :=
  let bytes := placeBytes s src n
  let part := placePartial s dst n
  let s1 := countWrite (countRead s tile src n) tile dst n
  let s2 := placeWrite s1 gen dst bytes (copyPoison s src dst n)
  checkPoison s2 gen tile op part

/-! ### Transposed reads (R195) -/

/-- Source row and column of the destination byte at an offset of the panelled operand of C rows and length R. -/
def transposedFrom (rows : Nat) (b : Nat) : Nat × Nat :=
  let panels := (rows + 31) / 32
  let panel := b / 4096
  (32 * (panel % panels) + b % 64 / 2, 64 * (panel / panels) + b % 4096 / 64)
/-- The address of a source element. -/
def sourceAt (src : Place) (d : Desc) (rc : Nat × Nat) : Place := src.plus (rc.1 * dmPitch d + 2 * rc.2)
/-- The bytes that a transposed read writes: positions beyond R or C are +0. -/
def transposedBytes (s : State) (src : Place) (d : Desc) : List Byte :=
  let total := panelBytes (dmCols d) (dmRows d) 32
  (List.range (total / 2)).flatMap (fun i =>
    let rc := transposedFrom (dmRows d) (2 * i)
    if rc.1 < dmRows d ∧ rc.2 < dmCols d then placeBytes s (sourceAt src d rc) 2 else [0, 0])
/-- The poison of a destination unit of a transposed read: that of an element it receives. -/
def transposedPoison (s : State) (src dst : Place) (d : Desc) (l : Nat) : Option (Nat × Nat) :=
  let u := placeUnit dst
  let base := placeKey dst
  ((List.range (u / 2)).findSome? (fun i =>
    if l + 2 * i < base then none
    else
      let rc := transposedFrom (dmRows d) (l + 2 * i - base)
      if rc.1 < dmRows d ∧ rc.2 < dmCols d then (placeMarks s (sourceAt src d rc) 2).head? else none)).map
    (fun m => (m.2.origin, m.2.number))
/-- A transposed read: edge tiles cost the bandwidth of full tiles (R195). -/
def transposedCopy (s : State) (gen tile op : Nat) (src dst : Place) (d : Desc) : State :=
  let bytes := transposedBytes s src d
  let part := placePartial s dst bytes.length
  let cost := ((dmRows d + 63) / 64) * ((dmCols d + 63) / 64) * 8192
  let s1 := countWrite (countRead s tile src cost) tile dst bytes.length
  checkPoison (placeWrite s1 gen dst bytes (transposedPoison s src dst d)) gen tile op part

/-! ### The off-load buffer (R215 to R220) -/

/-- Data bytes and block size of the buffer. -/
def blockData : Nat := 4096
def blockSize : Nat := 4160
/-- The first block of an off-load operand and the number of blocks of its transfer: bytes counts data (log 17). -/
def firstBlock (t : Template) (f : PlanFrame) (w : DWord) : Nat := oprAt t w f.iteration / blockSize
def blockCount (d : Desc) : Nat := (dmBytes d + blockData - 1) / blockData
/-- The trailer of a block without its crc (R216). -/
def trailerHead (block tensor frame step rank : Nat) : List Byte :=
  bytesLE 8 (block % 2 ^ 32 + 2 ^ 32 * (tensor % 2 ^ 32)) ++ bytesLE 8 (frame % 2 ^ 48) ++
  bytesLE 8 (step % 2 ^ 32 + 2 ^ 32 * (rank % 1024)) ++ List.replicate 32 0
/-- A block with its trailer. -/
def blockBytes (data : List Byte) (head : List Byte) : List Byte := data ++ head ++ bytesLE 8 (crc64 (data ++ head)).toNat
/-- The prefetch reads that a DMA from the buffer issues, one for each block. -/
def issuePrefetch (s : State) (t : Template) (f : PlanFrame) (d : Desc) (dst : Place) : State :=
  let b := firstBlock t f d.d4
  let reads : List Prefetch := (List.range (blockCount d)).map (fun i =>
    { slot := b + i, toHbm := decide (placeUnit dst = 64), dest := placeKey dst + blockData * i, tensor := dsTensor d,
      step := f.step, reread := false })
  { s with ctx.prefetches := s.ctx.prefetches ++ reads }

/-- The effect of a DMA operation. A transfer to the buffer is carried by OFFLOAD_WRITE; a replay repeats no host transfer
(R136, R217). -/
def dmaOp (f : PlanFrame) (t : Template) (d : Desc) (s : State) : State :=
  let src := placeOf s t f d d.d4
  let dst := placeOf s t f d d.d5
  if oprSpace d.d5 = 4 then s
  else if oprSpace d.d4 = 4 then (if f.replay then s else issuePrefetch s t f d dst)
  else if dmTranspose d then transposedCopy s f.gen (dsTile d) (dsIndex d) src dst d
  else copyBytes s f.gen (dsTile d) (dsIndex d) src dst (dmBytes d)
/-- DMA (R247). -/
def execDma (op : Fin 1048576) (cyc : Nat) (s : State) : Result := .next (withOp (atCycle s cyc) op 4 dmaOp)

/-- The off-load write of one block (R215 to R217): from cycle 2,400 on, of a DMA of the running plan frame that has issued.
The frame that produced the data is not told to the device: that field is free (log 18). -/
def offloadBlock (s : State) (op block : Nat) : State :=
  match s.fr.running, runningDesc s op, s.ctx.offload with
  | some f, some (t, d), some (addr, len) =>
    let b := firstBlock t f d.d5
    if (inFlight f op || isCompleted f op) ∧ dsClass d = 4 ∧ oprSpace d.d5 = 4 ∧ f.replay = false ∧ b ≤ block ∧
        block < b + blockCount d ∧ 2400 ≤ s.fr.cycle ∧ blockSize * (block + 1) ≤ len then
      let src := (placeOf s t f d d.d4).plus (blockData * (block - b))
      let produced := (Config.freeWord s.free).toNat + 2 ^ 32 * ((Config.freeWord (s.free + 1)).toNat % 65536)
      let head := trailerHead block (dsTensor d) produced f.step (rankField s)
      let bytes := blockBytes (placeBytes s src blockData) head
      let s := countRead { s with free := s.free + 2 } (dsTile d) src blockData
      let s := portBytes (active s (blockIo 0) 2 blockSize) 1 blockSize
      { s with mem.host := writeBytes s.mem.host (addr + blockSize * block) bytes }
    else s
  | _, _, _ => s
/-- OFFLOAD_WRITE (R217). -/
def execOffloadWrite (op : Fin 1048576) (block : Nat) (cyc : Nat) (s : State) : Result :=
  .next (offloadBlock (atCycle s cyc) op block)

/-- Whether a block passes the checks of R220. -/
def blockPasses (s : State) (p : Prefetch) (bytes : List Byte) : Bool :=
  let head := (bytes.drop blockData).take 56
  bytes.length == blockSize && decide (natLE ((bytes.drop 4152)) = (crc64 (bytes.take 4152)).toNat)
    && natLE (head.take 4) == p.slot && natLE ((head.drop 4).take 4) == p.tensor
    && natLE ((head.drop 16).take 4) == p.step && natLE ((head.drop 20).take 2) % 1024 == rankField s
/-- Delivering a block: received data is kept through a replay, so no run writes it (R219, R136). -/
def deliverBlock (s : State) (p : Prefetch) (data : List Byte) (poisoned : Bool) : State :=
  let mark := fun (_ : Nat) => if poisoned then some (if p.toHbm then (1, devStack p.dest) else (0, 0)) else none
  let s := if p.toHbm then writeHbm s .plain p.dest data mark else writeTile s none (p.dest / 2 ^ 23) (p.dest % 2 ^ 23) data mark
  { s with ctx.prefetches := s.ctx.prefetches.filter (fun x => !(x == p)) }
/-- A read that failed: read again once; the second failure delivers the block poisoned, EV-0330 (R220). -/
def prefetchFailed (s : State) (p : Prefetch) : State :=
  if p.reread then
    raise (deliverBlock s p (List.replicate blockData 0) true) 0x0330 unitPackage noLevel [p.slot]
  else { s with ctx.prefetches := s.ctx.prefetches.map (fun x => if x = p then { x with reread := true } else x) }
/-- The prefetch of a block. -/
def prefetchOf (s : State) (block : Nat) : Option Prefetch := s.ctx.prefetches.find? (fun p => p.slot == block)
/-- PREFETCH_COMPLETION (R220): a block's completions, or an error completion. -/
def execPrefetchCompletion (block : Nat) (bytes : List Byte) (completed : Bool) (cyc : Nat) (s : State) : Result :=
  let s := portBytes (active (atCycle s cyc) (blockIo 0) 1 bytes.length) 0 bytes.length
  .next (match prefetchOf s block with
    | none => s
    | some p =>
      if completed && blockPasses s p bytes then
        let s := deliverBlock s p (bytes.take blockData) false
        if p.reread then countCorrected s else s
      else prefetchFailed s p)
/-- PREFETCH_TIMEOUT (R220): no completion within 50 µs. -/
def execPrefetchTimeout (block : Nat) (cyc : Nat) (s : State) : Result :=
  let s := atCycle s cyc
  .next (match prefetchOf s block with
    | none => s
    | some p => prefetchFailed s p)

end Sys2Proof.Machine
end

