-- ==== Sys2Proof/Machine/Lake.lean ====
section
/-!
DEFINITION. Sys2Proof/Machine/Lake.lean: the Lakes (R384 to R406): cells and tags, credits, enqueue and dequeue, parity and poison,
the splice at a discard, the check at a tick, and the status words.
-/
namespace Sys2Proof.Machine
open Sys2Proof

/-- A Lake. -/
def lakeOf (s : State) (l : Nat) : LakeState := tget LakeState.fresh s.lakes l
/-- Changing a Lake. -/
def modLake (s : State) (l : Nat) (f : LakeState → LakeState) : State := { s with lakes := tmod LakeState.fresh s.lakes l f }
/-- Whether a Lake is an I/O die's. -/
def isIoLake (l : Nat) : Bool := decide (256 ≤ l)
/-- The unit that a Lake's events name (R411). -/
def lakeUnit (l : Nat) : UnitRef := if isIoLake l then unitIoDie (l - 256) else unitTile l

/-! ### Reservations and credits (R390 to R394) -/

/-- Cells reserved for a class, and the shared part for 5. -/
def lakeReserved (io : Bool) (cls : Nat) : Nat :=
  match io, cls with
  | false, 0 => 128
  | false, 1 => 256
  | false, 2 => 1024
  | false, 3 => 512
  | false, 4 => 256
  | false, _ => 1920
  | true, 0 => 4096
  | true, 1 => 2048
  | true, 2 => 24576
  | true, 3 => 8192
  | true, 4 => 16384
  | true, _ => 75776
/-- The most shared cells lent to one class. -/
def lakeShareLimit (io : Bool) : Nat := if io then 49152 else 1024
/-- Consumers' output ports: port 59 + c is the consumer of class c, for c from 1 to 4 (log 25). -/
def consumerOf (port : Nat) : Nat := if 60 ≤ port then port - 59 else 0
/-- Whether the consumer of a class holds an output credit of a class (R388). -/
def holdsCredit (consumer cls : Nat) : Bool := decide (cls < consumer) && decide (cls < 2)
/-- The fixed credits of a port in a class (R393; log 25). -/
def fixedCredits (io : Bool) (cls port : Nat) : Nat :=
  if 60 ≤ port then 0
  else
    match io, cls with
    | false, 0 => 1
    | false, 1 => 4
    | false, 2 => if port < 31 then 32 else 0
    | false, 3 => 8
    | false, 4 => if port < 2 then 65 else 0
    | true, 0 => 64
    | true, 1 => 32
    | true, 2 => if port < 24 then 640 else 128
    | true, 3 => 128
    | true, 4 => 256
    | _, _ => 0
/-- The credits a port can spend in a class: fixed or held, and borrowed. -/
def ownCredits (io : Bool) (q : LakeState) (cls port : Nat) : Nat :=
  let c := consumerOf port
  if c ≠ 0 then (if holdsCredit c cls then 1 - tget 0 q.holdSpent (8 * c + cls) else 0)
  else fixedCredits io cls port - tget 0 q.spent (64 * cls + port)
def borrowedCredits (q : LakeState) (cls port : Nat) : Nat := tget 0 q.borrowed (64 * cls + port)
/-- Spending own credits, then borrowed ones: the numbers of each. -/
def spendCredits (io : Bool) (q : LakeState) (cls port n : Nat) : LakeState × Nat :=
  let own := min n (ownCredits io q cls port)
  let shared := n - own
  let c := consumerOf port
  let q := if c ≠ 0 then { q with holdSpent := tmod 0 q.holdSpent (8 * c + cls) (· + own) }
           else { q with spent := tmod 0 q.spent (64 * cls + port) (· + own) }
  ({ q with borrowed := tmod 0 q.borrowed (64 * cls + port) (· - shared) }, shared)
/-- Reserved cells of a class that items of a port hold. -/
def ownHeld (q : LakeState) (cls port : Nat) : Nat :=
  ((q.items.filter (fun it => it.cls == cls && it.port == port)).map (fun it => it.cells.length - it.sharedCells)).foldl (· + ·) 0
/-- A freed reserved cell refills first the output holds in ascending consumer class, then the fixed credits of its producer
(R393); where neither is short, the first port short of a credit that a hold took (log 25). -/
def refillCell (q : LakeState) (cls port : Nat) : LakeState :=
  match [1, 2, 3, 4].find? (fun c => decide (0 < tget 0 q.holdSpent (8 * c + cls))) with
  | some c => { q with holdSpent := tmod 0 q.holdSpent (8 * c + cls) (· - 1) }
  | none =>
    if 0 < tget 0 q.spent (64 * cls + port) then { q with spent := tmod 0 q.spent (64 * cls + port) (· - 1) }
    else
      match (List.range 60).find? (fun p => decide (ownHeld q cls p < tget 0 q.spent (64 * cls + p))) with
      | some p => { q with spent := tmod 0 q.spent (64 * cls + p) (· - 1) }
      | none => { q with freeOwn := tmod 0 q.freeOwn cls (· + 1) }
/-- The cells of an item return: shared cells to the shared part, the others to their class (R393, R394). -/
def freeItem (q : LakeState) (it : LakeItem) : LakeState :=
  let q := (List.range (it.cells.length - it.sharedCells)).foldl (fun q _ => refillCell q it.cls it.port) q
  { q with
    lent := tmod 0 q.lent it.cls (· - it.sharedCells),
    cells := it.cells.foldl (fun t c => terase t c) q.cells }

/-! ### Tags (R385) -/

/-- Even parity over a word. -/
def parityBit (w : DWord) : Bool := ((List.range 64).countP (fun i => w.getLsbD i)) % 2 == 1
/-- A tag with its fields. -/
def tagWord (next : Nat) (first last : Bool) (cls : Nat) (shared : Bool) (parity poison kind length : Nat) (rest : Bool)
    (frame : Nat) : DWord :=
  BitVec.ofNat 64 (next + bitNat first * 2 ^ 17 + bitNat last * 2 ^ 18 + cls * 2 ^ 19 + bitNat shared * 2 ^ 22 + parity * 2 ^ 23 +
    poison * 2 ^ 31 + kind * 2 ^ 39 + length * 2 ^ 45 + bitNat rest * 2 ^ 52 + frame % 2048 * 2 ^ 53)
/-- The parity or poison bits of eight words. -/
def wordBits (f : Nat → Bool) : Nat := (List.range 8).foldl (fun acc k => acc + bitNat (f k) * 2 ^ k) 0
/-- A cell with its tag's check bits. -/
def mkCell (tag : DWord) (payload : List DWord) : Cell := { tag := tag, check := Config.tagCheck tag, payload := payload }
/-- The idle item of an empty queue (R397). -/
def idleCell (s : State) (cls : Nat) : Cell :=
  mkCell (tagWord 0 true true cls false 0 0 0 1 false (now s)) (List.replicate 8 0)
/-- The lowest free cells of a Lake (log 25). -/
def freeCells (q : LakeState) : Nat → Nat → Nat → List Nat
  | 0, _, _ => []
  | _, 0, _ => []
  | fuel + 1, n + 1, i =>
    if (tfind q.cells i).isSome then freeCells q fuel (n + 1) (i + 1) else i :: freeCells q fuel n (i + 1)
/-- Cells of a Lake. -/
def lakeCells (io : Bool) : Nat := if io then 131072 else 4096
/-- The last cell of the last item of a class's queue now names the first cell of the next item. -/
def linkTail (q : LakeState) (cls first : Nat) : LakeState :=
  match ((q.items.filter (fun it => it.cls == cls)).getLast?).bind (fun it => it.cells.getLast?) with
  | none => q
  | some c =>
    match tfind q.cells c with
    | none => q
    | some cell =>
      let tag : DWord := BitVec.ofNat 64 (cell.tag.toNat / 2 ^ 17 * 2 ^ 17 + first)
      { q with cells := tput q.cells c { cell with tag := tag, check := Config.tagCheck tag } }

/-! ### Enqueue, dequeue, borrow -/

/-- Cells of an item of so many words (R386). -/
def itemCells (words : List DWord) : Nat := max 1 ((words.length + 7) / 8)
/-- Writing an item whose credits the producer holds (R386, R392, R398). -/
def putItem (s : State) (l cls kind port : Nat) (words : List DWord) (poison : List Nat) (rest : Bool) : State :=
  let io := isIoLake l
  modLake s l (fun q =>
    let n := itemCells words
    let cells := freeCells q (lakeCells io) n 0
    let spent := spendCredits io q cls port n
    let own := n - spent.2
    let q := linkTail spent.1 cls (cells.headD 0)
    let q := cells.zipIdx.foldl (fun (q : LakeState) x =>
      let ws := (List.range 8).map (fun k => words.getD (8 * x.2 + k) 0)
      let next := cells.getD (x.2 + 1) x.1
      let first := x.2 == 0
      let tag := tagWord next first (x.2 + 1 == n) cls (decide (own ≤ x.2)) (wordBits (fun k => parityBit (ws.getD k 0)))
        (wordBits (fun k => poison.contains (8 * x.2 + k))) (if first then kind else 0) (if first then n else 0) (first && rest)
        (if first then now s else 0)
      { q with cells := tput q.cells x.1 (mkCell tag ws) }) q
    { q with items := q.items ++ [{ cls := cls, kind := kind, cells := cells, port := port, sharedCells := spent.2 }] })
/-- A producer or consumer of a class waits for credits (R406). -/
def waitCredit (s : State) (l cls : Nat) : State :=
  modLake s l (fun q => { q with creditWait := tmod 0 q.creditWait cls (fun n => satTo (2 ^ 32 - 1) (n + 1)) })
/-- Whether a producer holds credits for all of an item's cells. -/
def holdsCredits (s : State) (l cls port n : Nat) : Bool :=
  decide (n ≤ ownCredits (isIoLake l) (lakeOf s l) cls port + borrowedCredits (lakeOf s l) cls port)
/-- ITEM_ENQUEUE (R392). -/
def execItemEnqueue (lake : LakeId) (cls : Fin 5) (kind port : Fin 64) (words : List DWord) (poison : List Nat) (rest : Bool)
    (s : State) : Result :=
  if holdsCredits s lake.val cls.val port.val (itemCells words) then
    .next (putItem s lake.val cls.val kind.val port.val words poison rest)
  else .next (waitCredit s lake.val cls.val)
/-- Whether the consumer of a class holds its full output credits (R395). -/
def outputReady (q : LakeState) (cls : Nat) : Bool :=
  [0, 1].all (fun c => !(holdsCredit cls c) || tget 0 q.holdSpent (8 * cls + c) == 0)
/-- A cell as the port delivers it: the words as read, with the poison bit of every word that failed its parity. -/
def deliverCell (cell : Cell) (flips : List (Nat × DWord)) (base : Nat) : Cell × List Nat :=
  let ws := cell.payload.zipIdx.map (fun x =>
    flips.foldl (fun w f => if f.1 = base + x.2 then w ^^^ f.2 else w) x.1)
  let bad := (List.range 8).filter (fun k => parityBit (ws.getD k 0) != cell.tag.getLsbD (23 + k))
  let tag := bad.foldl (fun (t : DWord) k => t ||| (1 <<< (31 + k))) cell.tag
  (mkCell tag ws, bad.map (· + base))
/-- The consumption of an item's poisoned words (R400): a word whose parity failed is in flight, one that arrived poisoned is
at rest where the item's rest bit says so. -/
def consumeItem (s : State) (l : Nat) (cells : List Cell) (bad : List Nat) : State :=
  let gen := runningGen s
  let t := if isIoLake l then 0 else l
  let number := if isIoLake l then l - 255 else 0
  let rest := ((cells.head?).map (fun c => c.tag.getLsbD 52)).getD false
  let words := cells.zipIdx.flatMap (fun c => ((List.range 8).filter (fun k => c.1.tag.getLsbD (31 + k))).map (fun k => 8 * c.2 + k))
  words.foldl (fun s w =>
    enterQueue s gen t 4 0 (fun s => poisonConsumed s gen t 0 2 number (8 * w) (rest && !(bad.contains w)))) s
/-- The first item of a class's queue. -/
def headItem (q : LakeState) (cls : Nat) : Option LakeItem := q.items.find? (fun it => it.cls == cls)
/-- Taking an item out of its queue. -/
def takeItem (s : State) (l : Nat) (it : LakeItem) (flips : List (Nat × DWord)) (compute : Bool) : State :=
  let q := lakeOf s l
  let read := it.cells.zipIdx.map (fun c => deliverCell ((tfind q.cells c.1).getD (mkCell 0 [])) flips (8 * c.2))
  let cells := read.map Prod.fst
  let bad := read.flatMap Prod.snd
  let poisoned := (cells.map (fun c => (List.range 8).countP (fun k => c.tag.getLsbD (31 + k)))).foldl (· + ·) 0
  let s := modLake s l (fun q =>
    let q := freeItem { q with items := q.items.erase it } it
    { q with taken := cells, poison := tmod 0 q.poison it.cls (fun n => satTo 65535 (n + poisoned)) })
  let s := if bad.isEmpty then s else raiseOnce s 1 0x0310 (lakeUnit l) noLevel []
  if compute then consumeItem s l cells bad else s
/-- ITEM_DEQUEUE (R395, R397 to R400). -/
def execItemDequeue (lake : LakeId) (cls : Fin 5) (flips : List (Nat × DWord)) (tagFlips : Fin 3) (compute : Bool) (cyc : Nat)
    (s : State) : Result :=
  let s := atCycle s cyc
  let l := lake.val
  let u := lakeUnit l
  match headItem (lakeOf s l) cls.val with
  | none => .next (modLake s l (fun q => { q with taken := [idleCell s cls.val] }))
  | some it =>
    if !(outputReady (lakeOf s l) cls.val) then .next (waitCredit s l cls.val)
    else if tagFlips.val = 2 then .next (charge (takeL3 s 0x0311 u []) u 7 true false 0x0311)
    else .next (takeItem (if tagFlips.val = 1 then correction s else s) l it flips compute)
/-- Whether a block of 16 shared cells can be lent to a class (R390, R394). -/
def canBorrow (s : State) (l cls : Nat) : Bool :=
  let q := lakeOf s l
  let all := (q.lent.map Prod.snd).foldl (· + ·) 0
  decide (tget 0 q.lent cls + 16 ≤ lakeShareLimit (isIoLake l)) && decide (all + 16 ≤ lakeReserved (isIoLake l) 5)
/-- CREDIT_BORROW (R394). -/
def execCreditBorrow (lake : LakeId) (cls : Fin 5) (port : Fin 64) (s : State) : Result :=
  if canBorrow s lake.val cls.val then
    .next (modLake s lake.val (fun q =>
      { q with
        lent := tmod 0 q.lent cls.val (· + 16),
        borrowed := tmod 0 q.borrowed (64 * cls.val + port.val) (· + 16) }))
  else .next (waitCredit s lake.val cls.val)

/-! ### Discards, halts and ticks (R402, R404, R405) -/

/-- The kinds that R387 marks provisional. -/
def provisionalKind (cls kind : Nat) : Bool :=
  (cls == 1 && kind == 1) || (cls == 2 && (kind == 3 || kind == 4)) || (cls == 3 && (kind == 1 || kind == 3))
/-- The kinds that a halt splices besides (R404): Mordant, calibration and read-back work, and C4 items without committed data. -/
def haltKind (cls kind : Nat) : Bool := provisionalKind cls kind || (cls == 3 && kind == 2) || (cls == 4 && kind == 2)
/-- Splicing the items of some kinds onto the free list. -/
def spliceLake (q : LakeState) (f : Nat → Nat → Bool) : LakeState :=
  let q' := (q.items.filter (fun it => f it.cls it.kind)).foldl freeItem q
  { q' with items := q.items.filter (fun it => !(f it.cls it.kind)) }
/-- Splicing in every Lake of the package. -/
def spliceLakes (s : State) (f : Nat → Nat → Bool) : State := { s with lakes := s.lakes.map (fun e => (e.1, spliceLake e.2 f)) }
/-- Cells of a class in use: holding items or backing credits (R406). -/
def inUse (io : Bool) (q : LakeState) (cls : Nat) : Nat :=
  ((List.range 60).map (fixedCredits io cls)).foldl (· + ·) 0 + [1, 2, 3, 4].countP (fun c => holdsCredit c cls)
    - tget 0 q.freeOwn cls + tget 0 q.lent cls
/-- Cells that a class's items hold. -/
def cellsHeld (q : LakeState) (cls : Nat) : Nat :=
  ((q.items.filter (fun it => it.cls == cls)).map (fun it => it.cells.length)).foldl (· + ·) 0
/-- The accounting of a class (R405): cells of items under shared credits and unspent borrowed credits are what it was lent,
and the limit holds. -/
def lakeAccounts (io : Bool) (q : LakeState) (cls : Nat) : Bool :=
  let shared := ((q.items.filter (fun it => it.cls == cls)).map LakeItem.sharedCells).foldl (· + ·) 0
  let credits := ((q.borrowed.filter (fun e => e.1 / 64 == cls)).map Prod.snd).foldl (· + ·) 0
  tget 0 q.lent cls == shared + credits && decide (tget 0 q.lent cls ≤ lakeShareLimit io) &&
    decide (cellsHeld q cls ≤ lakeReserved io cls + tget 0 q.lent cls)
/-- A tick on one Lake: borrowed credits that were not spent go back, and the high-water marks follow. -/
def lakeTick (io : Bool) (q : LakeState) : LakeState :=
  let back := q.borrowed.foldl (fun (t : Table Nat) e => tmod 0 t (e.1 / 64) (· - e.2)) q.lent
  let q := { q with lent := back, borrowed := [] }
  { q with highWater := (List.range 5).foldl (fun t c => tmod 0 t c (fun h => max h (inUse io q c))) q.highWater }
/-- The tick on every Lake, with the accounting check: a mismatch is L3 with EV-0312 (R394, R405). -/
def lakesTick (s : State) : State :=
  let bad := s.lakes.filter (fun e => !((List.range 5).all (lakeAccounts (isIoLake e.1) e.2)))
  let s := bad.foldl (fun s e => charge (takeL3 s 0x0312 (lakeUnit e.1) []) (lakeUnit e.1) 7 true false 0x0312) s
  { s with lakes := s.lakes.map (fun e => (e.1, lakeTick (isIoLake e.1) e.2)) }
/-- Plan start: the high-water marks begin anew (R406). -/
def lakesStart (s : State) : State := { s with lakes := s.lakes.map (fun e => (e.1, { e.2 with highWater := [] })) }
/-- The status words S0 and S1 of a class (R406). -/
def lakeStatus (q : LakeState) (l cls : Nat) : DWord × DWord :=
  (BitVec.ofNat 64 (inUse (isIoLake l) q cls + tget 0 q.highWater cls * 2 ^ 17 + tget 0 q.lent cls * 2 ^ 34),
   BitVec.ofNat 64 (tget 0 q.creditWait cls + tget 0 q.poison cls * 2 ^ 32 +
     (if isIoLake l && cls == 2 then satTo 65535 q.deferrals else 0) * 2 ^ 48))

end Sys2Proof.Machine
end

