-- ==== Sys2Proof/Machine/Respond.lean ====
section
/-!
DEFINITION. Sys2Proof/Machine/Respond.lean: how Eomet admits a request and answers it on the port it came through (R468 to R483).
-/
namespace Sys2Proof.Machine
open Sys2Proof

/-- A status value (R476). -/
def statusCode : Status → Nat
  | .ok => 0
  | .accepted => 1
  | .busy => 2
  | .busyLive => 3
  | .badOpcode => 4
  | .badLength => 5
  | .badField => 6
  | .badValue => 7
  | .notPermitted => 8
  | .noTxn => 9
  | .notOwner => 10
  | .txnConflict => 11
  | .refusedState => 12
  | .signature => 13
  | .exhausted => 14
  | .failed => 15
/-- A response header and body as bytes (R475). -/
def responseBytes (x : Response) : List Byte :=
  bytesLE 2 x.opcode ++ bytesLE 2 (statusCode x.status) ++ bytesLE 4 x.tag.toNat ++ bytesLE 4 x.body.length ++
  bytesLE 4 (bitNat x.final) ++ bytesLE 6 x.frame ++ List.replicate 10 0 ++
  (x.digest ++ List.replicate (32 - x.digest.length) 0) ++ x.body
/-- The requester's port as EV-0106 reports it (R484). -/
def portField : Port → Nat
  | .host slot => 16 * slot.val
  | .mgmt _ _ => 1
  | .peer rank => 2 + 16 * rank.val
/-- The owner of a transaction that a port stands for (R488). -/
def portOwner : Port → Owner
  | .host _ => .host
  | .mgmt addr udp => .mgmt addr udp
  | .peer rank => .peer rank
/-- Pieces of n bytes. -/
def pieces (n : Nat) : Nat → List Byte → List (List Byte)
  | 0, _ => []
  | fuel + 1, bs => if bs.length ≤ n then [bs] else bs.take n :: pieces n fuel (bs.drop n)

/-! ### Sending a response -/

/-- A host slot. -/
def slotOf (s : State) (slot : Nat) : HostSlot := tget HostSlot.closed s.eo.slots slot
/-- Raising an MSI vector (R469). -/
def raiseMsi (s : State) (v : Nat) : State := { s with eo.msi := tmod 0 s.eo.msi v (· + 1) }
/-- A response on a host slot: its buffer, DONE and MSI vector; the final one closes the request. -/
def respondHost (s : State) (slot : Nat) (x : Response) : State :=
  raiseMsi { s with eo.slots := tmod HostSlot.closed s.eo.slots slot (fun h =>
    { openReq := if x.final then none else some x.opcode, done := h.done + 1, response := some x }) } slot
/-- A management source. -/
def sourceOf (s : State) (addr : Word) (udp : Half) : MgmtSource :=
  (s.eo.sources.find? (fun m => m.addr == addr && m.udp == udp)).getD { addr := addr, udp := udp, answered := [], opened := [] }
/-- Changing a management source; at most 16 are kept, the latest first (R472). -/
def setSource (s : State) (m : MgmtSource) : State :=
  { s with eo.sources := (m :: s.eo.sources.filter (fun x => !(x.addr == m.addr && x.udp == m.udp))).take 16 }
/-- Sending the fragments of a message of type 2 (R471). -/
def sendFragments (s : State) (addr : Word) (udp : Half) (seq : Word) (msg : List Byte) : State :=
  let parts := pieces 1400 64 msg
  parts.zipIdx.foldl (fun s x =>
    let frag := x.2 + (if x.2 + 1 = parts.length then 64 else 0)
    let head := datagramHead 2 frag seq x.1.length
    sendMgmt s (.response addr udp seq frag x.1 (authField s (head ++ x.1))) (32 + x.1.length)) s
/-- A response on the management port: a final one is kept with its sequence number among the last 64 (R472). -/
def respondMgmt (s : State) (addr : Word) (udp : Half) (seq : Word) (x : Response) : State :=
  let s := sendFragments s addr udp seq (responseBytes x)
  if x.final then
    let m := sourceOf s addr udp
    setSource s { m with answered := ((seq, x) :: m.answered).take 64, opened := m.opened.filter (· != seq) }
  else s
/-- A response to a peer, in C0 messages of at most 384 bytes (R474). -/
def respondPeer (s : State) (rank : Rank) (x : Response) : State :=
  let own : Rank := Fin.ofNat 1024 (s.plan.rank.getD 0)
  let msgs := (pieces 384 128 (responseBytes x)).map (fun b => ({ source := own, dest := rank, kind := .response, bytes := b } : C0Message))
  let s := { s with link.messages := s.link.messages ++ msgs }
  if x.final then { s with eo.peerOpen := tmod 0 s.eo.peerOpen rank.val (· - 1) } else s
/-- A response on the request's port. -/
def respond (s : State) (r : Req) (opcode : Nat) (st : Status) (final : Bool) (digest body : List Byte) : State :=
  let x : Response := { opcode := opcode, status := st, tag := r.tag, final := final, frame := now s, digest := digest, body := body }
  match r.port with
  | .host slot => respondHost s slot.val x
  | .mgmt addr udp => respondMgmt s addr udp r.seq x
  | .peer rank => respondPeer s rank x
/-- The readback digest of a state (R478). -/
def readback (opcode : Nat) (tag : Word) (state : List Byte) : List Byte :=
  sha256 ([0x5A, 0x4B, 0x52, 0x42] ++ bytesLE 2 opcode ++ bytesLE 4 tag.toNat ++ state)
/-- EV-0106 of a change of live state (R479). -/
def changeEvent (s : State) (r : Req) (opcode : Nat) : State :=
  raise s 0x0106 unitNone noLevel [opcode, r.tag.toNat, 0, portField r.port]
/-- A refusal: no effect (R476). -/
def refuse (s : State) (r : Req) (opcode : Nat) (st : Status) : State := respond s r opcode st true [] []
/-- The OK response of a command without effect. -/
def answer (s : State) (r : Req) (opcode : Nat) (body : List Byte) : State := respond s r opcode .ok true [] body
/-- The OK response of a command that changed state, with its digest and EV-0106. -/
def settled (s : State) (r : Req) (opcode : Nat) (state body : List Byte) : State :=
  respond (changeEvent s r opcode) r opcode .ok true (readback opcode r.tag state) body
/-- The OK response of a command that acknowledges with a digest and changes no live state (R479). -/
def acknowledged (s : State) (r : Req) (opcode : Nat) (state body : List Byte) : State :=
  respond s r opcode .ok true (readback opcode r.tag state) body

/-! ### Class C commands -/

/-- Accepting a class C command: it is open with its operands, and the acceptance digests what it locked (R477, R478). -/
def accept (s : State) (r : Req) (opcode : Nat) (args : List Nat) (digest : List Byte) : State :=
  respond { s with eo.opened := s.eo.opened ++ [{ opcode := opcode, req := r, args := args }] } r opcode .accepted false digest []
/-- The open command of an opcode that a request names by its port, tag and sequence number. -/
def openCommand (s : State) (r : Req) (opcode : Nat) : Option OpenCommand :=
  s.eo.opened.find? (fun c => c.opcode == opcode && c.req == r)
/-- The open command of an opcode that is open once. -/
def openOnce (s : State) (opcode : Nat) : Option OpenCommand := s.eo.opened.find? (fun c => c.opcode == opcode)
/-- Closing an open command. -/
def closeCommand (s : State) (c : OpenCommand) : State := { s with eo.opened := s.eo.opened.erase c }
/-- How many of a class C opcode may be open (R477). -/
def openLimit (opcode : Nat) : Nat := if [0x0203, 0x0303, 0x0415].contains opcode then 16 else 1
/-- Whether another of a class C opcode may open. -/
def canOpen (s : State) (opcode : Nat) : Bool :=
  decide (s.eo.opened.countP (fun c => c.opcode == opcode) < openLimit opcode)

/-! ### Admission (R470 to R474, R482, R483) -/

/-- What the management port serves without a key (R472). -/
def mgmtOpen : List Nat := [0x0101, 0x0102, 0x0105, 0x0106]
/-- What it never serves (R483, R519). -/
def mgmtRefused : List Nat := [0x0203, 0x0301, 0x0302, 0x0303, 0x0410, 0x0415, 0x0701, 0x0801, 0x0902, 0x0A04, 0x0A05]
/-- What the peer port serves (R474). -/
def peerServed : List Nat :=
  [0x0101, 0x0102, 0x0107, 0x010D, 0x0201, 0x0202, 0x0501, 0x0502, 0x0601, 0x0803, 0x0901]
/-- What recovery serves (R482). -/
def recoveryServed : List Nat := [0x0101, 0x0105, 0x0106, 0x0701, 0x0702, 0x0104]
/-- Why a request is refused before its opcode is looked at, if it is. -/
def refusal (s : State) (r : Req) (opcode : Nat) : Option Status :=
  let port := match r.port with
    | .host _ => none
    | .mgmt _ _ =>
      if s.eo.mgmtKey.isNone && !(mgmtOpen.contains opcode) then some Status.notPermitted
      else if mgmtRefused.contains opcode then some Status.notPermitted else none
    | .peer _ =>
      if s.plan.rank.isNone || s.plan.rank.any (fun r => s.link.expelled.contains r) then some Status.refusedState
      else if peerServed.contains opcode then none else some Status.notPermitted
  match port with
  | some st => some st
  | none => if s.pin.recovery && !(recoveryServed.contains opcode) then some .refusedState else none
/-- Whether a host slot still holds a class C command: nothing else reaches Eomet through it (R469). -/
def slotHeld (s : State) (r : Req) : Bool :=
  match r.port with
  | .host _ => s.eo.opened.any (fun c => c.req.port == r.port)
  | _ => false
/-- Serving a request: from boot stage 2 on (R499), after the checks above. -/
def serve (s : State) (r : Req) (opcode : Nat) (f : State → State) : State :=
  if (s.pin.stage < 2 ∧ !s.pin.recovery) ∨ slotHeld s r then s
  else
    match refusal s r opcode with
    | some st => refuse s r opcode st
    | none => f s
/-- Serving a class C request: another of its opcode may have to be BUSY. -/
def serveC (s : State) (r : Req) (opcode : Nat) (f : State → State) : State :=
  serve s r opcode (fun s => if canOpen s opcode then f s else refuse s r opcode .busy)

end Sys2Proof.Machine
end

