-- ==== Sys2Proof/Machine/Sync.lean ====
section
/-!
DEFINITION. Sys2Proof/Machine/Sync.lean: the torus and its links (R349, R350, R365), and the sync events (R366 to R374): what each
does to the member it reaches.
-/
namespace Sys2Proof.Machine
open Sys2Proof

/-! ### Links, groups and the torus -/

/-- The direction and the member index of a link (R349). -/
def linkDir (l : Nat) : Nat := l % 24 / 4
def linkMember (l : Nat) : Nat := l % 4 + 4 * (l / 24)
/-- The link of a direction and member index. -/
def linkAt (d m : Nat) : Nat := 24 * (m / 4) + 4 * d + m % 4
/-- The ranks that are members of the job. -/
def jobMembers (s : State) : List Nat :=
  match s.plan.loaded with
  | some p => (p.ranks.map rkRank).filter (fun r => !(s.link.expelled.contains r))
  | none => []
/-- The package's replica group, and its current members (R237). -/
def myGroup (s : State) : Nat := ((s.plan.loaded.bind (fun p => (s.plan.rank.bind (rankEntry p)))).map rkGroup).getD 0
def groupMembers (s : State) : List Nat :=
  match s.plan.loaded with
  | some p => (groupRanks p (myGroup s)).filter (fun r => !(s.link.expelled.contains r))
  | none => []
/-- The coordinate of a rank. -/
def coordOf (p : PlanImage) (r : Nat) : Nat × Nat × Nat := ((rankEntry p r).map rkCoord).getD (0, 0, 0)
/-- The coordinate one step away in a direction (R350). -/
def stepCoord (p : PlanImage) (c : Nat × Nat × Nat) (d : Nat) : Nat × Nat × Nat :=
  let t := planTorus p
  let move := fun (v n : Nat) => if d % 2 = 0 then (v + 1) % n else (v + n - 1) % n
  match d / 2 with
  | 0 => (move c.1 t.1, c.2.1, c.2.2)
  | 1 => (c.1, move c.2.1 t.2.1, c.2.2)
  | _ => (c.1, c.2.1, move c.2.2 t.2.2)
/-- The rank at a coordinate. -/
def rankAt (p : PlanImage) (c : Nat × Nat × Nat) : Option Nat := (p.ranks.find? (fun e => rkCoord e == c)).map rkRank
/-- The neighbour in a direction; none where the dimension has extent 1 (R351). -/
def neighbour (s : State) (d : Nat) : Option Nat :=
  match s.plan.loaded, s.plan.rank with
  | some p, some r =>
    let t := planTorus p
    let n := match d / 2 with
      | 0 => t.1
      | 1 => t.2.1
      | _ => t.2.2
    if n ≤ 1 then none else rankAt p (stepCoord p (coordOf p r) d)
  | _, _ => none
/-- Steps between two values around a ring. -/
def ringDistance (n a b : Nat) : Nat := if n = 0 then 0 else min ((a + n - b % n) % n) ((b + n - a % n) % n)
/-- The torus distance of two ranks. -/
def torusDistance (p : PlanImage) (a b : Nat) : Nat :=
  let t := planTorus p
  let x := coordOf p a
  let y := coordOf p b
  ringDistance t.1 x.1 y.1 + ringDistance t.2.1 x.2.1 y.2.1 + ringDistance t.2.2 x.2.2 y.2.2
/-- The root of the tick: the lowest rank that is a member (R365). -/
def rootRank (s : State) : Option Nat := (jobMembers s).min?
/-- The parent link and the depth of this member (R365). -/
def treeOf (s : State) : Option Nat × Nat :=
  match s.plan.loaded, s.plan.rank, rootRank s with
  | some p, some r, some root =>
    let depth := torusDistance p r root
    if r = root then (none, 0)
    else
      ((List.range 48).find? (fun l =>
        ((linkOf s l).width == 1 || (linkOf s l).width == 2) &&
        (match neighbour s (linkDir l) with
         | some n => decide (torusDistance p n root + 1 = depth)
         | none => false)), depth)
  | _, _, _ => (none, 0)
/-- The direction a C0 message for a rank leaves in (R357): X, then Y, then Z, the shorter way, + where both are equal. -/
def routeDir (p : PlanImage) (a b : Nat) : Option Nat :=
  let t := planTorus p
  let x := coordOf p a
  let y := coordOf p b
  let way := fun (d n u v : Nat) =>
    if n = 0 ∨ u = v then none else if (v + n - u % n) % n ≤ (u + n - v % n) % n then some d else some (d + 1)
  match way 0 t.1 x.1 y.1 with
  | some d => some d
  | none => match way 2 t.2.1 x.2.1 y.2.1 with
    | some d => some d
    | none => way 4 t.2.2 x.2.2 y.2.2

/-! ### What a flooded event does (R371 to R373) -/

/-- Whether the target tick of an event has passed: HOLD, LATE and EXPEL target the tick that ends their frame, START the tick
that begins S (R372). -/
def targetPassed (s : State) (e : SyncEvent) : Bool :=
  match e.kind with
  | .hold | .late | .expel => decide (e.frame < now s)
  | .start => decide (e.frame ≤ now s)
  | _ => false
/-- Making the tick that ends a frame a hold tick (R373). -/
def addHold (s : State) (frame : Nat) : State :=
  if s.fr.holdTargets.contains (frame + 1) then s else { s with fr.holdTargets := (frame + 1) :: s.fr.holdTargets }
/-- Escalation to L4 by a rule of the package's own: EV-0251, and EXPEL naming itself (R434). -/
def takeL4 (s : State) : State :=
  let s := raise s 0x0251 unitPackage 4 []
  let s := { s with fr.running := s.fr.running.map (fun (p : PlanFrame) => { p with level := 4 }) }
  match s.plan.rank with
  | some r => floodExpel s r
  | none => s
/-- The reports of an abandoned attempt decide (R313): a redo where every survivor of the group is complete, else rollback. -/
def decideRedo (s : State) : State :=
  let ms := groupMembers s
  let all := ms.all (fun r => s.upd.completeReports.any (fun c => c.1 == r))
  if s.upd.abandoned ∧ !s.upd.redo ∧ all then
    if ms.all (fun r => s.upd.completeReports.contains (r, true)) then
      { s with
        upd.redo := true, upd.attempt := s.upd.attempt + 1, upd.scanned := false, upd.skipped := false, upd.sent := false,
        upd.reports := [], upd.completeReports := [] }
    else takeL4 { s with upd.completeReports := [] }
  else s
/-- A completeness report for the current attempt. -/
def noteComplete (s : State) (rank attempt : Nat) (whole : Bool) : State :=
  if attempt = s.upd.attempt then decideRedo { s with upd.completeReports := s.upd.completeReports ++ [(rank, whole)] } else s
/-- An update-done report (R311). -/
def noteDone (s : State) (r : DoneReport) : State := { s with upd.reports := s.upd.reports ++ [r] }
/-- START names the start frame (R270). -/
def noteStart (s : State) (frame : Nat) : State :=
  if s.plan.stage = .prepared then { s with plan.startFrame := some frame, plan.stage := .starting } else s
/-- PREPARED of a rank: rank 0 floods START once every rank has reported, 64 frames ahead (R270, R374). -/
def notePrepared (s : State) (rank : Nat) : State :=
  let s := { s with plan.prepared := if s.plan.prepared.contains rank then s.plan.prepared else s.plan.prepared ++ [rank] }
  if s.plan.rank = some 0 ∧ s.plan.stage = .prepared ∧ (jobMembers s).all (fun r => s.plan.prepared.contains r) then
    noteStart (flood s .start (now s + 64) (planIdField s).toNat) (now s + 64)
  else s
/-- The bytes of a PLAN_LOAD final response (R480). -/
def loadBody (reason template index frame : Nat) : List Byte :=
  bytesLE 1 reason ++ bytesLE 2 template ++ bytesLE 4 index ++ bytesLE 6 frame
/-- The end of a plan load's request, if one is owed. -/
def endLoad (s : State) (st : Status) (digest body : List Byte) : State :=
  match s.plan.loadReq with
  | none => s
  | some r =>
    let s := { s with plan.loadReq := none, eo.opened := s.eo.opened.filter (fun c => !(c.opcode == 0x0801 && c.req == r)) }
    if st = .ok then
      respond (changeEvent s r 0x0801) r 0x0801 .ok true (readback 0x0801 r.tag digest) body
    else respond s r 0x0801 st true [] body
/-- A load that does not start (R270): each package that prepared raises EV-0111, and no plan is loaded. -/
def abandonLoad (s : State) (reason : Nat) : State :=
  let s := if s.plan.stage = .preparing then s else raise s 0x0111 unitPackage noLevel []
  let s := endLoad s .failed [] (loadBody reason 0 0 0)
  { s with plan.stage := .idle, plan.startFrame := none, plan.prepared := [], plan.loaded := none, plan.rank := none }
/-- ABORT: it counts until counter frame S. -/
def noteAbort (s : State) (reason : Nat) : State :=
  if s.plan.stage = .idle then s else abandonLoad s reason
/-- EXPEL: to be processed at its tick (R432). -/
def noteExpel (s : State) (frame rank : Nat) : State :=
  if s.link.expelTargets.contains (frame + 1, rank) then s
  else { s with link.expelTargets := s.link.expelTargets ++ [(frame + 1, rank)] }
/-- A flooded event's effect on the member it reaches. -/
def actOn (s : State) (e : SyncEvent) : State :=
  match e.kind with
  | .hold | .late => addHold s e.frame
  | .stretch => { s with fr.stretchAsked := true }
  | .updateDone =>
    noteDone s { rank := e.origin, version := e.payload % 2 ^ 32, attempt := e.payload / 2 ^ 32 % 256,
                 skipped := e.payload / 2 ^ 40 % 2 == 1 }
  | .complete => noteComplete s e.origin (e.payload % 256) (e.payload / 256 % 2 == 1)
  | .prepared => if e.payload % 2 ^ 32 = (planIdField s).toNat then notePrepared s e.origin else s
  | .start => if e.payload % 2 ^ 32 = (planIdField s).toNat then noteStart s e.frame else s
  | .abort => if e.payload % 2 ^ 32 = (planIdField s).toNat then noteAbort s (e.payload / 2 ^ 32 % 256) else s
  | .expel => noteExpel s e.frame (e.payload % 1024)
  | .tick | .echoReq | .echoReply => s
/-- A flooded event arrives on a link: a copy that has been seen is dropped, any other is forwarded on every other live link and
acted on, unless its target tick has passed (R371, R372). -/
def receiveFlood (s : State) (link : Nat) (e : SyncEvent) : State :=
  if s.link.seen.contains (e.kind, e.origin, e.frame) then s
  else
    let s := relay { s with link.seen := (e.kind, e.origin, e.frame) :: s.link.seen } e ((liveLinks s).filter (· != link))
    if targetPassed s e then takeL3 s 0x0531 (unitLink link) [] else actOn s e

/-! ### The commands of the sync events -/

/-- The frame and payload of a sync event as numbers. -/
def syncEvent (k : SyncKind) (origin : Rank) (frame payload : Nat) : SyncEvent :=
  { kind := k, origin := origin.val, frame := frame, payload := payload }
/-- HOLD (R373). -/
def execHold (link : LinkId) (origin : Rank) (frame : BitVec 48) (cause : Fin 16) (cyc : Nat) (s : State) : Result :=
  .next (receiveFlood (atCycle s cyc) link.val (syncEvent .hold origin frame.toNat cause.val))
/-- LATE (R373). -/
def execLate (link : LinkId) (origin : Rank) (frame : BitVec 48) (unit : Byte) (cyc : Nat) (s : State) : Result :=
  .next (receiveFlood (atCycle s cyc) link.val (syncEvent .late origin frame.toNat unit.toNat))
/-- STRETCH (R267). -/
def execStretch (link : LinkId) (origin : Rank) (frame : BitVec 48) (pos : Word) (s : State) : Result :=
  .next (receiveFlood s link.val (syncEvent .stretch origin frame.toNat pos.toNat))
/-- UPDATE_DONE (R311). -/
def execUpdateDone (link : LinkId) (origin : Rank) (frame : BitVec 48) (version : Word) (attempt : Byte) (skipped : Bool)
    (s : State) : Result :=
  .next (receiveFlood s link.val (syncEvent .updateDone origin frame.toNat
    (version.toNat + attempt.toNat * 2 ^ 32 + bitNat skipped * 2 ^ 40)))
/-- COMPLETE (R313). -/
def execComplete (link : LinkId) (origin : Rank) (frame : BitVec 48) (attempt : Byte) (whole : Bool) (cyc : Nat) (s : State) :
    Result :=
  .next (receiveFlood (atCycle s cyc) link.val (syncEvent .complete origin frame.toNat (attempt.toNat + bitNat whole * 256)))
/-- PREPARED (R270). -/
def execPrepared (link : LinkId) (origin : Rank) (planId : Word) (s : State) : Result :=
  .next (receiveFlood s link.val (syncEvent .prepared origin 0 planId.toNat))
/-- START (R270). -/
def execSyncStart (link : LinkId) (origin : Rank) (frame : BitVec 48) (planId : Word) (s : State) : Result :=
  .next (receiveFlood s link.val (syncEvent .start origin frame.toNat planId.toNat))
/-- ABORT (R270). -/
def execSyncAbort (link : LinkId) (origin : Rank) (planId : Word) (reason : Byte) (s : State) : Result :=
  .next (receiveFlood s link.val (syncEvent .abort origin 0 (planId.toNat + reason.toNat * 2 ^ 32)))
/-- EXPEL (R432). -/
def execExpel (link : LinkId) (origin : Rank) (frame : BitVec 48) (rank : Rank) (cyc : Nat) (s : State) : Result :=
  .next (receiveFlood (atCycle s cyc) link.val (syncEvent .expel origin frame.toNat rank.val))
/-- TICK on a link (R366): from the parent link, e = a − o − D, in 1/64 ns. -/
def execSyncTick (link : LinkId) (frame : BitVec 48) (departure : Fin 8388608) (aligned : Bool) (arrival : Int) (s : State) : Result :=
  let _ := (frame, aligned)
  if s.link.parent = some link.val then
    .next { s with link.errorNow := some (arrival - (departure.val : Int) - ((linkOf s link.val).delay : Int)) }
  else .next s
/-- MEMBER_ALIGNED (R374): after 16 ticks in a row within 4 ns, at a plan load, a member adopts its parent's frame counter. -/
def execMemberAligned (frame : BitVec 48) (s : State) : Result :=
  if s.plan.stage = .preparing ∧ 16 ≤ s.link.alignedCount ∧ !s.link.aligned then
    .next { s with fr.counter := frame, link.aligned := true }
  else .next s
/-- TICK_LOSS (R367): no TICK on any candidate parent link for 4 ticks in a row. -/
def execTickLoss (cyc : Nat) (s : State) : Result := .next (takeL3 (atCycle s cyc) 0x0532 unitPackage [])
/-- ECHO_MEASUREMENT (R366, R370): an ECHO_REQ leaves with a token. -/
def execEchoMeasurement (link : LinkId) (token : Half) (s : State) : Result :=
  let s := modLink s link.val (fun l => { l with echoes := l.echoes ++ [token.toNat] })
  .next (relay s { kind := .echoReq, origin := s.plan.rank.getD 0, frame := 0, payload := token.toNat } [link.val])
/-- ECHO_REQ (R370): answered at the next control position with the token and the turnaround. -/
def execEchoReq (link : LinkId) (token : Half) (turnaround : Word) (s : State) : Result :=
  .next (relay s { kind := .echoReply, origin := s.plan.rank.getD 0, frame := 0,
                   payload := token.toNat + turnaround.toNat * 2 ^ 16 } [link.val])
/-- ECHO_REPLY (R366, R367): D is half the round trip less the turnaround; above 400 ns (25,600) the link counts as down. -/
def execEchoReply (link : LinkId) (token : Half) (turnaround : Word) (roundTrip : Word) (s : State) : Result :=
  if (linkOf s link.val).echoes.contains token.toNat then
    let d := (roundTrip.toNat - turnaround.toNat) / 2
    let s := modLink s link.val (fun l => { l with echoes := l.echoes.erase token.toNat, delay := min d 65535 })
    if 25600 < d then
      .next (raise (modLink s link.val (fun l => { l with width := 0, miscabled := true })) 0x0513 (unitLink link.val) noLevel [])
    else .next s
  else .next s
/-- C0_MESSAGE (R357): delivered where it is addressed to this rank, dropped where its destination is expelled (R432), else
forwarded at the next C0 position. -/
def execC0Message (link : LinkId) (m : C0Message) (s : State) : Result :=
  let _ := link
  if s.plan.rank = some m.dest.val then .next { s with link.delivered := s.link.delivered ++ [m] }
  else if s.link.expelled.contains m.dest.val then .next s
  else .next { s with link.messages := s.link.messages ++ [m] }

end Sys2Proof.Machine
end

