-- ==== Sys2Proof/Machine/Update.lean ====
section
/-!
DEFINITION. Sys2Proof/Machine/Update.lean: the update engines (R291 to R310): streams, registers, the scan, the preconditioner's
area and root jobs, chunk digests, and a whole rerun (R313).
-/
namespace Sys2Proof.Machine
open Sys2Proof

/-! ### Groups, streams and areas (R292, R293, R306) -/

/-- The device address of an offset in a region: in a region of kind 8, within the bank of a version. -/
def engAddr (p : PlanImage) (region off version : Nat) : Nat :=
  match p.regions[region]? with
  | some e => if rgKind e = 8 then bankBase p region version + off else rgAddr e + off
  | none => 0
/-- The next 4 KiB boundary. -/
def align4K (n : Nat) : Nat := (n + 4095) / 4096 * 4096
/-- Element bytes of stream 0 or 2 to 5 of a group's bank; 0 where the stream is absent. -/
def streamSize (e : BitVec 512) (stream : Nat) : Nat :=
  if stream = 0 then 2
  else if 2 ≤ stream ∧ stream ≤ 5 then
    (match gpStateFmt e (stream - 2) with
     | 1 => 2
     | 2 => 4
     | _ => 0)
  else 0
/-- The streams a group holds in its bank, in order. -/
def bankStreams (e : BitVec 512) : List Nat := [0, 2, 3, 4, 5].filter (fun k => streamSize e k != 0)
/-- The offset of each stream of a bank from the group's bank base, and the end of the last (R292). -/
def streamOffsets (e : BitVec 512) : List (Nat × Nat) × Nat :=
  (bankStreams e).foldl (fun (acc : List (Nat × Nat) × Nat) k =>
    let off := if k = 0 then 0 else align4K acc.2
    (acc.1 ++ [(k, off)], off + streamSize e k * gpElements e)) ([], 0)
/-- The offset of a stream of the bank. -/
def streamOffset (e : BitVec 512) (k : Nat) : Nat := (((streamOffsets e).1.find? (fun x => x.1 == k)).map Prod.snd).getD 0
/-- Row and column blocks of a preconditioned group. -/
def rowBlocks (e : BitVec 512) : Nat := (gpRows e + gpBlock e - 1) / gpBlock e
def colBlocks (e : BitVec 512) : Nat :=
  if gpPrecond e = 2 then (gpElements e / gpRows e + gpBlock e - 1) / gpBlock e else 0
/-- The preconditioner area from the group's bank base: where it starts, its statistics' bytes, and its whole length. -/
def areaStart (e : BitVec 512) : Nat := align4K (streamOffsets e).2
def areaStats (e : BitVec 512) : Nat := if gpPrecond e = 0 then 0 else (rowBlocks e + colBlocks e) * gpBlock e * gpBlock e * 4
def areaLength (e : BitVec 512) : Nat := areaStats e / 4 * 6
/-- The address of a bank offset of a group in the bank of a version. -/
def groupAddr (p : PlanImage) (e : BitVec 512) (off version : Nat) : Nat :=
  engAddr p (gpBankRegion e) (gpBankBase e + off) version
/-- Chunks of a group. -/
def groupChunks (e : BitVec 512) : Nat := (gpElements e + 4095) / 4096
/-- Elements of a chunk. -/
def chunkSize (e : BitVec 512) (k : Nat) : Nat := min 4096 (gpElements e - 4096 * k)
/-- Whether the mask lets an element be updated (R293 stream 7). -/
def maskBit (s : State) (p : PlanImage) (e : BitVec 512) (v i : Nat) : Bool :=
  !(gpMask e) || ((hbmBytes s (engAddr p (gpMaskRegion e) (gpMaskBase e + i / 8) v) 1).headD 0).getLsbD (i % 8)
/-- Where stream bytes of an element lie: stream number to address and size; none for the mask and for absent streams. -/
def streamAddr (p : PlanImage) (e : BitVec 512) (v stream i : Nat) : Option (Nat × Nat) :=
  if stream = 1 then some (engAddr p (gpGradRegion e) (gpGradBase e + 2 * i) v, 2)
  else if stream = 6 then
    if gpPrecond e = 0 then none
    else some (engAddr p (gpGradRegion e) (gpGradBase e + align4K (2 * gpElements e) + 2 * i) v, 2)
  else if streamSize e stream = 0 then none
  else some (groupAddr p e (streamOffset e stream + streamSize e stream * i) v, streamSize e stream)
/-- The FP32 word of stored bytes (R293: a load converts exactly; R48). -/
def streamWord (bs : List Byte) : Word :=
  if bs.length = 2 then toF32 .odd (ofBf16 (BitVec.ofNat 16 (natLE bs))) else toF32 .odd (ofF32 (BitVec.ofNat 32 (natLE bs)))

/-! ### Registers (R294, R295) -/

/-- A register as a lane reads it: v0 to v15, then s0 to s15. -/
def laneReg (e : UpdEngine) (lane r : Nat) : Word := if r < 16 then tget 0 e.vectors (16 * lane + r) else tget 0 e.scalars (r - 16)
/-- Writing register d with each lane's value; a scalar register takes the one value every lane reads alike. -/
def putReg (e : UpdEngine) (d : Nat) (f : Nat → Word) : UpdEngine :=
  if d < 16 then
    { e with vectors := (List.range 64).foldl (fun v lane => tset 0 v (16 * lane + d) (f lane)) e.vectors }
  else { e with scalars := tset 0 e.scalars (d - 16) (f 0) }
/-- The value of a register. -/
def laneVal (e : UpdEngine) (lane r : Nat) : FVal := ofF32 (laneReg e lane r)
/-- An arithmetic instruction: its exact result rounded once to odd (R297). -/
def aluOp (s : State) (k d : Nat) (f : UpdEngine → Nat → FVal) : State :=
  modEngine s k (fun e => putReg e d (fun lane => toF32 .odd (f e lane)))
/-- An instruction that moves a register's word. -/
def moveOp (s : State) (k d : Nat) (f : UpdEngine → Nat → Word) : State :=
  modEngine s k (fun e => putReg e d (fun lane => f e lane))

/-! ### Where an engine stands -/

/-- The update section of the loaded plan. -/
def updPlan (s : State) : Option PlanImage := s.plan.loaded
/-- A program's pass: prologue and body. -/
def passOf (g : UpdProgram) (pass : Nat) : List Word × List Word :=
  if pass = 1 then (g.prologue1, g.body1) else (g.prologue2, g.body2)
/-- The program of a group. -/
def programOf (p : PlanImage) (e : BitVec 512) : UpdProgram :=
  p.update.programs.getD (gpProgram e) { consts := [], prologue1 := [], body1 := [], prologue2 := [], body2 := [] }
/-- Whether a program has a pass. -/
def hasPass (g : UpdProgram) (pass : Nat) : Bool := pass == 1 || !(g.prologue2.isEmpty && g.body2.isEmpty)
/-- A group's last pass, in which its chunks are digested. -/
def lastPass (g : UpdProgram) : Nat := if hasPass g 2 then 2 else 1
/-- The group an engine works on. -/
def workGroup (p : PlanImage) (w : EngineWork) : BitVec 512 := p.update.groups.getD w.group 0
/-- The elements of the 64 lanes, by lane. -/
def workElements (p : PlanImage) (w : EngineWork) : List Nat :=
  if w.inBody then
    (List.range (min 64 (chunkSize (workGroup p w) w.chunk - 64 * w.batch))).map (fun l => 4096 * w.chunk + 64 * w.batch + l)
  else []
/-- The batches of 64 elements of the engine's chunk are done. -/
def chunkDone (p : PlanImage) (w : EngineWork) : Bool :=
  let e := workGroup p w
  w.inBody && ((passOf (programOf p e) w.pass).2.isEmpty || decide (chunkSize e w.chunk ≤ 64 * w.batch))
/-- The update count c = t_base + V + 1 (R294). -/
def updateCount (s : State) (p : PlanImage) : Word := p.update.tBase + s.fr.master + 1
/-- The key of a RED operand: program, slot, group, element (R298). -/
def redKey (prog slot group elem : Nat) : Nat := ((prog * 4 + slot) * 65536 + group) * 2 ^ 36 + elem
/-- A slot's value: reduce over its operands in ascending group and element order (R298). -/
def slotValue (s : State) (prog slot : Nat) : Word :=
  let lo := redKey prog slot 0 0
  let hi := redKey prog (slot + 1) 0 0
  toF32 .odd (reduceF32 ((s.upd.reds.filter (fun x => decide (lo ≤ x.1) && decide (x.1 < hi))).map (fun x => ofF32 x.2)))
/-- The scalar registers before a prologue (R294). -/
def passScalars (s : State) (p : PlanImage) (e : BitVec 512) (pass : Nat) : List Word :=
  let c := updateCount s p
  let curve := fun (k : Nat) => if k < gpCurves e then curveValue (p.update.curves.getD (gpSched e + k) []) c.toNat else 0
  let slot := fun (k : Nat) => if pass = 2 then slotValue s (gpProgram e) k else 0
  [curve 0, curve 1, curve 2, curve 3, toF32 .odd (.fin ((c.toNat : Int) : Rat)),
   toF32 .odd (.fin (pow2 (-(s.num.lossInForce : Int))))]
  ++ (List.range 6).map (fun i => (programOf p e).consts.getD i 0)
  ++ [slot 0, slot 1, slot 2, slot 3]
/-- An engine at the start of a group's pass, at its first chunk. -/
def startedEngine (s : State) (p : PlanImage) (pos pass chunk : Nat) : UpdEngine :=
  let e := p.update.groups.getD pos 0
  let empty := (passOf (programOf p e) pass).1.isEmpty
  { work := some { group := pos, pass := pass, inBody := empty, pc := 0, chunk := chunk, batch := 0 },
    scalars := (passScalars s p e pass).zipIdx.foldl (fun t x => tset 0 t x.2 x.1) [], vectors := [] }
/-- The first group from a position on that gives engine `en` of stack `st` a chunk in a pass (R301). -/
def nextGroup (p : PlanImage) (st en pass pos : Nat) : Option Nat :=
  (List.range p.update.groups.length).find? (fun i =>
    let e := p.update.groups.getD i 0
    decide (pos ≤ i) && gpStack e == st && decide (en < groupChunks e) && hasPass (programOf p e) pass)
/-- Engine k goes on with the groups from a position of a pass, then with pass 2, and then has no work left (R301). -/
def enterGroup (s : State) (p : PlanImage) (k pass pos : Nat) : State :=
  match nextGroup p (k / 8) (k % 8) pass pos with
  | some i => modEngine s k (fun _ => startedEngine s p i pass (k % 8))
  | none =>
    match (if pass = 1 then nextGroup p (k / 8) (k % 8) 2 0 else none) with
    | some i => modEngine s k (fun _ => startedEngine s p i 2 (k % 8))
    | none => modEngine s k (fun e => { e with work := none })
/-- The next instruction: from prologue to body, from batch to batch with the vector registers at +0 (R294). -/
def advance (s : State) (k : Nat) : State :=
  match updPlan s, (engineOf s k).work with
  | some p, some w =>
    if chunkDone p w then s
    else
      let code := passOf (programOf p (workGroup p w)) w.pass
      let len := if w.inBody then code.2.length else code.1.length
      modEngine s k (fun e =>
        if w.pc + 1 < len then { e with work := some { w with pc := w.pc + 1 } }
        else if w.inBody then { e with work := some { w with pc := 0, batch := w.batch + 1 }, vectors := [] }
        else { e with work := some { w with inBody := true, pc := 0, batch := 0 }, vectors := [] })
  | _, _ => s

/-! ### The instructions that reach memory (R293, R298, R300) -/

/-- An update engine's consumption of poison escalates to L3 (R287). -/
def enginePoison (s : State) (a n : Nat) : State :=
  (hbmMarks s a n).foldl (fun s m => poisonConsumed s (runningGen s) 0 0 m.2.origin m.2.number m.1 true) s
/-- The elements each lane of engine k works on, with the group and the plan. -/
def engineElements (s : State) (k : Nat) : Option (PlanImage × BitVec 512 × List Nat) :=
  match updPlan s, (engineOf s k).work with
  | some p, some w => some (p, workGroup p w, workElements p w)
  | _, _ => none
/-- LDS: each lane takes its element of a stream. A stream that the group does not have gives a free value (log 21). -/
def loadStream (s : State) (k d stream : Nat) : State :=
  match engineElements s k with
  | none => s
  | some (p, e, elems) =>
    let v := s.fr.master.toNat
    if stream = 7 then
      moveOp s k d (fun _ lane => match elems[lane]? with
        | some i => if maskBit s p e v i then 0x3F800000 else 0
        | none => 0)
    else
      match streamAddr p e v stream (elems.headD 0) with
      | none => draw (moveOp s k d (fun _ _ => Config.freeWord s.free))
      | some (a, size) =>
        let s := stackRead (enginePoison s a (size * elems.length)) (devStack a) (64 * (linesOf a (size * elems.length)).length)
        moveOp s k d (fun _ lane =>
          if lane < elems.length then streamWord (hbmBytes s (a + size * lane) size) else 0)
/-- The bytes that STS stores for one element: the master stochastically, BF16 state to nearest even, FP32 exactly. -/
def storeBytes (s : State) (p : PlanImage) (e : BitVec 512) (stream i : Nat) (w : Word) : List Byte :=
  if stream = 0 then
    bytesLE 2 (stochasticBf16 w (stochBits (planSeed p) (updateCount s p) (BitVec.ofNat 16 (gpNumber e)) (BitVec.ofNat 64 i))).toNat
  else if streamSize e stream = 2 then bytesLE 2 (toBf16 .nearestEven (ofF32 w)).toNat
  else bytesLE 4 (toF32 .nearestEven (ofF32 w)).toNat
/-- STS: each lane's value goes to the alternate bank, but for elements whose mask bit is 0 (R300). -/
def storeStream (s : State) (k stream a : Nat) : State :=
  match engineElements s k with
  | none => s
  | some (p, e, elems) =>
    if streamSize e stream = 0 then s
    else
      let v := s.fr.master.toNat
      let eng := engineOf s k
      elems.zipIdx.foldl (fun t x =>
        if maskBit s p e v x.1 then
          match streamAddr p e (v + 1) stream x.1 with
          | some (addr, _) => writeHbm t .plain addr (storeBytes s p e stream x.1 (laneReg eng x.2 a)) noPoison
          | none => t
        else t) s
/-- RED: each unmasked lane's operand is added to a reduction slot of the program in pass 1's body (R298, R300). -/
def addRed (s : State) (k slot a : Nat) : State :=
  match engineElements s k, (engineOf s k).work with
  | some (p, e, elems), some w =>
    if w.pass = 1 then
      let v := s.fr.master.toNat
      let eng := engineOf s k
      { s with upd.reds := elems.zipIdx.foldl (fun t x =>
          if maskBit s p e v x.1 then tput t (redKey (gpProgram e) slot (gpNumber e) x.1) (laneReg eng x.2 a) else t) s.upd.reds }
    else s
  | _, _ => s

/-! ### Root jobs (R307) -/

/-- A matrix by rows. -/
abbrev Matrix := List (List FVal)
/-- The columns of a matrix. -/
def transposeOf (m : Matrix) : Matrix := (List.range ((m.headD []).length)).map (fun j => m.map (fun r => r.getD j .zero))
/-- The split product of R307. -/
def splitProduct (x y : Matrix) : Matrix :=
  let hi := fun (v : FVal) => rtoBf16 v
  let lo := fun (v : FVal) => rtoBf16 (fSub v (rtoBf16 v))
  let cols := (transposeOf y).map (fun c => c.map hi ++ c.map lo ++ c.map hi)
  x.map (fun r =>
    let row := r.map hi ++ r.map hi ++ r.map lo
    cols.map (fun c => dotF32 row c .zero))
/-- The identity of size b. -/
def identityOf (b : Nat) : Matrix := (List.range b).map (fun i => (List.range b).map (fun j => if i = j then FVal.one else .zero))
/-- An elementwise map of two matrices. -/
def zipMatrix (f : FVal → FVal → FVal) (x y : Matrix) : Matrix := List.zipWith (List.zipWith f) x y
/-- One Newton iteration of R307 on x and m. -/
def rootStep (b p : Nat) (xm : Matrix × Matrix) : Matrix × Matrix :=
  let t := zipMatrix (fun i m => rto (fDiv (rto (fSub (fMul (.fin ((p : Int) + 1 : Rat)) i) m)) (.fin ((p : Int) : Rat)))) (identityOf b) xm.2
  let x := splitProduct xm.1 t
  let t2 := splitProduct t t
  let t2 := if p = 4 then splitProduct t2 t2 else t2
  (x, splitProduct t2 xm.2)
/-- The root of a statistic (R307): none where it does not meet the test. -/
def rootOf (st : Matrix) (p : Nat) (eps : FVal) (n : Nat) : Option (List Half) :=
  let b := st.length
  let a := zipMatrix (fun i v => if i.isZero then v else rto (fAdd v eps)) (identityOf b) st
  let z := fRsqrt fp32 .odd (reduceF32 (a.flatten.map (fun v => rto (fMul v v))))
  let m := a.map (fun r => r.map (fun v => rto (fMul z v)))
  let xm := (List.range n).foldl (fun xm _ => rootStep b p xm) (identityOf b, m)
  let far := (zipMatrix (fun m i => fAbs (fSub m i)) xm.2 (identityOf b)).flatten.foldl fMax .zero
  if fLt (.fin (pow2 (-10))) far then none
  else
    let r := fSqrt fp32 .odd z
    let sc := if p = 2 then r else fSqrt fp32 .odd r
    some (xm.1.flatten.map (fun v => toBf16 .nearestEven (rto (fMul sc v))))
/-- Writing bytes to the alternate bank with the poison of the codewords they are copied from (R284, R286). -/
def copyBank (s : State) (p : PlanImage) (e : BitVec 512) (off n : Nat) : State :=
  let v := s.fr.master.toNat
  let src := groupAddr p e off v
  let dst := groupAddr p e off (v + 1)
  let bytes := hbmBytes s src n
  let s' := stackRead s (devStack src) (64 * (linesOf src n).length)
  writeHbm s' .plain dst bytes (fun l =>
    (hbmMark s (src + l - dst)).map (fun m => (m.origin, m.number)))
/-- The root job of block i of a preconditioned group, row blocks before column blocks: the alternate bank's statistic gives
the alternate bank's root, or the committed root stays (R306, R307; log 22). -/
def rootJob (s : State) (p : PlanImage) (e : BitVec 512) (i : Nat) : State :=
  let b := gpBlock e
  let stat := groupAddr p e (areaStart e + i * b * b * 4) (s.fr.master.toNat + 1)
  let rootOff := areaStart e + areaStats e + i * b * b * 2
  let m : Matrix := groupsOf (4 * b) b (hbmBytes s stat (4 * b * b)) |>.map f32List
  match rootOf m (if gpPrecond e = 2 then 4 else 2) (ofF32 (gpEps e)) (gpIterations e) with
  | some r => writeHbm s .plain (groupAddr p e rootOff (s.fr.master.toNat + 1)) (r.flatMap (fun h => bytesLE 2 h.toNat)) noPoison
  | none => raise (copyBank s p e rootOff (2 * b * b)) 0x0441 unitPackage noLevel []
/-- The roots of a preconditioned group: a root job for every block when c mod period = 0, else copies (R306). -/
def finishRoots (s : State) (p : PlanImage) (e : BitVec 512) : State :=
  if gpPrecond e = 0 then s
  else if (updateCount s p).toNat % gpPeriod e = 0 then
    (List.range (rowBlocks e + colBlocks e)).foldl (fun s i => rootJob s p e i) s
  else copyBank s p e (areaStart e + areaStats e) (areaLength e - areaStats e)

/-! ### Chunks and digests (R309, R310) -/

/-- The key of a chunk digest. -/
def digestKey (group chunk : Nat) : Nat := group * 2 ^ 33 + chunk
/-- A chunk digest over bytes of the alternate bank. -/
def chunkDigest (s : State) (group chunk : Nat) (bytes : List Byte) : List Byte :=
  sha256 ([0x5A, 0x4B, 0x57, 0x43] ++ bytesLE 4 group ++ bytesLE 4 chunk ++ bytesLE 4 (s.fr.master.toNat + 1) ++ bytes)
/-- Storing a chunk digest. -/
def putDigest (s : State) (group chunk : Nat) (bytes : List Byte) : State :=
  { s with upd.chunkDigests := tput s.upd.chunkDigests (digestKey group chunk) (chunkDigest s group chunk bytes) }
/-- Folding a group's chunk as written: its master bytes, then each state stream's. -/
def digestChunk (s : State) (p : PlanImage) (e : BitVec 512) (chunk : Nat) : State :=
  putDigest s (gpNumber e) chunk ((bankStreams e).flatMap (fun k =>
    hbmBytes s (groupAddr p e (streamOffset e k + streamSize e k * 4096 * chunk) (s.fr.master.toNat + 1))
      (streamSize e k * chunkSize e chunk)))
/-- Folding a preconditioned group's area in chunks of 16 KiB. -/
def digestArea (s : State) (p : PlanImage) (e : BitVec 512) : State :=
  (List.range (areaLength e / 16384)).foldl (fun s k =>
    putDigest s (gpNumber e) (0x80000000 + k) (hbmBytes s (groupAddr p e (areaStart e + 16384 * k) (s.fr.master.toNat + 1)) 16384)) s
/-- Whether every element chunk of a group has its digest. -/
def chunksFolded (s : State) (e : BitVec 512) : Bool :=
  (List.range (groupChunks e)).all (fun c => (tfind s.upd.chunkDigests (digestKey (gpNumber e) c)).isSome)
/-- The streams that a program's instructions store. -/
def storesStream (g : UpdProgram) (stream : Nat) : Bool :=
  (g.body1 ++ g.body2).any (fun w => bitsOf w 31 26 == 2 && bitsOf w 5 0 == stream)
/-- What the program did not store of a chunk is copied from the committed bank: whole streams, and masked elements
(R293, R300). -/
def copyChunk (s : State) (p : PlanImage) (e : BitVec 512) (chunk : Nat) : State :=
  let v := s.fr.master.toNat
  (bankStreams e).foldl (fun s k =>
    let size := streamSize e k
    if storesStream (programOf p e) k then
      (List.range (chunkSize e chunk)).foldl (fun s i =>
        if maskBit s p e v (4096 * chunk + i) then s
        else copyBank s p e (streamOffset e k + size * (4096 * chunk + i)) size) s
    else copyBank s p e (streamOffset e k + size * 4096 * chunk) (size * chunkSize e chunk)) s
/-- The sums of the ratio monitor for a group whose chunks are written (R330). -/
def groupRatio (s : State) (p : PlanImage) (e : BitVec 512) : State :=
  if setting s 0x00040104 % 2 = 0 then s
  else
    let v := s.fr.master.toNat
    let elems := (List.range (gpElements e)).filter (fun i => maskBit s p e v i)
    let old := fun (i : Nat) => masterOf s v (gpNumber e) i
    let new := fun (i : Nat) => masterOf s (v + 1) (gpNumber e) i
    let d := reduceF32 (elems.map (fun i => let x := rto (fSub (new i) (old i)); rto (fMul x x)))
    let w := reduceF32 (elems.map (fun i => rto (fMul (old i) (old i))))
    { s with
      upd.ratioD := tset 0 s.upd.ratioD (gpNumber e) (toF32 .odd d),
      upd.ratioW := tset 0 s.upd.ratioW (gpNumber e) (toF32 .odd w) }
/-- A group whose last chunk is folded: its roots, its area's digests, and its ratio sums. -/
def finishGroup (s : State) (p : PlanImage) (e : BitVec 512) : State :=
  if chunksFolded s e then groupRatio (digestArea (finishRoots s p e) p e) p e else s
/-- A chunk of a group's pass is done: in the last pass what was not stored is copied and the chunk is folded (R309). -/
def completeChunk (s : State) (p : PlanImage) (e : BitVec 512) (pass chunk : Nat) : State :=
  if pass = lastPass (programOf p e) then finishGroup (digestChunk (copyChunk s p e chunk) p e chunk) p e else s
/-- Engine k's next chunk of the group, or its next group (R301: chunk k goes to engine k mod 8). -/
def nextChunk (s : State) (p : PlanImage) (k : Nat) (w : EngineWork) : State :=
  if w.chunk + 8 < groupChunks (workGroup p w) then
    modEngine s k (fun e => { e with work := some { w with chunk := w.chunk + 8, pc := 0, batch := 0 }, vectors := [] })
  else enterGroup s p k w.pass (w.group + 1)
/-- UPDATE_CHUNK_COMPLETE (R309). -/
def execUpdateChunkComplete (st : StackId) (en : Fin 8) (cyc : Nat) (s : State) : Result :=
  let s := atCycle s cyc
  let k := 8 * st.val + en.val
  match updPlan s, (engineOf s k).work with
  | some p, some w =>
    if chunkDone p w then .next (nextChunk (completeChunk s p (workGroup p w) w.pass w.chunk) p k w) else .next s
  | _, _ => .next s

/-! ### The scan (R299) and the rerun (R313) -/

/-- Whether a group's unmasked gradients hold a NaN or an infinity. -/
def gradientBad (s : State) (p : PlanImage) (e : BitVec 512) : Bool :=
  let v := s.fr.master.toNat
  (List.range (gpElements e)).any (fun i =>
    maskBit s p e v i &&
    !(ofBf16 (BitVec.ofNat 16 (natLE (hbmBytes s (engAddr p (gpGradRegion e) (gpGradBase e + 2 * i) v) 2)))).isFinite)
/-- The alternate bank of a group as an exact copy of its committed bank, with its digests (R299). -/
def copyGroup (s : State) (p : PlanImage) (e : BitVec 512) : State :=
  let s := (bankStreams e).foldl (fun s k => copyBank s p e (streamOffset e k) (streamSize e k * gpElements e)) s
  let s := if gpPrecond e = 0 then s else copyBank s p e (areaStart e) (areaLength e)
  digestArea ((List.range (groupChunks e)).foldl (fun s c => digestChunk s p e c) s) p e
/-- The scan of every group and its decision. -/
def scanGradients (s : State) (p : PlanImage) : State :=
  let s := p.update.groups.foldl (fun s e =>
    let a := engAddr p (gpGradRegion e) (gpGradBase e) s.fr.master.toNat
    stackRead (enginePoison s a (2 * gpElements e)) (devStack a) (64 * (linesOf a (2 * gpElements e)).length)) s
  let bad := p.update.groups.any (gradientBad s p)
  let s := { s with upd.scanned := true, upd.skipped := bad }
  if bad then p.update.groups.foldl (fun s e => copyGroup s p e) (raise s 0x0440 unitPackage noLevel [])
  else (List.range 64).foldl (fun s k => enterGroup s p k 1 0) s
/-- UPDATE_SCAN: once per attempt. -/
def execUpdateScan (s : State) : Result :=
  match updPlan s with
  | some p => if s.upd.scanned then .next s else .next (scanGradients s p)
  | none => .next s

/-- An instruction word on engine k (R295, R296). -/
def runWord (s : State) (k : Nat) (w : Word) : State :=
  let d := bitsOf w 25 21
  let a := bitsOf w 20 16
  let b := bitsOf w 15 11
  let c := bitsOf w 10 6
  let imm := bitsOf w 5 0
  match bitsOf w 31 26 with
  | 0x01 => loadStream s k d imm
  | 0x02 => storeStream s k imm a
  | 0x03 => moveOp s k d (fun e l => laneReg e l a)
  | 0x04 => aluOp s k d (fun e l => fAdd (laneVal e l a) (laneVal e l b))
  | 0x05 => aluOp s k d (fun e l => fSub (laneVal e l a) (laneVal e l b))
  | 0x06 => aluOp s k d (fun e l => fMul (laneVal e l a) (laneVal e l b))
  | 0x07 => aluOp s k d (fun e l => fAdd (fMul (laneVal e l a) (laneVal e l b)) (laneVal e l c))
  | 0x08 => aluOp s k d (fun e l => fDiv (laneVal e l a) (laneVal e l b))
  | 0x09 => aluOp s k d (fun e l => fSqrt fp32 .odd (laneVal e l a))
  | 0x0A => aluOp s k d (fun e l => fRsqrt fp32 .odd (laneVal e l a))
  | 0x0B => aluOp s k d (fun e l => fExp fp32 .odd (laneVal e l a))
  | 0x0C => aluOp s k d (fun e l => fLn fp32 .odd (laneVal e l a))
  | 0x0D => aluOp s k d (fun e l => fMax (laneVal e l a) (laneVal e l b))
  | 0x0E => aluOp s k d (fun e l => fMin (laneVal e l a) (laneVal e l b))
  | 0x0F => aluOp s k d (fun e l => fAbs (laneVal e l a))
  | 0x10 => moveOp s k d (fun e l => if (laneVal e l c).isZero then laneReg e l b else laneReg e l a)
  | 0x11 => aluOp s k d (fun e l => if fLt (laneVal e l a) (laneVal e l b) then .one else .zero)
  | 0x12 => addRed s k imm a
  | _ => s
/-- One group's pass on engine k, run to its end. -/
def runGroupPass (s : State) (p : PlanImage) (k pass pos : Nat) : State :=
  let e := p.update.groups.getD pos 0
  let code := passOf (programOf p e) pass
  let s := modEngine s k (fun _ => startedEngine s p pos pass (k % 8))
  let s := code.1.foldl (fun s w => runWord s k w) s
  (List.range ((groupChunks e + 7 - k % 8) / 8)).foldl (fun s j =>
    let chunk := k % 8 + 8 * j
    let s := (List.range ((chunkSize e chunk + 63) / 64)).foldl (fun s b =>
      let s := modEngine s k (fun en =>
        { en with work := some { group := pos, pass := pass, inBody := true, pc := 0, chunk := chunk, batch := b }, vectors := [] })
      code.2.foldl (fun s w => runWord s k w) s) s
    completeChunk s p e pass chunk) s
/-- A pass over all groups, each on the engines of its stack that have a chunk of it. -/
def runPassAll (s : State) (p : PlanImage) (pass : Nat) : State :=
  (List.range p.update.groups.length).foldl (fun s pos =>
    let e := p.update.groups.getD pos 0
    if hasPass (programOf p e) pass then
      (List.range (min 8 (groupChunks e))).foldl (fun s en => runGroupPass s p (8 * gpStack e + en) pass pos) s
    else s) s
/-- UPDATE_REDO: the survivors' rerun, whole: the scan, the passes, the root jobs and the digest (R313). -/
def execUpdateRedo (s : State) : Result :=
  match updPlan s with
  | some p =>
    if s.upd.abandoned ∧ s.upd.redo then
      let s := scanGradients
        { s with
          upd.engines := [], upd.reds := [], upd.chunkDigests := [], upd.ratioD := [], upd.ratioW := [] } p
      if s.upd.skipped then .next s
      else
        let s := runPassAll (runPassAll s p 1) p 2
        .next { s with upd.engines := [] }
    else .next s
  | none => .next s

/-! ### The instructions as commands (R296) -/

/-- The number of an engine: 8·stack + engine. -/
def engineNo (st : StackId) (en : Fin 8) : Nat := 8 * st.val + en.val
/-- A residue mismatch of an update engine's multiplier or adder (R297): L1, EV-0230, charged to its stack (log 23). -/
def engineResidue (s : State) (st : StackId) (en : Fin 8) (res : Option ResidueErr) : State :=
  match res with
  | none => s
  | some r =>
    let gen := runningGen s
    let s := noteExc s gen none
      (excEntry s 3 0 0 1 0 0 5 (r.stage % 65536 + st.val * 2 ^ 16 + en.val * 2 ^ 19) r.predicted r.observed)
    raiseCharged (failCheck s gen 0x0230 (unitStack st.val)) 0x0230 (unitStack st.val) 1 [] 1 true
/-- The effect of an instruction, its check, and the engine's next instruction. -/
def issued (s : State) (st : StackId) (en : Fin 8) (res : Option ResidueErr) : State :=
  advance (engineResidue s st en res) (engineNo st en)

/-- NOP. -/
def execNop (st : StackId) (en : Fin 8) (s : State) : Result := .next (issued s st en none)
/-- LDS. -/
def execLds (st : StackId) (en : Fin 8) (d : Fin 32) (stream : Fin 8) (cyc : Nat) (s : State) : Result :=
  .next (issued (loadStream (atCycle s cyc) (engineNo st en) d.val stream.val) st en none)
/-- STS. -/
def execSts (st : StackId) (en : Fin 8) (stream : Fin 8) (a : Fin 32) (s : State) : Result :=
  .next (issued (storeStream s (engineNo st en) stream.val a.val) st en none)
/-- MOV. -/
def execMov (st : StackId) (en : Fin 8) (d : Fin 32) (a : Fin 32) (s : State) : Result :=
  .next (issued (moveOp s (engineNo st en) d.val (fun e l => laneReg e l a.val)) st en none)
/-- ADD. -/
def execAdd (st : StackId) (en : Fin 8) (d : Fin 32) (a : Fin 32) (b : Fin 32) (res : Option ResidueErr) (s : State) : Result :=
  .next (issued (aluOp s (engineNo st en) d.val (fun e l => fAdd (laneVal e l a.val) (laneVal e l b.val))) st en res)
/-- SUB. -/
def execSub (st : StackId) (en : Fin 8) (d : Fin 32) (a : Fin 32) (b : Fin 32) (res : Option ResidueErr) (s : State) : Result :=
  .next (issued (aluOp s (engineNo st en) d.val (fun e l => fSub (laneVal e l a.val) (laneVal e l b.val))) st en res)
/-- MUL. -/
def execMul (st : StackId) (en : Fin 8) (d : Fin 32) (a : Fin 32) (b : Fin 32) (res : Option ResidueErr) (s : State) : Result :=
  .next (issued (aluOp s (engineNo st en) d.val (fun e l => fMul (laneVal e l a.val) (laneVal e l b.val))) st en res)
/-- FMA, one rounding. -/
def execFma (st : StackId) (en : Fin 8) (d : Fin 32) (a : Fin 32) (b : Fin 32) (c : Fin 32) (res : Option ResidueErr)
    (s : State) : Result :=
  .next (issued (aluOp s (engineNo st en) d.val
    (fun e l => fAdd (fMul (laneVal e l a.val) (laneVal e l b.val)) (laneVal e l c.val))) st en res)
/-- DIV. -/
def execDiv (st : StackId) (en : Fin 8) (d : Fin 32) (a : Fin 32) (b : Fin 32) (res : Option ResidueErr) (s : State) : Result :=
  .next (issued (aluOp s (engineNo st en) d.val (fun e l => fDiv (laneVal e l a.val) (laneVal e l b.val))) st en res)
/-- SQRT. -/
def execSqrt (st : StackId) (en : Fin 8) (d : Fin 32) (a : Fin 32) (s : State) : Result :=
  .next (issued (aluOp s (engineNo st en) d.val (fun e l => fSqrt fp32 .odd (laneVal e l a.val))) st en none)
/-- RSQRT. -/
def execRsqrt (st : StackId) (en : Fin 8) (d : Fin 32) (a : Fin 32) (s : State) : Result :=
  .next (issued (aluOp s (engineNo st en) d.val (fun e l => fRsqrt fp32 .odd (laneVal e l a.val))) st en none)
/-- EXP. -/
def execExp (st : StackId) (en : Fin 8) (d : Fin 32) (a : Fin 32) (s : State) : Result :=
  .next (issued (aluOp s (engineNo st en) d.val (fun e l => fExp fp32 .odd (laneVal e l a.val))) st en none)
/-- LN. -/
def execLn (st : StackId) (en : Fin 8) (d : Fin 32) (a : Fin 32) (s : State) : Result :=
  .next (issued (aluOp s (engineNo st en) d.val (fun e l => fLn fp32 .odd (laneVal e l a.val))) st en none)
/-- MAX. -/
def execMax (st : StackId) (en : Fin 8) (d : Fin 32) (a : Fin 32) (b : Fin 32) (s : State) : Result :=
  .next (issued (aluOp s (engineNo st en) d.val (fun e l => fMax (laneVal e l a.val) (laneVal e l b.val))) st en none)
/-- MIN. -/
def execMin (st : StackId) (en : Fin 8) (d : Fin 32) (a : Fin 32) (b : Fin 32) (s : State) : Result :=
  .next (issued (aluOp s (engineNo st en) d.val (fun e l => fMin (laneVal e l a.val) (laneVal e l b.val))) st en none)
/-- ABS. -/
def execAbs (st : StackId) (en : Fin 8) (d : Fin 32) (a : Fin 32) (s : State) : Result :=
  .next (issued (aluOp s (engineNo st en) d.val (fun e l => fAbs (laneVal e l a.val))) st en none)
/-- SEL: a NaN c selects a. -/
def execSel (st : StackId) (en : Fin 8) (d : Fin 32) (a : Fin 32) (b : Fin 32) (c : Fin 32) (s : State) : Result :=
  .next (issued (moveOp s (engineNo st en) d.val
    (fun e l => if (laneVal e l c.val).isZero then laneReg e l b.val else laneReg e l a.val)) st en none)
/-- CMPLT. -/
def execCmplt (st : StackId) (en : Fin 8) (d : Fin 32) (a : Fin 32) (b : Fin 32) (s : State) : Result :=
  .next (issued (aluOp s (engineNo st en) d.val
    (fun e l => if fLt (laneVal e l a.val) (laneVal e l b.val) then .one else .zero)) st en none)
/-- RED. -/
def execRed (st : StackId) (en : Fin 8) (slot : Fin 4) (a : Fin 32) (s : State) : Result :=
  .next (issued (addRed s (engineNo st en) slot.val a.val) st en none)

end Sys2Proof.Machine
end

