-- ==== Sys2Proof/Machine/Numerics.lean ====
section
/-!
DEFINITION. Sys2Proof/Machine/Numerics.lean: the running scales (R316 to R322), the loss scale (R323 to R325), the scale block and
cold starts (R326 to R328), the monitors (R329 to R332) and fall-back requests (R333, R334, R339).
-/
namespace Sys2Proof.Machine
open Sys2Proof

/-! ### Scales (R318, R319) -/

/-- A positive rational rounded toward +∞ to FP32's 24 significant bits. -/
def roundUp (x : Rat) : Rat :=
  if x ≤ 0 then 0
  else
    let u := pow2 (floorLog2 x - 23)
    let q := x / u
    (if ((q.floor : Int) : Rat) = q then q else ((q.floor : Int) : Rat) + 1) * u
/-- The smallest power of two at or above a positive rational. -/
def upPow2 (x : Rat) : Rat := let p := pow2 (floorLog2 x); if x ≤ p then p else 2 * p
/-- A scale within its limits, rounded up to a power of two where the scale asks for it (R318). -/
def limitScale (isPow2 : Bool) (t : Rat) : Word :=
  let lo := pow2 (-126)
  let t := if t ≤ lo then lo else if isPow2 then upPow2 t else t
  let hi := pow2 127
  toF32 .nearestEven (.fin (if hi < t then hi else t))
/-- The value of a finite FP32 word. -/
def ratOf (w : Word) : Rat := (ofF32 w).rat
/-- The larger of two nonnegative FP32 words. -/
def maxWord (a b : Word) : Word := if a.toNat < b.toNat then b else a
/-- The headroom in force: four times the setting in warm-up (R318, R328). -/
def headroom (s : State) (warm : Bool) : Rat :=
  (((setting s 0x00040101 : Nat) : Int) : Rat) / 16 * (if warm then 4 else 1)
/-- The estimate from which the scale in force during plan frame p was computed (R318). -/
def basisIn (e : ScaleEntry) (p : Nat) : Word :=
  (((e.scheduled.filter (fun x => decide (x.1 ≤ p))).getLast?).map (fun x => x.2.2)).getD e.basis
/-- The update of R318 on an entry, with the basis of the scale in force during the observed plan frame. -/
def updateScale (e : ScaleEntry) (o : Observation) (basis : Word) (h : Rat) (n : Nat) : ScaleEntry :=
  let est : Word :=
    if !e.observed ∧ o.quantised then o.maxAll
    else if o.overflow then
      maxWord e.estimate (maxWord (toF32 .odd (.fin (2 * ratOf basis))) (toF32 .odd (.fin (ratOf o.maxAll / 256))))
    else toF32 .odd (.fin (ratOf e.estimate + (ratOf o.maxIn - ratOf e.estimate) * pow2 (-(n : Int))))
  { e with
    estimate := est, observed := e.observed || o.quantised,
    latest := limitScale e.pow2 (roundUp (h * ratOf est / 127)),
    maxIn := if o.quantised then o.maxIn else e.maxIn, maxAll := if o.quantised then o.maxAll else e.maxAll,
    overflows := if o.overflow then satTo 65535 (e.overflows + 1) else e.overflows }
/-- Whether an observation takes the overflow branch: a correction (R319). -/
def corrects (e : ScaleEntry) (o : Observation) : Bool := !(!e.observed && o.quantised) && o.overflow
/-- A layer's word. -/
def layerOf (s : State) (l : Nat) : LayerWord := tget LayerWord.zero s.num.layers l
/-- Changing a layer's word. -/
def modLayer (s : State) (l : Nat) (f : LayerWord → LayerWord) : State :=
  { s with num.layers := tmod LayerWord.zero s.num.layers l f }
/-- Applying an observation of plan frame p to a scale: the result is in force from p + 3 (R319). -/
def applyObservation (s : State) (index p : Nat) (warm : Bool) (o : Observation) : State :=
  let h := headroom s warm
  let n := setting s 0x00040102
  { s with num.scales := tmod ScaleEntry.zero s.num.scales index (fun e =>
      let e := updateScale e o (basisIn e p) h n
      { e with scheduled := e.scheduled ++ [(p + 3, e.latest, e.estimate)] }) }
/-- The values in force from the tick that begins plan frame q: the latest scheduled at or before it (R316). Those of the last four
plan frames are kept for the observations that are still to come (R318). -/
def enterScale (q : Nat) (e : ScaleEntry) : ScaleEntry :=
  let due := e.scheduled.filter (fun x => decide (x.1 ≤ q))
  let e := match due.getLast? with
    | some x => { e with scale := x.2.1, basis := x.2.2 }
    | none => e
  { e with scheduled := e.scheduled.filter (fun x => !(e.scheduled.any (fun y => decide (x.1 < y.1) && decide (y.1 + 4 ≤ q)))) }
/-- The tick that begins a plan frame puts the scheduled scales in force. -/
def scalesTick (s : State) (q : Nat) : State := { s with num.scales := s.num.scales.map (fun x => (x.1, enterScale q x.2)) }

/-! ### Shared scales (R320) -/

/-- The current members of a shared scale's set: every rank whose list holds the tensor with shared set. -/
def sharingSet (s : State) (tensor : Nat) : List Nat :=
  match s.plan.loaded with
  | none => []
  | some p => (jobMembers s).filter (fun r =>
      ((rankBlock p r).map (fun b => b.numerics.any (fun e => nmTensor e == tensor && nmShared e && nmIsScale e))).getD false)
/-- The combination of observations. -/
def combine (a b : Observation) : Observation :=
  { maxIn := maxWord a.maxIn b.maxIn, maxAll := maxWord a.maxAll b.maxAll, overflow := a.overflow || b.overflow,
    quantised := a.quantised || b.quantised }
/-- The observations at hand of an index in a plan frame. -/
def sharedObs (s : State) (index p : Nat) : List SharedObs := s.num.sharedIn.filter (fun x => x.index == index && x.frame == p)
/-- Whether every current member of a shared index's set has reported on a plan frame. -/
def sharedWhole (s : State) (index p : Nat) : Bool :=
  match scaleEntryOf s index with
  | none => true
  | some e => (sharingSet s (nmTensor e)).all (fun r => (sharedObs s index p).any (fun x => x.rank == r))
/-- Applying the combined observation of an index and plan frame once it is whole; ranks that observed nothing add nothing. -/
def settleShared (s : State) (index p : Nat) : State :=
  let own := s.plan.rank.getD 0
  let obs := sharedObs s index p
  if sharedWhole s index p && obs.any (fun x => x.rank == own) then
    let warm := obs.any (fun x => x.rank == own && x.warm)
    let o := obs.foldl (fun a x => combine a x.obs) Observation.none
    let s := { s with num.sharedIn := s.num.sharedIn.filter (fun x => !(x.index == index && x.frame == p)) }
    if o.quantised || o.overflow then
      let s' := applyObservation s index p warm o
      if corrects (tget ScaleEntry.zero s.num.scales index) o then raise s' 0x0422 unitPackage noLevel [1] else s'
    else s
  else s
/-- Settling every whole shared observation, in plan order. -/
def settleAllShared (s : State) : State :=
  let keys := (s.num.sharedIn.map (fun x => (x.frame, x.index))).eraseDups.mergeSort (fun a b => decide (a.1 ≤ b.1))
  keys.foldl (fun s k => settleShared s k.2 k.1) s
/-- SCALE_OBSERVATION (R320): another rank's observation arrives. -/
def execScaleObservation (rank : Rank) (planFrame : Word) (index : Half) (maxIn maxAll : Word) (overflow quantised : Bool)
    (s : State) : Result :=
  let o : SharedObs :=
    { rank := rank.val, warm := false, frame := planFrame.toNat, index := index.toNat,
      obs := { maxIn := maxIn, maxAll := maxAll, overflow := overflow, quantised := quantised } }
  if s.link.expelled.contains rank.val then .next s
  else .next (settleAllShared { s with num.sharedIn := s.num.sharedIn ++ [o] })
/-- Whether shared observations of plan frame p are incomplete: an incomplete operation of p + 2 (R320). -/
def sharedLate (s : State) (p : Nat) : Bool := s.num.sharedIn.any (fun x => decide (x.frame ≤ p) && x.rank == s.plan.rank.getD 0)

/-! ### Monitors (R331, R332) -/

/-- A monitor record in the ring of 32,768. -/
def monitorRecord (s : State) (kind layer id : Nat) (value threshold : Word) (count : Nat) : State :=
  let r : MonitorRecord := { kind := kind, layer := layer, id := id, frame := now s, step := s.fr.step.toNat, value := value,
                             threshold := threshold, count := count }
  let ring := s.num.ring ++ [r]
  { s with num.ring := ring.drop (ring.length - 32768), num.head := (s.num.head + 1) % 32768 }
/-- The flag of one share: a record and EV-0451 (R331, R332). -/
def shareFlag (s : State) (kind tensor c n theta : Nat) : State :=
  if theta * n < c * 65536 then
    let value := toF32 .nearestEven (.fin (((c : Int) : Rat) / ((n : Int) : Rat)))
    let bound := toF32 .nearestEven (.fin (((theta : Int) : Rat) / 65536))
    raise (monitorRecord s kind 0 tensor value bound n) 0x0451 unitPackage noLevel []
  else s
/-- Adding a committed frame's shares, and judging the window at its last plan frame. -/
def commitShares (s : State) (f : PlanFrame) : State :=
  let on := decide (2 ≤ setting s 0x00040104)
  let w := setting s 0x00040105
  let base := if f.index % w = 0 then [] else s.num.shares
  let whole := if f.index % w = 0 then on else s.num.windowWhole && on
  let add := fun (t : Table ShareCounts) (x : Nat × ShareCounts) => tmod ShareCounts.zero t x.1 (fun c =>
    { n := c.n + x.2.n, zeros := c.zeros + x.2.zeros, sat := c.sat + x.2.sat, nf := c.nf + x.2.nf })
  let s := { s with num.shares := if on then f.num.shares.foldl add base else base, num.windowWhole := whole }
  if f.index % w = w - 1 ∧ whole then
    let s := s.num.shares.foldl (fun s x =>
      if x.2.n = 0 then s
      else
        let s := shareFlag s 3 x.1 x.2.zeros x.2.n (setting s 0x00040108)
        let s := shareFlag s 4 x.1 x.2.sat x.2.n (setting s 0x00040109)
        shareFlag s 5 x.1 x.2.nf x.2.n (setting s 0x0004010A)) s
    { s with num.shares := [] }
  else s
/-- The flags of the update-to-weight ratio at a flip (R330). -/
def ratioFlags (s : State) : State :=
  if setting s 0x00040104 % 2 = 0 ∨ s.upd.skipped then s
  else
    s.upd.ratioW.foldl (fun s x =>
      let d := ofF32 (tget 0 s.upd.ratioD x.1)
      let w := ofF32 x.2
      let r := if d.isZero then FVal.zero else if w.isZero then .inf false else roundTo fp32 .odd (fSqrt fp32 .odd (rto (fDiv d w)))
      let rw := toF32 .odd r
      let hi : Word := BitVec.ofNat 32 (setting s 0x00040106)
      let lo : Word := BitVec.ofNat 32 (setting s 0x00040107)
      let s := { s with upd.ratios := tset 0 s.upd.ratios x.1 rw }
      let s := if fLt (ofF32 hi) r then raise (monitorRecord s 1 0 x.1 rw hi 0) 0x0450 unitPackage noLevel [] else s
      if lo ≠ 0 ∧ fLt r (ofF32 lo) then raise (monitorRecord s 2 0 x.1 rw lo 0) 0x0450 unitPackage noLevel [] else s) s

/-! ### Fall-back requests (R333) and the commit -/

/-- Triggering fall-back for a layer at the commit of plan frame p. -/
def triggerLayer (s : State) (p layer : Nat) : State :=
  let w := layerOf s layer
  if 0 < w.warmup then s
  else
    let upto := p + 2 + setting s 0x0004010C
    let inForce := decide (p < w.toFrame) && decide (w.fromFrame ≤ w.toFrame) && decide (0 < w.toFrame)
    let s := modLayer s layer (fun w => { w with fromFrame := if inForce then w.fromFrame else p + 3, toFrame := max upto w.toFrame })
    if inForce then s else raise (monitorRecord s 6 layer 0 0 0 0) 0x0421 unitPackage noLevel []
/-- The tensors whose outliers exceed 1/256 of the elements quantised (R103), with both counts. -/
def flaggedTensors (f : PlanFrame) : List (Nat × Nat × Nat) :=
  f.num.outliers.filterMap (fun x =>
    let n := tget 0 f.num.elements x.1
    if n < 256 * x.2 then some (x.1, x.2, n) else none)
/-- The layers of a flagged tensor: those of the scales that its quantise operations name. -/
def tensorLayers (s : State) (t : Template) (tensor : Nat) : List Nat :=
  ((t.descs.filter (fun d => dsClass d == 8 && dsTensor d == tensor)).filterMap
    (fun d => (scaleEntryOf s (qtScale d)).map nmLayer)).eraseDups
/-- The numerics of a committed plan frame (R318, R328, R331, R333), in that order. -/
def commitNumerics (s : State) (f : PlanFrame) : State :=
  let warm := fun (index : Nat) => decide (0 < (layerOf s ((scaleEntryOf s index).map nmLayer |>.getD 0)).warmup)
  let obs := f.num.obs
  let shared := (numericsList s).filter (fun e => nmIsScale e && nmShared e)
  let corrected := obs.countP (fun x =>
    !(shared.any (fun e => nmIndex e == x.1)) && corrects (tget ScaleEntry.zero s.num.scales x.1) x.2)
  let own := s.plan.rank.getD 0
  let s1 := obs.foldl (fun s' x =>
    if shared.any (fun e => nmIndex e == x.1) then s' else applyObservation s' x.1 f.index (warm x.1) x.2) s
  let mine := fun (e : BitVec 128) => (SharedObs.mk own (warm (nmIndex e)) f.index (nmIndex e) (tget Observation.none obs (nmIndex e)))
  let outs := if f.phase = 2 then [] else shared.map mine
  let s1 := settleAllShared { s1 with num.sharedIn := s1.num.sharedIn ++ outs, num.sharedOut := outs }
  let s1 := if 0 < corrected then raise s1 0x0422 unitPackage noLevel [corrected] else s1
  let overLayers := ((obs.filter (fun x => x.2.overflow)).filterMap (fun x => (scaleEntryOf s x.1).map nmLayer)).eraseDups
  let s1 := overLayers.foldl (fun s l => modLayer s l (fun w => { w with overflowFrames := satTo 65535 (w.overflowFrames + 1) })) s1
  let flagLayers := match frameTemplate s f with
    | some t => (flaggedTensors f).flatMap (fun x => tensorLayers s t x.1)
    | none => []
  let s1 := (overLayers ++ flagLayers).eraseDups.foldl (fun s l => triggerLayer s f.index l) s1
  let seen := ((obs.filter (fun x => x.2.quantised)).filterMap (fun x => (scaleEntryOf s x.1).map nmLayer)).eraseDups
  let s1 := seen.foldl (fun s l => modLayer s l (fun w => { w with warmup := w.warmup - 1 })) s1
  commitShares s1 f

/-! ### The loss scale (R323 to R325) -/

/-- The loss scale after a flip, by the skipped bits of its reports (R324). -/
def lossFlip (s : State) (skipped : Bool) : State :=
  if skipped then
    let low := s.num.lossExp = 0
    let s := { s with
      num.lossExp := s.num.lossExp - 1, num.lossClean := 0, num.lossHalvedLast := true,
      num.lossHalvings := satTo (2 ^ 32 - 1) (s.num.lossHalvings + 1) }
    let value := toF32 .nearestEven (.fin (pow2 (s.num.lossExp : Int)))
    if low then raise (monitorRecord s 10 0 0 value 0 0) 0x0443 unitPackage noLevel []
    else raise (monitorRecord s 9 0 0 value 0 0) 0x0442 unitPackage noLevel []
  else
    let clean := s.num.lossClean + 1
    if setting s 0x00040103 ≤ clean then
      { s with num.lossExp := min 32 (s.num.lossExp + 1), num.lossClean := 0, num.lossHalvedLast := false }
    else { s with num.lossClean := clean, num.lossHalvedLast := false }
/-- The loss word (R325). -/
def lossWord (s : State) : Nat :=
  s.num.lossExp + bitNat s.num.lossCold * 2 ^ 6 + min s.num.lossClean 65535 * 2 ^ 7 + bitNat s.num.lossHalvedLast * 2 ^ 23 +
    s.num.lossHalvings * 2 ^ 32
/-- The fields of a loss word taken on restore. -/
def setLossWord (s : State) (w : Nat) : State :=
  { s with
    num.lossExp := w % 64, num.lossCold := w / 2 ^ 6 % 2 == 1, num.lossClean := w / 2 ^ 7 % 65536,
    num.lossHalvedLast := w / 2 ^ 23 % 2 == 1, num.lossHalvings := w / 2 ^ 32 % 2 ^ 32 }

/-! ### Tables and blocks (R322, R326, R327, R339) -/

/-- A scale table entry's 32 bytes (R322). -/
def scaleBytes (e : ScaleEntry) : List Byte :=
  bytesLE 4 e.scale.toNat ++ bytesLE 4 e.estimate.toNat ++ bytesLE 4 e.latest.toNat ++ bytesLE 4 e.maxIn.toNat ++
  bytesLE 4 e.maxAll.toNat ++ bytesLE 2 e.overflows ++
  bytesLE 2 (e.layer + bitNat e.observed * 2 ^ 8 + bitNat e.cold * 2 ^ 9 + bitNat e.shared * 2 ^ 10 + bitNat e.pow2 * 2 ^ 11) ++
  bytesLE 4 e.tensor.toNat ++ bytesLE 4 e.basis.toNat
/-- A layer word (R339); `q` is the running plan frame. -/
def layerWord (w : LayerWord) : Nat :=
  w.warmup + bitNat w.requested * 2 ^ 7 + min w.hold 4096 * 2 ^ 8 + bitNat w.granted * 2 ^ 21 + bitNat w.refused * 2 ^ 22 +
    min w.refusedRun 15 * 2 ^ 23 + w.overflowFrames * 2 ^ 32
/-- A monitor record's 32 bytes (R332). -/
def monitorBytes (r : MonitorRecord) : List Byte :=
  bytesLE 4 (r.kind + r.layer * 2 ^ 8) ++ bytesLE 4 r.id ++ bytesLE 8 (r.frame % 2 ^ 48) ++ bytesLE 4 r.step ++
  bytesLE 4 r.value.toNat ++ bytesLE 4 r.threshold.toNat ++ bytesLE 4 r.count
/-- The scale block of a checkpoint (R326). -/
def scaleBlock (s : State) : List Byte :=
  let es := s.num.scales.map Prod.snd
  let body := [0x5A, 0x4B, 0x4E, 0x53] ++ bytesLE 4 es.length ++ bytesLE 8 s.fr.step.toNat ++ bytesLE 8 (lossWord s) ++ bytesLE 8 0 ++
    (List.range 256).flatMap (fun l => bytesLE 8 (layerWord (layerOf s l))) ++
    es.flatMap (fun e => bytesLE 4 e.tensor.toNat ++ bytesLE 4 e.estimate.toNat ++ bytesLE 4 e.basis.toNat ++
      bytesLE 4 (bitNat e.observed + 2 * bitNat e.shared))
  body ++ sha256 body
/-- An entry as the numerics list declares it, before any value (R315). -/
def listedEntry (e : BitVec 128) : ScaleEntry :=
  { ScaleEntry.zero with layer := nmLayer e, shared := nmShared e, pow2 := nmPow2 e, tensor := BitVec.ofNat 32 (nmTensor e) }
/-- A cold entry (R327). -/
def coldEntry (s : State) (e : BitVec 128) : ScaleEntry :=
  let x := ratOf (nmInitial e)
  let est := toF32 .odd (.fin (127 * x / headroom s false))
  let v := limitScale (nmPow2 e) (4 * x)
  { listedEntry e with estimate := est, basis := est, cold := true, scale := v, latest := v, scheduled := [(0, v, est)] }
/-- An entry that carries an estimate on (R326, R327): the scale in force is the one that its basis gives (R322). -/
def carriedEntry (s : State) (e : BitVec 128) (estimate basis : Word) (observed : Bool) (warm : Bool) : ScaleEntry :=
  let value := fun (x : Word) => limitScale (nmPow2 e) (roundUp (headroom s warm * ratOf x / 127))
  { listedEntry e with
    estimate := estimate, basis := basis, observed := observed, scale := value basis, latest := value estimate,
    scheduled := [(0, value basis, basis)] }
/-- Starting cold in every scale, in the loss scale and in every layer, with EV-0423 (R327). -/
def startCold (s : State) : State :=
  let es := (numericsList s).filter nmIsScale
  let s := { s with
    num.scales := es.foldl (fun t e => tset ScaleEntry.zero t (nmIndex e) (coldEntry s e)) [],
    num.lossExp := 16, num.lossCold := true, num.lossClean := 0, num.lossHalvedLast := false, num.lossHalvings := 0,
    num.layers := (List.range 256).map (fun l => (l, { LayerWord.zero with warmup := 64 })) }
  raise (monitorRecord s 8 0 0 0 0 0) 0x0423 unitPackage noLevel []
/-- Scales carried over by tensor; a tensor without an entry starts cold with its layer in warm-up (R327). `old` gives the
estimate, basis and observed bit of a tensor. -/
def carryScales (s : State) (old : Nat → Option (Word × Word × Bool)) (warm : Nat → Nat) : State :=
  let es := (numericsList s).filter nmIsScale
  let fresh := es.filter (fun e => (old (nmTensor e)).isNone)
  let layers := (List.range 256).foldl (fun t l =>
    let w := if fresh.any (fun e => nmLayer e == l) then 64 else warm l
    tset LayerWord.zero t l { LayerWord.zero with warmup := w }) []
  { s with
    num.scales := es.foldl (fun t e => tset ScaleEntry.zero t (nmIndex e)
      (match old (nmTensor e) with
       | some (a, b, o) => carriedEntry s e a b o (decide (0 < (tget LayerWord.zero layers (nmLayer e)).warmup))
       | none => coldEntry s e)) [],
    num.layers := layers }
/-- A plan boundary without a restart: the running table's values carry over by tensor (R327). -/
def carryOver (s : State) : State :=
  let table := s.num.scales.map Prod.snd
  let layers := s.num.layers
  let s := carryScales s
    (fun t => (table.find? (fun e => e.tensor.toNat == t)).map (fun e => (e.estimate, e.basis, e.observed)))
    (fun l => (tget LayerWord.zero layers l).warmup)
  { s with num.lossCold := false, num.lossHalvings := 0 }
/-- Restoring a scale block of a checkpoint of a step, or starting cold where it is missing or does not check (R326, R327). -/
def restoreBlock (s : State) (block : List Byte) (step : Nat) : State :=
  let at4 := fun (o : Nat) => natLE ((block.drop o).take 4)
  let n := at4 4
  let body := block.take (0x820 + 16 * n)
  if block.take 4 = [0x5A, 0x4B, 0x4E, 0x53] ∧ block.length = 0x840 + 16 * n ∧ sha256 body = block.drop (0x820 + 16 * n) ∧
      natLE ((block.drop 8).take 8) = step then
    let entry := fun (t : Nat) => ((List.range n).find? (fun k => at4 (0x820 + 16 * k) == t)).map (fun k =>
      ((BitVec.ofNat 32 (at4 (0x824 + 16 * k)) : Word), (BitVec.ofNat 32 (at4 (0x828 + 16 * k)) : Word), at4 (0x82C + 16 * k) % 2 == 1))
    let s := carryScales s entry (fun l => at4 (0x20 + 8 * l) % 128)
    setLossWord s (natLE ((block.drop 16).take 8))
  else startCold s

end Sys2Proof.Machine
end

