-- ==== Sys2Proof/Machine/Checkpoint.lean ====
section
/-!
DEFINITION. Sys2Proof/Machine/Checkpoint.lean: version digests (R309, R310), buddy checkpoints (R377 to R379), restores and fills
(R435 to R440).
-/
namespace Sys2Proof.Machine
open Sys2Proof

/-! ### Version digests (R309, R310) -/

/-- Where a group's bank holds a range: region, offset, and device address. -/
abbrev BankAddr := Nat → Nat → Nat
/-- A group digest over a bank (R310). -/
def groupDigest (s : State) (e : BitVec 512) (version : Nat) (addr : BankAddr) : List Byte :=
  let base := fun (off n : Nat) => hbmBytes s (addr (gpBankRegion e) (gpBankBase e + off)) n
  let chunk := fun (k : Nat) (bytes : List Byte) =>
    sha256 ([0x5A, 0x4B, 0x57, 0x43] ++ bytesLE 4 (gpNumber e) ++ bytesLE 4 k ++ bytesLE 4 version ++ bytes)
  let elems := (List.range (groupChunks e)).map (fun c => chunk c ((bankStreams e).flatMap (fun k =>
    base (streamOffset e k + streamSize e k * 4096 * c) (streamSize e k * chunkSize e c))))
  let area := (List.range (areaLength e / 16384)).map (fun k => chunk (0x80000000 + k) (base (areaStart e + 16384 * k) 16384))
  sha256 (elems ++ area).flatten
/-- The message of a version digest from its group digests (R310). -/
def versionMessage (version count : Nat) (groups : List (List Byte)) : List Byte :=
  sha256 ([0x5A, 0x4B, 0x57, 0x56] ++ bytesLE 4 version ++ bytesLE 4 count ++ bytesLE 4 groups.length ++ groups.flatten)
/-- The version digest of a bank, recomputed from its bytes. -/
def versionDigest (s : State) (p : PlanImage) (version count : Nat) (addr : BankAddr) : List Byte :=
  versionMessage version count (p.update.groups.map (fun e => groupDigest s e version addr))
/-- The version digest that the engines' chunk digests give (R310). -/
def foldedDigest (s : State) (p : PlanImage) (version count : Nat) : List Byte :=
  versionMessage version count (p.update.groups.map (fun e =>
    let lo := digestKey (gpNumber e) 0
    let hi := digestKey (gpNumber e + 1) 0
    sha256 (((s.upd.chunkDigests.filter (fun x => decide (lo ≤ x.1) && decide (x.1 < hi))).map Prod.snd).flatten)))
/-- Whether every chunk digest of the new version is there. -/
def digestComplete (s : State) (p : PlanImage) : Bool :=
  p.update.groups.all (fun e => chunksFolded s e &&
    (List.range (areaLength e / 16384)).all (fun k => (tfind s.upd.chunkDigests (digestKey (gpNumber e) (0x80000000 + k))).isSome))
/-- A ring entry's 64 bytes (R310). -/
def ringBytes (r : RingEntry) : List Byte :=
  bytesLE 4 r.version.toNat ++ bytesLE 4 r.count.toNat ++ bytesLE 2 r.groups ++ bytesLE 1 (bitNat r.skipped + 2 * bitNat r.redo) ++
  List.replicate 21 0 ++ r.digest

/-! ### Slots and images (R377, R435) -/

/-- The bytes of a region in a checkpoint image: one bank of a kind 8 region, each region on a 4 KiB boundary. -/
def imagePart (e : BitVec 128) : Nat := align4K (if rgKind e = 8 then rgLength e / 2 else rgLength e)
/-- The checkpoint set's regions, by index (R435). -/
def ckptRegions (p : PlanImage) : List Nat := ckRegions p.ckptHeader
/-- Where a region's bytes begin in the image. -/
def imageOffset (p : PlanImage) (region : Nat) : Nat :=
  (((ckptRegions p).takeWhile (· != region)).map (fun r => ((p.regions[r]?).map imagePart).getD 0)).foldl (· + ·) 0
/-- The image's length. -/
def imageLength (p : PlanImage) : Nat := ((ckptRegions p).map (fun r => ((p.regions[r]?).map imagePart).getD 0)).foldl (· + ·) 0
/-- The slot of a kind 9 region that holds a device address (log 27: two slots halve the region). -/
def slotBase (p : PlanImage) (e : BitVec 128) (a : Nat) : Nat :=
  let size := rgLength e / max 1 (ckSlots p.ckptHeader)
  rgAddr e + (a - rgAddr e) / size * size
/-- Writing the state field of a slot's header (R377). -/
def setSlotState (s : State) (slot v : Nat) : State :=
  let w := natLE (hbmBytes s (slot + 8) 8)
  let w := w - w / 2 ^ 42 % 256 * 2 ^ 42 + v * 2 ^ 42
  writeHbm s .plain (slot + 8) (bytesLE 8 w) noPoison
/-- Fields of a slot header: version, count, origin, state and digest. -/
def slotVersion (s : State) (slot : Nat) : Nat := natLE (hbmBytes s (slot + 4) 4)
def slotCount (s : State) (slot : Nat) : Nat := natLE (hbmBytes s (slot + 8) 4)
def slotState (s : State) (slot : Nat) : Nat := natLE (hbmBytes s (slot + 8) 8) / 2 ^ 42 % 256
def slotDigest (s : State) (slot : Nat) : List Byte := hbmBytes s (slot + 32) 32
/-- The slot of a checkpoint is complete: state 2 and EV-0520 where its digest matches, else state 0 and EV-0521 (R379). -/
def finishSlot (s : State) (p : PlanImage) (slot : Nat) : State :=
  let d := versionDigest s p (slotVersion s slot) (slotCount s slot) (fun r off => slot + 0x1000 + imageOffset p r + off)
  if d = slotDigest s slot then raise (setSlotState s slot 2) 0x0520 unitPackage noLevel []
  else raise (setSlotState s slot 0) 0x0521 unitPackage noLevel []

/-! ### Arriving transfers -/

/-- The length of a scale block whose first bytes are given (R326). -/
def blockLength (head : List Byte) : Nat := 0x840 + 16 * natLE ((head.drop 4).take 4)
/-- The transfer of a kind at a base. -/
def transferOf (s : State) (kind base : Nat) : Transfer :=
  (s.link.transfers.find? (fun t => t.kind == kind && t.base == base)).getD
    { kind := kind, base := base, bytes := 0, head := [], tail := [] }
/-- Keeping a transfer, or dropping it when it has ended. -/
def setTransfer (s : State) (t : Transfer) : State :=
  { s with link.transfers := t :: s.link.transfers.filter (fun x => !(x.kind == t.kind && x.base == t.base)) }
def dropTransfer (s : State) (t : Transfer) : State :=
  { s with link.transfers := s.link.transfers.filter (fun x => !(x.kind == t.kind && x.base == t.base)) }
/-- A transfer with more bytes: the first 64, and those after the image. -/
def growTransfer (p : PlanImage) (t : Transfer) (bytes : List Byte) : Transfer :=
  let after := 64 + imageLength p
  { t with
    bytes := t.bytes + bytes.length, head := (t.head ++ bytes).take 64,
    tail := t.tail ++ bytes.drop (after - t.bytes) }
/-- Bytes of a buddy checkpoint at a slot: receiving until the last, then judged (R379). -/
def receiveSlot (s : State) (p : PlanImage) (slot : Nat) (bytes : List Byte) : State :=
  let t := growTransfer p (transferOf s 5 slot) bytes
  let s := setSlotState s slot 1
  let block := slot + 0x1000 + imageLength p
  if 64 + imageLength p + 8 ≤ t.bytes ∧ 64 + imageLength p + blockLength (hbmBytes s block 8) ≤ t.bytes then
    finishSlot (dropTransfer s t) p slot
  else setTransfer s t
/-- Bytes of a restore into bank 0: judged under the header's version, with the scale block (R438). -/
def receiveRestore (s : State) (p : PlanImage) (bytes : List Byte) : State :=
  let t := growTransfer p (transferOf s 5 0) bytes
  if 8 ≤ t.tail.length ∧ blockLength t.tail ≤ t.tail.length then
    let version := natLE ((t.head.drop 4).take 4)
    let d := versionDigest s p version (natLE ((t.head.drop 8).take 4)) (fun r off => engAddr p r off 0)
    let s := restoreBlock (dropTransfer s t) (t.tail.take (blockLength t.tail)) version
    if d = t.head.drop 32 then s else takeL3 s 0x0256 unitPackage []
  else setTransfer s t
/-- Bytes of a fill into the committed bank, behind the source's ring entry (R440). -/
def receiveFill (s : State) (p : PlanImage) (bytes : List Byte) : State :=
  let t := growTransfer p (transferOf s 4 0) bytes
  if 64 + imageLength p ≤ t.bytes then
    let d := versionDigest s p (natLE (t.head.take 4)) (natLE ((t.head.drop 4).take 4)) (fun r off => engAddr p r off s.fr.master.toNat)
    let s := dropTransfer s t
    if d = t.head.drop 32 then s else takeL3 s 0x0257 unitPackage []
  else setTransfer s t
/-- Bytes delivered by an entry of kind 4 or 5 to a region. -/
def receiveTransfer (s : State) (p : PlanImage) (kind region a : Nat) (bytes : List Byte) : State :=
  match p.regions[region]? with
  | none => s
  | some e =>
    if kind = 5 then
      if rgKind e = 9 then receiveSlot s p (slotBase p e a) bytes
      else if (ckptRegions p).contains region then receiveRestore s p bytes else s
    else if kind = 4 ∧ (ckptRegions p).contains region then receiveFill s p bytes else s

end Sys2Proof.Machine
end

