-- ==== Sys2Proof/Machine/Link.lean ====
section
/-!
DEFINITION. Sys2Proof/Machine/Link.lean: the Vorran links (R341 to R364, R380 to R383): group streams, retry, control flits, receipt
with poison and deferral, lane failure and degrade, and lane quality.
-/
namespace Sys2Proof.Machine
open Sys2Proof

/-! ### Slot lists and positions (R352, R353) -/

/-- A rank's slot list of a plan position and direction, with its template and iteration. -/
def slotListAt (s : State) (rank pos d : Nat) : Option (List (BitVec 256) × Template × Nat) :=
  match s.plan.loaded with
  | none => none
  | some p => match seqAt p pos, rankBlock p rank with
    | some (k, i), some b =>
      let t := sqTemplate (seqEntry p k)
      (b.templates[t]?).map (fun tp => (b.slots.getD (6 * t + d) [], tp, i))
    | _, _ => none
/-- The plan position whose slots run: while a failed frame replays, those of the frame after it (R136). -/
def slotPos (s : State) : Option Nat :=
  s.fr.running.map (fun f => if f.replay ∧ !s.fr.late then f.index + 1 else f.index)
/-- The list that this package transmits in a direction, and the list it receives on the group of a direction. -/
def txList (s : State) (d : Nat) : List (BitVec 256) :=
  match s.plan.rank, slotPos s with
  | some r, some q => ((slotListAt s r q d).map Prod.fst).getD []
  | _, _ => []
def rxListAt (s : State) (d pos : Nat) : Option (List (BitVec 256) × Template × Nat) :=
  match neighbour s d with
  | some n => slotListAt s n pos (if d % 2 = 0 then d + 1 else d - 1)
  | none => none
/-- Whether a link has a position at a flit time (R345, R353). -/
def hasPosition (s : State) (l t : Nat) : Bool :=
  let w := (linkOf s l).width
  w == 2 || (w == 1 && t % 2 == 0)
/-- The package transmits no slots of its own in a held counter frame that its plan frame began before, but for the entries that
make it late (R137, R263, R267, R356). -/
def slotsRun (s : State) : Bool :=
  match s.fr.running with
  | none => false
  | some f => (decide (f.started = now s) && !f.replay) || s.fr.late
/-- The next flit of a stream that may start at a flit time. -/
def nextFlit (list : List (BitVec 256)) (entry flit t : Nat) (late : Bool) : Option (Nat × Nat × BitVec 256) :=
  match list[entry]? with
  | none => none
  | some e => if flit < slFlits e then (if slEarliest e ≤ t ∨ late then some (entry, flit, e) else none)
    else match list[entry + 1]? with
      | none => none
      | some e' => if slEarliest e' ≤ t ∨ late then some (entry + 1, 0, e') else none
/-- Progress of an entry. -/
def entryOf (t : Table EntryProgress) (e : Nat) : EntryProgress := tget EntryProgress.zero t e
/-- Changing the progress of an entry. -/
def modEntry (t : Table EntryProgress) (e : Nat) (f : EntryProgress → EntryProgress) : Table EntryProgress :=
  tmod EntryProgress.zero t e f
/-- Counting on a link. -/
def countLink (s : State) (l : Nat) (f : LinkCounters → LinkCounters) : State :=
  modLink s l (fun k => { k with counters := f k.counters })

/-! ### Operands of entries -/

/-- Where an entry's operand lies in its template's iteration; a kind 8 region is read and written through the bank that the
entry's kind names (R378, R438, R440), else through the bank view. -/
def slotPlace (s : State) (kind : Nat) (source : Bool) (tp : Template) (iter : Nat) (w : DWord) : Place :=
  let off := oprAt tp w iter
  match oprSpace w with
  | 1 | 2 => .tile (oprUnit w) off
  | 3 =>
    match s.plan.loaded.bind (fun p => (p.regions[oprUnit w]?).map (fun e => (p, e))) with
    | none => .none
    | some (p, e) =>
      if rgKind e = 8 ∧ (kind = 4 ∨ kind = 5) then
        .hbm (engAddr p (oprUnit w) off (if source ∨ kind = 4 then s.fr.master.toNat else 0))
      else .hbm (bankAddr s ((s.fr.running.map PlanFrame.view).getD s.fr.master) (rgAddr e + off))
  | _ => .none
/-- The payload of flit k of an entry, with the poison bits of its ten words (R344, R348). -/
def flitPayload (s : State) (e : BitVec 256) (tp : Template) (iter k : Nat) : List Byte × Nat :=
  let n := min 640 (slBytes e - 640 * k)
  let p := (slotPlace s (slKind e) true tp iter (slSource e)).plus (640 * k)
  let words := (List.range 10).filter (fun j => 64 * j < n && !((placeMarks s (p.plus (64 * j)) (min 64 (n - 64 * j))).isEmpty))
  (placeBytes s p n ++ List.replicate (640 - n) 0, words.foldl (fun acc j => acc + 2 ^ j) 0)

/-! ### Transmission (R353, R354, R357, R358, R360, R371) -/

/-- A flit that arrived uncorrectable, was not acknowledged or sat on a link that went down: queued for retry, or abandoned
after its third failed retry (R358, R360). -/
def failFlit (g : GroupState) (r : FlitRec) : GroupState :=
  let g := { g with buffer := g.buffer.erase r }
  if 3 ≤ r.tries then { g with abandoned := g.abandoned ++ [r] } else { g with queue := g.queue ++ [r] }
/-- An acknowledged flit leaves the retry buffer and counts towards its entry. -/
def ackFlit (list : List (BitVec 256)) (g : GroupState) (r : FlitRec) : GroupState :=
  { g with
    buffer := g.buffer.erase r,
    tx := modEntry g.tx r.entry (fun p =>
      { p with acked := p.acked + 1, done := p.done || decide ((list[r.entry]?).map slFlits = some (p.acked + 1)) }) }
/-- Recording a flit on the wire and counting its payload (R513). -/
def putWire (s : State) (d : Nat) (f : TxFlit) : State :=
  portBytes (modGroup s d (fun g => { g with wire := g.wire ++ [f] })) (2 + 2 * linkAt d f.member) 640
/-- The first C0 message whose route leaves in a direction. -/
def nextMessage (s : State) (d : Nat) : Option C0Message :=
  match s.plan.loaded, s.plan.rank with
  | some p, some r => s.link.messages.find? (fun m => routeDir p r m.dest.val == some d)
  | _, _ => none
/-- The C0 payload of a control flit: one message. -/
def takeMessage (s : State) (d : Nat) : State × List Byte :=
  match nextMessage s d with
  | some m => ({ s with link.messages := s.link.messages.erase m }, m.bytes)
  | none => (s, [])
/-- One link's control flit: its retry list, up to 8 sync events, and a C0 message (R347). -/
def controlFlitOn (s : State) (d m t : Nat) : State :=
  let l := linkAt d m
  let g := groupOf s d
  let dead := g.abandoned.take 21
  let list := g.queue.take (21 - dead.length)
  let events := (s.link.forward.filter (fun f => f.links.contains l)).take 8
  let s := modGroup s d (fun g =>
    { g with
      abandoned := g.abandoned.drop 21, queue := g.queue.drop list.length,
      listed := g.listed ++ list.map (fun r => { r with member := m }) })
  let s := modGroup s d (fun g => dead.foldl (fun g r => ackFlit (txList s d) g r) g)
  let s := { s with link.forward := s.link.forward.map (fun f =>
    if events.contains f then { f with links := f.links.erase l } else f) }
  let s := countLink s l (fun c => { c with forwarded := c.forwarded + events.length })
  let x := takeMessage s d
  let s := modLink x.1 l (fun k => { k with nacks := k.nacks.drop 8 })
  putWire s d { member := m, time := t, kind := 2, entry := 0, flit := 0, payload := x.2, poison := 0 }
/-- A control position of a group: every link that is not down carries a control flit. -/
def controlPosition (s : State) (d t : Nat) : State :=
  let s := (List.range 8).foldl (fun s m => if hasPosition s (linkAt d m) t then controlFlitOn s d m t else s) s
  { s with link.forward := s.link.forward.filter (fun f => !f.links.isEmpty) }
/-- A retry flit on its link (R360): its payload is read again from the source, whose bytes the plan holds still (R354). -/
def sendRetry (s : State) (d t : Nat) (r : FlitRec) : State :=
  let data := match s.plan.rank.bind (fun own => slotListAt s own r.plan d) with
    | some (list, tp, i) => ((list[r.entry]?).map (fun e => flitPayload s e tp i r.flit)).getD ([], 0)
    | none => ([], 0)
  let r' := { r with time := t, frame := now s, tries := r.tries + 1 }
  let s := modGroup s d (fun g => { g with listed := g.listed.erase r, buffer := g.buffer ++ [r'] })
  let s := countLink s (linkAt d r.member) (fun c => { c with retrySent := c.retrySent + 1 })
  let s := raiseOnce s 1 0x0502 (unitLink (linkAt d r.member)) noLevel []
  putWire s d { member := r.member, time := t, kind := 3, entry := r.entry, flit := r.flit, payload := data.1, poison := data.2 }
/-- The next flit of the group stream on a link (R353): data, or a control flit in a position of a kind 3 entry. -/
def sendNext (s : State) (d m t : Nat) : State :=
  let g := groupOf s d
  match nextFlit (txList s d) g.txEntry g.txFlit t s.fr.late with
  | none => s
  | some (entry, flit, e) =>
    if 8192 ≤ g.buffer.length then s
    else
      let pos := (slotPos s).getD 0
      let s := modGroup s d (fun g => { g with txEntry := entry, txFlit := flit + 1, tx := modEntry g.tx entry (fun p => { p with sent := p.sent + 1 }) })
      if slKind e = 3 then
        let x := takeMessage s d
        let s := modGroup x.1 d (fun g => { g with tx := modEntry g.tx entry (fun p =>
          { p with acked := p.acked + 1, done := p.done || decide (slFlits e = p.acked + 1) }) })
        putWire s d { member := m, time := t, kind := 2, entry := entry, flit := flit, payload := x.2, poison := 0 }
      else
        let data := match s.plan.rank.bind (fun own => slotListAt s own pos d) with
          | some (_, tp, i) => flitPayload s e tp i flit
          | none => ([], 0)
        let r : FlitRec := { member := m, time := t, frame := now s, firstMember := m, firstTime := t, plan := pos, entry := entry,
                             flit := flit, tries := 0 }
        let s := modGroup s d (fun g => { g with buffer := g.buffer ++ [r] })
        putWire s d { member := m, time := t, kind := 1, entry := entry, flit := flit, payload := data.1, poison := data.2 }
/-- Whether the stream stands within an entry: an entry that has sent a flit runs to its completion (R136). -/
def midEntry (s : State) (d : Nat) : Bool :=
  let g := groupOf s d
  decide (0 < g.txFlit) && ((txList s d)[g.txEntry]?).any (fun e => decide (g.txFlit < slFlits e))
/-- A data position of a link: a retry flit that is due, else the next flit of the stream. -/
def dataPosition (s : State) (d m t : Nat) : State :=
  match (groupOf s d).listed.find? (fun r => r.member == m) with
  | some r => sendRetry s d t r
  | none => if slotsRun s || midEntry s d then sendNext s d m t else s
/-- SLOT_ENTRY_TRANSMIT (R353): one flit time of a group, its links in ascending member index. -/
def execSlotEntryTransmit (dir : Fin 6) (time : Fin 15620) (s : State) : Result :=
  let d := dir.val
  let t := time.val
  if t % 32 = 0 then .next (controlPosition s d t)
  else .next ((List.range 8).foldl (fun s m => if hasPosition s (linkAt d m) t then dataPosition s d m t else s) s)
/-- RETRY_TIMEOUT (R358): a flit not acknowledged within 1,000 flit times. -/
def execRetryTimeout (dir : Fin 6) (member : Fin 8) (time : Fin 15620) (previous : Bool) (s : State) : Result :=
  let frame := if previous then now s - 1 else now s
  match (groupOf s dir.val).buffer.find? (fun r => r.member == member.val && r.time == time.val && r.frame == frame) with
  | some r => .next (modGroup s dir.val (fun g => failFlit g r))
  | none => .next s

/-! ### Receipt (R348, R355, R360, R396) -/

/-- The bytes of a flit at their destination, poisoned words as poison; `lost` is a flit abandoned on this link, whose words are
in flight (R360). -/
def writeFlit (s : State) (l : Nat) (place : Place) (bytes : List Byte) (poison : Nat) (lost : Bool) : State :=
  let base := match place with
    | .tile t off => tileKey t off
    | .hbm a => a
    | .none => 0
  let size := match place with
    | .hbm _ => 64
    | _ => 32
  let bad := fun (u : Nat) =>
    (List.range 10).any (fun j => poison.testBit j && decide (base + 64 * j < u + size) && decide (u < base + 64 * j + 64))
  let mark := fun (u : Nat) => if lost ∨ bad u then some (3, l) else none
  let s := match place with
    | .tile t off => writeTile s none t off bytes mark
    | .hbm a =>
      let s := writeHbm s .plain a bytes mark
      { s with mem.planWrote := linesOf a bytes.length ++ s.mem.planWrote }
    | .none => s
  if lost then
    let gen := s.fr.running.map PlanFrame.gen
    let stamp := fun (t : Table PoisonMark) (u : Nat) => tput t u { gen := gen, origin := 3, number := l }
    match place with
    | .tile t off => { s with mem.tilePoison := (rowsOf (tileKey t off) bytes.length).foldl stamp s.mem.tilePoison }
    | .hbm a => { s with mem.hbmPoison := (linesOf a bytes.length).foldl stamp s.mem.hbmPoison }
    | .none => s
  else s
/-- A delivered kind 2 entry counts for the stack of its destination at the next commit point (R376). -/
def countGradient (s : State) (place : Place) : State :=
  match place with
  | .hbm a => { s with fr.running := s.fr.running.map (fun (f : PlanFrame) =>
      { f with gradients := tmod 0 f.gradients (devStack a) (· + 1) }) }
  | _ => s
/-- A flit of an entry reaches its destination, and its entry may be delivered (R355). -/
def deliverFlit (s : State) (l d pos entry flit : Nat) (payload : List Byte) (poison : Nat) (lost : Bool) : State :=
  match rxListAt s d pos with
  | none => s
  | some (list, tp, i) =>
    match list[entry]? with
    | none => s
    | some e =>
      let n := min 640 (slBytes e - 640 * flit)
      let place := slotPlace s (slKind e) false tp i (slDest e)
      let bytes := if lost then List.replicate n 0 else payload.take n
      let at' := place.plus (640 * flit)
      let s := writeFlit s l at' bytes poison lost
      let s := modGroup s d (fun g => { g with rx := modEntry g.rx entry (fun p =>
        { p with delivered := p.delivered + 1, done := p.done || decide (slFlits e = p.delivered + 1) }) })
      let s := if slKind e = 2 ∧ (entryOf (groupOf s d).rx entry).done then countGradient s place else s
      match at', s.plan.loaded with
      | .hbm a, some p => receiveTransfer s p (slKind e) (oprUnit (slDest e)) a bytes
      | _, _ => s
/-- A flit abandoned by its sender or after four deferrals: delivered poisoned, with EV-0503 (R360, R396). -/
def abandonFlit (s : State) (l : Nat) (r : FlitRec) : State :=
  let d := linkDir l
  let s := modGroup s d (fun g => { g with missing := g.missing.erase r })
  let s := countLink s l (fun c => { c with abandoned := c.abandoned + 1 })
  raise (deliverFlit s l d r.plan r.entry r.flit [] 1023 true) 0x0503 (unitLink l) noLevel []
/-- A lane fails, and its link with it (R362, R363): down, its unacknowledged flits queued for retry, EV-0511, charged to the
link. The link is tested at the first tick at least 20 µs (24,000 cycles) away. -/
def linkDown (s : State) (l : Nat) : State :=
  let d := linkDir l
  let s := modLink s l (fun k =>
    { k with width := 0, testTick := some (if s.fr.cycle + 24000 ≤ 120000 then now s + 1 else now s + 2) })
  modGroup s d (fun g => (g.buffer.filter (fun r => r.member == linkMember l)).foldl failFlit g)
def laneFail (s : State) (l lane : Nat) : State :=
  if (linkOf s l).failed.getLsbD lane then s
  else
    let s := modLink s l (fun k => { k with failed := k.failed ||| (1 <<< lane) })
    linkDown (raiseCharged s 0x0511 (unitLink l) noLevel [] 5 true) l
/-- The codeword counters and the lanes' runs of uncorrectable codewords (R342, R362, R381); a corrected codeword is an L0
correction (R361). -/
def countCodeword (s : State) (l : Nat) (o : FlitOutcome) : State :=
  let s := portBytes (countLink s l (fun c => { c with received := c.received + 1 })) (3 + 2 * l) 640
  let runs := fun (s : State) (f : Nat → Nat → Nat) => modLink s l (fun k =>
    { k with lanes := (List.range 4).foldl (fun t i => tmod LaneState.zero t i (fun a => { a with badRun := f i a.badRun })) k.lanes })
  match o with
  | .clean => runs s (fun _ _ => 0)
  | .corrected n =>
    correction (runs (countLink s l (fun c => { c with corrected := c.corrected + 1, symbols := c.symbols + n })) (fun _ _ => 0))
  | .uncorrectable lanes =>
    let s := countLink s l (fun c => { c with uncorrectable := c.uncorrectable + 1 })
    let s := runs s (fun i n => if lanes.getLsbD i then n + 1 else 0)
    (List.range 4).foldl (fun s i =>
      if 4 ≤ (tget LaneState.zero (linkOf s l).lanes i).badRun then laneFail s l i else s) s
/-- The acknowledgement state after a flit: clean or corrected up to a flit time, or a flit time listed as uncorrectable (log 26). -/
def ackArrival (s : State) (l t : Nat) (ok : Bool) : State :=
  modLink s l (fun k =>
    if ok then { k with ackHigh := t, ackPrev := false, ackValid := true } else { k with nacks := k.nacks ++ [(t, false)] })
/-- Whether the receiver holds the C2 credit of 10 cells that a flit needs (R396). -/
def creditFor (s : State) (l : Nat) : Bool := holdsCredits s (256 + l / 24) 2 (l % 24) 10
/-- A flit deferred for want of credit: listed for retry; the fourth time it is delivered poisoned (R396). -/
def deferFlit (s : State) (l t : Nat) (r : FlitRec) : State :=
  let key := r.firstTime + 16384 * r.firstMember
  let n := tget 0 (linkOf s l).deferred key + 1
  let s := modLake (ackArrival s l t false) (256 + l / 24) (fun q => { q with deferrals := q.deferrals + 1 })
  let s := raiseOnce s 1 0x0515 (unitLink l) noLevel []
  if 4 ≤ n then abandonFlit (modLink s l (fun k => { k with deferred := terase k.deferred key })) l r
  else modLink s l (fun k => { k with deferred := tset 0 k.deferred key n })
/-- A flit of the stream that arrived: deferred for want of credit, else delivered. -/
def takeFlit (s : State) (l t : Nat) (r : FlitRec) (payload : List Byte) (poison : Nat) : State :=
  if creditFor s l then
    let s := modGroup (ackArrival s l t true) (linkDir l) (fun g => { g with missing := g.missing.erase r })
    deliverFlit s l (linkDir l) r.plan r.entry r.flit payload poison false
  else deferFlit s l t r
/-- The stream's place after one flit. -/
def advanceRx (s : State) (d entry flit : Nat) : State := modGroup s d (fun g => { g with rxEntry := entry, rxFlit := flit + 1 })
/-- A data flit: the next flit of the far end's stream (R353). -/
def receiveData (s : State) (l t : Nat) (payload : List Byte) (poison : Nat) (ok : Bool) : State :=
  let d := linkDir l
  let g := groupOf s d
  let pos := (slotPos s).getD 0
  let list := ((slotPos s).bind (rxListAt s d)).map Prod.fst |>.getD []
  match nextFlit list g.rxEntry g.rxFlit t true with
  | none => ackArrival s l t ok
  | some (entry, flit, _) =>
    let r : FlitRec := { member := linkMember l, time := t, frame := now s, firstMember := linkMember l, firstTime := t, plan := pos,
                         entry := entry, flit := flit, tries := 0 }
    let s := modGroup (advanceRx s d entry flit) d (fun g => { g with missing := g.missing ++ [r] })
    if ok then takeFlit s l t r payload poison else ackArrival s l t false
/-- A retry flit: the next of the list that the link's latest control flit carried (R360). -/
def receiveRetry (s : State) (l t : Nat) (payload : List Byte) (poison : Nat) (ok : Bool) : State :=
  let d := linkDir l
  let c := linkMember l
  match (groupOf s d).expected.find? (fun x => x.1 == c) with
  | none => ackArrival s l t ok
  | some x =>
    let s := modGroup s d (fun g => { g with expected := g.expected.erase x })
    match (groupOf s d).missing.find? (fun r => r.firstMember == x.2.1 && r.firstTime == x.2.2) with
    | none => ackArrival s l t ok
    | some r =>
      if ok then
        let s := correction (countLink s l (fun c => { c with retryReceived := c.retryReceived + 1 }))
        takeFlit s l t r payload poison
      else ackArrival s l t false
/-- Whether a flit arrived clean or corrected. -/
def arrived (o : FlitOutcome) : Bool := match o with
  | .uncorrectable _ => false
  | _ => true
/-- FLIT_RECEIVE (R348). -/
def execFlitReceive (link : LinkId) (time : Fin 15620) (retry : Bool) (poison : BitVec 10) (payload : List Byte)
    (outcome : FlitOutcome) (cyc : Nat) (s : State) : Result :=
  let s := countCodeword (atCycle s cyc) link.val outcome
  if retry then .next (receiveRetry s link.val time.val payload poison.toNat (arrived outcome))
  else .next (receiveData s link.val time.val payload poison.toNat (arrived outcome))

/-! ### Control flits (R347, R350, R358 to R360) -/

/-- Acknowledgements for this end's own flits on the link: those up to ack_high, but for the flit times listed (R358). -/
def takeAcks (s : State) (l : Nat) (w : ControlWords) : State :=
  let d := linkDir l
  let m := linkMember l
  let list := txList s d
  let frameOf := fun (prev : Bool) => if prev then now s - 1 else now s
  let nacked := fun (r : FlitRec) => w.nacks.any (fun n => n.1 == r.time && frameOf n.2 == r.frame)
  let g := groupOf s d
  let failed := g.buffer.filter (fun r => r.member == m && nacked r)
  let acked := g.buffer.filter (fun r => r.member == m && !(nacked r) && w.ackValid &&
    (decide (r.frame < frameOf w.ackPrev) || (r.frame == frameOf w.ackPrev && decide (r.time ≤ w.ackHigh))))
  modGroup s d (fun g => acked.foldl (ackFlit list) (failed.foldl failFlit g))
/-- The far end's view of the group: a link it reports down has its flits queued for retry at once (R358, R363). -/
def takeView (s : State) (l : Nat) (w : ControlWords) : State :=
  w.view.zipIdx.foldl (fun s x =>
    let k := linkAt (linkDir l) x.2
    if x.1 = 0 ∧ ((linkOf s k).width = 1 ∨ (linkOf s k).width = 2) then linkDown s k else s) s
/-- The retry list: abandoned flits are delivered poisoned, the others will come as retry flits on this link. -/
def takeRetries (s : State) (l : Nat) (w : ControlWords) : State :=
  let d := linkDir l
  let c := linkMember l
  let s := modGroup s d (fun g =>
    { g with expected := g.expected.filter (fun x => x.1 != c) ++ (w.retries.filter (fun r => !r.2.2)).map (fun r => (c, r.1, r.2.1)) })
  (w.retries.filter (fun r => r.2.2)).foldl (fun s r =>
    match (groupOf s d).missing.find? (fun x => x.firstMember == r.1 && x.firstTime == r.2.1) with
    | some x => abandonFlit s l x
    | none => s) s
/-- Discovery: serial and link number against the rank table; a link that fails counts as down, with EV-0513 (R350). -/
def discover (s : State) (l : Nat) (w : ControlWords) : State :=
  match w.discovery, s.plan.loaded, neighbour s (linkDir l) with
  | some x, some p, some n =>
    let far := linkAt (if linkDir l % 2 = 0 then linkDir l + 1 else linkDir l - 1) (linkMember l)
    let s := modLink s l (fun k => { k with farRank := ((serialEntry p x.1).map rkRank).getD 0, farLink := x.2.val })
    if ((rankEntry p n).map rkSerial) = some x.1 ∧ x.2.val = far then modLink s l (fun k => { k with miscabled := false })
    else raise (modLink s l (fun k => { k with width := 0, miscabled := true })) 0x0513 (unitLink l) noLevel []
  | _, _, _ => s
/-- A sync event that a control flit carries: a flooded kind is received here; TICK and the ECHO kinds have commands of their
own, with the times that only their arrival gives. -/
def takeEvent (s : State) (l : Nat) (e : SyncEvent) : State :=
  match e.kind with
  | .tick | .echoReq | .echoReply => s
  | _ => receiveFlood s l e
/-- A C0 message that a control flit carries. -/
def takeC0 (s : State) (m : C0Message) : State :=
  if s.plan.rank = some m.dest.val then { s with link.delivered := s.link.delivered ++ [m] }
  else if s.link.expelled.contains m.dest.val then s
  else { s with link.messages := s.link.messages ++ [m] }
/-- A control flit in a position of a kind 3 entry takes that place of the stream (R352). -/
def takeC0Position (s : State) (l t : Nat) : State :=
  let d := linkDir l
  let g := groupOf s d
  let list := ((slotPos s).bind (rxListAt s d)).map Prod.fst |>.getD []
  if t % 32 = 0 then s
  else
    match nextFlit list g.rxEntry g.rxFlit t true with
    | some (entry, flit, e) =>
      if slKind e = 3 then
        modGroup (advanceRx s d entry flit) d (fun g => { g with rx := modEntry g.rx entry (fun p =>
          { p with delivered := p.delivered + 1, done := p.done || decide (slFlits e = p.delivered + 1) }) })
      else s
    | none => s
/-- CONTROL_FLIT (R347). -/
def execControlFlit (link : LinkId) (time : Fin 15620) (w : ControlWords) (outcome : FlitOutcome) (cyc : Nat) (s : State) : Result :=
  let l := link.val
  let s := takeC0Position (countCodeword (atCycle s cyc) l outcome) l time.val
  if arrived outcome then
    let s := takeRetries (takeView (takeAcks (discover s l w) l w) l w) l w
    let s := w.events.foldl (fun s e => takeEvent s l e) s
    .next (w.messages.foldl takeC0 s)
  else .next s

/-! ### Lanes (R362, R363, R382, R383) -/

/-- LANE_FAILURE (R362). -/
def execLaneFailure (link : LinkId) (lane : Fin 4) (cyc : Nat) (s : State) : Result :=
  .next (laneFail (atCycle s cyc) link.val lane.val)
/-- LANE_DEGRADE_RETRAIN (R363): at the tick after the test the link rejoins at half width on a pair without a failed lane,
lanes 0 and 1 first, or stays down. -/
def execLaneDegradeRetrain (link : LinkId) (failed : BitVec 4) (s : State) : Result :=
  let k := linkOf s link.val
  let f := k.failed ||| failed
  match k.testTick with
  | none => .next s
  | some t =>
    if now s < t + 1 then .next s
    else
      let low := !(f.getLsbD 0) && !(f.getLsbD 1)
      let high := !(f.getLsbD 2) && !(f.getLsbD 3)
      let s := modLink s link.val (fun k => { k with failed := f, testTick := none })
      if s.pin.linkref && (low || high) then
        .next (raise (modLink s link.val (fun k => { k with width := 1, pair := !low })) 0x0510 (unitLink link.val) noLevel [])
      else .next s
/-- A lane's figures within a threshold: error ratio at most, eye height (0.1 mV) and width (mUI) at least. -/
def laneWithin (a : LaneState) (ser : Rat) (height width : Nat) : Bool :=
  decide (ratOf a.ser ≤ ser) && decide (height ≤ a.height) && decide (width ≤ a.width)
/-- The three columns of R383. -/
def laneAdmitted (a : LaneState) : Bool := laneWithin a (1 / 1000000) 120 120
def laneSound (a : LaneState) : Bool := laneWithin a (1 / 1000000) 160 160
def laneFailed (a : LaneState) : Bool := !(laneWithin a (1 / 50000) 80 80)
/-- EYE_MEASUREMENT (R382, R383): the lane's figures are kept and judged. An admission, at training or at a plan boundary, brings
a link back to full width when every lane of it passes. -/
def execEyeMeasurement (link : LinkId) (lane : Fin 4) (height width : Half) (ser : Word) (admission : Bool) (s : State) : Result :=
  let l := link.val
  let s := modLink s l (fun k => { k with lanes := tmod LaneState.zero k.lanes lane.val (fun a =>
    { a with height := height.toNat, width := width.toNat, ser := ser }) })
  let a := tget LaneState.zero (linkOf s l).lanes lane.val
  if laneFailed a ∨ (admission ∧ !(laneAdmitted a)) then .next (laneFail s l lane.val)
  else
    let s := if laneSound a then s
      else modHealth (raiseCharged s 0x0514 (unitLink l) noLevel [] 5 false) (unitLink l) (fun r => { r with marginal := true })
    let k := linkOf s l
    let back := admission ∧ s.pin.linkref ∧ k.width ≠ 2 ∧ !k.miscabled ∧
      (List.range 4).all (fun i => laneAdmitted (tget LaneState.zero k.lanes i))
    if back then .next (modLink s l (fun k => { k with width := 2, pair := false, failed := 0, testTick := none })) else .next s
/-- LANE_TRAINING (R341, R499): the lanes of every link train, but for the links that do not; stage 5. -/
def execLaneTraining (down : List LinkId) (s : State) : Result :=
  if s.pin.stage = 4 then
    let s := (List.range 48).foldl (fun s l => modLink s l (fun k =>
      { k with width := if down.any (fun x => x.val == l) || !s.pin.linkref then 0 else 2, pair := false, failed := 0 })) s
    .next { s with pin.stage := 5 }
  else .next s

/-! ### Ticks and status (R359, R364, R380, R381) -/

/-- A tick on the links: what a frame acknowledged becomes the previous frame's, and EV-0512 once per frame and group below full
width while a plan runs. -/
def linksTick (s : State) : State :=
  let s := { s with
    link.links := s.link.links.map (fun x => (x.1, { x.2 with ackPrev := true })),
    link.groups := s.link.groups.map (fun x => (x.1, { x.2 with wire := [] })) }
  if s.plan.loaded.isSome ∧ planRuns s then
    (List.range 6).foldl (fun s d =>
      if (neighbour s d).isSome then
        match (List.range 8).find? (fun m => (linkOf s (linkAt d m)).width != 2) with
        | some m => raiseOnce s 1 0x0512 (unitLink (linkAt d m)) noLevel []
        | none => s
      else s) s
  else s
/-- The slots of a new plan frame begin: streams at their start (R353). -/
def slotsStart (s : State) : State :=
  { s with link.groups := s.link.groups.map (fun x => (x.1,
      { x.2 with txEntry := 0, txFlit := 0, tx := [], rxEntry := 0, rxFlit := 0, rx := [] })) }
/-- The groups whose lists hold an entry that is not complete (R356); an expelled neighbour's entries are complete (R432). -/
def incompleteGroups (s : State) : List Nat :=
  (List.range 6).filter (fun d =>
    match neighbour s d with
    | none => false
    | some n =>
      !(s.link.expelled.contains n) &&
      (txList s d).zipIdx.any (fun x => !((entryOf (groupOf s d).tx x.2).done)))
/-- Whether every entry that names a join on this package has been delivered (R355); in a replay they have been (R136). -/
def joinDelivered (s : State) (op : Nat) : Bool :=
  (s.fr.running.any (fun f => f.replay && !s.fr.late)) ||
  (List.range 6).all (fun d =>
    match (slotPos s).bind (rxListAt s d) with
    | none => true
    | some (list, _, _) => list.zipIdx.all (fun x => slJoin x.1 != op || (entryOf (groupOf s d).rx x.2).done))
/-- A link's status word (R380). -/
def linkWord (s : State) (l : Nat) : DWord :=
  let k := linkOf s l
  BitVec.ofNat 64 (k.width + bitNat k.pair * 2 ^ 2 + k.failed.toNat * 2 ^ 4 + bitNat k.miscabled * 2 ^ 8 +
    bitNat (s.link.parent == some l) * 2 ^ 9 + k.farRank * 2 ^ 16 + k.farLink * 2 ^ 26 + k.delay * 2 ^ 32)
/-- A link's counter block (R381). -/
def linkCounterBytes (k : LinkState) : List Byte :=
  let c := k.counters
  [c.received, c.corrected, c.symbols, c.uncorrectable, c.retrySent, c.retryReceived, c.abandoned, c.forwarded].flatMap (bytesLE 8) ++
  (List.range 4).flatMap (fun i =>
    let a := tget LaneState.zero k.lanes i
    bytesLE 2 a.height ++ bytesLE 2 a.width ++ bytesLE 4 a.ser.toNat)

end Sys2Proof.Machine
end

