-- ==== Sys2Proof/Machine/Txn.lean ====
section
/-!
DEFINITION. Sys2Proof/Machine/Txn.lean: settings and transactions (R274, R479, R480, R486 to R490).
-/
namespace Sys2Proof.Machine
open Sys2Proof

/-! ### Holding, staging and taking values -/

/-- The first counter frame whose tick follows a staging now by at least 20 µs (R486). -/
def nextTick (s : State) : Nat := if s.fr.cycle + 24000 ≤ 120000 then now s + 1 else now s + 2
/-- A transaction. -/
def txnOf (s : State) (id : Nat) : Option Txn := tfind s.eo.txns id
/-- Replacing a transaction. -/
def setTxn (s : State) (id : Nat) (t : Txn) : State := { s with eo.txns := tput s.eo.txns id t }
/-- The transaction that holds a setting: an open or committed one with a value of it that has not taken effect (R488). -/
def holderOf (s : State) (id : Nat) : Option Nat :=
  (s.eo.txns.find? (fun x => x.2.phase != .closed && (tfind x.2.pairs id).isSome)).map Prod.fst
/-- The effect kind of a setting. -/
def effectOf (id : Nat) : Option EffectKind := (settingRow id).map SettingRow.effect
/-- EV-0106 for a value of SETTING_SET that becomes live (R479). -/
def setEvent (s : State) (v : StagedValue) : State :=
  match v.req with
  | some r => changeEvent s r 0x0108
  | none => s
/-- Taking a transaction's values that have become live out of it; it closes with the last (R489). -/
def releaseTxn (s : State) (id : Nat) (gone : Nat → Bool) : State :=
  match txnOf s id with
  | none => s
  | some t =>
    let left := t.pairs.filter (fun x => !(gone x.1))
    setTxn s id { t with pairs := left, phase := if left.isEmpty then .closed else t.phase }
/-- The staged values of transactions that take effect at a plan boundary: EV-0107 with the number taken and the number that the
plan's settings override (R489). -/
def boundaryTxn (listed : List Nat) (s : State) (id : Nat) : State :=
  match txnOf s id with
  | none => s
  | some t =>
    let due := (t.pairs.filter (fun x => planBound x.1)).map Prod.fst
    if t.phase = .committed ∧ t.tickDone ∧ !due.isEmpty then
      let listedN := due.countP (fun i => listed.contains i)
      releaseTxn (raise s 0x0107 unitNone noLevel [due.length - listedN, listedN]) id planBound
    else s
/-- The staged values of plan-bound settings become live, but for those that the plan about to start lists (R271, R274). -/
def commitBoundary (s : State) (listed : List Nat) : State :=
  let due := s.eo.staged.filter (fun x => planBound x.1)
  let take := due.filter (fun x => !(listed.contains x.1))
  let s := { s with eo.staged := s.eo.staged.filter (fun x => !(planBound x.1)) }
  let s := take.foldl (fun s x => setEvent (setLive s x.1 x.2.value) x.2) s
  (tkeys s.eo.txns).foldl (boundaryTxn listed) s
/-- The bytes of settings as digests take them: identifier and value, ascending (R478). -/
def pairBytes (t : Table Word) : List Byte := t.flatMap (fun x => bytesLE 4 x.1 ++ bytesLE 4 x.2.toNat)
/-- A committed transaction at a tick at or after its target: tick settings become live, the others wait staged, and the final
response follows (R489). -/
def txnTick (t : Nat) (s : State) (id : Nat) : State :=
  match txnOf s id with
  | none => s
  | some x =>
    if x.phase = .committed ∧ !x.tickDone ∧ x.effect ≤ t then
      let ticks := x.pairs.filter (fun p => effectOf p.1 == some .tick)
      let rest := x.pairs.filter (fun p => effectOf p.1 != some .tick)
      let s := ticks.foldl (fun s p => setLive s p.1 p.2) s
      let s := setTxn s id { x with tickDone := true, commitReq := none }
      let s := { s with eo.staged := rest.foldl (fun m p => tput m p.1 { value := p.2, notBefore := t, txn := some id, req := none }) s.eo.staged }
      let s := releaseTxn s id (fun i => effectOf i == some .tick)
      match x.commitReq with
      | some r =>
        let s := { s with eo.opened := s.eo.opened.filter (fun c => !(c.opcode == 0x010B && c.req == r)) }
        let body := bytesLE 6 t ++ bytesLE 2 (rest.countP (fun p => planBound p.1))
        respond (changeEvent s r 0x010B) r 0x010B .ok true (readback 0x010B r.tag (pairBytes ticks)) body
      | none => s
    else s
/-- The settings at the tick that begins counter frame t (R486, R489). -/
def settingsTick (s : State) (t : Nat) : State :=
  let due := fun (x : Nat × StagedValue) => effectOf x.1 == some .tick && decide (x.2.notBefore ≤ t)
  let take := s.eo.staged.filter due
  let s := { s with eo.staged := s.eo.staged.filter (fun x => !(due x)) }
  let s := take.foldl (fun s x => setEvent (setLive s x.1 x.2.value) x.2) s
  (tkeys s.eo.txns).foldl (txnTick t) s
/-- Staged values of settings that wait for a reset take effect at it (R486). -/
def resetSettings (s : State) : State :=
  let due := fun (x : Nat × StagedValue) => effectOf x.1 == some .reset
  let take := s.eo.staged.filter due
  let s := { s with eo.staged := s.eo.staged.filter (fun x => !(due x)) }
  let s := take.foldl (fun s x => setLive s x.1 x.2.value) s
  (take.filterMap (fun x => x.2.txn)).foldl (fun s id => releaseTxn s id (fun i => effectOf i == some .reset)) s

/-! ### SETTING_GET and SETTING_SET (R480, R487) -/

/-- The value that SETTING_GET calls staged: of the transaction that holds the setting, or staged, or live. -/
def shownStaged (s : State) (id : Nat) : Nat :=
  match (holderOf s id).bind (fun t => (txnOf s t).bind (fun x => tfind x.pairs id)) with
  | some v => v.toNat
  | none => stagedSetting s id
/-- The 20 bytes of a setting (R480). -/
def settingBytes (s : State) (id : Nat) : List Byte :=
  let kind := match effectOf id with
    | some .tick => 1
    | some .boundary => 2
    | _ => 3
  let staged := (holderOf s id).isSome || (tfind s.eo.staged id).isSome
  bytesLE 4 id ++ bytesLE 4 (setting s id) ++ bytesLE 4 (shownStaged s id) ++ bytesLE 1 kind ++
    bytesLE 1 (bitNat staged + 2 * bitNat (settingIsLive s id)) ++ [0, 0] ++ bytesLE 4 ((holderOf s id).getD 0)
/-- SETTING_GET (R480). -/
def execSettingGet (r : Req) (ids : List Word) (s : State) : Result :=
  .next (serve s r 0x0107 (fun s =>
    if ids.length = 0 ∨ 1024 < ids.length then refuse s r 0x0107 .badLength
    else if ids.any (fun i => (settingRow i.toNat).isNone) then refuse s r 0x0107 .badField
    else answer s r 0x0107 (ids.flatMap (fun i => settingBytes s i.toNat))))
/-- Why a value may not be staged, if it may not: the identifier names nothing, or the value is outside its range. -/
def stageFault (id : Word) (value : Word) : Option Status :=
  match settingRow id.toNat with
  | none => some .badField
  | some row => if inRange row.range value then none else some .badValue
/-- SETTING_SET (R487). -/
def execSettingSet (r : Req) (id value : Word) (s : State) : Result :=
  .next (serve s r 0x0108 (fun s =>
    match stageFault id value with
    | some st => refuse s r 0x0108 st
    | none =>
      if settingIsLive s id.toNat then refuse s r 0x0108 .busyLive
      else if (holderOf s id.toNat).isSome then refuse s r 0x0108 .txnConflict
      else
        let v : StagedValue := { value := value, notBefore := nextTick s, txn := none, req := some r }
        acknowledged { s with eo.staged := tput s.eo.staged id.toNat v } r 0x0108 (pairBytes [(id.toNat, value)]) []))

/-! ### Transactions (R488 to R490) -/

/-- Open transactions. -/
def openTxns (s : State) : Nat := s.eo.txns.countP (fun x => x.2.phase == .opened)
/-- TXN_BEGIN (R488). -/
def execTxnBegin (r : Req) (s : State) : Result :=
  .next (serve s r 0x0109 (fun s =>
    if 4 ≤ openTxns s then refuse s r 0x0109 .busy
    else
      let id := s.eo.nextTxn
      let t : Txn := { owner := portOwner r.port, phase := .opened, pairs := [], effect := 0, tickDone := false, commitReq := none }
      acknowledged { setTxn s id t with eo.nextTxn := id + 1 } r 0x0109 (bytesLE 4 id) (bytesLE 4 id)))
/-- Serving a command on an open transaction of the requester. -/
def onTxn (s : State) (r : Req) (opcode : Nat) (txn : Word) (f : State → Nat → Txn → State) : State :=
  match txnOf s txn.toNat with
  | some t =>
    if t.phase ≠ .opened then refuse s r opcode .noTxn
    else if t.owner ≠ portOwner r.port then refuse s r opcode .notOwner else f s txn.toNat t
  | none => refuse s r opcode .noTxn
/-- The first fault of some pairs: identifiers, then values, then settings that another transaction holds. -/
def pairsFault (s : State) (id : Nat) (pairs : List (Word × Word)) : Option Status :=
  if pairs.any (fun p => stageFault p.1 p.2 == some .badField) then some .badField
  else if pairs.any (fun p => (stageFault p.1 p.2).isSome) then some .badValue
  else if pairs.any (fun p => (holderOf s p.1.toNat).any (fun h => h != id)) then some .txnConflict
  else none
/-- A table of pairs. -/
def pairTable (t : Table Word) (pairs : List (Word × Word)) : Table Word := pairs.foldl (fun t p => tput t p.1.toNat p.2) t
/-- TXN_STAGE (R488): whole or not at all. -/
def execTxnStage (r : Req) (txn : Word) (pairs : List (Word × Word)) (s : State) : Result :=
  .next (serve s r 0x010A (fun s => onTxn s r 0x010A txn (fun s id t =>
    if pairs.length = 0 ∨ 256 < pairs.length then refuse s r 0x010A .badLength
    else
      match pairsFault s id pairs with
      | some st => refuse s r 0x010A st
      | none =>
        let all := pairTable t.pairs pairs
        if 256 < all.length then refuse s r 0x010A .busy
        else acknowledged (setTxn s id { t with pairs := all }) r 0x010A (pairBytes (pairTable [] pairs)) [])))
/-- TXN_COMMIT (R489). -/
def execTxnCommit (r : Req) (txn : Word) (target : BitVec 48) (s : State) : Result :=
  .next (serveC s r 0x010B (fun s => onTxn s r 0x010B txn (fun s id t =>
    let f := target.toNat
    if f ≠ 0 ∧ (f ≤ nextTick s ∨ now s + 2 ^ 24 < f) then refuse s r 0x010B .badField
    else
      let t := { t with phase := .committed, effect := if f = 0 then nextTick s else f, commitReq := some r }
      accept (setTxn s id t) r 0x010B [id] (readback 0x010B r.tag (pairBytes t.pairs)))))
/-- A transaction that is discarded: its settings are released. -/
def dropTxn (s : State) (id : Nat) (t : Txn) : State := setTxn s id { t with phase := .closed, pairs := [] }
/-- TXN_ROLLBACK (R490). -/
def execTxnRollback (r : Req) (txn : Word) (s : State) : Result :=
  .next (serve s r 0x010C (fun s => onTxn s r 0x010C txn (fun s id t =>
    acknowledged (dropTxn s id t) r 0x010C (bytesLE 4 id) [])))
/-- The rollback that Eomet makes: EV-0108 (R490). -/
def rollbackTxn (s : State) (id : Nat) : State :=
  match txnOf s id with
  | some t => if t.phase = .opened then raise (dropTxn s id t) 0x0108 unitNone noLevel [] else s
  | none => s
/-- TXN_TIMEOUT (R490). -/
def execTxnTimeout (id : Word) (s : State) : Result := .next (rollbackTxn s id.toNat)
/-- The host's open transactions are rolled back (R470, R490). -/
def rollbackHost (s : State) : State :=
  (s.eo.txns.filter (fun x => x.2.owner == .host)).foldl (fun s x => rollbackTxn s x.1) s
/-- TXN_STATUS (R480): the owner's only. -/
def execTxnStatus (r : Req) (txn : Word) (s : State) : Result :=
  .next (serve s r 0x010D (fun s =>
    match txnOf s txn.toNat with
    | none => refuse s r 0x010D .noTxn
    | some t =>
      if t.owner ≠ portOwner r.port then refuse s r 0x010D .notOwner
      else
        let st := match t.phase with
          | .opened => 1
          | .committed => 2
          | .closed => 3
        answer s r 0x010D (bytesLE 1 st ++ bytesLE 2 t.pairs.length ++ bytesLE 6 t.effect)))

end Sys2Proof.Machine
end

