-- ==== Sys2Proof/Machine/Frame.lean ====
section
/-!
DEFINITION. Sys2Proof/Machine/Frame.lean: the plan's side of a tick: closing, beginning, holding and running late (R30 to R36, R134
to R138, R262 to R268), reservations and grants (R256, R257, R338), the version flip (R311 to R313, R428), expulsion and the
stop (R432 to R434), and plan boundaries (R271).
-/
namespace Sys2Proof.Machine
open Sys2Proof

/-! ### Templates, and what remains of a frame (R262, R356) -/

/-- The template of a plan position of this package. -/
def templateAt (s : State) (pos : Nat) : Option Template :=
  match s.plan.loaded, myBlock s with
  | some p, some b => (seqAt p pos).bind (fun x => b.templates[sqTemplate (seqEntry p x.1)]?)
  | _, _ => none
/-- Whether a template is cross-rank: some rank block's slot list of it holds an entry of kind 1 or 2 (R433). -/
def crossTemplate (p : PlanImage) (t : Nat) : Bool :=
  p.blocks.any (fun b => (List.range 6).any (fun d => (b.slots.getD (6 * t + d) []).any (fun e => slKind e == 1 || slKind e == 2)))
/-- Whether a plan position is cross-rank. -/
def crossAt (p : PlanImage) (pos : Nat) : Bool :=
  match seqAt p pos with
  | some (k, _) => crossTemplate p (sqTemplate (seqEntry p k))
  | none => false
/-- The tile of an operation of the run that has not completed. -/
def workLeft (s : State) (f : PlanFrame) : Option Nat :=
  (frameTemplate s f).bind (fun t => (t.descs.find? (fun d => !(f.completed.contains (dsIndex d)))).map dsTile)
/-- The unit whose work remains at the tick at which a plan frame is due to close, and the byte that LATE carries: a tile, a
link group (named by its lowest link), or the package where shared observations are missing (R262, R320, R356). -/
def lateUnit (s : State) (f : PlanFrame) : Option (UnitRef × Nat) :=
  match workLeft s f with
  | some t => some (unitTile t, t)
  | none =>
    match (incompleteGroups s).head? with
    | some d => some (unitLink (linkAt d 0), 0xF0 + d)
    | none => if 2 ≤ f.index ∧ sharedLate s (f.index - 2) then some (unitPackage, 0) else none

/-! ### Reservations and grants (R256, R257, R334, R338) -/

/-- Array slots that an MVM descriptor occupies. -/
def slotsOf (d : Desc) : Nat := mvVectors d * (if dsSplit d then 4 else 1)
/-- The spare slots of an array under a template, of one counter frame or of the two of a stretched frame (R256, R267). -/
def spareSlots (s : State) (t : Option Template) (k : Nat) : Nat :=
  let total := if s.fr.stretchSince.isSome then 3124 else 1562
  let ds := ((t.map Template.descs).getD []).filter (fun d => 16 * dsTile d + dsArray d == k)
  let used := (ds.map (fun d => if dsClass d = 1 then slotsOf d else if dsClass d = 5 then prSlots d else 0)).foldl (· + ·) 0
  total - used - (if holdsTest s (k / 16) then 16 else 0)
/-- Placing pending calibrations where 128 slots are spare (R187, R256). -/
def placeCalibrations (s : State) (t : Option Template) : State :=
  (mapArrays s).foldl (fun s k =>
    let a := arrOf s k
    if a.calPending ∧ !a.calPlaced ∧ !a.quarantined ∧ 128 ≤ spareSlots s t k then modArr s k (fun a => { a with calPlaced := true }) else s) s
/-- The further slots that a layer's second passes need on each array that runs it. -/
def layerNeeds (t : Template) (layer : Nat) : Table Nat :=
  (t.descs.filter (fun d => dsClass d == 1 && mvLayer d == layer && !dsSplit d && !dsReference d)).foldl
    (fun n d => tmod 0 n (16 * dsTile d + dsArray d) (· + mvVectors d)) []
/-- The layers granted, in ascending order until the first that cannot be: with the slots they reserve. -/
def grantLayers (s : State) (t : Template) : List Nat → Table Nat → List Nat
  | [], _ => []
  | l :: rest, used =>
    let need := layerNeeds t l
    let room := need.all (fun x =>
      decide (tget 0 used x.1 + x.2 + (if (arrOf s x.1).calPlaced then 128 else 0) ≤ spareSlots s (some t) x.1))
    if room then l :: grantLayers s t rest (need.foldl (fun u x => tmod 0 u x.1 (· + x.2)) used) else []
/-- The layers whose fall-back is requested for a plan frame. -/
def requestedLayers (s : State) (p : Nat) : List Nat :=
  (s.num.layers.filter (fun x => decide (0 < x.2.toFrame) && decide (x.2.fromFrame ≤ p) && decide (p ≤ x.2.toFrame))).map Prod.fst
/-- Asserting stretch (R267, R338): EV-0114, once. -/
def assertStretch (s : State) (pos : Nat) : State :=
  if s.fr.stretchAsked ∨ s.fr.stretchSince.isSome then s
  else
    let s := monitorRecord s 7 0 0 0 0 8
    flood { raise s 0x0114 unitPackage noLevel [] with fr.stretchAsked := true } .stretch (now s) pos
/-- Granting fall-back for the plan frame that begins: layer words, EV-0420 for refusals, and stretch after 8 in a row. -/
def grantFallback (s : State) (t : Template) (p : Nat) : State × List Nat :=
  let req := requestedLayers s p
  let auto := setting s 0x0004010B == 1
  let granted := if auto then grantLayers s t req [] else []
  let refused := if auto then req.filter (fun l => !(granted.contains l)) else []
  let s := { s with num.layers := s.num.layers.map (fun (x : Nat × LayerWord) =>
    (x.1, { x.2 with
      requested := req.contains x.1, hold := if req.contains x.1 then x.2.toFrame - p else 0, granted := granted.contains x.1,
      refused := refused.contains x.1, refusedRun := if refused.contains x.1 then satTo 15 (x.2.refusedRun + 1) else 0 })) }
  if refused.isEmpty then ({ s with num.refusedRuns := 0 }, granted)
  else
    let s := raise { s with num.refusedRuns := s.num.refusedRuns + 1 } 0x0420 unitPackage noLevel []
    (if 8 ≤ s.num.refusedRuns then assertStretch s p else s, granted)

/-! ### Beginning and closing a plan frame -/

/-- The placement of the update of a step. -/
def placementOf (p : PlanImage) (step : Nat) : Option UpdPlacement := p.update.placements[step]?
/-- Whether a plan position is an update frame of its step (R291). -/
def isUpdateFrame (p : PlanImage) (pos : Nat) : Bool :=
  (placementOf p (stepOf p pos)).any (fun x => decide (x.first.toNat ≤ pos) && decide (pos ≤ x.last.toNat))
/-- Beginning a plan position; `again` is the restart of a frame whose slots and prefetches are under way (R136, R263). -/
def beginFrame (s : State) (pos : Nat) (again : Bool) : State :=
  match s.plan.loaded with
  | none => s
  | some p =>
    match seqAt p pos with
    | none => { s with fr.running := none }
    | some (k, i) =>
      let e := seqEntry p k
      let step := stepOf p pos
      let g := s.fr.nextGen
      let f := newRun g pos step (sqPhase e) k i (now s) s.fr.master
      let s := { s with fr.nextGen := g + 1, fr.stretchSince := if s.fr.stretchAsked ∧ s.fr.stretchSince.isNone then some (now s) else s.fr.stretchSince }
      let s := scalesTick s pos
      let s := if isUpdateFrame p pos then takeSnapshot s g else s
      let s := if (p.steps[step]?).any (fun e => spLearning e == pos) then
          { s with num.snapshot := s.num.scales.map (fun x => (x.1, x.2.scale)), num.lossInForce := s.num.lossExp, upd.lostMembers := [] }
        else s
      let s := if again then s else slotsStart s
      match templateAt s pos with
      | none => { s with fr.running := some f }
      | some t =>
        let s := placeCalibrations s (some t)
        let (s, granted) := grantFallback s t pos
        grantTick { s with fr.running := some { f with fallback := granted } } t
/-- What a frame's close reports with its final counts (R55, R89, R96, R102, R103). -/
def closeEvents (s : State) (f : PlanFrame) : State :=
  let sum := fun (g : TileCounts → Nat) => (f.tiles.map (fun x => g x.2)).foldl (· + ·) 0
  let tileOf' := fun (g : TileCounts → Nat) => ((f.tiles.find? (fun x => decide (0 < g x.2))).map Prod.fst).getD 0
  let s := if 0 < sum TileCounts.clampedMvm then
    raise s 0x0210 (unitTile (tileOf' TileCounts.clampedMvm)) noLevel [sum TileCounts.clampedMvm] else s
  let s := f.tiles.foldl (fun s x =>
    if 0 < x.2.outliersClamped then raise s 0x0411 (unitTile x.1) noLevel [x.2.outliersClamped] else s) s
  let s := f.tiles.foldl (fun s x =>
    if 0 < x.2.accClamped then raise s 0x0413 (unitTile x.1) noLevel [x.2.accClamped] else s) s
  (flaggedTensors f).foldl (fun s x =>
    addExc (raise s 0x0412 unitPackage noLevel [x.1]) f.gen (excEntry s 6 0 0 0 0 0 x.1 x.2.1 x.2.2 0)) s
/-- Closing the running plan frame at a tick (R31). -/
def closeFrame (s : State) (f : PlanFrame) : State :=
  closeEvents { s with fr.closed := some { f with fallbackTensors := (flaggedTensors f).length }, fr.running := none } f
/-- EV-0331 once per frame, where a prefetch has not been issued in its planned frame (R221). -/
def prefetchEvent (s : State) (f : PlanFrame) : State :=
  let left := match frameTemplate s f with
    | some t => t.descs.any (fun d =>
        dsClass d == 4 && oprSpace d.d4 == 4 && !(isCompleted f (dsIndex d)) && !(inFlight f (dsIndex d)))
    | none => false
  if left && !f.replay then raise s 0x0331 unitPackage noLevel [] else s
/-- Discarding every frame that has not committed. -/
def discardAll (s : State) : State :=
  let s := match s.fr.running with
    | some f => discardGen s f.gen
    | none => s
  let s := match s.fr.closed with
    | some f => discardGen s f.gen
    | none => s
  { s with fr.running := none, fr.closed := none }

/-! ### Ledger data of a tick (R145, R146, R264) -/

/-- The mask of a tile's arrays with a property, by tile. -/
def arrayMasks (s : State) (f : ArrayState → Bool) : Table Nat :=
  (s.arrays.filter (fun x => f x.2)).foldl (fun t x => tmod 0 t (x.1 / 16) (· + 2 ^ (x.1 % 16))) []
/-- The record of the counter frame that the latest tick ended. -/
def recordOf (s : State) (outcome planFrame step : Nat) (late : Bool) (body : Option PlanFrame) (pendingBy : Table Nat) : RecordData :=
  { frame := now s - 1, planFrame := planFrame, step := step, outcome := outcome, late := late, body := body,
    phase := match body with
      | some f => f.phase
      | none => ((s.fr.running.map PlanFrame.phase).getD 0),
    suspectsPending := pendingBy, live := s.fr.ended.live, master := s.fr.ended.master, fixedFreq := s.fr.ended.fixedFreq,
    boost := s.fr.ended.boost, overTemp := s.fr.ended.overTemp,
    warmUp := s.num.layers.any (fun x => decide (0 < x.2.warmup)), regenerating := arrayMasks s (fun a => a.regen.isSome),
    quarantined := arrayMasks s ArrayState.quarantined,
    testTile := s.fr.ended.testTile }
/-- The record of a tick at which no plan frame closed: hold, halted or no plan. -/
def idleRecord (s : State) (late : Bool) : State :=
  if s.plan.loaded.isNone then s
  else
    let r := match s.fr.run, s.fr.running with
      | .ready, _ => recordOf s 7 0 0 false none []
      | .halted, _ => recordOf s 4 s.fr.pos.toNat s.fr.step.toNat false none []
      | _, some f => recordOf s 3 f.index f.step late none []
      | _, none => recordOf s 3 s.fr.pos.toNat s.fr.step.toNat late none []
    { s with led.ready := some r }

/-! ### Halting -/

/-- Halting with nothing more to run. -/
def haltRun (s : State) : State :=
  spliceLakes { s with
    fr.running := none, fr.run := .halted, fr.late := false, plan.overrun := false, plan.stopAsked := false } haltKind
/-- Halting at once: at an expulsion tick every frame that has not committed is discarded (R432). -/
def haltNow (s : State) : State := haltRun (discardAll s)
/-- The stop of the survivors at a tick (R433): the frame due to close stays to commit if it is not cross-rank, complete and not
late; every other is discarded, and the package halts with EV-0255. -/
def stopAtTick (s : State) (p : PlanImage) (due : Bool) : State :=
  let s := match s.fr.running with
    | some f =>
      if (due || f.replay) && !s.fr.late && (lateUnit s f).isNone && !(crossAt p f.index) then closeFrame s f
      else { discardGen s f.gen with fr.running := none }
    | none => s
  raise (haltRun { s with plan.stopTick := some (now s), plan.stoppedClean := true }) 0x0255 unitPackage noLevel []

/-! ### The version flip (R311 to R313) and Mirror's round (R428) -/

/-- Mirror's record of a round, formed at the step-commit tick whose count is a multiple of the period. -/
def mirrorRound (s : State) (p : PlanImage) : State :=
  let c := (p.update.tBase + s.fr.master).toNat
  let n := setting s 0x00020301
  if n = 0 ∨ c % n ≠ 0 then s
  else
    let es := s.upd.ring.filter (fun r => decide (s.upd.mirrorPrevCount < r.count.toNat) && decide (r.count.toNat ≤ c))
    let es := es.mergeSort (fun a b => decide (a.count.toNat ≤ b.count.toNat))
    let d := sha256 ([0x5A, 0x4B, 0x4D, 0x52] ++ s.upd.mirrorPrev ++ bytesLE 4 c ++ es.flatMap RingEntry.digest)
    let r : MirrorRecord := { rank := rankField s, group := myGroup s, count := c, prevCount := s.upd.mirrorPrevCount, digest := d }
    { s with
      upd.mirrorOwn := some r, upd.mirrorTick := now s, upd.mirrorSend := true, upd.mirrorPrev := d, upd.mirrorPrevCount := c,
      upd.mirrorRecords := s.upd.mirrorRecords.filter (fun x => x.count == c) }
/-- The flip: V + 1 becomes the committed version, and its programming span starts with the next plan frame (R312, R169). -/
def flipVersion (s : State) (p : PlanImage) (next : Nat) : State :=
  let skipped := s.upd.reports.any (fun r => r.attempt == s.upd.attempt && r.skipped) || s.upd.skipped
  let s := lossFlip (ratioFlags s) skipped
  let s := { s with
    fr.master := s.fr.master + 1, plan.spanVersion := some (s.fr.master.toNat + 1), plan.spanPos := next, plan.spanScan := 1,
    plan.logHalf := !s.plan.logHalf, plan.logOffset := 0,
    upd.engines := [], upd.reds := [], upd.scanned := false, upd.skipped := false, upd.chunkDigests := [], upd.gradients := [],
    upd.attempt := 0, upd.redo := false, upd.abandoned := false, upd.sent := false, upd.reports := [], upd.completeReports := [],
    upd.lostMembers := [], upd.snapshots := [], upd.ratioD := [], upd.ratioW := [] }
  mirrorRound { s with num.block := scaleBlock s } p
/-- Whether this package's gradient buffers are complete: every stack has its committed reduction slots (R313). -/
def gradientsWhole (s : State) (p : PlanImage) (step : Nat) : Bool :=
  match placementOf p step with
  | none => true
  | some x => x.slots.zipIdx.all (fun n => decide (n.1.toNat ≤ tget 0 s.upd.gradients n.2))
/-- Abandoning the attempt (R313): hold at every commit point from now on, and this package's completeness report. -/
def abandonAttempt (s : State) (p : PlanImage) (step : Nat) : State :=
  let whole := gradientsWhole s p step
  let s := { s with upd.abandoned := true, upd.redo := false, upd.sent := false, upd.lostMembers := [], upd.completeReports := [] }
  let s := flood s .complete (now s) (s.upd.attempt % 256 + bitNat whole * 256)
  noteComplete s (s.plan.rank.getD 0) s.upd.attempt whole
/-- What the reports at a step-commit tick decide (R312). -/
inductive StepVerdict where
  | flip | missing | abandon
  deriving DecidableEq, Repr
/-- The first row of R312 that applies. -/
def stepVerdict (s : State) : StepVerdict :=
  let has := fun (r : Nat) => s.upd.reports.any (fun x => x.rank == r && x.attempt == s.upd.attempt)
  if !((groupMembers s).all has) then .missing
  else if s.upd.lostMembers.all has then .flip
  else .abandon
/-- The step-commit tick (R312). `next` is the plan position after the commit frame. -/
def stepCommit (s : State) (p : PlanImage) (step next : Nat) : State :=
  match stepVerdict s with
  | .flip => flipVersion s p next
  | .missing => takeL3 s 0x0222 unitPackage []
  | .abandon => abandonAttempt s p step

/-! ### Holds (R135, R267, R268, R373) -/

/-- Whether a tick is a stretch hold. -/
def stretchHold (s : State) (t : Nat) : Bool :=
  match s.fr.stretchSince with
  | some since => (t + since + s.fr.stretchShift) % 2 == 1
  | none => false
/-- Whether a tick is a hold tick. -/
def isHold (s : State) (t : Nat) : Bool := s.fr.holdTargets.contains t || stretchHold s t
/-- The holds after a tick: a hold that met a stretch hold is added after it, and an added hold shifts the stretch (R268). -/
def passHold (s : State) (t : Nat) : State :=
  let asked := s.fr.holdTargets.contains t
  let targets := s.fr.holdTargets.filter (fun x => decide (t < x))
  let s := { s with fr.holdTargets := targets }
  if s.fr.stretchSince.isNone ∨ !asked then s
  else if stretchHold s t then addHold s t
  else { s with fr.stretchShift := s.fr.stretchShift + 1 }
/-- Asserting hold for the tick that ends the running counter frame (R134, R370). -/
def assertHold (s : State) (cause : Nat) : State := addHold (flood s .hold (now s) cause) (now s)

/-! ### Expulsion (R432, R434) -/

/-- One rank's expulsion: EV-0254; it leaves its group, the sharing sets, the tree and the flooding. -/
def expelRank (s : State) (r : Nat) : State :=
  if s.link.expelled.contains r then s
  else
    let mine := (groupMembers s).contains r
    let s := { s with
      link.expelled := r :: s.link.expelled, upd.lostMembers := if mine then s.upd.lostMembers ++ [r] else s.upd.lostMembers,
      link.messages := s.link.messages.filter (fun m => m.dest.val != r) }
    raise s 0x0254 unitPackage noLevel [r]
/-- The replica groups of the plan. -/
def planGroups (p : PlanImage) : List Nat := (p.ranks.map rkGroup).eraseDups
/-- Whether some replica group has no current member (R434). -/
def groupLost (s : State) (p : PlanImage) : Bool :=
  (planGroups p).any (fun g => (groupRanks p g).all (fun r => s.link.expelled.contains r))
/-- The plan position that begins, or runs on, at a tick. -/
def positionAt (s : State) (due : Bool) : Nat :=
  match s.fr.running with
  | some f => if due || f.replay || s.fr.late then f.index + 1 else f.index
  | none => s.fr.pos.toNat
/-- Whether a tick lies before the first learning frame of the step whose step-commit tick is the first at or after it (R433). -/
def beforeLearning (s : State) (p : PlanImage) (due : Bool) : Bool :=
  let step := match s.fr.running with
    | some f => f.step
    | none => stepOf p s.fr.pos.toNat
  (p.steps[step]?).any (fun e => decide (positionAt s due < spLearning e))
/-- The self-test after a halt at L3 or L4, or by command (R424): the stacks keep their contents. -/
def recoverySelftest (s : State) : State :=
  { s with
    pin.selftest := true, pin.selftestTile := 0, pin.selftestPermanent := 0, pin.selftestMarginal := 0, pin.selftestStart := false }
/-- The expulsions of a tick, and what they make the package do. -/
def expelTick (s : State) (t : Nat) (due : Bool) : State :=
  let ranks := (s.link.expelTargets.filter (fun x => decide (x.1 ≤ t))).map Prod.snd
  let s := { s with link.expelTargets := s.link.expelTargets.filter (fun x => decide (t < x.1)) }
  if ranks.isEmpty then s
  else
    let s := ranks.foldl expelRank s
    let tree := treeOf s
    let s := settleAllShared (decideRedo { s with link.parent := tree.1, link.depth := tree.2 })
    match s.plan.loaded, s.plan.rank with
    | some p, some own =>
      if s.link.expelled.contains own then
        (if planRuns s then recoverySelftest (haltNow (if groupLost s p then raise s 0x0251 unitPackage 4 [] else s)) else haltNow s)
      else if !(planRuns s) then s
      else if groupLost s p then recoverySelftest (stopAtTick (raise s 0x0251 unitPackage 4 []) p due)
      else if beforeLearning s p due then stopAtTick s p due
      else { s with plan.stopAsked := true }
    | _, _ => s

/-! ### Plan boundaries (R271) -/

/-- The NOR's copy of an array's calibration block (R183). -/
def saveCal (a : ArrayState) : ArrayState :=
  { a with norCal := { sets := a.sets, anchored := a.anchored.toNat, anchorTemp := a.anchorTemp, quality := a.quality } }
/-- The NOR's wear records (R177). -/
def saveWear (s : State) : State :=
  { s with arrays := s.arrays.map (fun x => (x.1, { x.2 with groups := x.2.groups.map (fun g => (g.1, { g.2 with saved := g.2.wear })) })) }
/-- Step 2: the NOR takes the wear records and the anchored calibration blocks (R177, R183). -/
def saveArrays (s : State) : State :=
  let s := saveWear s
  { s with arrays := s.arrays.map (fun (x : Nat × ArrayState) => (x.1, saveCal x.2)) }
/-- Step 3: arrays whose quarantine the health history has cleared (R417), with EV-0132. -/
def releaseArrays (s : State) : State :=
  (s.arrays.filter (fun x => x.2.quarantined && x.2.cleanCal && x.2.cleanItem &&
      decide ((health s (unitArray x.1)).state = .quarantined))).foldl (fun s x =>
    let s := modArr s x.1 (fun a => { a with quarantined := false, calValid := true, cleanCal := false, cleanItem := false })
    raise (setUnitState s (unitArray x.1) .inService 0x0132) 0x0132 (unitArray x.1) noLevel []) s
/-- Whether a plan uses a unit: arrays of the weight map and of descriptors, tiles of descriptors and their operands, stacks of
regions. -/
def planUses (p : PlanImage) (rank : Nat) (u : UnitRef) : Bool :=
  match rankBlock p rank with
  | none => false
  | some b =>
    match u.kind with
    | 1 => b.weightMap.any (fun e => 16 * wmTile e + wmArray e == u.index) || b.templates.any (fun t => t.descs.any (fun d =>
        (dsClass d == 1 || dsClass d == 5) && 16 * dsTile d + dsArray d == u.index))
    | 2 => b.weightMap.any (fun e => wmTile e == u.index) || b.templates.any (fun t => t.descs.any (fun d => dsTile d == u.index ||
        [d.d4, d.d5, d.d6].any (fun w => oprSpace w == 2 && oprUnit w == u.index)))
    | 3 => p.regions.any (fun e => rgStack e == u.index)
    | _ => false
/-- Links back at full width are back in service at a boundary (R363, R419). -/
def releaseLinks (s : State) : State :=
  ((List.range 48).filter (fun l => (linkOf s l).width == 2 && decide ((health s (unitLink l)).state = .quarantined))).foldl (fun s l =>
    setUnitState s (unitLink l) .inService 0x0103) s
/-- Units that the health history restricts and a plan uses (R269 reason 7, R273). -/
def restrictedUnits (s : State) (p : PlanImage) (rank : Nat) : List UnitRef :=
  (s.hl.recs.filter (fun x => decide (x.2.state = .retired) || decide (x.2.state = .quarantined))).filterMap (fun x =>
    let u : UnitRef := ⟨x.1 / 4096, x.1 % 4096⟩
    if planUses p rank u then some u else none)
/-- Units that leave the running plan at a boundary (R418): an array as a quarantined one, any other takes the package to L3
unless a staged plan that does not use it starts there. -/
def leaveUnits (s : State) : State :=
  let us := s.hl.leaving
  us.foldl (fun s u =>
    if u.kind = 1 then modArr s u.index (fun a => { a with quarantined := true, calValid := false })
    else if s.plan.staged.isSome then s
    else takeL3 s 0x0103 u []) { s with hl.leaving := [], hl.norReported := false }
/-- The settings that a staged plan lists, if it is to start at this boundary. -/
def stagedListed (s : State) : List Nat :=
  match s.plan.staged with
  | some q =>
    let rank := ((serialEntry q s.id.serial).map rkRank).getD 0
    if (restrictedUnits s q rank).isEmpty then q.settings.map (fun x => x.1.toNat) else []
  | none => []
/-- A plan boundary's steps 1 to 3. -/
def boundarySteps (s : State) : State :=
  let s := leaveUnits (releaseLinks (releaseArrays (saveArrays (commitBoundary s (stagedListed s)))))
  { s with fr.stretchAsked := false, fr.stretchSince := none, fr.stretchShift := 0 }
/-- The second verification of a staged plan, against the health history (R273): a plan that fails is discarded, EV-0110 with
reason 7. -/
def verifyStaged (s : State) : State :=
  match s.plan.staged with
  | none => s
  | some q =>
    let rank := ((serialEntry q s.id.serial).map rkRank).getD 0
    if (restrictedUnits s q rank).isEmpty then s
    else endLoad (raise { s with plan.staged := none, plan.stagedManifest := [] } 0x0110 unitPackage noLevel [7]) .failed [] (loadBody 7 0 0 0)

end Sys2Proof.Machine
end

