-- ==== Sys2Proof/Machine/Power.lean ====
section
/-!
DEFINITION. Sys2Proof/Machine/Power.lean: droop, the peak source, the averaged cap, the operating points and the thermal source (R441
to R457).
-/
namespace Sys2Proof.Machine
open Sys2Proof

/-! ### Droop (R445) -/

/-- A supply below the threshold: the source requests the level at once; an episode that is not running begins. -/
def droopTile (s : State) (t : Nat) : State :=
  let fresh := (tileOf s t).droop = 0
  let s := modTile s t (fun x => { x with
    droop := setting s 0x00060105, droopLow := true, droopSeen := true, droopEpisodes := x.droopEpisodes + bitNat fresh })
  { s with pow.droopNow := if s.pow.droopNow.contains (dieOf t) then s.pow.droopNow else s.pow.droopNow ++ [dieOf t] }
/-- DROOP (R445). -/
def execDroop (tile : TileId) (s : State) : Result := .next (droopTile s tile.val)
/-- Lowering a droop level by one. -/
def droopDown (s : State) (t : Nat) : State := modTile s t (fun x => { x with droop := x.droop - 1, droopLow := false })
/-- DROOP_HOLD_EXPIRY (R445): 1,024 cycles after the supply recovered the level falls by one. -/
def execDroopHoldExpiry (tile : TileId) (s : State) : Result :=
  .next (if (tileOf s tile.val).droopLow then droopDown s tile.val else s)
/-- DROOP_DECAY_STEP (R445): 64 cycles further on it falls by one again, until it reaches 0. -/
def execDroopDecayStep (tile : TileId) (s : State) : Result :=
  .next (if (tileOf s tile.val).droopLow then s else droopDown s tile.val)

/-! ### The peak source (R447, R448) -/

/-- The phase mark of the running plan frame; a frame with no plan takes the learning row. -/
def phaseMark (s : State) : Nat := match s.fr.running with
  | some f => f.phase
  | none => 2
/-- The phase die limit in mW. -/
def phaseLimit (phase : Nat) : Nat := if phase = 1 then 200000 else 215000
/-- Four times the die limit in mW. -/
def dieLimit4 (s : State) : Int :=
  min (4 * (phaseLimit (phaseMark s) : Int)) (1000 * (setting s 0x00060103 : Int) - (s.pow.otherPower : Int))
/-- One die's microsecond. -/
def peakDie (limit4 : Int) (s : State) (die power : Nat) : State :=
  let level := tget 0 s.pow.peak die
  let below := tget 0 s.pow.peakBelow die
  let (level', below') :=
    if limit4 < 4 * (power : Int) then (min 15 (level + 4), 0)
    else if 400 * (power : Int) < 95 * limit4 then (if below = 15 then (level - 1, 0) else (level, below + 1))
    else (level, 0)
  let s := { s with pow.peak := tset 0 s.pow.peak die level', pow.peakBelow := tset 0 s.pow.peakBelow die below' }
  if 0 < level' ∧ !(s.pow.peakNow.contains die) then { s with pow.peakNow := s.pow.peakNow ++ [die] } else s
/-- PEAK_SAMPLE (R447): the four core rails' power of 1 µs in mW, and the package's power outside them. -/
def execPeakSample (core0 core1 core2 core3 other : Nat) (s : State) : Result :=
  let limit4 := dieLimit4 s
  let s := [(0, core0), (1, core1), (2, core2), (3, core3)].foldl (fun s x => peakDie limit4 s x.1 x.2) s
  let s := { s with pow.otherPower := other }
  .next (if s.pow.peakNow.isEmpty then s else raiseOnce s 1 0x0603 unitPackage noLevel [])

/-! ### Energies (R461, R462) -/

/-- The key of an energy counter: kinds 0 tile, 1 stack, 2 link, 3 Lake, 4 package (R461's order), the block, and the word. -/
def energyKey (kind index word : Nat) : Nat := (1024 * kind + index) * 16 + word
/-- The tile energy of a die in a counter frame: E_ARRAY to E_TILE, programming excluded. -/
def dieEnergy (energy : List (Nat × Nat)) (die : Nat) : Nat :=
  (energy.filter (fun x => decide (x.1 < 16 * 256) && x.1 / 16 / 64 == die && decide (x.1 % 16 < 4))).foldl (fun a x => a + x.2) 0
/-- The rail energy of a counter frame: the package's rail counters. -/
def railEnergy (energy : List (Nat × Nat)) : Nat :=
  (energy.filter (fun x => decide (energyKey 4 0 0 ≤ x.1) && decide (x.1 < energyKey 4 0 8))).foldl (fun a x => a + x.2) 0
/-- Adding a frame's energies to the counters; E_TOTAL is the sum of the rails. -/
def addEnergy (s : State) (energy : List (Nat × Nat)) : State :=
  let t := energy.foldl (fun t x => tmod 0 t x.1 (· + x.2)) s.cnt.tele.energy
  { s with cnt.tele.energy := tmod 0 t (energyKey 4 0 8) (· + railEnergy energy) }

/-! ### The averaged cap (R449, R450) -/

/-- k_op of an operating point (R442). -/
def kOp (point : Nat) : Nat := [65536, 69334, 73240, 78272, 85598].getD point 85598
/-- The budget of a phase in W: tiles, and the rest (R448). A transition frame's lies between the other two. -/
def phaseBudget (phase : Nat) : Nat × Nat :=
  if phase = 1 then (670, 630) else if phase = 2 then (705, 660)
  else (670 + Config.transitionTile % 36, 630 + Config.transitionOther % 31)
/-- The reference energy of a die's tiles at point 0, in nJ: the latest of the phase, or the budget's quarter. -/
def refTileOf (s : State) (phase die : Nat) : Nat := (tfind s.pow.refTile (4 * phase + die)).getD ((phaseBudget phase).1 * 100000 / 4)
/-- The reference energy of the rest. -/
def refOtherOf (s : State) (phase : Nat) : Nat := (tfind s.pow.refOther phase).getD ((phaseBudget phase).2 * 100000)
/-- The tiles' predicted energy with each die at a point. -/
def predictTiles (s : State) (phase : Nat) (points : Nat → Nat) : Nat :=
  (List.range 4).foldl (fun a d => a + refTileOf s phase d * kOp (points d) / 65536) 0
/-- The prediction. -/
def predict (s : State) (phase : Nat) (points : Nat → Nat) : Nat := refOtherOf s phase + predictTiles s phase points
/-- Whether every tile ran the ended counter frame at level 0. -/
def unlimited (s : State) : Bool :=
  s.pow.droopNow.isEmpty && s.pow.peakNow.isEmpty && s.pow.capLevel == 0 && !s.pow.aomNow && s.tiles.all (fun x => x.2.thermal == 0)
/-- The cap window in counter frames. -/
def capFrames (s : State) : Nat := setting s 0x00060102 * 1000
/-- Taking the ended frame's energy: the window's sum, and the references of its phase (R450). -/
def capTake (s : State) (n phase : Nat) (energy : List (Nat × Nat)) : State :=
  let e := railEnergy energy
  let w := capFrames s
  let s := if s.pow.capWindow = w then s else { s with pow.capWindow := w, pow.capSum := 0, pow.capHist := [] }
  let i := (n - 1) % w
  let s := { s with
    pow.capSum := s.pow.capSum + e - tget 0 s.pow.capHist i, pow.capHist := tset 0 s.pow.capHist i e }
  if unlimited s then
    let tiles := (List.range 4).foldl (fun a d => a + dieEnergy energy d) 0
    { s with
      pow.refTile := (List.range 4).foldl (fun t d => tput t (4 * phase + d) (dieEnergy energy d * 65536 / kOp (tget 0 s.pow.points d))) s.pow.refTile,
      pow.refOther := tput s.pow.refOther phase (e - tiles) }
  else s
/-- The budget of counter frame n. -/
def capBudget (s : State) (n : Nat) : Int :=
  let w := capFrames s
  (setting s 0x00060101 * 100000 * w : Nat) - ((s.pow.capSum - tget 0 s.pow.capHist (n % w) : Nat) : Int)
/-- The cap level that a prediction and a budget give after a level. -/
def capNext (lvl : Nat) (p t : Nat) (b : Int) : Nat :=
  if (p : Int) ≤ b then lvl - 1
  else
    let need := if t = 0 then 15 else ((16 * ((p : Int) - b) + t - 1) / t).toNat
    min 15 (max (lvl + 1) need)
/-- The level with each die at a point. -/
def capLevelAt (s : State) (n : Nat) (points : Nat → Nat) : Nat :=
  capNext s.pow.capLevel (predict s (phaseMark s) points) (predictTiles s (phaseMark s) points) (capBudget s n)

/-! ### Operating points (R453 to R456) -/

/-- Whether every die is in fixed-frequency mode (R453). -/
def fixedMode (s : State) : Bool :=
  setting s 0x00060106 == 0 || !(planRuns s) ||
  (match s.plan.loaded with
   | some p => planFixedFreq p
   | none => true)
/-- Whether a die was droop-active in the last counter frame, or in either of the last two. -/
def droopBefore1 (s : State) (d : Nat) : Bool := s.pow.droopLast.contains d
def droopBefore2 (s : State) (d : Nat) : Bool := s.pow.droopLast.contains d || s.pow.droopBefore.contains d
/-- The target point of a die (R454). -/
def targetPoint (s : State) (n lvl d : Nat) : Nat :=
  let b := capBudget s n
  let cool := (List.range 64).all (fun t => decide ((tileOf s (64 * d + t)).temp ≤ 64 * (setting s 0x00060109 : Int)))
  if fixedMode s || droopBefore2 s d || lvl != 0 || !cool || s.pow.peakLast.contains d || aomLevel s d != 0 then 0
  else
    ((List.range (setting s 0x00060107 + 1)).filter (fun k =>
      k == 0 || decide (100 * (predict s (phaseMark s) (fun _ => k) : Int) ≤ 98 * b))).foldl max 0
/-- The clock of a die switches (R455). -/
def switchPoint (s : State) (d k : Nat) : State :=
  raise { s with pow.points := tset 0 s.pow.points d k, pow.deferred := tset 0 s.pow.deferred d 0 } 0x0605 unitPackage noLevel [d, k]
/-- The end of a rail's rise: the switch, or the rail's return (R455, R526). -/
def finishRise (s : State) (railOff : List DieId) (d target : Nat) : State :=
  let r := tget 0 s.pow.rising d
  if r = 0 then s
  else
    let s := { s with pow.rising := tset 0 s.pow.rising d 0 }
    if target < r || droopBefore1 s d then s
    else if railOff.any (fun x => x.val == d) then raise s 0x0607 unitPackage noLevel [d]
    else switchPoint s d r
/-- A die's frequency at a tick: the rise under way ends, then its target starts a rise or switches down; a change down behind a
droop-active frame is deferred, with EV-0606 once (R455, R456). -/
def dieTick (s : State) (railOff : List DieId) (d target : Nat) : State :=
  let s := finishRise s railOff d target
  let c := tget 0 s.pow.points d
  if c < target then { s with pow.rising := tset 0 s.pow.rising d target, pow.deferred := tset 0 s.pow.deferred d 0 }
  else if target < c then
    if droopBefore2 s d then
      if tget 0 s.pow.deferred d ≠ 0 then s
      else raise { s with pow.deferred := tset 0 s.pow.deferred d c } 0x0606 unitPackage noLevel [d]
    else switchPoint s d target
  else { s with pow.deferred := tset 0 s.pow.deferred d 0 }

/-! ### The tick -/

/-- A tile's thermal source (R457), in 1/64 °C. -/
def thermalTile (throttle : Int) (s : State) (t : Nat) : State :=
  let x := tileOf s t
  let lvl := if 64 * throttle < x.temp then min 15 (x.thermal + 1) else if x.temp ≤ 64 * (throttle - 3) then x.thermal - 1 else x.thermal
  let s := if lvl = x.thermal then s else modTile s t (fun x => { x with thermal := lvl })
  if 0 < lvl then raiseOnce s 1024 0x0604 (unitTile t) noLevel [] else s
/-- The droop report of a die for an ended frame (R446): once where an episode of a tile overlapped it, with the die and the episodes
that began on it; its lowest such tile raises it (log 34). -/
def droopReport (s : State) (die : Nat) : State :=
  let seen := s.tiles.filter (fun x => x.2.droopSeen && dieOf x.1 == die)
  match seen.head? with
  | some x => raise s 0x0602 (unitTile x.1) noLevel [die, (seen.map (fun y => y.2.droopEpisodes)).foldl (· + ·) 0]
  | none => s
/-- The droop reports of an ended frame; episodes still running make the new frame droop-active. -/
def droopTick (s : State) : State :=
  let s := (List.range 4).foldl droopReport s
  let still := ((s.tiles.filter (fun x => decide (0 < x.2.droop))).map (fun x => dieOf x.1)).eraseDups
  { s with
    tiles := s.tiles.map (fun x => (x.1, { x.2 with droopEnded := x.2.droopEpisodes, droopEpisodes := 0, droopSeen := decide (0 < x.2.droop) })),
    pow.droopBefore := s.pow.droopLast, pow.droopLast := s.pow.droopNow, pow.droopNow := still }
/-- Power control at the tick that begins counter frame n; `phase` is the mark of the frame that ended. -/
def powerTick (s : State) (n phase : Nat) (energy : List (Nat × Nat)) (railOff : List DieId) : State :=
  let s := capTake { s with pow.capBefore := s.pow.capLevel } n phase energy
  let s := droopTick s
  let s := { s with
    pow.peakLast := s.pow.peakNow, pow.peakNow := (List.range 4).filter (fun d => decide (0 < tget 0 s.pow.peak d)),
    pow.aomNow := (List.range 4).any (fun d => decide (0 < aomLevel s d)), fr.fixedFreq := fixedMode s }
  let lvl := capLevelAt s n (fun d => tget 0 s.pow.points d)
  let targets := (List.range 4).map (fun d => targetPoint s n lvl d)
  let s := targets.zipIdx.foldl (fun s x => dieTick s railOff x.2 x.1) s
  let s : State := { s with
    pow.capLevel := capLevelAt s n (fun d => tget 0 s.pow.points d),
    fr.boost := (List.range 4).any (fun d => decide (0 < tget 0 s.pow.points d)) }
  let s := if 0 < s.pow.capLevel then raiseOnce s 1024 0x0601 unitPackage noLevel [] else s
  (tkeys s.tiles).foldl (thermalTile (setting s 0x00060108 : Nat)) s

end Sys2Proof.Machine
end

