-- ==== Sys2Proof/Machine/Aom.lean ====
section
/-!
DEFINITION. Sys2Proof/Machine/Aom.lean: the always-on monitor: the filter instructions and programs, their actions, the power down,
and the samples behind the SMBus pages (R459, R460, R492, R493, R527, R528, R537, R538).
-/
namespace Sys2Proof.Machine
open Sys2Proof

/-! ### Filters (R492) -/

/-- Building a filter word. -/
def filterWord (slot action level : Nat) (bySource : Bool) (dies event hold : Nat) (consts program : List Nat) : BitVec 1024 :=
  BitVec.ofNat 1024 (slot + action * 2 ^ 8 + level * 2 ^ 11 + bitNat bySource * 2 ^ 15 + dies * 2 ^ 16 + (program.length - 1) * 2 ^ 20 +
    event * 2 ^ 32 + hold * 2 ^ 48 + (consts.zipIdx.foldl (fun a x => a + x.1 * 2 ^ (64 + 32 * x.2)) 0) +
    program.zipIdx.foldl (fun a x => a + x.1 * 2 ^ (512 + 32 * x.2)) 0)
/-- An instruction word. -/
def aomWord (op arg : Nat) : Nat := op * 2 ^ 28 + arg * 2 ^ 16
def ftAction (w : BitVec 1024) : Nat := bitsOf w 10 8
def ftLevel (w : BitVec 1024) : Nat := bitsOf w 14 11
def ftBySource (w : BitVec 1024) : Bool := bitOf w 15
def ftDies (w : BitVec 1024) : Nat := bitsOf w 19 16
def ftCount (w : BitVec 1024) : Nat := bitsOf w 23 20 + 1
def ftEvent (w : BitVec 1024) : Nat := bitsOf w 47 32
def ftHold (w : BitVec 1024) : Nat := bitsOf w 63 48
def ftConst (w : BitVec 1024) (k : Nat) : Word := BitVec.ofNat 32 (bitsOf w (95 + 32 * k) (64 + 32 * k))
/-- Instruction k: its op and operand. -/
def ftInstr (w : BitVec 1024) (k : Nat) : Nat × Nat :=
  let x := bitsOf w (543 + 32 * k) (512 + 32 * k)
  (x / 2 ^ 28, x / 2 ^ 16 % 4096)
/-- The default filters 1 to 8 (R460). Filter 8 reports; what its event means is R140's. -/
def defaultFilters : List (Nat × BitVec 1024) :=
  [ (1, filterWord 1 3 0 false 0 0x0611 0 [0x42D20000] [aomWord 1 512, aomWord 4 0, aomWord 7 3]),
    (2, filterWord 2 4 0 false 0 0x0612 0 [0x42DC0000] [aomWord 1 512, aomWord 4 0, aomWord 7 3]),
    (3, filterWord 3 2 8 true 0 0x0610 1000 [0x42BE0000] [aomWord 1 513, aomWord 4 0, aomWord 7 10]),
    (4, filterWord 4 3 0 false 0 0x0611 0 [0x44DAC000] [aomWord 1 280, aomWord 2 100, aomWord 4 0]),
    (5, filterWord 5 4 0 false 0 0x0613 0 [0x3F19999A, 0x3F59999A] [aomWord 1 514, aomWord 6 0, aomWord 7 10]),
    (6, filterWord 6 3 0 false 0 0x0613 0 [0x40180000, 0x40280000] [aomWord 1 276, aomWord 6 0, aomWord 7 10]),
    (7, filterWord 7 1 0 false 0 0x0614 0 [0x3F933333] [aomWord 1 280, aomWord 2 100, aomWord 3 0, aomWord 4 0]),
    (8, filterWord 8 1 0 false 0 0x0222 0 [0x44FA0000] [aomWord 1 336, aomWord 4 0]) ]
/-- A filter slot's word. -/
def filterAt (s : State) (slot : Nat) : BitVec 1024 := tget 0 s.aom.slots slot
/-- What a filter keeps. -/
def filterState (s : State) (slot : Nat) : FilterState := tget FilterState.fresh s.aom.filters slot
/-- Changing what a filter keeps. -/
def modFilter (s : State) (slot : Nat) (f : FilterState → FilterState) : State :=
  { s with aom.filters := tmod FilterState.fresh s.aom.filters slot f }

/-! ### Inputs (R493) -/

/-- Whether the rail behind an input is up: core rails 272 to 275 and the programming rail 276. -/
def railUp (s : State) (i : Nat) : Bool :=
  match i with
  | 272 => s.pin.goods.contains .core0
  | 273 => s.pin.goods.contains .core1
  | 274 => s.pin.goods.contains .core2
  | 275 => s.pin.goods.contains .core3
  | 276 => s.pin.goods.contains .prog
  | _ => true
/-- An input's value: sensors as sampled, link widths and the heartbeat's age as they stand. -/
def aomInput (s : State) (i : Nat) : Rat :=
  if 288 ≤ i ∧ i < 336 then (((linkOf s (i - 288)).width : Int) : Rat)
  else if i = 336 then ((s.pin.heartbeatAge : Int) : Rat)
  else tget 0 s.aom.inputs i
/-- Whether an input index exists. -/
def inputExists (i : Nat) : Bool :=
  decide (i < 266) || (decide (272 ≤ i) && decide (i ≤ 276)) || i == 280 || (decide (288 ≤ i) && decide (i ≤ 336))
/-- The inputs that an operand of LD names: one, or a set; rails only while they are up. -/
def ldInputs (s : State) (i : Nat) : List Nat :=
  let all := match i with
    | 512 => List.range 256
    | 513 => (List.range 8).map (· + 256)
    | 514 => (List.range 4).map (· + 272)
    | 515 => (List.range 48).map (· + 288)
    | _ => if inputExists i then [i] else []
  all.filter (railUp s)
/-- The input of a list with the least value, and the one with the greatest; the lower index where two are equal. -/
def extremes (s : State) (is : List Nat) (i0 : Nat) : Nat × Nat :=
  is.foldl (fun a i => (if aomInput s i < aomInput s a.1 then i else a.1, if aomInput s a.2 < aomInput s i then i else a.2)) (i0, i0)

/-! ### Instructions (R493) -/

/-- The instruction count moves on. -/
def aomNext (s : State) : State := { s with aom.pc := s.aom.pc + 1 }
/-- LD. -/
def aomLd (s : State) (i : Nat) : State :=
  match ldInputs s i with
  | [] => aomNext s
  | i0 :: is =>
    let x := extremes s is i0
    aomNext { s with aom.lo := aomInput s x.1, aom.hi := aomInput s x.2, aom.loFrom := x.1, aom.hiFrom := x.2 }
/-- The mean of rationals. -/
def meanOf (xs : List Rat) : Rat := if xs.isEmpty then 0 else xs.foldl (· + ·) 0 / ((xs.length : Int) : Rat)
/-- MEAN: over the last n samples, or as many as there have been. -/
def aomMean (s : State) (n : Nat) : State :=
  let xs := ((s.aom.lo, s.aom.hi) :: (filterState s s.aom.cur).samples).take 1024
  let s := modFilter s s.aom.cur (fun f => { f with samples := xs })
  aomNext { s with aom.lo := meanOf ((xs.take n).map Prod.fst), aom.hi := meanOf ((xs.take n).map Prod.snd) }
/-- SCALE. -/
def aomScale (s : State) : State :=
  let cap : Rat := ((setting s 0x00060101 : Int) : Rat)
  aomNext { s with aom.lo := s.aom.lo / cap, aom.hi := s.aom.hi / cap }
/-- Constant k of the filter that runs. -/
def aomConst (s : State) (k : Nat) : FVal := ofF32 (ftConst (filterAt s s.aom.cur) k)
/-- Whether a value is above, or below, a constant. -/
def aboveConst (x : Rat) (c : FVal) : Bool := match c with
  | .fin y => decide (y < x)
  | .inf neg => neg
  | .nan => false
def belowConst (x : Rat) (c : FVal) : Bool := match c with
  | .fin y => decide (x < y)
  | .inf neg => !neg
  | .nan => false
/-- GT. There are constants 0 to 3. -/
def aomGt (s : State) (k : Nat) : State :=
  if 4 ≤ k then aomNext s
  else aomNext { s with aom.cond := aboveConst s.aom.hi (aomConst s k), aom.decider := s.aom.hiFrom }
/-- LT. -/
def aomLt (s : State) (k : Nat) : State :=
  if 4 ≤ k then aomNext s
  else aomNext { s with aom.cond := belowConst s.aom.lo (aomConst s k), aom.decider := s.aom.loFrom }
/-- OUTSIDE. -/
def aomOutside (s : State) (k : Nat) : State :=
  if 3 ≤ k then aomNext s
  else
    let low := belowConst s.aom.lo (aomConst s k)
    aomNext { s with aom.cond := low || aboveConst s.aom.hi (aomConst s (k + 1)),
                     aom.decider := if low then s.aom.loFrom else s.aom.hiFrom }
/-- RUN: the condition has held here in each of the last n samples. -/
def aomRun (s : State) (n : Nat) : State :=
  let k := if s.aom.cond then tget 0 (filterState s s.aom.cur).runs s.aom.pc + 1 else 0
  let s' := modFilter s s.aom.cur (fun f => { f with runs := tset 0 f.runs s.aom.pc k })
  aomNext { s' with aom.cond := decide (0 < k) && decide (n ≤ k) }
/-- AND. -/
def aomAndSaved (s : State) : State := aomNext { s with aom.cond := s.aom.cond && (filterState s s.aom.cur).saved }
/-- OR. -/
def aomOrSaved (s : State) : State := aomNext { s with aom.cond := s.aom.cond || (filterState s s.aom.cur).saved }
/-- SAVE. -/
def aomSave (s : State) : State := aomNext (modFilter s s.aom.cur (fun f => { f with saved := s.aom.cond }))
/-- LD (R493). -/
def execLd (i : Fin 4096) (s : State) : Result := .next (aomLd s i.val)
/-- MEAN (R493). -/
def execMean (n : Fin 4096) (s : State) : Result := .next (aomMean s n.val)
/-- SCALE (R493). -/
def execScale (s : State) : Result := .next (aomScale s)
/-- GT (R493). -/
def execGt (k : Fin 4096) (s : State) : Result := .next (aomGt s k.val)
/-- LT (R493). -/
def execLt (k : Fin 4096) (s : State) : Result := .next (aomLt s k.val)
/-- OUTSIDE (R493). -/
def execOutside (k : Fin 4096) (s : State) : Result := .next (aomOutside s k.val)
/-- RUN (R493). -/
def execRun (n : Fin 4096) (s : State) : Result := .next (aomRun s n.val)
/-- AND (R493). -/
def execAomAnd (s : State) : Result := .next (aomAndSaved s)
/-- OR (R493). -/
def execAomOr (s : State) : Result := .next (aomOrSaved s)
/-- SAVE (R493). -/
def execSave (s : State) : Result := .next (aomSave s)
/-- An instruction of a program. -/
def aomInstr (s : State) (x : Nat × Nat) : State :=
  match x.1 with
  | 1 => aomLd s x.2
  | 2 => aomMean s x.2
  | 3 => aomScale s
  | 4 => aomGt s x.2
  | 5 => aomLt s x.2
  | 6 => aomOutside s x.2
  | 7 => aomRun s x.2
  | 8 => aomAndSaved s
  | 9 => aomOrSaved s
  | 10 => aomSave s
  | _ => aomNext s

/-! ### Actions (R459) -/

/-- Shed: level 16 on every tile, and Mordant stops; ALERT_N is asserted (R538). -/
def shed (s : State) : State := { s with pow.shed := true, pow.aomNow := true, pin.alertHold := true }
/-- EXPEL of the package's own rank on the links of I/O die 1. -/
def expelByAom (s : State) : State :=
  match s.plan.rank with
  | none => s
  | some r =>
    let f := expelFrame s
    let e : SyncEvent := { kind := .expel, origin := r, frame := f, payload := r }
    let s := if s.link.seen.contains (.expel, r, f) then s
      else relay { s with link.seen := (.expel, r, f) :: s.link.seen } e ((liveLinks s).filter (fun l => decide (24 ≤ l)))
    noteExpel s f r
/-- Power down (R459): shed, and EXPEL if a plan runs; the rails fall at the expulsion tick, or 200 µs later without a plan. One
that is already under way goes on (R529). -/
def powerDown (s : State) : State :=
  if s.pin.poweringDown then s
  else
    let s := { shed s with pin.poweringDown := true }
    if planRuns s then expelByAom { s with pin.downAtTick := true } else s
/-- The rail groups in the order of R528. -/
def downOrder : List RailGroup := [.core0, .core1, .core2, .core3, .prog, .hbm, .sd, .io]
/-- The rails fall: the groups that are enabled, in order. The plan's part ends, and every link goes down. -/
def removeRails (s : State) : State :=
  let s := if s.plan.loaded.isSome ∧ s.fr.run ≠ .ready then haltNow s else s
  { s with
    pin.removed := downOrder.filter (fun g => s.pin.enables.contains g), pin.enables := [], pin.goods := [],
    pin.poweringDown := false, pin.downAtTick := false, pin.stage := min 2 s.pin.stage, pin.selftest := false,
    link.links := s.link.links.map (fun (x : Nat × LinkState) => (x.1, { x.2 with width := 0 })) }
/-- POWER_DOWN_SEQUENCE (R528). -/
def execPowerDownSequence (s : State) : Result := .next (if s.pin.poweringDown then removeRails s else s)
/-- The die of the quadrant of an input (R492, R493), if it has one. -/
def dieOfInput (i : Nat) : Option Nat :=
  if i < 256 then some (dieOf i) else if i < 264 then some ((i - 256) / 2) else if 272 ≤ i ∧ i < 276 then some (i - 272) else none
/-- The dies that a throttle names. -/
def throttleDies (s : State) (w : BitVec 1024) : List Nat :=
  if ftBySource w then (dieOfInput s.aom.decider).toList else (List.range 4).filter (fun d => (ftDies w).testBit d)
/-- The throttle of a filter. -/
def throttle (s : State) (slot : Nat) (w : BitVec 1024) : State :=
  let s := (throttleDies s w).foldl (fun (s : State) d => { s with pow.aomLevels := tset 0 s.pow.aomLevels (4 * slot + d) (ftLevel w) }) s
  { s with pow.aomNow := true }
/-- Watchdog expiry (R140, R467): L3; the management domain resets, at the expulsion tick if a plan runs. -/
def watchdogExpiry (s : State) : State :=
  let s := takeL3 { s with pin.watchdog := true } 0x0222 unitPackage []
  { s with pin.restartDue := planRuns s }
/-- What a filter that fires does: its event, and its action. -/
def fireFilter (s : State) (slot : Nat) (w : BitVec 1024) : State :=
  if slot = 8 then watchdogExpiry s
  else
    let s := raise s (ftEvent w) unitPackage noLevel []
    match ftAction w with
    | 2 => throttle s slot w
    | 3 => shed s
    | 4 => powerDown s
    | _ => s
/-- A filter's sample: its program runs, and it fires where the condition ends true after being false at the previous sample;
a throttle is renewed while the condition stays true. A program whose rails are all down does not run. -/
def runFilter (s : State) (slot : Nat) (w : BitVec 1024) : State :=
  let prog := (List.range (ftCount w)).map (ftInstr w)
  if prog.any (fun x => x.1 == 1 && (ldInputs s x.2).isEmpty) then modFilter s slot (fun f => { f with last := false, runs := [] })
  else
    let s := prog.foldl aomInstr { s with aom.cur := slot, aom.pc := 0 }
    let before := (filterState s slot).last
    let s := modFilter s slot (fun f => { f with last := s.aom.cond })
    if s.aom.cond && !before then fireFilter s slot w
    else if s.aom.cond && ftAction w == 2 then throttle s slot w else s
/-- AOM_THROTTLE_EXPIRY (R459): the level is released unless the condition still holds. -/
def execAomThrottleExpiry (slot : Fin 33) (s : State) : Result :=
  .next (if (filterState s slot.val).last then s
    else { s with pow.aomLevels := s.pow.aomLevels.filter (fun x => x.1 / 4 != slot.val) })

/-! ### The SMBus pages (R537, R538) -/

/-- The rail group of a page, if it has one. -/
def pageGroup (p : Nat) : Option RailGroup :=
  match p with
  | 0 => some .core0
  | 1 => some .core1
  | 2 => some .core2
  | 3 => some .core3
  | 4 => some .prog
  | 5 | 6 | 7 | 8 => some .hbm
  | 9 | 10 => some .sd
  | 11 => some .io
  | _ => none
/-- Operating range of a page's voltage in 0.1 mV, and its continuous current in A (R525). -/
def pageLimits (p : Nat) : Nat × Nat × Nat :=
  match p with
  | 0 | 1 | 2 | 3 => (6600, 8400, 320)
  | 4 => (23750, 26250, 85)
  | 5 => (10185, 10815, 160)
  | 6 => (7275, 7725, 120)
  | 7 => (17100, 18900, 12)
  | 8 => (7275, 7725, 140)
  | 9 => (7275, 7725, 240)
  | 10 => (11640, 12360, 60)
  | 11 => (7275, 7725, 110)
  | _ => (0, 0, 24)
/-- The index of a sample of a page: 0 voltage, 1 current, 2 power. Rails that R493 lists have its index; the others are numbered
from 1,024 on by the model (log 13). -/
def pageInput (p q : Nat) : Nat :=
  if q = 0 ∧ p < 4 then 272 + p else if q = 0 ∧ p = 4 then 276 else if q = 2 ∧ p = 13 then 280 else 1024 + 4 * p + q
/-- The junction sensors of a page's units. -/
def pageSensors (p : Nat) : List Nat :=
  if p < 4 then (List.range 64).map (· + 64 * p) else if p = 4 then List.range 256
  else if p < 9 then [] else if p < 12 then [264, 265] else if p = 12 then [264] else List.range 256 ++ [264, 265]
/-- The hottest of some inputs. -/
def hottest (s : State) (is : List Nat) : Rat :=
  match is with
  | [] => 0
  | i :: rest => rest.foldl (fun m j => if m < aomInput s j then aomInput s j else m) (aomInput s i)
/-- Latching a status bit of a page. -/
def latch (s : State) (p bit : Nat) : State :=
  { s with pin.status := tmod 0 s.pin.status p (fun w => w ||| BitVec.ofNat 16 (2 ^ bit)) }
/-- One page's sample: its sums, its voltage runs of 10, and its temperature. -/
def pageSample (s : State) (p : Nat) : State :=
  let (lo, hi, _) := pageLimits p
  let v := aomInput s (pageInput p 0)
  let up := match pageGroup p with
    | some g => s.pin.goods.contains g
    | none => false
  let high := up && decide (((hi : Int) : Rat) / 10000 < v)
  let under := up && decide (v < ((lo : Int) : Rat) / 10000)
  let a := if high then tget 0 s.pin.overRuns p + 1 else 0
  let b := if under then tget 0 s.pin.underRuns p + 1 else 0
  let s := { s with
    pin.overRuns := tset 0 s.pin.overRuns p a, pin.underRuns := tset 0 s.pin.underRuns p b,
    pin.sums := (List.range 3).foldl (fun t q => tmod 0 t (4 * p + q) (· + aomInput s (pageInput p q))) s.pin.sums }
  let s := if 10 ≤ a then latch s p 5 else s
  let s := if 10 ≤ b then latch s p 15 else s
  if ((setting s 0x00060108 : Int) : Rat) < hottest s (pageSensors p) then latch s p 2 else s
/-- The end of 1 ms: the means, and current above its maximum. -/
def pagesMean (s : State) : State :=
  let s := { s with
    pin.means := s.pin.sums.map (fun x => (x.1, x.2 / 100)), pin.sums := [], pin.samples := 0 }
  (List.range 13).foldl (fun s p =>
    if (((pageLimits p).2.2 : Int) : Rat) < tget 0 s.pin.means (4 * p + 1) then latch s p 4 else s) s
/-- Taking the samples. -/
def takeSamples (s : State) (inputs : List (Nat × Rat)) : State :=
  let s := { s with
    aom.inputs := inputs.foldl (fun (t : Table Rat) (x : Nat × Rat) => tset 0 t x.1 x.2) s.aom.inputs, pin.heartbeatAge := s.pin.heartbeatAge + 10,
    pin.samples := s.pin.samples + 1 }
  let hot := s.aom.inputs.any (fun (x : Nat × Rat) => (decide (x.1 < 256) || x.1 == 264 || x.1 == 265) && decide (125 < x.2))
  let s := (List.range 14).foldl pageSample { s with pin.otpHot := s.pin.otpHot || hot }
  if s.pin.samples = 100 then pagesMean s else s
/-- AOM_SAMPLE (R493): every 10 µs the AOM samples its inputs and every filter runs. -/
def execAomSample (inputs : List (Nat × Rat)) (cyc : Nat) (s : State) : Result :=
  let s := takeSamples (atCycle s cyc) inputs
  .next (s.aom.slots.foldl (fun s x => runFilter s x.1 x.2) s)
/-- EOMET_HEARTBEAT (R466). -/
def execEometHeartbeat (s : State) : Result := .next { s with pin.heartbeatAge := 0 }
/-- Loads and removals that wait take effect at the tick (R492): a filter starts with nothing saved. -/
def filtersTick (s : State) : State :=
  { s with
    aom.slots := s.aom.staged.foldl (fun t x => tset 0 t x.1 (x.2.getD 0)) s.aom.slots,
    aom.filters := s.aom.staged.foldl (fun t x => terase t x.1) s.aom.filters, aom.staged := [] }

end Sys2Proof.Machine
end

