-- ==== Sys2Proof/Machine/PlanTick.lean ====
section
/-!
DEFINITION. Sys2Proof/Machine/PlanTick.lean: the plan's step from tick to commit point: PLAN_START (R270, R274), the tick
(R31, R135, R171, R262 to R265, R312, R433), and COMMIT_POINT (R32 to R36, R133 to R138, R376).
-/
namespace Sys2Proof.Machine
open Sys2Proof

/-! ### Taking a plan, and starting it (R270, R274) -/

/-- Bits of a flag. -/
def freshUpd (s : State) (p : PlanImage) : UpdState :=
  { UpdState.reset with mirrorPrev := List.replicate 32 0, mirrorPrevCount := p.update.tBase.toNat, ring := s.upd.ring }
/-- Every context entry at its reset value, and the pools free (R227). -/
def clearContexts (s : State) (p : PlanImage) : State :=
  let inside := fun (a : Nat) => match regionOf p 3 with
    | some e => decide (rgAddr e ≤ a) && decide (a < rgAddr e + rgLength e)
    | none => false
  { s with
    mem.hbm := s.mem.hbm.filter (fun x => !(inside x.1)), mem.hbmPoison := s.mem.hbmPoison.filter (fun x => !(inside x.1)),
    ctx.kvUsed := [], ctx.dirUsed := [] }
/-- Taking a checked plan: it is loaded and prepares (R270). An expulsion ends here (R432). -/
def adoptPlan (s : State) (p : PlanImage) (manifest : List Byte) (rank : Nat) : State :=
  { clearContexts s p with
    plan.loaded := some p, plan.manifest := manifest, plan.stage := .preparing, plan.loadFrame := now s, plan.startFrame := none,
    plan.prepared := [], plan.rank := some rank, plan.stopTick := none, plan.stopAsked := false, plan.overrun := false,
    plan.spanVersion := none, plan.spanScan := 0, plan.logPending := [], fr.run := .ready, fr.running := none, fr.closed := none,
    fr.stopAt := none, fr.late := false, fr.holdTargets := [], fr.stretchAsked := false, fr.stretchSince := none,
    fr.stretchShift := 0, link.seen := [], link.expelled := [], link.expelTargets := [], link.transfers := [],
    link.forward := [], link.aligned := false, link.alignedCount := 0, led.ready := none, led.first := some (now s),
    led.latest := none, led.digest := List.replicate 32 0 }
/-- The staged plan starts at its boundary under R270: the running plan has ended. -/
def startStaged (s : State) : State :=
  match s.plan.staged with
  | none => s
  | some q =>
    let rank := ((serialEntry q s.id.serial).map rkRank).getD 0
    let s := { s with plan.stoppedClean := true }
    { adoptPlan s q s.plan.stagedManifest rank with plan.staged := none, plan.stagedManifest := [] }
/-- The settings that a plan lists take effect at its start; staged values of the others before them (R274). -/
def planSettings (s : State) (p : PlanImage) : State :=
  p.settings.foldl (fun s x => setLive s x.1.toNat x.2) (commitBoundary s (p.settings.map (fun x => x.1.toNat)))
/-- PLAN_START's effect: plan position 0 begins at the tick of counter frame S (R270). Scales carry over for a plan that continues
(R327, R439); for one that restores they start cold until its scale block arrives (R438). -/
def startPlan (s : State) (p : PlanImage) : State :=
  let s := planSettings s p
  let s := { s with
    fr.pos := 0, fr.step := 0, fr.run := .running, fr.degraded := false, fr.fixedFreq := planFixedFreq p, plan.stage := .idle,
    plan.stoppedClean := false, upd := freshUpd s p, num.layers := [], num.shares := [], num.refusedRuns := 0,
    num.sharedIn := [], num.sharedOut := [], fr.failures := [] }
  let s := if ckStart p.ckptHeader = 2 then carryOver s else startCold s
  let tree := treeOf s
  let s := lakesStart { s with link.parent := tree.1, link.depth := tree.2 }
  let s := endLoad s .ok s.plan.manifest (loadBody 0 0 0 (now s))
  beginFrame s 0 false

/-! ### The tick -/

/-- The plan position that follows at a tick: STOP's position halts, a boundary takes its steps and gives way to a staged plan,
the plan's end waits for its last commit, and any other position begins. -/
def nextFrame (s : State) (p : PlanImage) (pos : Nat) (again : Bool) : State :=
  if s.fr.stopAt = some pos then haltRun { s with plan.stoppedClean := false }
  else if planFrames p ≤ pos then { s with fr.running := none }
  else if boundaryAt p pos then
    let s := verifyStaged (boundarySteps s)
    if s.plan.staged.isSome then { s with fr.running := none } else beginFrame s pos again
  else beginFrame s pos again
/-- The boundary after the commit of the plan's last frame (R271): a staged plan starts, or the plan halts. -/
def endPlan (s : State) : State :=
  let s := verifyStaged (boundarySteps s)
  if s.plan.staged.isSome then startStaged s else haltRun { s with plan.stoppedClean := true }
/-- The package is late at a tick (R262, R264, R266). -/
def runLate (s : State) (f : PlanFrame) (u : UnitRef) (code : Nat) : State :=
  let t := now s
  let s := { s with
    fr.late := true, fr.running := some { f with late := true },
    fr.lateHist := (t - 1) :: s.fr.lateHist.filter (fun x => decide (t ≤ x + 1024)) }
  let s := addHold (flood (raise s 0x0112 u noLevel []) .late t code) t
  let s := if 16 < s.fr.lateHist.length then raiseOnce s 1024 0x0113 unitPackage noLevel [] else s
  let s := idleRecord s true
  match f.failures.head? with
  | some c => restartRun { raise s 0x0220 c.unit 1 [c.code] with fr.failures := s.fr.failures ++ [(t - 1, c.unit)] } { f with late := true }
  | none => s
/-- The tick of a package whose replay or late frame must close (R136, R138, R263, R265). -/
def closeAtHold (s : State) (p : PlanImage) (f : PlanFrame) : State :=
  let left := if f.replay then (workLeft s f).isSome else (lateUnit s f).isSome
  let s := { s with fr.late := false }
  if left then idleRecord (takeL3 s 0x0209 unitPackage []) false
  else nextFrame (closeFrame s f) p (f.index + 1) true
/-- The tick at which the running frame is due to close (R262, R312, R433). -/
def closeDue (s : State) (p : PlanImage) (f : PlanFrame) : State :=
  let commits := (p.steps[f.step]?).any (fun e => spCommit e == f.index)
  let s := prefetchEvent s f
  let s := if commits then stepCommit s p f.step (f.index + 1) else s
  if s.plan.stopAsked && (crossAt p f.index || crossAt p (f.index + 1) || (commits && !s.upd.abandoned)) then stopAtTick s p true
  else
    match lateUnit s f with
    | some (u, b) => runLate s f u b
    | none =>
      let s := closeFrame s f
      if s.upd.abandoned then { s with fr.run := .held } else nextFrame s p (f.index + 1) false
/-- The tick of a package with no plan frame running: an abandoned attempt waits for its new step-commit tick (R313), the plan's
end is reached, or the package waits. -/
def waitTick (s : State) (p : PlanImage) (hold : Bool) : State :=
  let pos := s.fr.pos.toNat
  if s.upd.abandoned then
    if hold then idleRecord s false
    else
      let s := stepCommit s p (stepOf p (pos - 1)) pos
      if s.upd.abandoned then idleRecord s false
      else if s.plan.stopAsked then idleRecord (stopAtTick s p true) false
      else nextFrame (idleRecord s false) p pos false
  else if planFrames p ≤ pos ∧ s.fr.closed.isNone then idleRecord (endPlan s) false
  else idleRecord s false
/-- A programming span that has not ended at its deadline frame: EV-0261, and HOLD at that tick and every one after it until the
span ends (R171). -/
def deadlineTick (s : State) (p : PlanImage) : State :=
  match s.plan.spanVersion with
  | none => { s with plan.overrun := false }
  | some v =>
    let due := s.fr.running.any (fun f => f.started == now s && (p.steps[v - 1]?).any (fun e => spDeadline e == f.index))
    let s := if due ∧ !s.plan.overrun then { raise s 0x0261 unitPackage noLevel [] with plan.overrun := true } else s
    if s.plan.overrun then assertHold s 2 else s
/-- The plan's side of the tick that begins counter frame t; the counter stands at t. -/
def planTick (s : State) : State :=
  let t := now s
  match s.plan.loaded with
  | none => s
  | some p =>
    match s.fr.run with
    | .ready => idleRecord s false
    | .halted => idleRecord s false
    | _ =>
      let hold := isHold s t
      let s := passHold s t
      let s := { s with
        fr.holdFrame := hold, fr.run := if hold then .held else .running,
        fr.holdHist := (if hold then [t] else []) ++ s.fr.holdHist.filter (fun x => decide (t < x + 1024)) }
      let s := match s.fr.running with
        | none => waitTick s p hold
        | some f =>
          if f.replay ∨ s.fr.late then closeAtHold s p f
          else if hold then idleRecord s false
          else closeDue s p f
      if planRuns s then deadlineTick s p else s

/-! ### COMMIT_POINT (R32) -/

/-- Kind 2 entries delivered count for their stacks (R376). -/
def takeGradients (s : State) : State :=
  let add := fun (g : Table Nat) (f : Option PlanFrame) => ((f.map PlanFrame.gradients).getD []).foldl (fun g x => tmod 0 g x.1 (· + x.2)) g
  { s with
    upd.gradients := add (add s.upd.gradients s.fr.closed) s.fr.running,
    fr.closed := s.fr.closed.map (fun (f : PlanFrame) => { f with gradients := [] }),
    fr.running := s.fr.running.map (fun (f : PlanFrame) => { f with gradients := [] }) }
/-- Suspects of a run that Prism has not settled. -/
def unsettled (s : State) (gen : Nat) : List Suspect := s.tiles.flatMap (fun x => x.2.queue.filter (fun q => q.gen == gen))
/-- The plan position of the closed frame, if it fails at this commit point. -/
def failingIndex (s : State) : Option Nat :=
  s.fr.closed.bind (fun f => if f.failures.isEmpty && (unsettled s f.gen).isEmpty then none else some f.index)
/-- The position that a switch is logged with: a failed frame's own where it failed (R167, R173). -/
def loggedPos (s : State) (pos : Nat) : Nat :=
  match failingIndex s with
  | some i => if pos = i + 1 then i else pos
  | none => pos
/-- The switch log (R173): one entry for every row that switched at the tick; the two latest spans are kept in turn. -/
def logSwitches (s : State) : State :=
  match s.plan.loaded.bind (fun p => regionOf p 2) with
  | none => { s with plan.logPending := [] }
  | some e =>
    let base := rgAddr e + (if s.plan.logHalf then 2 ^ 24 else 0)
    let s' := s.plan.logPending.foldl (fun (s : State) (x : Nat × Nat) =>
      if s.plan.logOffset + 8 ≤ 2 ^ 24 then
        { writeHbm s .plain (base + s.plan.logOffset) (bytesLE 8 ((loggedPos s x.1 - s.plan.spanPos) % 2 ^ 24 + x.2)) noPoison with
          plan.logOffset := s.plan.logOffset + 8 }
      else s) s
    { s' with plan.logPending := [] }
/-- Whether a run's results are degraded (R150, R107). -/
def runDegraded (s : State) (f : PlanFrame) : Bool :=
  f.tiles.any (fun x => x.2.degraded || decide (0 < x.2.clampedMvm + x.2.outliersClamped + x.2.accClamped))
    || !s.fr.ended.overTemp.isEmpty
/-- An unsettled suspect at the commit point: EV-0205, a failure that names the array (R140, R548). -/
def failUnsettled (s : State) (gen : Nat) (q : Suspect) : State :=
  let k := arrKey q.tile q.array
  let s := noteLevel (raise s 0x0205 (unitArray k) 1 []) gen (some q.tile) 1
  modGen s gen (fun p => { p with failures := p.failures ++ [{ code := 0x0205, unit := unitArray k, cycle := s.fr.cycle }] })
/-- A second failed frame within 16: L2 for the array the failure names, L3 for any other unit (R140, R141, R548). -/
def secondFailure (s : State) (u : UnitRef) : State :=
  if u.kind = 1 then raise (quarantineArray s u.index) 0x0221 u 2 [] else takeL3 s 0x0221 u []
/-- The failure of a closed frame at its commit point (R134 to R136, R433). -/
def failClosed (s : State) (f : PlanFrame) (pendingBy : Table Nat) : State :=
  let c := f.failures.headD { code := 0x0220, unit := unitPackage, cycle := 0 }
  let s := { s with led.ready := some (recordOf s 2 f.index f.step f.late (some { f with level := max 1 f.level }) pendingBy) }
  if f.replay then discardAll (takeL3 s 0x0209 c.unit [])
  else if s.plan.stopTick.isSome ∧ s.fr.run = .halted then discardAll s
  else
    let again := s.fr.failures.any (fun x => decide (now s - 1 ≤ x.1 + 16))
    let s := assertHold (raise s 0x0220 c.unit 1 [c.code]) 1
    let s := if again then secondFailure s c.unit else s
    let s := match s.fr.running with
      | some g => { discardGen s g.gen with fr.running := none }
      | none => s
    let s := { s with
      fr.failures := s.fr.failures.filter (fun x => decide (now s - 1 ≤ x.1 + 16)) ++ [(now s - 1, c.unit)],
      fr.run := if s.fr.run = .halted then .running else s.fr.run }
    restartRun s f
/-- The update of a step on this package is complete: its version digest goes into the ring, and update-done is sent (R310, R311). -/
def finishUpdate (s : State) (p : PlanImage) : State :=
  let v := s.fr.master + 1
  let c := updateCount s p
  let e : RingEntry := { version := v, count := c, groups := p.update.groups.length, skipped := s.upd.skipped, redo := s.upd.redo,
                         digest := foldedDigest s p v.toNat c.toNat }
  let ring := s.upd.ring ++ [e]
  let s := { s with upd.ring := ring.drop (ring.length - 64), upd.sent := true }
  let s := writeHbm s .plain (reservedBase s 0 + 0x03800000 + 64 * (v.toNat % 64)) (ringBytes e) noPoison
  let s := flood s .updateDone (now s) (v.toNat + s.upd.attempt % 256 * 2 ^ 32 + bitNat s.upd.skipped * 2 ^ 40)
  noteDone s { rank := s.plan.rank.getD 0, version := v.toNat, attempt := s.upd.attempt, skipped := s.upd.skipped }
/-- A closed frame commits: its results become final (R32). -/
def commitClosed (s : State) (p : PlanImage) (f : PlanFrame) : State :=
  let deg := runDegraded s f
  let outcome := bitNat deg + (if f.replay then 5 else 0)
  let s := { s with led.ready := some (recordOf s outcome f.index f.step f.late (some f) []) }
  let s := dropGen s f.gen
  let s := (tkeys s.arrays).foldl (fun s k => commitDrift s f.gen k) s
  let s := dropWork (commitNumerics s f) f.gen
  let s := { s with
    tiles := s.tiles.map (fun x => (x.1, { x.2 with droopCommitted := x.2.droopEnded })),
    fr.closed := none, fr.committed := BitVec.ofNat 48 (now s - 1), fr.pos := BitVec.ofNat 32 (f.index + 1), fr.degraded := deg,
    fr.step := if f.index + 1 < planFrames p then BitVec.ofNat 32 (stepOf p (f.index + 1)) else s.fr.step }
  let last := (placementOf p f.step).any (fun x => x.last.toNat == f.index)
  if last && !s.upd.sent && digestComplete s p then finishUpdate s p else s
/-- The decision on the closed frame. -/
def judgeClosed (s : State) (p : PlanImage) (f : PlanFrame) : State :=
  let qs := unsettled s f.gen
  let s := qs.foldl (fun s q => failUnsettled s f.gen q) s
  let pendingBy := qs.foldl (fun t q => tmod 0 t q.tile (· + 1)) []
  match s.fr.closed with
  | some f => if f.failures.isEmpty then commitClosed s p f else failClosed s f pendingBy
  | none => s
/-- What an abandoned attempt does at a commit point: hold, or the update-done of the attempt whose rerun is complete (R313). -/
def abandonedPoint (s : State) (p : PlanImage) : State :=
  if !s.upd.abandoned then s
  else if s.upd.redo && !s.upd.sent && digestComplete s p && s.upd.scanned then finishUpdate s p
  else if s.upd.sent then s
  else assertHold s 3
/-- A C0 message of this package. -/
def sendC0 (s : State) (dest : Nat) (k : C0Kind) (bytes : List Byte) : State :=
  { s with link.messages := s.link.messages ++
      [{ source := Fin.ofNat 1024 (s.plan.rank.getD 0), dest := Fin.ofNat 1024 dest, kind := k, bytes := bytes }] }
/-- The referees of the package's group (R429). -/
def referees (s : State) : List Nat := (groupMembers s).take 3
/-- The 64 bytes of a Mirror record (R429). -/
def mirrorBytes (r : MirrorRecord) : List Byte :=
  bytesLE 2 r.rank ++ bytesLE 2 r.group ++ bytesLE 4 r.count ++ bytesLE 4 r.prevCount ++ List.replicate 20 0 ++ r.digest
/-- What leaves in C0 traffic at a commit point: Mirror records (R429) and shared observations (R320). -/
def sendRecords (s : State) : State :=
  let own := s.plan.rank.getD 0
  let s := match s.upd.mirrorOwn with
    | some r =>
      if s.upd.mirrorSend then
        let s := ((referees s).filter (· != own)).foldl (fun s d => sendC0 s d .mirror (mirrorBytes r)) s
        { s with upd.mirrorSend := false }
      else s
    | none => s
  let s := s.num.sharedOut.foldl (fun s o =>
    match scaleEntryOf s o.index with
    | none => s
    | some e => ((sharingSet s (nmTensor e)).filter (· != own)).foldl (fun s d =>
        sendC0 s d .observation (bytesLE 2 o.rank ++ bytesLE 4 o.frame ++ bytesLE 2 o.index ++ bytesLE 4 o.obs.maxIn.toNat ++
          bytesLE 4 o.obs.maxAll.toNat ++ bytesLE 1 (bitNat o.obs.overflow + 2 * bitNat o.obs.quantised))) s) s
  { s with num.sharedOut := [] }
/-- The status page as Eomet rewrites it at every tick and commit point (R40). -/
def rewritePage (s : State) : State :=
  let run := match s.fr.run with
    | .ready => 0
    | .running => 1
    | .held => 2
    | .halted => 3
  let phase := (s.fr.running.map PlanFrame.phase).getD 0
  let word := run + phase * 4 + bitNat (s.fr.running.any PlanFrame.replay) * 16 + bitNat s.fr.late * 32 + bitNat s.fr.degraded * 64 +
    bitNat s.fr.fixedFreq * 128 + bitNat s.fr.boost * 256 + s.fr.holdHist.length % 65536 * 65536
  { s with fr.page :=
    { seq := s.fr.page.seq + 2, frameNow := BitVec.ofNat 64 (now s), committed := BitVec.ofNat 64 s.fr.committed.toNat,
      planPos := BitVec.ofNat 64 (s.fr.pos.toNat + s.fr.step.toNat * 2 ^ 32), runState := BitVec.ofNat 64 word,
      version := BitVec.ofNat 64 (s.fr.live.toNat + s.fr.master.toNat * 2 ^ 32) } }
/-- PLAN_START (R270): counter frame S, after the tick that begins it. -/
def execPlanStart (s : State) : Result :=
  match s.plan.loaded with
  | some p => if s.plan.stage = .starting ∧ s.plan.startFrame = some (now s) then .next (rewritePage (startPlan s p)) else .next s
  | none => .next s
/-- The commit point of a package (R32, R134). -/
def commitPoint (s : State) : State :=
  let s := logSwitches (takeGradients { s with fr.cycle := 2400 })
  match s.plan.loaded with
  | none => rewritePage s
  | some p =>
    let s := match s.fr.closed with
      | some f => judgeClosed s p f
      | none => s
    let s := sendRecords (abandonedPoint s p)
    let starts := planRuns s && s.fr.running.isNone && s.fr.closed.isNone && s.plan.staged.isSome && boundaryAt p s.fr.pos.toNat &&
      decide (s.fr.pos.toNat < planFrames p)
    rewritePage (if starts then startStaged s else s)
/-- COMMIT_POINT (R32). -/
def execCommitPoint (s : State) : Result := .next (commitPoint s)

end Sys2Proof.Machine
end

