-- ==== Sys2Proof/Machine/Ledger.lean ====
section
/-!
DEFINITION. Sys2Proof/Machine/Ledger.lean: the check ledger (R144 to R149): a record's 8 KiB, its digest chain, and LEDGER_RECORD_WRITE.
-/
namespace Sys2Proof.Machine
open Sys2Proof

/-! ### The record (R146 to R149) -/

/-- A field at a bit position, saturating at its width. -/
def satField (lo width v : Nat) : Nat := satTo (2 ^ width - 1) v * 2 ^ lo
/-- The counts of a tile in a record's body. -/
def bodyTile (r : RecordData) (t : Nat) : TileCounts :=
  match r.body with
  | some f => tget TileCounts.zero f.tiles t
  | none => TileCounts.zero
/-- A tile entry's 24 bytes (R147). -/
def tileEntry (r : RecordData) (t : Nat) : List Byte :=
  let c := bodyTile r t
  bytesLE 8 (satField 0 16 c.mvmRun + satField 16 16 c.zeroBypass + satField 32 6 c.splitReruns + satField 38 10 c.clampedMvm +
    satField 48 16 c.clampedCols) ++
  bytesLE 8 (satField 0 13 c.outliersTaken + satField 13 13 c.outliersClamped + satField 26 6 c.suspects +
    satField 32 4 c.checkerWrong + satField 36 4 c.arrayWrong + satField 40 4 c.residue +
    satField 44 4 (tget 0 r.suspectsPending t) + satField 48 4 c.queueMax + satField 52 3 c.level) ++
  bytesLE 8 (satField 0 16 c.accClamped + satField 16 16 (tget 0 r.regenerating t) + satField 32 16 (tget 0 r.quarantined t) +
    bitNat (r.testTile == some t) * 2 ^ 48 + bitNat (r.overTemp.contains t) * 2 ^ 49 + bitNat c.degraded * 2 ^ 50)
/-- An exception entry's 32 bytes (R148). -/
def exceptionBytes (e : ExcEntry) : List Byte :=
  bytesLE 8 (e.kind + e.tile * 2 ^ 8 + e.array * 2 ^ 16 + e.level * 2 ^ 20 + e.causes * 2 ^ 23 + e.op * 2 ^ 32) ++
  bytesLE 8 (unsignedOf 32 e.a + unsignedOf 32 e.b * 2 ^ 32) ++ bytesLE 8 (unsignedOf 32 e.c + unsignedOf 32 e.d * 2 ^ 32) ++
  bytesLE 8 (e.cycle % 2 ^ 48)
/-- The sum of a count over the tiles of a record, each entry saturated at its own field (R146: header counts are sums of the
tile entries' fields). -/
def sumTiles (r : RecordData) (width : Nat) (f : TileCounts → Nat) : Nat :=
  ((r.body.map PlanFrame.tiles).getD []).foldl (fun acc x => acc + satTo (2 ^ width - 1) (f x.2)) 0
/-- Ones in a 16-bit mask. -/
def maskCount (m : Nat) : Nat := (List.range 16).countP (fun i => m.testBit i)
/-- The header's 128 bytes (R146). -/
def recordHeader (s : State) (r : RecordData) : List Byte :=
  let b := fun (g : PlanFrame → Nat) => (r.body.map g).getD 0
  let excs := (r.body.map PlanFrame.excs).getD []
  let excess := (r.body.map PlanFrame.excOverflow).getD false
  let sum := sumTiles r
  let queue := ((r.body.map PlanFrame.tiles).getD []).foldl (fun m x => max m x.2.queueMax) 0
  let total := fun (t : Table Nat) => (t.map (fun x => maskCount x.2)).foldl (· + ·) 0
  bytesLE 8 (r.frame % 2 ^ 48 + 3 * 2 ^ 48) ++ bytesLE 8 (r.planFrame % 2 ^ 32 + r.step % 2 ^ 32 * 2 ^ 32) ++
  bytesLE 8 (r.outcome + satField 3 3 (b PlanFrame.level) + r.phase * 2 ^ 6 + bitNat r.late * 2 ^ 8 +
    bitNat (!r.overTemp.isEmpty) * 2 ^ 9 + bitNat r.warmUp * 2 ^ 10 + bitNat r.fixedFreq * 2 ^ 11 + bitNat r.boost * 2 ^ 12 +
    excs.length * 2 ^ 16 + bitNat excess * 2 ^ 22) ++
  bytesLE 8 (rankField s + (planIdField s).toNat * 2 ^ 16) ++ bytesLE 8 (r.live.toNat + r.master.toNat * 2 ^ 32) ++
  bytesLE 8 (satField 0 32 (sum 16 TileCounts.mvmRun) + satField 32 32 (sum 16 TileCounts.zeroBypass)) ++
  bytesLE 8 (satField 0 16 (sum 6 TileCounts.suspects) + satField 16 16 (sum 4 TileCounts.checkerWrong) +
    satField 32 16 (sum 4 TileCounts.arrayWrong) + satField 48 16 ((r.suspectsPending.map (fun x => satTo 15 x.2)).foldl (· + ·) 0)) ++
  bytesLE 8 (satField 0 16 (sum 4 TileCounts.residue) + satField 16 16 (b PlanFrame.corrected) + satField 32 16 (b PlanFrame.poison) +
    satField 48 16 (b PlanFrame.substituted)) ++
  s.led.digest.take 32 ++ List.replicate (32 - s.led.digest.length) 0 ++
  bytesLE 8 (satField 0 16 (sum 6 TileCounts.splitReruns) + satField 16 16 (sum 10 TileCounts.clampedMvm) +
    satField 32 16 (sum 13 TileCounts.outliersClamped) + satField 48 16 (b PlanFrame.fallbackTensors)) ++
  bytesLE 8 (satField 0 32 (b PlanFrame.nonfinite) + satField 32 32 (sum 16 TileCounts.accClamped)) ++
  bytesLE 8 (satField 0 16 (total r.quarantined) + satField 16 16 (total r.regenerating) + satField 32 4 queue) ++
  List.replicate 8 0
/-- A record without its digest: 8,160 bytes. -/
def recordBody (s : State) (r : RecordData) : List Byte :=
  let excs := (r.body.map PlanFrame.excs).getD []
  recordHeader s r ++ (List.range 256).flatMap (tileEntry r) ++ excs.flatMap exceptionBytes ++
  List.replicate (32 * (59 - excs.length)) 0

/-! ### LEDGER_RECORD_WRITE (R144) -/

/-- The ledger ring's device address and its number of records. -/
def ledgerRing (p : PlanImage) : Option (Nat × Nat) := (regionOf p 1).map (fun e => (rgAddr e, rgLength e / 8192))
/-- The device address of the record of a counter frame. -/
def recordAddr (ring : Nat × Nat) (frame : Nat) : Nat := ring.1 + 8192 * (frame % ring.2)
/-- Writing the record that is ready; the read-back compares its digest, and a mismatch is an error of the handling machinery,
unit 1 (R140, R144, R148). Ledger writes are not journaled (R284). -/
def writeRecord (s : State) (p : PlanImage) (r : RecordData) (readBackOk : Bool) : State :=
  match ledgerRing p with
  | none => s
  | some ring =>
    let body := recordBody s r
    let d := sha256 body
    let s := writeHbm s .plain (recordAddr ring r.frame) (body ++ d) noPoison
    let s := { s with led.ready := none, led.latest := some r.frame, led.digest := d }
    if readBackOk then s else machineryError s (runningGen s) none (unitStack (devStack ring.1)) 1 0
/-- LEDGER_RECORD_WRITE (R144): `readBackOk` tells whether the record read back with its digest. -/
def execLedgerRecordWrite (readBackOk : Bool) (cyc : Nat) (s : State) : Result :=
  let s := atCycle s cyc
  .next (match s.led.ready, s.plan.loaded with
    | some r, some p => writeRecord s p r readBackOk
    | _, _ => s)

/-! ### Mirror (R429, R430) -/

/-- MIRROR_RECORD (R429): a member's record of the round arrives. -/
def execMirrorRecord (record : BitVec 512) (s : State) : Result :=
  let r : MirrorRecord :=
    { rank := bitsOf record 9 0, group := bitsOf record 31 16, count := bitsOf record 63 32, prevCount := bitsOf record 95 64,
      digest := bytesLE 32 (bitsOf record 511 256) }
  .next { s with upd.mirrorRecords := s.upd.mirrorRecords ++ [r] }
/-- The members that the tally expels, with the event (R430). -/
def mirrorVerdict (members : List Nat) (records : List MirrorRecord) : List (Nat × Nat) :=
  let digestOf := fun (r : Nat) => (records.find? (fun x => x.rank == r)).map MirrorRecord.digest
  let missing := members.filter (fun r => (digestOf r).isNone)
  let shared := fun (d : List Byte) => members.countP (fun r => digestOf r == some d)
  let present := members.filter (fun r => (digestOf r).isSome)
  let lost := missing.map (fun r => (r, 0x0253))
  match (present.filterMap digestOf).find? (fun d => decide (members.length < 2 * shared d)) with
  | some d => lost ++ (present.filter (fun r => digestOf r != some d)).map (fun r => (r, 0x0252))
  | none => if missing.isEmpty then members.map (fun r => (r, 0x0252)) else
      lost ++ present.map (fun r => (r, 0x0252))
/-- MIRROR_TALLY (R430): a referee judges the round from the 16th tick after its step-commit tick. -/
def execMirrorTally (cyc : Nat) (s : State) : Result :=
  let s := atCycle s cyc
  match s.upd.mirrorOwn with
  | none => .next s
  | some own =>
    if now s < s.upd.mirrorTick + 16 then .next s
    else
      let done := { s with upd.mirrorOwn := none, upd.mirrorRecords := s.upd.mirrorRecords.filter (fun x => x.count != own.count) }
      if !((referees s).contains own.rank) ∨ (groupMembers s).length ≤ 1 then .next done
      else
        let recs := own :: s.upd.mirrorRecords.filter (fun x => x.group == own.group && x.count == own.count && x.rank != own.rank)
        .next ((mirrorVerdict (groupMembers s) recs).foldl (fun s x => floodExpel (raise s x.2 unitPackage 3 [x.1]) x.1) done)

end Sys2Proof.Machine
end

