-- ==== Sys2Proof/Machine/Counters.lean ====
section
/-!
DEFINITION. Sys2Proof/Machine/Counters.lean: the tick snapshot, the programmable counters, the bandwidth windows and the dump ring
(R505 to R521), with the commands of group 0x0A.
-/
namespace Sys2Proof.Machine
open Sys2Proof

/-! ### Counters at the tick (R508 to R512) -/

/-- A counter's key: eight to a block. -/
def counterKey (block k : Nat) : Nat := 8 * block + k
/-- The blocks: 256 tiles, 8 base dies, 2 I/O dies. -/
def counterBlocks : Nat := 266
/-- The counters of a block. -/
def counterCount (block : Nat) : Nat := if 256 ≤ block ∧ block < 264 then 4 else 8
/-- The block kind that EV-0140 and the commands name, and the index within it. -/
def blockKind (block : Nat) : Nat × Nat :=
  if block < 256 then (1, block) else if block < 264 then (2, block - 256) else (3, block - 264)
/-- The block of a kind and an index. -/
def blockOf (kind index : Nat) : Nat := if kind = 1 then index else if kind = 2 then 256 + index else 264 + index
/-- The blocks of a kind. -/
def kindCount (kind : Nat) : Nat := if kind = 1 then 256 else if kind = 2 then 8 else if kind = 3 then 2 else 0
/-- The event codes of a kind (R509). -/
def kindEvents (kind : Nat) : Nat := if kind = 1 then 17 else if kind = 2 then 6 else 7
def cfEvent (w : Half) : Nat := bitsOf w 7 0
def cfPhase (w : Half) : Nat := bitsOf w 9 8
/-- Whether a counter is chained: odd counters only (R508). -/
def cfChained (t : Telemetry) (block k : Nat) : Bool := k % 2 == 1 && bitOf (tget 0 t.config (counterKey block k)) 10
/-- Adding to a counter: its new value, and its carries. -/
def addCounter (w : Word) (n : Nat) : Word × Nat := (BitVec.ofNat 32 (w.toNat + n), (w.toNat + n) / 2 ^ 32)
/-- What a counter's own event adds. -/
def ownCount (t : Telemetry) (activity : Table Nat) (phase block k : Nat) : Nat :=
  let c := tget 0 t.config (counterKey block k)
  if cfEvent c = 0 ∨ (cfPhase c ≠ 0 ∧ cfPhase c ≠ phase) then 0 else tget 0 activity (256 * block + cfEvent c)
/-- One counter of a block, with the carries of the counter below it; answers its own carries, and sets its overflow bit where it
wraps unchained or as an upper half. -/
def countOne (activity : Table Nat) (phase block : Nat) (a : Telemetry × Nat) (k : Nat) : Telemetry × Nat :=
  let t := a.1
  let n := if cfChained t block k then a.2 else ownCount t activity phase block k
  let (w, carry) := addCounter (tget 0 t.counters (counterKey block k)) n
  let lower := k % 2 = 0 && cfChained t block (k + 1)
  let t := { t with counters := tset 0 t.counters (counterKey block k) w }
  (if 0 < carry && !lower then { t with overflow := tmod 0 t.overflow block (fun m => if m.testBit k then m else m + 2 ^ k) } else t, carry)
/-- A block's counters at a tick. -/
def countBlock (activity : Table Nat) (phase : Nat) (t : Telemetry) (block : Nat) : Telemetry :=
  ((List.range (counterCount block)).foldl (countOne activity phase block) (t, 0)).1
/-- The blocks with a configured counter. -/
def liveBlocks (t : Telemetry) : List Nat := ((tkeys t.config).map (· / 8)).eraseDups
/-- EV-0140 for a block whose overflow bits have newly set (R510). -/
def overflowEvent (old : Table Nat) (s : State) (block : Nat) : State :=
  let fresh := tget 0 s.cnt.tele.overflow block - tget 0 old block
  if fresh = 0 then s else raise s 0x0140 unitPackage noLevel [(blockKind block).1, (blockKind block).2, fresh]
/-- The counters take the ended counter frame's activity (R505, R509). -/
def countTick (s : State) (phase : Nat) (activity : List (Nat × Nat)) : State :=
  let act := activity.foldl (fun t x => tmod 0 t x.1 (· + x.2)) s.cnt.activity
  let blocks := liveBlocks s.cnt.tele
  let old := s.cnt.tele.overflow
  let s := { s with
    cnt.tele := blocks.foldl (countBlock act phase) s.cnt.tele, cnt.activity := [] }
  blocks.foldl (overflowEvent old) s
/-- A port's window after a frame: the latest W frames, newest first (R513). -/
def portTick (w : Nat) (p : PortWindow) : PortWindow := { now := 0, frames := (p.now :: p.frames).take w }
/-- The bandwidth windows at a tick; a change of the window's length restarts them (R514). -/
def portsTick (s : State) : State :=
  let ports := (List.range 128).foldl (fun t i => tput t i (portTick (2 ^ s.cnt.bwWindow) (tget PortWindow.zero t i))) s.cnt.tele.ports
  { s with cnt.tele.ports := ports }
/-- The change of telemetry.bw.window at the tick at which it takes effect (R514). -/
def windowTick (s : State) : State :=
  if setting s 0x00010201 = s.cnt.bwWindow then s
  else { s with cnt.bwWindow := setting s 0x00010201, cnt.tele.ports := [] }
/-- A tile's LIMIT word (R462). -/
def limitWord (s : State) (t : Nat) : DWord :=
  BitVec.ofNat 64 (limiterLevel s t + limiterSource s t * 2 ^ 5 + satTo 255 (tileOf s t).droopCommitted * 2 ^ 8 +
    tget 0 s.pow.points (dieOf t) * 2 ^ 16)
/-- Latching snapshot n at the tick that ends counter frame n (R505). -/
def latchSnapshot (s : State) (n : Nat) : State :=
  let x : Snapshot :=
    { frame := n, tele := s.cnt.tele, linkWords := (List.range 48).map (fun l => (l, linkWord s l)), links := s.link.links,
      lakes := s.lakes, limits := (List.range 256).map (fun t => (t, limitWord s t)), complete := false }
  { s with cnt.shadow := some x }
/-- Clears, then configuration words, that are due at the tick that begins counter frame t (R512). -/
def configTick (s : State) (t : Nat) : State :=
  let clear := fun (c : Telemetry) (x : Nat × Nat) =>
    let block := x.2 / 8
    { c with
      counters := terase c.counters x.2,
      overflow := tmod 0 c.overflow block (fun m => if m.testBit (x.2 % 8) then m - 2 ^ (x.2 % 8) else m),
      cleared := tset 0 c.cleared block t }
  let config := fun (c : Telemetry) (x : Nat × Nat × Half) => { c with config := tset 0 c.config x.2.1 x.2.2 }
  let tele := (s.cnt.stagedClear.filter (fun x => decide (x.1 ≤ t))).foldl clear s.cnt.tele
  let tele := (s.cnt.stagedConfig.filter (fun x => decide (x.1 ≤ t))).foldl config tele
  { s with
    cnt.tele := tele, cnt.stagedClear := s.cnt.stagedClear.filter (fun x => decide (t < x.1)),
    cnt.stagedConfig := s.cnt.stagedConfig.filter (fun x => decide (t < x.1)) }

/-! ### What the snapshot holds, as bytes -/

/-- The snapshot that reads return; before the first tick, nothing counted. -/
def shadowOf (s : State) : Snapshot :=
  s.cnt.shadow.getD
    { frame := 0, tele := { counters := [], overflow := [], cleared := [], config := [], energy := [], ports := [] },
      linkWords := [], links := [], lakes := [], limits := [], complete := false }
/-- A block's status word (R511). -/
def statusOf (t : Telemetry) (block : Nat) : Nat :=
  let chained := (List.range 4).foldl (fun a k => a + bitNat (cfChained t block (2 * k + 1)) * 2 ^ k) 0
  tget 0 t.overflow block + chained * 2 ^ 8 + tget 0 t.cleared block % 2 ^ 48 * 2 ^ 16
/-- A block's counters as u32 and its status word. -/
def counterBytes (t : Telemetry) (block : Nat) : List Byte :=
  (List.range (counterCount block)).flatMap (fun k => bytesLE 4 (tget 0 t.counters (counterKey block k)).toNat) ++ bytesLE 8 (statusOf t block)
/-- A block's configuration words; chain reads zero on even counters. -/
def configBytes (t : Telemetry) (block : Nat) : List Byte :=
  (List.range (counterCount block)).flatMap (fun k =>
    let w := (tget 0 t.config (counterKey block k)).toNat % 2 ^ 11
    bytesLE 2 (if k % 2 = 0 then w % 2 ^ 10 else w))
/-- A port's entry (R513). -/
def portEntry (p : PortWindow) : List Byte :=
  bytesLE 8 (p.frames.foldl (· + ·) 0) ++ bytesLE 4 (satTo (2 ^ 32 - 1) (p.frames.foldl max 0)) ++ bytesLE 4 (p.frames.length % 2 ^ 11)
/-- A tile's block of R462. -/
def tilePower (x : Snapshot) (t : Nat) : List Byte :=
  (List.range 10).flatMap (fun w => bytesLE 8 (tget 0 x.tele.energy (energyKey 0 t w))) ++ bytesLE 8 (tget 0 x.limits t).toNat
/-- A Lake's S0 and S1 words of each class (R406). -/
def lakeBytes (x : Snapshot) (l : Nat) : List Byte :=
  (List.range 5).flatMap (fun c =>
    let w := lakeStatus (tget LakeState.fresh x.lakes l) l c
    bytesLE 8 w.1.toNat ++ bytesLE 8 w.2.toNat)
/-- A link's status word and counter block. -/
def linkBytes (x : Snapshot) (l : Nat) : List Byte :=
  bytesLE 8 (tget 0 x.linkWords l).toNat ++ linkCounterBytes (tget LinkState.fresh x.links l)
/-- The rail counters in the order of R461, E_TOTAL last. -/
def railWords (x : Snapshot) : List Byte := (List.range 9).flatMap (fun w => bytesLE 8 (tget 0 x.tele.energy (energyKey 4 0 w)))
/-- The counters of a stack: E_DRAM and E_BASE. -/
def stackWords (x : Snapshot) (k : Nat) : List Byte := (List.range 2).flatMap (fun w => bytesLE 8 (tget 0 x.tele.energy (energyKey 1 k w)))

/-! ### The dump ring (R515 to R518) -/

/-- Padding to a multiple of 64 bytes. -/
def pad64 (bs : List Byte) : List Byte := bs ++ List.replicate ((64 - bs.length % 64) % 64) 0
/-- A section of a dump record (R516). -/
def dumpSection (x : Snapshot) (k : Nat) : List Byte :=
  pad64 (match k with
  | 0 => (List.range 256).flatMap (fun t => counterBytes x.tele t ++ List.replicate 8 0)
  | 1 => (List.range 256).flatMap (fun t => tilePower x t ++ List.replicate 8 0)
  | 2 => (List.range 8).flatMap (fun q => counterBytes x.tele (256 + q) ++ stackWords x q ++ List.replicate 24 0)
  | 3 => (List.range 48).flatMap (linkBytes x)
  | 4 => (List.range 258).flatMap (lakeBytes x)
  | 5 => (List.range 2).flatMap (fun d => counterBytes x.tele (264 + d) ++ List.replicate 24 0)
  | 6 => (List.range 128).flatMap (fun i => portEntry (tget PortWindow.zero x.tele.ports i))
  | _ => railWords x ++ List.replicate 56 0)
/-- The bytes of a section (R516). -/
def sectionSize (k : Nat) : Nat := [12288, 24576, 512, 4992, 20672, 128, 2048, 128].getD k 0
/-- The sections in force, and the size of a record with them. -/
def dumpSections (s : State) : Nat := setting s 0x00010203
def dumpSize (mask : Nat) : Nat := 64 + ((List.range 8).filter (fun k => mask.testBit k)).foldl (fun a k => a + sectionSize k) 0
/-- The slots of a ring. -/
def dumpSlots (length size : Nat) : Nat := (length - 64) / size
/-- The ring header (R517). -/
def ringHeader (r : DumpRing) : List Byte :=
  bytesLE 8 r.written ++ bytesLE 4 r.size ++ bytesLE 4 (dumpSlots r.length r.size) ++ bytesLE 8 r.dropped ++ List.replicate 40 0
/-- A dump record. -/
def dumpRecord (s : State) (x : Snapshot) (mask sequence : Nat) : List Byte :=
  let digest := if s.plan.loaded.isSome ∧ s.led.latest = some x.frame then s.led.digest else List.replicate 32 0
  bytesLE 4 0x5A4B5444 ++ [1] ++ bytesLE 1 mask ++ [0, 0] ++ bytesLE 6 x.frame ++ [0, 0] ++ bytesLE 4 sequence ++ bytesLE 4 (dumpSize mask) ++
    List.replicate 8 0 ++ digest ++ ((List.range 8).filter (fun k => mask.testBit k)).flatMap (dumpSection x)
/-- Writing bytes to host memory. -/
def writeHost (s : State) (a : Nat) (bytes : List Byte) : State := { s with mem.host := writeBytes s.mem.host a bytes }
/-- Whether a counter frame is on the dump period. -/
def dumpDue (s : State) (n : Nat) : Bool := (n + 1) % 2 ^ setting s 0x00010202 == 0
/-- The slot of record k: k mod S, counted from the record at which the size last changed, which takes slot 0. -/
def dumpSlot (r : DumpRing) : Nat := (r.sequence - r.base) % max 1 (dumpSlots r.length r.size)
/-- EV-0141 for dropped records (R518): at most once per 1,024 counter frames, with the number dropped since the last. -/
def dropEvent (s : State) : State :=
  let s' := raiseOnce s 1024 0x0141 unitPackage noLevel [s.cnt.dumpDrops]
  if s'.ev.once = s.ev.once then s else { s' with cnt.dumpDrops := 0 }
/-- A ring whose record size has changed: the next record takes slot 0 (R517). -/
def resizeRing (r : DumpRing) (size : Nat) : DumpRing := if r.size = size then r else { r with size := size, base := r.sequence }
/-- DUMP_RECORD_WRITE (R515, R518): the record of the latest snapshot, then the header, or a drop. -/
def execDumpRecordWrite (delivered : Bool) (s : State) : Result :=
  match s.cnt.ring, s.cnt.shadow with
  | some r, some x =>
    if dumpDue s x.frame then
      let mask := dumpSections s
      let r := resizeRing r (dumpSize mask)
      if delivered && x.complete && s.pin.pcieUp then
        let s := writeHost s (r.addr + 64 + dumpSlot r * r.size) (dumpRecord s x mask r.sequence)
        let r := { r with written := r.written + 1, sequence := r.sequence + 1 }
        .next { writeHost s r.addr (ringHeader r) with cnt.ring := some r }
      else
        .next (dropEvent { s with
          cnt.ring := some { r with sequence := r.sequence + 1, dropped := r.dropped + 1 }, cnt.dumpDrops := s.cnt.dumpDrops + 1 })
    else .next s
  | _, _ => .next s
/-- SNAPSHOT_COMPLETE (R506). -/
def execSnapshotComplete (s : State) : Result :=
  .next { s with cnt.shadow := s.cnt.shadow.map (fun (x : Snapshot) => { x with complete := true }) }

/-! ### The commands of group 0x0A (R519, R520) -/

/-- Whether a command names blocks of a kind. -/
def blocksExist (kind first count : Nat) : Bool := decide (0 < count) && decide (first + count ≤ kindCount kind)
/-- Whether a configuration word is in range for a kind. -/
def configOk (kind : Nat) (w : Half) : Bool := decide (cfEvent w ≤ kindEvents kind) && decide (w.toNat < 2 ^ 11)
/-- The blocks that a command names. -/
def namedBlocks (kind first count : Nat) : List Nat := (List.range count).map (fun i => blockOf kind (first + i))
/-- COUNTER_CONFIG (R508, R519). -/
def execCounterConfig (r : Req) (kind : Byte) (first count : Half) (words : List Half) (s : State) : Result :=
  .next (serve s r 0x0A01 (fun s =>
    let k := kind.toNat
    let n := counterCount (blockOf k 0)
    if words.length ≠ n then refuse s r 0x0A01 .badLength
    else if !(blocksExist k first.toNat count.toNat) || !(words.all (configOk k)) then refuse s r 0x0A01 .badField
    else
      let t := nextTick s
      let blocks := namedBlocks k first.toNat count.toNat
      let add := blocks.flatMap (fun b => words.zipIdx.map (fun x => (t, counterKey b x.2, x.1)))
      let s := { s with cnt.stagedConfig := s.cnt.stagedConfig ++ add }
      let state := bytesLE 1 k ++ (List.range count.toNat).flatMap (fun i => bytesLE 2 (first.toNat + i) ++ words.flatMap (fun w => bytesLE 2 w.toNat))
      settled s r 0x0A01 state (bytesLE 6 t)))
/-- COUNTER_READ (R506, R519). -/
def execCounterRead (r : Req) (kind : Byte) (first count : Half) (s : State) : Result :=
  .next (serve s r 0x0A02 (fun s =>
    if blocksExist kind.toNat first.toNat count.toNat then
      let t := (shadowOf s).tele
      answer s r 0x0A02 ((namedBlocks kind.toNat first.toNat count.toNat).flatMap (fun b => counterBytes t b ++ configBytes t b))
    else refuse s r 0x0A02 .badField))
/-- COUNTER_CLEAR (R512, R519). -/
def execCounterClear (r : Req) (kind : Byte) (first count : Half) (mask : Byte) (s : State) : Result :=
  .next (serve s r 0x0A03 (fun s =>
    if blocksExist kind.toNat first.toNat count.toNat then
      let t := nextTick s
      let blocks := namedBlocks kind.toNat first.toNat count.toNat
      let add := blocks.flatMap (fun b => ((List.range (counterCount b)).filter (fun k => mask.getLsbD k)).map (fun k => (t, counterKey b k)))
      let s := { s with cnt.stagedClear := s.cnt.stagedClear ++ add }
      let state := bytesLE 1 kind.toNat ++ bytesLE 2 first.toNat ++ bytesLE 2 count.toNat ++ bytesLE 1 mask.toNat ++ bytesLE 6 t
      settled s r 0x0A03 state (bytesLE 6 t)
    else refuse s r 0x0A03 .badField))
/-- Address and length of a host buffer as R478 and R520 digest them. -/
def bufferBytes (addr length : Nat) : List Byte := bytesLE 8 addr ++ bytesLE 8 length
/-- DUMP_REGISTER (R515). -/
def execDumpRegister (r : Req) (host length : DWord) (s : State) : Result :=
  .next (serve s r 0x0A04 (fun s =>
    let size := dumpSize (dumpSections s)
    if host.toNat % 4096 ≠ 0 ∨ length.toNat < 64 + 2 * size then refuse s r 0x0A04 .badField
    else
      let ring : DumpRing := { addr := host.toNat, length := length.toNat, written := 0, sequence := 0, base := 0, size := size, dropped := 0 }
      settled { s with cnt.ring := some ring } r 0x0A04 (bufferBytes host.toNat length.toNat)
        (bytesLE 4 size ++ bytesLE 4 (dumpSlots length.toNat size))))
/-- DUMP_RELEASE (R519). -/
def execDumpRelease (r : Req) (s : State) : Result :=
  .next (serve s r 0x0A05 (fun s =>
    let n := (s.cnt.ring.map DumpRing.written).getD 0
    settled { s with cnt.ring := none } r 0x0A05 (bufferBytes 0 0) (bytesLE 4 n)))
/-- BANDWIDTH_READ (R513). -/
def execBandwidthRead (r : Req) (first count : Byte) (s : State) : Result :=
  .next (serve s r 0x0A06 (fun s =>
    if 1 ≤ count.toNat ∧ first.toNat + count.toNat ≤ 128 then
      answer s r 0x0A06 ((List.range count.toNat).flatMap (fun i => portEntry (tget PortWindow.zero (shadowOf s).tele.ports (first.toNat + i))))
    else refuse s r 0x0A06 .badField))
/-- DUMP_STATUS (R519): zeros while no ring is registered. -/
def execDumpStatus (r : Req) (s : State) : Result :=
  .next (serve s r 0x0A07 (fun s =>
    match s.cnt.ring with
    | some g => answer s r 0x0A07 (bufferBytes g.addr g.length ++ ringHeader g)
    | none => answer s r 0x0A07 (List.replicate 80 0)))

end Sys2Proof.Machine
end

