-- ==== Sys2Proof/Machine/PlanCheck.lean ====
section
/-!
DEFINITION. Sys2Proof/Machine/PlanCheck.lean: what a package verifies of a plan image before it takes it (R235 to R254, R269 to R274,
R292, R298, R301, R315, R354, R435, R438, R439, R547): the first check that fails, in the order of R269.
-/
namespace Sys2Proof.Machine
open Sys2Proof

/-- A refusal of a plan: its reason, with the template and package index of the first offending descriptor (R269). -/
structure PlanFault where
  reason : Nat
  template : Nat
  index : Nat
  deriving DecidableEq, Repr
/-- A check that names no descriptor. -/
def need (reason : Nat) (ok : Bool) : Option PlanFault := if ok then none else some { reason := reason, template := 0, index := 0 }
/-- A check of every descriptor of a rank block, in template order. -/
def needDescs (reason : Nat) (b : RankBlock) (ok : Nat → Template → Desc → Bool) : Option PlanFault :=
  b.templates.zipIdx.findSome? (fun t =>
    (t.1.descs.find? (fun d => !(ok t.2 t.1 d))).map (fun d => { reason := reason, template := t.2, index := dsIndex d }))
/-- A check of every template. -/
def needTemplates (reason : Nat) (b : RankBlock) (ok : Nat → Template → Bool) : Option PlanFault :=
  (b.templates.zipIdx.find? (fun t => !(ok t.2 t.1))).map (fun t => { reason := reason, template := t.2, index := 0 })
/-- No two elements of a list are alike. -/
def distinct {α : Type} [DecidableEq α] (xs : List α) : Bool := decide (xs.eraseDups.length = xs.length)

/-! ### Header, directory and sections (R235 to R241, R292, R298, R435: reasons 2 to 6) -/

/-- Directory entries: section type, offset and length. -/
def dirType (e : BitVec 128) : Nat := bitsOf e 63 48
def dirOffset (e : BitVec 128) : Nat := bitsOf e 47 0
def dirLength (e : BitVec 128) : Nat := bitsOf e 127 64
/-- The section types of R236. -/
def sectionTypes : List Nat := [1, 2, 3, 4, 5, 6, 7, 8, 9, 0xFF]
/-- The size of the image. -/
def planSize (p : PlanImage) : Nat := (hdr p 0x30).toNat
/-- The directory: each type exactly once, no other, every section within SIZE. -/
def directoryOk (p : PlanImage) : Bool :=
  let used := p.directory.filter (fun e => dirType e != 0)
  decide (p.directory.length ≤ 16) && sectionTypes.all (fun t => used.countP (fun e => dirType e == t) == 1) &&
  used.all (fun e => sectionTypes.contains (dirType e) && decide (dirOffset e + dirLength e ≤ planSize p))
/-- The header's ranges and reserved bits. -/
def headerOk (p : PlanImage) : Bool :=
  let t := planTorus p
  let ext := fun (n : Nat) => decide (1 ≤ n) && decide (n ≤ 16)
  bitsOf (hdr p 0) 31 0 == 0x4E414C50 && bitsOf (hdr p 0) 63 48 == 0 && decide (1 ≤ planRanks p) && decide (planRanks p ≤ 1024) &&
  ext t.1 && ext t.2.1 && ext t.2.2 && bitsOf (hdr p 0x18) 15 11 == 0 && bitsOf (hdr p 0x18) 63 31 == 0 &&
  decide (1 ≤ planFrames p) && planSteps p == p.steps.length && bitsOf (hdr p 0x28) 63 2 == 0 && hdr p 0x38 == 0
/-- The rank table: one entry per rank in rank order, coordinates within the torus, reserved bits zero. -/
def ranksOk (p : PlanImage) : Bool :=
  let t := planTorus p
  p.ranks.map rkRank == List.range (planRanks p) &&
  p.ranks.all (fun e => let c := rkCoord e
    decide (c.1 < t.1) && decide (c.2.1 < t.2.1) && decide (c.2.2 < t.2.2) && bitsOf e 15 10 == 0 && bitsOf e 31 31 == 0 &&
    bitsOf e 255 128 == 0)
/-- The rank-block section (R238): blocks do not overlap each other or the index, and lie within the section. -/
def blocksOk (p : PlanImage) : Bool :=
  let n := bitsOf p.blockHeader 10 0
  let len := ((p.directory.find? (fun e => dirType e == 5)).map dirLength).getD 0
  let off := fun (e : BitVec 128) => bitsOf e 63 0
  let top := fun (e : BitVec 128) => bitsOf e 63 0 + bitsOf e 127 64
  decide (1 ≤ n) && decide (n ≤ 1024) && bitsOf p.blockHeader 127 11 == 0 && p.blockIndex.length == n && p.blocks.length == n &&
  p.blockIndex.all (fun e => off e % 64 == 0 && decide (16 + 16 * n ≤ off e) && decide (top e ≤ len)) &&
  (List.zipIdx p.blockIndex).all (fun a => (List.zipIdx p.blockIndex).all (fun b =>
    a.2 == b.2 || decide (top a.1 ≤ off b.1) || decide (top b.1 ≤ off a.1))) &&
  p.ranks.all (fun e => decide (rkBlock e < n))
/-- The plan positions of a sequence entry. -/
def entryStart (p : PlanImage) (k : Nat) : Nat := ((p.sequence.take k).map sqRepeat).foldl (· + ·) 0
/-- Whether a range of plan positions holds a frame with a phase mark. -/
def phaseWithin (p : PlanImage) (lo hi phase : Nat) : Bool :=
  (List.range p.sequence.length).any (fun k =>
    let e := seqEntry p k
    let a := entryStart p k
    sqPhase e == phase && decide (a ≤ hi) && decide (lo < a + sqRepeat e))
/-- The steps with the first plan position of each. -/
def stepSpans (p : PlanImage) : List (Nat × BitVec 128) := List.zip (0 :: p.steps.map (fun e => spCommit e + 1)) p.steps
/-- The sequence (R240). -/
def sequenceOk (p : PlanImage) : Bool :=
  p.sequence.all (fun e => decide (1 ≤ sqRepeat e) && decide (1 ≤ sqPhase e) && bitsOf e 31 20 == 0 && bitsOf e 127 64 == 0 &&
    p.blocks.all (fun b => decide (sqTemplate e < b.templates.length))) &&
  (p.sequence.map sqRepeat).foldl (· + ·) 0 == planFrames p
/-- The step table, in step order: each commit frame in an entry with step_commit, and where the step has learning-marked frames,
its first one named as one of them (R241). -/
def stepTableOk (p : PlanImage) : Bool :=
  (stepSpans p).all (fun x =>
    let e := x.2
    decide (x.1 ≤ spCommit e) && bitsOf e 127 96 == 0 &&
    (match seqAt p (spCommit e) with
     | some (k, _) => sqCommit (seqEntry p k)
     | none => false) &&
    (!(phaseWithin p x.1 (spCommit e) 2) ||
      (decide (x.1 ≤ spLearning e) && decide (spLearning e ≤ spCommit e) && phaseWithin p (spLearning e) (spLearning e) 2)))
/-- An update instruction of a prologue or a body (R295, R298); stores go to the master and the states (R293). -/
def instrOk (body second : Bool) (w : Word) : Bool :=
  let op := bitsOf w 31 26
  let imm := bitsOf w 5 0
  let writes := !(op == 0 || op == 2 || op == 0x12)
  decide (op ≤ 0x12) && !(second && op == 0x12) &&
  (if op = 1 then decide (imm ≤ 7) else if op = 2 then imm == 0 || (decide (2 ≤ imm) && decide (imm ≤ 5))
   else if op = 0x12 then decide (imm ≤ 3) else imm == 0) &&
  (if body then !writes || decide (bitsOf w 25 21 < 16)
   else op != 1 && op != 2 && op != 0x12 && (!writes || decide (16 ≤ bitsOf w 25 21)))
/-- The programs: lengths and registers. -/
def programOk (g : UpdProgram) : Bool :=
  decide (g.consts.length ≤ 6) && decide (g.prologue1.length ≤ 32) && decide (g.prologue2.length ≤ 32) &&
  decide (g.body1.length ≤ 128) && decide (g.body2.length ≤ 128) && g.prologue1.all (instrOk false false) &&
  g.prologue2.all (instrOk false true) && g.body1.all (instrOk true false) && g.body2.all (instrOk true true)
/-- A curve: at least one used point, counts rising, values finite, unused points last (R303). -/
def curveOk (c : List DWord) : Bool :=
  let used := c.filter (fun p => bitsOf p 31 0 != 0xFFFFFFFF)
  c.length == 64 && !used.isEmpty && c.take used.length == used && used.all (fun p => (ofF32 (BitVec.ofNat 32 (bitsOf p 63 32))).isFinite) &&
  (List.zip used (used.drop 1)).all (fun x => decide (bitsOf x.1 31 0 < bitsOf x.2 31 0))
/-- A group table entry (R292). -/
def groupOk (p : PlanImage) (e : BitVec 512) : Bool :=
  decide (gpProgram e < p.update.programs.length) && decide (gpPrecond e < 3) && (List.range 4).all (fun k => decide (gpStateFmt e k < 3)) &&
  decide (1 ≤ gpElements e) && decide (gpElements e ≤ 2 ^ 36) &&
  (if gpPrecond e = 0 then gpRows e == 0 && gpPeriod e == 0
   else decide (0 < gpRows e) && gpElements e % gpRows e == 0 && decide (1 ≤ gpPeriod e) && decide (gpPeriod e ≤ 4096)) &&
  ((p.regions[gpBankRegion e]?).map rgKind) == some 8 && gpBankBase e % 4096 == 0 && decide (gpCurves e ≤ 4) &&
  decide (gpSched e + gpCurves e ≤ p.update.curves.length) && bitsOf e 31 28 == 0 && bitsOf e 63 40 == 0 && bitsOf e 351 339 == 0 &&
  bitsOf e 383 376 == 0 && bitsOf e 511 448 == 0
/-- The update section (R291, R292, R298, R303). -/
def updateOk (p : PlanImage) : Bool :=
  decide (p.update.programs.length ≤ 64) && p.update.programs.all programOk && p.update.curves.all curveOk &&
  p.update.groups.all (groupOk p) &&
  (List.zip p.update.groups (p.update.groups.drop 1)).all (fun x => decide (gpNumber x.1 < gpNumber x.2))
/-- The Mirror and checkpoint plan (R435). -/
def ckptOk (p : PlanImage) : Bool :=
  let h := p.ckptHeader
  (ckStart h == 1 || ckStart h == 2) && (ckSlots h == 1 || ckSlots h == 2) && bitsOf h 31 21 == 0 && bitsOf h 127 68 == 0 &&
  bitsOf h 511 384 == 0 && ckBaseCount h == p.update.tBase.toNat && p.ckptEntries.map ceRank == List.range (planRanks p) &&
  (ckRegions h).all (fun r => match p.regions[r]? with
    | some e => rgKind e == 0 || rgKind e == 8
    | none => false)
/-- Reasons 2 to 5. -/
def checkHeader (s : State) (p : PlanImage) : Option PlanFault :=
  [need 2 (bitsOf (hdr p 0) 39 32 == 3), need 3 (bitsOf (hdr p 0x08) 63 32 == s.eo.fwVersion),
   need 4 (headerOk p && directoryOk p && ranksOk p && blocksOk p && sequenceOk p && stepTableOk p && updateOk p && ckptOk p),
   need 5 (p.ranks.countP (fun e => rkSerial e == s.id.serial) == 1)].findSome? id
/-- A region (R239, R144, R276): within the capacity below the device-reserved region, aligned, with its kind's length. -/
def regionOk (s : State) (e : BitVec 128) : Bool :=
  decide (rgKind e ≤ 9) && bitsOf e 7 3 == 0 && rgBase e % 4096 == 0 && rgLength e % 4096 == 0 &&
  decide (rgBase e + rgLength e + 2 ^ 28 ≤ stackBytes s (rgStack e)) &&
  (rgKind e != 1 || (rgBase e % 8192 == 0 && (List.range 7).any (fun n => rgLength e == 8192 * 2 ^ (n + 10))))
/-- Regions do not overlap. -/
def regionsApart (p : PlanImage) : Bool :=
  (List.zipIdx p.regions).all (fun a => (List.zipIdx p.regions).all (fun b =>
    a.2 == b.2 || rgStack a.1 != rgStack b.1 || decide (rgBase a.1 + rgLength a.1 ≤ rgBase b.1) ||
      decide (rgBase b.1 + rgLength b.1 ≤ rgBase a.1)))

/-! ### Units (R142, R176, R416: reason 7) -/

/-- Whether a record in state 2 of an I/O die or the package refuses every plan (R416). -/
def packageRetired (s : State) : Bool :=
  s.hl.recs.any (fun x => decide (x.2.state = .retired) && (x.1 / 4096 == 5 || x.1 / 4096 == 6))
/-- Whether a descriptor works on one of the units. -/
def namesUnit (us : List UnitRef) (d : Desc) : Bool :=
  us.contains (unitTile (dsTile d)) || ((dsClass d == 1 || dsClass d == 5) && us.contains (unitArray (16 * dsTile d + dsArray d)))
/-- Reason 7: nothing restricted is used; the first descriptor that works on a restricted unit is named. -/
def checkUnits (s : State) (p : PlanImage) (rank : Nat) (b : RankBlock) : Option PlanFault :=
  let us := restrictedUnits s p rank ++
    (s.arrays.filter (fun x => x.2.quarantined && planUses p rank (unitArray x.1))).map (fun x => unitArray x.1)
  if us.isEmpty && !(packageRetired s) then none
  else (needDescs 7 b (fun _ _ d => !(namesUnit us d))).orElse (fun _ => need 7 false)

/-! ### Operands and descriptors (R23, R99, R195, R243 to R250, R278, R315, R351, R352, R547: reasons 8 and 9) -/

/-- The format that the weight map gives an array, W2 without an entry. -/
def mapFormat (b : RankBlock) (tile arr : Nat) : Nat :=
  ((b.weightMap.find? (fun e => wmTile e == tile && wmArray e == arr)).map wmFormat).getD 1
/-- Bytes of whole 64 by 64 tiles that a transposed read moves (R195). -/
def transposeBytes (d : Desc) : Nat := ((dmRows d + 63) / 64) * ((dmCols d + 63) / 64) * 8192
/-- Bytes that the operands D4, D5 and D6 of a descriptor cover in one iteration. An attend's KV pool operand covers none: the
context's blocks are found when it runs. -/
def operandBytes (b : RankBlock) (d : Desc) : Nat × Nat × Nat :=
  match dsClass d with
  | 1 => (512 * mvVectors d, 2056 * mvVectors d, 2 * fmtColumns (mapFormat b (dsTile d) (dsArray d)) * mvVectors d)
  | 2 =>
    let e := if mxMode d = 1 then 64 else 32
    (panelBytes (mxM d) (mxLen d) e, panelBytes (mxN d) (mxLen d) e,
     elemSize (mxBf16 d) * 4096 * (((mxM d + 63) / 64) * ((mxN d + 63) / 64)))
  | 3 =>
    let (x, y, z) := vecSizes d
    (x, y, if vcCode d = 0x0E then max z (vcElements d * elemSize (vcInBf16 d)) else z)
  | 4 =>
    if dmTranspose d then ((dmRows d - 1) * dmPitch d + 2 * dmCols d, panelBytes (dmCols d) (dmRows d) 32, 0)
    else (dmBytes d, dmBytes d, 0)
  | 6 => (64 + 2 * atWidth d, 0, 2 * atWidth d)
  | 7 => (4 * smCount d, 0, 0)
  | 8 => (qtElements d * elemSize (qtInBf16 d), 512 * ((qtElements d + 511) / 512), 2056 * ((qtElements d + 511) / 512))
  | 9 => (64 * cpBlocks d, 33 * cpBlocks d, 0)
  | _ => (0, 0, 0)
/-- Iterations that a template runs: the largest repeat of its sequence entries. -/
def templateRuns (p : PlanImage) (t : Nat) : Nat :=
  (p.sequence.filter (fun e => sqTemplate e == t)).foldl (fun m e => max m (sqRepeat e)) 0
/-- The lowest and highest offset of an operand over all iterations. -/
def operandSpan (p : PlanImage) (n : Nat) (t : Template) (w : DWord) (bytes : Nat) : Int × Int :=
  let stride : Int := if oprStride w = 0 then 0 else signedOf 32 (t.strides.getD (oprStride w - 1) 0).toNat
  let runs : Int := ((templateRuns p n - 1 : Nat) : Int)
  let a : Int := oprOffset w
  let b := a + runs * stride
  (min a b, max a b + bytes)
/-- Whether a tile memory operand stays clear of the Lake (R23). -/
def clearOfLake (p : PlanImage) (n : Nat) (t : Template) (w : DWord) (bytes : Nat) : Bool :=
  !([1, 2].contains (oprSpace w)) || decide ((operandSpan p n t w bytes).2 ≤ 0x5C0000)
/-- Whether every address of an operand lies within its space (R239, R244, R245). -/
def withinSpace (p : PlanImage) (n : Nat) (t : Template) (w : DWord) (bytes : Nat) : Bool :=
  let x := operandSpan p n t w bytes
  decide (oprStride w ≤ t.strides.length) && decide (0 ≤ x.1) &&
  (match oprSpace w with
   | 3 => ((p.regions[oprUnit w]?).map (fun e => decide (x.2 ≤ (rgLength e : Int)))).getD false
   | 5 => decide (x.2 ≤ 0x5C0000)
   | k => decide (k ≤ 5))
/-- The tile whose memory an operand lies in: an accumulator group's is the home tile's (R245). -/
def operandTile (t : Template) (d : Desc) (w : DWord) : Option Nat :=
  match oprSpace w with
  | 1 => some (dsTile d)
  | 2 => some (oprUnit w)
  | 5 => some (dsTile (homeDesc t d))
  | _ => none
/-- What a descriptor writes: the operand and its bytes. -/
def writtenOperand (b : RankBlock) (d : Desc) : List (DWord × Nat) :=
  let (_, y, z) := operandBytes b d
  match dsClass d with
  | 4 | 9 => [(d.d5, y)]
  | 8 => [(d.d5, y), (d.d6, z)]
  | 1 | 2 | 3 | 6 => [(d.d6, z)]
  | _ => []
/-- What a descriptor reads. -/
def readOperands (b : RankBlock) (d : Desc) : List (DWord × Nat) :=
  let (x, y, z) := operandBytes b d
  match dsClass d with
  | 1 => [(d.d4, x), (d.d5, y)]
  | 2 => [(d.d4, x), (d.d5, y)] ++ (if mxAcc d then [(d.d6, z)] else [])
  | 3 => [(d.d4, x), (d.d5, y)] ++ (if vcCode d = 0x0E then [(d.d6, z)] else [])
  | 4 | 6 | 7 | 8 | 9 => [(d.d4, x)]
  | _ => []
/-- Whether bytes of a tile's memory lie in its programmed-weight image (R99). -/
def inImage (b : RankBlock) (tile : Option Nat) (span : Int × Int) : Bool :=
  b.imageBase.any (fun x => some x.1 == tile && decide (span.1 < ((x.2 + 0x100000 : Nat) : Int)) && decide ((x.2 : Int) < span.2))
/-- The rank whose group in a direction ends at a rank, where the dimension has more than one position (R350, R351). -/
def senderOf (p : PlanImage) (rank dir : Nat) : Option Nat :=
  let t := planTorus p
  let extent := [t.1, t.2.1, t.2.2].getD (dir / 2) 1
  if extent ≤ 1 then none else rankAt p (stepCoord p (coordOf p rank) (if dir % 2 = 0 then dir + 1 else dir - 1))
/-- The slot entries that reach a rank in a template, with the sender's template. -/
def arriving (p : PlanImage) (rank n : Nat) : List (Template × BitVec 256) :=
  (List.range 6).flatMap (fun k => match (senderOf p rank k).bind (rankBlock p) with
    | none => []
    | some b => match b.templates[n]? with
      | none => []
      | some t => (b.slots.getD (6 * n + k) []).map (fun e => (t, e)))
/-- A rank block's slot entries of a template. -/
def leaving (b : RankBlock) (n : Nat) : List (BitVec 256) := (List.range 6).flatMap (fun k => b.slots.getD (6 * n + k) [])
/-- Reason 8: no operand addresses the Lake, none is written into the programmed-weight image, and the image lies where R99 says;
link entries are operations too (R352). -/
def checkPlaces (p : PlanImage) (rank : Nat) (b : RankBlock) : Option PlanFault :=
  [need 8 (b.imageBase.all (fun x => x.2 % 0x100000 == 0 && decide (x.2 + 0x100000 ≤ 0x5C0000))),
   needDescs 8 b (fun n t d =>
     let (x, y, z) := operandBytes b d
     clearOfLake p n t d.d4 x && clearOfLake p n t d.d5 y && clearOfLake p n t d.d6 z &&
     !((writtenOperand b d).any (fun w => inImage b (operandTile t d w.1) (operandSpan p n t w.1 w.2)))),
   needTemplates 8 b (fun n t => (leaving b n).all (fun e =>
     clearOfLake p n t (slSource e) (slBytes e) && clearOfLake p n t (slDest e) (slBytes e)) &&
     (arriving p rank n).all (fun x => !(oprSpace (slDest x.2) == 2 &&
       inImage b (some (oprUnit (slDest x.2))) (operandSpan p n x.1 (slDest x.2) (slBytes x.2)))))].findSome? id
/-- Codes of R248. -/
def vectorCodes : List Nat := [1, 2, 3, 4, 5, 6, 7, 8, 9, 0xA, 0xB, 0xC, 0xD, 0xE, 0x10, 0x20, 0x21, 0x22]
/-- A vector code's use of D5. -/
def usesSecond (code : Nat) : Bool := [1, 2, 3, 4, 5, 6, 0xD, 0xE, 0x21, 0x22].contains code
/-- Whether D4, D5 and D6 of a descriptor are used (R247, R248). -/
def operandsUsed (d : Desc) : Bool × Bool × Bool :=
  match dsClass d with
  | 1 | 2 | 6 | 8 => (true, true, true)
  | 3 => (true, usesSecond (vcCode d), true)
  | 4 | 9 => (true, true, false)
  | 7 => (true, false, false)
  | _ => (false, false, false)
/-- Whether an operand's space is one that its class has: the off-load buffer is a DMA's alone, an accumulator group an MVM's. -/
def spaceOk (d : Desc) (used sixth : Bool) (w : DWord) : Bool :=
  if oprSpace w = 0 then !used
  else if oprSpace w = 5 then dsClass d == 1 && sixth
  else if oprSpace w = 4 then dsClass d == 4
  else !(dsClass d == 1 && sixth) && decide (oprSpace w ≤ 3)
/-- A descriptor's class, fields and predecessors (R243 to R250), reserved bits zero. -/
def descOk (d : Desc) : Bool :=
  decide (1 ≤ dsClass d) && decide (dsClass d ≤ 10) && bitsOf d.d0 15 8 == 0 && bitsOf d.d0 31 28 == 0 && bitsOf d.d0 63 55 == 0 &&
  (dsClass d == 1 || bitsOf d.d0 7 6 == 0) && bitsOf d.d1 63 60 == 0 && bitsOf d.d2 63 20 == 0 &&
  decide (dsPredCount d ≤ 4) && dsIndex d / 4096 == dsTile d && decide (dsNotBefore d < 120000) && bitsOf d.d3 31 17 == 0 &&
  [d.d4, d.d5, d.d6].all (fun w => bitsOf w 63 56 == 0) &&
  spaceOk d (operandsUsed d).1 false d.d4 && spaceOk d (operandsUsed d).2.1 false d.d5 && spaceOk d (operandsUsed d).2.2 true d.d6 &&
  (match dsClass d with
   | 1 => decide (1 ≤ mvContrib d) && decide (1 ≤ mvVectors d) && decide (mvVectors d ≤ 1562) && bitsOf d.d7 63 62 == 0
   | 2 => decide (1 ≤ mxM d) && decide (1 ≤ mxN d) && decide (1 ≤ mxLen d) && decide (mxMode d < 3) && !(mxMode d == 1 && mxBf16 d) &&
     bitsOf d.d7 63 56 == 0
   | 3 =>
     let rows := [0x10, 0x20, 0x21].contains (vcCode d)
     vectorCodes.contains (vcCode d) && decide (1 ≤ vcElements d) && (if vcCode d = 0xC then decide (vcConv d ≤ 4) else vcConv d == 0) &&
     (if rows then decide (1 ≤ vcRow d) && vcElements d % max 1 (vcRow d) == 0 else vcRow d == 0) && bitsOf d.d7 47 47 == 0
   | 4 => if dmTranspose d then decide (1 ≤ dmRows d) && decide (1 ≤ dmCols d) && decide (1 ≤ bitsOf d.d7 52 33) && bitsOf d.d7 63 53 == 0
     else bitsOf d.d7 63 33 == 0
   | 5 => decide (1 ≤ prSlots d) && decide (prSlots d ≤ 128) && decide (prEnergy d ≤ 1024)
   | 6 => decide (atWidthCode d ≤ 3) && decide (atContext d < 262144) && bitsOf d.d7 63 48 == 0
   | 7 => decide (smFirst d + smCount d ≤ 262144)
   | 8 => decide (1 ≤ qtElements d) && bitsOf d.d7 63 49 == 0
   | _ => true)
/-- A slot entry's fields (R352). -/
def slotOk (e : BitVec 256) : Bool :=
  decide (1 ≤ slKind e) && decide (slKind e ≤ 5) && decide (slEarliest e ≤ 15619) && decide (1 ≤ slBytes e) &&
  decide (slBytes e ≤ 68157440) && bitsOf e 19 18 == 0 && bitsOf e 63 40 == 0 && bitsOf e 255 224 == 0
/-- A template's slot lists: no entry in a dimension of extent 1 (R351), and every entry's fields (R352). -/
def slotsOk (p : PlanImage) (b : RankBlock) (n : Nat) : Bool :=
  let t := planTorus p
  (List.range 6).all (fun k => let list := b.slots.getD (6 * n + k) []
    (list.isEmpty || decide (1 < [t.1, t.2.1, t.2.2].getD (k / 2) 1)) && list.all slotOk)
/-- An accumulator group's contributors give one D6, in the memory of the home tile (R245). -/
def groupHomeOk (t : Template) (d : Desc) : Bool :=
  dsClass d != 1 || (groupDescs t (mvGroup d)).all (fun x => x.d6 == d.d6)
/-- The numerics list (R315). -/
def numericsOk (b : RankBlock) : Bool :=
  let es := b.numerics
  distinct (es.map nmIndex) && distinct (es.map nmTensor) && decide (es.countP nmMonitored ≤ 4096) &&
  es.all (fun e => let v := ofF32 (nmInitial e)
    nmKind e != 0 && v.isFinite && !v.isZero && !v.isNeg && decide (2 ^ 23 ≤ (nmInitial e).toNat))
/-- The weight map (R547). -/
def weightMapOk (p : PlanImage) (b : RankBlock) (e : BitVec 256) : Bool :=
  let pos := fun (w : Word) => (ofF32 w).isFinite && !(ofF32 w).isZero && !(ofF32 w).isNeg
  let cols := if wmCols e = 0 then 0 else wmCols e - 1
  let corners := [(0, 0), (0, cols), (wmRows e - 1, 0), (wmRows e - 1, cols)]
  decide (1 ≤ wmRows e) && decide (wmRows e ≤ 512) && decide (1 ≤ wmCols e) && decide (wmCols e ≤ fmtColumns (wmFormat e)) &&
  (if wmFormat e = 3 then (List.range 73).all (fun k => pos (mapScale b e k)) else pos (wmScale e)) &&
  (match p.update.groups.find? (fun g => gpNumber g == wmGroup e) with
   | none => false
   | some g => corners.all (fun rc => decide (0 ≤ wmElement e rc.1 rc.2) && decide (wmElement e rc.1 rc.2 < (gpElements g : Int))))
/-- Whether an index is a declared scale. -/
def declaredScale (b : RankBlock) (i : Nat) : Bool := b.numerics.any (fun e => nmIndex e == i && nmIsScale e)
/-- Reason 9. -/
def checkDescs (p : PlanImage) (b : RankBlock) : Option PlanFault :=
  [needDescs 9 b (fun n t d =>
     let (x, y, z) := operandBytes b d
     descOk d && groupHomeOk t d && withinSpace p n t d.d4 x && withinSpace p n t d.d5 y && withinSpace p n t d.d6 z &&
     (dsClass d != 1 || declaredScale b (mvScale d)) && (dsClass d != 8 || declaredScale b (qtScale d))),
   needTemplates 9 b (fun n t => distinct (t.descs.map dsIndex) && decide (t.strides.length ≤ 255) && slotsOk p b n),
   need 9 (numericsOk b && b.weightMap.all (weightMapOk p b))].findSome? id

/-! ### Order, budget and limits (R65, R71, R252 to R254, R162, R283: reasons 10 to 12) -/

/-- The operations that reach an operation through chains of predecessors, in as many rounds as the fuel gives. -/
def ancestors (t : Template) : Nat → List Nat → List Nat
  | 0, xs => xs
  | n + 1, xs =>
    let more := (xs.flatMap (fun i => ((descOf t i).map dsPreds).getD [])).filter (fun i => !(xs.contains i))
    if more.isEmpty then xs else ancestors t n (xs ++ more.eraseDups)
/-- Whether an operation comes after another. -/
def comesAfter (t : Template) (a b : Nat) : Bool := (ancestors t t.descs.length (((descOf t a).map dsPreds).getD [])).contains b
/-- The absolute span of an operand: its space's number and unit, and its offsets. -/
def absSpan (p : PlanImage) (n : Nat) (t : Template) (d : Desc) (w : DWord × Nat) : Option (Nat × Nat × Int × Int) :=
  let s := operandSpan p n t w.1 w.2
  match oprSpace w.1 with
  | 3 => some (1, oprUnit w.1, s)
  | _ => (operandTile t d w.1).map (fun x => (0, x, s))
/-- The absolute span of a slot entry's operand, whose unit is a tile in space 1 as in space 2. -/
def slotSpan (p : PlanImage) (n : Nat) (t : Template) (w : DWord) (bytes : Nat) : Option (Nat × Nat × Int × Int) :=
  match oprSpace w with
  | 1 | 2 => some (0, oprUnit w, operandSpan p n t w bytes)
  | 3 => some (1, oprUnit w, operandSpan p n t w bytes)
  | _ => none
/-- Whether two operands share a byte. -/
def spansMeet (x y : Option (Nat × Nat × Int × Int)) : Bool :=
  match x, y with
  | some (k, u, a, b), some (k', u', a', b') => k == k' && u == u' && decide (a < b') && decide (a' < b)
  | _, _ => false
/-- The spans of operands that cover a byte. -/
def spansOf (p : PlanImage) (n : Nat) (t : Template) (d : Desc) (ws : List (DWord × Nat)) : List (Option (Nat × Nat × Int × Int)) :=
  (ws.filter (fun w => decide (0 < w.2))).map (absSpan p n t d)
/-- Whether two operations touch a byte that one of them writes; accumulation into one group is unordered by design (R252). -/
def hazard (p : PlanImage) (b : RankBlock) (n : Nat) (t : Template) (x y : Desc) : Bool :=
  let meets := fun (us vs : List (Option (Nat × Nat × Int × Int))) => us.any (fun u => vs.any (spansMeet u))
  let wx := spansOf p n t x (writtenOperand b x)
  let wy := spansOf p n t y (writtenOperand b y)
  (!(dsClass x == 1 && dsClass y == 1 && mvGroup x == mvGroup y) && meets wx wy) ||
  meets wx (spansOf p n t y (readOperands b y)) || meets wy (spansOf p n t x (readOperands b x))
/-- Whether an operation is ordered after the join that each entry arriving in its bytes names (R355). -/
def joinedOk (p : PlanImage) (rank : Nat) (b : RankBlock) (n : Nat) (t : Template) (d : Desc) : Bool :=
  (arriving p rank n).all (fun x =>
    !((spansOf p n t d (writtenOperand b d ++ readOperands b d)).any
      (spansMeet (slotSpan p n x.1 (slDest x.2) (slBytes x.2)))) || comesAfter t (dsIndex d) (slJoin x.2))
/-- Reason 10: predecessors within the template and acyclic, every hazard ordered, and no operation of the frame writes the source
of a slot entry (R354); what an entry delivers is touched after its join (R355). -/
def checkOrder (p : PlanImage) (rank : Nat) (b : RankBlock) : Option PlanFault :=
  [needDescs 10 b (fun _ t d => (dsPreds d).all (fun i => (descOf t i).isSome) && !(comesAfter t (dsIndex d) (dsIndex d))),
   needDescs 10 b (fun n t d => t.descs.all (fun x =>
     dsIndex x == dsIndex d || !(hazard p b n t d x) || comesAfter t (dsIndex d) (dsIndex x) || comesAfter t (dsIndex x) (dsIndex d))),
   needDescs 10 b (fun n t d => (leaving b n).all (fun e =>
     !((spansOf p n t d (writtenOperand b d)).any (spansMeet (slotSpan p n t (slSource e) (slBytes e)))))),
   needDescs 10 b (joinedOk p rank b)].findSome? id
/-- Engine cycles of a matrix operation (R194). -/
def matrixCycles (m n len mode : Nat) : Nat :=
  ((m + 63) / 64) * ((n + 63) / 64) *
    ((if mode = 1 then 16 * ((len + 63) / 64) else if mode = 2 then 256 * ((len + 31) / 32) else 32 * ((len + 31) / 32)) + 24)
/-- Vector-engine cycles of an element-wise step. -/
def vecCycles (n : Nat) (simple : Bool) : Nat := if simple then (n + 127) / 128 else (n + 31) / 32
/-- Vector-engine cycles of a descriptor (R254): a composite is the sum of the steps that R201 defines. -/
def vectorCycles (d : Desc) : Nat :=
  let n := vcElements d
  match dsClass d with
  | 3 =>
    let rows := n / max 1 (vcRow d)
    match vcCode d with
    | 0x20 => 3 * vecCycles n true + 2 * vecCycles n false
    | 0x21 => 4 * vecCycles n true + vecCycles rows true + vecCycles rows false + vecCycles rows false
    | 0x22 => 2 * vecCycles n true + vecCycles n true + 2 * vecCycles n false
    | c => vecCycles n ([1, 2, 3, 5, 6, 0xC, 0xD, 0xE, 0x10].contains c)
  | 8 => vecCycles (qtElements d) true
  | 9 => vecCycles (32 * cpBlocks d) true
  | _ => 0
/-- Cycles of a DMA at its tile's queue port. -/
def portCycles (b : RankBlock) (d : Desc) : Nat :=
  if dsClass d ≠ 4 then 0 else ((if dmTranspose d then transposeBytes d else (operandBytes b d).2.1) + 127) / 128
/-- Whole codewords that a range covers. -/
def codewords (lo n : Nat) : Nat := if n = 0 then 0 else (lo + n + 63) / 64 - lo / 64
/-- Bytes that a stack moves for a write: a codeword written in part counts 64 bytes read and 64 written (R278). -/
def writeCost (lo n : Nat) : Nat :=
  let whole := (lo + n) / 64 - (lo + 63) / 64
  64 * (whole + 2 * (codewords lo n - whole))
/-- Whether an operand lies in a stack. -/
def inStack (p : PlanImage) (k : Nat) (w : DWord × Nat) : Bool :=
  oprSpace w.1 == 3 && (p.regions[oprUnit w.1]?).map rgStack == some k
/-- The bytes that a descriptor reads of an operand: a transposed read moves whole tiles (R195). -/
def readCost (d : Desc) (w : DWord × Nat) : Nat := if dsClass d = 4 ∧ dmTranspose d then transposeBytes d else w.2
/-- Bytes of HBM that a descriptor reads and writes on a stack. -/
def hbmCost (p : PlanImage) (b : RankBlock) (k : Nat) (d : Desc) : Nat :=
  ((readOperands b d).map (fun w => if inStack p k w then readCost d w else 0)).foldl (· + ·) 0 +
  ((writtenOperand b d).map (fun w => if inStack p k w then writeCost (oprOffset w.1) w.2 else 0)).foldl (· + ·) 0
/-- Journaled bytes of a descriptor on a stack: the pre-image of every codeword that it writes (R283, R284). -/
def journalCost (p : PlanImage) (b : RankBlock) (k : Nat) (d : Desc) : Nat :=
  ((writtenOperand b d).map (fun w => if inStack p k w then 64 * codewords (oprOffset w.1) w.2 else 0)).foldl (· + ·) 0
/-- A sum over the descriptors of a template. -/
def total (t : Template) (f : Desc → Nat) : Nat := (t.descs.map f).foldl (· + ·) 0
/-- The arrays, tiles and stacks that a template's sums run over. -/
def tilesOf (t : Template) : List Nat := (t.descs.map dsTile).eraseDups
def arraysOf (t : Template) : List Nat := ((t.descs.filter (fun d => dsClass d == 1 || dsClass d == 5)).map (fun d => 16 * dsTile d + dsArray d)).eraseDups
/-- Bytes between two quadrants in one direction (R24, R254): from the quadrant of what is read to the tile, and from the tile to
what is written. -/
def quadCost (p : PlanImage) (b : RankBlock) (x y : Nat) (d : Desc) : Nat :=
  let quad := fun (w : DWord) => match oprSpace w with
    | 2 => some (quadOfTile (oprUnit w))
    | 3 => (p.regions[oprUnit w]?).map (fun e => quadOfStack (rgStack e))
    | _ => none
  let own := quadOfTile (dsTile d)
  ((readOperands b d).map (fun w => if quad w.1 = some x ∧ own = y then readCost d w else 0)).foldl (· + ·) 0 +
  ((writtenOperand b d).map (fun w => if own = x ∧ quad w.1 = some y then w.2 else 0)).foldl (· + ·) 0
/-- Matrix-engine cycles of a descriptor on its tile (R194, R254): matrix operations, Reference MVMs, and the products of an
attend over the one position that every run of it has, since its context's length is not known at load. -/
def engineCycles (d : Desc) : Nat :=
  match dsClass d with
  | 1 => if dsReference d then matrixCycles (mvVectors d) 512 512 1 else 0
  | 2 => matrixCycles (mxM d) (mxN d) (mxLen d) (mxMode d)
  | 6 => matrixCycles 1 1 (atWidth d) 0 + matrixCycles 1 (atWidth d) 1 0
  | _ => 0
/-- Bytes of HBM that a template moves on a stack. -/
def stackCost (p : PlanImage) (b : RankBlock) (t : Template) (k : Nat) : Nat := total t (hbmCost p b k)
/-- Reason 11: the frame budget and the write budget. -/
def budgetOk (s : State) (p : PlanImage) (b : RankBlock) (t : Template) : Bool :=
  let mvm := fun (k : Nat) => total t (fun d => if dsClass d = 1 ∧ !dsReference d ∧ 16 * dsTile d + dsArray d = k then slotsOf d else 0)
  let win := fun (k : Nat) => total t (fun d => if dsClass d = 5 ∧ 16 * dsTile d + dsArray d = k then prSlots d else 0)
  let onTile := fun (x : Nat) (f : Desc → Nat) => decide (total t (fun d => if dsTile d = x then f d else 0) ≤ 105600)
  let budget := ((p.settings.find? (fun x => x.1 == 0x00020202)).map (fun x => x.2.toNat)).getD (stagedSetting s 0x00020202)
  (arraysOf t).all (fun k => decide (mvm k ≤ 1375) && decide (mvm k + win k ≤ 1562)) &&
  (tilesOf t).all (fun x => onTile x engineCycles && onTile x vectorCycles && onTile x (portCycles b)) &&
  (List.range 8).all (fun k => decide (stackCost p b t k ≤ 176000000) && decide (total t (journalCost p b k) ≤ 8000000)) &&
  (List.range 4).all (fun x => (List.range 4).all (fun y => x == y || decide (total t (quadCost p b x y) ≤ 88000000))) &&
  decide (total t (fun d => if dsClass d = 5 then prEnergy d else 0) ≤ budget)
/-- The link limits of R354, for each direction of a dimension with more than one position: the flits of its list, and its C0
entry. -/
def linksOk (p : PlanImage) (b : RankBlock) (n : Nat) : Bool :=
  let t := planTorus p
  (List.range 6).all (fun k => let list := b.slots.getD (6 * n + k) []
    decide ([t.1, t.2.1, t.2.2].getD (k / 2) 1 ≤ 1) ||
    (decide ((list.map slFlits).foldl (· + ·) 0 ≤ 106496) && list.any (fun e => slKind e == 3 && decide (64 ≤ slFlits e))))
/-- Reason 12: rows of an accumulator group (R65), by the contributors that a descriptor names, and INT8 lengths (R71). -/
def limitsOk (b : RankBlock) (t : Template) (d : Desc) : Bool :=
  (dsClass d != 2 || mxMode d != 1 || decide (mxLen d ≤ 131071)) &&
  (dsClass d != 1 || decide (512 * max (mvContrib d) (groupDescs t (mvGroup d)).length ≤ fmtRowLimit (mapFormat b (dsTile d) (dsArray d))))

/-! ### Transfers, steps and boundaries (R34, R170, R206, R217 to R219, R272, R301, R376, R378: reasons 13 to 17) -/

/-- Whether a template writes bytes that an operand reads: what it leaves is previous-frame data of the frame after it. -/
def writesInto (p : PlanImage) (b : RankBlock) (n : Nat) (t : Template) (x : Option (Nat × Nat × Int × Int)) : Bool :=
  t.descs.any (fun d => (spansOf p n t d (writtenOperand b d)).any (fun w => spansMeet w x))
/-- The templates that run just before a template in the sequence, itself where it repeats. -/
def templatesBefore (p : PlanImage) (n : Nat) : List Nat :=
  let ts := p.sequence.map sqTemplate
  ((List.zip ts (ts.drop 1)).filterMap (fun x => if x.2 = n then some x.1 else none)) ++
  (p.sequence.filterMap (fun e => if sqTemplate e = n ∧ 1 < sqRepeat e then some n else none))
/-- Reason 13: link entries and off-load writes of the previous frame's data start late enough. -/
def committedOk (p : PlanImage) (b : RankBlock) (n : Nat) (t : Template) : Bool :=
  let dirty := fun (x : Option (Nat × Nat × Int × Int)) => (templatesBefore p n).any (fun m =>
    match b.templates[m]? with
    | some u => writesInto p b m u x
    | none => false)
  (leaving b n).all (fun e => decide (313 ≤ slEarliest e) || !(dirty (slotSpan p n t (slSource e) (slBytes e)))) &&
  t.descs.all (fun d => !(dsClass d == 4 && oprSpace d.d5 == 4) || decide (2400 ≤ dsNotBefore d))
/-- Reason 14: host DMA per frame (R218), and prefetches two frames ahead of what reads them (R219). -/
def hostDmaOk (p : PlanImage) (b : RankBlock) (n : Nat) (t : Template) : Bool :=
  let wr := total t (fun d => if dsClass d = 4 ∧ oprSpace d.d5 = 4 then blockCount d * blockSize else 0)
  let rd := total t (fun d => if dsClass d = 4 ∧ oprSpace d.d4 = 4 then blockCount d * blockSize else 0)
  decide (wr ≤ 9600000) && decide (rd ≤ 9600000) &&
  t.descs.all (fun d => !(dsClass d == 4 && oprSpace d.d4 == 4) ||
    (n :: ((List.zip (p.sequence.map sqTemplate) ((p.sequence.map sqTemplate).drop 1)).filterMap
      (fun x => if x.1 = n then some x.2 else none))).all (fun m =>
      match b.templates[m]? with
      | some u => u.descs.all (fun x => !((spansOf p m u x (readOperands b x)).any (fun w =>
          spansMeet w (absSpan p n t d (d.d5, dmBytes d)))))
      | none => true))
/-- The start of a step's span: the plan frame after its commit frame. -/
def spanStart (e : BitVec 128) : Nat := spCommit e + 1
/-- Chunks of a group that an engine holds (R301). -/
def chunksOf (e : BitVec 512) (engine : Nat) : Nat := (groupChunks e + 7 - engine) / 8
/-- Instructions per 64 elements and per group of a program's passes: bodies, and prologues once (R301). -/
def passCost (g : UpdProgram) : Nat × Nat := (g.body1.length + g.body2.length, g.prologue1.length + g.prologue2.length)
/-- Cycles of an engine for a step: the scan, and each pass. -/
def engineCost (p : PlanImage) (stack engine : Nat) : Nat :=
  ((p.update.groups.filter (fun e => gpStack e == stack)).map (fun e =>
    let c := passCost (programOf p e)
    64 * chunksOf e engine * (1 + c.1) + (if chunksOf e engine = 0 then 0 else c.2))).foldl (· + ·) 0
/-- Bytes of an element of a stream: the master, the gradient and the direction are BF16 (R293). -/
def streamBytes (e : BitVec 512) (k : Nat) : Nat :=
  if k ≤ 1 ∨ k = 6 then 2 else if k ≤ 5 then 2 * gpStateFmt e (k - 2) else 0
/-- Bytes per element that a program loads and stores, and that are copied of the streams it does not store (R293). -/
def elementBytes (e : BitVec 512) (g : UpdProgram) : Nat :=
  let body := g.body1 ++ g.body2
  let moved := (body.filter (fun w => bitsOf w 31 26 == 1 || bitsOf w 31 26 == 2)).map (fun w => streamBytes e (bitsOf w 5 0))
  let copied := ([0, 2, 3, 4, 5].filter (fun k => !(storesStream g k))).map (fun k => 2 * streamBytes e k)
  (moved ++ copied).foldl (· + ·) 0
/-- Bytes that a stack moves for a step: the gradient and the mask for the scan, and what the passes load, store and copy. -/
def updateBytes (p : PlanImage) (stack : Nat) : Nat :=
  ((p.update.groups.filter (fun e => gpStack e == stack)).map (fun e =>
    gpElements e * (2 + elementBytes e (programOf p e)) + (if gpMask e then (gpElements e + 7) / 8 else 0))).foldl (· + ·) 0
/-- The allowance of a stack in an update frame. -/
def allowanceAt (p : PlanImage) (pos stack : Nat) : Nat :=
  ((p.update.allowances.find? (fun a => a.1 == pos)).map (fun a => (a.2.getD stack 0).toNat)).getD 0
/-- Whether a step's update work fits in its update frames, in cycles and in bytes (R301). -/
def updateFits (p : PlanImage) (x : UpdPlacement) : Bool :=
  let frames := x.last.toNat + 1 - x.first.toNat
  (List.range 8).all (fun k =>
    (List.range 8).all (fun n => decide (engineCost p k n ≤ 105600 * frames)) &&
    decide (updateBytes p k ≤ ((p.update.allowances.filter (fun a => decide (x.first.toNat ≤ a.1) && decide (a.1 ≤ x.last.toNat))).map
      (fun a => (a.2.getD k 0).toNat)).foldl (· + ·) 0))
/-- Whether every allowance fits beside its frame's plan traffic in the stack limit of R254. -/
def allowancesOk (p : PlanImage) (b : RankBlock) : Bool :=
  p.update.allowances.all (fun a => match seqAt p a.1 with
    | none => false
    | some (k, _) => match b.templates[sqTemplate (seqEntry p k)]? with
      | none => false
      | some t => (List.range 8).all (fun st => decide (stackCost p b t st + allowanceAt p a.1 st ≤ 176000000)))
/-- Whether a range of plan positions holds a slot entry of a kind. -/
def entriesWithin (p : PlanImage) (b : RankBlock) (lo hi kind : Nat) : Bool :=
  (List.range p.sequence.length).any (fun k =>
    let e := seqEntry p k
    decide (entryStart p k ≤ hi) && decide (lo < entryStart p k + sqRepeat e) && (leaving b (sqTemplate e)).any (fun x => slKind x == kind))
/-- Reason 15: deadlines and skew (R170), analogue-aware recomputation after the deadline (R206), the update frames (R291, R301),
and gradient exchanges and checkpoint transfers before them (R375, R378). -/
def stepsOk (p : PlanImage) (b : RankBlock) : Bool :=
  (List.zipIdx p.steps).all (fun x =>
    let e := x.1
    let next := p.steps[x.2 + 1]?
    let analog := fun (k : Nat) => ((b.templates[sqTemplate (seqEntry p k)]?).map (fun t => t.descs.any (fun d => dsClass d == 1 && !dsReference d))).getD false
    decide (spanStart e ≤ spDeadline e) && decide (spDeadline e ≤ spanStart e + 2 ^ 24) &&
    (if planSkew p = 0 then !(phaseWithin p (spanStart e) (spDeadline e) 1)
     else (next.map (fun n => decide (spDeadline e < spCommit n))).getD true) &&
    (List.range p.sequence.length).all (fun k =>
      let a := entryStart p k
      !(sqPhase (seqEntry p k) == 2 && analog k && decide (a ≤ spDeadline e) && decide (spCommit e < a + sqRepeat (seqEntry p k)))) &&
    (p.update.groups.isEmpty || (match p.update.placements[x.2]? with
     | some u => decide (u.first ≤ u.last) && decide (u.last.toNat < spCommit e) && updateFits p u &&
       !(entriesWithin p b u.first.toNat (spCommit e) 2) && !(entriesWithin p b u.first.toNat (spCommit e) 5)
     | none => false))) &&
  allowancesOk p b
/-- Reason 16: a boundary lies after the deadline of every step committed before it, and before the next step's first
learning-marked frame (R272). -/
def boundariesOk (p : PlanImage) : Bool :=
  (List.range p.sequence.length).all (fun k =>
    let a := entryStart p k
    !(sqBoundary (seqEntry p k)) || (stepSpans p).all (fun x =>
      if spCommit x.2 < a then decide (spDeadline x.2 < a)
      else !(phaseWithin p x.1 (spCommit x.2) 2) || decide (a < spLearning x.2)))
/-- Reason 17: the settings section names plan-bound settings within their ranges (R274). -/
def settingsOk (p : PlanImage) : Bool :=
  p.settings.all (fun x => planBound x.1.toNat && ((settingRow x.1.toNat).map (fun r => inRange r.range x.2)).getD false)
/-- What a plan that restores or continues needs of the package (R438, R439: reason 15). -/
def continuationOk (s : State) (p : PlanImage) (rank : Nat) : Bool :=
  if ckStart p.ckptHeader = 2 then
    s.plan.stoppedClean && (s.plan.loaded.map (fun q => (q.update.tBase + s.fr.master).toNat)) == some (ckBaseCount p.ckptHeader) &&
    ((s.plan.loaded.map (fun q => q.regions.filter (fun e => rgKind e == 8))) == some (p.regions.filter (fun e => rgKind e == 8)))
  else
    (p.ckptEntries.filter (fun e => ceSource e == rank)).all (fun e =>
      match regionOf p 9 with
      | none => false
      | some g =>
        let slot := rgAddr g + ceSlot e * (rgLength g / max 1 (ckSlots p.ckptHeader))
        slotState s slot == 2 && slotCount s slot == ckBaseCount p.ckptHeader)
/-- The checks of R269 in order, after the signature's. -/
def checkPlan (s : State) (p : PlanImage) : Option PlanFault :=
  match checkHeader s p with
  | some x => some x
  | none =>
    let rank := ((serialEntry p s.id.serial).map rkRank).getD 0
    match rankBlock p rank with
    | none => some { reason := 4, template := 0, index := 0 }
    | some b =>
      [need 6 (p.regions.all (regionOk s) && regionsApart p),
       checkUnits s p rank b, checkPlaces p rank b, checkDescs p b, checkOrder p rank b,
       needTemplates 11 b (fun n t => budgetOk s p b t && linksOk p b n),
       needDescs 12 b (fun _ t d => limitsOk b t d), needTemplates 13 b (committedOk p b), needTemplates 14 b (hostDmaOk p b),
       need 15 (stepsOk p b && continuationOk s p rank), need 16 (boundariesOk p), need 17 (settingsOk p)].findSome? id

end Sys2Proof.Machine
end

