-- ==== Sys2Proof/Machine/PlanLoad.lean ====
section
/-!
DEFINITION. Sys2Proof/Machine/PlanLoad.lean: loading, staging and discarding a plan (R269, R270, R273, R482, R494, R495), and the
preparation before its start (R169, R187, R270, R439).
-/
namespace Sys2Proof.Machine
open Sys2Proof

/-! ### Signed images in host memory (R494, R495) -/

/-- Bytes of host memory. -/
def hostBytes (s : State) (a n : Nat) : List Byte := readBytes s.mem.host a n
/-- An image's signature section: its last 4 KiB. -/
def signatureAt (host length : Nat) : Nat := host + length - 4096
/-- The manifest, the signer's key and the signature of an image. -/
def imageManifest (s : State) (host length : Nat) : List Byte := hostBytes s (signatureAt host length) 64
def imageKey (s : State) (host length : Nat) : List Byte := hostBytes s (signatureAt host length + 0x40) 60
def imageSignature (s : State) (host length : Nat) : List Byte := hostBytes s (signatureAt host length + 0x7C) 2964
/-- A field of a manifest. -/
def manifestField (m : List Byte) (hi lo : Nat) : Nat := bitsOf (BitVec.ofNat 512 (natLE m)) hi lo
/-- Whether a signed image is accepted: signature, hash, type and length (R495). -/
def imageAccepted (s : State) (key : List Byte) (type host length : Nat) : Bool :=
  let m := imageManifest s host length
  decide (4096 ≤ length) && manifestField m 31 0 == 0x4E414D5A && Config.hssVerify key m (imageSignature s host length) &&
    m.drop 32 == sha256 (hostBytes s host (length - 4096)) && manifestField m 39 32 == type && manifestField m 159 96 == length

/-! ### PLAN_LOAD (R269, R270, R273) -/

/-- The rank that an image gives this package. -/
def imageRank (s : State) (p : PlanImage) : Nat := ((serialEntry p s.id.serial).map rkRank).getD 0
/-- Flooding ABORT for a plan under the rank it gives this package (R270). -/
def floodAbort (s : State) (p : PlanImage) (reason : Nat) : State :=
  relay s { kind := .abort, origin := imageRank s p, frame := 0, payload := (planId p).toNat + reason * 2 ^ 32 } (liveLinks s)
/-- A refused plan: EV-0110, the final response, and ABORT where the load was for now (R269, R270). -/
def refusePlan (s : State) (p : PlanImage) (atBoundary : Bool) (f : PlanFault) : State :=
  let s := raise s 0x0110 unitPackage noLevel [f.reason, f.template, f.index]
  let s := endLoad s (if f.reason = 1 then .signature else .failed) [] (loadBody f.reason f.template f.index 0)
  if atBoundary then s else floodAbort s p f.reason
/-- Arrays that wait for the next plan load to be retired: state 2 in the health history, EV-0130 (R160, R176, R416). -/
def retireDue (s : State) : State :=
  (s.arrays.filter (fun x => x.2.retirePending)).foldl (fun s x =>
    let s := modArr s x.1 (fun a => { a with retirePending := false })
    if (health s (unitArray x.1)).state = .retired then s
    else raise (setUnitState s (unitArray x.1) .retired 0x0266) 0x0130 (unitArray x.1) noLevel [0x0266]) s
/-- The verification of a loaded image, and what follows it: the load prepares, or the plan is staged. -/
def verifyLoad (s : State) (p : PlanImage) (atBoundary : Bool) (host length : Nat) : State :=
  let signed := match s.eo.ownerKey with
    | some key => imageAccepted s key 2 host length
    | none => false
  if !signed then refusePlan (raise s 0x0702 unitPackage noLevel []) p atBoundary { reason := 1, template := 0, index := 0 }
  else
    let s := retireDue s
    match checkPlan s p with
    | some f => refusePlan s p atBoundary f
    | none =>
      let m := imageManifest s host length
      if atBoundary then { s with plan.staged := some p, plan.stagedManifest := m } else adoptPlan s p m (imageRank s p)
/-- Whether a plan is loaded in the sense of R482: it prepares, starts or runs, or its last frame has still to commit. -/
def planLoaded (s : State) : Bool := s.plan.stage != .idle || planRuns s || s.fr.closed.isSome
/-- Accepting PLAN_LOAD: its operands are kept, with whether it waits for the self-test (R424). -/
def loadPlan (s : State) (r : Req) (atBoundary : Bool) (host length : Nat) (p : PlanImage) : State :=
  if !atBoundary && planLoaded s then refuse s r 0x0801 .busyLive
  else
    let args := [bitNat atBoundary, host, length, bitNat s.pin.selftest]
    let s := accept s r 0x0801 args (readback 0x0801 r.tag (imageManifest s host length))
    let s := { s with plan.loadReq := some r }
    if s.pin.selftest then { s with plan.staged := some p } else verifyLoad s p atBoundary host length
/-- A load that waited for the self-test is verified when the test ends (R424, R482). -/
def resumeLoad (s : State) : State :=
  match openOnce s 0x0801, s.plan.staged with
  | some c, some p =>
    if c.args.getD 3 0 = 1 then
      let s := { s with
        plan.staged := none, plan.stagedManifest := [],
        eo.opened := s.eo.opened.map (fun x => if x = c then { x with args := x.args.take 3 ++ [0] } else x) }
      verifyLoad s p (c.args.getD 0 0 == 1) (c.args.getD 1 0) (c.args.getD 2 0)
    else s
  | _, _ => s
/-- PLAN_LOAD_NOW (R269, R270). -/
def execPlanLoadNow (r : Req) (host length : DWord) (image : PlanImage) (s : State) : Result :=
  .next (serveC s r 0x0801 (fun s => loadPlan s r false host.toNat length.toNat image))
/-- PLAN_LOAD_AT_BOUNDARY (R273). -/
def execPlanLoadAtBoundary (r : Req) (host length : DWord) (image : PlanImage) (s : State) : Result :=
  .next (serveC s r 0x0801 (fun s => loadPlan s r true host.toNat length.toNat image))
/-- PLAN_DISCARD (R480): a staged plan is discarded, and its open load fails. -/
def execPlanDiscard (r : Req) (s : State) : Result :=
  .next (serve s r 0x0802 (fun s =>
    match s.plan.staged with
    | some _ =>
      let s := { endLoad s .failed [] (loadBody 0 0 0 0) with plan.staged := none, plan.stagedManifest := [] }
      answer s r 0x0802 []
    | none => answer s r 0x0802 []))
/-- The identifier of a plan that may be absent. -/
def planIdOf (p : Option PlanImage) : Nat := (p.map (fun p => (planId p).toNat)).getD 0
/-- PLAN_STATUS (R480). -/
def execPlanStatus (r : Req) (s : State) : Result :=
  .next (serve s r 0x0803 (fun s => answer s r 0x0803
    (bytesLE 4 (planIdOf s.plan.loaded) ++ bytesLE 4 (planIdOf s.plan.staged) ++ bytesLE 4 s.fr.pos.toNat ++ bytesLE 4 s.fr.step.toNat)))
/-- PLAN_LOAD_TIMEOUT (R270): 60 s without PREPARED, or without START after it. -/
def execPlanLoadTimeout (s : State) : Result :=
  match s.plan.loaded with
  | some p =>
    if s.plan.stage = .preparing ∨ s.plan.stage = .prepared then .next (abandonLoad (floodAbort s p 0xFF) 0) else .next s
  | none => .next s

/-! ### Preparation (R169, R187, R270, R439) -/

/-- The integers that a row's cells hold, read back; a weight that is no integer of its format reads as its fixed value. -/
def readbackRow (s : State) (k row : Nat) : List Int :=
  let fmt := arrFmt s k
  let ds := rowDigits s k row
  (List.range (fmtColumns fmt)).map (fun c => (digitsWeight fmt (cellsOf fmt c ds)).getD (uncoveredWeight fmt))
/-- A row's cells at the digits of given weights. -/
def setRowCells (s : State) (k row : Nat) (ws : List Int) : State :=
  (List.range 520).foldl (fun s c =>
    let lv := digitLevels (targetDigit (arrFmt s k) ws row c)
    setLevel (setLevel s k row c 0 lv.1) k row c 1 lv.2) s
/-- A row's preparation: its read-back fills the image, then version 0 is programmed, quantised without hysteresis. -/
def prepareRow (s : State) (k row : Nat) : State :=
  let s := setImageRow s k row (readbackRow s k row)
  let ws := rowTargets s k row 0 true
  let s := setImageRow (setRowCells s k row ws) k row ws
  setVectors s k row (imageDigits s k row)
/-- An array's preparation, and its calibration, which is repeated once if it fails. -/
def prepareArray (s : State) (k : Nat) : State :=
  let s := (List.range 512).foldl (fun s r => prepareRow s k r) s
  let s := modArr s k (fun a => { a with
    version := 0, pendingRows := [], job := none, toSwitch := [], requeued := [], regen := none, calFails := 0 })
  let s := calibrate s k
  if (arrOf s k).calFails = 1 then calibrate s k else s
/-- The copy of the committed bank into bank 0 of a plan that continues (R439). -/
def copyBanks (s : State) (p : PlanImage) : State :=
  if ckStart p.ckptHeader = 2 ∧ s.fr.master.toNat % 2 = 1 then
    (p.regions.filter (fun e => rgKind e == 8)).foldl (fun s e =>
      let half := rgLength e / 2
      writeHbm s .plain (rgAddr e) (hbmBytes s (rgAddr e + half) half) noPoison) s
  else s
/-- PREPARATION_COMPLETE (R270): the package has read back, programmed version 0 and calibrated; it floods PREPARED. -/
def execPreparationComplete (s : State) : Result :=
  match s.plan.loaded with
  | some p =>
    if s.plan.stage = .preparing then
      let s := copyBanks s p
      let s := { s with fr.master := 0, fr.live := 0 }
      let s := (mapArrays s).foldl prepareArray s
      let s := flood { s with plan.stage := .prepared } .prepared 0 (planIdField s).toNat
      .next (notePrepared s (s.plan.rank.getD 0))
    else .next s
  | none => .next s

end Sys2Proof.Machine
end

