-- ==== Sys2Proof/Machine/Health.lean ====
section
/-!
DEFINITION. Sys2Proof/Machine/Health.lean: events and the health history (R407 to R419, R473), the rotating test slot (R260, R261,
R420 to R423) and the self-test (R424 to R426).
-/
namespace Sys2Proof.Machine
open Sys2Proof

/-! ### Events (R407, R408) -/

/-- EVENT_RAISE (R407): a record of a unit, with the charge to it where R414 makes one: counter, counted, nominal. -/
def execEventRaise (code : Half) (unit : UnitRef) (level : Fin 8) (ps : List DWord) (charge : Option (Fin 8 × Bool × Bool)) (s : State) :
    Result :=
  let s := raise s code.toNat unit level.val (ps.map BitVec.toNat)
  .next (match charge with
    | some (k, counted, nominal) => Sys2Proof.Machine.charge s unit k.val counted nominal code.toNat
    | none => s)
/-- Pieces of at most n records. -/
def recordGroups (n : Nat) : Nat → List EventRec → List (List EventRec)
  | 0, _ => []
  | fuel + 1, es => if es.isEmpty then [] else es.take n :: recordGroups n fuel (es.drop n)
/-- EVENT_RESEND (R407, R473): every record not acknowledged is sent again, at most 16 to a datagram. -/
def execEventResend (s : State) : Result :=
  let es := s.ev.ring.filter (fun e => decide (s.ev.acked ≤ e.seq.toNat))
  .next ((recordGroups 16 512 es).foldl sendEvents s)
/-- EV-0122 for a code (R408). -/
def suppressionEvent (s : State) (x : Nat × Nat) : State := storeEvent s (eventRecord s 0x0122 unitNone noLevel x.2 [x.1, x.2])
/-- EVENT_SUPPRESSION_END (R408, R410): a second of health time ends. -/
def execEventSuppressionEnd (s : State) : Result :=
  let due := s.ev.suppressed
  let s := { s with hl.time := s.hl.time + 1, ev.counts := [], ev.suppressed := [] }
  .next (due.foldl suppressionEvent s)

/-! ### The health history's NOR (R410, R413, R177) -/

/-- A row group's wear saved at the end of an interval of 2²⁰ frames. -/
def saveInterval (g : RowGroup) : RowGroup := { g with grown := g.wear - g.mark, mark := g.wear, saved := g.wear }
/-- Saving the wear of every array. -/
def saveIntervals (s : State) : State :=
  { s with arrays := s.arrays.map (fun x => (x.1, { x.2 with groups := x.2.groups.map (fun g => (g.1, saveInterval g.2)) })) }
/-- A NOR write that fails: EV-0133 once until the next plan boundary. -/
def norFails (s : State) : State :=
  let s := { s with hl.norFailing := true }
  if s.hl.norReported then s else raise { s with hl.norReported := true } 0x0133 unitIoDie0 noLevel []
where unitIoDie0 : UnitRef := unitIoDie 0
/-- A NOR write that succeeds: the log is folded, and health time is saved. -/
def norWritten (s : State) : State :=
  { s with hl.norFailing := false, hl.folded := s.hl.log.length, hl.savedTime := s.hl.time }
/-- HEALTH_FOLD (R413, R177, R410). -/
def execHealthFold (norFails : Bool) (s : State) : Result :=
  .next (if norFails then Sys2Proof.Machine.norFails s else norWritten (saveIntervals s))
/-- The retry of a failed write at a tick (R413). -/
def norTick (s : State) (fails : Bool) : State := if !s.hl.norFailing then s else if fails then norFails s else norWritten s

/-! ### Management against the data path (R417, R418) -/

/-- A unit whose live state is restricted: a quarantined array, or a link of a running plan that is down. -/
def liveRestricted (s : State) : List UnitRef :=
  (s.arrays.filter (fun x => x.2.quarantined)).map (fun x => unitArray x.1) ++
  (if planRuns s then ((List.range 48).filter (fun l => (neighbour s (linkDir l)).isSome && (linkOf s l).width == 0)).map unitLink else [])
/-- EV-0103, once for a unit. -/
def disagree (s : State) (u : UnitRef) : State :=
  if s.hl.disagreed.contains u then s else raise { s with hl.disagreed := s.hl.disagreed ++ [u] } 0x0103 u noLevel []
/-- The record of a unit that is in service takes the live state; while the NOR write fails that is a disagreement. -/
def takeLive (s : State) (u : UnitRef) : State :=
  if (health s u).state = .inService then
    let s := setUnitState s u .quarantined 0x0103
    if s.hl.norFailing then disagree s u else s
  else s
/-- A unit that the record restricts and the running plan uses: every MVM of an array gets a verdict, and the unit leaves at the
next boundary. -/
def restrictUsed (s : State) (u : UnitRef) : State :=
  if u.kind = 1 ∧ (arrOf s u.index).quarantined then s
  else
    let s := disagree s u
    let s := if u.kind = 1 then modArr s u.index (fun a => { a with alwaysPrism := true }) else s
    { s with hl.leaving := if s.hl.leaving.contains u then s.hl.leaving else s.hl.leaving ++ [u] }
/-- Eomet's comparison at a tick (R418). -/
def compareTick (s : State) : State :=
  let s := (liveRestricted s).foldl takeLive s
  match s.plan.loaded, s.plan.rank with
  | some p, some r => if planRuns s then (restrictedUnits s p r).foldl restrictUsed s else s
  | _, _ => s

/-! ### HEALTH_READ and HEALTH_LOG (R411 to R413) -/

/-- The records of a kind (R411). -/
def unitCount (kind : Nat) : Nat := [0, 4096, 256, 8, 48, 2, 1].getD kind 0
/-- The state field. -/
def stateCode : UnitState → Nat
  | .inService => 0
  | .quarantined => 1
  | .retired => 2
  | .neverWritten => 3
/-- A record's header (R412). -/
def healthHeader (u : UnitRef) (r : HealthRec) : List Byte :=
  bytesLE 4 (u.kind + u.index * 2 ^ 4 + stateCode r.state * 2 ^ 16 + bitNat r.marginal * 2 ^ 18 + bitNat r.wornOut * 2 ^ 19) ++
  bytesLE 4 r.since.toNat ++ bytesLE 4 r.t1.toNat ++ bytesLE 4 r.t2.toNat ++ bytesLE 4 r.t3.toNat ++ bytesLE 4 r.events.toNat ++
  (List.range 8).flatMap (fun k => bytesLE 2 (tget 0 r.counters k)) ++ bytesLE 2 r.skipped ++ bytesLE 2 r.cause ++
  bytesLE 4 r.lastPass.toNat ++ List.replicate 16 0
/-- A row group's record (R175). -/
def rowGroupBytes (g : RowGroup) : List Byte :=
  bytesLE 4 g.wear.toNat ++ bytesLE 6 g.refreshed.toNat ++ bytesLE 6 (g.decile + bitNat g.wornOut * 2 ^ 4)
/-- A unit's record: an array's has its row groups (R411). -/
def healthBytes (s : State) (u : UnitRef) : List Byte :=
  let r := health s u
  if u.kind = 1 then
    let gs := (arrOf s u.index).groups
    healthHeader u { r with wornOut := gs.any (fun g => g.2.wornOut) } ++ (List.range 16).flatMap (fun g => rowGroupBytes (tget RowGroup.fresh gs g))
  else healthHeader u r
/-- HEALTH_READ (R412): records that exist and fit a response. -/
def execHealthRead (r : Req) (kind : Byte) (first count : Half) (s : State) : Result :=
  .next (serve s r 0x0901 (fun s =>
    let size := if kind.toNat = 1 then 320 else 64
    if 0 < count.toNat ∧ first.toNat + count.toNat ≤ unitCount kind.toNat ∧ size * count.toNat ≤ 32640 then
      answer s r 0x0901 ((List.range count.toNat).flatMap (fun i => healthBytes s ⟨kind.toNat, first.toNat + i⟩))
    else refuse s r 0x0901 .badField))
/-- A log entry's 32 bytes (R413). -/
def logBytes (e : LogEntry) : List Byte :=
  bytesLE 4 e.time.toNat ++ bytesLE 2 e.code ++ bytesLE 2 (e.unit.kind + e.unit.index * 2 ^ 4) ++
  bytesLE 8 (e.counter + bitNat e.counted * 2 ^ 3 + bitNat e.nominal * 2 ^ 4 + bitNat e.permanent * 2 ^ 5) ++
  bytesLE 6 e.frame ++ bytesLE 2 e.rank ++ List.replicate 8 0
/-- HEALTH_LOG (R413). -/
def execHealthLog (r : Req) (first count : Word) (host : DWord) (s : State) : Result :=
  .next (serveC s r 0x0902 (fun s =>
    if count = 0 then refuse s r 0x0902 .badField
    else accept s r 0x0902 [first.toNat, count.toNat, host.toNat] []))
/-- HEALTH_LOG_DONE (R413): the entries that exist are in host memory. -/
def execHealthLogDone (r : Req) (s : State) : Result :=
  match openCommand s r 0x0902 with
  | some c =>
    let es := (s.hl.log.drop (c.args.getD 0 0)).take (c.args.getD 1 0)
    let s := writeHost (closeCommand s c) (c.args.getD 2 0) (es.flatMap logBytes)
    .next (respond s r 0x0902 .ok true [] (bytesLE 4 es.length))
  | none => .next s

/-! ### The rotating test slot (R261, R420 to R423) -/

/-- The frame within the visit. -/
def visitFrame (s : State) : Nat := now s % 1024
/-- The arrays of a tile that are quarantined, in ascending number. -/
def quarantinedArrays (s : State) (t : Nat) : List Nat := (List.range 16).filter (fun a => (arrOf s (arrKey t a)).quarantined)
/-- A test failure at margin: a nominal repeat waits, and the unit's visit is not clean. -/
def marginFailure (s : State) (t : Nat) (u : UnitRef) (item pattern : Nat) : State :=
  modTile s t (fun x => { x with
    repeats := x.repeats ++ [{ unit := u, item := item, pattern := pattern }],
    dirty := if x.dirty.contains u then x.dirty else x.dirty ++ [u] })
/-- A repeat that passes at nominal conditions: counter 6, marginal, EV-0240. -/
def repeatPassed (s : State) (u : UnitRef) : State :=
  modHealth (charge (raise s 0x0240 u noLevel []) u 6 false false 0x0240) u (fun r => { r with marginal := true })
/-- A repeat that fails: a counted event at nominal conditions, of the array's or the engines' kind, and EV-0241. -/
def repeatFailed (s : State) (u : UnitRef) : State :=
  charge (raise s 0x0241 u noLevel []) u (if u.kind = 1 then 0 else 1) true true 0x0241
/-- Running the oldest pending repeat. -/
def runRepeat (s : State) (t : Nat) (x : TestRepeat) (pass : Bool) : State :=
  let s := modTile s t (fun y => { y with repeats := y.repeats.drop 1 })
  if pass then repeatPassed s x.unit else repeatFailed s x.unit
/-- The row read-back of the array item (R421): rows that differ from their image are queued for reprogramming. -/
def testReadback (s : State) (k q : Nat) (reads : List CellRead) : State :=
  let s := applyReads s k reads
  let rows := ((List.range 4).map (fun i => 4 * q + i)).filter (fun r => rowDigits s k r != imageDigits s k r)
  modArr s k (fun a => { a with requeued := a.requeued ++ rows.filter (fun r => !(a.requeued.contains r)) })
/-- The items of an ordinary frame of the visit. -/
def runItems (s : State) (t v : Nat) (arrayPass enginePass : Bool) (reads : List CellRead) : State :=
  let k := arrKey t (v % 16)
  let s := testReadback s k (v / 16 % 128) reads
  let s := if arrayPass then s else marginFailure s t (unitArray k) (16 + v % 16) (v / 16 % 64)
  if enginePass then s else marginFailure s t (unitTile t) (v % 8) (v / 8 % 64)
/-- The item of a quarantined array (R417, R420): the array that its place in the visit's last 16 frames names, once its calibration
has been accepted. -/
def runQuarantined (s : State) (t v : Nat) (arrayPass : Bool) (reads : List CellRead) : State :=
  match (quarantinedArrays s t)[v - 1008]? with
  | some a =>
    let k := arrKey t a
    if (arrOf s k).cleanCal then
      let s := testReadback s k (v / 16 % 128) reads
      if arrayPass then modArr s k (fun x => { x with cleanItem := true }) else marginFailure s t (unitArray k) (16 + a) (v / 16 % 64)
    else s
  | none => s
/-- Whether the test of this frame runs: every plan operation of the tile has completed, and the package neither replays nor is
late (R261). -/
def testRuns (s : State) (t : Nat) : Bool :=
  match s.fr.running with
  | some f =>
    !f.replay && !s.fr.late &&
    (match frameTemplate s f with
     | some tp => tp.descs.all (fun d => dsTile d != t || isCompleted f (dsIndex d))
     | none => true)
  | none => true
/-- A skipped test is counted (R420). -/
def skipTest (s : State) (t : Nat) : State :=
  modHealth (modTile s t (fun x => { x with skipped := x.skipped + 1 })) (unitTile t) (fun r => { r with skipped := satTo 65535 (r.skipped + 1) })
/-- TEST_SLOT_RUN (R261, R420). -/
def execTestSlotRun (arrayPass enginePass : Bool) (reads : List CellRead) (s : State) : Result :=
  match testTile s with
  | none => .next s
  | some t =>
    let v := visitFrame s
    .next (
      if !(testRuns s t) then skipTest s t
      else match (tileOf s t).repeats with
        | x :: _ => runRepeat s t x (if x.item < 16 then enginePass else arrayPass)
        | [] => if v ≤ 1007 then runItems s t v arrayPass enginePass reads else runQuarantined s t v arrayPass reads)
/-- A clean visit of a unit (R420). -/
def cleanVisit (t : List UnitRef) (s : State) (u : UnitRef) : State :=
  if t.contains u then s else modHealth s u (fun r => { r with lastPass := s.hl.time, marginal := false })
/-- The end of a visit: repeats that are pending are dropped and count as passed; units without a failure had a clean visit. -/
def endVisit (s : State) (t : Nat) : State :=
  let x := tileOf s t
  let s := x.repeats.foldl (fun s r => repeatPassed s r.unit) s
  let s := ((unitTile t) :: (List.range 16).map (fun a => unitArray (arrKey t a))).foldl (cleanVisit x.dirty) s
  modTile s t (fun y => { y with repeats := [], dirty := [] })
/-- A tick at which the test slot moves on. -/
def visitTick (s : State) (t : Nat) : State := if planRuns s && t % 1024 == 0 then endVisit s (testTileOf (t - 1)) else s

/-! ### The self-test (R424 to R426) -/

/-- SELFTEST (R424, R482): a self-test that leaves the stacks' contents in place. -/
def execSelftest (r : Req) (s : State) : Result :=
  .next (serveC s r 0x0903 (fun s =>
    if planRuns s then refuse s r 0x0903 .busyLive
    else if s.pin.selftest then refuse s r 0x0903 .busy
    else recoverySelftest (accept s r 0x0903 [] [])))
/-- Units of a tile's part: the tile, its arrays, and its quadrant's stacks with its first tile. -/
def selftestUnits (t : Nat) : List UnitRef :=
  unitTile t :: (List.range 16).map (fun a => unitArray (arrKey t a)) ++
    (if t % 64 = 0 then [unitStack (2 * (t / 64)), unitStack (2 * (t / 64) + 1)] else [])
/-- A failure at nominal conditions: the unit becomes permanent, EV-0243 (R426). -/
def selftestNominal (s : State) (u : UnitRef) : State :=
  let kind := if u.kind = 1 then 0 else if u.kind = 3 then 2 else 1
  let s := charge (raise s 0x0243 u noLevel []) u kind true true 0x0243
  { s with pin.selftestPermanent := s.pin.selftestPermanent + 1 }
/-- A failure only at margin: counter 6, and marginal. -/
def selftestMargin (s : State) (u : UnitRef) : State :=
  let s := modHealth (charge s u 6 false false 0x0240) u (fun r => { r with marginal := true })
  { s with pin.selftestMarginal := s.pin.selftestMarginal + 1 }
/-- The memories that a tile's part clears: tile memory and Lake, and at start-up the stacks of its quadrant (R425). -/
def selftestMemories (s : State) (t : Nat) : State :=
  let inTile := fun (a : Nat) => a / 2 ^ 23 == t
  let inStack := fun (a : Nat) => s.pin.selftestStart && t % 64 == 0 && devStack a / 2 == t / 64
  { s with
    mem.tile := s.mem.tile.filter (fun x => !(inTile x.1)), mem.tilePoison := s.mem.tilePoison.filter (fun x => !(inTile x.1)),
    mem.hbm := s.mem.hbm.filter (fun x => !(inStack x.1)), mem.hbmPoison := s.mem.hbmPoison.filter (fun x => !(inStack x.1)),
    lakes := terase s.lakes t }
/-- SELFTEST_TILE (R425): the next tile's part ends with its failures. Its arrays are calibrated. -/
def execSelftestTile (nominalFails marginFails : List UnitRef) (s : State) : Result :=
  let t := s.pin.selftestTile
  if s.pin.selftest ∧ t < 256 then
    let us := selftestUnits t
    let bad := us.filter (fun u => nominalFails.contains u)
    let marginal := us.filter (fun u => marginFails.contains u && !(nominalFails.contains u))
    let s := selftestMemories s t
    let s := bad.foldl selftestNominal s
    let s := marginal.foldl selftestMargin s
    let s := (us.filter (fun u => !(bad.contains u) && !(marginal.contains u))).foldl (fun s u =>
      modHealth s u (fun r => { r with lastPass := s.hl.time })) s
    let s := ((List.range 16).filter (fun a => !(bad.contains (unitArray (arrKey t a))))).foldl (fun s a => calibrate s (arrKey t a)) s
    .next { s with pin.selftestTile := t + 1 }
  else .next s
/-- SELFTEST_DONE (R426): the bit clears, the command that asked is answered, and a load that waited goes on (R424). -/
def execSelftestDone (s : State) : Result :=
  if s.pin.selftest ∧ s.pin.selftestTile = 256 then
    let s := { s with pin.selftest := false }
    let s := match openOnce s 0x0903 with
      | some c => respond (changeEvent (closeCommand s c) c.req 0x0903) c.req 0x0903 .ok true []
          (bytesLE 2 s.pin.selftestPermanent ++ bytesLE 2 s.pin.selftestMarginal)
      | none => s
    .next (resumeLoad s)
  else .next s

end Sys2Proof.Machine
end

