-- ==== Sys2Proof/Machine/Boot.lean ====
section
/-!
DEFINITION. Sys2Proof/Machine/Boot.lean: power-on, firmware verification, the rails and the boot stages (R494 to R499, R527 to
R532), the resets, and the restart of the management domain (R467).
-/
namespace Sys2Proof.Machine
open Sys2Proof

/-! ### What a reset keeps (R177, R410, R486, R496) -/

/-- A row group on restart: the NOR's wear, advanced by twice its increase over the last complete interval after a stop that
did not write it (R177). -/
def restartGroup (clean : Bool) (g : RowGroup) : RowGroup :=
  let w := if clean then g.saved.toNat else satTo (2 ^ 32 - 1) (g.saved.toNat + 2 * g.grown.toNat)
  { g with
    wear := BitVec.ofNat 32 w, pulses := 0, decile := wearDecile w, wornOut := g.wornOut || decide (100000000 ≤ w),
    saved := BitVec.ofNat 32 w, mark := BitVec.ofNat 32 w, grown := 0 }
/-- An array on restart: its wear records and its calibration block come from the NOR (R177, R183, R499). -/
def restartArray (clean : Bool) (a : ArrayState) : ArrayState :=
  { ArrayState.fresh with
    sets := a.norCal.sets, anchored := BitVec.ofNat 48 a.norCal.anchored, anchorTemp := a.norCal.anchorTemp,
    quality := a.norCal.quality, norCal := a.norCal, groups := a.groups.map (fun g => (g.1, restartGroup clean g.2)) }
/-- Health time on restart: the larger of the saved value and the latest time in the log (R410). -/
def restartTime (h : HealthState) : Word :=
  h.log.foldl (fun t e => if t.toNat < e.time.toNat then e.time else t) h.savedTime
/-- The health history on restart. -/
def restartHealth (h : HealthState) : HealthState :=
  { HealthState.reset with time := restartTime h, savedTime := restartTime h, recs := h.recs, log := h.log, folded := h.folded }
/-- What every reset makes of the package but for Eomet, the AOM and the pins. -/
def restart (clean : Bool) (s : State) : State :=
  { State.reset with
    pending := s.pending, free := s.free, id := s.id, arrays := s.arrays.map (fun (x : Nat × ArrayState) => (x.1, restartArray clean x.2)),
    cells := s.cells, mem := { State.reset.mem with host := s.mem.host }, hl := restartHealth s.hl, eo := s.eo, aom := s.aom, pin := s.pin }
/-- Eomet after a reset that ends in a boot: what lies in the NOR and the OTP (R486, R496, R500). -/
def coldEomet (e : EoState) : EoState :=
  { EoState.reset with
    msi := e.msi, live := e.live.filter (fun x => x.1 / 256 == 0x000101), outbox := e.outbox, ownerKey := e.ownerKey,
    ownerCounter := e.ownerCounter, mgmtKey := e.mgmtKey, leaf := e.leaf, leafFuses := e.leafFuses, otpSecurity := e.otpSecurity,
    fwSlots := e.fwSlots, fwPreferred := e.fwPreferred }
/-- Filters 1, 2 and 5, of which the boot ROM has fixed copies (R499). -/
def bootFilters : Table (BitVec 1024) := defaultFilters.filter (fun x => [1, 2, 5].contains x.1)
/-- The AOM while it stays powered: its inputs, and what its boot filters keep. -/
def coldAom (a : AomState) : AomState :=
  { AomState.reset with inputs := a.inputs, filters := a.filters.filter (fun x => [1, 2, 5].contains x.1), slots := bootFilters }
/-- From time 0 of the boot sequence: RESET 1 and the rise of SYS_RST_N (R499, R532). -/
def coldReset (clean : Bool) (s : State) : State :=
  let s := resetSettings s
  let s := restart clean s
  { s with
    eo := coldEomet s.eo, aom := coldAom s.aom,
    pin := { s.pin with
      stage := 0, recovery := false, selftest := false, selftestTile := 0, selftestPermanent := 0, selftestMarginal := 0,
      selftestStart := true, removed := downOrder.filter (fun g => s.pin.enables.contains g), enables := [], goods := [],
      poweringDown := false, downAtTick := false, standbyFault := false, linkref := true, jtagVoid := false, restartDue := false,
      heartbeatAge := 0, watchdog := false } }
/-- Power-on: nothing but the NOR, the OTP and the straps survives (R527, R532, R537). -/
def powerOnReset (s : State) : State :=
  let s := coldReset false s
  { s with
    aom := { AomState.reset with slots := bootFilters },
    pin := { PinState.reset with otpHot := s.pin.otpHot, addr := s.pin.addr } }
/-- Tile memories and Lakes are initialised as stage 3 ends; FAULT_N is released (R499, R529). -/
def enterStage3 (s : State) : State :=
  { s with
    pin.stage := 3, pin.faultN := false, lakes := [], mem.tile := [], mem.tilePoison := [], mem.tileJournal := [] }
/-- Whether every rail group is good. -/
def allGood (s : State) : Bool := downOrder.all (fun g => s.pin.goods.contains g)
/-- From the 150 ms line: RESET 0. Eomet's memory and the AOM domain go on; a loaded filter does not (R492, R499). -/
def warmReset (s : State) : State :=
  let s := resetSettings s
  let stage := min 2 s.pin.stage
  let kept := s.mem
  let s := restart true s
  let s := { s with
    mem.hbm := kept.hbm, mem.hbmPoison := kept.hbmPoison,
    eo := { s.eo with
      opened := [], peerOpen := [], reassembly := [], leafReady := false,
      slots := s.eo.slots.map (fun (x : Nat × HostSlot) => (x.1, { x.2 with openReq := none })),
      sources := s.eo.sources.map (fun m => { m with opened := [] }) },
    aom := { AomState.reset with
      inputs := s.aom.inputs, filters := s.aom.filters.filter (fun x => decide (x.1 ≤ 8)), slots := defaultFilters },
    pin := { s.pin with
      stage := stage, selftest := false, selftestTile := 0, selftestPermanent := 0, selftestMarginal := 0, selftestStart := true,
      downAtTick := false, restartDue := false, heartbeatAge := 0, watchdog := false } }
  if stage = 2 ∧ allGood s then enterStage3 s else s
/-- The orderly stop that a reset command makes: wear and health time reach the NOR (R177, R410). -/
def orderlyStop (s : State) : State := norWritten (saveWear s)

/-! ### The boot stages (R497, R499) -/

/-- POWER_ON: PG_AON rises (R499, R532). -/
def execPowerOn (s : State) : Result := .next (powerOnReset s)
/-- Whether the image of a firmware slot passes R495, but for its security version. -/
def slotVerifies (f : FwSlot) : Bool :=
  let m := bytesLE 64 f.manifest.toNat
  sha256 f.key == Config.firmwareKeyHash && Config.hssVerify f.key m f.signature && bitsOf f.manifest 31 0 == 0x4E414D5A &&
    m.drop 32 == f.hash && bitsOf f.manifest 39 32 == 1 && bitsOf f.manifest 159 96 == f.length
/-- The security version of a slot's image. -/
def slotSecurity (f : FwSlot) : Nat := bitsOf f.manifest 95 64
/-- The version bytes of a slot's image: major, minor and patch. -/
def imageVersion (f : FwSlot) : Nat := bitsOf f.manifest 63 40
/-- The boot ROM tries one slot: it boots, or is refused; EV-0706 where its security version alone refuses it. -/
def trySlot (s : State) (slot : Bool) : State × Bool :=
  match tfind s.eo.fwSlots (bitNat slot) with
  | none => (s, false)
  | some f =>
    if !(slotVerifies f) then (s, false)
    else if slotSecurity f < s.eo.otpSecurity then (raise s 0x0706 unitNone noLevel [], false)
    else
      ({ s with
        pin.stage := 1, pin.recovery := false, eo.fwActive := slot, eo.fwVersion := imageVersion f, eo.fwSecurity := slotSecurity f },
       true)
/-- FIRMWARE_VERIFY: the preferred slot, then the other; recovery and EV-0701 where neither passes (R497). -/
def execFirmwareVerify (s : State) : Result :=
  if s.pin.stage ≠ 0 ∨ !s.pin.pgAon ∨ s.pin.recovery then .next s
  else
    let (s, ok) := trySlot s s.eo.fwPreferred
    if ok then .next s
    else
      let (s, ok) := trySlot s (!s.eo.fwPreferred)
      .next (if ok then s else raise { s with pin.recovery := true } 0x0701 unitPackage noLevel [])
/-- EOMET_START: the firmware runs, heartbeats begin, and the AOM loads the default filters (R499). -/
def execEometStart (s : State) : Result :=
  if s.pin.stage = 1 then .next { s with pin.stage := 2, pin.heartbeatAge := 0, aom.slots := defaultFilters } else .next s
/-- The groups that a group waits for (R527). -/
def groupsBefore : RailGroup → List RailGroup
  | .io => []
  | .sd => [.io]
  | .hbm => [.io, .sd]
  | .core0 | .core1 | .core2 | .core3 => [.io, .sd, .hbm]
  | .prog => [.io, .sd, .hbm, .core0, .core1, .core2, .core3]
/-- The enables that rise together with a group's. -/
def groupsWith : RailGroup → List RailGroup
  | .core0 | .core1 | .core2 | .core3 => [.core0, .core1, .core2, .core3]
  | g => [g]
/-- Whether the AOM may raise a group's enable (R499, R527, R529, R532). -/
def mayEnable (s : State) (g : RailGroup) : Bool :=
  s.pin.pgAon && s.pin.stage == 2 && !s.pin.sysRst && !s.pin.standbyFault && !s.pin.poweringDown &&
    (groupsBefore g).all (fun x => s.pin.goods.contains x) && (g != .sd || s.pin.linkref) &&
    [1, 2, 5].all (fun k => !(filterState s k).last)
/-- RAIL_GROUP_ENABLE (R527). -/
def execRailGroupEnable (g : RailGroup) (s : State) : Result :=
  .next (if mayEnable s g then
    { s with pin.enables := s.pin.enables ++ (groupsWith g).filter (fun x => !(s.pin.enables.contains x)) } else s)
/-- POWER_GOOD_ASSERT: of an enabled group; the last one completes stage 3 (R499, R527). -/
def execPowerGoodAssert (g : RailGroup) (s : State) : Result :=
  if !(s.pin.enables.contains g) ∨ s.pin.goods.contains g then .next s
  else
    let s := { s with pin.goods := s.pin.goods ++ [g] }
    .next (if s.pin.stage = 2 ∧ allGood s then enterStage3 s else s)
/-- POWER_GOOD_TIMEOUT: the groups already enabled are removed; EV-0615, FAULT_N, standby until a reset (R529). -/
def execPowerGoodTimeout (g : RailGroup) (s : State) : Result :=
  if !(s.pin.enables.contains g) ∨ s.pin.goods.contains g then .next s
  else
    let s := removeRails s
    .next (raise { s with pin.faultN := true, pin.standbyFault := true } 0x0615 unitPackage noLevel [])
/-- POWER_GOOD_LOSS: power down, EV-0616 and FAULT_N; nothing more while the AOM is already powering down (R529, R538). -/
def execPowerGoodLoss (g : RailGroup) (cyc : Nat) (s : State) : Result :=
  let s := atCycle s cyc
  if !(s.pin.goods.contains g) then .next s
  else
    let s := { s with pin.goods := s.pin.goods.erase g }
    if s.pin.poweringDown then .next s
    else
      let s := ((List.range 14).filter (fun p => pageGroup p == some g)).foldl (fun s p => latch s p 11) s
      .next (powerDown (raise { s with pin.faultN := true } 0x0616 unitPackage noLevel []))
/-- PG_AON_LOSS: every enable falls at once, and the package stops without an event (R529). -/
def execPgAonLoss (s : State) : Result :=
  .next { restart false s with
    pin := { s.pin with
      pgAon := false, stage := 0, recovery := false, selftest := false, enables := [], goods := [], removed := [],
      poweringDown := false, downAtTick := false, restartDue := false, pcieUp := false } }
/-- HBM_TRAINING: stage 4 (R499). -/
def execHbmTraining (s : State) : Result := if s.pin.stage = 3 then .next { s with pin.stage := 4 } else .next s
/-- The junction above 125 °C that the OTP records: at the boot that follows the package's record is retired (R544). -/
def otpEntry (s : State) : State :=
  if s.pin.otpHot ∧ (health s unitPackage).state ≠ .retired then charge s unitPackage 7 true true 0x0612 else s
/-- BOOT_COMPLETE: stage 6, RUN_STATE 0, EV-0101; the security fuses of R498, and the start-up self-test of R424. -/
def execBootComplete (s : State) : Result :=
  if s.pin.stage ≠ 5 then .next s
  else
    let s := { s with
      pin.stage := 6, fr.run := .ready, eo.otpSecurity := max s.eo.otpSecurity s.eo.fwSecurity,
      pin.selftest := true, pin.selftestTile := 0, pin.selftestPermanent := 0, pin.selftestMarginal := 0, pin.selftestStart := true }
    .next (otpEntry (raise s 0x0101 unitPackage noLevel []))

/-! ### Resets, clocks and the thermal trip (R467, R531, R532, R543) -/

/-- SYS_RST_N_LOW: EXPEL if a plan runs, and power down at once (R532). -/
def execSysRstNLow (cyc : Nat) (s : State) : Result :=
  let s := atCycle s cyc
  let s := if planRuns s then expelByAom s else s
  let s := removeRails s
  .next { s with pin.sysRst := true, pin.thermtripN := false }
/-- SYS_RST_N_RISE: power-on from time 0, as RESET 1 (R532). -/
def execSysRstNRise (s : State) : Result :=
  if s.pin.sysRst then
    let s := coldReset false s
    .next { s with pin.sysRst := false }
  else .next s
/-- THERMAL_TRIP: THERMTRIP_N, EV-0618, and the power down starts or goes on (R543). Dies 4 and 5 are the I/O dies. -/
def execThermalTrip (die : Fin 6) (cyc : Nat) (s : State) : Result :=
  let u := if die.val < 4 then unitPackage else unitIoDie (die.val - 4)
  .next (powerDown (raise { atCycle s cyc with pin.thermtripN := true } 0x0618 u noLevel []))
/-- REFCLK_LOSS: power down and EV-0617 (R531). -/
def execRefclkLoss (cyc : Nat) (s : State) : Result :=
  .next (powerDown (raise { atCycle s cyc with pin.refclk := false } 0x0617 unitPackage noLevel []))
/-- LINKREF_LOSS: every link goes down (R531). -/
def execLinkrefLoss (s : State) : Result :=
  let s := { s with pin.linkref := false }
  .next (((List.range 48).filter (fun l => (linkOf s l).width != 0)).foldl linkDown s)
/-- EOMET_RESTART: after a watchdog expiry the management domain is reset and Eomet starts again; requests in progress receive
no response, and the event ring is kept (R467). -/
def restartEomet (s : State) : State :=
  let s := { s with
    pin.watchdog := false, pin.restartDue := false, pin.heartbeatAge := 0, plan.loadReq := none,
    ctx.orders := s.ctx.orders.map (fun (x : CtxOrder) => { x with req := none }),
    eo := { s.eo with
      opened := [], peerOpen := [], reassembly := [], restarts := s.eo.restarts + 1,
      txns := s.eo.txns.map (fun (x : Nat × Txn) => (x.1, { x.2 with commitReq := none })),
      slots := s.eo.slots.map (fun (x : Nat × HostSlot) => (x.1, { x.2 with openReq := none })),
      sources := s.eo.sources.map (fun m => { m with opened := [] }) } }
  raise s 0x0102 unitPackage noLevel [s.eo.restarts]
/-- EOMET_RESTART (R467): while a plan runs, the reset waits for the expulsion tick. -/
def execEometRestart (s : State) : Result :=
  if s.pin.watchdog ∧ !s.pin.restartDue then .next (restartEomet s) else .next s

end Sys2Proof.Machine
end

