-- ==== Sys2Proof/Machine/Mgmt.lean ====
section
/-!
DEFINITION. Sys2Proof/Machine/Mgmt.lean: the ports that requests arrive on (R468 to R475), and what the PCIe endpoint's
happenings do (R222, R470, R534, R535).
-/
namespace Sys2Proof.Machine
open Sys2Proof

/-! ### Requests as they arrive (R475, R480, R519) -/

/-- Body bytes of the opcodes whose length is fixed (R480, R519). -/
def fixedLengths : List (Nat × Nat) :=
  [(0x0101, 0), (0x0102, 0), (0x0103, 5), (0x0104, 1), (0x0105, 6), (0x0106, 4), (0x0108, 8), (0x0109, 0), (0x010B, 6), (0x010C, 0),
   (0x010D, 0), (0x0201, 3), (0x0202, 0), (0x0203, 18), (0x0301, 16), (0x0302, 0), (0x0303, 25), (0x0304, 1), (0x0401, 7),
   (0x0410, 32), (0x0411, 6), (0x0412, 20), (0x0413, 4), (0x0414, 4), (0x0415, 20)] ++
  [(0x0501, 8), (0x0502, 2), (0x0601, 3), (0x0602, 1), (0x0603, 128), (0x0604, 1), (0x0701, 12), (0x0702, 1), (0x0703, 32),
   (0x0704, 0), (0x0705, 8192), (0x0706, 32), (0x0801, 17), (0x0802, 0), (0x0803, 0), (0x0901, 5), (0x0902, 16), (0x0903, 0),
   (0x0A02, 5), (0x0A03, 6), (0x0A04, 16), (0x0A05, 0), (0x0A06, 2), (0x0A07, 0)]
/-- Whether a body length fits an opcode; none for an unknown opcode. -/
def lengthFits (opcode len : Nat) : Option Bool :=
  match fixedLengths.find? (fun x => x.1 == opcode) with
  | some x => some (x.2 == len)
  | none =>
    match opcode with
    | 0x0107 => some (len % 4 == 0 && decide (4 ≤ len) && decide (len ≤ 4096))
    | 0x010A => some (len % 8 == 0 && decide (8 ≤ len) && decide (len ≤ 2048))
    | 0x0A01 => some (len == 21 || len == 13)
    | _ => none
/-- The opcode, tag and body length of a request header (R475). -/
def headerOpcode (h : List Byte) : Nat := natLE (h.take 2)
def headerTag (h : List Byte) : Word := BitVec.ofNat 32 (natLE ((h.drop 4).take 4))
def headerLength (h : List Byte) : Nat := natLE ((h.drop 8).take 4)
/-- What admission refuses: a port's or the state's refusal, an unknown opcode, a wrong length. A request that passes is carried
on by the command of its opcode. Every request received counts at I/O die 0 (R509). -/
def admitRequest (s : State) (r : Req) (h : List Byte) : State :=
  let s := active s (blockIo 0) 3 1
  match refusal s r (headerOpcode h), lengthFits (headerOpcode h) (headerLength h) with
  | some st, _ => refuse s r (headerOpcode h) st
  | none, none => refuse s r (headerOpcode h) .badOpcode
  | none, some false => refuse s r (headerOpcode h) .badLength
  | none, some true => s
/-- Whether Eomet serves requests: from boot stage 2 on, and in recovery (R497, R499). -/
def eometServes (s : State) : Bool := decide (2 ≤ s.pin.stage) || s.pin.recovery

/-! ### Host slots (R468, R469) -/

/-- The offset of a slot's request buffer in the buffers' region. -/
def bufferBase (slot : Nat) : Nat := 0x10000 * slot
/-- A doorbell: ignored before stage 2; counted and reported while the slot's request is open (R469, R499). -/
def ringDoorbell (s : State) (slot : Nat) : State :=
  if !(eometServes s) then s
  else if (slotOf s slot).openReq.isSome ∨ slotHeld s { port := .host (Fin.ofNat 16 slot), tag := 0, seq := 0 } then
    raise { s with eo.ignoredDoorbells := s.eo.ignoredDoorbells + 1 } 0x0109 unitNone noLevel [slot]
  else
    let h := readBytes s.eo.buffers (bufferBase slot) 32
    let s := { s with
      eo.slots := tmod HostSlot.closed s.eo.slots slot (fun x => { x with openReq := some (headerOpcode h) }) }
    admitRequest s { port := .host (Fin.ofNat 16 slot), tag := headerTag h, seq := 0 } h
/-- DOORBELL (R469). A host access arrives over the link, which is up. -/
def execDoorbell (slot : Fin 16) (s : State) : Result := .next (ringDoorbell { s with pin.pcieUp := true } slot.val)
/-- One byte of a host write to BAR0: only the request halves of the slots take it (R39, R468). -/
def putBar (s : State) (off : Nat) (b : Byte) : State :=
  if 0x20000 ≤ off ∧ off < 0x120000 ∧ (off - 0x20000) % 0x10000 < 0x8000 then
    { s with eo.buffers := tset 0 s.eo.buffers (off - 0x20000) b }
  else s
/-- The slots whose doorbells a write touches. -/
def rungSlots (off n : Nat) : List Nat :=
  (List.range 16).filter (fun k => decide (off < 0x10000 + 8 * k + 8) && decide (0x10000 + 8 * k < off + n))
/-- REGISTER_WRITE: a host write to BAR0 (R39); a write to a doorbell rings it. -/
def execRegisterWrite (off : BitVec 24) (data : List Byte) (s : State) : Result :=
  let s := data.zipIdx.foldl (fun s x => putBar s (off.toNat + x.2) x.1) { s with pin.pcieUp := true }
  .next ((rungSlots off.toNat data.length).foldl ringDoorbell s)

/-! ### The management port (R471 to R473) -/

/-- A datagram with a wrong auth field: EV-0705 at most once per second, with the number dropped (R472). -/
def authFailed (s : State) : State :=
  let n := s.eo.authDrops + 1
  if s.eo.authSecond = s.hl.time.toNat + 1 then { s with eo.authDrops := n }
  else raise { s with eo.authDrops := 0, eo.authSecond := s.hl.time.toNat + 1 } 0x0705 unitNone noLevel [n]
/-- A request of the management port, whole: duplicates are answered or dropped, and 32 may be open (R472). -/
def mgmtRequest (s : State) (addr : Word) (udp : Half) (seq : Word) (msg : List Byte) : State :=
  let m := sourceOf s addr udp
  let r : Req := { port := .mgmt addr udp, tag := headerTag msg, seq := seq }
  match m.answered.find? (fun x => x.1 == seq) with
  | some x => sendFragments s addr udp seq (responseBytes x.2)
  | none =>
    if m.opened.contains seq then s
    else if !m.answered.isEmpty && m.answered.all (fun x => decide (seq.toNat < x.1.toNat)) then s
    else if 32 ≤ (s.eo.sources.map (fun x => x.opened.length)).foldl (· + ·) 0 then refuse s r (headerOpcode msg) .busy
    else admitRequest (setSource s { m with opened := seq :: m.opened }) r msg
/-- The request being reassembled that a fragment belongs to. -/
def reassemblyOf (s : State) (addr : Word) (udp : Half) (seq : Word) : Reassembly :=
  (s.eo.reassembly.find? (fun x => x.addr == addr && x.udp == udp && x.seq == seq)).getD
    { addr := addr, udp := udp, seq := seq, parts := [], last := none }
/-- Every request being reassembled but one. -/
def otherParts (s : State) (addr : Word) (udp : Half) (seq : Word) : List Reassembly :=
  s.eo.reassembly.filter (fun x => !(x.addr == addr && x.udp == udp && x.seq == seq))
/-- A fragment of a request: the message is whole when its last fragment and every one before have arrived. -/
def takeFragment (s : State) (addr : Word) (udp : Half) (seq : Word) (frag : Nat) (payload : List Byte) : State :=
  let x := reassemblyOf s addr udp seq
  let last := if frag.testBit 6 then some (frag % 64) else x.last
  let parts := tput x.parts (frag % 64) payload
  let rest := otherParts s addr udp seq
  let whole := match last with
    | some n => (List.range (n + 1)).all (fun i => (tfind parts i).isSome)
    | none => false
  let msg := parts.flatMap Prod.snd
  if whole then
    let s := { s with eo.reassembly := rest }
    if 32 ≤ msg.length ∧ msg.length ≤ 32768 then mgmtRequest s addr udp seq msg else s
  else { s with eo.reassembly := rest ++ [{ x with parts := parts, last := last }] }
/-- Whether a datagram is a request of the protocol (R471). -/
def isRequest (bytes : List Byte) : Bool :=
  decide (32 ≤ bytes.length) && bytes.take 6 == [0x5A, 0x4B, 0x4D, 0x50, 0x01, 0x01] &&
    natLE ((bytes.drop 12).take 2) == (bytes.drop 32).length && decide ((bytes.drop 32).length ≤ 1400)
/-- MGMT_DATAGRAM (R471, R472). -/
def execMgmtDatagram (addr : Word) (udp : Half) (bytes : List Byte) (s : State) : Result :=
  if s.pin.stage < 2 ∧ !s.pin.recovery then .next s
  else
    let s := portBytes s 126 bytes.length
    let head := bytes.take 16
    let payload := bytes.drop 32
    if !(isRequest bytes) then .next s
    else if authField s (head ++ payload) != (bytes.drop 16).take 16 then .next (authFailed s)
    else .next (takeFragment s addr udp (BitVec.ofNat 32 (natLE ((bytes.drop 8).take 4))) (natLE ((bytes.drop 6).take 1)) payload)
/-- REASSEMBLY_TIMEOUT (R472). -/
def execReassemblyTimeout (addr : Word) (udp : Half) (seq : Word) (s : State) : Result :=
  .next { s with eo.reassembly := otherParts s addr udp seq }

/-! ### Peers (R474) and the port's own protocols (R471, R491, R536) -/

/-- PEER_REQUEST: a reassembled request of a peer; 8 of each rank may be open (R474). -/
def execPeerRequest (rank : Rank) (bytes : List Byte) (s : State) : Result :=
  if s.pin.stage < 2 ∧ !s.pin.recovery ∨ bytes.length < 32 ∨ 32768 < bytes.length then .next s
  else
    let r : Req := { port := .peer rank, tag := headerTag bytes, seq := 0 }
    let busy := decide (8 ≤ tget 0 s.eo.peerOpen rank.val)
    let s := { s with eo.peerOpen := tmod 0 s.eo.peerOpen rank.val (· + 1) }
    .next (if busy then refuse s r (headerOpcode bytes) .busy else admitRequest s r bytes)
/-- The port's IPv4 address: the setting, or the link-local one of the serial number (R491). -/
def ownAddress (s : State) : Word :=
  let a := setting s 0x00010102
  let n := s.id.serial.toNat
  if a = 0 then BitVec.ofNat 32 (169 * 2 ^ 24 + 254 * 2 ^ 16 + (1 + n % 254) * 256 + n / 254 % 256) else BitVec.ofNat 32 a
/-- The port's MAC address (R536). -/
def ownMac (s : State) : BitVec 48 := BitVec.ofNat 48 (0x025A4B * 2 ^ 24 + s.id.serial.toNat % 2 ^ 24)
/-- ARP_REQUEST (R471). -/
def execArpRequest (mac : BitVec 48) (ip target : Word) (s : State) : Result :=
  .next (if eometServes s && target == ownAddress s then
    { s with eo.outbox := .arpReply (ownMac s) (ownAddress s) mac ip :: s.eo.outbox } else s)
/-- ICMP_ECHO_REQUEST (R471). -/
def execIcmpEchoRequest (addr : Word) (payload : List Byte) (s : State) : Result :=
  .next (if eometServes s then { s with eo.outbox := .icmpReply addr payload :: s.eo.outbox } else s)

/-! ### The PCIe endpoint (R222, R470, R518, R532, R534, R535) -/

/-- Whether a request came through a host slot. -/
def fromHost (r : Req) : Bool := match r.port with
  | .host _ => true
  | _ => false
/-- What a function-level reset and a link-down do: open host requests are abandoned, DONE is cleared, the host's transactions
are rolled back, and host-initiated DMA stops (R470). -/
def dropHost (s : State) : State :=
  let s := rollbackHost s
  let keep := fun (r : Option Req) => if r.any fromHost then none else r
  { s with
    eo.slots := s.eo.slots.map (fun (x : Nat × HostSlot) => (x.1, { x.2 with openReq := none, done := 0 })),
    eo.opened := s.eo.opened.filter (fun c => !(fromHost c.req)),
    eo.txns := s.eo.txns.map (fun (x : Nat × Txn) => (x.1, { x.2 with commitReq := keep x.2.commitReq })),
    ctx.orders := s.ctx.orders.map (fun (x : CtxOrder) => { x with req := keep x.req }), plan.loadReq := keep s.plan.loadReq }
/-- Whether a loaded plan of this package places host DMA: a DMA operand in the off-load buffer (R215, R247). -/
def placesHostDma (s : State) : Bool :=
  planLoaded s && ((myBlock s).map RankBlock.templates).any (fun ts => ts.any (fun t =>
    t.descs.any (fun d => dsClass d == 4 && (oprSpace d.d4 == 4 || oprSpace d.d5 == 4))))
/-- A link-down (R222, R470). -/
def hostLinkDown (s : State) : State :=
  let s := dropHost { s with pin.pcieUp := false }
  if placesHostDma s then takeL3 s 0x0121 unitPackage [] else s
/-- FUNCTION_LEVEL_RESET: the dump ring is released too; a link-down where a loaded plan places host DMA (R470, R518). -/
def execFunctionLevelReset (cyc : Nat) (s : State) : Result :=
  let s := dropHost { atCycle s cyc with cnt.ring := none }
  .next (if placesHostDma s then takeL3 s 0x0121 unitPackage [] else s)
/-- PCIE_LINK_DOWN (R222, R470). -/
def execPcieLinkDown (cyc : Nat) (s : State) : Result := .next (hostLinkDown (atCycle s cyc))
/-- D3HOT_ENTRY (R535). -/
def execD3hotEntry (cyc : Nat) (s : State) : Result := .next (hostLinkDown (atCycle s cyc))
/-- PERST_N_LOW: the endpoint is reset, which counts as a link-down (R532). -/
def execPerstNLow (cyc : Nat) (s : State) : Result :=
  let s := atCycle s cyc
  .next (hostLinkDown { s with pin.perst := true })
/-- PERST_N_RISE: the endpoint comes up again (R499, R532). -/
def execPerstNRise (s : State) : Result := .next { s with pin.perst := false, pin.pcieUp := true }
/-- EV-0124 once per 1,024 frames in which correctable errors occur, with the count since it was last raised (R534). -/
def correctableError (s : State) : State :=
  let n := s.pin.pcieErrors + 1
  if tget 0 s.ev.once (0x0124 * 65536 + unitKey unitNone) = now s / 1024 + 1 then { s with pin.pcieErrors := n }
  else raiseOnce { s with pin.pcieErrors := 0 } 1024 0x0124 unitNone noLevel [n]
/-- PCIE_ERROR (R534). -/
def execPcieError (e : PcieErr) (cyc : Nat) (s : State) : Result :=
  let s := atCycle s cyc
  match e with
  | .correctable => .next (correctableError s)
  | .uncorrectable aer fatal =>
    let s := raise s 0x0125 unitNone noLevel [aer.toNat]
    .next (if fatal then hostLinkDown s else s)
  | .narrow width speed =>
    .next (raise { s with pin.pcieUp := true, pin.pcieWidth := width, pin.pcieSpeed := speed } 0x0126 unitNone noLevel [width, speed])

end Sys2Proof.Machine
end

