-- ==== Sys2Proof/Machine/Query.lean ====
section
/-!
DEFINITION. Sys2Proof/Machine/Query.lean: the commands that report the package's state (R480, R481), and EVENT_ACK (R409, R473).
-/
namespace Sys2Proof.Machine
open Sys2Proof

/-! ### IDENTITY, RUN_STATUS, PLAN state (R481, R40) -/

/-- Word 0x10 of the identity block: the running firmware's version and its security version. -/
def firmwareWord (s : State) : Nat :=
  s.eo.fwVersion % 256 + s.eo.fwVersion / 256 % 256 * 2 ^ 16 + s.eo.fwVersion / 65536 % 256 * 2 ^ 24 + s.eo.fwSecurity * 2 ^ 32
/-- Word 0x20: boot stage, flags and the plan format accepted. -/
def bootWord (s : State) : Nat :=
  s.pin.stage % 8 + bitNat s.pin.recovery * 2 ^ 3 + bitNat s.pin.selftest * 2 ^ 4 + bitNat s.eo.ownerKey.isSome * 2 ^ 5 +
    bitNat s.eo.mgmtKey.isSome * 2 ^ 6 + bitNat s.eo.fwActive * 2 ^ 7 + 3 * 2 ^ 8
/-- The words 0x00 and 0x08. -/
def partWords (s : State) : List Byte :=
  bytesLE 8 (0x5A4B3400 + s.id.stepping.toNat * 2 ^ 32 + s.id.ordering.toNat * 2 ^ 40) ++ bytesLE 8 s.id.serial.toNat
/-- The identity block, 64 bytes (R481). -/
def identityBlock (s : State) : List Byte :=
  partWords s ++ bytesLE 8 (firmwareWord s) ++ bytesLE 8 s.id.capacity.toNat ++ bytesLE 8 (bootWord s) ++
  bytesLE 8 (s.ev.nextSeq.toNat - 1 + s.hl.time.toNat * 2 ^ 32) ++ bytesLE 8 s.id.pciVendor.toNat ++ bytesLE 8 0
/-- IDENTITY (R481). -/
def execIdentity (r : Req) (s : State) : Result := .next (serve s r 0x0101 (fun s => answer s r 0x0101 (identityBlock s)))
/-- The words at 0x008 to 0x028 of the frame status page. -/
def statusWords (p : StatusPage) : List Byte :=
  [p.frameNow, p.committed, p.planPos, p.runState, p.version].flatMap (fun w => bytesLE 8 w.toNat)
/-- RUN_STATUS (R40, R480). -/
def execRunStatus (r : Req) (s : State) : Result := .next (serve s r 0x0102 (fun s => answer s r 0x0102 (statusWords s.fr.page)))

/-! ### Events (R409, R473, R480) -/

/-- The records of the ring from a sequence number on. -/
def recordsFrom (s : State) (first count : Nat) : List EventRec :=
  s.ev.ring.filter (fun e => decide (first ≤ e.seq.toNat) && decide (e.seq.toNat < first + count))
/-- EVENT_READ (R480). -/
def execEventRead (r : Req) (first : Word) (count : Half) (s : State) : Result :=
  .next (serve s r 0x0105 (fun s =>
    if 1 ≤ count.toNat ∧ count.toNat ≤ 500 then answer s r 0x0105 ((recordsFrom s first.toNat count.toNat).flatMap eventBytes)
    else refuse s r 0x0105 .badField))
/-- Acknowledging every record up to one: the loss that came before is reported, EV-0123 (R409). -/
def ackEvents (s : State) (seq : Word) : State :=
  let lost := s.ev.lost
  let s := { s with ev.acked := max s.ev.acked (seq.toNat + 1), ev.lost := none }
  match lost with
  | some (a, b) => raise s 0x0123 unitNone noLevel [a.toNat, b.toNat]
  | none => s
/-- EVENT_ACK (R473, R478, R479). -/
def execEventAck (r : Req) (seq : Word) (s : State) : Result :=
  .next (serve s r 0x0106 (fun s =>
    if seq.toNat < s.ev.nextSeq.toNat then acknowledged (ackEvents s seq) r 0x0106 (bytesLE 4 seq.toNat) []
    else refuse s r 0x0106 .badField))

/-! ### Arrays, ledger, memories and numerics -/

/-- The row group with the oldest refreshed field, the lowest of equals. -/
def oldestGroup (a : ArrayState) : Nat :=
  (List.range 16).foldl (fun m g =>
    if (tget RowGroup.fresh a.groups g).refreshed.toNat < (tget RowGroup.fresh a.groups m).refreshed.toNat then g else m) 0
/-- The programming status word of an array (R188). -/
def programmingStatus (a : ArrayState) : DWord :=
  BitVec.ofNat 64 (a.pendingRows.length + bitNat a.calPlaced * 2 ^ 10 + bitNat a.retirePending * 2 ^ 11 +
    (if a.pinOverflow then 65 else a.pins.length) * 2 ^ 12 + bitNat (!a.refreshing.isEmpty) * 2 ^ 19 + oldestGroup a * 2 ^ 20 +
    a.quality % 256 * 2 ^ 24 + a.version.toNat * 2 ^ 32)
/-- ARRAY_STATUS (R110, R188, R480). -/
def execArrayStatus (r : Req) (tile : TileId) (mask : Half) (s : State) : Result :=
  .next (serve s r 0x0201 (fun s =>
    answer s r 0x0201 (((List.range 16).filter (fun a => bitOf mask a)).flatMap (fun a =>
      let x := arrOf s (arrKey tile.val a)
      bytesLE 8 x.cond.toNat ++ bytesLE 8 (programmingStatus x).toNat))))
/-- LEDGER_HEAD (R149, R480). -/
def execLedgerHead (r : Req) (s : State) : Result :=
  .next (serve s r 0x0202 (fun s => answer s r 0x0202 (bytesLE 6 (s.led.latest.getD 0) ++ s.led.digest)))
/-- MEMORY_STATUS (R480). -/
def execMemoryStatus (r : Req) (st : Byte) (s : State) : Result :=
  .next (serve s r 0x0304 (fun s =>
    let k := stackOf s st.toNat
    if st.toNat < 8 then
      answer s r 0x0304 (bytesLE 8 k.corrections ++ bytesLE 8 k.uncorrectables ++ bytesLE 8 k.scrub ++ bytesLE 8 k.journalHigh)
    else refuse s r 0x0304 .badField))
/-- Entries of a numerics part: how many there are, and one as bytes. -/
def numericsPart (s : State) (part : Nat) : Nat × (Nat → List Byte) :=
  match part with
  | 0 => (65536, fun i => scaleBytes (tget ScaleEntry.zero s.num.scales i))
  | 1 => (1, fun _ => bytesLE 8 (lossWord s))
  | 2 => (256, fun i => bytesLE 8 (layerWord (layerOf s i)))
  | 3 => (32768, fun i =>
      let oldest := (s.num.head + 32768 - s.num.ring.length) % 32768
      match s.num.ring[(i + 32768 - oldest) % 32768]? with
      | some x => monitorBytes x
      | none => List.replicate 32 0)
  | _ => (0, fun _ => [])
/-- Bytes of an entry of a numerics part. -/
def numericsSize (part : Nat) : Nat := if part = 1 ∨ part = 2 then 8 else 32
/-- NUMERICS_STATE (R322, R325, R332, R339, R480): entries that exist, as many as a response holds. -/
def execNumericsState (r : Req) (part : Byte) (first : Word) (count : Half) (s : State) : Result :=
  .next (serve s r 0x0401 (fun s =>
    let x := numericsPart s part.toNat
    if 0 < count.toNat ∧ first.toNat + count.toNat ≤ x.1 ∧ numericsSize part.toNat * count.toNat ≤ 32640 then
      answer s r 0x0401 ((List.range count.toNat).flatMap (fun i => x.2 (first.toNat + i)))
    else refuse s r 0x0401 .badField))

/-! ### What the snapshot reports (R380, R381, R406, R461, R506) -/

/-- LINK_STATUS. -/
def execLinkStatus (r : Req) (mask : DWord) (s : State) : Result :=
  .next (serve s r 0x0501 (fun s =>
    if mask.toNat < 2 ^ 48 then
      answer s r 0x0501 (((List.range 48).filter (fun l => bitOf mask l)).flatMap (fun l => linkBytes (shadowOf s) l))
    else refuse s r 0x0501 .badField))
/-- QUEUE_STATUS. -/
def execQueueStatus (r : Req) (lake : Half) (s : State) : Result :=
  .next (serve s r 0x0502 (fun s =>
    if lake.toNat < 258 then answer s r 0x0502 (lakeBytes (shadowOf s) lake.toNat) else refuse s r 0x0502 .badField))
/-- The counters of a power block: 0 tile, 1 stack, 2 link, 3 Lake, 4 package (R461). -/
def powerBlock (x : Snapshot) (kind index : Nat) : Option (List Byte) :=
  match kind with
  | 0 => if index < 256 then some (tilePower x index) else none
  | 1 => if index < 8 then some (stackWords x index) else none
  | 2 => if index < 48 then some (bytesLE 8 (tget 0 x.tele.energy (energyKey 2 index 0))) else none
  | 3 => if index < 258 then some ((List.range 5).flatMap (fun w => bytesLE 8 (tget 0 x.tele.energy (energyKey 3 index w)))) else none
  | 4 => if index = 0 then some (railWords x) else none
  | _ => none
/-- POWER_STATUS. -/
def execPowerStatus (r : Req) (kind : Byte) (index : Half) (s : State) : Result :=
  .next (serve s r 0x0601 (fun s =>
    match powerBlock (shadowOf s) kind.toNat index.toNat with
    | some b => answer s r 0x0601 b
    | none => refuse s r 0x0601 .badField))

/-! ### AOM filters (R480, R492) -/

/-- The 128 bytes of a filter. -/
def filterBytes (w : BitVec 1024) : List Byte := bytesLE 128 w.toNat
/-- AOM_FILTER_READ. -/
def execAomFilterRead (r : Req) (slot : Byte) (s : State) : Result :=
  .next (serve s r 0x0602 (fun s =>
    if 1 ≤ slot.toNat ∧ slot.toNat ≤ 32 then answer s r 0x0602 (filterBytes (filterAt s slot.toNat)) else refuse s r 0x0602 .badField))

end Sys2Proof.Machine
end

