-- ==== Sys2Proof/Machine/Control.lean ====
section
/-!
DEFINITION. Sys2Proof/Machine/Control.lean: stopping and resetting (R482), exports, the off-load buffer and host DMA (R42, R215, R288,
R290, R437, R480), and the AOM's loaded filters (R492).
-/
namespace Sys2Proof.Machine
open Sys2Proof

/-! ### STOP and RESET (R432, R478, R482, R499) -/

/-- The first plan position that has not begun. -/
def firstUnbegun (s : State) : Nat := match s.fr.running with
  | some f => f.index + 1
  | none => s.fr.pos.toNat
/-- Plan frames of the loaded plan. -/
def loadedFrames (s : State) : Nat := ((s.plan.loaded).map planFrames).getD 0
/-- The counter frame at whose tick a position that has not begun would begin, without holds. -/
def beginFrameOf (s : State) (pos : Nat) : Nat := now s + (pos + 1 - firstUnbegun s)
/-- STOP_AT_POSITION (R482). -/
def execStopAtPosition (r : Req) (pos : Word) (s : State) : Result :=
  .next (serve s r 0x0103 (fun s =>
    if planRuns s ∧ firstUnbegun s ≤ pos.toNat ∧ pos.toNat < loadedFrames s then
      let halt := bytesLE 6 (beginFrameOf s pos.toNat)
      settled { s with fr.stopAt := some pos.toNat } r 0x0103 halt halt
    else refuse s r 0x0103 .badField))
/-- STOP_NOW: a self-expulsion with EV-0115; the package halts at the expulsion tick (R432, R482). -/
def execStopNow (r : Req) (cyc : Nat) (s : State) : Result :=
  .next (serve (atCycle s cyc) r 0x0103 (fun s =>
    if planRuns s then
      let halt := bytesLE 6 (expelFrame s + 1)
      settled (takeL3 s 0x0115 unitPackage []) r 0x0103 halt halt
    else refuse s r 0x0103 .refusedState))
/-- What RESET sends before the reset begins: the response without a digest, and EV-0106 (R478, R479). -/
def resetAnswer (s : State) (r : Req) (opcode : Nat) : State := answer (changeEvent s r opcode) r opcode []
/-- RESET_WARM (R482, R499). -/
def execResetWarm (r : Req) (s : State) : Result :=
  .next (serve s r 0x0104 (fun s =>
    if planRuns s then refuse s r 0x0104 .busyLive else warmReset (orderlyStop (resetAnswer s r 0x0104))))
/-- RESET_POWER_CYCLE (R482, R499, R528). -/
def execResetPowerCycle (r : Req) (s : State) : Result :=
  .next (serve s r 0x0104 (fun s =>
    if planRuns s then refuse s r 0x0104 .busyLive else coldReset true (orderlyStop (resetAnswer s r 0x0104))))

/-! ### LEDGER_EXPORT (R149, R480, R482) -/

/-- Whether every record of a span is still in the ledger ring. -/
def recordsExist (s : State) (first count : Nat) : Bool :=
  match s.plan.loaded.bind ledgerRing, s.led.latest, s.led.first with
  | some ring, some latest, some f =>
    decide (f ≤ first) && decide (first + count ≤ latest + 1) && decide (latest < first + ring.2)
  | _, _, _ => false
/-- Committed bytes of device memory, as host DMA reads them (R42). -/
def committedBytes (s : State) (a n : Nat) : List Byte :=
  let lines := linesOf a n
  let all := lines.flatMap (fun l => (committedLine s l).1)
  (all.drop (a - lines.headD a)).take n
/-- LEDGER_EXPORT. -/
def execLedgerExport (r : Req) (frame : BitVec 48) (count : Word) (host : DWord) (s : State) : Result :=
  .next (serveC s r 0x0203 (fun s =>
    if 1 ≤ count.toNat ∧ count.toNat ≤ 65536 ∧ recordsExist s frame.toNat count.toNat then
      accept s r 0x0203 [frame.toNat, count.toNat, host.toNat] []
    else refuse s r 0x0203 .badField))
/-- The records of an export, written to host memory in the order of their frames. -/
def exportRecords (s : State) (first count host : Nat) : State :=
  match s.plan.loaded.bind ledgerRing with
  | some ring => (List.range count).foldl (fun s i =>
      writeHost s (host + 8192 * i) (committedBytes s (recordAddr ring (first + i)) 8192)) s
  | none => s
/-- LEDGER_EXPORT_DONE. -/
def execLedgerExportDone (r : Req) (s : State) : Result :=
  match openCommand s r 0x0203 with
  | some c =>
    let count := c.args.getD 1 0
    let s := exportRecords (closeCommand s c) (c.args.getD 0 0) count (c.args.getD 2 0)
    .next (respond s r 0x0203 .ok true [] (bytesLE 4 count))
  | none => .next s

/-! ### The off-load buffer (R215, R478, R482) -/

/-- OFFLOAD_REGISTER. -/
def execOffloadRegister (r : Req) (host length : DWord) (s : State) : Result :=
  .next (serve s r 0x0301 (fun s =>
    if placesHostDma s then refuse s r 0x0301 .busyLive
    else if host.toNat % 64 = 0 ∧ 0 < length.toNat ∧ length.toNat % 4160 = 0 then
      settled { s with ctx.offload := some (host.toNat, length.toNat) } r 0x0301 (bufferBytes host.toNat length.toNat) []
    else refuse s r 0x0301 .badField))
/-- OFFLOAD_RELEASE. -/
def execOffloadRelease (r : Req) (s : State) : Result :=
  .next (serve s r 0x0302 (fun s =>
    if planRuns s then refuse s r 0x0302 .busyLive
    else settled { s with ctx.offload := none } r 0x0302 (bufferBytes 0 0) []))

/-! ### HOST_TRANSFER (R42, R288, R290, R437) -/

/-- Accepting a transfer: direction 0 to the host, 1 to the device. The acceptance of a write digests what it will replace. -/
def acceptTransfer (s : State) (r : Req) (dir device host length : Nat) : State :=
  if 0 < length ∧ length % 64 = 0 ∧ hbmUsable s device length then
    accept s r 0x0303 [dir, device, host, length] (if dir = 1 then readback 0x0303 r.tag (committedBytes s device length) else [])
  else refuse s r 0x0303 .badField
/-- HOST_TRANSFER_TO_HOST. -/
def execHostTransferToHost (r : Req) (device host length : DWord) (s : State) : Result :=
  .next (serveC s r 0x0303 (fun s => acceptTransfer s r 0 device.toNat host.toNat length.toNat))
/-- HOST_TRANSFER_TO_DEVICE. -/
def execHostTransferToDevice (r : Req) (device host length : DWord) (s : State) : Result :=
  .next (serveC s r 0x0303 (fun s => acceptTransfer s r 1 device.toNat host.toNat length.toNat))
/-- Bytes moved over the host link, counted at I/O die 0 (R513 ports 0 and 1). -/
def hostIn (s : State) (n : Nat) : State := portBytes (active s (blockIo 0) 1 n) 0 n
def hostOut (s : State) (n : Nat) : State := portBytes (active s (blockIo 0) 2 n) 1 n
/-- HOST_TRANSFER_DONE: a read returns committed data; the last byte of a write lands in this counter frame (R42). -/
def execHostTransferDone (r : Req) (poisoned : Bool) (s : State) : Result :=
  match openCommand s r 0x0303 with
  | some c =>
    let device := c.args.getD 1 0
    let host := c.args.getD 2 0
    let n := c.args.getD 3 0
    if c.args.getD 0 0 = 0 then
      let s := hostOut (writeHost (closeCommand s c) host (committedBytes s device n)) n
      .next (respond s r 0x0303 .ok true [] (bytesLE 8 n))
    else
      let w : HostWrite := { addr := device, data := hostBytes s host n, poisoned := poisoned, req := r }
      .next { hostIn s n with mem.landed := s.mem.landed ++ [w] }
  | none => .next s
/-- Whether a host write to a codeword is discarded with EV-0105: into a region of kind 8, into device-reserved memory, or into
a checkpoint slot while a plan runs (R290, R437). -/
def hostBarred (s : State) (line : Nat) : Bool :=
  match s.plan.loaded.bind (fun p => regionAt p line) with
  | some e => rgKind e == 8 || (rgKind e == 9 && planRuns s)
  | none => false
/-- Whether the plan frame of the landing frame has written a codeword (R42). -/
def planTouched (s : State) (line : Nat) : Bool := s.mem.planWrote.contains line || s.mem.hbmJournal.any (fun p => p.addr == line)
/-- One codeword of a host write. -/
def landLine (w : HostWrite) (s : State) (line : Nat) : State :=
  let lo := max w.addr line
  let hi := min (w.addr + w.data.length) (line + 64)
  let part := (w.data.drop (lo - w.addr)).take (hi - lo)
  writeHbm s .plain lo part (fun _ => if w.poisoned then some (1, devStack line) else none)
/-- A host write at the tick that ends its landing frame, with the final response of its transfer (R42, R288). -/
def landWrite (s : State) (w : HostWrite) : State :=
  let lines := linesOf w.addr w.data.length
  let barred := lines.any (hostBarred s)
  let lost := lines.filter (planTouched s)
  let kept := if barred then [] else lines.filter (fun l => !(planTouched s l))
  let s := if barred then raise s 0x0105 unitNone noLevel [] else if lost.isEmpty then s else raise s 0x0104 unitNone noLevel [lost.length]
  let s := if w.poisoned ∧ !barred then raise s 0x0304 unitNone noLevel [] else s
  let s := kept.foldl (landLine w) s
  match openCommand s w.req 0x0303 with
  | some c =>
    let state := readback 0x0303 w.req.tag (hbmBytes s w.addr w.data.length)
    respond (changeEvent (closeCommand s c) w.req 0x0303) w.req 0x0303 .ok true state (bytesLE 8 (if barred then 0 else w.data.length))
  | none => s
/-- Every write that has landed takes effect at the tick. -/
def landedTick (s : State) : State :=
  let s := s.mem.landed.foldl landWrite { s with mem.landed := [] }
  { s with mem.planWrote := [] }

/-! ### Loaded AOM filters (R459, R492, R493) -/

/-- Instructions of the slots as they will stand at the next tick, but for one. -/
def otherInstrs (s : State) (slot : Nat) : Nat :=
  let next := s.aom.staged.foldl (fun t x => tset 0 t x.1 (x.2.getD 0)) s.aom.slots
  ((next.filter (fun x => x.1 != slot)).map (fun x => ftCount x.2)).foldl (· + ·) 0
/-- Whether an instruction may stand in a loaded filter. -/
def aomInstrOk (x : Nat × Nat) : Bool :=
  match x.1 with
  | 1 => inputExists x.2
  | 2 => decide (2 ≤ x.2) && decide (x.2 ≤ 1024)
  | 4 | 5 => decide (x.2 ≤ 3)
  | 6 => decide (x.2 ≤ 2)
  | 7 => decide (1 ≤ x.2) && decide (x.2 ≤ 1024)
  | 3 | 8 | 9 | 10 => true
  | _ => false
/-- Whether a filter's fields are in their ranges, its event in block 0x06xx, and its program valid. -/
def filterOk (w : BitVec 1024) : Bool :=
  let prog := (List.range (ftCount w)).map (ftInstr w)
  bitsOf w 7 6 == 0 && bitsOf w 31 24 == 0 && bitsOf w 511 192 == 0 && decide (1 ≤ ftAction w) && decide (ftAction w ≤ 4) &&
    (ftAction w != 2 || (decide (1 ≤ ftLevel w) && decide (1 ≤ ftHold w))) && ftEvent w / 256 == 6 &&
    prog.all aomInstrOk && decide (prog.countP (fun x => x.1 == 2) ≤ 1) &&
    (List.range (ftCount w)).all (fun k => bitsOf w (527 + 32 * k) (512 + 32 * k) == 0)
/-- The protected slots. -/
def protectedSlots : List Nat := [1, 2, 5, 8]
/-- AOM_FILTER_LOAD: takes effect at the next tick. -/
def execAomFilterLoad (r : Req) (filter : BitVec 1024) (s : State) : Result :=
  .next (serve s r 0x0603 (fun s =>
    let slot := bitsOf filter 5 0
    if protectedSlots.contains slot then refuse s r 0x0603 .notPermitted
    else if slot < 1 ∨ 32 < slot ∨ !(filterOk filter) ∨ 256 < otherInstrs s slot + ftCount filter then refuse s r 0x0603 .badField
    else settled { s with aom.staged := s.aom.staged ++ [(slot, some filter)] } r 0x0603 (filterBytes filter) []))
/-- AOM_FILTER_REMOVE. -/
def execAomFilterRemove (r : Req) (slot : Byte) (s : State) : Result :=
  .next (serve s r 0x0604 (fun s =>
    if protectedSlots.contains slot.toNat then refuse s r 0x0604 .notPermitted
    else if slot.toNat < 1 ∨ 32 < slot.toNat then refuse s r 0x0604 .badField
    else settled { s with aom.staged := s.aom.staged ++ [(slot.toNat, none)] } r 0x0604 (filterBytes 0) []))

end Sys2Proof.Machine
end

