-- ==== Sys2Proof/Machine/ContextCmd.lean ====
section
/-!
DEFINITION. Sys2Proof/Machine/ContextCmd.lean: the host's commands on generation contexts (R225, R227 to R230, R480).
-/
namespace Sys2Proof.Machine
open Sys2Proof

/-! ### Entries -/

/-- Whether the plan names a context table. -/
def hasContexts (s : State) : Bool := (s.plan.loaded.bind (fun p => regionOf p 3)).isSome
/-- Contexts of the table (R227). -/
def contextCount : Nat := 262144
/-- An entry's committed bytes. -/
def entryBytes (s : State) (n : Nat) : List Byte := committedBytes s (ctxAddr s n 0) 64
/-- Changing an entry from the host's side: in memory, and in what a replay would restore, so that a replay does not undo it. -/
def modEntryBytes (s : State) (n : Nat) (f : List Byte → List Byte) : State :=
  let a := ctxAddr s n 0
  let s := { s with mem.hbmJournal := s.mem.hbmJournal.map (fun p => if p.addr = a then { p with data := f p.data } else p) }
  writeHbm s .plain a (f (hbmBytes s a 64)) noPoison
/-- A word of an entry replaced. -/
def putWord (off v : Nat) (bs : List Byte) : List Byte := bs.take off ++ bytesLE 8 v ++ bs.drop (off + 8)
/-- A word of an entry's bytes. -/
def wordAt (bs : List Byte) (off : Nat) : Nat := natLE ((bs.drop off).take 8)
/-- The fields of word 0x08 and of word 0x18 that a host writes (R228). -/
def maskWord8 (w : DWord) : Nat := bitsOf w 20 0 + bitsOf w 56 32 * 2 ^ 32
def maskWord18 (w : DWord) : Nat := bitsOf w 40 0
/-- A temperature that is finite and not negative. -/
def temperatureOk (t : Nat) : Bool := t / 2 ^ 23 % 256 != 255 && (decide (t < 2 ^ 31) || t == 2 ^ 31)
/-- Whether a context's words are in their ranges (R228). -/
def wordsOk (word8 word18 : DWord) : Bool :=
  decide (1 ≤ bitsOf word8 20 0) && decide (bitsOf word8 20 0 ≤ 1048576) && temperatureOk (bitsOf word18 31 0) &&
    decide (bitsOf word18 40 32 ≤ 256)
/-- Whether a context is generating or stalled (R227). -/
def contextLive (s : State) (n : Nat) : Bool := ctxState s n == 2 || ctxState s n == 3
/-- What every command on one context checks first. -/
def onContext (s : State) (r : Req) (opcode : Nat) (n : Nat) (f : State → State) : State :=
  if !(hasContexts s) then refuse s r opcode .refusedState
  else if contextCount ≤ n then refuse s r opcode .badField
  else f s
/-- An order of a request. -/
def order (opcode n : Nat) (r : Req) (tokens : List Nat) (word8 word18 : DWord) : CtxOrder :=
  { opcode := opcode, context := n, req := some r, tokens := tokens, word8 := word8, word18 := word18 }
/-- An order joins those of the next tick. -/
def addOrder (s : State) (o : CtxOrder) : State := { s with ctx.orders := s.ctx.orders ++ [o] }

/-! ### The commands -/

/-- CONTEXT_LOAD. -/
def execContextLoad (r : Req) (context : Word) (host : DWord) (promptLen : Word) (word8 word18 : DWord) (s : State) : Result :=
  .next (serveC s r 0x0410 (fun s => onContext s r 0x0410 context.toNat (fun s =>
    if 1048576 < promptLen.toNat ∨ !(wordsOk word8 word18) then refuse s r 0x0410 .badField
    else if contextLive s context.toNat then refuse s r 0x0410 .busyLive
    else accept s r 0x0410 [context.toNat, host.toNat, promptLen.toNat, word8.toNat, word18.toNat]
      (readback 0x0410 r.tag (entryBytes s context.toNat)))))
/-- CONTEXT_LOAD_DONE: the prompt has arrived; the load takes effect at the next tick (R227). -/
def execContextLoadDone (r : Req) (s : State) : Result :=
  match openCommand s r 0x0410 with
  | some c =>
    let n := c.args.getD 2 0
    let tokens := (List.range n).map (fun i => readLE s.mem.host (c.args.getD 1 0 + 4 * i) 4)
    let o := order 0x0410 (c.args.getD 0 0) r tokens (BitVec.ofNat 64 (c.args.getD 3 0)) (BitVec.ofNat 64 (c.args.getD 4 0))
    .next (if s.ctx.orders.any (fun x => x.opcode == 0x0410 && x.req == some r) then s else addOrder (hostIn s (4 * n)) o)
  | none => .next s
/-- CONTEXT_READ. -/
def execContextRead (r : Req) (first : Word) (count : Half) (s : State) : Result :=
  .next (serve s r 0x0411 (fun s => onContext s r 0x0411 first.toNat (fun s =>
    if 1 ≤ count.toNat ∧ count.toNat ≤ 500 ∧ first.toNat + count.toNat ≤ contextCount then
      answer s r 0x0411 ((List.range count.toNat).flatMap (fun i => entryBytes s (first.toNat + i)))
    else refuse s r 0x0411 .badField)))
/-- CONTEXT_WRITE (R227). -/
def execContextWrite (r : Req) (context : Word) (word8 word18 : DWord) (s : State) : Result :=
  .next (serve s r 0x0412 (fun s => onContext s r 0x0412 context.toNat (fun s =>
    if !(wordsOk word8 word18) then refuse s r 0x0412 .badField
    else if contextLive s context.toNat then refuse s r 0x0412 .busyLive
    else addOrder s (order 0x0412 context.toNat r [] word8 word18))))
/-- CONTEXT_STOP (R230). -/
def execContextStop (r : Req) (context : Word) (s : State) : Result :=
  .next (serve s r 0x0413 (fun s => onContext s r 0x0413 context.toNat (fun s =>
    if contextLive s context.toNat then addOrder s (order 0x0413 context.toNat r [] 0 0)
    else refuse s r 0x0413 .refusedState)))
/-- CONTEXT_RELEASE (R225). -/
def execContextRelease (r : Req) (context : Word) (s : State) : Result :=
  .next (serve s r 0x0414 (fun s => onContext s r 0x0414 context.toNat (fun s =>
    if contextLive s context.toNat then refuse s r 0x0414 .busyLive
    else if ctxState s context.toNat = 0 then refuse s r 0x0414 .refusedState
    else addOrder s (order 0x0414 context.toNat r [] 0 0))))
/-- CONTEXT_TOKENS (R229): positions that the context holds. -/
def execContextTokens (r : Req) (context first count : Word) (host : DWord) (s : State) : Result :=
  .next (serveC s r 0x0415 (fun s => onContext s r 0x0415 context.toNat (fun s =>
    let len := wordAt (entryBytes s context.toNat) 0 / 2 ^ 8 % 2 ^ 21
    if ctxState s context.toNat = 0 then refuse s r 0x0415 .refusedState
    else if 1 ≤ count.toNat ∧ first.toNat + count.toNat ≤ len then
      accept s r 0x0415 [context.toNat, first.toNat, count.toNat, host.toNat] []
    else refuse s r 0x0415 .badField)))
/-- Entries of a context's token record, written to host memory. -/
def copyTokens (s : State) (n first count host : Nat) : State :=
  (List.range count).foldl (fun s i =>
    match tokenAddr s n (first + i) with
    | some a => writeHost s (host + 16 * i) (committedBytes s a 16)
    | none => s) s
/-- CONTEXT_TOKENS_DONE. -/
def execContextTokensDone (r : Req) (s : State) : Result :=
  match openCommand s r 0x0415 with
  | some c =>
    let count := c.args.getD 2 0
    let s := hostOut (copyTokens (closeCommand s c) (c.args.getD 0 0) (c.args.getD 1 0) count (c.args.getD 3 0)) (16 * count)
    .next (respond s r 0x0415 .ok true [] (bytesLE 4 count))
  | none => .next s

/-! ### At the tick -/

/-- The entry that a load leaves: ready, with the prompt's length and the next epoch. -/
def loadedEntry (o : CtxOrder) (kv tok : Nat) (bs : List Byte) : List Byte :=
  let n := o.tokens.length
  let epoch := (wordAt bs 0x28 % 2 ^ 32 + 1) % 2 ^ 32
  bytesLE 8 (1 + n * 2 ^ 8 + n * 2 ^ 32) ++ bytesLE 8 (maskWord8 o.word8) ++ bytesLE 8 (kv + tok * 2 ^ 32) ++
  bytesLE 8 (maskWord18 o.word18) ++ bytesLE 8 0 ++ bytesLE 8 epoch ++ bytesLE 8 0 ++ bytesLE 8 0
/-- A prompt token's record entry (R229). -/
def promptEntry (tok : Nat) : List Byte := bytesLE 4 (tok % 2 ^ 24 + 2 ^ 24) ++ List.replicate 12 0
/-- Writing a prompt token, and holding the KV block of its position. -/
def putPrompt (n : Nat) (s : Option State) (x : Nat × Nat) : Option State :=
  (s.bind (fun s => (ensureToken s n x.2).bind (fun s => ensureKv s n x.2))).map (fun s =>
    match tokenAddr s n x.2 with
    | some a => writeHbm s .plain a (promptEntry x.1) noPoison
    | none => s)
/-- A load: what the context held returns to the pools, and the prompt is written; none where a pool is used up (R225, R228). -/
def loadContext (s : State) (o : CtxOrder) : Option State :=
  let s := if ctxState s o.context = 0 then s else releaseHeld s o.context
  (takePage s absentPage).bind (fun x =>
    (takePage x.1 absentPage).bind (fun y =>
      let s := modEntryBytes y.1 o.context (loadedEntry o x.2 y.2)
      o.tokens.zipIdx.foldl (putPrompt o.context) (some s)))
/-- The effect of an order, or none where it fails. -/
def orderEffect (s : State) (o : CtxOrder) : Option State :=
  let n := o.context
  match o.opcode with
  | 0x0410 => loadContext s o
  | 0x0412 => some (modEntryBytes s n (fun bs => putWord 0x18 (maskWord18 o.word18) (putWord 8 (maskWord8 o.word8) bs)))
  | 0x0413 =>
    if contextLive s n then some (modEntryBytes s n (fun bs => putWord 0 (setBits (setBits (wordAt bs 0) 2 0 4) 5 3 5) bs)) else some s
  | _ => some (modEntryBytes (releaseHeld s n) n (fun bs => putWord 0 (setBits (wordAt bs 0) 28 0 0) bs))
/-- The response that an order owes: the entry, but for a release (R478, R480). -/
def orderAnswer (s : State) (o : CtxOrder) (ok : Bool) : State :=
  match o.req with
  | none => s
  | some r =>
    let s := { s with eo.opened := s.eo.opened.filter (fun c => !(c.opcode == 0x0410 && c.req == r)) }
    let e := entryBytes s o.context
    if ok then settled s r o.opcode e (if o.opcode = 0x0414 then [] else e) else respond s r o.opcode .failed true [] []
/-- The context commands that take effect at a tick, in their order (R227). -/
def contextsTick (s : State) : State :=
  s.ctx.orders.foldl (fun s o =>
    match hasContexts s, orderEffect s o with
    | true, some s' => orderAnswer s' o true
    | _, _ => orderAnswer s o false) { s with ctx.orders := [] }

end Sys2Proof.Machine
end

