-- ==== Sys2Proof/Machine/Security.lean ====
section
/-!
DEFINITION. Sys2Proof/Machine/Security.lean: firmware images (R494, R495, R498), attestation (R500), the identity certificate
(R501), and the owner and management keys (R502, R503).
-/
namespace Sys2Proof.Machine
open Sys2Proof

/-! ### Firmware (R498) -/

/-- The firmware slot that is not active. -/
def idleSlot (s : State) : Nat := bitNat (!s.eo.fwActive)
/-- FW_STAGE: an image of at most 8 MiB with its signature section. -/
def execFwStage (r : Req) (host : DWord) (length : Word) (s : State) : Result :=
  .next (serveC s r 0x0701 (fun s =>
    if 4096 ≤ length.toNat ∧ length.toNat ≤ 2 ^ 23 then
      accept s r 0x0701 [host.toNat, length.toNat] (readback 0x0701 r.tag (imageManifest s host.toNat length.toNat))
    else refuse s r 0x0701 .badField))
/-- The content of a firmware slot that an image in host memory gives. -/
def slotImage (s : State) (host length : Nat) : FwSlot :=
  { manifest := BitVec.ofNat 512 (natLE (imageManifest s host length)), key := imageKey s host length,
    signature := imageSignature s host length, hash := sha256 (hostBytes s host (length - 4096)), length := length }
/-- FW_STAGE_DONE: the image is in the slot that is not active, and is verified there (R495, R498). -/
def execFwStageDone (r : Req) (s : State) : Result :=
  match openCommand s r 0x0701 with
  | some c =>
    let host := c.args.getD 0 0
    let length := c.args.getD 1 0
    let f := slotImage s host length
    let m := imageManifest s host length
    let s := hostIn (closeCommand { s with eo.fwSlots := tput s.eo.fwSlots (idleSlot s) f } c) length
    .next (if slotVerifies f then respond (changeEvent s r 0x0701) r 0x0701 .ok true (readback 0x0701 r.tag m) m
      else respond (raise s 0x0702 unitNone noLevel []) r 0x0701 .signature true [] [])
  | none => .next s
/-- FW_ACTIVATE: the named slot becomes the preferred one, then a power-cycle reset (R498). The boot control word that its
digest covers is free. -/
def execFwActivate (r : Req) (slot : Byte) (s : State) : Result :=
  .next (serve s r 0x0702 (fun s =>
    if planRuns s then refuse s r 0x0702 .busyLive
    else if 1 < slot.toNat then refuse s r 0x0702 .badField
    else
      let word := Config.bootControlWord s.free
      let s := settled { draw s with eo.fwPreferred := slot == 1 } r 0x0702 (bytesLE 8 word.toNat) []
      coldReset true (orderlyStop s)))

/-! ### Attestation (R500, R501) -/

/-- The 32 filter slots as loaded. -/
def filterImage (s : State) : List Byte := (List.range 32).flatMap (fun k => filterBytes (filterAt s (k + 1)))
/-- Units in a state of the health history. -/
def unitsIn (s : State) (st : UnitState) : Nat := s.hl.recs.countP (fun x => decide (x.2.state = st))
/-- RUN_STATE run as a number (R40). -/
def runCode (s : State) : Nat := match s.fr.run with
  | .ready => 0
  | .running => 1
  | .held => 2
  | .halted => 3
/-- The manifest of the running firmware. -/
def firmwareManifest (s : State) : List Byte :=
  match tfind s.eo.fwSlots (bitNat s.eo.fwActive) with
  | some f => bytesLE 64 f.manifest.toNat
  | none => List.replicate 64 0
/-- The report of 256 bytes, signed with leaf q. -/
def attestReport (s : State) (nonce : BitVec 256) (q : Nat) : List Byte :=
  [0x5A, 0x4B, 0x41, 0x54] ++ bytesLE 4 1 ++ partWords s ++ bytesLE 8 (firmwareWord s) ++ bytesLE 32 nonce.toNat ++
  sha256 (firmwareManifest s) ++ sha256 (filterImage s) ++
  (match s.eo.ownerKey with
   | some k => sha256 k
   | none => List.replicate 32 0) ++
  (if s.plan.loaded.isSome then sha256 s.plan.manifest else List.replicate 32 0) ++
  bytesLE 4 (planIdField s).toNat ++ bytesLE 2 (rankField s) ++ bytesLE 1 (runCode s) ++ [0] ++ bytesLE 8 (now s) ++
  bytesLE 4 s.hl.time.toNat ++ bytesLE 4 q ++ bytesLE 2 (unitsIn s .retired) ++ bytesLE 2 (unitsIn s .quarantined) ++
  List.replicate 36 0
/-- Whether the next signature needs a new reservation fuse. -/
def needsFuse (s : State) : Bool := !s.eo.leafReady || s.eo.leaf == 64 * s.eo.leafFuses
/-- Blowing the next reservation fuse: its block's first leaf is the next, EV-0707. -/
def blowFuse (s : State) : State :=
  raise { s with eo.leaf := 64 * s.eo.leafFuses, eo.leafFuses := s.eo.leafFuses + 1, eo.leafReady := true } 0x0707 unitNone noLevel []
/-- ATTEST. -/
def execAttest (r : Req) (nonce : BitVec 256) (s : State) : Result :=
  .next (serve s r 0x0703 (fun s =>
    if s.eo.tokens = 0 ∨ (needsFuse s ∧ 16384 ≤ s.eo.leafFuses) then refuse (raise s 0x0703 unitNone noLevel []) r 0x0703 .exhausted
    else
      let s := if needsFuse s then blowFuse s else s
      let q := s.eo.leaf
      let report := attestReport s nonce q
      let s := { s with eo.tokens := s.eo.tokens - 1, eo.leaf := q + 1 }
      answer s r 0x0703 (report ++ Config.hssSign q report)))
/-- ATTEST_TOKEN_REFILL: one token every 450 s, up to 16. -/
def execAttestTokenRefill (s : State) : Result := .next { s with eo.tokens := min 16 (s.eo.tokens + 1) }
/-- IDENTITY_CERT (R501). -/
def execIdentityCert (r : Req) (s : State) : Result := .next (serve s r 0x0704 (fun s => answer s r 0x0704 Config.identityCert))

/-! ### Keys (R502, R503) -/

/-- The digest of an installed key; zeros if none (R478). -/
def keyDigest (k : Option (List Byte)) : List Byte :=
  match k with
  | some k => sha256 k
  | none => List.replicate 32 0
/-- Whether a signed record of type 3 verifies under a key (R494, R495, R502). -/
def recordVerifies (key record : List Byte) : Bool :=
  let sec := record.drop 4096
  let m := sec.take 64
  Config.hssVerify key m ((sec.drop 0x7C).take 2964) && manifestField m 31 0 == 0x4E414D5A &&
    m.drop 32 == sha256 (record.take 4096) && manifestField m 39 32 == 3 && manifestField m 159 96 == record.length &&
    record.take 4 == [0x5A, 0x4B, 0x4F, 0x4B]
/-- The fields of a record's content. -/
def recordSerial (record : List Byte) : Nat := natLE ((record.drop 4).take 8)
def recordCounter (record : List Byte) : Nat := natLE ((record.drop 12).take 4)
def recordKey (record : List Byte) : List Byte := (record.drop 16).take 60
/-- Whether OWNER_KEY_SET accepts a record. -/
def recordAccepted (s : State) (record : List Byte) : Bool :=
  match s.eo.ownerKey with
  | none => recordVerifies ((record.drop 4160).take 60) record
  | some k => recordVerifies k record && recordSerial record == s.id.serial.toNat && decide (s.eo.ownerCounter < recordCounter record)
/-- OWNER_KEY_SET. -/
def execOwnerKeySet (r : Req) (record : List Byte) (s : State) : Result :=
  .next (serve s r 0x0705 (fun s =>
    if record.length ≠ 8192 then refuse s r 0x0705 .badLength
    else if planRuns s then refuse s r 0x0705 .busyLive
    else if recordAccepted s record then
      let k := if recordKey record = List.replicate 60 0 then none else some (recordKey record)
      let s := raise { s with eo.ownerKey := k, eo.ownerCounter := recordCounter record } 0x0704 unitNone noLevel []
      settled s r 0x0705 (keyDigest k) []
    else refuse (raise s 0x0702 unitNone noLevel []) r 0x0705 .signature))
/-- MGMT_KEY_SET: in force for datagrams that arrive after its response has been sent. -/
def execMgmtKeySet (r : Req) (key : BitVec 256) (s : State) : Result :=
  .next (serve s r 0x0706 (fun s =>
    let k := if key = 0 then none else some (bytesLE 32 key.toNat)
    let s := settled s r 0x0706 (keyDigest k) []
    { s with eo.mgmtKey := k }))

end Sys2Proof.Machine
end

