-- ==== Sys2Proof/Machine/FrameTick.lean ====
section
/-!
DEFINITION. Sys2Proof/Machine/FrameTick.lean: FRAME_TICK, what happens at the tick that ends a counter frame and begins the next (R30, R31).
-/
namespace Sys2Proof.Machine
open Sys2Proof

/-- What held in the counter frame that ends. -/
def endFrame (s : State) : State :=
  { s with fr.ended :=
    { live := s.fr.live, master := s.fr.master, fixedFreq := s.fr.fixedFreq, boost := s.fr.boost,
      overTemp := (s.tiles.filter (fun x => x.2.overTemp)).map Prod.fst, testTile := testTile s } }
/-- The frame counter advances, and the new frame's cycles count from 0 (R30, R441). -/
def advanceCounter (s : State) : State := { s with fr.counter := s.fr.counter + 1, fr.cycle := 0 }
/-- Telemetry of counter frame n at the tick that ends it: counters, ports and energies advance and are latched; then clears,
configuration words and settings that are due at the tick, and the bandwidth window (R505, R510 to R514, R486). -/
def telemetryTick (s : State) (n phase : Nat) (i : TickInputs) : State :=
  let s := addEnergy (portsTick (countTick s phase i.activity)) i.energy
  windowTick (settingsTick (configTick (latchSnapshot s n) (n + 1)) (n + 1))
/-- A tile's junction reading at the tick (R107): above 100 °C it is over temperature, EV-0212. -/
def tempTile (s : State) (x : TileId × Int) : State :=
  let hot := decide (6400 < x.2)
  modTile s x.1.val (fun t => { t with temp := x.2, overTemp := hot })
/-- The readings of a tick, and EV-0212 once a frame for every tile over temperature. -/
def tempTick (s : State) (temps : List (TileId × Int)) : State :=
  let s := temps.foldl tempTile s
  (s.tiles.filter (fun x => x.2.overTemp)).foldl (fun s x => raise s 0x0212 (unitTile x.1) noLevel []) s
/-- Whether the running plan frame is due to close at the tick (R262, R263). -/
def closesNow (s : State) : Bool := s.fr.running.any (fun f => f.replay || s.fr.late || !(isHold s (now s)))
/-- Whether this package is no longer in its job, or runs no plan. -/
def leftJob (s : State) : Bool := !(planRuns s) || s.plan.rank.any (fun r => s.link.expelled.contains r)
/-- What waits for the expulsion tick: the rails of a power down, and a reset of the management domain (R459, R467). -/
def expelledTick (s : State) : State :=
  if leftJob s then
    let s := { s with pin.restartDue := false }
    if s.pin.downAtTick then removeRails s else s
  else s
/-- The arrays in use or ever changed. -/
def arrayKeys (s : State) : List Nat := mapArrays s ++ (tkeys s.arrays).filter (fun k => !((mapArrays s).contains k))
/-- Every array at the tick that begins counter frame t (R107, R184). -/
def arraysTick (s : State) (t : Nat) : State := (arrayKeys s).foldl (fun s k => arrayTick s t k) s
/-- The condition words of arrays whose calibration the tick's plan boundary has taken away or given back (R110, R417, R418). -/
def validTick (s : State) (t : Nat) : State :=
  ((arrayKeys s).filter (fun k => bitOf (arrOf s k).cond 7 != ((arrOf s k).calValid && !s.pin.jtagVoid))).foldl
    (fun s k => arrayTick s t k) s
/-- What a tile grants per frame begins again (R95, R101). -/
def tilesTick (s : State) : State :=
  { s with tiles := s.tiles.map (fun (x : Nat × TileState) => (x.1, { x.2 with splitUsed := 0, outliersTaken := 0 })) }
/-- The tick timer's correction by the parent's error: −e/4 in phase and −e/64 in rate; EV-0530 beyond 4 ns (R366, R367), and the
aligned ticks in a row (R374). Phase and rate count 1/256 and 1/4,096 ns. -/
def timerTick (s : State) : State :=
  match s.link.parent, s.link.errorNow with
  | some _, some e =>
    let s := { s with link.phase := s.link.phase - e, link.rate := s.link.rate - e, link.errorNow := none }
    if 256 < e.natAbs then raise { s with link.alignedCount := 0 } 0x0530 unitPackage noLevel []
    else { s with link.alignedCount := s.link.alignedCount + 1 }
  | some _, none => { s with link.alignedCount := 0 }
  | none, _ => { s with link.errorNow := none }
/-- The tick that ends counter frame n and begins frame n + 1. -/
def frameTick (s : State) (i : TickInputs) : State :=
  let n := now s
  let phase := phaseMark s
  let s := advanceCounter (endFrame s)
  let t := now s
  let s := telemetryTick s n phase i
  let s := filtersTick (timerTick (tempTick s i.temps))
  let s := contextsTick (landedTick s)
  let due := closesNow s
  let s := expelledTick (expelTick s t due)
  let s := spanTick (mordantTick s n (positionAt s due))
  let s := tilesTick (visitTick (arraysTick s t) t)
  let s := validTick (planTick s) t
  let s := powerTick (lakesTick (linksTick s)) t phase i.energy i.railOff
  rewritePage (compareTick (norTick s i.norFails))
/-- FRAME_TICK (R30): while the AOM domain has power. -/
def execFrameTick (i : TickInputs) (s : State) : Result := .next (if s.pin.pgAon then frameTick s i else s)

end Sys2Proof.Machine
end

