-- ==== Sys2Proof/Machine/Hbm.lean ====
section
/-!
DEFINITION. Sys2Proof/Machine/Hbm.lean: the base die's code engine (R279 to R281, R285), and the commands that reach a stack: a
codeword read, a plan write (R278, R283) and the scrub (R282).
-/
namespace Sys2Proof.Machine
open Sys2Proof

/-! ### The decoder (R279, R280) -/

/-- The locator of a stored symbol position: d0 to d31 stand at x^9 to x^40, p0 to p8 at x^0 to x^8. -/
def locator (pos : Nat) : Half := gfAlpha (if pos < 32 then 9 + pos else pos - 32)
/-- A power in GF(2^16), by binary digits of the exponent. -/
def gfPow (a : Half) (n : Nat) : Half :=
  ((List.range 16).foldl (fun (acc : Half × Half) i =>
    (if n.testBit i then gfMul acc.1 acc.2 else acc.1, gfMul acc.2 acc.2)) (1, a)).1
/-- The inverse in GF(2^16). -/
def gfInv (a : Half) : Half := gfPow a 65534
/-- The nine syndromes of an error pattern. -/
def errorSyndrome (errs : SymbolErrors) : List Half :=
  (List.range 9).map (fun j => errs.foldl (fun acc e => acc ^^^ gfMul e.2 (gfPow (locator e.1.val) j)) 0)
/-- The syndrome of the poison pattern: data symbols 0x0000, check symbols 0xFFFF (R285). -/
def poisonSyndrome : List Half := rsSyndromes (List.replicate 32 0) (List.replicate 9 0xFFFF)
/-- The pattern within three consecutive positions from `pos` on that has a syndrome, if there is one. -/
def patternAt (syn : List Half) (pos : Nat) : Option (List (Nat × Half)) :=
  let x := locator pos
  let y := locator (pos + 1)
  let z := locator (pos + 2)
  let g := fun (j : Nat) => syn.getD j 0
  let e1 := x ^^^ y ^^^ z
  let e2 := gfMul x y ^^^ gfMul y z ^^^ gfMul z x
  let e3 := gfMul (gfMul x y) z
  let fits := (List.range 6).all (fun j =>
    g (j + 3) == gfMul e1 (g (j + 2)) ^^^ gfMul e2 (g (j + 1)) ^^^ gfMul e3 (g j))
  let part := fun (a b c : Half) =>
    gfMul (g 2 ^^^ gfMul (b ^^^ c) (g 1) ^^^ gfMul (gfMul b c) (g 0)) (gfInv (gfMul (a ^^^ b) (a ^^^ c)))
  if fits then some [(pos, part x y z), (pos + 1, part y x z), (pos + 2, part z x y)] else none
/-- The correctable pattern of a syndrome. -/
def correctablePattern (syn : List Half) : Option (List (Nat × Half)) := (List.range 39).findSome? (patternAt syn)
/-- The decoder's four outcomes. -/
inductive ReadOutcome where
  | clean
  | corrected (pattern : List (Nat × Half))
  | uncorrectable
  | poison
  deriving DecidableEq, Repr
/-- Decoding by the syndrome. -/
def decodeSyndrome (syn : List Half) : ReadOutcome :=
  if syn.all (· == 0) then .clean
  else
    match correctablePattern syn with
    | some p => .corrected p
    | none =>
      let rest := List.zipWith (· ^^^ ·) syn poisonSyndrome
      if rest.all (· == 0) || (correctablePattern rest).isSome then .poison else .uncorrectable
/-- The data bytes after a pattern is added to their symbols; check symbols hold no data. -/
def addPattern (data : List Byte) (pat : List (Nat × Half)) : List Byte :=
  data.zipIdx.map (fun x =>
    pat.foldl (fun b e => if e.1 = x.2 / 2 then b ^^^ BitVec.ofNat 8 (e.2.toNat / 2 ^ (8 * (x.2 % 2))) else b) x.1)
/-- An error pattern by position numbers. -/
def errorPattern (errs : SymbolErrors) : List (Nat × Half) := errs.map (fun e => (e.1.val, e.2))

/-! ### Reads -/

/-- The run of an open plan frame that wrote a codeword last. -/
def lastWriter (s : State) (line : Nat) : Option Nat :=
  ((s.mem.hbmJournal.filter (fun p => p.addr == line)).getLast?).map PreImage.gen
/-- Counting a correction (R281): the stack's count, the ledger's, and EV-0302 for a codeword corrected twice in 2^20 frames. -/
def countCorrection (s : State) (line : Nat) : State :=
  let k := devStack line
  let s' := correction (modStack s k (fun c => { c with corrections := c.corrections + 1 }))
  let s' := { s' with mem.lastCorrected := tput s'.mem.lastCorrected line (now s) }
  match tfind s.mem.lastCorrected line with
  | some f => if now s < f + 2 ^ 20 then raiseCharged s' 0x0302 (unitStack k) noLevel [] 3 true else s'
  | none => s'
/-- A read of one codeword through the decoder, with the errors it meets. -/
def readCodeword (s : State) (line : Nat) (errs : SymbolErrors) : State :=
  let k := devStack line
  let base := if (hbmMark s line).isSome then List.zipWith (· ^^^ ·) (errorSyndrome errs) poisonSyndrome else errorSyndrome errs
  let got := addPattern (hbmBytes s line 64) (errorPattern errs)
  let s := stackRead s k 64
  match decodeSyndrome base with
  | .clean => putLine s line got none
  | .corrected pat => putLine (countCorrection s line) line (addPattern got pat) none
  | .poison =>
    if (hbmMark s line).isSome then s
    else putLine s line poisonData (some { gen := lastWriter s line, origin := 1, number := k })
  | .uncorrectable =>
    let s := modStack s k (fun c => { c with uncorrectables := c.uncorrectables + 1 })
    let s := raiseCharged s 0x0303 (unitStack k) noLevel [line] 2 true
    putLine s line poisonData (some { gen := lastWriter s line, origin := 1, number := k })
/-- HBM_READ (R280). -/
def execHbmRead (st : StackId) (off : BitVec 36) (errs : SymbolErrors) (cyc : Nat) (s : State) : Result :=
  let a := st.val * 2 ^ 36 + off.toNat
  if hbmMapped s a then .next (readCodeword (atCycle s cyc) (a / 64 * 64) errs) else .fault (.unmapped a)

/-! ### Plan writes and the scrub -/

/-- A write of bytes as a plan operation of the running plan frame makes it: journaled, but for version banks (R284). A
partial write to a poisoned codeword consumes its poison (R285). -/
def planWrite (s : State) (a : Nat) (data : List Byte) (poison : Nat → Option (Nat × Nat)) : State :=
  let gen := runningGen s
  let s' := consumeMarks s gen 0 0 (if s.fr.running.isSome then partialPoison s a data.length else [])
  writeHbm s' (if s.fr.running.isNone || unjournaledAt s a then .plain else .journaled gen) a data poison
/-- HBM_WRITE (R278, R283). -/
def execHbmWrite (st : StackId) (off : BitVec 36) (data : List Byte) (poisoned : Bool) (cyc : Nat) (s : State) : Result :=
  let a := st.val * 2 ^ 36 + off.toNat
  match (linesOf a data.length).find? (fun l => !(hbmMapped s l)) with
  | some l => .fault (.unmapped l)
  | none => .next (planWrite (atCycle s cyc) a data (fun _ => if poisoned then some (1, st.val) else none))
/-- The codewords of a scrub's 4 KiB, in ascending offset from where it stands, restarting at the end of the capacity. -/
def scrubLines (s : State) (k : Nat) : List Nat :=
  (List.range 64).map (fun i => k * 2 ^ 36 + ((stackOf s k).scrub + 64 * i) % stackBytes s k)
/-- SCRUB_READ (R282): codewords that the journal holds are skipped. -/
def execScrubRead (st : StackId) (errs : List (Fin 64 × SymbolErrors)) (s : State) : Result :=
  let k := st.val
  let t := (scrubLines s k).zipIdx.foldl (fun t x =>
    if t.mem.hbmJournal.any (fun p => p.addr == x.1) then t
    else readCodeword t x.1 (((errs.find? (fun e => e.1.val == x.2)).map Prod.snd).getD [])) s
  .next (modStack t k (fun c => { c with scrub := (c.scrub + 4096) % stackBytes s k }))

end Sys2Proof.Machine
end

