-- ==== Sys2Proof/Machine/Issue.lean ====
section
/-!
DEFINITION. Sys2Proof/Machine/Issue.lean: OPERATION_ISSUE (R251): when a tile's sequencer issues an operation of the running plan frame.
-/
namespace Sys2Proof.Machine
open Sys2Proof

/-- The engine that an operation holds while it runs: an array, the matrix or vector engine, the queue port, an array's Mordant;
a join holds none. -/
inductive EngineId where
  | array (k : Nat)
  | matrix (t : Nat)
  | vector (t : Nat)
  | port (t : Nat)
  | mordant (k : Nat)
  | none
  deriving DecidableEq, Repr
/-- The engine of a descriptor (R243, R113). -/
def engineFor (d : Desc) : EngineId :=
  match dsClass d with
  | 1 => if dsReference d then .matrix (dsTile d) else .array (16 * dsTile d + dsArray d)
  | 2 | 6 => .matrix (dsTile d)
  | 3 | 7 | 8 | 9 => .vector (dsTile d)
  | 4 => .port (dsTile d)
  | 5 => .mordant (16 * dsTile d + dsArray d)
  | _ => .none
/-- Whether an operation in flight still holds its engine: an MVM whose vectors have all issued has left its array. -/
def holdsEngine (d : Desc) (x : InFlight) : Bool := !(dsClass d == 1 && decide (mvVectors d ≤ x.vectors))
/-- Whether an engine is free in a run. -/
def engineFree (f : PlanFrame) (t : Template) (e : EngineId) : Bool :=
  e == .none || !(f.inflight.any (fun x => (descOf t x.op).any (fun d => engineFor d == e && holdsEngine d x)))
/-- Whether an operation's inputs and time have come: its predecessors, its joins' entries and its not_before cycle, which counts
from the tick that began the run (R37, R251, R355). -/
def inputsReady (s : State) (f : PlanFrame) (d : Desc) : Bool :=
  (dsPreds d).all (isCompleted f) && (dsClass d != 10 || joinDelivered s (dsIndex d)) &&
  (decide (f.started < now s) || decide (dsNotBefore d ≤ s.fr.cycle))
/-- Operations of a tile in flight. -/
def tileInFlight (f : PlanFrame) (t : Template) (tile : Nat) : Nat :=
  f.inflight.countP (fun x => (descOf t x.op).any (fun d => dsTile d == tile))
/-- Whether an operation is ready: neither in flight nor completed, its inputs there, its engine free, and fewer than 64 of the
tile's operations in flight (R251). -/
def opReady (s : State) (f : PlanFrame) (t : Template) (d : Desc) : Bool :=
  !(inFlight f (dsIndex d)) && !(isCompleted f (dsIndex d)) && inputsReady s f d && engineFree f t (engineFor d) &&
  decide (tileInFlight f t (dsTile d) < 64)
/-- Whether a ready operation of a lower package index waits for the same engine (R251: the lowest issues first). -/
def lowerReady (s : State) (f : PlanFrame) (t : Template) (d : Desc) : Bool :=
  engineFor d != .none && t.descs.any (fun x => decide (dsIndex x < dsIndex d) && engineFor x == engineFor d && opReady s f t x)
/-- Issuing an operation. -/
def issueOp (s : State) (op : Nat) : State :=
  { s with fr.running := s.fr.running.map (fun (f : PlanFrame) =>
      { f with inflight := f.inflight ++ [{ op := op, cycle := s.fr.cycle, vectors := 0, checks := 0 }] }) }
/-- OPERATION_ISSUE (R251). An operation that is not ready does not issue; limiter level 16 stops all issue (R443). -/
def execOperationIssue (op : Fin 1048576) (cyc : Nat) (s : State) : Result :=
  let s := atCycle s cyc
  .next (match s.fr.running, runningDesc s op with
    | some f, some (t, d) => if opReady s f t d && !(lowerReady s f t d) && decide (limiterLevel s (dsTile d) < 16) then issueOp s op else s
    | _, _ => s)

end Sys2Proof.Machine
end

