-- ==== Sys2Proof/Machine/Smbus.lean ====
section
/-!
DEFINITION. Sys2Proof/Machine/Smbus.lean: the SMBus telemetry port (R537, R538) and the JTAG port (R540).
-/
namespace Sys2Proof.Machine
open Sys2Proof

/-- LINEAR16 with exponent −12. -/
def linear16 (x : Rat) : Nat := unsignedOf 16 (rneInt (x * 4096))
/-- The exponents of LINEAR11, the smallest first. -/
def linearExponents : List Int := (List.range 32).map (fun (k : Nat) => (k : Int) - 16)
/-- A value over a power of two. -/
def overPow2 (x : Rat) (n : Int) : Rat := if 0 ≤ n then x / ((2 ^ n.toNat : Nat) : Int) else x * ((2 ^ (-n).toNat : Nat) : Int)
/-- LINEAR11: the smallest exponent whose mantissa fits 11 signed bits (log 40). -/
def linear11 (x : Rat) : Nat :=
  let fits := fun (n : Int) => decide (-1024 ≤ rneInt (overPow2 x n)) && decide (rneInt (overPow2 x n) ≤ 1023)
  match linearExponents.find? fits with
  | some n => unsignedOf 5 n * 2048 + unsignedOf 11 (rneInt (overPow2 x n))
  | none => 15 * 2048 + (if 0 ≤ x then 1023 else 1024)
/-- The reply of a command: bytes, or none for a NACK. -/
def smbusReply (s : State) (x : Option (List Byte)) : State := { s with pin.reply := x }
/-- A command that failed its PEC or was malformed: cml, and a NACK (R538). -/
def smbusBad (s : State) : State := smbusReply (latch s s.pin.page 1) none
/-- A read of the selected page; the page 0xFF has nothing to read. -/
def smbusRead (s : State) (f : Nat → List Byte) : State :=
  if s.pin.page < 14 then smbusReply s (some (f s.pin.page)) else smbusReply s none
/-- PAGE (R537). -/
def execPage (p : Byte) (pecOk : Bool) (s : State) : Result :=
  .next (if pecOk && (decide (p.toNat < 14) || p == 0xFF) then smbusReply { s with pin.page := p.toNat } (some []) else smbusBad s)
/-- The status bits of a page cleared, or of every page. -/
def clearPages (t : Table Half) (p : Nat) : Table Half := if p = 0xFF then [] else terase t p
/-- CLEAR_FAULTS: the page's latched bits, and what a shed holds of ALERT_N (R537, R538). -/
def execClearFaults (pecOk : Bool) (s : State) : Result :=
  .next (if pecOk then
    smbusReply { s with pin.status := clearPages s.pin.status s.pin.page, pin.alertHold := false } (some []) else smbusBad s)
/-- VOUT_MODE. -/
def execVoutMode (s : State) : Result := .next (smbusReply s (some [0x14]))
/-- The bits of STATUS_WORD that do not latch: off, and on page 13 power_cap. -/
def pageLevels (s : State) (p : Nat) : Half :=
  let off := match pageGroup p with
    | some g => !(s.pin.enables.contains g)
    | none => false
  BitVec.ofNat 16 (64 * bitNat off + 4096 * bitNat (p == 13 && decide (0 < s.pow.capBefore)))
/-- STATUS_WORD of a page (R538). -/
def pageStatus (s : State) (p : Nat) : Half := tget 0 s.pin.status p ||| pageLevels s p
/-- STATUS_WORD. -/
def execStatusWord (s : State) : Result := .next (smbusRead s (fun p => bytesLE 2 (pageStatus s p).toNat))
/-- READ_VOUT: 0 on pages 12 and 13 (R537). -/
def execReadVout (s : State) : Result :=
  .next (smbusRead s (fun p => bytesLE 2 (if p < 12 then linear16 (tget 0 s.pin.means (4 * p)) else 0)))
/-- READ_IOUT. -/
def execReadIout (s : State) : Result := .next (smbusRead s (fun p => bytesLE 2 (linear11 (tget 0 s.pin.means (4 * p + 1)))))
/-- READ_POUT. -/
def execReadPout (s : State) : Result := .next (smbusRead s (fun p => bytesLE 2 (linear11 (tget 0 s.pin.means (4 * p + 2)))))
/-- READ_TEMPERATURE_1: the hottest junction of the page's units. -/
def execReadTemperature1 (s : State) : Result := .next (smbusRead s (fun p => bytesLE 2 (linear11 (hottest s (pageSensors p)))))
/-- READ_TEMPERATURE_2: the hottest stack. -/
def execReadTemperature2 (s : State) : Result :=
  .next (smbusRead s (fun _ => bytesLE 2 (linear11 (hottest s ((List.range 8).map (· + 256))))))
/-- PMBUS_REVISION. -/
def execPmbusRevision (s : State) : Result := .next (smbusReply s (some [0x33]))
/-- Any other command code is answered with a NACK (R537). -/
def execSmbusUnknownCommand (_code : Byte) (s : State) : Result := .next (smbusReply s none)
/-- ALERT_N: a latched bit of a page, or a shed or power down since the last CLEAR_FAULTS (R538). -/
def alertN (s : State) : Bool := s.pin.alertHold || s.pin.status.any (fun x => x.2 != 0)
/-- ALERT_RESPONSE_ADDRESS: a port that asserts ALERT_N answers with its address (R537). -/
def execAlertResponseAddress (s : State) : Result :=
  .next (smbusReply s (if alertN s then some (bytesLE 1 (2 * (0x60 + s.pin.addr % 8))) else none))
/-- JTAG_TEST_INSTRUCTION: the calibration sets and bound tables are void until RESET 1 (R540). -/
def execJtagTestInstruction (s : State) : Result := .next { s with pin.jtagVoid := true }

end Sys2Proof.Machine
end

