-- ==== Sys2Proof/Machine/Dispatch.lean ====
section
/-!
DEFINITION. Sys2Proof/Machine/Dispatch.lean: one arm per command; each arm is one call of the command's meaning.
-/
namespace Sys2Proof.Machine
open Sys2Proof

/-- The effect of a command on everything but the queue. -/
def exec (i : Instr) (s : State) : Host.Outcome State Fault Refusal :=
  match i with
  | .frameTick inputs => Sys2Proof.Machine.execFrameTick inputs s
  | .tickLoss cyc => Sys2Proof.Machine.execTickLoss cyc s
  | .commitPoint => Sys2Proof.Machine.execCommitPoint s
  | .ledgerRecordWrite readBackOk cyc => Sys2Proof.Machine.execLedgerRecordWrite readBackOk cyc s
  | .operationIssue op cyc => Sys2Proof.Machine.execOperationIssue op cyc s
  | .mvm op vec cyc => Sys2Proof.Machine.execMvm op vec cyc s
  | .mvmResult tile arr slots cyc => Sys2Proof.Machine.execMvmResult tile arr slots cyc s
  | .splitRerun tile arr cyc => Sys2Proof.Machine.execSplitRerun tile arr cyc s
  | .outputConversion tile group vec => Sys2Proof.Machine.execOutputConversion tile group vec s
  | .prismArbitration tile res cyc => Sys2Proof.Machine.execPrismArbitration tile res cyc s
  | .eventQueueEntry tile e cyc => Sys2Proof.Machine.execEventQueueEntry tile e cyc s
  | .checkDeadlineExpiry tile op cyc => Sys2Proof.Machine.execCheckDeadlineExpiry tile op cyc s
  | .vectorReadbackSlot tile arr reads => Sys2Proof.Machine.execVectorReadbackSlot tile arr reads s
  | .matrix op res cyc => Sys2Proof.Machine.execMatrix op res cyc s
  | .vector op res cyc => Sys2Proof.Machine.execVector op res cyc s
  | .dma op cyc => Sys2Proof.Machine.execDma op cyc s
  | .program op cyc => Sys2Proof.Machine.execProgram op cyc s
  | .attend op res cyc => Sys2Proof.Machine.execAttend op res cyc s
  | .sample op res cyc => Sys2Proof.Machine.execSample op res cyc s
  | .quantise op res cyc => Sys2Proof.Machine.execQuantise op res cyc s
  | .compress op res cyc => Sys2Proof.Machine.execCompress op res cyc s
  | .join op cyc => Sys2Proof.Machine.execJoin op cyc s
  | .programmingSlot tile arr meas cyc => Sys2Proof.Machine.execProgrammingSlot tile arr meas cyc s
  | .programmingSpanStart => Sys2Proof.Machine.execProgrammingSpanStart s
  | .calibration tile arr => Sys2Proof.Machine.execCalibration tile arr s
  | .testSlotRun arrayPass enginePass reads => Sys2Proof.Machine.execTestSlotRun arrayPass enginePass reads s
  | .updateChunkComplete st en cyc => Sys2Proof.Machine.execUpdateChunkComplete st en cyc s
  | .updateScan => Sys2Proof.Machine.execUpdateScan s
  | .updateRedo => Sys2Proof.Machine.execUpdateRedo s
  | .nop st en => Sys2Proof.Machine.execNop st en s
  | .lds st en d stream cyc => Sys2Proof.Machine.execLds st en d stream cyc s
  | .sts st en stream a => Sys2Proof.Machine.execSts st en stream a s
  | .mov st en d a => Sys2Proof.Machine.execMov st en d a s
  | .add st en d a b res => Sys2Proof.Machine.execAdd st en d a b res s
  | .sub st en d a b res => Sys2Proof.Machine.execSub st en d a b res s
  | .mul st en d a b res => Sys2Proof.Machine.execMul st en d a b res s
  | .fma st en d a b c res => Sys2Proof.Machine.execFma st en d a b c res s
  | .div st en d a b res => Sys2Proof.Machine.execDiv st en d a b res s
  | .sqrt st en d a => Sys2Proof.Machine.execSqrt st en d a s
  | .rsqrt st en d a => Sys2Proof.Machine.execRsqrt st en d a s
  | .exp st en d a => Sys2Proof.Machine.execExp st en d a s
  | .ln st en d a => Sys2Proof.Machine.execLn st en d a s
  | .max st en d a b => Sys2Proof.Machine.execMax st en d a b s
  | .min st en d a b => Sys2Proof.Machine.execMin st en d a b s
  | .abs st en d a => Sys2Proof.Machine.execAbs st en d a s
  | .sel st en d a b c => Sys2Proof.Machine.execSel st en d a b c s
  | .cmplt st en d a b => Sys2Proof.Machine.execCmplt st en d a b s
  | .red st en slot a => Sys2Proof.Machine.execRed st en slot a s
  | .hbmRead st off errs cyc => Sys2Proof.Machine.execHbmRead st off errs cyc s
  | .hbmWrite st off data poisoned cyc => Sys2Proof.Machine.execHbmWrite st off data poisoned cyc s
  | .scrubRead st errs => Sys2Proof.Machine.execScrubRead st errs s
  | .itemEnqueue lake cls kind port words poison rest => Sys2Proof.Machine.execItemEnqueue lake cls kind port words poison rest s
  | .itemDequeue lake cls flips tagFlips compute cyc => Sys2Proof.Machine.execItemDequeue lake cls flips tagFlips compute cyc s
  | .creditBorrow lake cls port => Sys2Proof.Machine.execCreditBorrow lake cls port s
  | .flitReceive link time retry poison payload outcome cyc => Sys2Proof.Machine.execFlitReceive link time retry poison payload outcome cyc s
  | .controlFlit link time w outcome cyc => Sys2Proof.Machine.execControlFlit link time w outcome cyc s
  | .slotEntryTransmit dir time => Sys2Proof.Machine.execSlotEntryTransmit dir time s
  | .retryTimeout dir member time previous => Sys2Proof.Machine.execRetryTimeout dir member time previous s
  | .laneFailure link lane cyc => Sys2Proof.Machine.execLaneFailure link lane cyc s
  | .laneDegradeRetrain link failed => Sys2Proof.Machine.execLaneDegradeRetrain link failed s
  | .echoMeasurement link token => Sys2Proof.Machine.execEchoMeasurement link token s
  | .eyeMeasurement link lane height width ser admission => Sys2Proof.Machine.execEyeMeasurement link lane height width ser admission s
  | .c0Message link m => Sys2Proof.Machine.execC0Message link m s
  | .syncTick link frame departure aligned arrival => Sys2Proof.Machine.execSyncTick link frame departure aligned arrival s
  | .memberAligned frame => Sys2Proof.Machine.execMemberAligned frame s
  | .echoReq link token turnaround => Sys2Proof.Machine.execEchoReq link token turnaround s
  | .echoReply link token turnaround roundTrip => Sys2Proof.Machine.execEchoReply link token turnaround roundTrip s
  | .hold link origin frame cause cyc => Sys2Proof.Machine.execHold link origin frame cause cyc s
  | .late link origin frame unit cyc => Sys2Proof.Machine.execLate link origin frame unit cyc s
  | .stretch link origin frame pos => Sys2Proof.Machine.execStretch link origin frame pos s
  | .updateDone link origin frame version attempt skipped => Sys2Proof.Machine.execUpdateDone link origin frame version attempt skipped s
  | .complete link origin frame attempt whole cyc => Sys2Proof.Machine.execComplete link origin frame attempt whole cyc s
  | .prepared link origin planId => Sys2Proof.Machine.execPrepared link origin planId s
  | .syncStart link origin frame planId => Sys2Proof.Machine.execSyncStart link origin frame planId s
  | .syncAbort link origin planId reason => Sys2Proof.Machine.execSyncAbort link origin planId reason s
  | .expel link origin frame rank cyc => Sys2Proof.Machine.execExpel link origin frame rank cyc s
  | .planStart => Sys2Proof.Machine.execPlanStart s
  | .preparationComplete => Sys2Proof.Machine.execPreparationComplete s
  | .planLoadTimeout => Sys2Proof.Machine.execPlanLoadTimeout s
  | .scaleObservation rank planFrame index maxIn maxAll overflow quantised => Sys2Proof.Machine.execScaleObservation rank planFrame index maxIn maxAll overflow quantised s
  | .mirrorRecord record => Sys2Proof.Machine.execMirrorRecord record s
  | .mirrorTally cyc => Sys2Proof.Machine.execMirrorTally cyc s
  | .prefetchCompletion block bytes completed cyc => Sys2Proof.Machine.execPrefetchCompletion block bytes completed cyc s
  | .prefetchTimeout block cyc => Sys2Proof.Machine.execPrefetchTimeout block cyc s
  | .offloadWrite op block cyc => Sys2Proof.Machine.execOffloadWrite op block cyc s
  | .droop tile => Sys2Proof.Machine.execDroop tile s
  | .droopHoldExpiry tile => Sys2Proof.Machine.execDroopHoldExpiry tile s
  | .droopDecayStep tile => Sys2Proof.Machine.execDroopDecayStep tile s
  | .peakSample core0 core1 core2 core3 other => Sys2Proof.Machine.execPeakSample core0 core1 core2 core3 other s
  | .aomSample inputs cyc => Sys2Proof.Machine.execAomSample inputs cyc s
  | .ld k => Sys2Proof.Machine.execLd k s
  | .mean n => Sys2Proof.Machine.execMean n s
  | .scale => Sys2Proof.Machine.execScale s
  | .gt k => Sys2Proof.Machine.execGt k s
  | .lt k => Sys2Proof.Machine.execLt k s
  | .outside k => Sys2Proof.Machine.execOutside k s
  | .run n => Sys2Proof.Machine.execRun n s
  | .aomAnd => Sys2Proof.Machine.execAomAnd s
  | .aomOr => Sys2Proof.Machine.execAomOr s
  | .save => Sys2Proof.Machine.execSave s
  | .aomThrottleExpiry slot => Sys2Proof.Machine.execAomThrottleExpiry slot s
  | .powerDownSequence => Sys2Proof.Machine.execPowerDownSequence s
  | .eometHeartbeat => Sys2Proof.Machine.execEometHeartbeat s
  | .eometRestart => Sys2Proof.Machine.execEometRestart s
  | .doorbell slot => Sys2Proof.Machine.execDoorbell slot s
  | .registerWrite off data => Sys2Proof.Machine.execRegisterWrite off data s
  | .mgmtDatagram addr udp bytes => Sys2Proof.Machine.execMgmtDatagram addr udp bytes s
  | .reassemblyTimeout addr udp seq => Sys2Proof.Machine.execReassemblyTimeout addr udp seq s
  | .peerRequest rank bytes => Sys2Proof.Machine.execPeerRequest rank bytes s
  | .eventRaise code unit level ps charge => Sys2Proof.Machine.execEventRaise code unit level ps charge s
  | .eventResend => Sys2Proof.Machine.execEventResend s
  | .eventSuppressionEnd => Sys2Proof.Machine.execEventSuppressionEnd s
  | .healthFold norFails => Sys2Proof.Machine.execHealthFold norFails s
  | .txnTimeout id => Sys2Proof.Machine.execTxnTimeout id s
  | .attestTokenRefill => Sys2Proof.Machine.execAttestTokenRefill s
  | .snapshotComplete => Sys2Proof.Machine.execSnapshotComplete s
  | .dumpRecordWrite delivered => Sys2Proof.Machine.execDumpRecordWrite delivered s
  | .identity r => Sys2Proof.Machine.execIdentity r s
  | .runStatus r => Sys2Proof.Machine.execRunStatus r s
  | .stopAtPosition r pos => Sys2Proof.Machine.execStopAtPosition r pos s
  | .stopNow r cyc => Sys2Proof.Machine.execStopNow r cyc s
  | .resetWarm r => Sys2Proof.Machine.execResetWarm r s
  | .resetPowerCycle r => Sys2Proof.Machine.execResetPowerCycle r s
  | .eventRead r first count => Sys2Proof.Machine.execEventRead r first count s
  | .eventAck r seq => Sys2Proof.Machine.execEventAck r seq s
  | .settingGet r ids => Sys2Proof.Machine.execSettingGet r ids s
  | .settingSet r id value => Sys2Proof.Machine.execSettingSet r id value s
  | .txnBegin r => Sys2Proof.Machine.execTxnBegin r s
  | .txnStage r txn pairs => Sys2Proof.Machine.execTxnStage r txn pairs s
  | .txnCommit r txn target => Sys2Proof.Machine.execTxnCommit r txn target s
  | .txnRollback r txn => Sys2Proof.Machine.execTxnRollback r txn s
  | .txnStatus r txn => Sys2Proof.Machine.execTxnStatus r txn s
  | .arrayStatus r tile mask => Sys2Proof.Machine.execArrayStatus r tile mask s
  | .ledgerHead r => Sys2Proof.Machine.execLedgerHead r s
  | .ledgerExport r frame count host => Sys2Proof.Machine.execLedgerExport r frame count host s
  | .ledgerExportDone r => Sys2Proof.Machine.execLedgerExportDone r s
  | .offloadRegister r host length => Sys2Proof.Machine.execOffloadRegister r host length s
  | .offloadRelease r => Sys2Proof.Machine.execOffloadRelease r s
  | .hostTransferToHost r device host length => Sys2Proof.Machine.execHostTransferToHost r device host length s
  | .hostTransferToDevice r device host length => Sys2Proof.Machine.execHostTransferToDevice r device host length s
  | .hostTransferDone r poisoned => Sys2Proof.Machine.execHostTransferDone r poisoned s
  | .memoryStatus r st => Sys2Proof.Machine.execMemoryStatus r st s
  | .numericsState r part first count => Sys2Proof.Machine.execNumericsState r part first count s
  | .contextLoad r context host promptLen word8 word18 => Sys2Proof.Machine.execContextLoad r context host promptLen word8 word18 s
  | .contextLoadDone r => Sys2Proof.Machine.execContextLoadDone r s
  | .contextRead r first count => Sys2Proof.Machine.execContextRead r first count s
  | .contextWrite r context word8 word18 => Sys2Proof.Machine.execContextWrite r context word8 word18 s
  | .contextStop r context => Sys2Proof.Machine.execContextStop r context s
  | .contextRelease r context => Sys2Proof.Machine.execContextRelease r context s
  | .contextTokens r context first count host => Sys2Proof.Machine.execContextTokens r context first count host s
  | .contextTokensDone r => Sys2Proof.Machine.execContextTokensDone r s
  | .linkStatus r mask => Sys2Proof.Machine.execLinkStatus r mask s
  | .queueStatus r lake => Sys2Proof.Machine.execQueueStatus r lake s
  | .powerStatus r kind index => Sys2Proof.Machine.execPowerStatus r kind index s
  | .aomFilterRead r slot => Sys2Proof.Machine.execAomFilterRead r slot s
  | .aomFilterLoad r filter => Sys2Proof.Machine.execAomFilterLoad r filter s
  | .aomFilterRemove r slot => Sys2Proof.Machine.execAomFilterRemove r slot s
  | .fwStage r host length => Sys2Proof.Machine.execFwStage r host length s
  | .fwStageDone r => Sys2Proof.Machine.execFwStageDone r s
  | .fwActivate r slot => Sys2Proof.Machine.execFwActivate r slot s
  | .attest r nonce => Sys2Proof.Machine.execAttest r nonce s
  | .identityCert r => Sys2Proof.Machine.execIdentityCert r s
  | .ownerKeySet r record => Sys2Proof.Machine.execOwnerKeySet r record s
  | .mgmtKeySet r key => Sys2Proof.Machine.execMgmtKeySet r key s
  | .planLoadNow r host length image => Sys2Proof.Machine.execPlanLoadNow r host length image s
  | .planLoadAtBoundary r host length image => Sys2Proof.Machine.execPlanLoadAtBoundary r host length image s
  | .planDiscard r => Sys2Proof.Machine.execPlanDiscard r s
  | .planStatus r => Sys2Proof.Machine.execPlanStatus r s
  | .healthRead r kind first count => Sys2Proof.Machine.execHealthRead r kind first count s
  | .healthLog r first count host => Sys2Proof.Machine.execHealthLog r first count host s
  | .healthLogDone r => Sys2Proof.Machine.execHealthLogDone r s
  | .selftest r => Sys2Proof.Machine.execSelftest r s
  | .selftestTile nominalFails marginFails => Sys2Proof.Machine.execSelftestTile nominalFails marginFails s
  | .selftestDone => Sys2Proof.Machine.execSelftestDone s
  | .counterConfig r kind first count words => Sys2Proof.Machine.execCounterConfig r kind first count words s
  | .counterRead r kind first count => Sys2Proof.Machine.execCounterRead r kind first count s
  | .counterClear r kind first count mask => Sys2Proof.Machine.execCounterClear r kind first count mask s
  | .dumpRegister r host length => Sys2Proof.Machine.execDumpRegister r host length s
  | .dumpRelease r => Sys2Proof.Machine.execDumpRelease r s
  | .bandwidthRead r first count => Sys2Proof.Machine.execBandwidthRead r first count s
  | .dumpStatus r => Sys2Proof.Machine.execDumpStatus r s
  | .functionLevelReset cyc => Sys2Proof.Machine.execFunctionLevelReset cyc s
  | .pcieLinkDown cyc => Sys2Proof.Machine.execPcieLinkDown cyc s
  | .d3hotEntry cyc => Sys2Proof.Machine.execD3hotEntry cyc s
  | .pcieError e cyc => Sys2Proof.Machine.execPcieError e cyc s
  | .powerOn => Sys2Proof.Machine.execPowerOn s
  | .firmwareVerify => Sys2Proof.Machine.execFirmwareVerify s
  | .eometStart => Sys2Proof.Machine.execEometStart s
  | .railGroupEnable g => Sys2Proof.Machine.execRailGroupEnable g s
  | .powerGoodAssert g => Sys2Proof.Machine.execPowerGoodAssert g s
  | .powerGoodTimeout g => Sys2Proof.Machine.execPowerGoodTimeout g s
  | .powerGoodLoss g cyc => Sys2Proof.Machine.execPowerGoodLoss g cyc s
  | .pgAonLoss => Sys2Proof.Machine.execPgAonLoss s
  | .hbmTraining => Sys2Proof.Machine.execHbmTraining s
  | .laneTraining down => Sys2Proof.Machine.execLaneTraining down s
  | .bootComplete => Sys2Proof.Machine.execBootComplete s
  | .sysRstNLow cyc => Sys2Proof.Machine.execSysRstNLow cyc s
  | .sysRstNRise => Sys2Proof.Machine.execSysRstNRise s
  | .perstNLow cyc => Sys2Proof.Machine.execPerstNLow cyc s
  | .perstNRise => Sys2Proof.Machine.execPerstNRise s
  | .thermalTrip die cyc => Sys2Proof.Machine.execThermalTrip die cyc s
  | .refclkLoss cyc => Sys2Proof.Machine.execRefclkLoss cyc s
  | .linkrefLoss => Sys2Proof.Machine.execLinkrefLoss s
  | .page p pecOk => Sys2Proof.Machine.execPage p pecOk s
  | .clearFaults pecOk => Sys2Proof.Machine.execClearFaults pecOk s
  | .voutMode => Sys2Proof.Machine.execVoutMode s
  | .statusWord => Sys2Proof.Machine.execStatusWord s
  | .readVout => Sys2Proof.Machine.execReadVout s
  | .readIout => Sys2Proof.Machine.execReadIout s
  | .readPout => Sys2Proof.Machine.execReadPout s
  | .readTemperature1 => Sys2Proof.Machine.execReadTemperature1 s
  | .readTemperature2 => Sys2Proof.Machine.execReadTemperature2 s
  | .pmbusRevision => Sys2Proof.Machine.execPmbusRevision s
  | .smbusUnknownCommand code => Sys2Proof.Machine.execSmbusUnknownCommand code s
  | .jtagTestInstruction => Sys2Proof.Machine.execJtagTestInstruction s
  | .arpRequest mac ip target => Sys2Proof.Machine.execArpRequest mac ip target s
  | .icmpEchoRequest addr payload => Sys2Proof.Machine.execIcmpEchoRequest addr payload s
  | .alertResponseAddress => Sys2Proof.Machine.execAlertResponseAddress s

end Sys2Proof.Machine
end

