-- ==== Sys2Proof/Safety.lean ====
section
/-!
DEFINITION. Sys2Proof/Safety.lean: what a safe step is and the whole-machine invariant, in the terms the statements use.
-/
namespace Sys2Proof.Machine

/-- An outcome that neither stops on a fault nor refuses. -/
def Answers (o : Host.Outcome State Fault Refusal) : Prop := ∃ t, o = .next t

/-- A step that ends in a next state. -/
def SafeStep (s : State) : Prop := Answers (step s)

/-- A command answers a next state, of which something holds. -/
def Runs (c : Instr) (s : State) (p : State → Prop) : Prop := ∃ t, exec c s = .next t ∧ p t

/-- A request is admitted: Eomet serves its port and its opcode in the state (R469 to R474, R482, R483, R499). -/
def Admitted (s : State) (r : Req) (opcode : Nat) : Prop :=
  (2 ≤ s.pin.stage ∨ s.pin.recovery = true) ∧ slotHeld s r = false ∧ refusal s r opcode = none

/-- A final response stands on the request's port: in the host slot, among the responses kept for the management source, or in the
messages to the peer (R469, R472, R474). -/
def Answered (u : State) (r : Req) (x : Response) : Prop :=
  match r.port with
  | .host slot => (slotOf u slot).response = some x
  | .mgmt addr udp => ∃ m ∈ u.eo.sources, m.addr = addr ∧ m.udp = udp ∧ (r.seq, x) ∈ m.answered
  | .peer rank => ∀ b ∈ pieces 384 128 (responseBytes x), ∃ m ∈ u.link.messages, m.dest = rank ∧ m.kind = .response ∧ m.bytes = b

/-- The final OK response to a request, with its readback digest and body (R475, R478). -/
def okResponse (s : State) (r : Req) (opcode : Nat) (digest body : List Byte) : Response :=
  { opcode := opcode, status := .ok, tag := r.tag, final := true, frame := now s, digest := digest, body := body }

/-- The invariant: every memory keeps its canonical form (log 9); the event ring holds at most 8,192 records (R407), the version
digest ring at most 64 entries (R310), the monitor ring at most 32,768 records (R332); at most 16 attestation tokens (R500); the
next attestation leaf lies within the blocks that fuses have reserved (R500). -/
structure Inv (s : State) : Prop where
  hbm : Memory.wf s.mem.hbm = true
  tile : Memory.wf s.mem.tile = true
  host : Memory.wf s.mem.host = true
  buffers : Memory.wf s.eo.buffers = true
  events : s.ev.ring.length ≤ 8192
  tokens : s.eo.tokens ≤ 16
  versions : s.upd.ring.length ≤ 64
  monitors : s.num.ring.length ≤ 32768
  leaf : s.eo.leaf ≤ 64 * s.eo.leafFuses

/-- The commands at which the package restarts: power-on, the loss of the AOM's supply, SYS_RST_N, RESET, and FW_ACTIVATE, whose
effect is a restart under a new image (R498, R499, R529, R532). -/
def restarts : Instr → Bool
  | .powerOn | .pgAonLoss | .sysRstNRise | .resetWarm _ | .resetPowerCycle _ | .fwActivate _ _ => true
  | _ => false

/-- The state as the reader of the status page sees it: the page agrees with the counter, the last committed frame, the position
and step, and the versions (R40). -/
def PageAgrees (s : State) : Prop :=
  s.fr.page.frameNow = BitVec.ofNat 64 s.fr.counter.toNat ∧ s.fr.page.committed = BitVec.ofNat 64 s.fr.committed.toNat ∧
  s.fr.page.planPos = BitVec.ofNat 64 (s.fr.pos.toNat + s.fr.step.toNat * 2 ^ 32) ∧
  s.fr.page.version = BitVec.ofNat 64 (s.fr.live.toNat + s.fr.master.toNat * 2 ^ 32)

/-- The parts of the state, for saying which of them a command may change. -/
structure Parts where
  free : Bool := false
  cycle : Bool := false
  runs : Bool := false
  holds : Bool := false
  frame : Bool := false
  led : Bool := false
  tiles : Bool := false
  arrays : Bool := false
  cells : Bool := false
  ops : Bool := false
  hbm : Bool := false
  tileMem : Bool := false
  host : Bool := false
  upd : Bool := false
  num : Bool := false
  wire : Bool := false
  sync : Bool := false
  plan : Bool := false
  lakes : Bool := false
  pow : Bool := false
  aom : Bool := false
  traffic : Bool := false
  cnt : Bool := false
  pin : Bool := false
  ctx : Bool := false
  ev : Bool := false
  hl : Bool := false
  outbox : Bool := false
  mail : Bool := false
  settings : Bool := false
  keys : Bool := false
  deriving DecidableEq, Repr

/-- Every part that is not named in W is the same in both states, and so are the queue and the identity. -/
structure ChangesOnly (W : Parts) (s t : State) : Prop where
  pending : t.pending = s.pending
  id : t.id = s.id
  free : W.free = false → t.free = s.free
  cycle : W.cycle = false → t.fr.cycle = s.fr.cycle
  runs : W.runs = false →
    (t.fr.running, t.fr.closed, t.fr.nextGen, t.fr.failures) =
    (s.fr.running, s.fr.closed, s.fr.nextGen, s.fr.failures)
  holds : W.holds = false → t.fr.holdTargets = s.fr.holdTargets
  frame : W.frame = false →
    (t.fr.counter, t.fr.pos, t.fr.step, t.fr.run, t.fr.late, t.fr.degraded, t.fr.fixedFreq, t.fr.boost, t.fr.ended,
     t.fr.committed, t.fr.live, t.fr.master, t.fr.page, t.fr.holdFrame, t.fr.holdHist, t.fr.lateHist, t.fr.stretchAsked,
     t.fr.stretchSince, t.fr.stretchShift, t.fr.stopAt) =
    (s.fr.counter, s.fr.pos, s.fr.step, s.fr.run, s.fr.late, s.fr.degraded, s.fr.fixedFreq, s.fr.boost, s.fr.ended,
     s.fr.committed, s.fr.live, s.fr.master, s.fr.page, s.fr.holdFrame, s.fr.holdHist, s.fr.lateHist, s.fr.stretchAsked,
     s.fr.stretchSince, s.fr.stretchShift, s.fr.stopAt)
  led : W.led = false → t.led = s.led
  tiles : W.tiles = false → t.tiles = s.tiles
  arrays : W.arrays = false → t.arrays = s.arrays
  cells : W.cells = false → t.cells = s.cells
  ops : W.ops = false → t.ops = s.ops
  hbm : W.hbm = false →
    (t.mem.hbm, t.mem.hbmPoison, t.mem.hbmJournal, t.mem.planWrote, t.mem.lastCorrected, t.mem.counts) =
    (s.mem.hbm, s.mem.hbmPoison, s.mem.hbmJournal, s.mem.planWrote, s.mem.lastCorrected, s.mem.counts)
  tileMem : W.tileMem = false →
    (t.mem.tile, t.mem.tilePoison, t.mem.tileJournal) =
    (s.mem.tile, s.mem.tilePoison, s.mem.tileJournal)
  host : W.host = false → (t.mem.host, t.mem.landed) = (s.mem.host, s.mem.landed)
  upd : W.upd = false → t.upd = s.upd
  num : W.num = false → t.num = s.num
  wire : W.wire = false →
    (t.link.links, t.link.groups, t.link.messages, t.link.delivered, t.link.transfers) =
    (s.link.links, s.link.groups, s.link.messages, s.link.delivered, s.link.transfers)
  sync : W.sync = false →
    (t.link.seen, t.link.forward, t.link.parent, t.link.depth, t.link.phase, t.link.rate, t.link.errorNow,
     t.link.alignedCount, t.link.aligned, t.link.expelled, t.link.expelTargets) =
    (s.link.seen, s.link.forward, s.link.parent, s.link.depth, s.link.phase, s.link.rate, s.link.errorNow,
     s.link.alignedCount, s.link.aligned, s.link.expelled, s.link.expelTargets)
  plan : W.plan = false → t.plan = s.plan
  lakes : W.lakes = false → t.lakes = s.lakes
  pow : W.pow = false → t.pow = s.pow
  aom : W.aom = false → t.aom = s.aom
  traffic : W.traffic = false → (t.cnt.activity, t.cnt.tele) = (s.cnt.activity, s.cnt.tele)
  cnt : W.cnt = false →
    (t.cnt.stagedConfig, t.cnt.stagedClear, t.cnt.shadow, t.cnt.ring, t.cnt.bwWindow, t.cnt.dumpDrops) =
    (s.cnt.stagedConfig, s.cnt.stagedClear, s.cnt.shadow, s.cnt.ring, s.cnt.bwWindow, s.cnt.dumpDrops)
  pin : W.pin = false → t.pin = s.pin
  ctx : W.ctx = false → t.ctx = s.ctx
  ev : W.ev = false → t.ev = s.ev
  hl : W.hl = false → t.hl = s.hl
  outbox : W.outbox = false → (t.eo.outbox, t.eo.msi) = (s.eo.outbox, s.eo.msi)
  mail : W.mail = false →
    (t.eo.buffers, t.eo.slots, t.eo.ignoredDoorbells, t.eo.opened, t.eo.peerOpen, t.eo.sources, t.eo.reassembly,
     t.eo.authDrops, t.eo.authSecond, t.eo.restarts) =
    (s.eo.buffers, s.eo.slots, s.eo.ignoredDoorbells, s.eo.opened, s.eo.peerOpen, s.eo.sources, s.eo.reassembly,
     s.eo.authDrops, s.eo.authSecond, s.eo.restarts)
  settings : W.settings = false →
    (t.eo.live, t.eo.staged, t.eo.txns, t.eo.nextTxn) =
    (s.eo.live, s.eo.staged, s.eo.txns, s.eo.nextTxn)
  keys : W.keys = false →
    (t.eo.ownerKey, t.eo.ownerCounter, t.eo.mgmtKey, t.eo.tokens, t.eo.leaf, t.eo.leafFuses, t.eo.leafReady,
     t.eo.otpSecurity, t.eo.fwSlots, t.eo.fwPreferred, t.eo.fwActive, t.eo.fwVersion, t.eo.fwSecurity) =
    (s.eo.ownerKey, s.eo.ownerCounter, s.eo.mgmtKey, s.eo.tokens, s.eo.leaf, s.eo.leafFuses, s.eo.leafReady,
     s.eo.otpSecurity, s.eo.fwSlots, s.eo.fwPreferred, s.eo.fwActive, s.eo.fwVersion, s.eo.fwSecurity)

/-- Every part. -/
def Parts.all : Parts :=
  { free := true, cycle := true, runs := true, holds := true, frame := true, led := true, tiles := true, arrays :=
    true, cells := true, ops := true, hbm := true, tileMem := true, host := true, upd := true, num := true, wire :=
    true, sync := true, plan := true, lakes := true, pow := true, aom := true, traffic := true, cnt := true, pin :=
    true, ctx := true, ev := true, hl := true, outbox := true, mail := true, settings := true, keys := true }

/-- The parts that each command may change: its own, those of the checks and escalations it can take, and, for a command of
Eomet, its response. -/
def mayChange : Instr → Parts
  | .ld _ | .mean _ | .scale | .gt _ | .lt _ | .outside _ | .run _ | .aomAnd | .aomOr | .save =>
    { aom := true }
  | .snapshotComplete =>
    { cnt := true }
  | .attestTokenRefill =>
    { keys := true }
  | .itemEnqueue _ _ _ _ _ _ _ | .creditBorrow _ _ _ =>
    { lakes := true }
  | .reassemblyTimeout _ _ _ =>
    { mail := true }
  | .arpRequest _ _ _ | .icmpEchoRequest _ _ =>
    { outbox := true }
  | .eometHeartbeat | .railGroupEnable _ | .hbmTraining | .perstNRise | .page _ _ | .clearFaults _ | .voutMode
    | .statusWord | .readVout | .readIout | .readPout | .readTemperature1 | .readTemperature2 | .pmbusRevision
    | .smbusUnknownCommand _ | .jtagTestInstruction | .alertResponseAddress =>
    { pin := true }
  | .aomThrottleExpiry _ =>
    { pow := true }
  | .syncTick _ _ _ _ _ | .echoReq _ _ _ =>
    { sync := true }
  | .droopHoldExpiry _ | .droopDecayStep _ =>
    { tiles := true }
  | .mirrorRecord _ =>
    { upd := true }
  | .retryTimeout _ _ _ _ | .c0Message _ _ =>
    { wire := true }
  | .eometStart =>
    { aom := true, pin := true }
  | .operationIssue _ _ | .join _ _ =>
    { cycle := true, runs := true }
  | .memberAligned _ =>
    { frame := true, sync := true }
  | .droop _ =>
    { tiles := true, pow := true }
  | .contextLoadDone _ =>
    { traffic := true, ctx := true }
  | .eventResend =>
    { traffic := true, outbox := true }
  | .laneTraining _ | .linkrefLoss =>
    { wire := true, pin := true }
  | .echoMeasurement _ _ =>
    { wire := true, sync := true }
  | .program _ _ =>
    { cycle := true, runs := true, tiles := true }
  | .powerGoodAssert _ =>
    { tileMem := true, lakes := true, pin := true }
  | .scaleObservation _ _ _ _ _ _ _ =>
    { num := true, traffic := true, ev := true, outbox := true }
  | .peakSample _ _ _ _ _ =>
    { pow := true, traffic := true, ev := true, outbox := true }
  | .eventRaise _ _ _ _ _ | .eventSuppressionEnd =>
    { traffic := true, ev := true, hl := true, outbox := true }
  | .txnTimeout _ =>
    { traffic := true, ev := true, outbox := true, settings := true }
  | .laneDegradeRetrain _ _ | .echoReply _ _ _ _ =>
    { wire := true, traffic := true, ev := true, outbox := true }
  | .peerRequest _ _ | .identity _ | .runStatus _ | .eventRead _ _ _ | .settingGet _ _ | .txnStatus _ _
    | .arrayStatus _ _ _ | .ledgerHead _ | .ledgerExport _ _ _ _ | .hostTransferToHost _ _ _ _
    | .hostTransferToDevice _ _ _ _ | .memoryStatus _ _ | .numericsState _ _ _ _ | .contextLoad _ _ _ _ _ _
    | .contextRead _ _ _ | .contextTokens _ _ _ _ _ | .linkStatus _ _ | .queueStatus _ _ | .powerStatus _ _ _
    | .aomFilterRead _ _ | .fwStage _ _ _ | .identityCert _ | .planStatus _ | .healthRead _ _ _ _ | .healthLog _ _ _ _
    | .counterRead _ _ _ _ | .bandwidthRead _ _ _ | .dumpStatus _ =>
    { wire := true, traffic := true, outbox := true, mail := true }
  | .programmingSpanStart =>
    { arrays := true, plan := true, traffic := true, ev := true, outbox := true }
  | .healthFold _ =>
    { arrays := true, traffic := true, ev := true, hl := true, outbox := true }
  | .offloadWrite _ _ _ =>
    { free := true, cycle := true, ops := true, host := true, traffic := true }
  | .dumpRecordWrite _ =>
    { host := true, traffic := true, cnt := true, ev := true, outbox := true }
  | .ledgerExportDone _ | .hostTransferDone _ _ | .contextTokensDone _ | .healthLogDone _ =>
    { host := true, wire := true, traffic := true, outbox := true, mail := true }
  | .firmwareVerify =>
    { traffic := true, pin := true, ev := true, outbox := true, keys := true }
  | .slotEntryTransmit _ _ =>
    { wire := true, sync := true, traffic := true, ev := true, outbox := true }
  | .contextWrite _ _ _ _ | .contextStop _ _ | .contextRelease _ _ =>
    { wire := true, traffic := true, ctx := true, outbox := true, mail := true }
  | .eyeMeasurement _ _ _ _ _ _ =>
    { wire := true, traffic := true, ev := true, hl := true, outbox := true }
  | .mgmtDatagram _ _ _ | .eventAck _ _ =>
    { wire := true, traffic := true, ev := true, outbox := true, mail := true }
  | .settingSet _ _ _ | .txnBegin _ | .txnStage _ _ _ | .txnCommit _ _ _ | .txnRollback _ _ =>
    { wire := true, traffic := true, outbox := true, mail := true, settings := true }
  | .selftest _ =>
    { wire := true, traffic := true, pin := true, outbox := true, mail := true }
  | .updateChunkComplete _ _ _ =>
    { cycle := true, hbm := true, upd := true, traffic := true, ev := true, outbox := true }
  | .tickLoss _ =>
    { cycle := true, runs := true, sync := true, traffic := true, ev := true, outbox := true }
  | .mirrorTally _ =>
    { cycle := true, upd := true, sync := true, traffic := true, ev := true, outbox := true }
  | .laneFailure _ _ _ =>
    { cycle := true, wire := true, traffic := true, ev := true, hl := true, outbox := true }
  | .stopAtPosition _ _ =>
    { frame := true, wire := true, traffic := true, ev := true, outbox := true, mail := true }
  | .vectorReadbackSlot _ _ _ =>
    { runs := true, arrays := true, cells := true, traffic := true, ev := true, outbox := true }
  | .scrubRead _ _ =>
    { runs := true, hbm := true, traffic := true, ev := true, hl := true, outbox := true }
  | .aomFilterLoad _ _ | .aomFilterRemove _ _ =>
    { wire := true, aom := true, traffic := true, ev := true, outbox := true, mail := true }
  | .planDiscard _ =>
    { wire := true, plan := true, traffic := true, ev := true, outbox := true, mail := true }
  | .counterConfig _ _ _ _ _ | .counterClear _ _ _ _ _ | .dumpRegister _ _ _ | .dumpRelease _ =>
    { wire := true, traffic := true, cnt := true, ev := true, outbox := true, mail := true }
  | .offloadRegister _ _ _ | .offloadRelease _ =>
    { wire := true, traffic := true, ctx := true, ev := true, outbox := true, mail := true }
  | .fwStageDone _ | .attest _ _ | .ownerKeySet _ _ | .mgmtKeySet _ _ =>
    { wire := true, traffic := true, ev := true, outbox := true, mail := true, keys := true }
  | .doorbell _ | .registerWrite _ _ =>
    { wire := true, traffic := true, pin := true, ev := true, outbox := true, mail := true }
  | .prefetchTimeout _ _ =>
    { cycle := true, hbm := true, tileMem := true, traffic := true, ctx := true, ev := true, outbox := true }
  | .hbmRead _ _ _ _ =>
    { cycle := true, runs := true, hbm := true, traffic := true, ev := true, hl := true, outbox := true }
  | .powerGoodLoss _ _ | .thermalTrip _ _ | .refclkLoss _ =>
    { cycle := true, sync := true, pow := true, traffic := true, pin := true, ev := true, outbox := true }
  | .bootComplete =>
    { frame := true, traffic := true, pin := true, ev := true, hl := true, outbox := true, keys := true }
  | .calibration _ _ =>
    { free := true, runs := true, arrays := true, traffic := true, ev := true, hl := true, outbox := true }
  | .outputConversion _ _ _ =>
    { runs := true, ops := true, tileMem := true, num := true, traffic := true, ev := true, outbox := true }
  | .testSlotRun _ _ _ =>
    { tiles := true, arrays := true, cells := true, traffic := true, ev := true, hl := true, outbox := true }
  | .planLoadTimeout =>
    { wire := true, sync := true, plan := true, traffic := true, ev := true, outbox := true, mail := true }
  | .prefetchCompletion _ _ _ _ =>
    { cycle := true, runs := true, hbm := true, tileMem := true, traffic := true, ctx := true, ev := true, outbox :=
      true }
  | .stopNow _ _ =>
    { cycle := true, runs := true, wire := true, sync := true, traffic := true, ev := true, outbox := true, mail :=
      true }
  | .eometRestart =>
    { plan := true, traffic := true, pin := true, ctx := true, ev := true, outbox := true, mail := true, settings :=
      true }
  | .ledgerRecordWrite _ _ =>
    { cycle := true, runs := true, led := true, hbm := true, sync := true, traffic := true, ev := true, hl := true,
      outbox := true }
  | .aomSample _ _ =>
    { cycle := true, runs := true, sync := true, pow := true, aom := true, traffic := true, pin := true, ev := true,
      outbox := true }
  | .programmingSlot _ _ _ _ =>
    { cycle := true, runs := true, tiles := true, arrays := true, cells := true, traffic := true, ev := true, hl :=
      true, outbox := true }
  | .functionLevelReset _ =>
    { cycle := true, runs := true, sync := true, plan := true, traffic := true, cnt := true, ctx := true, ev := true,
      outbox := true, mail := true, settings := true }
  | .pcieLinkDown _ | .d3hotEntry _ | .pcieError _ _ | .perstNLow _ =>
    { cycle := true, runs := true, sync := true, plan := true, traffic := true, pin := true, ctx := true, ev := true,
      outbox := true, mail := true, settings := true }
  | .selftestTile _ _ =>
    { free := true, runs := true, arrays := true, hbm := true, tileMem := true, lakes := true, traffic := true, pin :=
      true, ev := true, hl := true, outbox := true }
  | .stretch _ _ _ _ | .updateDone _ _ _ _ _ _ | .prepared _ _ _ | .syncStart _ _ _ _ | .syncAbort _ _ _ _ =>
    { runs := true, holds := true, frame := true, upd := true, wire := true, sync := true, plan := true, traffic :=
      true, ev := true, outbox := true, mail := true }
  | .updateScan =>
    { runs := true, tiles := true, arrays := true, ops := true, hbm := true, tileMem := true, upd := true, sync :=
      true, traffic := true, ev := true, outbox := true }
  | .nop _ _ | .sts _ _ _ _ | .mov _ _ _ _ | .add _ _ _ _ _ _ | .sub _ _ _ _ _ _ | .mul _ _ _ _ _ _
    | .fma _ _ _ _ _ _ _ | .div _ _ _ _ _ _ | .sqrt _ _ _ _ | .rsqrt _ _ _ _ | .exp _ _ _ _ | .ln _ _ _ _
    | .max _ _ _ _ _ | .min _ _ _ _ _ | .abs _ _ _ _ | .sel _ _ _ _ _ _ | .cmplt _ _ _ _ _ | .red _ _ _ _ =>
    { runs := true, tiles := true, arrays := true, ops := true, hbm := true, tileMem := true, upd := true, traffic :=
      true, ev := true, hl := true, outbox := true }
  | .flitReceive _ _ _ _ _ _ _ =>
    { cycle := true, runs := true, hbm := true, tileMem := true, num := true, wire := true, sync := true, lakes :=
      true, traffic := true, ev := true, hl := true, outbox := true }
  | .hold _ _ _ _ _ | .late _ _ _ _ _ | .complete _ _ _ _ _ _ | .expel _ _ _ _ _ =>
    { cycle := true, runs := true, holds := true, frame := true, upd := true, wire := true, sync := true, plan :=
      true, traffic := true, ev := true, outbox := true, mail := true }
  | .hbmWrite _ _ _ _ _ =>
    { cycle := true, runs := true, tiles := true, arrays := true, ops := true, hbm := true, tileMem := true, upd :=
      true, sync := true, traffic := true, ev := true, outbox := true }
  | .updateRedo =>
    { free := true, runs := true, tiles := true, arrays := true, ops := true, hbm := true, tileMem := true, upd :=
      true, sync := true, traffic := true, ev := true, outbox := true }
  | .powerDownSequence =>
    { runs := true, frame := true, tiles := true, arrays := true, ops := true, hbm := true, tileMem := true, upd :=
      true, wire := true, plan := true, lakes := true, pin := true }
  | .splitRerun _ _ _ | .prismArbitration _ _ _ | .eventQueueEntry _ _ _ | .checkDeadlineExpiry _ _ _ | .sample _ _ _ =>
    { cycle := true, runs := true, tiles := true, arrays := true, ops := true, hbm := true, tileMem := true, upd :=
      true, sync := true, traffic := true, ev := true, hl := true, outbox := true }
  | .preparationComplete =>
    { free := true, runs := true, frame := true, arrays := true, cells := true, hbm := true, tileMem := true, sync :=
      true, plan := true, traffic := true, ev := true, hl := true, outbox := true }
  | .sysRstNLow _ =>
    { cycle := true, runs := true, frame := true, tiles := true, arrays := true, ops := true, hbm := true, tileMem :=
      true, upd := true, wire := true, sync := true, plan := true, lakes := true, pin := true }
  | .mvmResult _ _ _ _ | .matrix _ _ _ | .vector _ _ _ | .attend _ _ _ | .compress _ _ _ =>
    { cycle := true, runs := true, tiles := true, arrays := true, ops := true, hbm := true, tileMem := true, upd :=
      true, num := true, sync := true, traffic := true, ev := true, hl := true, outbox := true }
  | .itemDequeue _ _ _ _ _ _ =>
    { cycle := true, runs := true, tiles := true, arrays := true, ops := true, hbm := true, tileMem := true, upd :=
      true, sync := true, lakes := true, traffic := true, ev := true, hl := true, outbox := true }
  | .dma _ _ =>
    { cycle := true, runs := true, tiles := true, arrays := true, ops := true, hbm := true, tileMem := true, upd :=
      true, sync := true, traffic := true, ctx := true, ev := true, hl := true, outbox := true }
  | .lds _ _ _ _ _ =>
    { free := true, cycle := true, runs := true, tiles := true, arrays := true, ops := true, hbm := true, tileMem :=
      true, upd := true, sync := true, traffic := true, ev := true, hl := true, outbox := true }
  | .mvm _ _ _ | .quantise _ _ _ =>
    { free := true, cycle := true, runs := true, tiles := true, arrays := true, ops := true, hbm := true, tileMem :=
      true, upd := true, num := true, sync := true, traffic := true, ev := true, hl := true, outbox := true }
  | .powerGoodTimeout _ =>
    { runs := true, frame := true, tiles := true, arrays := true, ops := true, hbm := true, tileMem := true, upd :=
      true, wire := true, plan := true, lakes := true, traffic := true, pin := true, ev := true, outbox := true }
  | .planLoadNow _ _ _ _ | .planLoadAtBoundary _ _ _ _ =>
    { runs := true, holds := true, frame := true, led := true, arrays := true, hbm := true, wire := true, sync :=
      true, plan := true, traffic := true, ctx := true, ev := true, hl := true, outbox := true, mail := true }
  | .controlFlit _ _ _ _ _ =>
    { cycle := true, runs := true, holds := true, frame := true, hbm := true, tileMem := true, upd := true, num :=
      true, wire := true, sync := true, plan := true, traffic := true, ev := true, hl := true, outbox := true, mail :=
      true }
  | .planStart =>
    { runs := true, frame := true, arrays := true, hbm := true, upd := true, num := true, wire := true, sync := true,
      plan := true, lakes := true, traffic := true, ctx := true, ev := true, outbox := true, mail := true, settings :=
      true }
  | .selftestDone =>
    { runs := true, holds := true, frame := true, led := true, arrays := true, hbm := true, wire := true, sync :=
      true, plan := true, traffic := true, pin := true, ctx := true, ev := true, hl := true, outbox := true, mail :=
      true }
  | .commitPoint =>
    { cycle := true, runs := true, holds := true, frame := true, led := true, tiles := true, arrays := true, ops :=
      true, hbm := true, tileMem := true, upd := true, num := true, wire := true, sync := true, plan := true, traffic
      := true, ctx := true, ev := true, outbox := true }
  | .frameTick _ =>
    { cycle := true, runs := true, holds := true, frame := true, led := true, tiles := true, arrays := true, ops :=
      true, hbm := true, tileMem := true, host := true, upd := true, num := true, wire := true, sync := true, plan :=
      true, lakes := true, pow := true, aom := true, traffic := true, cnt := true, pin := true, ctx := true, ev :=
      true, hl := true, outbox := true, mail := true, settings := true }
  | .resetWarm _ | .resetPowerCycle _ | .fwActivate _ _ | .powerOn | .pgAonLoss | .sysRstNRise =>
    Parts.all

end Sys2Proof.Machine
end

