-- ==== Sys2Proof/WellFormed.lean ====
section
/-!
DEFINITION. Sys2Proof/WellFormed.lean: what the outside world can deliver. The operand types of Syntax.lean bound every number
that names a unit or a field; the checks here bound what is left: cycles, and the lengths of what arrives.
-/
namespace Sys2Proof

/-- A cycle of a counter frame: a frame lasts 120,000 ± 12 cycles (R368, R441). -/
def cycleOk (cyc : Nat) : Bool := decide (cyc < 120012)
/-- A unit of the health history, or none (R411). -/
def unitOk (u : UnitRef) : Bool :=
  match u.kind with
  | 0 => u.index == 0
  | 1 => decide (u.index < 4096)
  | 2 => decide (u.index < 256)
  | 3 => decide (u.index < 8)
  | 4 => decide (u.index < 48)
  | 5 => decide (u.index < 2)
  | 6 => u.index == 0
  | _ => false
/-- A C0 message holds at most 384 bytes (R357). -/
def messageOk (m : C0Message) : Bool := decide (m.bytes.length ≤ 384)
/-- The words of a control flit: eight members in view, at most 21 retry entries and 8 sync events, and messages that
fit (R347). -/
def controlOk (w : ControlWords) : Bool :=
  w.view.length == 8 && decide (w.retries.length ≤ 21) && decide (w.events.length ≤ 8) &&
    w.messages.all messageOk

/-- Whether a command can arrive. -/
def Instr.wf : Instr → Bool
  | .frameTick inputs => inputs.temps.all (fun x => decide (-32768 ≤ x.2) && decide (x.2 ≤ 32767))
  | .tickLoss cyc => cycleOk cyc
  | .commitPoint => true
  | .ledgerRecordWrite _ cyc => cycleOk cyc
  | .operationIssue _ cyc => cycleOk cyc
  | .mvm _ _ cyc => cycleOk cyc
  | .mvmResult _ _ _ cyc => cycleOk cyc
  | .splitRerun _ _ cyc => cycleOk cyc
  | .outputConversion .. => true
  | .prismArbitration _ _ cyc => cycleOk cyc
  | .eventQueueEntry _ _ cyc => cycleOk cyc
  | .checkDeadlineExpiry _ _ cyc => cycleOk cyc
  | .vectorReadbackSlot .. => true
  | .matrix _ _ cyc => cycleOk cyc
  | .vector _ _ cyc => cycleOk cyc
  | .dma _ cyc => cycleOk cyc
  | .program _ cyc => cycleOk cyc
  | .attend _ _ cyc => cycleOk cyc
  | .sample _ _ cyc => cycleOk cyc
  | .quantise _ _ cyc => cycleOk cyc
  | .compress _ _ cyc => cycleOk cyc
  | .join _ cyc => cycleOk cyc
  | .programmingSlot _ _ _ cyc => cycleOk cyc
  | .programmingSpanStart => true
  | .calibration .. => true
  | .testSlotRun .. => true
  | .updateChunkComplete _ _ cyc => cycleOk cyc
  | .updateScan => true
  | .updateRedo => true
  | .nop .. => true
  | .lds _ _ _ _ cyc => cycleOk cyc
  | .sts .. => true
  | .mov .. => true
  | .add .. => true
  | .sub .. => true
  | .mul .. => true
  | .fma .. => true
  | .div .. => true
  | .sqrt .. => true
  | .rsqrt .. => true
  | .exp .. => true
  | .ln .. => true
  | .max .. => true
  | .min .. => true
  | .abs .. => true
  | .sel .. => true
  | .cmplt .. => true
  | .red .. => true
  | .hbmRead _ _ _ cyc => cycleOk cyc
  | .hbmWrite _ _ data _ cyc => data.length == 64 && cycleOk cyc
  | .scrubRead .. => true
  | .itemEnqueue _ _ _ _ words poison _ => decide (words.length ≤ 1024) && poison.all (fun k => decide (k < words.length))
  | .itemDequeue _ _ _ _ _ cyc => cycleOk cyc
  | .creditBorrow .. => true
  | .flitReceive _ _ _ _ payload _ cyc => payload.length == 640 && cycleOk cyc
  | .controlFlit _ _ w _ cyc => controlOk w && cycleOk cyc
  | .slotEntryTransmit .. => true
  | .retryTimeout .. => true
  | .laneFailure _ _ cyc => cycleOk cyc
  | .laneDegradeRetrain .. => true
  | .echoMeasurement .. => true
  | .eyeMeasurement .. => true
  | .c0Message _ m => messageOk m
  | .syncTick .. => true
  | .memberAligned .. => true
  | .echoReq .. => true
  | .echoReply .. => true
  | .hold _ _ _ _ cyc => cycleOk cyc
  | .late _ _ _ _ cyc => cycleOk cyc
  | .stretch .. => true
  | .updateDone .. => true
  | .complete _ _ _ _ _ cyc => cycleOk cyc
  | .prepared .. => true
  | .syncStart .. => true
  | .syncAbort .. => true
  | .expel _ _ _ _ cyc => cycleOk cyc
  | .planStart => true
  | .preparationComplete => true
  | .planLoadTimeout => true
  | .scaleObservation .. => true
  | .mirrorRecord .. => true
  | .mirrorTally cyc => cycleOk cyc
  | .prefetchCompletion _ bytes completed cyc => (bytes.length == 4160 || !completed) && cycleOk cyc
  | .prefetchTimeout _ cyc => cycleOk cyc
  | .offloadWrite _ _ cyc => cycleOk cyc
  | .droop .. => true
  | .droopHoldExpiry .. => true
  | .droopDecayStep .. => true
  | .peakSample .. => true
  | .aomSample inputs cyc => inputs.all (fun x => decide (x.1 < 2048)) && cycleOk cyc
  | .ld .. => true
  | .mean .. => true
  | .scale => true
  | .gt .. => true
  | .lt .. => true
  | .outside .. => true
  | .run .. => true
  | .aomAnd => true
  | .aomOr => true
  | .save => true
  | .aomThrottleExpiry .. => true
  | .powerDownSequence => true
  | .eometHeartbeat => true
  | .eometRestart => true
  | .doorbell .. => true
  | .registerWrite _ data => decide (data.length ≤ 256)
  | .mgmtDatagram _ _ bytes => decide (bytes.length ≤ 1432)
  | .reassemblyTimeout .. => true
  | .peerRequest _ bytes => decide (bytes.length ≤ 32768)
  | .eventRaise _ unit _ ps _ => decide (ps.length ≤ 4) && unitOk unit
  | .eventResend => true
  | .eventSuppressionEnd => true
  | .healthFold .. => true
  | .txnTimeout .. => true
  | .attestTokenRefill => true
  | .snapshotComplete => true
  | .dumpRecordWrite .. => true
  | .identity .. => true
  | .runStatus .. => true
  | .stopAtPosition .. => true
  | .stopNow _ cyc => cycleOk cyc
  | .resetWarm .. => true
  | .resetPowerCycle .. => true
  | .eventRead .. => true
  | .eventAck .. => true
  | .settingGet _ ids => decide (1 ≤ ids.length) && decide (ids.length ≤ 1024)
  | .settingSet .. => true
  | .txnBegin .. => true
  | .txnStage _ _ pairs => decide (1 ≤ pairs.length) && decide (pairs.length ≤ 256)
  | .txnCommit .. => true
  | .txnRollback .. => true
  | .txnStatus .. => true
  | .arrayStatus .. => true
  | .ledgerHead .. => true
  | .ledgerExport .. => true
  | .ledgerExportDone .. => true
  | .offloadRegister .. => true
  | .offloadRelease .. => true
  | .hostTransferToHost .. => true
  | .hostTransferToDevice .. => true
  | .hostTransferDone .. => true
  | .memoryStatus .. => true
  | .numericsState .. => true
  | .contextLoad .. => true
  | .contextLoadDone .. => true
  | .contextRead .. => true
  | .contextWrite .. => true
  | .contextStop .. => true
  | .contextRelease .. => true
  | .contextTokens .. => true
  | .contextTokensDone .. => true
  | .linkStatus .. => true
  | .queueStatus .. => true
  | .powerStatus .. => true
  | .aomFilterRead .. => true
  | .aomFilterLoad .. => true
  | .aomFilterRemove .. => true
  | .fwStage .. => true
  | .fwStageDone .. => true
  | .fwActivate .. => true
  | .attest .. => true
  | .identityCert .. => true
  | .ownerKeySet _ record => record.length == 8192
  | .mgmtKeySet .. => true
  | .planLoadNow .. => true
  | .planLoadAtBoundary .. => true
  | .planDiscard .. => true
  | .planStatus .. => true
  | .healthRead .. => true
  | .healthLog .. => true
  | .healthLogDone .. => true
  | .selftest .. => true
  | .selftestTile nominalFails marginFails => nominalFails.all unitOk && marginFails.all unitOk
  | .selftestDone => true
  | .counterConfig _ _ _ _ words => (words.length == 4 || words.length == 8)
  | .counterRead .. => true
  | .counterClear .. => true
  | .dumpRegister .. => true
  | .dumpRelease .. => true
  | .bandwidthRead .. => true
  | .dumpStatus .. => true
  | .functionLevelReset cyc => cycleOk cyc
  | .pcieLinkDown cyc => cycleOk cyc
  | .d3hotEntry cyc => cycleOk cyc
  | .pcieError _ cyc => cycleOk cyc
  | .powerOn => true
  | .firmwareVerify => true
  | .eometStart => true
  | .railGroupEnable .. => true
  | .powerGoodAssert .. => true
  | .powerGoodTimeout .. => true
  | .powerGoodLoss _ cyc => cycleOk cyc
  | .pgAonLoss => true
  | .hbmTraining => true
  | .laneTraining .. => true
  | .bootComplete => true
  | .sysRstNLow cyc => cycleOk cyc
  | .sysRstNRise => true
  | .perstNLow cyc => cycleOk cyc
  | .perstNRise => true
  | .thermalTrip _ cyc => cycleOk cyc
  | .refclkLoss cyc => cycleOk cyc
  | .linkrefLoss => true
  | .page .. => true
  | .clearFaults .. => true
  | .voutMode => true
  | .statusWord => true
  | .readVout => true
  | .readIout => true
  | .readPout => true
  | .readTemperature1 => true
  | .readTemperature2 => true
  | .pmbusRevision => true
  | .smbusUnknownCommand .. => true
  | .jtagTestInstruction => true
  | .arpRequest .. => true
  | .icmpEchoRequest _ payload => decide (payload.length ≤ 1472)
  | .alertResponseAddress => true

/-- A well-formed command. -/
abbrev WellFormed (c : Instr) : Prop := c.wf = true

end Sys2Proof
end

