-- ==== Sys2Proof/Certificates/Slice0/Obligations.lean ====
section
/-!
DEFINITION. Sys2Proof/Certificates/Slice0/Obligations.lean: the statements for the provers.
-/
open Sys2Proof Sys2Proof.Machine

/-- For every command c and state s, a step of s with c put at the front of its queue is exec of c on s: the front command's
effect on the state with the queue's rest. The queue is the model's own (log 1). (Introduction) -/
def Obligations.StepRunsFront : Prop :=
  ∀ (c : Instr) (s : State), step { s with pending := c :: s.pending } = exec c s

/-- With an empty queue a step answers the state unchanged: nothing happens in the model but by a command, and a tick is the
command FRAME_TICK. This is the model's design choice (log 1). (R30) -/
def Obligations.StepIdlesOnEmptyQueue : Prop :=
  ∀ s : State, s.pending = [] → step s = .next s

/-- If a step with command c at the front and rest waiting behind it answers a next state, exactly rest is waiting in it; and no
command changes the serial number and the rest of the identity that the part was given at manufacture. The queue is the
model's own (log 1). (R481, R477) -/
def Obligations.QueueIsFirstInFirstOut : Prop :=
  ∀ (c : Instr) (rest : List Instr) (s t : State), s.pending = c :: rest → step s = .next t → t.pending = rest ∧ t.id = s.id

/-- Right after reset the invariant holds: every memory is in canonical form (log 9), the event ring holds at most 8,192
records, the version digest ring at most 64 entries, the monitor ring at most 32,768 records, the attestation bucket at most
16 tokens, and the next leaf lies within the blocks that blown fuses have reserved. (R407, R310, R332, R500, R499) -/
def Obligations.ResetMeetsInvariant : Prop :=
  Inv State.reset

/-- For every state in which the invariant holds, a step that answers a next state answers one in which it holds: memories in
canonical form (log 9), the event ring (8,192), the version digest ring (64), the monitor ring (32,768) and the attestation
bucket (16) within their bounds, and the next attestation leaf within the blocks whose fuses are blown. (R407, R310, R332,
R500, R283, R42) -/
def Obligations.EveryStepKeepsInvariant : Prop :=
  ∀ s t : State, Inv s → step s = .next t → Inv t

/-- For every command run in a state that meets the invariant: if it answers a next state, the number of the next attestation
leaf and the number of blown reservation fuses are at least what they were. So no leaf is ever used twice, over resets and
power cycles too. (R500) -/
def Obligations.NoLeafIsUsedTwice : Prop :=
  ∀ (c : Instr) (s t : State), Inv s → exec c s = .next t → s.eo.leaf ≤ t.eo.leaf ∧ s.eo.leafFuses ≤ t.eo.leafFuses

/-- Whatever command runs, a next state's OTP security version (fuses of the thermometer) is at least what it was, and a
junction above 125 °C once recorded in the OTP stays recorded. (R497, R498, R544) -/
def Obligations.OtpMarksAreOneWay : Prop :=
  ∀ (c : Instr) (s t : State), exec c s = .next t →
    s.eo.otpSecurity ≤ t.eo.otpSecurity ∧ (s.pin.otpHot = true → t.pin.otpHot = true)

/-- A command that is neither FRAME_TICK nor MEMBER_ALIGNED (which adopts the job's counter at a plan load) nor one of those at
which the package restarts leaves the frame counter as it was. (R30, R374, R499) -/
def Obligations.CounterMovesOnlyAtTicks : Prop :=
  ∀ (c : Instr) (s t : State), exec c s = .next t → (∀ i, c ≠ .frameTick i) → (∀ f, c ≠ .memberAligned f) → restarts c = false →
    t.fr.counter = s.fr.counter

/-- A command at which the package does not restart leaves FRAME_COMMITTED as it was unless it is COMMIT_POINT, and leaves the
plan position as it was unless it is COMMIT_POINT or PLAN_START: a held frame, and a replay during a hold, leave the plan
position unchanged. (R30, R32, R40, R270, R499) -/
def Obligations.OnlyCommitsAdvanceThePlan : Prop :=
  ∀ (c : Instr) (s t : State), exec c s = .next t → restarts c = false → c ≠ .commitPoint →
    t.fr.committed = s.fr.committed ∧ (c ≠ .planStart → t.fr.pos = s.fr.pos)

/-- A command that is neither FRAME_TICK (the step-commit tick flips; a programming span ends at a tick) nor
PREPARATION_COMPLETE nor one of those at which the package restarts leaves VERSION.live and VERSION.master as they were.
(R312, R169, R40, R270) -/
def Obligations.VersionsFlipOnlyAtTicks : Prop :=
  ∀ (c : Instr) (s t : State), exec c s = .next t → (∀ i, c ≠ .frameTick i) → c ≠ .preparationComplete → restarts c = false →
    t.fr.live = s.fr.live ∧ t.fr.master = s.fr.master

/-- A command other than PROGRAMMING_SLOT, VECTOR_READBACK_SLOT, TEST_SLOT_RUN and PREPARATION_COMPLETE leaves every element
level of every array as it was. (That a reading slot can find a level other than the one held is the model's reading, log
6.) (R60, R158, R132, R261, R270) -/
def Obligations.ElementsMoveOnlyUnderProgramming : Prop :=
  ∀ (c : Instr) (s t : State), exec c s = .next t → (∀ a b m y, c ≠ .programmingSlot a b m y) → (∀ a b r, c ≠ .vectorReadbackSlot a b r) →
    (∀ a b r, c ≠ .testSlotRun a b r) → c ≠ .preparationComplete → t.cells = s.cells

/-- The installed owner key and its counter change only at OWNER_KEY_SET, the management key only at MGMT_KEY_SET, and the
firmware images and which slot is preferred only where FW_STAGE's image arrives or at FW_ACTIVATE. No reset, no power cycle
and no other command changes them. (R502, R503, R498) -/
def Obligations.KeysAndImagesChangeOnlyByTheirCommands : Prop :=
  ∀ (c : Instr) (s t : State), exec c s = .next t →
    ((∀ r k, c ≠ .ownerKeySet r k) → t.eo.ownerKey = s.eo.ownerKey ∧ t.eo.ownerCounter = s.eo.ownerCounter) ∧
    ((∀ r k, c ≠ .mgmtKeySet r k) → t.eo.mgmtKey = s.eo.mgmtKey) ∧
    ((∀ r, c ≠ .fwStageDone r) → (∀ r k, c ≠ .fwActivate r k) → t.eo.fwSlots = s.eo.fwSlots ∧ t.eo.fwPreferred = s.eo.fwPreferred)

/-- Unless the package restarts: the ledger's head (the latest record's counter frame and digest) changes only at
LEDGER_RECORD_WRITE or where a plan is taken or dropped (COMMIT_POINT, FRAME_TICK, the two PLAN_LOAD commands, SELFTEST's
end); the registration of the off-load buffer only at OFFLOAD_REGISTER and OFFLOAD_RELEASE; the dump ring only at
DUMP_RECORD_WRITE, DUMP_REGISTER, DUMP_RELEASE and a function-level reset; health time only at EVENT_SUPPRESSION_END, the
model's second (the model's choice, log 32). (R144, R215, R480, R515, R519, R470, R410, R270) -/
def Obligations.LedgerAndRingsChangeOnlyByTheirCommands : Prop :=
  ∀ (c : Instr) (s t : State), exec c s = .next t → restarts c = false →
    ((∀ b y, c ≠ .ledgerRecordWrite b y) → c ≠ .commitPoint → (∀ i, c ≠ .frameTick i) → (∀ r h l p, c ≠ .planLoadNow r h l p) →
      (∀ r h l p, c ≠ .planLoadAtBoundary r h l p) → c ≠ .selftestDone → t.led.latest = s.led.latest ∧ t.led.digest = s.led.digest) ∧
    ((∀ r h l, c ≠ .offloadRegister r h l) → (∀ r, c ≠ .offloadRelease r) → t.ctx.offload = s.ctx.offload) ∧
    ((∀ d, c ≠ .dumpRecordWrite d) → (∀ r h l, c ≠ .dumpRegister r h l) → (∀ r, c ≠ .dumpRelease r) →
      (∀ y, c ≠ .functionLevelReset y) → t.cnt.ring = s.cnt.ring) ∧
    (c ≠ .eventSuppressionEnd → t.hl.time = s.hl.time)

/-- For every command, a next state differs from the state before at most in the parts that mayChange names for the command:
every other register, memory, queue, table and flag of the package is as it was. An SMBus read, for example, changes nothing
but the pins' side; an AOM instruction nothing but the AOM's registers; a droop nothing but its tile's limiter and its die's
droop mark; an update instruction no byte of host memory, no link, no setting and no key. The division into parts is the
model's. (R30, R37, R283, R358, R407, R444, R466, R484, R493, R505, R523, R538) -/
def Obligations.EveryCommandChangesOnlyItsParts : Prop :=
  ∀ (c : Instr) (s t : State), exec c s = .next t → ChangesOnly (mayChange c) s t

/-- While the AOM domain has power, FRAME_TICK answers a next state for every state and whatever the boards deliver: the frame
counter has advanced by one, and the status page agrees with the counter, with FRAME_COMMITTED, with the plan position and
step and with the versions. Without that power the tick changes nothing. (R30, R40, R107) -/
def Obligations.TickAdvancesTheCounter : Prop :=
  ∀ (i : TickInputs) (s : State),
    (s.pin.pgAon = true → Runs (.frameTick i) s (fun t => t.fr.counter = s.fr.counter + 1 ∧ PageAgrees t)) ∧
    (s.pin.pgAon = false → exec (.frameTick i) s = .next s)

/-- COMMIT_POINT completes in every state and rewrites the status page. Under a plan, if a plan frame is closed, no check of it
has failed and no suspect of it is unsettled, the frame commits: FRAME_COMMITTED names the counter frame that the latest
tick ended, and the plan position is the position after the frame. If a check failed or a suspect is unsettled, or no frame
is closed, FRAME_COMMITTED and the plan position stay. (R32, R133, R30, R40) -/
def Obligations.CommitPointDecides : Prop :=
  ∀ (s : State),
    Runs .commitPoint s (fun t => PageAgrees t ∧
      (∀ p f, s.plan.loaded = some p → s.fr.closed = some f → f.failures = [] → unsettled s f.gen = [] →
        t.fr.committed = BitVec.ofNat 48 (now s - 1) ∧ t.fr.pos = BitVec.ofNat 32 (f.index + 1)) ∧
      ((s.fr.closed = none ∨ s.plan.loaded = none ∨
          ∃ f, s.fr.closed = some f ∧ (f.failures ≠ [] ∨ unsettled s f.gen ≠ [])) →
        t.fr.committed = s.fr.committed ∧ t.fr.pos = s.fr.pos))

/-- TICK_LOSS completes in every state. In a package that holds rank r, EXPEL of r stands, to be processed at the tick that ends
the running counter frame if at least 16 µs (19,200 of 120,000 cycles) of it remain at the command's cycle, and one tick
later otherwise; a running plan frame has level 3. Nothing but the runs' levels, the sync events and the events' delivery
changes. (R367, R140, R432) -/
def Obligations.TickLossTakesL3 : Prop :=
  ∀ (cyc : Nat) (s : State),
    Runs (.tickLoss cyc) s (fun t =>
      (∀ r, s.plan.rank = some r →
        ((if cyc + 19200 ≤ 120000 then now s + 1 else now s + 2, r) ∈ t.link.expelTargets)) ∧
      (∀ f, s.fr.running = some f → ∃ g, t.fr.running = some g ∧ 3 ≤ g.level) ∧
      (s.plan.rank = none → t.link = s.link))

/-- With a record ready, a plan that names a ledger region and a read-back that agrees, LEDGER_RECORD_WRITE answers a next state
in which no record waits, the head is the record's counter frame, and the head's digest is SHA-256 of the record's first
8,160 bytes, which carry the digest of the record before. Nothing of the frame timebase but the cycle, and no register of
any other unit, changes. (R144, R149, R145) -/
def Obligations.LedgerRecordsFormOneChain : Prop :=
  ∀ (cyc : Nat) (s : State) (r : RecordData) (p : PlanImage) (ring : Nat × Nat),
    s.led.ready = some r → s.plan.loaded = some p → ledgerRing p = some ring →
    Runs (.ledgerRecordWrite true cyc) s (fun t =>
      t.led = { s.led with ready := none, latest := some r.frame, digest := sha256 (recordBody s r) } ∧
      ChangesOnly { cycle := true, led := true, hbm := true, traffic := true } s t)

/-- In a running plan frame whose template gives the index a descriptor: if the operation is ready (its inputs complete, its
engine free, its not_before reached, fewer than 64 of its tile's operations in flight, not itself in flight or completed),
no lower index waits ready for the same engine, and the tile's limiter level is below 16, OPERATION_ISSUE adds the operation
to those in flight, issued in the command's cycle, and changes nothing else but the cycle. At limiter level 16 nothing
issues. (R251, R443) -/
def Obligations.OperationsIssueWhenReady : Prop :=
  ∀ (op : Fin 1048576) (cyc : Nat) (s : State) (f : PlanFrame) (t : Template) (d : Desc),
    s.fr.running = some f → runningDesc s op = some (t, d) →
    (opReady (atCycle s cyc) f t d = true → lowerReady (atCycle s cyc) f t d = false → limiterLevel s (dsTile d) < 16 →
      exec (.operationIssue op cyc) s = .next
        { s with fr.cycle := cyc,
                 fr.running := some { f with inflight := f.inflight ++ [{ op := op, cycle := cyc, vectors := 0, checks := 0 }] } }) ∧
    (16 ≤ limiterLevel s (dsTile d) → exec (.operationIssue op cyc) s = .next { s with fr.cycle := cyc })

/-- For an analogue MVM descriptor in flight in the running plan frame, the next of its vectors, a limiter level below 16, an
array in service, no outliers, no granted fall-back, and no poison in memory: MVM answers a next state; if some byte of the
vector's 512 input bytes is not 0, the array runs on those bytes, in the command's cycle, split where the descriptor says
so, with a draw of the converters' free deviations; if all are 0, no array runs and none is drawn. (R80, R91, R97, R103,
R142, R251) -/
def Obligations.MvmRunsItsArray : Prop :=
  ∀ (op : Fin 1048576) (vec : Fin 1562) (cyc : Nat) (s : State) (f : PlanFrame) (t : Template) (d : Desc) (x : InFlight),
    s.fr.running = some f → runningDesc s op = some (t, d) → f.inflight.find? (fun x => x.op == op.val) = some x →
    dsClass d = 1 → dsReference d = false → x.vectors = vec.val → vec.val < mvVectors d → limiterLevel s (dsTile d) < 16 →
    (arrOf s (16 * dsTile d + dsArray d)).quarantined = false → (f.fallback.contains (mvLayer d) && !dsSplit d) = false →
    (recordAt s (placeOf s t f d d.d5) vec).1.entries = [] → s.mem.hbmPoison = [] → s.mem.tilePoison = [] →
    Runs (.mvm op vec cyc) s (fun u =>
      let lanes := (placeBytes s ((placeOf s t f d d.d4).plus (512 * vec)) 512).map BitVec.toInt
      if lanes.all (fun y => y == 0) then u.ops.mvms = s.ops.mvms ∧ u.free = s.free
      else u.free = s.free + 1 ∧ u.ops.mvms = s.ops.mvms ++
        [{ gen := f.gen, op := dsIndex d, vec := vec, tile := dsTile d, array := dsArray d, cycle := cyc, lanes := lanes,
           split := dsSplit d, high := false, rerun := false, draw := s.free }])

/-- For the next run of an array: if it is outside split mode, reaches no rail and Loupe finds no cause (and the array is not
one whose every MVM gets a verdict), the run leaves the array's list, and nothing else leaves it; if it reaches a rail and a
rerun is granted, the run stays, marked for its rerun, and the tile's count of granted reruns grows by one. (R86, R87, R92,
R95, R123, R124) -/
def Obligations.MvmResultsReachTheAccumulator : Prop :=
  ∀ (tile : TileId) (arr : ArrIdx) (slots : List (Fin 1562)) (cyc : Nat) (s : State) (m : MvmRun),
    nextRun s tile arr false = some m → m.split = false →
    Runs (.mvmResult tile arr slots cyc) s (fun u =>
      ((runPhases s m false).all (fun v => !v.2) = true →
        (loupeReport (addDrift s m) (16 * m.tile + m.array) m.lanes ((runPhases s m false).map Prod.fst) false false).causes = [] →
        (arrOf s (16 * m.tile + m.array)).alwaysPrism = false → u.ops.mvms = s.ops.mvms.filter (fun x => !(x == m))) ∧
      ((runPhases s m false).all (fun v => !v.2) = false → rerunGranted (addDrift s m) m slots = true →
        u.ops.mvms = s.ops.mvms.map (fun x => if x = m then { x with rerun := true } else x) ∧
        (tileOf u m.tile).splitUsed = (tileOf s m.tile).splitUsed + 1))

/-- SPLIT_RERUN of an array with a granted rerun takes that run off the array's list, if Loupe finds no cause in it and the
array is not one whose every MVM gets a verdict. OUTPUT_CONVERSION of an output whose contributors have all arrived and been
reported on leaves the BF16 bytes of its values at its place in its home tile's memory. (R93, R94, R95, R125, R67, R90,
R245) -/
def Obligations.RerunsAndConversionsComplete : Prop :=
  (∀ (tile : TileId) (arr : ArrIdx) (cyc : Nat) (s : State) (m : MvmRun), nextRun s tile arr true = some m →
    (loupeReport s (16 * m.tile + m.array) m.lanes ((runPhases s m true).map Prod.fst) true ((runPhases s m true).any Prod.snd)).causes = [] →
    (arrOf s (16 * m.tile + m.array)).alwaysPrism = false →
    Runs (.splitRerun tile arr cyc) s (fun u => u.ops.mvms = s.ops.mvms.filter (fun x => !(x == m)))) ∧
  (∀ (tile : TileId) (group : Half) (vec : Fin 1562) (s : State) (o : GroupOut),
    s.ops.outs.find? (fun o => sameOut o (runningGen s) group.toNat vec && o.home == tile.val) = some o →
    o.arrived = o.contributors → o.reported = o.contributors → o.converted = false →
    Runs (.outputConversion tile group vec) s (fun u =>
      tileBytes u o.home o.addr (2 * o.sums.length) = floatBytes true (outputValues o)))

/-- PRISM_ARBITRATION on a tile with a suspect waiting, in an array none of whose columns' errors leaves the bound (a
checker-wrong verdict): the suspect leaves the queue, the rest stay in order, and the array's vectors regenerate: stage 2
starts at slot 0. VECTOR_READBACK_SLOT of a regenerating array advances to the next of its 128 slots. (R129, R130, R132) -/
def Obligations.PrismSettlesTheOldestSuspect : Prop :=
  (∀ (tile : TileId) (cyc : Nat) (s : State) (q : Suspect) (rest : List Suspect), (tileOf s tile).queue = q :: rest →
    q.tile = tile.val → outsideBound s q (List.zipWith (fun y x => y - x)
      (recombineAll (arrFmt s (16 * q.tile + q.array)) (q.phases.map (fun p => 16 * p.1 + p.2))) (exactY s (16 * q.tile + q.array) q.lanes)) = [] →
    Runs (.prismArbitration tile none cyc) s (fun u =>
      (tileOf u tile).queue = rest ∧ (arrOf u (16 * q.tile + q.array)).regen = some 0)) ∧
  (∀ (tile : TileId) (arr : ArrIdx) (reads : List CellRead) (s : State) (slot : Nat),
    (arrOf s (arrKey tile arr)).regen = some slot → slot < 127 →
    Runs (.vectorReadbackSlot tile arr reads) s (fun u => (arrOf u (arrKey tile arr)).regen = some (slot + 1)))

/-- With fewer than 8 entries in the tile's event queue and a running plan frame that is not late: a residue mismatch of an
engine other than Prism adds to the frame's failures EV-0230 and the tile, and an operation in flight whose check has not
reported in time adds EV-0220 and the tile, each at the command's cycle. With 8 entries held, the entry overflows the queue:
in a package that holds a rank, EXPEL of that rank stands, to be processed at one of the two ticks that R432 gives. (R128,
R133, R140, R548) -/
def Obligations.FailedChecksFailTheFrame : Prop :=
  ∀ (tile : TileId) (cyc : Nat) (s : State) (f : PlanFrame), s.fr.running = some f → s.fr.late = false →
    ((tileOf s tile).queue.length < 8 →
      (∀ (engine op : Nat) (r : ResidueErr), engine ≠ 4 → Runs (.eventQueueEntry tile (.residue engine op r) cyc) s (fun u =>
        ∃ g, u.fr.running = some g ∧ g.failures = f.failures ++ [{ code := 0x0230, unit := unitTile tile, cycle := cyc }])) ∧
      (∀ op : Fin 1048576, inFlight f op = true → Runs (.checkDeadlineExpiry tile op cyc) s (fun u =>
        ∃ g, u.fr.running = some g ∧ g.failures = f.failures ++ [{ code := 0x0220, unit := unitTile tile, cycle := cyc }]))) ∧
    (8 ≤ (tileOf s tile).queue.length → ∀ (e : QueueEvent) (rank : Nat), s.plan.rank = some rank →
      Runs (.eventQueueEntry tile e cyc) s (fun u => (now s + 1, rank) ∈ u.link.expelTargets ∨ (now s + 2, rank) ∈ u.link.expelTargets))

/-- For an operation in flight in the running plan frame, whose descriptor has the engine's class, with no residue mismatch
found and no poison in memory: MATRIX, VECTOR, DMA, PROGRAM, ATTEND, SAMPLE, QUANTISE, COMPRESS and JOIN each answer a next
state in which the operation has completed and is no longer in flight, every other operation in flight still is, and no
check of the frame has failed. (R251, R190, R199, R247, R226, R232, R57, R213, R243, R161) -/
def Obligations.EnginesCompleteTheirOperations : Prop :=
  ∀ (op : Fin 1048576) (cyc : Nat) (s : State) (f : PlanFrame) (t : Template) (d : Desc),
    s.fr.running = some f → runningDesc s op = some (t, d) → inFlight f op = true → s.mem.hbmPoison = [] → s.mem.tilePoison = [] →
    ∀ c, (c, dsClass d) ∈ [(Instr.matrix op none cyc, 2), (.vector op none cyc, 3), (.dma op cyc, 4), (.program op cyc, 5),
        (.attend op none cyc, 6), (.sample op none cyc, 7), (.quantise op none cyc, 8), (.compress op none cyc, 9), (.join op cyc, 10)] →
      Runs c s (fun u => ∃ g, u.fr.running = some g ∧ g.completed = f.completed ++ [op.val] ∧
        g.inflight = f.inflight.filter (fun x => x.op != op.val) ∧ g.failures = f.failures)

/-- For an operation in flight in the running plan frame with a destination in tile memory and no poison in memory: VECTOR
leaves the bytes of its output, ATTEND the BF16 words of the attention result, COMPRESS its 33-byte blocks, and a plain DMA
the bytes of its source at the destination. (R199, R226, R57, R213, R247, R22) -/
def Obligations.EngineResultsReachTheirDestination : Prop :=
  ∀ (op : Fin 1048576) (cyc : Nat) (s : State) (f : PlanFrame) (t : Template) (d : Desc) (tl off : Nat),
    s.fr.running = some f → runningDesc s op = some (t, d) → inFlight f op = true → s.mem.hbmPoison = [] → s.mem.tilePoison = [] →
    (dsClass d = 3 → placeOf s t f d d.d6 = .tile tl off →
      Runs (.vector op none cyc) s (fun u =>
        let out := vecCompute s d (placeOf s t f d d.d4) (placeOf s t f d d.d5) (.tile tl off)
        tileBytes u tl off out.bytes.length = out.bytes)) ∧
    (dsClass d = 6 → placeOf s t f d d.d6 = .tile tl off →
      Runs (.attend op none cyc) s (fun u =>
        let w := atWidth d
        let q := floatsAt s ((placeOf s t f d d.d4).plus 64) w true
        let n := ctxLengthAt s f.gen (atContext d)
        let pool := placeOf s t f d d.d5
        let out := attend q (kvRows s pool (atContext d) (atHead d) w n false) (kvRows s pool (atContext d) (atHead d) w n true)
          ((floatsAt s (placeOf s t f d d.d4) 1 false).headD .zero)
        tileBytes u tl off (2 * out.length) = out.flatMap (fun h => bytesLE 2 h.toNat))) ∧
    (dsClass d = 9 → placeOf s t f d d.d5 = .tile tl off →
      Runs (.compress op none cyc) s (fun u =>
        let xs := floatsAt s (placeOf s t f d d.d4) (32 * cpBlocks d) true
        let bytes := ((List.range (cpBlocks d)).map (fun b => compressBlock ((xs.drop (32 * b)).take 32))).flatMap
          (fun b => bytesLE 1 b.1 ++ b.2.1.map (fun q => BitVec.ofInt 8 q))
        tileBytes u tl off bytes.length = bytes)) ∧
    (dsClass d = 4 → placeOf s t f d d.d5 = .tile tl off → oprSpace d.d4 ≠ 4 → oprSpace d.d5 ≠ 4 → dmTranspose d = false →
      Runs (.dma op cyc) s (fun u =>
        tileBytes u tl off (dmBytes d) = placeBytes s (placeOf s t f d d.d4) (dmBytes d)))

/-- For an array in service with a row in work whose next slot is not its read, while power is not shed: PROGRAMMING_SLOT
answers a next state in which the row is still in work, one slot of its reservation is used, each of its first 128
unfinished elements has one more pulse, and no other; 60 pJ for each that lay above its window (RESET) and 30 pJ for each of
the others (SET) are taken from the reserved energy. No element of another row or array, and none of this row that is not
among those 128, changes level. While the array is quarantined or power is shed, nothing but the cycle changes. (R158, R163) -/
def Obligations.ProgrammingSlotsPulseOneRow : Prop :=
  ∀ (tile : TileId) (arr : ArrIdx) (meas : List CellMeasure) (cyc : Nat) (s : State),
    (∀ job : RowJob, (arrOf s (arrKey tile arr)).job = some job → job.reading = false →
      (arrOf s (arrKey tile arr)).quarantined = false → s.pow.shed = false →
      Runs (.programmingSlot tile arr meas cyc) s (fun u =>
        let todo := (job.elements.filter (fun w => !w.done)).take 128
        (∃ j, (arrOf u (arrKey tile arr)).job = some j ∧ j.row = job.row ∧ j.slotsLeft = job.slotsLeft - 1 ∧
          j.energyLeft = job.energyLeft - todo.foldl (fun e w => e + (if w.above then 60 else 30)) 0 ∧
          j.elements.map (fun w => (w.col, w.element, w.total)) = job.elements.map (fun w => (w.col, w.element,
            if todo.any (fun x => x.col == w.col && x.element == w.element)
            then ((todo.find? (fun x => x.col == w.col && x.element == w.element)).map ElementWork.total).getD 0 + 1 else w.total))) ∧
        (∀ key, (∀ w ∈ todo, cellKey (arrKey tile arr) job.row w.col w.element ≠ key) → tget 0 u.cells key = tget 0 s.cells key))) ∧
    ((arrOf s (arrKey tile arr)).quarantined = true ∨ s.pow.shed = true →
      exec (.programmingSlot tile arr meas cyc) s = .next { s with fr.cycle := cyc })

/-- With a span open for version v whose scan has not been made, PROGRAMMING_SPAN_START answers a next state in which the scan
is made, and in every array of the rank's weight map the pending rows are those among 0 to 511 whose integers under version
v differ from the image, in ascending order. The scan changes no element, no image byte and no other register of the frame
timebase. (R169) -/
def Obligations.SpansMarkChangedRows : Prop :=
  ∀ (s : State) (v : Nat), s.plan.spanVersion = some v → s.plan.spanScan ≠ 0 →
    Runs .programmingSpanStart s (fun u => u.plan.spanScan = 0 ∧
      (∀ k ∈ mapArrays s, (arrOf u k).pendingRows =
        (List.range 512).filter (fun r => rowTargets s k r v false != imageRow s k r)) ∧
      u.cells = s.cells ∧ u.mem = s.mem ∧ u.fr = s.fr)

/-- CALIBRATION answers a next state in every state, with a draw of the converters' free deviations for each of its 128 runs. If
every column's two runs agree and the quality figure is at most 1.25, the fit is staged for the next tick, the calibration
is no longer pending and no failure is counted in a row. Otherwise it stays pending with one more failure in a row, and the
second quarantines the array and takes its valid bit. (R185, R186, R187) -/
def Obligations.CalibrationsAreAcceptedOrRepeated : Prop :=
  ∀ (tile : TileId) (arr : ArrIdx) (s : State), Runs (.calibration tile arr) s (fun u =>
    let k := arrKey tile arr
    let samples := (List.range 520).map (fun c => calSamples s k c)
    let accepted := samples.all repeatAgrees && decide (qualitySquared s k samples (calFits s k samples) ≤ mkRat 25 16)
    u.free = s.free + 128 ∧
    (accepted = true → (arrOf u k).calNext.isSome = true ∧ (arrOf u k).calPending = false ∧ (arrOf u k).calFails = 0) ∧
    (accepted = false → (arrOf u k).calPending = true ∧ (arrOf u k).calFails = (arrOf s k).calFails + 1 ∧
      (1 ≤ (arrOf s k).calFails → (arrOf u k).quarantined = true ∧ (arrOf u k).calValid = false)))

/-- While a plan runs, with t the tile that holds the test slot: if the test cannot start, the tile's count of skipped tests
grows by one and nothing else of the tile changes. If it can and a repeat waits, the oldest repeat is taken. If none waits,
in the first 1,008 frames of the visit, a repeat waits for the array item if that failed and after it one for the engines if
those failed, and for nothing that passed. (R261, R420) -/
def Obligations.TestSlotsRunOrAreSkipped : Prop :=
  ∀ (arrayPass enginePass : Bool) (reads : List CellRead) (s : State) (t : Nat), testTile s = some t →
    Runs (.testSlotRun arrayPass enginePass reads) s (fun u =>
      (testRuns s t = false → tileOf u t = { tileOf s t with skipped := (tileOf s t).skipped + 1 }) ∧
      (testRuns s t = true →
        (∀ x rest, (tileOf s t).repeats = x :: rest → (tileOf u t).repeats = rest) ∧
        ((tileOf s t).repeats = [] → visitFrame s ≤ 1007 → (tileOf u t).repeats =
          (if arrayPass then [] else [⟨unitArray (arrKey t (visitFrame s % 16)), 16 + visitFrame s % 16, visitFrame s / 16 % 64⟩]) ++
          (if enginePass then [] else [⟨unitTile t, visitFrame s % 8, visitFrame s / 8 % 64⟩]))))

/-- For an engine with a chunk not done and a next instruction in the same sequence: MOV, ADD, SUB, MUL, FMA, DIV, SQRT, RSQRT,
EXP, LN, MAX, MIN, ABS, SEL and CMPLT with no residue mismatch each answer a next state in which every lane of a vector
register d holds the operation's exact result of its own operands rounded once to odd (for MOV and SEL: the operand's word),
a scalar register d the value of lane 0; every other register of the engine is unchanged, the engine stands at its next
instruction, and nothing outside the update engines changes. NOP does the same and writes no register. (R294, R295, R296,
R297, R199) -/
def Obligations.UpdateEnginesCompute : Prop :=
  ∀ (st : StackId) (en : Fin 8) (d a b c : Fin 32) (s : State) (p : PlanImage) (w : EngineWork),
    s.plan.loaded = some p → (engineOf s (engineNo st en)).work = some w → chunkDone p w = false →
    w.pc + 1 < (if w.inBody then (passOf (programOf p (workGroup p w)) w.pass).2.length
                else (passOf (programOf p (workGroup p w)) w.pass).1.length) →
    let o := fun (f : FVal → FVal → FVal → FVal) (e : UpdEngine) (l : Nat) =>
      toF32 .odd (f (laneVal e l a) (laneVal e l b) (laneVal e l c))
    (∀ x ∈ [(Instr.mov st en d a, fun (e : UpdEngine) (l : Nat) => laneReg e l a),
        (.add st en d a b none, o (fun x y _ => fAdd x y)), (.sub st en d a b none, o (fun x y _ => fSub x y)),
        (.mul st en d a b none, o (fun x y _ => fMul x y)), (.fma st en d a b c none, o (fun x y z => fAdd (fMul x y) z)),
        (.div st en d a b none, o (fun x y _ => fDiv x y)), (.sqrt st en d a, o (fun x _ _ => fSqrt fp32 .odd x)),
        (.rsqrt st en d a, o (fun x _ _ => fRsqrt fp32 .odd x)), (.exp st en d a, o (fun x _ _ => fExp fp32 .odd x)),
        (.ln st en d a, o (fun x _ _ => fLn fp32 .odd x)), (.max st en d a b, o (fun x y _ => fMax x y)),
        (.min st en d a b, o (fun x y _ => fMin x y)), (.abs st en d a, o (fun x _ _ => fAbs x)),
        (.sel st en d a b c, fun e l => if (laneVal e l c).isZero then laneReg e l b else laneReg e l a),
        (.cmplt st en d a b, o (fun x y _ => if fLt x y then .one else .zero))],
      Runs x.1 s (fun u => ChangesOnly { upd := true } s u ∧
        (engineOf u (engineNo st en)).work = some { w with pc := w.pc + 1 } ∧
        (∀ l < 64, laneReg (engineOf u (engineNo st en)) l d = x.2 (engineOf s (engineNo st en)) (if d.val < 16 then l else 0)) ∧
        (∀ l r, l < 64 → r < 32 → r ≠ d.val → laneReg (engineOf u (engineNo st en)) l r = laneReg (engineOf s (engineNo st en)) l r))) ∧
    Runs (.nop st en) s (fun u => ChangesOnly { upd := true } s u ∧
      engineOf u (engineNo st en) = { engineOf s (engineNo st en) with work := some { w with pc := w.pc + 1 } })

/-- For an engine in the body of a group's pass, with another instruction to follow, and no poison in HBM: LDS of a stream held
by the group loads into each lane that works on an element the stored bytes of that element as FP32, and +0 into the other
lanes. STS of a stream of the group's bank, in a region that the plan has, leaves, for each lane whose mask bit is 1, the
bytes of the rounded value at that element's place in the alternate bank. RED in pass 1 adds to the slot, for each lane
whose mask bit is 1, the lane's register as the operand of its element. (R293, R298, R300) -/
def Obligations.UpdateEnginesReachMemory : Prop :=
  ∀ (st : StackId) (en : Fin 8) (s : State) (p : PlanImage) (w : EngineWork) (e : BitVec 512),
    s.plan.loaded = some p → (engineOf s (engineNo st en)).work = some w → chunkDone p w = false → w.inBody = true →
    w.pc + 1 < (passOf (programOf p (workGroup p w)) w.pass).2.length → s.mem.hbmPoison = [] → workGroup p w = e →
    (∀ (d : Fin 32) (stream : Fin 8) (cyc addr size : Nat), d.val < 16 → stream ≠ 7 →
      streamAddr p e s.fr.master.toNat stream ((workElements p w).headD 0) = some (addr, size) →
      Runs (.lds st en d stream cyc) s (fun u => ∀ l < 64, laneReg (engineOf u (engineNo st en)) l d =
        if l < (workElements p w).length then streamWord (hbmBytes s (addr + size * l) size) else 0)) ∧
    (∀ (stream : Fin 8) (a : Fin 32), streamSize e stream ≠ 0 → (p.regions[gpBankRegion e]?).isSome = true →
      Runs (.sts st en stream a) s (fun u => ∀ l i, (workElements p w)[l]? = some i → maskBit s p e s.fr.master.toNat i = true →
        ∀ addr, streamAddr p e (s.fr.master.toNat + 1) stream i = some (addr, streamSize e stream) →
        hbmBytes u addr (streamSize e stream) = storeBytes s p e stream i (laneReg (engineOf s (engineNo st en)) l a))) ∧
    (∀ (slot : Fin 4) (a : Fin 32), w.pass = 1 → Runs (.red st en slot a) s (fun u => ∀ l i, (workElements p w)[l]? = some i →
      maskBit s p e s.fr.master.toNat i = true →
      tfind u.upd.reds (redKey (gpProgram e) slot (gpNumber e) i) = some (laneReg (engineOf s (engineNo st en)) l a)))

/-- With no poison in HBM: the first UPDATE_SCAN of an attempt leaves the step scanned, and skipped if and only if some unmasked
gradient of some group is NaN or infinite; a later one changes nothing. UPDATE_CHUNK_COMPLETE of an engine whose chunk is
done: in the group's last pass the chunk has its digest, and if the group has a further chunk for the engine, the engine
stands at its start with its vector registers at +0. UPDATE_REDO, when the rerun of an abandoned attempt is asked for, scans
again, and where it is not skipped runs the passes to their end: no engine has work left. (R299, R301, R309, R313) -/
def Obligations.UpdatesScanFoldAndRedo : Prop :=
  ∀ (s : State) (p : PlanImage), s.plan.loaded = some p → s.mem.hbmPoison = [] →
    (s.upd.scanned = false → Runs .updateScan s (fun u => u.upd.scanned = true ∧ u.upd.skipped = p.update.groups.any (gradientBad s p))) ∧
    (s.upd.scanned = true → exec .updateScan s = .next s) ∧
    (∀ (st : StackId) (en : Fin 8) (cyc : Nat) (w : EngineWork), (engineOf s (engineNo st en)).work = some w → chunkDone p w = true →
      Runs (.updateChunkComplete st en cyc) s (fun u =>
        (w.pass = lastPass (programOf p (workGroup p w)) →
          (tfind u.upd.chunkDigests (digestKey (gpNumber (workGroup p w)) w.chunk)).isSome = true) ∧
        (w.chunk + 8 < groupChunks (workGroup p w) →
          (engineOf u (engineNo st en)).work = some { w with chunk := w.chunk + 8, pc := 0, batch := 0 } ∧
          (engineOf u (engineNo st en)).vectors = []))) ∧
    (s.upd.abandoned = true → s.upd.redo = true → Runs .updateRedo s (fun u =>
      p.update.groups.any (gradientBad s p) = false → u.upd.engines = []))

/-- HBM_READ of an unmapped offset faults. Of a mapped codeword: read without errors it leaves every byte of HBM and every
poison mark as it was, poisoned or not; read with errors that the decoder calls uncorrectable, where it was not poisoned, it
stores the poison pattern with the stack as its origin and counts the uncorrectable codeword. SCRUB_READ without errors
leaves every byte and mark as it was and moves the scrub on by 4 KiB, restarting at the end of the capacity. (R276, R280,
R281, R282, R285) -/
def Obligations.HbmReadsDecode : Prop :=
  ∀ (st : StackId) (off : BitVec 36) (cyc : Nat) (s : State),
    let a := st.val * 2 ^ 36 + off.toNat
    (∀ errs, hbmMapped s a = false → exec (.hbmRead st off errs cyc) s = .fault (.unmapped a)) ∧
    (hbmMapped s a = true → Runs (.hbmRead st off [] cyc) s (fun u => ∀ x, tget 0 u.mem.hbm x = tget 0 s.mem.hbm x ∧ hbmMark u x = hbmMark s x)) ∧
    (∀ errs, hbmMapped s a = true → hbmMark s a = none → decodeSyndrome (errorSyndrome errs) = .uncorrectable →
      Runs (.hbmRead st off errs cyc) s (fun u => hbmBytes u (a / 64 * 64) 64 = List.replicate 64 0 ∧
        (hbmMark u a).map (fun m => (m.origin, m.number)) = some (1, devStack a) ∧
        (stackOf u (devStack a)).uncorrectables = (stackOf s (devStack a)).uncorrectables + 1)) ∧
    Runs (.scrubRead st []) s (fun u => (∀ x, tget 0 u.mem.hbm x = tget 0 s.mem.hbm x ∧ hbmMark u x = hbmMark s x) ∧
      (stackOf u st).scrub = ((stackOf s st).scrub + 4096) % stackBytes s st)

/-- HBM_WRITE that touches an unmapped codeword faults. With every codeword mapped and no poison in HBM, a write of unpoisoned
data reads back and leaves every other byte of HBM as it was. A write of one whole codeword by a running plan frame, outside
the places R284 leaves unjournaled: if the frame has written no byte of it before, its journal gets the codeword's content
before the write; poisoned data marks the codeword. (R276, R278, R283, R284, R285) -/
def Obligations.HbmWritesReadBack : Prop :=
  ∀ (st : StackId) (off : BitVec 36) (data : List Byte) (cyc : Nat) (s : State),
    let a := st.val * 2 ^ 36 + off.toNat
    (∀ l p, (linesOf a data.length).find? (fun l => !(hbmMapped s l)) = some l →
      exec (.hbmWrite st off data p cyc) s = .fault (.unmapped l)) ∧
    ((linesOf a data.length).find? (fun l => !(hbmMapped s l)) = none → s.mem.hbmPoison = [] →
      Runs (.hbmWrite st off data false cyc) s (fun u => hbmBytes u a data.length = data ∧
        (∀ x, x < a ∨ a + data.length ≤ x → tget 0 u.mem.hbm x = tget 0 s.mem.hbm x)) ∧
      (a % 64 = 0 → data.length = 64 → ∀ f, s.fr.running = some f → unjournaledAt s a = false → ∀ p,
        Runs (.hbmWrite st off data p cyc) s (fun u =>
          (s.mem.hbmJournal.any (fun x => x.gen == f.gen && x.addr == a) = false →
            { gen := f.gen, addr := a, data := hbmBytes s a 64, poison := none } ∈ u.mem.hbmJournal) ∧
          (p = true → hbmMark u a = some { gen := some f.gen, origin := 1, number := st.val }))))

/-- A producer that holds credits for all of an item's cells adds it at the tail of its Lake's queue, in the Lake's lowest free
cells (log 25), each with its eight words and zeros behind the last; one that does not waits, and only that is counted. A
consumer with its output credits takes its class's first item: its cells are delivered in order and it leaves the queue;
from an empty queue it takes the idle item. CREDIT_BORROW lends 16 shared cells to the class and the port where the limits
allow, and counts a wait where not. (R386, R392, R394, R395, R397, R406) -/
def Obligations.LakesQueueItemsAndLendCredits : Prop :=
  ∀ (lake : LakeId) (cls : Fin 5) (s : State),
    (∀ (kind port : Fin 64) (words : List DWord) (poison : List Nat) (rest : Bool),
      (holdsCredits s lake cls port (itemCells words) = true → Runs (.itemEnqueue lake cls kind port words poison rest) s (fun u =>
        let cells := freeCells (lakeOf s lake) (lakeCells (isIoLake lake)) (itemCells words) 0
        (∃ it : LakeItem, (lakeOf u lake).items = (lakeOf s lake).items ++ [it] ∧
          it.cls = cls.val ∧ it.kind = kind.val ∧ it.port = port.val ∧ it.cells = cells) ∧
        ∀ x ∈ cells.zipIdx, (tfind (lakeOf u lake).cells x.1).map Cell.payload =
          some ((List.range 8).map (fun k => words.getD (8 * x.2 + k) 0)))) ∧
      (holdsCredits s lake cls port (itemCells words) = false → Runs (.itemEnqueue lake cls kind port words poison rest) s (fun u =>
        (lakeOf u lake).items = (lakeOf s lake).items ∧ (lakeOf u lake).cells = (lakeOf s lake).cells ∧
        tget 0 (lakeOf u lake).creditWait cls = satTo (2 ^ 32 - 1) (tget 0 (lakeOf s lake).creditWait cls + 1)))) ∧
    (∀ (flips : List (Nat × DWord)) (compute : Bool) (cyc : Nat),
      (∀ it, headItem (lakeOf s lake) cls = some it → outputReady (lakeOf s lake) cls = true →
        Runs (.itemDequeue lake cls flips 0 compute cyc) s (fun u => (lakeOf u lake).items = (lakeOf s lake).items.erase it ∧
          (lakeOf u lake).taken = it.cells.zipIdx.map (fun c =>
            (deliverCell ((tfind (lakeOf s lake).cells c.1).getD (mkCell 0 [])) flips (8 * c.2)).1))) ∧
      (headItem (lakeOf s lake) cls = none → Runs (.itemDequeue lake cls flips 0 compute cyc) s (fun u =>
        (lakeOf u lake).items = (lakeOf s lake).items ∧ (lakeOf u lake).taken = [idleCell s cls]))) ∧
    (∀ port : Fin 64,
      (canBorrow s lake cls = true → Runs (.creditBorrow lake cls port) s (fun u =>
        tget 0 (lakeOf u lake).lent cls = tget 0 (lakeOf s lake).lent cls + 16 ∧
        borrowedCredits (lakeOf u lake) cls port = borrowedCredits (lakeOf s lake) cls port + 16)) ∧
      (canBorrow s lake cls = false → Runs (.creditBorrow lake cls port) s (fun u =>
        (lakeOf u lake).lent = (lakeOf s lake).lent ∧ (lakeOf u lake).borrowed = (lakeOf s lake).borrowed)))

/-- For HOLD, LATE, STRETCH, UPDATE_DONE, COMPLETE, PREPARED, START, ABORT and EXPEL as they arrive on a link: a copy whose
kind, origin and frame were seen changes nothing but the cycle read. A new one whose target tick has not passed is marked as
seen and waits to be forwarded on every other live link; HOLD and LATE make the tick that ends the frame a hold tick,
STRETCH is noted, UPDATE_DONE and COMPLETE add their report (the latter for the current attempt, outside an abandoned one),
PREPARED adds the rank, START starts a prepared plan at its frame, ABORT drops the plan being loaded (each of the plan now
loaded), and EXPEL of the rank stands for its tick. (R370, R371, R372, R373, R267, R311, R313, R270, R432) -/
def Obligations.FloodedEventsActOnce : Prop :=
  ∀ (link : LinkId) (origin rank : Rank) (frame : BitVec 48) (cyc : Nat) (cause : Fin 16) (unit attempt reason : Byte)
    (pos version plan : Word) (skipped whole : Bool) (s : State) (c : Instr) (e : SyncEvent),
    (c, e) ∈ [(.hold link origin frame cause cyc, syncEvent .hold origin frame.toNat cause.val),
      (.late link origin frame unit cyc, syncEvent .late origin frame.toNat unit.toNat),
      (.stretch link origin frame pos, syncEvent .stretch origin frame.toNat pos.toNat),
      (.updateDone link origin frame version attempt skipped,
        syncEvent .updateDone origin frame.toNat (version.toNat + attempt.toNat * 2 ^ 32 + bitNat skipped * 2 ^ 40)),
      (.complete link origin frame attempt whole cyc, syncEvent .complete origin frame.toNat (attempt.toNat + bitNat whole * 256)),
      (.prepared link origin plan, syncEvent .prepared origin 0 plan.toNat),
      (.syncStart link origin frame plan, syncEvent .start origin frame.toNat plan.toNat),
      (.syncAbort link origin plan reason, syncEvent .abort origin 0 (plan.toNat + reason.toNat * 2 ^ 32)),
      (.expel link origin frame rank cyc, syncEvent .expel origin frame.toNat rank.val)] →
    (s.link.seen.contains (e.kind, e.origin, e.frame) = true → Runs c s (fun u => u = { s with fr.cycle := u.fr.cycle })) ∧
    (s.link.seen.contains (e.kind, e.origin, e.frame) = false → targetPassed s e = false → Runs c s (fun u =>
      ((e.kind, e.origin, e.frame) ∈ u.link.seen ∧
        ∃ x ∈ u.link.forward, x.event = e ∧ x.links = (liveLinks s).filter (· != link.val)) ∧
      (e.kind = .hold ∨ e.kind = .late → frame.toNat + 1 ∈ u.fr.holdTargets) ∧
      (e.kind = .stretch → u.fr.stretchAsked = true) ∧
      (e.kind = .updateDone → u.upd.reports = s.upd.reports ++
        [{ rank := origin.val, version := version.toNat, attempt := attempt.toNat, skipped := skipped }]) ∧
      (e.kind = .complete → s.upd.abandoned = false → attempt.toNat = s.upd.attempt →
        u.upd.completeReports = s.upd.completeReports ++ [(origin.val, whole)]) ∧
      (e.kind = .prepared → plan = planIdField s → origin.val ∈ u.plan.prepared) ∧
      (e.kind = .start → plan = planIdField s → s.plan.stage = .prepared →
        u.plan.stage = .starting ∧ u.plan.startFrame = some frame.toNat) ∧
      (e.kind = .abort → plan = planIdField s → s.plan.stage ≠ .idle → u.plan.stage = .idle ∧ u.plan.loaded = none) ∧
      (e.kind = .expel → (frame.toNat + 1, rank.val) ∈ u.link.expelTargets)))

/-- ECHO_MEASUREMENT keeps its token and sends ECHO_REQ with it on the link; ECHO_REQ is answered with the token and the
turnaround; ECHO_REPLY to a token in use sets the link's delay to half of the round trip less the turnaround, and above
25,600 (400 ns) the link counts as down. TICK on the parent link gives e = a - o - D. MEMBER_ALIGNED after 16 aligned ticks
of a plan load adopts the job's frame counter. A C0 message for this rank is delivered, one for an expelled rank dropped,
any other kept to be forwarded. (R366, R367, R370, R374, R357) -/
def Obligations.MembersMeasureAlignAndPassMessages : Prop :=
  (∀ (link : LinkId) (token : Half) (s : State), Runs (.echoMeasurement link token) s (fun u =>
    (linkOf u link).echoes = (linkOf s link).echoes ++ [token.toNat] ∧
    ∃ x ∈ u.link.forward, x.event.kind = .echoReq ∧ x.event.payload = token.toNat ∧ x.links = [link.val])) ∧
  (∀ (link : LinkId) (token : Half) (turnaround : Word) (s : State), Runs (.echoReq link token turnaround) s (fun u =>
    ∃ x ∈ u.link.forward, x.event.kind = .echoReply ∧ x.event.payload % 2 ^ 16 = token.toNat ∧
      x.event.payload / 2 ^ 16 = turnaround.toNat ∧ x.links = [link.val])) ∧
  (∀ (link : LinkId) (token : Half) (turnaround roundTrip : Word) (s : State), token.toNat ∈ (linkOf s link).echoes →
    Runs (.echoReply link token turnaround roundTrip) s (fun u =>
      (linkOf u link).delay = min ((roundTrip.toNat - turnaround.toNat) / 2) 65535 ∧
      (linkOf u link).echoes = (linkOf s link).echoes.erase token.toNat ∧
      (linkOf u link).width = if 25600 < (roundTrip.toNat - turnaround.toNat) / 2 then 0 else (linkOf s link).width)) ∧
  (∀ (link : LinkId) (frame : BitVec 48) (departure : Fin 8388608) (aligned : Bool) (arrival : Int) (s : State),
    s.link.parent = some link.val → Runs (.syncTick link frame departure aligned arrival) s (fun u =>
      u.link.errorNow = some (arrival - (departure.val : Int) - ((linkOf s link).delay : Int)))) ∧
  (∀ (frame : BitVec 48) (s : State), s.plan.stage = .preparing → 16 ≤ s.link.alignedCount → s.link.aligned = false →
    Runs (.memberAligned frame) s (fun u => u.fr.counter = frame ∧ u.link.aligned = true)) ∧
  (∀ (link : LinkId) (m : C0Message) (s : State), Runs (.c0Message link m) s (fun u =>
    (s.plan.rank = some m.dest.val → u.link.delivered = s.link.delivered ++ [m] ∧ u.link.messages = s.link.messages) ∧
    (s.plan.rank ≠ some m.dest.val → u.link.delivered = s.link.delivered ∧
      u.link.messages = if m.dest.val ∈ s.link.expelled then s.link.messages else s.link.messages ++ [m])))

/-- A flit that arrives clean where the stream stands at an entry with room for it in the Lake, bound for tile memory, moves the
stream on, is acknowledged and leaves its bytes at its destination; an uncorrectable one is listed as not acknowledged,
whatever it is. A control flit that arrives clean (here one without events, discovery and retries, and with no member
reported down) delivers its C0 messages for this rank in order, and every flit it acknowledges leaves the retry buffer. At a
control position every link with a position sends a control flit; at another, the lowest link with a position sends the
stream's next flit, unless a retry is listed for it. A flit not acknowledged in time is queued for retry, after its third
retry it is abandoned. (R344, R347, R348, R352, R353, R355, R358, R360) -/
def Obligations.LinksCarryFlits : Prop :=
  (∀ (link : LinkId) (time : Fin 15620) (poison : BitVec 10) (payload : List Byte) (cyc : Nat) (s : State)
    (pos entry flit i t off : Nat) (list : List (BitVec 256)) (tp : Template) (e : BitVec 256),
    slotPos s = some pos → rxListAt s (linkDir link) pos = some (list, tp, i) →
    nextFlit list (groupOf s (linkDir link)).rxEntry (groupOf s (linkDir link)).rxFlit time true = some (entry, flit, e) →
    creditFor s link = true → (slotPlace s (slKind e) false tp i (slDest e)).plus (640 * flit) = .tile t off →
    min 640 (slBytes e - 640 * flit) ≤ payload.length →
    Runs (.flitReceive link time false poison payload .clean cyc) s (fun u =>
      (groupOf u (linkDir link)).rxEntry = entry ∧ (groupOf u (linkDir link)).rxFlit = flit + 1 ∧
      (linkOf u link).ackHigh = time.val ∧ (linkOf u link).ackValid = true ∧
      (linkOf u link).counters.received = (linkOf s link).counters.received + 1 ∧
      tileBytes u t off (min 640 (slBytes e - 640 * flit)) = payload.take (min 640 (slBytes e - 640 * flit)))) ∧
  (∀ (link : LinkId) (time : Fin 15620) (retry : Bool) (poison : BitVec 10) (payload : List Byte) (lanes : BitVec 4) (cyc : Nat)
    (s : State), Runs (.flitReceive link time retry poison payload (.uncorrectable lanes) cyc) s
      (fun u => (time.val, false) ∈ (linkOf u link).nacks)) ∧
  (∀ (link : LinkId) (time : Fin 15620) (w : ControlWords) (cyc : Nat) (s : State), w.retries = [] → w.events = [] →
    w.discovery = none → (∀ v ∈ w.view, v ≠ 0) → (groupOf s (linkDir link)).buffer.Nodup →
    Runs (.controlFlit link time w .clean cyc) s (fun u =>
      u.link.delivered = s.link.delivered ++ w.messages.filter (fun m => s.plan.rank == some m.dest.val) ∧
      ∀ r ∈ (groupOf s (linkDir link)).buffer, r.member = linkMember link →
        (w.nacks.any (fun n => n.1 == r.time && (if n.2 then now s - 1 else now s) == r.frame)) = false → w.ackValid = true →
        (r.frame < (if w.ackPrev then now s - 1 else now s) ∨
          (r.frame = (if w.ackPrev then now s - 1 else now s) ∧ r.time ≤ w.ackHigh)) →
        r ∉ (groupOf u (linkDir link)).buffer)) ∧
  (∀ (dir : Fin 6) (time : Fin 15620) (s : State), time.val % 32 = 0 →
    Runs (.slotEntryTransmit dir time) s (fun u => ∀ m : Fin 8, hasPosition s (linkAt dir m) time = true →
      ∃ f ∈ (groupOf u dir).wire, f.member = m.val ∧ f.time = time.val ∧ f.kind = 2)) ∧
  (∀ (dir : Fin 6) (time : Fin 15620) (s : State) (m : Fin 8) (entry flit i own pos : Nat) (e : BitVec 256)
    (list : List (BitVec 256)) (tp : Template), time.val % 32 ≠ 0 → hasPosition s (linkAt dir m) time = true →
    (∀ k : Fin 8, k < m → hasPosition s (linkAt dir k) time = false) →
    (groupOf s dir).listed.find? (fun r => r.member == m.val) = none → slotsRun s = true →
    nextFlit (txList s dir) (groupOf s dir).txEntry (groupOf s dir).txFlit time s.fr.late = some (entry, flit, e) → slKind e ≠ 3 →
    (groupOf s dir).buffer.length < 8192 → s.plan.rank = some own → slotPos s = some pos →
    slotListAt s own pos dir = some (list, tp, i) →
    Runs (.slotEntryTransmit dir time) s (fun u => ∃ f ∈ (groupOf u dir).wire, f.member = m.val ∧ f.time = time.val ∧ f.kind = 1 ∧
      f.entry = entry ∧ f.flit = flit ∧ f.payload = (flitPayload s e tp i flit).1 ∧ f.poison = (flitPayload s e tp i flit).2)) ∧
  (∀ (dir : Fin 6) (member : Fin 8) (time : Fin 15620) (previous : Bool) (s : State) (r : FlitRec),
    (groupOf s dir).buffer.find? (fun r => r.member == member.val && r.time == time.val &&
      r.frame == (if previous then now s - 1 else now s)) = some r →
    Runs (.retryTimeout dir member time previous) s (fun u => (groupOf u dir).buffer = (groupOf s dir).buffer.erase r ∧
      (r.tries < 3 → (groupOf u dir).queue = (groupOf s dir).queue ++ [r]) ∧
      (3 ≤ r.tries → (groupOf u dir).abandoned = (groupOf s dir).abandoned ++ [r])))

/-- LANE_FAILURE of a lane not failed before marks it, takes its link down and sets the tick of its test, the first at least
24,000 cycles away. From the tick after the test, with LINKREF present, LANE_DEGRADE_RETRAIN brings the link back at half
width on lanes 0 and 1, else 2 and 3, where neither lane of the pair has failed, and else leaves it as it is. An eye
measurement's figures are kept; figures that fail, or that do not pass an admission, fail the lane; an admission that all
four lanes pass brings the link to full width with no lane failed. LANE_TRAINING in boot stage 4 trains every link that is
not down, and stage 5 follows. (R341, R362, R363, R382, R383, R499) -/
def Obligations.LanesFailRetrainAndAreAdmitted : Prop :=
  (∀ (link : LinkId) (lane : Fin 4) (cyc : Nat) (s : State), (linkOf s link).failed.getLsbD lane = false →
    Runs (.laneFailure link lane cyc) s (fun u => (linkOf u link).width = 0 ∧
      (linkOf u link).failed = (linkOf s link).failed ||| (1 <<< lane.val) ∧
      (linkOf u link).testTick = some (if cyc + 24000 ≤ 120000 then now s + 1 else now s + 2))) ∧
  (∀ (link : LinkId) (failed : BitVec 4) (s : State) (t : Nat), (linkOf s link).testTick = some t → t + 1 ≤ now s → s.pin.linkref = true →
    Runs (.laneDegradeRetrain link failed) s (fun u =>
      let f := (linkOf s link).failed ||| failed
      (linkOf u link).failed = f ∧ (linkOf u link).testTick = none ∧
      ((f.getLsbD 0 || f.getLsbD 1) = false → (linkOf u link).width = 1 ∧ (linkOf u link).pair = false) ∧
      ((f.getLsbD 0 || f.getLsbD 1) = true → (f.getLsbD 2 || f.getLsbD 3) = false →
        (linkOf u link).width = 1 ∧ (linkOf u link).pair = true) ∧
      ((f.getLsbD 0 || f.getLsbD 1) = true → (f.getLsbD 2 || f.getLsbD 3) = true → (linkOf u link).width = (linkOf s link).width))) ∧
  (∀ (link : LinkId) (lane : Fin 4) (height width : Half) (ser : Word) (admission : Bool) (s : State),
    let a : LaneState := { tget LaneState.zero (linkOf s link).lanes lane with height := height.toNat, width := width.toNat, ser := ser }
    let lanes := tmod LaneState.zero (linkOf s link).lanes lane (fun a => { a with height := height.toNat, width := width.toNat, ser := ser })
    ((laneFailed a = true ∨ (admission = true ∧ laneAdmitted a = false)) → (linkOf s link).failed.getLsbD lane = false →
      Runs (.eyeMeasurement link lane height width ser admission) s (fun u => (linkOf u link).width = 0 ∧
        (linkOf u link).failed = (linkOf s link).failed ||| (1 <<< lane.val))) ∧
    (laneFailed a = false → laneSound a = true → admission = false →
      Runs (.eyeMeasurement link lane height width ser admission) s (fun u =>
        linkOf u link = { linkOf s link with lanes := lanes })) ∧
    (laneFailed a = false → laneSound a = true → admission = true → s.pin.linkref = true → (linkOf s link).miscabled = false →
      (linkOf s link).width ≠ 2 → (∀ i : Fin 4, laneAdmitted (tget LaneState.zero lanes i) = true) →
      Runs (.eyeMeasurement link lane height width ser admission) s (fun u =>
        (linkOf u link).width = 2 ∧ (linkOf u link).failed = 0 ∧ (linkOf u link).testTick = none))) ∧
  (∀ (down : List LinkId) (s : State), s.pin.stage = 4 → Runs (.laneTraining down) s (fun u => u.pin.stage = 5 ∧
    ∀ l : LinkId, (linkOf u l).width = (if l ∈ down ∨ s.pin.linkref = false then 0 else 2) ∧ (linkOf u l).failed = 0))

/-- Each command that only reports state, where Eomet admits it and its operands are in range, leaves on its port the final OK
response with its opcode, the request's tag, the counter frame and its body: the identity block, the status page's words,
event records, settings, a transaction's state, arrays' words, the ledger's head, a stack's counters, numerics entries,
context entries, link, Lake and power blocks, a filter, the certificate, the plans' identifiers, health records, counters,
port windows, and the dump ring. (R40, R110, R149, R188, R322, R380, R406, R412, R475, R480, R506, R513) -/
def Obligations.QueriesAnswerFromTheState : Prop :=
  ∀ (r : Req) (tile : TileId) (mask first16 count lake idx : Half) (ids : List Word) (first : Word) (st kind first8 count8 slot : Byte)
    (lmask : DWord) (s : State) (c : Instr) (opcode : Nat) (fits : Prop) (body : List Byte),
    (c, opcode, fits, body) ∈ [
      (.identity r, 0x0101, True, identityBlock s),
      (.runStatus r, 0x0102, True, statusWords s.fr.page),
      (.eventRead r first count, 0x0105, 1 ≤ count.toNat ∧ count.toNat ≤ 500, (recordsFrom s first.toNat count.toNat).flatMap eventBytes),
      (.settingGet r ids, 0x0107, (0 < ids.length ∧ ids.length ≤ 1024) ∧ ∀ i ∈ ids, (settingRow i.toNat).isSome = true,
        ids.flatMap (fun i => settingBytes s i.toNat)),
      (.arrayStatus r tile mask, 0x0201, True, ((List.range 16).filter (fun a => bitOf mask a)).flatMap (fun a =>
        bytesLE 8 (arrOf s (arrKey tile a)).cond.toNat ++ bytesLE 8 (programmingStatus (arrOf s (arrKey tile a))).toNat)),
      (.ledgerHead r, 0x0202, True, bytesLE 6 (s.led.latest.getD 0) ++ s.led.digest),
      (.memoryStatus r st, 0x0304, st.toNat < 8, bytesLE 8 (stackOf s st.toNat).corrections ++
        bytesLE 8 (stackOf s st.toNat).uncorrectables ++ bytesLE 8 (stackOf s st.toNat).scrub ++ bytesLE 8 (stackOf s st.toNat).journalHigh),
      (.numericsState r kind first count, 0x0401, 0 < count.toNat ∧ first.toNat + count.toNat ≤ (numericsPart s kind.toNat).1 ∧
        numericsSize kind.toNat * count.toNat ≤ 32640,
        (List.range count.toNat).flatMap (fun i => (numericsPart s kind.toNat).2 (first.toNat + i))),
      (.contextRead r first count, 0x0411, hasContexts s = true ∧ 1 ≤ count.toNat ∧ count.toNat ≤ 500 ∧
        first.toNat + count.toNat ≤ 262144, (List.range count.toNat).flatMap (fun i => entryBytes s (first.toNat + i))),
      (.linkStatus r lmask, 0x0501, lmask.toNat < 2 ^ 48,
        ((List.range 48).filter (fun l => bitOf lmask l)).flatMap (fun l => linkBytes (shadowOf s) l)),
      (.queueStatus r lake, 0x0502, lake.toNat < 258, lakeBytes (shadowOf s) lake.toNat),
      (.powerStatus r kind idx, 0x0601, powerBlock (shadowOf s) kind.toNat idx.toNat = some body, body),
      (.aomFilterRead r slot, 0x0602, 1 ≤ slot.toNat ∧ slot.toNat ≤ 32, bytesLE 128 (filterAt s slot.toNat).toNat),
      (.identityCert r, 0x0704, True, Config.identityCert),
      (.planStatus r, 0x0803, True, bytesLE 4 (planIdOf s.plan.loaded) ++ bytesLE 4 (planIdOf s.plan.staged) ++
        bytesLE 4 s.fr.pos.toNat ++ bytesLE 4 s.fr.step.toNat),
      (.healthRead r kind first16 count, 0x0901, 0 < count.toNat ∧ first16.toNat + count.toNat ≤ unitCount kind.toNat ∧
        (if kind.toNat = 1 then 320 else 64) * count.toNat ≤ 32640,
        (List.range count.toNat).flatMap (fun i => healthBytes s ⟨kind.toNat, first16.toNat + i⟩)),
      (.counterRead r kind first16 count, 0x0A02, blocksExist kind.toNat first16.toNat count.toNat = true,
        (namedBlocks kind.toNat first16.toNat count.toNat).flatMap (fun b =>
          counterBytes (shadowOf s).tele b ++ configBytes (shadowOf s).tele b)),
      (.bandwidthRead r first8 count8, 0x0A06, 1 ≤ count8.toNat ∧ first8.toNat + count8.toNat ≤ 128,
        (List.range count8.toNat).flatMap (fun i => portEntry (tget PortWindow.zero (shadowOf s).tele.ports (first8.toNat + i)))),
      (.dumpStatus r, 0x0A07, True, (s.cnt.ring.map (fun g => bufferBytes g.addr g.length ++ ringHeader g)).getD (List.replicate 80 0))] →
    fits → Admitted s r opcode → Runs c s (fun u => Answered u r (okResponse s r opcode [] body))

/-- Where admitted: SETTING_SET of a value in range, neither live nor held, stages it from the next tick that is 20 µs away.
TXN_BEGIN with fewer than four open gives the next identifier, open to its owner. TXN_STAGE of the owner's open transaction
takes all the pairs, TXN_COMMIT makes it committed with its effect frame and stays open as a command, TXN_ROLLBACK closes it
and releases its settings; TXN_STATUS tells its owner the phase, the count and the frame. TXN_TIMEOUT rolls an open
transaction back with EV-0108. Each answer carries its readback digest. (R478, R480, R486, R487, R488, R489, R490) -/
def Obligations.SettingsAndTransactionsStageValues : Prop :=
  ∀ (r : Req) (id value txn : Word) (pairs : List (Word × Word)) (target : BitVec 48) (t : Txn) (s : State),
    (Admitted s r 0x0108 → stageFault id value = none → settingIsLive s id.toNat = false → holderOf s id.toNat = none →
      Runs (.settingSet r id value) s (fun u =>
        tfind u.eo.staged id.toNat = some { value := value, notBefore := nextTick s, txn := none, req := some r } ∧
        Answered u r (okResponse s r 0x0108 (readback 0x0108 r.tag (pairBytes [(id.toNat, value)])) []))) ∧
    (Admitted s r 0x0109 → openTxns s < 4 → Runs (.txnBegin r) s (fun u =>
      u.eo.nextTxn = s.eo.nextTxn + 1 ∧ tfind u.eo.txns s.eo.nextTxn =
        some { owner := portOwner r.port, phase := .opened, pairs := [], effect := 0, tickDone := false, commitReq := none } ∧
      Answered u r (okResponse s r 0x0109 (readback 0x0109 r.tag (bytesLE 4 s.eo.nextTxn)) (bytesLE 4 s.eo.nextTxn)))) ∧
    (txnOf s txn.toNat = some t → t.phase = .opened → t.owner = portOwner r.port →
      (Admitted s r 0x010A → (0 < pairs.length ∧ pairs.length ≤ 256) → pairsFault s txn.toNat pairs = none →
        (pairTable t.pairs pairs).length ≤ 256 → Runs (.txnStage r txn pairs) s (fun u =>
          txnOf u txn.toNat = some { t with pairs := pairTable t.pairs pairs } ∧
          Answered u r (okResponse s r 0x010A (readback 0x010A r.tag (pairBytes (pairTable [] pairs))) []))) ∧
      (Admitted s r 0x010B → canOpen s 0x010B = true → (target = 0 ∨ (nextTick s < target.toNat ∧ target.toNat ≤ now s + 2 ^ 24)) →
        Runs (.txnCommit r txn target) s (fun u =>
          txnOf u txn.toNat = some { t with
            phase := .committed, effect := if target = 0 then nextTick s else target.toNat, commitReq := some r } ∧
          u.eo.opened = s.eo.opened ++ [{ opcode := 0x010B, req := r, args := [txn.toNat] }])) ∧
      (Admitted s r 0x010C → Runs (.txnRollback r txn) s (fun u =>
        txnOf u txn.toNat = some { t with phase := .closed, pairs := [] } ∧
        Answered u r (okResponse s r 0x010C (readback 0x010C r.tag (bytesLE 4 txn.toNat)) []))) ∧
      Runs (.txnTimeout txn) s (fun u => txnOf u txn.toNat = some { t with phase := .closed, pairs := [] } ∧
        u.eo.staged = s.eo.staged ∧ u.eo.live = s.eo.live)) ∧
    (txnOf s txn.toNat = some t → t.owner = portOwner r.port → Admitted s r 0x010D → Runs (.txnStatus r txn) s (fun u =>
      Answered u r (okResponse s r 0x010D [] (bytesLE 1 (if t.phase = .opened then 1 else if t.phase = .committed then 2 else 3) ++
        bytesLE 2 t.pairs.length ++ bytesLE 6 t.effect))))

/-- With a context table and a context of it, where admitted: CONTEXT_LOAD of words in range for a context that is neither
generating nor stalled opens; CONTEXT_LOAD_DONE turns it into an order with the prompt's tokens as host memory holds them.
CONTEXT_WRITE and CONTEXT_RELEASE of such a context (a released one is not free), and CONTEXT_STOP of one that generates or
stalls, become orders of the next tick, in the order of their arrival. CONTEXT_TOKENS of positions that a context holds
opens; CONTEXT_TOKENS_DONE leaves the committed 16 bytes of each at the host address in turn, closes the command and answers
with the count. (R225, R227, R228, R229, R230, R477, R480) -/
def Obligations.ContextCommandsWaitForTheTick : Prop :=
  ∀ (r : Req) (context promptLen first count : Word) (host word8 word18 : DWord) (s : State),
    (hasContexts s = true → context.toNat < 262144 →
      (Admitted s r 0x0410 → canOpen s 0x0410 = true → promptLen.toNat ≤ 1048576 → wordsOk word8 word18 = true →
        contextLive s context.toNat = false → Runs (.contextLoad r context host promptLen word8 word18) s (fun u =>
          u.eo.opened = s.eo.opened ++
            [{ opcode := 0x0410, req := r, args := [context.toNat, host.toNat, promptLen.toNat, word8.toNat, word18.toNat] }])) ∧
      (Admitted s r 0x0412 → wordsOk word8 word18 = true → contextLive s context.toNat = false →
        Runs (.contextWrite r context word8 word18) s (fun u => u.ctx.orders = s.ctx.orders ++
          [{ opcode := 0x0412, context := context.toNat, req := some r, tokens := [], word8 := word8, word18 := word18 }])) ∧
      (Admitted s r 0x0413 → contextLive s context.toNat = true → Runs (.contextStop r context) s (fun u =>
        u.ctx.orders = s.ctx.orders ++
          [{ opcode := 0x0413, context := context.toNat, req := some r, tokens := [], word8 := 0, word18 := 0 }])) ∧
      (Admitted s r 0x0414 → contextLive s context.toNat = false → ctxState s context.toNat ≠ 0 →
        Runs (.contextRelease r context) s (fun u => u.ctx.orders = s.ctx.orders ++
          [{ opcode := 0x0414, context := context.toNat, req := some r, tokens := [], word8 := 0, word18 := 0 }])) ∧
      (Admitted s r 0x0415 → canOpen s 0x0415 = true → ctxState s context.toNat ≠ 0 → 1 ≤ count.toNat →
        first.toNat + count.toNat ≤ wordAt (entryBytes s context.toNat) 0 / 2 ^ 8 % 2 ^ 21 →
        Runs (.contextTokens r context first count host) s (fun u => u.eo.opened = s.eo.opened ++
          [{ opcode := 0x0415, req := r, args := [context.toNat, first.toNat, count.toNat, host.toNat] }]))) ∧
    (∀ c, openCommand s r 0x0410 = some c → s.ctx.orders.any (fun x => x.opcode == 0x0410 && x.req == some r) = false →
      Runs (.contextLoadDone r) s (fun u => u.ctx.orders = s.ctx.orders ++
        [{ opcode := 0x0410, context := c.args.getD 0 0, req := some r,
           tokens := (List.range (c.args.getD 2 0)).map (fun i => readLE s.mem.host (c.args.getD 1 0 + 4 * i) 4),
           word8 := BitVec.ofNat 64 (c.args.getD 3 0), word18 := BitVec.ofNat 64 (c.args.getD 4 0) }])) ∧
    (∀ c, openCommand s r 0x0415 = some c → Runs (.contextTokensDone r) s (fun u => u.eo.opened = s.eo.opened.erase c ∧
      Answered u r (okResponse s r 0x0415 [] (bytesLE 4 (c.args.getD 2 0))) ∧
      ∀ i < c.args.getD 2 0, ∀ a, tokenAddr s (c.args.getD 0 0) (c.args.getD 1 0 + i) = some a →
        hostBytes u (c.args.getD 3 0 + 16 * i) (committedBytes s a 16).length = committedBytes s a 16))

/-- Where admitted, with room for another of the opcode: an export of records that exist, a transfer of whole codewords in
usable memory, and a request for log entries open with their operands. When done: an export's records lie at the host
address, 8,192 bytes each, as committed; a transfer to the host leaves the committed bytes there; a transfer to the device
waits to take effect at the tick; the log's entries lie at the host address. Each but the transfer to the device is answered
with what was moved, and its command is closed. (R42, R144, R149, R413, R477, R480, R290) -/
def Obligations.ExportsAndTransfersReachHostMemory : Prop :=
  ∀ (r : Req) (frame : BitVec 48) (count first : Word) (host device length : DWord) (s : State),
    (Admitted s r 0x0203 → canOpen s 0x0203 = true → 1 ≤ count.toNat → count.toNat ≤ 65536 →
      recordsExist s frame.toNat count.toNat = true → Runs (.ledgerExport r frame count host) s (fun u =>
        u.eo.opened = s.eo.opened ++ [{ opcode := 0x0203, req := r, args := [frame.toNat, count.toNat, host.toNat] }])) ∧
    (Admitted s r 0x0303 → canOpen s 0x0303 = true → 0 < length.toNat → length.toNat % 64 = 0 →
      hbmUsable s device.toNat length.toNat = true →
      Runs (.hostTransferToHost r device host length) s (fun u =>
        u.eo.opened = s.eo.opened ++ [{ opcode := 0x0303, req := r, args := [0, device.toNat, host.toNat, length.toNat] }]) ∧
      Runs (.hostTransferToDevice r device host length) s (fun u =>
        u.eo.opened = s.eo.opened ++ [{ opcode := 0x0303, req := r, args := [1, device.toNat, host.toNat, length.toNat] }])) ∧
    (Admitted s r 0x0902 → canOpen s 0x0902 = true → count ≠ 0 → Runs (.healthLog r first count host) s (fun u =>
      u.eo.opened = s.eo.opened ++ [{ opcode := 0x0902, req := r, args := [first.toNat, count.toNat, host.toNat] }])) ∧
    (∀ c ring, openCommand s r 0x0203 = some c → s.plan.loaded.bind ledgerRing = some ring → Runs (.ledgerExportDone r) s (fun u =>
      u.eo.opened = s.eo.opened.erase c ∧ Answered u r (okResponse s r 0x0203 [] (bytesLE 4 (c.args.getD 1 0))) ∧
      ∀ i < c.args.getD 1 0, let d := committedBytes s (recordAddr ring (c.args.getD 0 0 + i)) 8192
        hostBytes u (c.args.getD 2 0 + 8192 * i) d.length = d)) ∧
    (∀ c poisoned, openCommand s r 0x0303 = some c → Runs (.hostTransferDone r poisoned) s (fun u =>
      (c.args.getD 0 0 = 0 → u.eo.opened = s.eo.opened.erase c ∧
        Answered u r (okResponse s r 0x0303 [] (bytesLE 8 (c.args.getD 3 0))) ∧
        let d := committedBytes s (c.args.getD 1 0) (c.args.getD 3 0)
        hostBytes u (c.args.getD 2 0) d.length = d) ∧
      (c.args.getD 0 0 ≠ 0 → u.eo.opened = s.eo.opened ∧ u.mem.landed = s.mem.landed ++
        [{ addr := c.args.getD 1 0, data := hostBytes s (c.args.getD 2 0) (c.args.getD 3 0), poisoned := poisoned, req := r }]))) ∧
    (∀ c, openCommand s r 0x0902 = some c → Runs (.healthLogDone r) s (fun u =>
      let es := (s.hl.log.drop (c.args.getD 0 0)).take (c.args.getD 1 0)
      u.eo.opened = s.eo.opened.erase c ∧ Answered u r (okResponse s r 0x0902 [] (bytesLE 4 es.length)) ∧
      hostBytes u (c.args.getD 2 0) (es.flatMap logBytes).length = es.flatMap logBytes))

/-- Where admitted and in range: OFFLOAD_REGISTER (no plan that places host DMA) and DUMP_REGISTER keep their buffer, the latter
as an empty ring with its record size; OFFLOAD_RELEASE (no plan runs) and DUMP_RELEASE drop it. COUNTER_CONFIG and
COUNTER_CLEAR stage every counter they name for the next tick that is 20 µs away. AOM_FILTER_LOAD of a valid filter that
fits, and AOM_FILTER_REMOVE, of a slot that is not protected, are staged for the tick. EVENT_ACK acknowledges every record
up to its number. Each is answered OK with the readback digest of what it changed. (R215, R409, R473, R478, R482, R492,
R508, R512, R515, R519, R520) -/
def Obligations.RegistrationsAndConfigurationsAreKept : Prop :=
  ∀ (r : Req) (host length : DWord) (kind mask slot : Byte) (first count : Half) (words : List Half) (filter : BitVec 1024) (seq : Word)
    (s : State),
    (Admitted s r 0x0301 → placesHostDma s = false → host.toNat % 64 = 0 → 0 < length.toNat → length.toNat % 4160 = 0 →
      Runs (.offloadRegister r host length) s (fun u => u.ctx.offload = some (host.toNat, length.toNat) ∧
        Answered u r (okResponse s r 0x0301 (readback 0x0301 r.tag (bufferBytes host.toNat length.toNat)) []))) ∧
    (Admitted s r 0x0302 → planRuns s = false → Runs (.offloadRelease r) s (fun u => u.ctx.offload = none ∧
      Answered u r (okResponse s r 0x0302 (readback 0x0302 r.tag (bufferBytes 0 0)) []))) ∧
    (Admitted s r 0x0A04 → host.toNat % 4096 = 0 → 64 + 2 * dumpSize (dumpSections s) ≤ length.toNat →
      Runs (.dumpRegister r host length) s (fun u =>
        u.cnt.ring = some { addr := host.toNat, length := length.toNat, written := 0, sequence := 0, base := 0,
                            size := dumpSize (dumpSections s), dropped := 0 } ∧
        Answered u r (okResponse s r 0x0A04 (readback 0x0A04 r.tag (bufferBytes host.toNat length.toNat))
          (bytesLE 4 (dumpSize (dumpSections s)) ++ bytesLE 4 (dumpSlots length.toNat (dumpSize (dumpSections s))))))) ∧
    (Admitted s r 0x0A05 → Runs (.dumpRelease r) s (fun u => u.cnt.ring = none ∧
      Answered u r (okResponse s r 0x0A05 (readback 0x0A05 r.tag (bufferBytes 0 0))
        (bytesLE 4 ((s.cnt.ring.map DumpRing.written).getD 0))))) ∧
    (Admitted s r 0x0A01 → words.length = counterCount (blockOf kind.toNat 0) → blocksExist kind.toNat first.toNat count.toNat = true →
      words.all (configOk kind.toNat) = true → Runs (.counterConfig r kind first count words) s (fun u =>
        u.cnt.stagedConfig = s.cnt.stagedConfig ++ (namedBlocks kind.toNat first.toNat count.toNat).flatMap (fun b =>
          words.zipIdx.map (fun x => (nextTick s, counterKey b x.2, x.1))))) ∧
    (Admitted s r 0x0A03 → blocksExist kind.toNat first.toNat count.toNat = true → Runs (.counterClear r kind first count mask) s (fun u =>
      u.cnt.stagedClear = s.cnt.stagedClear ++ (namedBlocks kind.toNat first.toNat count.toNat).flatMap (fun b =>
        ((List.range (counterCount b)).filter (fun k => mask.getLsbD k)).map (fun k => (nextTick s, counterKey b k))))) ∧
    (Admitted s r 0x0603 → bitsOf filter 5 0 ∉ protectedSlots → 1 ≤ bitsOf filter 5 0 → bitsOf filter 5 0 ≤ 32 → filterOk filter = true →
      otherInstrs s (bitsOf filter 5 0) + ftCount filter ≤ 256 → Runs (.aomFilterLoad r filter) s (fun u =>
        u.aom.staged = s.aom.staged ++ [(bitsOf filter 5 0, some filter)] ∧
        Answered u r (okResponse s r 0x0603 (readback 0x0603 r.tag (bytesLE 128 filter.toNat)) []))) ∧
    (Admitted s r 0x0604 → slot.toNat ∉ protectedSlots → 1 ≤ slot.toNat → slot.toNat ≤ 32 → Runs (.aomFilterRemove r slot) s (fun u =>
      u.aom.staged = s.aom.staged ++ [(slot.toNat, none)])) ∧
    (Admitted s r 0x0106 → seq.toNat < s.ev.nextSeq.toNat → Runs (.eventAck r seq) s (fun u =>
      u.ev.acked = max s.ev.acked (seq.toNat + 1) ∧
      Answered u r (okResponse s r 0x0106 (readback 0x0106 r.tag (bytesLE 4 seq.toNat)) [])))

/-- Where admitted: FW_STAGE of 4,096 bytes to 8 MiB opens; FW_STAGE_DONE puts the image, its key, signature and hash into the
slot that is not active, and answers OK with the manifest if the slot verifies and SIGNATURE if not. FW_ACTIVATE of slot 0
or 1 with no plan running makes that slot the preferred one and the package takes a power-cycle reset. ATTEST, with a token
and a leaf left, uses one of each (a new reservation block where one is needed) and answers the report and its signature.
ATTEST_TOKEN_REFILL adds a token, up to 16. OWNER_KEY_SET of 8,192 bytes with no plan running installs the record's key and
counter if it is accepted, else changes no key and answers SIGNATURE. MGMT_KEY_SET installs the key; zero means none. (R482,
R495, R498, R500, R502, R503) -/
def Obligations.FirmwareKeysAndAttestation : Prop :=
  ∀ (r : Req) (host : DWord) (length : Word) (slot : Byte) (nonce key : BitVec 256) (record : List Byte) (s : State),
    (Admitted s r 0x0701 → canOpen s 0x0701 = true → 4096 ≤ length.toNat → length.toNat ≤ 8388608 →
      Runs (.fwStage r host length) s (fun u =>
        u.eo.opened = s.eo.opened ++ [{ opcode := 0x0701, req := r, args := [host.toNat, length.toNat] }])) ∧
    (∀ c, openCommand s r 0x0701 = some c → Runs (.fwStageDone r) s (fun u =>
      let f := slotImage s (c.args.getD 0 0) (c.args.getD 1 0)
      let m := imageManifest s (c.args.getD 0 0) (c.args.getD 1 0)
      tfind u.eo.fwSlots (idleSlot s) = some f ∧ u.eo.opened = s.eo.opened.erase c ∧ u.eo.fwPreferred = s.eo.fwPreferred ∧
      (slotVerifies f = true → Answered u r (okResponse s r 0x0701 (readback 0x0701 r.tag m) m)) ∧
      (slotVerifies f = false → Answered u r
        { opcode := 0x0701, status := .signature, tag := r.tag, final := true, frame := now s, digest := [], body := [] }))) ∧
    (Admitted s r 0x0702 → planRuns s = false → slot.toNat ≤ 1 → Runs (.fwActivate r slot) s (fun u =>
      u.eo.fwPreferred = (slot == 1) ∧ u.eo.fwSlots = s.eo.fwSlots ∧ u.pin.stage = 0 ∧ u.pin.enables = [] ∧ u.plan.loaded = none)) ∧
    (Admitted s r 0x0703 → s.eo.tokens ≠ 0 → (needsFuse s = true → s.eo.leafFuses < 16384) → Runs (.attest r nonce) s (fun u =>
      let v := if needsFuse s then blowFuse s else s
      u.eo.tokens = s.eo.tokens - 1 ∧
      u.eo.leaf = (if needsFuse s then 64 * s.eo.leafFuses else s.eo.leaf) + 1 ∧
      Answered u r (okResponse s r 0x0703 [] (attestReport v nonce v.eo.leaf ++ Config.hssSign v.eo.leaf (attestReport v nonce v.eo.leaf))))) ∧
    exec .attestTokenRefill s = .next { s with eo.tokens := min 16 (s.eo.tokens + 1) } ∧
    (Admitted s r 0x0705 → record.length = 8192 → planRuns s = false → Runs (.ownerKeySet r record) s (fun u =>
      (recordAccepted s record = true →
        let k := if recordKey record = List.replicate 60 0 then none else some (recordKey record)
        u.eo.ownerKey = k ∧ u.eo.ownerCounter = recordCounter record ∧
        Answered u r (okResponse s r 0x0705 (readback 0x0705 r.tag (keyDigest k)) [])) ∧
      (recordAccepted s record = false → u.eo.ownerKey = s.eo.ownerKey ∧ u.eo.ownerCounter = s.eo.ownerCounter ∧ Answered u r
        { opcode := 0x0705, status := .signature, tag := r.tag, final := true, frame := now s, digest := [], body := [] }))) ∧
    (Admitted s r 0x0706 → Runs (.mgmtKeySet r key) s (fun u =>
      let k := if key = 0 then none else some (bytesLE 32 key.toNat)
      u.eo.mgmtKey = k ∧ Answered u r (okResponse s r 0x0706 (readback 0x0706 r.tag (keyDigest k)) [])))

/-- PLAN_LOAD admitted outside a self-test: an image that the owner's key accepts and whose checks pass is loaded and prepares
under the rank it gives this package (now; no plan loaded), or is staged (at the boundary); an image that no owner's key
accepts changes neither and is answered SIGNATURE. PLAN_DISCARD drops the staged plan and answers OK. PLAN_LOAD_TIMEOUT of a
load that prepares or is prepared abandons it and floods ABORT with reason 255. PREPARATION_COMPLETE makes the package
prepared with the version counters at 0 and PREPARED flooded. PLAN_START in its frame runs the plan from position 0: its
first frame begins. (R169, R269, R270, R273, R482, R495) -/
def Obligations.PlansLoadPrepareAndStart : Prop :=
  ∀ (r : Req) (host length : DWord) (image : PlanImage) (s : State),
    (Admitted s r 0x0801 → canOpen s 0x0801 = true → s.pin.selftest = false →
      let v := fun (b : Bool) => 
        { accept s r 0x0801 [bitNat b, host.toNat, length.toNat, 0] (readback 0x0801 r.tag (imageManifest s host.toNat length.toNat)) with
          plan.loadReq := some r }
      let signed := ∃ key, s.eo.ownerKey = some key ∧ imageAccepted s key 2 host.toNat length.toNat = true
      let refused : Response :=
        { opcode := 0x0801, status := .signature, tag := r.tag, final := true, frame := now s, digest := [], body := loadBody 1 0 0 0 }
      (planLoaded s = false → Runs (.planLoadNow r host length image) s (fun u =>
        (signed → checkPlan (retireDue (v false)) image = none → u.plan.loaded = some image ∧ u.plan.stage = .preparing ∧
          u.plan.rank = some (imageRank s image) ∧ u.plan.manifest = imageManifest s host.toNat length.toNat ∧ u.plan.loadReq = some r) ∧
        (¬ signed → u.plan.loaded = s.plan.loaded ∧ u.plan.stage = s.plan.stage ∧ u.plan.loadReq = none ∧ Answered u r refused))) ∧
      Runs (.planLoadAtBoundary r host length image) s (fun u =>
        (signed → checkPlan (retireDue (v true)) image = none → u.plan.staged = some image ∧ u.plan.loaded = s.plan.loaded ∧
          u.plan.stagedManifest = imageManifest s host.toNat length.toNat ∧ u.plan.loadReq = some r) ∧
        (¬ signed → u.plan.staged = s.plan.staged ∧ u.plan.loadReq = none ∧ Answered u r refused))) ∧
    (∀ q, Admitted s r 0x0802 → s.plan.staged = some q → Runs (.planDiscard r) s (fun u =>
      u.plan.staged = none ∧ u.plan.stagedManifest = [] ∧ u.plan.loadReq = none ∧ u.plan.loaded = s.plan.loaded ∧
      Answered u r (okResponse s r 0x0802 [] []))) ∧
    (∀ p, s.plan.loaded = some p → s.plan.stage = .preparing ∨ s.plan.stage = .prepared → Runs .planLoadTimeout s (fun u =>
      u.plan.loaded = none ∧ u.plan.rank = none ∧ u.plan.stage = .idle ∧ u.plan.startFrame = none ∧ u.plan.loadReq = none ∧
      u.link.forward = s.link.forward ++
        [⟨{ kind := .abort, origin := imageRank s p, frame := 0, payload := (planId p).toNat + 255 * 2 ^ 32 }, liveLinks s⟩])) ∧
    (∀ p, s.plan.loaded = some p → s.plan.stage = .preparing → Runs .preparationComplete s (fun u =>
      u.plan.stage ∈ [LoadStage.prepared, LoadStage.starting] ∧ u.plan.rank.getD 0 ∈ u.plan.prepared ∧ u.fr.master = 0 ∧ u.fr.live = 0 ∧
      (SyncKind.prepared, s.plan.rank.getD 0, 0) ∈ u.link.seen)) ∧
    (∀ p k i, s.plan.loaded = some p → s.plan.stage = .starting → s.plan.startFrame = some (now s) → seqAt p 0 = some (k, i) →
      Runs .planStart s (fun u => u.plan.stage = .idle ∧ u.fr.run = .running ∧ u.fr.pos = 0 ∧ u.plan.loadReq = none ∧
        ∃ f, u.fr.running = some f ∧ f.index = 0 ∧ f.entry = k ∧ f.iteration = i ∧ f.started = now s ∧ f.replay = false))

/-- SCALE_OBSERVATION of a member not expelled keeps the observation and settles every index that is whole; settling applies the
combined observation only when every current member of the set and this package have reported. MIRROR_RECORD keeps the
record; MIRROR_TALLY before the 16th tick waits; then a referee of two or more members ends the round and floods an
expulsion for each member the verdict names. PREFETCH_COMPLETION of a block that passes its checks puts its 4,096 data bytes
at the destination; a failed or timed-out read is repeated once. OFFLOAD_WRITE puts the block's data, trailer and CRC into
the buffer and changes no other host byte. (R215, R217, R219, R220, R320, R429, R430) -/
def Obligations.ObservationsMirrorAndOffloadAct : Prop :=
  ∀ (rank : Rank) (frame maxIn maxAll : Word) (index : Half) (ovf qnt : Bool) (record : BitVec 512) (cyc block : Nat) (bytes : List Byte)
    (completed : Bool) (op : Fin 1048576) (s : State),
    (rank.val ∉ s.link.expelled → let o : SharedObs := ⟨rank.val, false, frame.toNat, index.toNat, ⟨maxIn, maxAll, ovf, qnt⟩⟩
      exec (.scaleObservation rank frame index maxIn maxAll ovf qnt) s =
        .next (settleAllShared { s with num.sharedIn := s.num.sharedIn ++ [o] })) ∧
    (∀ (i f : Nat) (own : SharedObs), (sharedWhole s i f = false → settleShared s i f = s) ∧
      (sharedWhole s i f = true → own ∈ sharedObs s i f → own.rank = s.plan.rank.getD 0 →
        let c := (sharedObs s i f).foldl (fun a x => combine a x.obs) Observation.none
        let warm := (sharedObs s i f).any (fun x => x.rank == s.plan.rank.getD 0 && x.warm)
        (settleShared s i f).num.sharedIn = s.num.sharedIn.filter (fun x => !(x.index == i && x.frame == f)) ∧
        (c.quantised = true → (settleShared s i f).num.scales = (applyObservation s i f warm c).num.scales))) ∧
    exec (.mirrorRecord record) s = .next { s with upd.mirrorRecords := s.upd.mirrorRecords ++
      [⟨bitsOf record 9 0, bitsOf record 31 16, bitsOf record 63 32, bitsOf record 95 64, bytesLE 32 (bitsOf record 511 256)⟩] } ∧
    (∀ own, s.upd.mirrorOwn = some own →
      (now s < s.upd.mirrorTick + 16 → exec (.mirrorTally cyc) s = .next (atCycle s cyc)) ∧
      (s.upd.mirrorTick + 16 ≤ now s → own.rank ∈ referees s → 1 < (groupMembers s).length → Runs (.mirrorTally cyc) s (fun u =>
        u.upd.mirrorOwn = none ∧ u.upd.mirrorRecords = s.upd.mirrorRecords.filter (fun x => x.count != own.count) ∧
        ∀ x ∈ mirrorVerdict (groupMembers s)
            (own :: s.upd.mirrorRecords.filter (fun x => x.group == own.group && x.count == own.count && x.rank != own.rank)),
          (expelFrame (atCycle s cyc) + 1, x.1) ∈ u.link.expelTargets))) ∧
    (∀ p, prefetchOf s block = some p →
      (blockPasses s p bytes = true → Runs (.prefetchCompletion block bytes true cyc) s (fun u =>
        u.ctx.prefetches = s.ctx.prefetches.filter (fun x => !(x == p)) ∧
        (p.toHbm = false → tileBytes u (p.dest / 2 ^ 23) (p.dest % 2 ^ 23) 4096 = bytes.take 4096) ∧
        (p.toHbm = true → s.mem.hbmPoison = [] → hbmBytes u p.dest 4096 = bytes.take 4096))) ∧
      (blockPasses s p bytes = false ∨ completed = false → Runs (.prefetchCompletion block bytes completed cyc) s (fun u =>
        u.ctx.prefetches = if p.reread then s.ctx.prefetches.filter (fun x => !(x == p))
          else s.ctx.prefetches.map (fun x => if x = p then { x with reread := true } else x))) ∧
      Runs (.prefetchTimeout block cyc) s (fun u =>
        u.ctx.prefetches = if p.reread then s.ctx.prefetches.filter (fun x => !(x == p))
          else s.ctx.prefetches.map (fun x => if x = p then { x with reread := true } else x))) ∧
    (∀ f t d addr len, s.fr.running = some f → runningDesc s op = some (t, d) → s.ctx.offload = some (addr, len) →
      (inFlight f op || isCompleted f op) = true → dsClass d = 4 → oprSpace d.d5 = 4 → f.replay = false →
      firstBlock t f d.d5 ≤ block → block < firstBlock t f d.d5 + blockCount d → 2400 ≤ cyc → 4160 * (block + 1) ≤ len →
      Runs (.offloadWrite op block cyc) s (fun u =>
        let data := placeBytes s ((placeOf s t f d d.d4).plus (4096 * (block - firstBlock t f d.d5))) 4096
        let produced := (Config.freeWord s.free).toNat + 2 ^ 32 * ((Config.freeWord (s.free + 1)).toNat % 65536)
        let b := blockBytes data (trailerHead block (dsTensor d) produced f.step (rankField s))
        hostBytes u (addr + 4160 * block) b.length = b ∧
        ∀ a n, a + n ≤ addr + 4160 * block ∨ addr + 4160 * block + b.length ≤ a → hostBytes u a n = hostBytes s a n))

/-- DROOP sets the tile's droop level to power.droop.level and marks its die; an episode begins where none ran; hold expiry and
each decay step lower it by one. PEAK_SAMPLE raises a die's level by 4, at most 15, above the limit, and below 95 % of it
lowers the level once 16 samples in a row lie below. AOM_THROTTLE_EXPIRY drops the levels of a slot whose condition no
longer holds. POWER_DOWN_SEQUENCE removes every rail that is on, drops its enables and power goods, leaves at most stage 2,
and a plan that runs halts; links have no width. (R445, R447, R459, R528) -/
def Obligations.DroopPeakAndPowerDown : Prop :=
  ∀ (tile : TileId) (slot : Fin 33) (core0 core1 core2 core3 other : Nat) (s : State),
    Runs (.droop tile) s (fun u =>
      (tileOf u tile).droop = setting s 0x00060105 ∧ (tileOf u tile).droopLow = true ∧ dieOf tile ∈ u.pow.droopNow ∧
      (tileOf u tile).droopEpisodes = (tileOf s tile).droopEpisodes + (if (tileOf s tile).droop = 0 then 1 else 0) ∧
      ∀ t : TileId, t ≠ tile → tileOf u t = tileOf s t) ∧
    ((tileOf s tile).droopLow = true → Runs (.droopHoldExpiry tile) s (fun u =>
      tileOf u tile = { tileOf s tile with droop := (tileOf s tile).droop - 1, droopLow := false } ∧
      ∀ t : TileId, t ≠ tile → tileOf u t = tileOf s t)) ∧
    ((tileOf s tile).droopLow = false → Runs (.droopDecayStep tile) s (fun u =>
      tileOf u tile = { tileOf s tile with droop := (tileOf s tile).droop - 1 } ∧
      ∀ t : TileId, t ≠ tile → tileOf u t = tileOf s t)) ∧
    Runs (.peakSample core0 core1 core2 core3 other) s (fun u => u.pow.otherPower = other ∧
      ∀ x ∈ [(0, core0), (1, core1), (2, core2), (3, core3)],
        let power : Int := x.2
        let level := tget 0 s.pow.peak x.1
        let below := tget 0 s.pow.peakBelow x.1
        (dieLimit4 s < 4 * power → tget 0 u.pow.peak x.1 = min 15 (level + 4) ∧ tget 0 u.pow.peakBelow x.1 = 0) ∧
        (4 * power ≤ dieLimit4 s → 400 * power < 95 * dieLimit4 s → below = 15 →
          tget 0 u.pow.peak x.1 = level - 1 ∧ tget 0 u.pow.peakBelow x.1 = 0) ∧
        (4 * power ≤ dieLimit4 s → 400 * power < 95 * dieLimit4 s → below ≠ 15 →
          tget 0 u.pow.peak x.1 = level ∧ tget 0 u.pow.peakBelow x.1 = below + 1) ∧
        (4 * power ≤ dieLimit4 s → 95 * dieLimit4 s ≤ 400 * power →
          tget 0 u.pow.peak x.1 = level ∧ tget 0 u.pow.peakBelow x.1 = 0)) ∧
    ((filterState s slot).last = false → exec (.aomThrottleExpiry slot) s =
      .next { s with pow.aomLevels := s.pow.aomLevels.filter (fun x => x.1 / 4 != slot.val) }) ∧
    (s.pin.poweringDown = true → Runs .powerDownSequence s (fun u =>
      u.pin.enables = [] ∧ u.pin.goods = [] ∧ u.pin.poweringDown = false ∧ u.pin.stage = min 2 s.pin.stage ∧
      u.pin.removed = downOrder.filter (fun g => s.pin.enables.contains g) ∧ (∀ l, l ∈ u.link.links → l.2.width = 0) ∧
      (s.plan.loaded.isSome = true → s.fr.run ≠ .ready → u.fr.run = .halted)))

/-- LD takes the least and the greatest of the inputs it names; MEAN the means of the last n samples of lo and hi; SCALE divides
by power.cap.watts; GT, LT and OUTSIDE compare with the filter's constants; RUN counts how long the condition has held at
this place; AND, OR and SAVE use the saved bit. Each moves to the next instruction and changes nothing outside the AOM.
AOM_SAMPLE takes the inputs in, ages the heartbeat by 10 µs and runs every slot: the filter's last condition is the one its
program ends with, and where it has become true a throttle sets its dies' levels, a shed sheds, and a power down begins.
(R459, R460, R492, R493) -/
def Obligations.MonitorProgramsAndSamples : Prop :=
  ∀ (i : Fin 4096) (inputs : List (Nat × Rat)) (cyc slot : Nat) (w : BitVec 1024) (s : State),
    let next := fun (a : AomState) => Host.Outcome.next (φ := Fault) (ρ := Refusal) { s with aom := { a with pc := s.aom.pc + 1 } }
    let f := filterState s s.aom.cur
    let keep := fun (g : FilterState) => tset FilterState.fresh s.aom.filters s.aom.cur g
    (ldInputs s i ≠ [] → Runs (.ld i) s (fun u =>
      (∃ lo hi m n, u = { s with aom := { s.aom with lo := lo, hi := hi, loFrom := m, hiFrom := n, pc := s.aom.pc + 1 } }) ∧
      u.aom.loFrom ∈ ldInputs s i ∧ u.aom.hiFrom ∈ ldInputs s i ∧
      u.aom.lo = aomInput s u.aom.loFrom ∧ u.aom.hi = aomInput s u.aom.hiFrom ∧
      ∀ j ∈ ldInputs s i, u.aom.lo ≤ aomInput s j ∧ aomInput s j ≤ u.aom.hi)) ∧
    (
      let xs := ((s.aom.lo, s.aom.hi) :: f.samples).take 1024
      exec (.mean i) s = next 
        { s.aom with lo := meanOf ((xs.take i).map Prod.fst), hi := meanOf ((xs.take i).map Prod.snd), filters := keep { f with samples := xs } }) ∧
    (
      let cap : Rat := ((setting s 0x00060101 : Int) : Rat)
      exec .scale s = next { s.aom with lo := s.aom.lo / cap, hi := s.aom.hi / cap }) ∧
    (i.val < 4 →
      exec (.gt i) s = next { s.aom with cond := aboveConst s.aom.hi (aomConst s i), decider := s.aom.hiFrom } ∧
      exec (.lt i) s = next { s.aom with cond := belowConst s.aom.lo (aomConst s i), decider := s.aom.loFrom } ∧
      ∀ c x, aomConst s i = .fin c → (aboveConst x (aomConst s i) = true ↔ c < x) ∧ (belowConst x (aomConst s i) = true ↔ x < c)) ∧
    (i.val < 3 → exec (.outside i) s = next
      { s.aom with
        cond := belowConst s.aom.lo (aomConst s i) || aboveConst s.aom.hi (aomConst s (i + 1)),
        decider := if belowConst s.aom.lo (aomConst s i) then s.aom.loFrom else s.aom.hiFrom }) ∧
    (
      let k := if s.aom.cond then tget 0 f.runs s.aom.pc + 1 else 0
      exec (.run i) s = next 
        { s.aom with cond := decide (0 < k) && decide (i.val ≤ k), filters := keep { f with runs := tset 0 f.runs s.aom.pc k } }) ∧
    exec .aomAnd s = next { s.aom with cond := s.aom.cond && f.saved } ∧
    exec .aomOr s = next { s.aom with cond := s.aom.cond || f.saved } ∧
    exec .save s = next { s.aom with filters := keep { f with saved := s.aom.cond } } ∧
    (
      let v := takeSamples (atCycle s cyc) inputs
      exec (.aomSample inputs cyc) s = .next (s.aom.slots.foldl (fun s x => runFilter s x.1 x.2) v) ∧
      v.pin.heartbeatAge = s.pin.heartbeatAge + 10 ∧
      ((inputs.map Prod.fst).Nodup → ∀ x ∈ inputs, tget 0 v.aom.inputs x.1 = x.2)) ∧
    (
      let prog := (List.range (ftCount w)).map (ftInstr w)
      let c := (prog.foldl aomInstr { s with aom.cur := slot, aom.pc := 0 }).aom.cond
      let d := { prog.foldl aomInstr { s with aom.cur := slot, aom.pc := 0 } with aom.cond := c }
      (∀ x ∈ prog, x.1 = 1 → ldInputs s x.2 ≠ []) → (filterState (runFilter s slot w) slot).last = c ∧
        (c = true → (filterState d slot).last = false → slot ≠ 8 →
          (ftAction w = 2 → ftBySource w = false → ∀ x : Fin 4, (ftDies w).testBit x = true →
            tget 0 (runFilter s slot w).pow.aomLevels (4 * slot + x) = ftLevel w) ∧
          (ftAction w = 3 → (runFilter s slot w).pow.shed = true) ∧
          (ftAction w = 4 → s.pin.poweringDown = false → (runFilter s slot w).pow.shed = true ∧
            (runFilter s slot w).pin.poweringDown = true)))

/-- EVENT_RAISE stores the record under the next number, or only counts it after 64 records of its code in the second; a charge
raises the unit's counter and enters the log. EVENT_RESEND sends every record not acknowledged, in groups of at most 16.
EVENT_SUPPRESSION_END ends a second of health time and stores a record for each code suppressed. HEALTH_FOLD saves the log
and the wear, or marks the failure. EOMET_HEARTBEAT resets the age; EOMET_RESTART ends requests in progress.
SNAPSHOT_COMPLETE completes the shadow; DUMP_RECORD_WRITE delivers record and header to host memory, or drops the record.
(R407, R408, R410, R413, R414, R466, R467, R473, R506, R515, R518) -/
def Obligations.EventsHealthAndDumpsAreKept : Prop :=
  ∀ (code : Half) (unit : UnitRef) (level : Fin 8) (ps : List DWord) (k : Fin 8) (counted nominal : Bool) (s : State),
    (tget 0 s.ev.counts code.toNat < 64 ∨ code = 0x0122 → Runs (.eventRaise code unit level ps none) s (fun u =>
      u.ev.ring.getLast? = some (eventRecord s code.toNat unit level.val 0 (ps.map BitVec.toNat)) ∧ u.ev.nextSeq = s.ev.nextSeq + 1 ∧
      tget 0 u.ev.counts code.toNat = tget 0 s.ev.counts code.toNat + 1)) ∧
    (64 ≤ tget 0 s.ev.counts code.toNat → code ≠ 0x0122 → exec (.eventRaise code unit level ps none) s =
      .next { s with ev.suppressed := tmod 0 s.ev.suppressed code.toNat (· + 1) }) ∧
    Runs (.eventRaise code unit level ps (some (k, counted, nominal))) s (fun u =>
      tget 0 (health u unit).counters k.val = satTo 65535 (tget 0 (health s unit).counters k.val + 1) ∧
      ∃ e ∈ u.hl.log, e.unit = unit ∧ e.counter = k.val ∧ e.counted = counted ∧ e.nominal = nominal ∧ e.code = code.toNat ∧ e.time = s.hl.time) ∧
    (s.ev.ring.length ≤ 8192 → Runs .eventResend s (fun u => u.ev = s.ev ∧ ∀ e ∈ s.ev.ring, s.ev.acked ≤ e.seq.toNat →
      ∃ dest port n auth, ∃ recs : List EventRec, e ∈ recs ∧ recs.length ≤ 16 ∧ OutMsg.events dest port n (recs.flatMap eventBytes) auth ∈ u.eo.outbox)) ∧
    Runs .eventSuppressionEnd s (fun u => u.hl.time = s.hl.time + 1 ∧ u.ev.counts = [] ∧ u.ev.suppressed = [] ∧
      u.ev.nextSeq = s.ev.nextSeq + BitVec.ofNat 32 s.ev.suppressed.length) ∧
    Runs (.healthFold false) s (fun u => u.hl.folded = s.hl.log.length ∧ u.hl.savedTime = s.hl.time ∧ u.hl.norFailing = false ∧
      ∀ x ∈ u.arrays, ∀ g ∈ x.2.groups, g.2.saved = g.2.wear ∧ g.2.mark = g.2.wear) ∧
    Runs (.healthFold true) s (fun u => u.hl.norFailing = true ∧ u.hl.norReported = true ∧ u.hl.folded = s.hl.folded) ∧
    exec .eometHeartbeat s = .next { s with pin.heartbeatAge := 0 } ∧
    (s.pin.watchdog = true → s.pin.restartDue = false → Runs .eometRestart s (fun u =>
      u.eo.opened = [] ∧ u.eo.peerOpen = [] ∧ u.eo.reassembly = [] ∧ u.eo.restarts = s.eo.restarts + 1 ∧ u.plan.loadReq = none ∧
      u.pin.watchdog = false ∧ u.pin.heartbeatAge = 0 ∧ u.eo.live = s.eo.live ∧ u.plan.loaded = s.plan.loaded)) ∧
    exec .snapshotComplete s = .next { s with cnt.shadow := s.cnt.shadow.map (fun x => { x with complete := true }) } ∧
    (∀ r x, s.cnt.ring = some r → s.cnt.shadow = some x → dumpDue s x.frame = true →
      let q := resizeRing r (dumpSize (dumpSections s))
      let rec_ := dumpRecord s x (dumpSections s) q.sequence
      let done := { q with written := q.written + 1, sequence := q.sequence + 1 }
      (x.complete = true → s.pin.pcieUp = true → Runs (.dumpRecordWrite true) s (fun u => u.cnt.ring = some done ∧
        hostBytes u r.addr 64 = ringHeader done ∧ hostBytes u (r.addr + 64 + dumpSlot q * q.size) rec_.length = rec_)) ∧
      Runs (.dumpRecordWrite false) s (fun u =>
        u.cnt.ring = some { q with sequence := q.sequence + 1, dropped := q.dropped + 1 } ∧ u.mem.host = s.mem.host))

/-- Where Eomet serves: DOORBELL of a free slot opens the request that its buffer holds, of a known opcode, a fitting length and
no refusal; of an unknown opcode it answers BAD_OPCODE; of a slot whose request is open it only counts. REGISTER_WRITE into
a slot's request half stores the bytes there; a write of 8 bytes to a doorbell rings it. MGMT_DATAGRAM that is no request,
or arrives before stage 2, starts nothing; a request of one fragment with the right auth field opens under its number; one
fragment of several is kept; REASSEMBLY_TIMEOUT discards what is kept. PEER_REQUEST opens up to 8 of a rank; a further one
is answered BUSY. (R39, R468, R469, R470, R471, R472, R474) -/
def Obligations.RequestsArriveOnTheirPorts : Prop :=
  ∀ (slot : Fin 16) (off : BitVec 24) (data bytes : List Byte) (addr : Word) (udp : Half) (seq : Word) (rank : Rank) (s : State),
    let h := readBytes s.eo.buffers (0x10000 * slot.val) 32
    let op := headerOpcode bytes
    let free := (slotOf s slot).openReq = none ∧ s.eo.opened.any (fun c => c.req.port == .host slot) = false
    let hostReq : Req := { port := .host slot, tag := headerTag h, seq := 0 }
    let peerReq : Req := { port := .peer rank, tag := headerTag bytes, seq := 0 }
    let single := 32 ≤ (bytes.drop 32).length ∧ natLE ((bytes.drop 6).take 1) = 64 ∧ natLE ((bytes.drop 8).take 4) = seq.toNat ∧
      authField s (bytes.take 16 ++ bytes.drop 32) = (bytes.drop 16).take 16
    let msg := bytes.drop 32
    let mgmtReq : Req := { port := .mgmt addr udp, tag := headerTag msg, seq := seq }
    ((2 ≤ s.pin.stage ∨ s.pin.recovery = true) → free →
      (refusal s hostReq (headerOpcode h) = none → lengthFits (headerOpcode h) (headerLength h) = some true →
        Runs (.doorbell slot) s (fun u => (slotOf u slot).openReq = some (headerOpcode h) ∧ u.pin.pcieUp = true ∧ u.eo.opened = s.eo.opened)) ∧
      (refusal s hostReq (headerOpcode h) = none → lengthFits (headerOpcode h) (headerLength h) = none →
        Runs (.doorbell slot) s (fun u => (slotOf u slot).openReq = none ∧ (slotOf u slot).done = (slotOf s slot).done + 1 ∧
          Answered u hostReq ⟨headerOpcode h, .badOpcode, headerTag h, true, now s, [], []⟩))) ∧
    ((2 ≤ s.pin.stage ∨ s.pin.recovery = true) → (slotOf s slot).openReq.isSome = true →
      Runs (.doorbell slot) s (fun u => u.eo.ignoredDoorbells = s.eo.ignoredDoorbells + 1 ∧ u.eo.slots = s.eo.slots)) ∧
    (∀ o, o + data.length ≤ 0x8000 → off.toNat = 0x20000 + 0x10000 * slot.val + o → exec (.registerWrite off data) s =
      .next { s with pin.pcieUp := true, eo.buffers := writeBytes s.eo.buffers (0x10000 * slot.val + o) data }) ∧
    (off.toNat = 0x10000 + 8 * slot.val → data.length = 8 → exec (.registerWrite off data) s = exec (.doorbell slot) s) ∧
    (s.pin.stage < 2 → s.pin.recovery = false → exec (.mgmtDatagram addr udp bytes) s = .next s) ∧
    ((2 ≤ s.pin.stage ∨ s.pin.recovery = true) →
      (isRequest bytes = false → exec (.mgmtDatagram addr udp bytes) s = .next (portBytes s 126 bytes.length)) ∧
      (isRequest bytes = true → single → reassemblyOf s addr udp seq = ⟨addr, udp, seq, [], none⟩ →
        (sourceOf s addr udp).answered = [] → seq ∉ (sourceOf s addr udp).opened →
        (s.eo.sources.map (fun x => x.opened.length)).foldl (· + ·) 0 < 32 → refusal s mgmtReq (headerOpcode msg) = none →
        lengthFits (headerOpcode msg) (headerLength msg) = some true →
        Runs (.mgmtDatagram addr udp bytes) s (fun u => seq ∈ (sourceOf u addr udp).opened ∧
          u.eo.reassembly = otherParts s addr udp seq)) ∧
      (isRequest bytes = true → natLE ((bytes.drop 6).take 1) < 64 → natLE ((bytes.drop 8).take 4) = seq.toNat →
        authField s (bytes.take 16 ++ bytes.drop 32) = (bytes.drop 16).take 16 → (reassemblyOf s addr udp seq).last = none →
        Runs (.mgmtDatagram addr udp bytes) s (fun u => u.eo.reassembly = otherParts s addr udp seq ++
          [{ reassemblyOf s addr udp seq with
            parts := tput (reassemblyOf s addr udp seq).parts (natLE ((bytes.drop 6).take 1)) (bytes.drop 32) }]))) ∧
    exec (.reassemblyTimeout addr udp seq) s = .next { s with eo.reassembly := otherParts s addr udp seq } ∧
    ((2 ≤ s.pin.stage ∨ s.pin.recovery = true) → 32 ≤ bytes.length → bytes.length ≤ 32768 →
      (tget 0 s.eo.peerOpen rank.val < 8 → refusal s peerReq op = none → lengthFits op (headerLength bytes) = some true →
        Runs (.peerRequest rank bytes) s (fun u => tget 0 u.eo.peerOpen rank.val = tget 0 s.eo.peerOpen rank.val + 1 ∧
          u.link.messages = s.link.messages)) ∧
      (8 ≤ tget 0 s.eo.peerOpen rank.val → Runs (.peerRequest rank bytes) s (fun u =>
        Answered u peerReq ⟨op, .busy, headerTag bytes, true, now s, [], []⟩)))

/-- SELFTEST admitted while no plan runs and no self-test is in progress opens and begins at tile 0 with both counts at 0.
SELFTEST_TILE while the test has tiles left clears the tile's memory and Lake, counts a permanent failure for each of the
tile's units that failed at nominal conditions and a marginal one for each that failed only at margin, and moves to the next
tile. SELFTEST_DONE after the last tile ends the test; with no plan load waiting, the command that asked is closed and
answered OK with both counts. (R424, R425, R426, R482) -/
def Obligations.SelftestsTestTilesAndAnswer : Prop :=
  ∀ (r : Req) (nominalFails marginFails : List UnitRef) (s : State),
    (Admitted s r 0x0903 → canOpen s 0x0903 = true → planRuns s = false → s.pin.selftest = false → Runs (.selftest r) s (fun u =>
      u.pin.selftest = true ∧ u.pin.selftestTile = 0 ∧ u.pin.selftestPermanent = 0 ∧ u.pin.selftestMarginal = 0 ∧
      u.eo.opened = s.eo.opened ++ [{ opcode := 0x0903, req := r, args := [] }])) ∧
    (s.pin.selftest = true → s.pin.selftestTile < 256 → Runs (.selftestTile nominalFails marginFails) s (fun u =>
      let t := s.pin.selftestTile
      u.pin.selftest = true ∧ u.pin.selftestTile = t + 1 ∧
      u.pin.selftestPermanent = s.pin.selftestPermanent + (selftestUnits t).countP (fun x => nominalFails.contains x) ∧
      u.pin.selftestMarginal = s.pin.selftestMarginal +
        (selftestUnits t).countP (fun x => marginFails.contains x && !(nominalFails.contains x)) ∧
      (∀ a, a / 2 ^ 23 = t → tfind u.mem.tile a = none) ∧ (∀ a, a / 2 ^ 23 ≠ t → tfind u.mem.tile a = tfind s.mem.tile a) ∧
      tget LakeState.fresh u.lakes t = LakeState.fresh)) ∧
    (s.pin.selftest = true → s.pin.selftestTile = 256 → s.plan.staged = none → Runs .selftestDone s (fun u =>
      u.pin.selftest = false ∧ ∀ c, openOnce s 0x0903 = some c → u.eo.opened = s.eo.opened.erase c ∧
        Answered u c.req ⟨0x0903, .ok, c.req.tag, true, now s, [],
          bytesLE 2 s.pin.selftestPermanent ++ bytesLE 2 s.pin.selftestMarginal⟩))

/-- STOP with mode 0, of a position of the running plan that has not begun, keeps the position to halt at; with mode 1, while a
plan runs, the package expels its own rank: EXPEL stands for the expulsion tick; each is answered OK with the tick. RESET
while no plan runs: the warm kind drops the plan and what is open, keeps the stacks' contents, host memory, the keys and the
firmware, loads the default filters and leaves at most stage 3; the power cycle also drops the stacks' contents and every
enable, and begins at stage 0 with the boot filters. (R432, R482, R486, R496, R499, R528) -/
def Obligations.StopsAndResets : Prop :=
  ∀ (r : Req) (pos : Word) (cyc : Nat) (s : State),
    (Admitted s r 0x0103 → planRuns s = true → firstUnbegun s ≤ pos.toNat → pos.toNat < loadedFrames s →
      Runs (.stopAtPosition r pos) s (fun u => u.fr.stopAt = some pos.toNat ∧ u.fr.run = s.fr.run ∧
        let halt := bytesLE 6 (beginFrameOf s pos.toNat)
        Answered u r (okResponse s r 0x0103 (readback 0x0103 r.tag halt) halt))) ∧
    (Admitted s r 0x0103 → planRuns s = true → Runs (.stopNow r cyc) s (fun u =>
      (∀ k, s.plan.rank = some k → ((if cyc + 19200 ≤ 120000 then now s + 1 else now s + 2), k) ∈ u.link.expelTargets) ∧
      (∀ f, s.fr.running = some f → ∃ g, u.fr.running = some g ∧ 3 ≤ g.level) ∧ ∃ halt,
      Answered u r (okResponse s r 0x0103 (readback 0x0103 r.tag halt) halt))) ∧
    (Admitted s r 0x0104 → planRuns s = false → Runs (.resetWarm r) s (fun u =>
      u.plan = State.reset.plan ∧ u.fr = State.reset.fr ∧ u.eo.opened = [] ∧ u.ctx = State.reset.ctx ∧ u.aom.slots = defaultFilters ∧
      u.mem.hbm = s.mem.hbm ∧ u.mem.hbmPoison = s.mem.hbmPoison ∧ u.mem.host = s.mem.host ∧ u.cells = s.cells ∧
      u.eo.ownerKey = s.eo.ownerKey ∧ u.eo.fwSlots = s.eo.fwSlots ∧ u.eo.tokens = s.eo.tokens ∧
      u.pin.enables = s.pin.enables ∧ u.pin.goods = s.pin.goods ∧
      u.pin.stage = if 2 ≤ s.pin.stage ∧ allGood s = true then 3 else min 2 s.pin.stage)) ∧
    (Admitted s r 0x0104 → planRuns s = false → Runs (.resetPowerCycle r) s (fun u =>
      u.plan = State.reset.plan ∧ u.fr = State.reset.fr ∧ u.eo.opened = [] ∧ u.ctx = State.reset.ctx ∧ u.aom.slots = bootFilters ∧
      u.mem.hbm = [] ∧ u.mem.host = s.mem.host ∧ u.cells = s.cells ∧ u.eo.ownerKey = s.eo.ownerKey ∧ u.eo.fwSlots = s.eo.fwSlots ∧
      u.pin.stage = 0 ∧ u.pin.enables = [] ∧ u.pin.goods = [] ∧
      u.pin.removed = downOrder.filter (fun g => s.pin.enables.contains g)))

/-- PCIE_LINK_DOWN completes in every state and takes the link down. While a plan that places host DMA is loaded, in whatever
frame, the package escalates to L3: EV-0121 is raised with level 3 (stored if fewer than 64 of its code were in the second),
a running plan frame has level 3, and EXPEL of the package's own rank stands for the expulsion tick. (R222) -/
def Obligations.LinkDownEscalates : Prop :=
  ∀ (cyc : Nat) (s : State),
    Runs (.pcieLinkDown cyc) s (fun u => u.pin.pcieUp = false ∧
      (placesHostDma s = true →
        (tget 0 s.ev.counts 0x0121 < 64 → ∃ e ∈ u.ev.ring, e.code = 0x0121 ∧ e.level = 3 ∧ e.unit = unitPackage ∧ e.frame = now s) ∧
        (∀ f, s.fr.running = some f → ∃ g, u.fr.running = some g ∧ 3 ≤ g.level) ∧
        (∀ r, s.plan.rank = some r → (if cyc + 19200 ≤ 120000 then now s + 1 else now s + 2, r) ∈ u.link.expelTargets)))

/-- D3HOT_ENTRY acts as PCIE_LINK_DOWN does. As R470 gives a link-down: every host slot has no open request and DONE 0, no
accepted command of the host is left, so its DMA has stopped, and no transaction of the host is open; what those requests
did to memory stands. While a plan places host DMA it escalates to L3 as R222 gives it. (R535) -/
def Obligations.D3hotIsALinkDown : Prop :=
  ∀ (cyc : Nat) (s : State),
    exec (.d3hotEntry cyc) s = exec (.pcieLinkDown cyc) s ∧
    Runs (.d3hotEntry cyc) s (fun u => u.pin.pcieUp = false ∧
      (∀ x ∈ u.eo.slots, x.2.openReq = none ∧ x.2.done = 0) ∧ (∀ c ∈ u.eo.opened, fromHost c.req = false) ∧
      (∀ id t, txnOf s id = some t → t.owner = .host → ∀ t', txnOf u id = some t' → t'.phase ≠ .opened) ∧
      u.mem.hbm = s.mem.hbm ∧ u.mem.host = s.mem.host ∧
      (placesHostDma s = true →
        (tget 0 s.ev.counts 0x0121 < 64 → ∃ e ∈ u.ev.ring, e.code = 0x0121 ∧ e.level = 3 ∧ e.unit = unitPackage ∧ e.frame = now s) ∧
        (∀ f, s.fr.running = some f → ∃ g, u.fr.running = some g ∧ 3 ≤ g.level) ∧
        (∀ r, s.plan.rank = some r → (if cyc + 19200 ≤ 120000 then now s + 1 else now s + 2, r) ∈ u.link.expelTargets)))

/-- POWER_ON gives stage 0 with the plan and the stacks' memory at their reset values, the tensor cells and the firmware slots
kept, and the boot filters loaded. FIRMWARE_VERIFY at stage 0 boots the preferred slot when its image verifies at a high
enough security version, else the other slot when its image does, and enters recovery when neither does, raising EV-0701 if
fewer than 64 of it are in the second. EOMET_START takes stage 1 to 2 and loads the default filters; HBM_TRAINING takes
stage 3 to 4; BOOT_COMPLETE at stage 5 gives stage 6, RUN_STATE 0, the self-test in progress and the security fuses at the
larger version. RAIL_GROUP_ENABLE raises the group's enables where the AOM may. POWER_GOOD_ASSERT of an enabled group
records it; the last one at stage 2 gives stage 3 and releases FAULT_N. POWER_GOOD_TIMEOUT removes the rails, asserts
FAULT_N and leaves standby, with EV-0615; POWER_GOOD_LOSS starts the power down with FAULT_N and EV-0616; PG_AON_LOSS drops
every enable and the plan. The condition mayEnable is the model's reading of R499, R527, R529 and R532 (assumption 33).
(R424, R497, R498, R499, R527, R529) -/
def Obligations.TheBootVerifiesPowersAndCompletes : Prop :=
  ∀ (g : RailGroup) (cyc : Nat) (s : State),
    Runs .powerOn s (fun u => u.pin.stage = 0 ∧ u.pin.pgAon = true ∧ u.plan = State.reset.plan ∧ u.fr = State.reset.fr ∧ u.mem.hbm = [] ∧
      u.cells = s.cells ∧ u.eo.fwSlots = s.eo.fwSlots ∧ u.eo.fwPreferred = s.eo.fwPreferred ∧ u.eo.ownerKey = s.eo.ownerKey ∧
      u.aom.slots = bootFilters) ∧
    (s.pin.stage = 0 → s.pin.pgAon = true → s.pin.recovery = false → Runs .firmwareVerify s (fun u =>
      let refused := fun (sl : Bool) => ∀ f, tfind s.eo.fwSlots (bitNat sl) = some f →
        slotVerifies f = false ∨ slotSecurity f < s.eo.otpSecurity
      let boots := fun (sl : Bool) => ∀ f, tfind s.eo.fwSlots (bitNat sl) = some f → slotVerifies f = true →
        s.eo.otpSecurity ≤ slotSecurity f →
        u.pin.stage = 1 ∧ u.pin.recovery = false ∧ u.eo.fwActive = sl ∧ u.eo.fwVersion = imageVersion f ∧ u.eo.fwSecurity = slotSecurity f
      boots s.eo.fwPreferred ∧ (refused s.eo.fwPreferred → boots (!s.eo.fwPreferred)) ∧
      (refused s.eo.fwPreferred → refused (!s.eo.fwPreferred) → u.pin.stage = 0 ∧ u.pin.recovery = true ∧
        (tget 0 s.ev.counts 0x0701 < 64 → ∃ e ∈ u.ev.ring, e.code = 0x0701)))) ∧
    (s.pin.stage = 1 → exec .eometStart s = .next { s with pin.stage := 2, pin.heartbeatAge := 0, aom.slots := defaultFilters }) ∧
    (s.pin.stage = 3 → exec .hbmTraining s = .next { s with pin.stage := 4 }) ∧
    (s.pin.stage = 5 → Runs .bootComplete s (fun u => u.pin.stage = 6 ∧ u.fr.run = .ready ∧ u.pin.selftest = true ∧
      u.pin.selftestTile = 0 ∧ u.eo.otpSecurity = max s.eo.otpSecurity s.eo.fwSecurity)) ∧
    (mayEnable s g = true → exec (.railGroupEnable g) s = .next
      { s with pin.enables := s.pin.enables ++ (groupsWith g).filter (fun x => !(s.pin.enables.contains x)) }) ∧
    (s.pin.enables.contains g = true → s.pin.goods.contains g = false →
      Runs (.powerGoodAssert g) s (fun u => u.pin.goods = s.pin.goods ++ [g] ∧ u.pin.enables = s.pin.enables ∧
        (if s.pin.stage = 2 ∧ downOrder.all (fun x => (s.pin.goods ++ [g]).contains x) = true then
          u.pin.stage = 3 ∧ u.pin.faultN = false ∧ u.mem.tile = [] ∧ u.lakes = [] else u.pin.stage = s.pin.stage ∧ u.mem = s.mem)) ∧
      Runs (.powerGoodTimeout g) s (fun u => u.pin.enables = [] ∧ u.pin.goods = [] ∧ u.pin.faultN = true ∧ u.pin.standbyFault = true ∧
        u.pin.removed = downOrder.filter (fun x => s.pin.enables.contains x))) ∧
    (s.pin.goods.contains g = true → s.pin.poweringDown = false → Runs (.powerGoodLoss g cyc) s (fun u =>
      u.pin.poweringDown = true ∧ u.pow.shed = true ∧ u.pin.faultN = true ∧ u.pin.goods = s.pin.goods.erase g)) ∧
    Runs .pgAonLoss s (fun u => u.pin.pgAon = false ∧ u.pin.enables = [] ∧ u.pin.goods = [] ∧ u.pin.stage = 0 ∧
      u.plan = State.reset.plan ∧ u.ev = State.reset.ev)

/-- SYS_RST_N_LOW removes every rail, releases THERMTRIP_N and, while a plan runs in a package with a rank, expels that rank;
SYS_RST_N_RISE gives stage 0 with the plan at its reset value. PERST_N_LOW is a PCIe link-down, PERST_N_RISE takes the link
up. THERMAL_TRIP asserts THERMTRIP_N, stores EV-0618 and powers down; REFCLK_LOSS powers down and stores EV-0617;
LINKREF_LOSS takes every link down. A function-level reset drops the host's ring, its requests and its transactions, and
escalates while a plan places host DMA. An uncorrectable PCIe error stores EV-0125 with the AER bits, and a fatal one takes
the link down; a narrow link is recorded with EV-0126; correctable errors are counted, and reported with the count once per
1,024 frames. An event is stored where fewer than 64 of its code are in the second. (R429, R432, R459, R470, R528, R531,
R532, R534, R543) -/
def Obligations.PinsClocksAndPcieErrorsAct : Prop :=
  ∀ (cyc : Nat) (die : Fin 6) (aer : Word) (w v : Nat) (s : State),
    let stored := fun (u : State) (code : Nat) (ps : List Nat) => tget 0 s.ev.counts code < 64 → ∃ e ∈ u.ev.ring, e.code = code ∧ e.ps = ps
    let escalates := fun (u : State) => placesHostDma s = true →
      (∀ f, s.fr.running = some f → ∃ g, u.fr.running = some g ∧ 3 ≤ g.level) ∧
      (∀ r, s.plan.rank = some r → (if cyc + 19200 ≤ 120000 then now s + 1 else now s + 2, r) ∈ u.link.expelTargets)
    Runs (.sysRstNLow cyc) s (fun u => u.pin.sysRst = true ∧ u.pin.enables = [] ∧ u.pin.goods = [] ∧ u.pin.thermtripN = false ∧
      u.pin.stage = min 2 s.pin.stage ∧ u.pin.removed = downOrder.filter (fun g => s.pin.enables.contains g) ∧
      (∀ r, planRuns s = true → s.plan.rank = some r →
        (if cyc + 19200 ≤ 120000 then now s + 1 else now s + 2, r) ∈ u.link.expelTargets)) ∧
    (s.pin.sysRst = true → Runs .sysRstNRise s (fun u => u.pin.sysRst = false ∧ u.pin.stage = 0 ∧ u.pin.enables = [] ∧
      u.plan = State.reset.plan ∧ u.fr = State.reset.fr ∧ u.cells = s.cells ∧ u.eo.fwSlots = s.eo.fwSlots)) ∧
    Runs (.perstNLow cyc) s (fun u => u.pin.perst = true ∧ u.pin.pcieUp = false ∧ (∀ x ∈ u.eo.slots, x.2.openReq = none ∧ x.2.done = 0) ∧
      (∀ c ∈ u.eo.opened, fromHost c.req = false) ∧ escalates u) ∧
    exec .perstNRise s = .next { s with pin.perst := false, pin.pcieUp := true } ∧
    Runs (.thermalTrip die cyc) s (fun u => u.pin.thermtripN = true ∧ u.pin.poweringDown = true ∧
      (s.pin.poweringDown = false → u.pow.shed = true) ∧ stored u 0x0618 []) ∧
    Runs (.refclkLoss cyc) s (fun u => u.pin.refclk = false ∧ u.pin.poweringDown = true ∧
      (s.pin.poweringDown = false → u.pow.shed = true) ∧ stored u 0x0617 []) ∧
    Runs .linkrefLoss s (fun u => u.pin.linkref = false ∧ ∀ l, l < 48 → (linkOf u l).width = 0) ∧
    Runs (.functionLevelReset cyc) s (fun u => u.cnt.ring = none ∧ u.pin = s.pin ∧ (∀ x ∈ u.eo.slots, x.2.openReq = none ∧ x.2.done = 0) ∧
      (∀ c ∈ u.eo.opened, fromHost c.req = false) ∧
      (∀ id t, txnOf s id = some t → t.owner = .host → ∀ t', txnOf u id = some t' → t'.phase ≠ .opened) ∧ escalates u) ∧
    Runs (.pcieError (.uncorrectable aer false) cyc) s (fun u => stored u 0x0125 [aer.toNat] ∧ u.pin = s.pin) ∧
    Runs (.pcieError (.uncorrectable aer true) cyc) s (fun u => u.pin.pcieUp = false ∧ ∀ x ∈ u.eo.slots, x.2.openReq = none ∧ x.2.done = 0) ∧
    Runs (.pcieError (.narrow w v) cyc) s (fun u => u.pin.pcieUp = true ∧ u.pin.pcieWidth = w ∧ u.pin.pcieSpeed = v ∧
      stored u 0x0126 [w, v]) ∧
    Runs (.pcieError .correctable cyc) s (fun u =>
      if tget 0 s.ev.once (0x0124 * 65536 + unitKey unitNone) = now s / 1024 + 1 then u.pin.pcieErrors = s.pin.pcieErrors + 1 ∧ u.ev = s.ev
      else u.pin.pcieErrors = 0 ∧ stored u 0x0124 [s.pin.pcieErrors + 1])

/-- PAGE of a page 0 to 13 or 0xFF with a good PEC selects it; a bad one latches cml and is NACKed. CLEAR_FAULTS clears the
page's latched bits, of every page at 0xFF, and releases what a shed holds of ALERT_N. VOUT_MODE answers 0x14 and
PMBUS_REVISION 0x33; on a page below 14 STATUS_WORD, READ_VOUT, READ_IOUT, READ_POUT, READ_TEMPERATURE_1 and
READ_TEMPERATURE_2 answer two bytes, READ_VOUT of pages 12 and 13 answering 0; any other code is NACKed; the alert response
address answers with the port's address while ALERT_N is asserted. Nothing but the reply changes by a read. A JTAG test
instruction voids the calibrations. While Eomet serves, an ARP request for the port's own address and an ICMP echo request
are answered with one packet. The encoding of LINEAR11 values is the model's choice (assumption 40). (R471, R491, R536,
R537, R538, R540) -/
def Obligations.TelemetryTestAndNetworkPorts : Prop :=
  ∀ (p code : Byte) (mac : BitVec 48) (ip addr : Word) (payload : List Byte) (s : State),
    let replies := fun (x : Option (List Byte)) => Host.Outcome.next (φ := Fault) (ρ := Refusal) { s with pin.reply := x }
    (p.toNat < 14 ∨ p = 0xFF → exec (.page p true) s = .next { s with pin.page := p.toNat, pin.reply := some [] }) ∧
    Runs (.page p false) s (fun u => u.pin.page = s.pin.page ∧ u.pin.reply = none ∧ bitOf (tget 0 u.pin.status s.pin.page) 1 = true ∧
      ∀ q, q ≠ s.pin.page → tget 0 u.pin.status q = tget 0 s.pin.status q) ∧
    Runs (.clearFaults true) s (fun u => u.pin.reply = some [] ∧ u.pin.alertHold = false ∧
      (s.pin.page = 0xFF → u.pin.status = []) ∧ (s.pin.page ≠ 0xFF → tget 0 u.pin.status s.pin.page = 0 ∧
        ∀ q, q ≠ s.pin.page → tget 0 u.pin.status q = tget 0 s.pin.status q)) ∧
    exec .voutMode s = replies (some [0x14]) ∧
    exec .pmbusRevision s = replies (some [0x33]) ∧
    exec (.smbusUnknownCommand code) s = replies none ∧
    (s.pin.page < 14 →
      exec .statusWord s = replies (some (bytesLE 2 (pageStatus s s.pin.page).toNat)) ∧
      exec .readVout s = replies (some (bytesLE 2 (if s.pin.page < 12 then linear16 (tget 0 s.pin.means (4 * s.pin.page)) else 0))) ∧
      exec .readIout s = replies (some (bytesLE 2 (linear11 (tget 0 s.pin.means (4 * s.pin.page + 1))))) ∧
      exec .readPout s = replies (some (bytesLE 2 (linear11 (tget 0 s.pin.means (4 * s.pin.page + 2))))) ∧
      exec .readTemperature1 s = replies (some (bytesLE 2 (linear11 (hottest s (pageSensors s.pin.page))))) ∧
      exec .readTemperature2 s = replies (some (bytesLE 2 (linear11 (hottest s ((List.range 8).map (fun k => k + 256))))))) ∧
    exec .alertResponseAddress s = replies (if alertN s then some (bytesLE 1 (2 * (0x60 + s.pin.addr % 8))) else none) ∧
    (alertN s = true ↔ s.pin.alertHold = true ∨ ∃ x ∈ s.pin.status, x.2 ≠ 0) ∧
    exec .jtagTestInstruction s = .next { s with pin.jtagVoid := true } ∧
    (eometServes s = true → exec (.arpRequest mac ip (ownAddress s)) s =
      .next { s with eo.outbox := .arpReply (ownMac s) (ownAddress s) mac ip :: s.eo.outbox }) ∧
    (eometServes s = true → exec (.icmpEchoRequest addr payload) s = .next { s with eo.outbox := .icmpReply addr payload :: s.eo.outbox })

/-- For every element and scale, every lane and every value of the open byte of an outlier, the byte the quantiser writes is not
0x80. For an analogue MVM in flight whose next vector has no outliers, in service and with no poison in memory, whose input
holds 0x80 at a lane: MVM answers a next state in which the array's run carries −128 at that lane, in phases −8 and 0, and
the events are unchanged. (R58) -/
def Obligations.TheByte0x80IsNeverMadeAndIsApplied : Prop :=
  (∀ (draw i : Nat) (scale : Rat) (x : FVal), laneByte draw i (quantElem scale x) ≠ 0x80) ∧
  (∀ (op : Fin 1048576) (vec : Fin 1562) (cyc : Nat) (s : State) (f : PlanFrame) (t : Template) (d : Desc) (x : InFlight) (j : Nat),
    s.fr.running = some f → runningDesc s op = some (t, d) → f.inflight.find? (fun x => x.op == op.val) = some x →
    dsClass d = 1 → dsReference d = false → x.vectors = vec.val → vec.val < mvVectors d → limiterLevel s (dsTile d) < 16 →
    (arrOf s (16 * dsTile d + dsArray d)).quarantined = false → (f.fallback.contains (mvLayer d) && !dsSplit d) = false →
    (recordAt s (placeOf s t f d d.d5) vec).1.entries = [] → s.mem.hbmPoison = [] → s.mem.tilePoison = [] →
    (placeBytes s ((placeOf s t f d d.d4).plus (512 * vec)) 512)[j]? = some 0x80 →
    Runs (.mvm op vec cyc) s (fun u => u.ev = s.ev ∧ ∃ m, u.ops.mvms = s.ops.mvms ++ [m] ∧ ∃ a, m.lanes[j]? = some a ∧ a = -128 ∧
      signedPulse 0 a = -8 ∧ signedPulse 1 a = 0))
end

