-- ==== Sys2Proof/Laws/Store.lean ====
section
/-!
SUPPORT. Sys2Proof/Laws/Store.lean: the laws of the sparse tables: a read after a write, writes elsewhere, and that every write
keeps the canonical form.
-/
namespace Sys2Proof.Machine
open Sys2Proof

variable {α : Type}

theorem tget_eq_find (d : α) (t : Table α) (x : Nat) : tget d t x = (tfind t x).getD d := by
  induction t with
  | nil => rfl
  | cons e t ih => simp only [tget, tfind]; split <;> simp_all

@[simp] theorem tget_nil (d : α) (x : Nat) : tget d ([] : Table α) x = d := rfl

theorem tget_terase_same (d : α) (t : Table α) (x : Nat) : tget d (terase t x) x = d := by
  induction t with
  | nil => rfl
  | cons e t ih =>
    by_cases h : e.1 = x
    · simpa [terase, h] using ih
    · simp only [terase] at ih
      simp [terase, tget, h, ih]

theorem tget_terase_other (d : α) (t : Table α) {x y : Nat} (h : y ≠ x) : tget d (terase t x) y = tget d t y := by
  induction t with
  | nil => rfl
  | cons e t ih =>
    simp only [terase] at ih
    by_cases he : e.1 = x
    · simp [terase, tget, he, ih]
      intro hxy; exact absurd hxy.symm h
    · simp [terase, tget, he, ih]

theorem tget_tput_same (d : α) (t : Table α) (x : Nat) (v : α) : tget d (tput t x v) x = v := by
  induction t with
  | nil => simp [tput, tget]
  | cons e t ih =>
    simp only [tput]
    split
    · simp [tget]
    · split
      · simp [tget]
      · rename_i h _; simp [tget, h, ih]

theorem tget_tput_other (d : α) (t : Table α) {x y : Nat} (v : α) (h : y ≠ x) : tget d (tput t x v) y = tget d t y := by
  induction t with
  | nil => simp [tput, tget, h.symm]
  | cons e t ih =>
    simp only [tput]
    split
    · rename_i he; simp [tget, h.symm, he]
    · split
      · simp [tget, h.symm]
      · simp [tget, ih]

/-- Every key of a table is at or above a bound. -/
def keysFrom (a : Nat) (t : Table α) : Prop := ∀ e ∈ t, a ≤ e.1

theorem keysRise_cons {e : Nat × α} {t : Table α} : keysRise (e :: t) = true ↔ keysFrom (e.1 + 1) t ∧ keysRise t = true := by
  induction t generalizing e with
  | nil => simp [keysRise, keysFrom]
  | cons b t ih =>
    simp only [keysRise, Bool.and_eq_true, decide_eq_true_eq, ih, keysFrom, List.forall_mem_cons]
    constructor
    · rintro ⟨h, h1, h2⟩; exact ⟨⟨h, fun x hx => by have := h1 x hx; omega⟩, h1, h2⟩
    · rintro ⟨⟨h, _⟩, h1, h2⟩; exact ⟨h, h1, h2⟩

theorem keysFrom_filter {a : Nat} {t : Table α} (p : Nat × α → Bool) (h : keysFrom a t) : keysFrom a (t.filter p) :=
  fun e he => h e (List.mem_filter.mp he).1

theorem keysRise_filter {t : Table α} (p : Nat × α → Bool) (h : keysRise t = true) : keysRise (t.filter p) = true := by
  induction t with
  | nil => rfl
  | cons e t ih =>
    rw [keysRise_cons] at h
    simp only [List.filter]
    split
    · exact keysRise_cons.mpr ⟨keysFrom_filter p h.1, ih h.2⟩
    · exact ih h.2

theorem keysFrom_tput {a x : Nat} {t : Table α} {v : α} (hx : a ≤ x) (h : keysFrom a t) : keysFrom a (tput t x v) := by
  induction t with
  | nil => simpa [tput, keysFrom] using hx
  | cons e t ih =>
    simp only [keysFrom, List.forall_mem_cons] at h
    simp only [tput]
    split
    · simp only [keysFrom, List.forall_mem_cons]; exact ⟨hx, h.2⟩
    · split
      · simp only [keysFrom, List.forall_mem_cons]; exact ⟨hx, h⟩
      · simp only [keysFrom, List.forall_mem_cons]; exact ⟨h.1, ih h.2⟩

theorem keysRise_tput {x : Nat} {t : Table α} {v : α} (h : keysRise t = true) : keysRise (tput t x v) = true := by
  induction t with
  | nil => rfl
  | cons e t ih =>
    have h' := keysRise_cons.mp h
    simp only [tput]
    split
    · rename_i he; subst he; exact keysRise_cons.mpr h'
    · split
      · rename_i hlt
        refine keysRise_cons.mpr ⟨?_, h⟩
        simp only [keysFrom, List.forall_mem_cons]
        exact ⟨hlt, fun y hy => by have := h'.1 y hy; omega⟩
      · rename_i hne hnlt
        exact keysRise_cons.mpr ⟨keysFrom_tput (by simp only; omega) h'.1, ih h'.2⟩

theorem mem_tput {x : Nat} {t : Table α} {v : α} {e : Nat × α} (h : e ∈ tput t x v) : e ∈ t ∨ e.2 = v := by
  induction t with
  | nil => simp only [tput, List.mem_singleton] at h; exact .inr (by rw [h])
  | cons b t ih =>
    simp only [tput] at h
    split at h
    · rcases List.mem_cons.mp h with h | h
      · exact .inr (by rw [h])
      · exact .inl (List.mem_cons_of_mem _ h)
    · split at h
      · rcases List.mem_cons.mp h with h | h
        · exact .inr (by rw [h])
        · exact .inl h
      · rcases List.mem_cons.mp h with h | h
        · exact .inl (h ▸ List.mem_cons_self)
        · exact (ih h).imp (List.mem_cons_of_mem _) id

/-! ### Writes of tables with a default -/

variable [DecidableEq α]

/-- A read after a write to the same key gives the value written. -/
@[simp] theorem tget_tset_same (d : α) (t : Table α) (x : Nat) (v : α) : tget d (tset d t x v) x = v := by
  simp only [tset]
  split
  · rename_i h; rw [tget_terase_same, h]
  · exact tget_tput_same d t x v

/-- A write leaves every other key alone. -/
theorem tget_tset_other (d : α) (t : Table α) {x y : Nat} (v : α) (h : y ≠ x) : tget d (tset d t x v) y = tget d t y := by
  simp only [tset]
  split
  · exact tget_terase_other d t h
  · exact tget_tput_other d t v h

@[simp] theorem tget_tmod_same (d : α) (t : Table α) (x : Nat) (f : α → α) : tget d (tmod d t x f) x = f (tget d t x) :=
  tget_tset_same d t x _

theorem tget_tmod_other (d : α) (t : Table α) {x y : Nat} (f : α → α) (h : y ≠ x) : tget d (tmod d t x f) y = tget d t y :=
  tget_tset_other d t _ h

theorem tableWf_nil (d : α) : tableWf d ([] : Table α) = true := rfl

theorem tableWf_filter {d : α} {t : Table α} (p : Nat × α → Bool) (h : tableWf d t = true) : tableWf d (t.filter p) = true := by
  simp only [tableWf, Bool.and_eq_true, List.all_eq_true] at *
  exact ⟨keysRise_filter p h.1, fun e he => h.2 e (List.mem_filter.mp he).1⟩

/-- A write keeps the canonical form. -/
theorem tableWf_tset {d : α} {t : Table α} {x : Nat} {v : α} (h : tableWf d t = true) : tableWf d (tset d t x v) = true := by
  simp only [tset]
  split
  · exact tableWf_filter _ h
  · rename_i hv
    simp only [tableWf, Bool.and_eq_true, List.all_eq_true] at *
    refine ⟨keysRise_tput h.1, fun e he => ?_⟩
    rcases mem_tput he with he | he
    · exact h.2 e he
    · simpa [he] using hv

theorem tableWf_tmod {d : α} {t : Table α} {x : Nat} {f : α → α} (h : tableWf d t = true) : tableWf d (tmod d t x f) = true :=
  tableWf_tset h

/-- Writing bytes keeps the canonical form of a memory. -/
theorem writeBytes_wf {m : Table Byte} {a : Nat} {bs : List Byte} (h : Memory.wf m = true) :
    Memory.wf (writeBytes m a bs) = true := by
  induction bs generalizing m a with
  | nil => exact h
  | cons b bs ih => exact ih (tableWf_tset h)

/-- Writing bytes leaves every address outside the written range alone. -/
theorem tget_writeBytes_other {m : Table Byte} {a x : Nat} {bs : List Byte} (h : x < a ∨ a + bs.length ≤ x) :
    tget 0 (writeBytes m a bs) x = tget 0 m x := by
  induction bs generalizing m a with
  | nil => rfl
  | cons b bs ih =>
    simp only [List.length_cons] at h
    rw [writeBytes, ih (by omega), tget_tset_other _ _ _ (by omega)]

/-- Within the written range a read gives the byte written. -/
theorem tget_writeBytes_inside {m : Table Byte} {a k : Nat} {bs : List Byte} (h : k < bs.length) :
    tget 0 (writeBytes m a bs) (a + k) = bs[k] := by
  induction bs generalizing m a k with
  | nil => simp at h
  | cons b bs ih =>
    cases k with
    | zero => rw [writeBytes, tget_writeBytes_other (by omega)]; simp
    | succ k =>
      rw [writeBytes]
      have : a + (k + 1) = (a + 1) + k := by omega
      rw [this, ih (by simpa using h)]; rfl

/-- Bytes read back from where they were written. -/
theorem readBytes_writeBytes (m : Table Byte) (a : Nat) (bs : List Byte) : readBytes (writeBytes m a bs) a bs.length = bs := by
  refine List.ext_getElem (by simp [readBytes]) (fun k h1 h2 => ?_)
  simp only [readBytes, List.getElem_map, List.getElem_range]
  exact tget_writeBytes_inside h2

/-- Bytes read from outside a written range are as before. -/
theorem readBytes_writeBytes_other {m : Table Byte} {a b n : Nat} {bs : List Byte} (h : b + n ≤ a ∨ a + bs.length ≤ b) :
    readBytes (writeBytes m a bs) b n = readBytes m b n := by
  refine List.ext_getElem (by simp [readBytes]) (fun k h1 h2 => ?_)
  simp only [readBytes, List.length_map, List.length_range] at h1
  simp only [readBytes, List.getElem_map, List.getElem_range]
  exact tget_writeBytes_other (by omega)

end Sys2Proof.Machine
end

