-- ==== Sys2Proof/Laws/Steady.lean ====
section
/-!
SUPPORT. Sys2Proof/Laws/Steady.lean: what nearly every function of the model leaves alone, as two relations between states, and the
rules that carry them through a function's text.
-/
namespace Sys2Proof.Machine
open Sys2Proof

/-- What every command of the model keeps: the queue and the part's identity; the invariant; and what is one-way: neither the next
attestation leaf, nor the fuses, nor the OTP marks ever go back (R498, R500, R544). -/
structure Keeps (s₀ s : State) : Prop where
  pending : s.pending = s₀.pending
  id : s.id = s₀.id
  inv : Inv s₀ → Inv s
  leaf : Inv s₀ → s₀.eo.leaf ≤ s.eo.leaf
  fuses : s₀.eo.leafFuses ≤ s.eo.leafFuses
  hot : s₀.pin.otpHot = true → s.pin.otpHot = true
  security : s₀.eo.otpSecurity ≤ s.eo.otpSecurity

/-- What a function may change of the state that few functions change. -/
structure Allowed where
  counter : Bool := false
  committed : Bool := false
  owner : Bool := false
  mgmt : Bool := false
  image : Bool := false
  time : Bool := false
  offload : Bool := false
  ledger : Bool := false
  dump : Bool := false
  cells : Bool := false
  pos : Bool := false
  versions : Bool := false

/-- Keeps, and that what is not allowed is unchanged. -/
structure Steady (A : Allowed) (s₀ s : State) : Prop extends Keeps s₀ s where
  counter : A.counter = false → s.fr.counter = s₀.fr.counter
  committed : A.committed = false → s.fr.committed = s₀.fr.committed
  owner : A.owner = false → (s.eo.ownerKey, s.eo.ownerCounter) = (s₀.eo.ownerKey, s₀.eo.ownerCounter)
  mgmt : A.mgmt = false → s.eo.mgmtKey = s₀.eo.mgmtKey
  image : A.image = false → (s.eo.fwSlots, s.eo.fwPreferred) = (s₀.eo.fwSlots, s₀.eo.fwPreferred)
  time : A.time = false → s.hl.time = s₀.hl.time
  offload : A.offload = false → s.ctx.offload = s₀.ctx.offload
  ledger : A.ledger = false → (s.led.latest, s.led.digest) = (s₀.led.latest, s₀.led.digest)
  dump : A.dump = false → s.cnt.ring = s₀.cnt.ring
  cells : A.cells = false → s.cells = s₀.cells
  pos : A.pos = false → s.fr.pos = s₀.fr.pos
  versions : A.versions = false → (s.fr.live, s.fr.master) = (s₀.fr.live, s₀.fr.master)

theorem Keeps.refl (s : State) : Keeps s s := ⟨rfl, rfl, fun i => i, fun _ => Nat.le_refl _, Nat.le_refl _, fun h => h, Nat.le_refl _⟩

theorem Keeps.trans {a b c : State} (h : Keeps a b) (k : Keeps b c) : Keeps a c :=
  ⟨k.pending.trans h.pending, k.id.trans h.id, fun i => k.inv (h.inv i), fun i => Nat.le_trans (h.leaf i) (k.leaf (h.inv i)),
   Nat.le_trans h.fuses k.fuses, fun x => k.hot (h.hot x), Nat.le_trans h.security k.security⟩

/-- The parts of the state that Keeps speaks of. -/
abbrev State.kept (s : State) := (s.mem.hbm, s.mem.tile, s.mem.host, s.eo.buffers, s.ev.ring, s.eo.tokens, s.upd.ring, s.num.ring, s.eo.leaf, s.eo.leafFuses, s.pin.otpHot, s.eo.otpSecurity)
/-- The parts of the state that Steady guards. -/
abbrev State.guarded (s : State) := (s.fr.counter, s.fr.committed, (s.eo.ownerKey, s.eo.ownerCounter), s.eo.mgmtKey, (s.eo.fwSlots, s.eo.fwPreferred), s.hl.time, s.ctx.offload, (s.led.latest, s.led.digest), s.cnt.ring, s.cells, s.fr.pos, (s.fr.live, s.fr.master))

variable {A : Allowed} {s₀ s t : State}

theorem off_of_on {b : Bool} {p : Prop} (h : b = true) : b = false → p := by intro k; rw [h] at k; cases k

theorem keeps_same (h : Keeps s₀ s) (h1 : t.pending = s.pending) (h2 : t.id = s.id) (e : t.kept = s.kept) : Keeps s₀ t := by
  simp only [State.kept, Prod.mk.injEq] at e
  obtain ⟨e1, e2, e3, e4, e5, e6, e7, e8, e9, e10, e11, e12⟩ := e
  exact h.trans ⟨h1, h2, fun i => ⟨e1 ▸ i.hbm, e2 ▸ i.tile, e3 ▸ i.host, e4 ▸ i.buffers, e5 ▸ i.events, e6 ▸ i.tokens, e7 ▸ i.versions,
    e8 ▸ i.monitors, by rw [e9, e10]; exact i.leaf⟩, fun _ => e9 ▸ Nat.le_refl _, e10 ▸ Nat.le_refl _, fun x => e11 ▸ x, e12 ▸ Nat.le_refl _⟩

theorem Steady.trans {a b c : State} (h : Steady A a b) (k : Steady A b c) : Steady A a c :=
  ⟨h.toKeeps.trans k.toKeeps, fun x => (k.counter x).trans (h.counter x), fun x => (k.committed x).trans (h.committed x), fun x => (k.owner x).trans (h.owner x), fun x => (k.mgmt x).trans (h.mgmt x), fun x => (k.image x).trans (h.image x), fun x => (k.time x).trans (h.time x), fun x => (k.offload x).trans (h.offload x), fun x => (k.ledger x).trans (h.ledger x), fun x => (k.dump x).trans (h.dump x), fun x => (k.cells x).trans (h.cells x), fun x => (k.pos x).trans (h.pos x), fun x => (k.versions x).trans (h.versions x)⟩

theorem steady_kept (h : Steady A s₀ s) (k : Keeps s t) (e : t.guarded = s.guarded) : Steady A s₀ t := by
  simp only [State.guarded, Prod.mk.injEq] at e
  obtain ⟨e0, e1, ⟨e20, e21⟩, e3, ⟨e40, e41⟩, e5, e6, ⟨e70, e71⟩, e8, e9, e10, ⟨e110, e111⟩⟩ := e
  exact h.trans ⟨k, fun _ => e0, fun _ => e1, fun _ => by rw [e20, e21], fun _ => e3, fun _ => by rw [e40, e41], fun _ => e5, fun _ => e6, fun _ => by rw [e70, e71], fun _ => e8, fun _ => e9, fun _ => e10, fun _ => by rw [e110, e111]⟩

theorem steady_same (h : Steady A s₀ s) (h1 : t.pending = s.pending) (h2 : t.id = s.id) (e : t.kept = s.kept)
    (k : t.guarded = s.guarded) : Steady A s₀ t := steady_kept h (keeps_same (Keeps.refl s) h1 h2 e) k

theorem Steady.refl (s : State) : Steady A s s := ⟨Keeps.refl s, fun _ => rfl, fun _ => rfl, fun _ => rfl, fun _ => rfl, fun _ => rfl, fun _ => rfl, fun _ => rfl, fun _ => rfl, fun _ => rfl, fun _ => rfl, fun _ => rfl, fun _ => rfl⟩

/-- A record update that touches none of the parts. -/
theorem steady_mk {free : Nat} {fr : FrameState} {led : LedgerState} {tiles : Table TileState} {arrays : Table ArrayState} {cells : Table Nat} {ops : OpsState} {mem : MemState} {upd : UpdState} {num : NumState} {link : LinkSide} {plan : PlanState} {lakes : Table LakeState} {pow : PowerState} {aom : AomState} {cnt : CountState} {pin : PinState} {ctx : CtxState} {ev : EventState} {hl : HealthState} {eo : EoState}
    (h : Steady A s₀ s) (e : (mem.hbm, mem.tile, mem.host, eo.buffers, ev.ring, eo.tokens, upd.ring, num.ring, eo.leaf, eo.leafFuses, pin.otpHot, eo.otpSecurity) = (s.mem.hbm, s.mem.tile, s.mem.host, s.eo.buffers, s.ev.ring, s.eo.tokens, s.upd.ring, s.num.ring, s.eo.leaf, s.eo.leafFuses, s.pin.otpHot, s.eo.otpSecurity))
    (k : (fr.counter, fr.committed, (eo.ownerKey, eo.ownerCounter), eo.mgmtKey, (eo.fwSlots, eo.fwPreferred), hl.time, ctx.offload, (led.latest, led.digest), cnt.ring, cells, fr.pos, (fr.live, fr.master)) = (s.fr.counter, s.fr.committed, (s.eo.ownerKey, s.eo.ownerCounter), s.eo.mgmtKey, (s.eo.fwSlots, s.eo.fwPreferred), s.hl.time, s.ctx.offload, (s.led.latest, s.led.digest), s.cnt.ring, s.cells, s.fr.pos, (s.fr.live, s.fr.master))) : Steady A s₀ ⟨s.pending, free, s.id, fr, led, tiles, arrays, cells, ops, mem, upd, num, link, plan, lakes, pow, aom, cnt, pin, ctx, ev, hl, eo⟩ := steady_same h rfl rfl e k

theorem keeps_inv (h1 : t.pending = s.pending) (h2 : t.id = s.id) (hi : Inv s → Inv t) (e1 : t.eo.leaf = s.eo.leaf)
    (e2 : t.eo.leafFuses = s.eo.leafFuses) (e3 : t.pin.otpHot = s.pin.otpHot) (e4 : t.eo.otpSecurity = s.eo.otpSecurity) : Keeps s t :=
  ⟨h1, h2, hi, fun _ => e1 ▸ Nat.le_refl _, e2 ▸ Nat.le_refl _, fun x => e3 ▸ x, e4 ▸ Nat.le_refl _⟩

theorem steady_inv (h : Steady A s₀ s) (h1 : t.pending = s.pending) (h2 : t.id = s.id) (hi : Inv s → Inv t) (e1 : t.eo.leaf = s.eo.leaf)
    (e2 : t.eo.leafFuses = s.eo.leafFuses) (e3 : t.pin.otpHot = s.pin.otpHot) (e4 : t.eo.otpSecurity = s.eo.otpSecurity)
    (k : t.guarded = s.guarded) : Steady A s₀ t := steady_kept h (keeps_inv h1 h2 hi e1 e2 e3 e4) k

/-- A record update where owner is allowed to change. -/
theorem steady_mk_owner {free : Nat} {fr : FrameState} {led : LedgerState} {tiles : Table TileState} {arrays : Table ArrayState} {cells : Table Nat} {ops : OpsState} {mem : MemState} {upd : UpdState} {num : NumState} {link : LinkSide} {plan : PlanState} {lakes : Table LakeState} {pow : PowerState} {aom : AomState} {cnt : CountState} {pin : PinState} {ctx : CtxState} {ev : EventState} {hl : HealthState} {eo : EoState}
    (howner : A.owner = true) (h : Steady A s₀ s) (e : (mem.hbm, mem.tile, mem.host, eo.buffers, ev.ring, eo.tokens, upd.ring, num.ring, eo.leaf, eo.leafFuses, pin.otpHot, eo.otpSecurity) = (s.mem.hbm, s.mem.tile, s.mem.host, s.eo.buffers, s.ev.ring, s.eo.tokens, s.upd.ring, s.num.ring, s.eo.leaf, s.eo.leafFuses, s.pin.otpHot, s.eo.otpSecurity))
    (k : (fr.counter, fr.committed, eo.mgmtKey, (eo.fwSlots, eo.fwPreferred), hl.time, ctx.offload, (led.latest, led.digest), cnt.ring, cells, fr.pos, (fr.live, fr.master)) = (s.fr.counter, s.fr.committed, s.eo.mgmtKey, (s.eo.fwSlots, s.eo.fwPreferred), s.hl.time, s.ctx.offload, (s.led.latest, s.led.digest), s.cnt.ring, s.cells, s.fr.pos, (s.fr.live, s.fr.master))) : Steady A s₀ ⟨s.pending, free, s.id, fr, led, tiles, arrays, cells, ops, mem, upd, num, link, plan, lakes, pow, aom, cnt, pin, ctx, ev, hl, eo⟩ := by
  simp only [Prod.mk.injEq] at k
  obtain ⟨e0, e1, e2, ⟨e30, e31⟩, e4, e5, ⟨e60, e61⟩, e7, e8, e9, ⟨e100, e101⟩⟩ := k
  exact h.trans ⟨keeps_same (Keeps.refl s) rfl rfl e, fun _ => e0, fun _ => e1, off_of_on howner, fun _ => e2, fun _ => by rw [e30, e31], fun _ => e4, fun _ => e5, fun _ => by rw [e60, e61], fun _ => e7, fun _ => e8, fun _ => e9, fun _ => by rw [e100, e101]⟩

/-- A record update where mgmt is allowed to change. -/
theorem steady_mk_mgmt {free : Nat} {fr : FrameState} {led : LedgerState} {tiles : Table TileState} {arrays : Table ArrayState} {cells : Table Nat} {ops : OpsState} {mem : MemState} {upd : UpdState} {num : NumState} {link : LinkSide} {plan : PlanState} {lakes : Table LakeState} {pow : PowerState} {aom : AomState} {cnt : CountState} {pin : PinState} {ctx : CtxState} {ev : EventState} {hl : HealthState} {eo : EoState}
    (hmgmt : A.mgmt = true) (h : Steady A s₀ s) (e : (mem.hbm, mem.tile, mem.host, eo.buffers, ev.ring, eo.tokens, upd.ring, num.ring, eo.leaf, eo.leafFuses, pin.otpHot, eo.otpSecurity) = (s.mem.hbm, s.mem.tile, s.mem.host, s.eo.buffers, s.ev.ring, s.eo.tokens, s.upd.ring, s.num.ring, s.eo.leaf, s.eo.leafFuses, s.pin.otpHot, s.eo.otpSecurity))
    (k : (fr.counter, fr.committed, (eo.ownerKey, eo.ownerCounter), (eo.fwSlots, eo.fwPreferred), hl.time, ctx.offload, (led.latest, led.digest), cnt.ring, cells, fr.pos, (fr.live, fr.master)) = (s.fr.counter, s.fr.committed, (s.eo.ownerKey, s.eo.ownerCounter), (s.eo.fwSlots, s.eo.fwPreferred), s.hl.time, s.ctx.offload, (s.led.latest, s.led.digest), s.cnt.ring, s.cells, s.fr.pos, (s.fr.live, s.fr.master))) : Steady A s₀ ⟨s.pending, free, s.id, fr, led, tiles, arrays, cells, ops, mem, upd, num, link, plan, lakes, pow, aom, cnt, pin, ctx, ev, hl, eo⟩ := by
  simp only [Prod.mk.injEq] at k
  obtain ⟨e0, e1, ⟨e20, e21⟩, ⟨e30, e31⟩, e4, e5, ⟨e60, e61⟩, e7, e8, e9, ⟨e100, e101⟩⟩ := k
  exact h.trans ⟨keeps_same (Keeps.refl s) rfl rfl e, fun _ => e0, fun _ => e1, fun _ => by rw [e20, e21], off_of_on hmgmt, fun _ => by rw [e30, e31], fun _ => e4, fun _ => e5, fun _ => by rw [e60, e61], fun _ => e7, fun _ => e8, fun _ => e9, fun _ => by rw [e100, e101]⟩

/-- A record update where image is allowed to change. -/
theorem steady_mk_image {free : Nat} {fr : FrameState} {led : LedgerState} {tiles : Table TileState} {arrays : Table ArrayState} {cells : Table Nat} {ops : OpsState} {mem : MemState} {upd : UpdState} {num : NumState} {link : LinkSide} {plan : PlanState} {lakes : Table LakeState} {pow : PowerState} {aom : AomState} {cnt : CountState} {pin : PinState} {ctx : CtxState} {ev : EventState} {hl : HealthState} {eo : EoState}
    (himage : A.image = true) (h : Steady A s₀ s) (e : (mem.hbm, mem.tile, mem.host, eo.buffers, ev.ring, eo.tokens, upd.ring, num.ring, eo.leaf, eo.leafFuses, pin.otpHot, eo.otpSecurity) = (s.mem.hbm, s.mem.tile, s.mem.host, s.eo.buffers, s.ev.ring, s.eo.tokens, s.upd.ring, s.num.ring, s.eo.leaf, s.eo.leafFuses, s.pin.otpHot, s.eo.otpSecurity))
    (k : (fr.counter, fr.committed, (eo.ownerKey, eo.ownerCounter), eo.mgmtKey, hl.time, ctx.offload, (led.latest, led.digest), cnt.ring, cells, fr.pos, (fr.live, fr.master)) = (s.fr.counter, s.fr.committed, (s.eo.ownerKey, s.eo.ownerCounter), s.eo.mgmtKey, s.hl.time, s.ctx.offload, (s.led.latest, s.led.digest), s.cnt.ring, s.cells, s.fr.pos, (s.fr.live, s.fr.master))) : Steady A s₀ ⟨s.pending, free, s.id, fr, led, tiles, arrays, cells, ops, mem, upd, num, link, plan, lakes, pow, aom, cnt, pin, ctx, ev, hl, eo⟩ := by
  simp only [Prod.mk.injEq] at k
  obtain ⟨e0, e1, ⟨e20, e21⟩, e3, e4, e5, ⟨e60, e61⟩, e7, e8, e9, ⟨e100, e101⟩⟩ := k
  exact h.trans ⟨keeps_same (Keeps.refl s) rfl rfl e, fun _ => e0, fun _ => e1, fun _ => by rw [e20, e21], fun _ => e3, off_of_on himage, fun _ => e4, fun _ => e5, fun _ => by rw [e60, e61], fun _ => e7, fun _ => e8, fun _ => e9, fun _ => by rw [e100, e101]⟩

/-- A record update where offload is allowed to change. -/
theorem steady_mk_offload {free : Nat} {fr : FrameState} {led : LedgerState} {tiles : Table TileState} {arrays : Table ArrayState} {cells : Table Nat} {ops : OpsState} {mem : MemState} {upd : UpdState} {num : NumState} {link : LinkSide} {plan : PlanState} {lakes : Table LakeState} {pow : PowerState} {aom : AomState} {cnt : CountState} {pin : PinState} {ctx : CtxState} {ev : EventState} {hl : HealthState} {eo : EoState}
    (hoffload : A.offload = true) (h : Steady A s₀ s) (e : (mem.hbm, mem.tile, mem.host, eo.buffers, ev.ring, eo.tokens, upd.ring, num.ring, eo.leaf, eo.leafFuses, pin.otpHot, eo.otpSecurity) = (s.mem.hbm, s.mem.tile, s.mem.host, s.eo.buffers, s.ev.ring, s.eo.tokens, s.upd.ring, s.num.ring, s.eo.leaf, s.eo.leafFuses, s.pin.otpHot, s.eo.otpSecurity))
    (k : (fr.counter, fr.committed, (eo.ownerKey, eo.ownerCounter), eo.mgmtKey, (eo.fwSlots, eo.fwPreferred), hl.time, (led.latest, led.digest), cnt.ring, cells, fr.pos, (fr.live, fr.master)) = (s.fr.counter, s.fr.committed, (s.eo.ownerKey, s.eo.ownerCounter), s.eo.mgmtKey, (s.eo.fwSlots, s.eo.fwPreferred), s.hl.time, (s.led.latest, s.led.digest), s.cnt.ring, s.cells, s.fr.pos, (s.fr.live, s.fr.master))) : Steady A s₀ ⟨s.pending, free, s.id, fr, led, tiles, arrays, cells, ops, mem, upd, num, link, plan, lakes, pow, aom, cnt, pin, ctx, ev, hl, eo⟩ := by
  simp only [Prod.mk.injEq] at k
  obtain ⟨e0, e1, ⟨e20, e21⟩, e3, ⟨e40, e41⟩, e5, ⟨e60, e61⟩, e7, e8, e9, ⟨e100, e101⟩⟩ := k
  exact h.trans ⟨keeps_same (Keeps.refl s) rfl rfl e, fun _ => e0, fun _ => e1, fun _ => by rw [e20, e21], fun _ => e3, fun _ => by rw [e40, e41], fun _ => e5, off_of_on hoffload, fun _ => by rw [e60, e61], fun _ => e7, fun _ => e8, fun _ => e9, fun _ => by rw [e100, e101]⟩

/-- A record update where ledger is allowed to change. -/
theorem steady_mk_ledger {free : Nat} {fr : FrameState} {led : LedgerState} {tiles : Table TileState} {arrays : Table ArrayState} {cells : Table Nat} {ops : OpsState} {mem : MemState} {upd : UpdState} {num : NumState} {link : LinkSide} {plan : PlanState} {lakes : Table LakeState} {pow : PowerState} {aom : AomState} {cnt : CountState} {pin : PinState} {ctx : CtxState} {ev : EventState} {hl : HealthState} {eo : EoState}
    (hledger : A.ledger = true) (h : Steady A s₀ s) (e : (mem.hbm, mem.tile, mem.host, eo.buffers, ev.ring, eo.tokens, upd.ring, num.ring, eo.leaf, eo.leafFuses, pin.otpHot, eo.otpSecurity) = (s.mem.hbm, s.mem.tile, s.mem.host, s.eo.buffers, s.ev.ring, s.eo.tokens, s.upd.ring, s.num.ring, s.eo.leaf, s.eo.leafFuses, s.pin.otpHot, s.eo.otpSecurity))
    (k : (fr.counter, fr.committed, (eo.ownerKey, eo.ownerCounter), eo.mgmtKey, (eo.fwSlots, eo.fwPreferred), hl.time, ctx.offload, cnt.ring, cells, fr.pos, (fr.live, fr.master)) = (s.fr.counter, s.fr.committed, (s.eo.ownerKey, s.eo.ownerCounter), s.eo.mgmtKey, (s.eo.fwSlots, s.eo.fwPreferred), s.hl.time, s.ctx.offload, s.cnt.ring, s.cells, s.fr.pos, (s.fr.live, s.fr.master))) : Steady A s₀ ⟨s.pending, free, s.id, fr, led, tiles, arrays, cells, ops, mem, upd, num, link, plan, lakes, pow, aom, cnt, pin, ctx, ev, hl, eo⟩ := by
  simp only [Prod.mk.injEq] at k
  obtain ⟨e0, e1, ⟨e20, e21⟩, e3, ⟨e40, e41⟩, e5, e6, e7, e8, e9, ⟨e100, e101⟩⟩ := k
  exact h.trans ⟨keeps_same (Keeps.refl s) rfl rfl e, fun _ => e0, fun _ => e1, fun _ => by rw [e20, e21], fun _ => e3, fun _ => by rw [e40, e41], fun _ => e5, fun _ => e6, off_of_on hledger, fun _ => e7, fun _ => e8, fun _ => e9, fun _ => by rw [e100, e101]⟩

/-- A record update where dump is allowed to change. -/
theorem steady_mk_dump {free : Nat} {fr : FrameState} {led : LedgerState} {tiles : Table TileState} {arrays : Table ArrayState} {cells : Table Nat} {ops : OpsState} {mem : MemState} {upd : UpdState} {num : NumState} {link : LinkSide} {plan : PlanState} {lakes : Table LakeState} {pow : PowerState} {aom : AomState} {cnt : CountState} {pin : PinState} {ctx : CtxState} {ev : EventState} {hl : HealthState} {eo : EoState}
    (hdump : A.dump = true) (h : Steady A s₀ s) (e : (mem.hbm, mem.tile, mem.host, eo.buffers, ev.ring, eo.tokens, upd.ring, num.ring, eo.leaf, eo.leafFuses, pin.otpHot, eo.otpSecurity) = (s.mem.hbm, s.mem.tile, s.mem.host, s.eo.buffers, s.ev.ring, s.eo.tokens, s.upd.ring, s.num.ring, s.eo.leaf, s.eo.leafFuses, s.pin.otpHot, s.eo.otpSecurity))
    (k : (fr.counter, fr.committed, (eo.ownerKey, eo.ownerCounter), eo.mgmtKey, (eo.fwSlots, eo.fwPreferred), hl.time, ctx.offload, (led.latest, led.digest), cells, fr.pos, (fr.live, fr.master)) = (s.fr.counter, s.fr.committed, (s.eo.ownerKey, s.eo.ownerCounter), s.eo.mgmtKey, (s.eo.fwSlots, s.eo.fwPreferred), s.hl.time, s.ctx.offload, (s.led.latest, s.led.digest), s.cells, s.fr.pos, (s.fr.live, s.fr.master))) : Steady A s₀ ⟨s.pending, free, s.id, fr, led, tiles, arrays, cells, ops, mem, upd, num, link, plan, lakes, pow, aom, cnt, pin, ctx, ev, hl, eo⟩ := by
  simp only [Prod.mk.injEq] at k
  obtain ⟨e0, e1, ⟨e20, e21⟩, e3, ⟨e40, e41⟩, e5, e6, ⟨e70, e71⟩, e8, e9, ⟨e100, e101⟩⟩ := k
  exact h.trans ⟨keeps_same (Keeps.refl s) rfl rfl e, fun _ => e0, fun _ => e1, fun _ => by rw [e20, e21], fun _ => e3, fun _ => by rw [e40, e41], fun _ => e5, fun _ => e6, fun _ => by rw [e70, e71], off_of_on hdump, fun _ => e8, fun _ => e9, fun _ => by rw [e100, e101]⟩

/-- A record update where pos is allowed to change. -/
theorem steady_mk_pos {free : Nat} {fr : FrameState} {led : LedgerState} {tiles : Table TileState} {arrays : Table ArrayState} {cells : Table Nat} {ops : OpsState} {mem : MemState} {upd : UpdState} {num : NumState} {link : LinkSide} {plan : PlanState} {lakes : Table LakeState} {pow : PowerState} {aom : AomState} {cnt : CountState} {pin : PinState} {ctx : CtxState} {ev : EventState} {hl : HealthState} {eo : EoState}
    (hpos : A.pos = true) (h : Steady A s₀ s) (e : (mem.hbm, mem.tile, mem.host, eo.buffers, ev.ring, eo.tokens, upd.ring, num.ring, eo.leaf, eo.leafFuses, pin.otpHot, eo.otpSecurity) = (s.mem.hbm, s.mem.tile, s.mem.host, s.eo.buffers, s.ev.ring, s.eo.tokens, s.upd.ring, s.num.ring, s.eo.leaf, s.eo.leafFuses, s.pin.otpHot, s.eo.otpSecurity))
    (k : (fr.counter, fr.committed, (eo.ownerKey, eo.ownerCounter), eo.mgmtKey, (eo.fwSlots, eo.fwPreferred), hl.time, ctx.offload, (led.latest, led.digest), cnt.ring, cells, (fr.live, fr.master)) = (s.fr.counter, s.fr.committed, (s.eo.ownerKey, s.eo.ownerCounter), s.eo.mgmtKey, (s.eo.fwSlots, s.eo.fwPreferred), s.hl.time, s.ctx.offload, (s.led.latest, s.led.digest), s.cnt.ring, s.cells, (s.fr.live, s.fr.master))) : Steady A s₀ ⟨s.pending, free, s.id, fr, led, tiles, arrays, cells, ops, mem, upd, num, link, plan, lakes, pow, aom, cnt, pin, ctx, ev, hl, eo⟩ := by
  simp only [Prod.mk.injEq] at k
  obtain ⟨e0, e1, ⟨e20, e21⟩, e3, ⟨e40, e41⟩, e5, e6, ⟨e70, e71⟩, e8, e9, ⟨e100, e101⟩⟩ := k
  exact h.trans ⟨keeps_same (Keeps.refl s) rfl rfl e, fun _ => e0, fun _ => e1, fun _ => by rw [e20, e21], fun _ => e3, fun _ => by rw [e40, e41], fun _ => e5, fun _ => e6, fun _ => by rw [e70, e71], fun _ => e8, fun _ => e9, off_of_on hpos, fun _ => by rw [e100, e101]⟩

/-- A record update where versions is allowed to change. -/
theorem steady_mk_versions {free : Nat} {fr : FrameState} {led : LedgerState} {tiles : Table TileState} {arrays : Table ArrayState} {cells : Table Nat} {ops : OpsState} {mem : MemState} {upd : UpdState} {num : NumState} {link : LinkSide} {plan : PlanState} {lakes : Table LakeState} {pow : PowerState} {aom : AomState} {cnt : CountState} {pin : PinState} {ctx : CtxState} {ev : EventState} {hl : HealthState} {eo : EoState}
    (hversions : A.versions = true) (h : Steady A s₀ s) (e : (mem.hbm, mem.tile, mem.host, eo.buffers, ev.ring, eo.tokens, upd.ring, num.ring, eo.leaf, eo.leafFuses, pin.otpHot, eo.otpSecurity) = (s.mem.hbm, s.mem.tile, s.mem.host, s.eo.buffers, s.ev.ring, s.eo.tokens, s.upd.ring, s.num.ring, s.eo.leaf, s.eo.leafFuses, s.pin.otpHot, s.eo.otpSecurity))
    (k : (fr.counter, fr.committed, (eo.ownerKey, eo.ownerCounter), eo.mgmtKey, (eo.fwSlots, eo.fwPreferred), hl.time, ctx.offload, (led.latest, led.digest), cnt.ring, cells, fr.pos) = (s.fr.counter, s.fr.committed, (s.eo.ownerKey, s.eo.ownerCounter), s.eo.mgmtKey, (s.eo.fwSlots, s.eo.fwPreferred), s.hl.time, s.ctx.offload, (s.led.latest, s.led.digest), s.cnt.ring, s.cells, s.fr.pos)) : Steady A s₀ ⟨s.pending, free, s.id, fr, led, tiles, arrays, cells, ops, mem, upd, num, link, plan, lakes, pow, aom, cnt, pin, ctx, ev, hl, eo⟩ := by
  simp only [Prod.mk.injEq] at k
  obtain ⟨e0, e1, ⟨e20, e21⟩, e3, ⟨e40, e41⟩, e5, e6, ⟨e70, e71⟩, e8, e9, e10⟩ := k
  exact h.trans ⟨keeps_same (Keeps.refl s) rfl rfl e, fun _ => e0, fun _ => e1, fun _ => by rw [e20, e21], fun _ => e3, fun _ => by rw [e40, e41], fun _ => e5, fun _ => e6, fun _ => by rw [e70, e71], fun _ => e8, fun _ => e9, fun _ => e10, off_of_on hversions⟩

/-- A record update where the committed frame and the plan position are allowed to change. -/
theorem steady_mk_commit {free : Nat} {fr : FrameState} {led : LedgerState} {tiles : Table TileState} {arrays : Table ArrayState} {cells : Table Nat} {ops : OpsState} {mem : MemState} {upd : UpdState} {num : NumState} {link : LinkSide} {plan : PlanState} {lakes : Table LakeState} {pow : PowerState} {aom : AomState} {cnt : CountState} {pin : PinState} {ctx : CtxState} {ev : EventState} {hl : HealthState} {eo : EoState}
    (hcommitted : A.committed = true) (hpos : A.pos = true) (h : Steady A s₀ s) (e : (mem.hbm, mem.tile, mem.host, eo.buffers, ev.ring, eo.tokens, upd.ring, num.ring, eo.leaf, eo.leafFuses, pin.otpHot, eo.otpSecurity) = (s.mem.hbm, s.mem.tile, s.mem.host, s.eo.buffers, s.ev.ring, s.eo.tokens, s.upd.ring, s.num.ring, s.eo.leaf, s.eo.leafFuses, s.pin.otpHot, s.eo.otpSecurity))
    (k : (fr.counter, (eo.ownerKey, eo.ownerCounter), eo.mgmtKey, (eo.fwSlots, eo.fwPreferred), hl.time, ctx.offload, (led.latest, led.digest), cnt.ring, cells, (fr.live, fr.master)) = (s.fr.counter, (s.eo.ownerKey, s.eo.ownerCounter), s.eo.mgmtKey, (s.eo.fwSlots, s.eo.fwPreferred), s.hl.time, s.ctx.offload, (s.led.latest, s.led.digest), s.cnt.ring, s.cells, (s.fr.live, s.fr.master))) : Steady A s₀ ⟨s.pending, free, s.id, fr, led, tiles, arrays, cells, ops, mem, upd, num, link, plan, lakes, pow, aom, cnt, pin, ctx, ev, hl, eo⟩ := by
  simp only [Prod.mk.injEq] at k
  obtain ⟨e0, ⟨e10, e11⟩, e2, ⟨e30, e31⟩, e4, e5, ⟨e60, e61⟩, e7, e8, ⟨e90, e91⟩⟩ := k
  exact h.trans ⟨keeps_same (Keeps.refl s) rfl rfl e, fun _ => e0, off_of_on hcommitted, fun _ => by rw [e10, e11], fun _ => e2, fun _ => by rw [e30, e31], fun _ => e4, fun _ => e5, fun _ => by rw [e60, e61], fun _ => e7, fun _ => e8, off_of_on hpos, fun _ => by rw [e90, e91]⟩

theorem Steady.hbm {m : Table Byte} (h : Steady A s₀ s) (hm : Memory.wf s.mem.hbm = true → Memory.wf m = true) :
    Steady A s₀ { s with mem.hbm := m } :=
  steady_inv h rfl rfl (fun i => ⟨hm i.hbm, i.tile, i.host, i.buffers, i.events, i.tokens, i.versions, i.monitors, i.leaf⟩) rfl rfl rfl rfl rfl

theorem Steady.tile {m : Table Byte} (h : Steady A s₀ s) (hm : Memory.wf s.mem.tile = true → Memory.wf m = true) :
    Steady A s₀ { s with mem.tile := m } :=
  steady_inv h rfl rfl (fun i => ⟨i.hbm, hm i.tile, i.host, i.buffers, i.events, i.tokens, i.versions, i.monitors, i.leaf⟩) rfl rfl rfl rfl rfl

theorem Steady.host {m : Table Byte} (h : Steady A s₀ s) (hm : Memory.wf s.mem.host = true → Memory.wf m = true) :
    Steady A s₀ { s with mem.host := m } :=
  steady_inv h rfl rfl (fun i => ⟨i.hbm, i.tile, hm i.host, i.buffers, i.events, i.tokens, i.versions, i.monitors, i.leaf⟩) rfl rfl rfl rfl rfl

theorem Steady.buffers {m : Table Byte} (h : Steady A s₀ s) (hm : Memory.wf s.eo.buffers = true → Memory.wf m = true) :
    Steady A s₀ { s with eo.buffers := m } :=
  steady_inv h rfl rfl (fun i => ⟨i.hbm, i.tile, i.host, hm i.buffers, i.events, i.tokens, i.versions, i.monitors, i.leaf⟩) rfl rfl rfl rfl rfl

theorem length_last {α : Type} (n : Nat) (l : List α) : (l.drop (l.length - n)).length ≤ n := by
  rw [List.length_drop]; omega

theorem Steady.monitors {r : List MonitorRecord} {n : Nat} (h : Steady A s₀ s) (hr : r.length ≤ 32768) :
    Steady A s₀ { s with num.ring := r, num.head := n } :=
  steady_inv h rfl rfl (fun i => ⟨i.hbm, i.tile, i.host, i.buffers, i.events, i.tokens, i.versions, hr, i.leaf⟩) rfl rfl rfl rfl rfl

theorem steady_foldl {β : Type} {l : List β} {g : State → β → State} (h : Steady A s₀ s)
    (hg : ∀ s x, Steady A s₀ s → Steady A s₀ (g s x)) : Steady A s₀ (l.foldl g s) := by
  induction l generalizing s with
  | nil => exact h
  | cons a l ih => exact ih (hg _ _ h)

theorem steady_ite {c : Prop} [Decidable c] {a b : State} (h1 : c → Steady A s₀ a) (h2 : ¬ c → Steady A s₀ b) :
    Steady A s₀ (if c then a else b) := by
  split <;> simp_all

/-- Steady of a result: what its next state, if it answers one, keeps. -/
def SteadyR (A : Allowed) (s₀ : State) (r : Result) : Prop := ∀ t, r = .next t → Steady A s₀ t

theorem steadyR_next (h : Steady A s₀ t) : SteadyR A s₀ (.next t) := by intro u hu; cases hu; exact h

theorem steadyR_fault {f : Fault} : SteadyR A s₀ (.fault f) := by intro t h; cases h

theorem steadyR_ite {c : Prop} [Decidable c] {a b : Result} (h1 : c → SteadyR A s₀ a) (h2 : ¬ c → SteadyR A s₀ b) :
    SteadyR A s₀ (if c then a else b) := by
  split <;> simp_all


end Sys2Proof.Machine
end

