-- ==== Sys2Proof/Laws/SteadyOps.lean ====
section
/-!
SUPPORT. Sys2Proof/Laws/SteadyOps.lean: that the functions of the shared operations (events, charges, escalation, memory, checks and operands)
change nothing but what Steady allows, one lemma each.
-/
namespace Sys2Proof.Machine
open Sys2Proof

variable {A : Allowed} {s₀ : State}

theorem setLive_steady {s : State} {id : Nat} {v : Word} (hs : Steady A s₀ s) :
    Steady A s₀ (setLive s id v) := by
  unfold setLive
  repeat' first
    | with_reducible assumption
    | fail_if_no_progress (with_reducible refine steady_mk ?_ rfl rfl)
    | split

theorem atCycle_steady {s : State} {cyc : Nat} (hs : Steady A s₀ s) :
    Steady A s₀ (atCycle s cyc) := by
  unfold atCycle
  repeat' first
    | with_reducible assumption
    | fail_if_no_progress (with_reducible refine steady_mk ?_ rfl rfl)

theorem draw_steady {s : State} (hs : Steady A s₀ s) :
    Steady A s₀ (draw s) := by
  unfold draw
  repeat' first
    | with_reducible assumption
    | fail_if_no_progress (with_reducible refine steady_mk ?_ rfl rfl)

theorem modTile_steady {s : State} {t : Nat} {f : TileState → TileState} (hs : Steady A s₀ s) :
    Steady A s₀ (modTile s t f) := by
  unfold modTile
  repeat' first
    | with_reducible assumption
    | fail_if_no_progress (with_reducible refine steady_mk ?_ rfl rfl)

theorem modArr_steady {s : State} {k : Nat} {f : ArrayState → ArrayState} (hs : Steady A s₀ s) :
    Steady A s₀ (modArr s k f) := by
  unfold modArr
  repeat' first
    | with_reducible assumption
    | fail_if_no_progress (with_reducible refine steady_mk ?_ rfl rfl)

theorem modLink_steady {s : State} {l : Nat} {f : LinkState → LinkState} (hs : Steady A s₀ s) :
    Steady A s₀ (modLink s l f) := by
  unfold modLink
  repeat' first
    | with_reducible assumption
    | fail_if_no_progress (with_reducible refine steady_mk ?_ rfl rfl)

theorem modGroup_steady {s : State} {d : Nat} {f : GroupState → GroupState} (hs : Steady A s₀ s) :
    Steady A s₀ (modGroup s d f) := by
  unfold modGroup
  repeat' first
    | with_reducible assumption
    | fail_if_no_progress (with_reducible refine steady_mk ?_ rfl rfl)

theorem modStack_steady {s : State} {k : Nat} {f : StackCounts → StackCounts} (hs : Steady A s₀ s) :
    Steady A s₀ (modStack s k f) := by
  unfold modStack
  repeat' first
    | with_reducible assumption
    | fail_if_no_progress (with_reducible refine steady_mk ?_ rfl rfl)

theorem modEngine_steady {s : State} {k : Nat} {f : UpdEngine → UpdEngine} (hs : Steady A s₀ s) :
    Steady A s₀ (modEngine s k f) := by
  unfold modEngine
  repeat' first
    | with_reducible assumption
    | fail_if_no_progress (with_reducible refine steady_mk ?_ rfl rfl)

theorem active_steady {s : State} {block : Nat} {code : Nat} {n : Nat} (hs : Steady A s₀ s) :
    Steady A s₀ (active s block code n) := by
  unfold active
  repeat' first
    | with_reducible assumption
    | fail_if_no_progress (with_reducible refine steady_mk ?_ rfl rfl)

theorem portBytes_steady {s : State} {port : Nat} {n : Nat} (hs : Steady A s₀ s) :
    Steady A s₀ (portBytes s port n) := by
  unfold portBytes
  repeat' first
    | with_reducible assumption
    | fail_if_no_progress (with_reducible refine steady_mk ?_ rfl rfl)

theorem sendMgmt_steady {s : State} {m : OutMsg} {bytes : Nat} (hs : Steady A s₀ s) :
    Steady A s₀ (sendMgmt s m bytes) := by
  unfold sendMgmt
  repeat' first
    | with_reducible assumption
    | fail_if_no_progress (with_reducible refine steady_mk ?_ rfl rfl)
    | with_reducible refine portBytes_steady ?_

theorem sendEvents_steady {s : State} {recs : List EventRec} (hs : Steady A s₀ s) :
    Steady A s₀ (sendEvents s recs) := by
  unfold sendEvents
  repeat' first
    | with_reducible assumption
    | with_reducible refine sendMgmt_steady ?_
    | with_reducible refine steady_ite (fun _ => ?_) (fun _ => ?_)
    | split

theorem msiEvent_steady {s : State} (hs : Steady A s₀ s) :
    Steady A s₀ (msiEvent s) := by
  unfold msiEvent
  repeat' first
    | with_reducible assumption
    | fail_if_no_progress (with_reducible refine steady_mk ?_ rfl rfl)
    | with_reducible refine steady_ite (fun _ => ?_) (fun _ => ?_)

theorem storeEvent_steady {s : State} {e : EventRec} (hs : Steady A s₀ s) : Steady A s₀ (storeEvent s e) := by
  refine msiEvent_steady (sendEvents_steady (steady_inv hs rfl rfl (fun i => ⟨i.hbm, i.tile, i.host, i.buffers, ?_, i.tokens, i.versions,
    i.monitors, i.leaf⟩) rfl rfl rfl rfl rfl))
  have := i.events
  simp only [List.length_drop, List.length_append, List.length_cons, List.length_nil]
  omega

theorem raise_steady {s : State} {code : Nat} {u : UnitRef} {level : Nat} {ps : List Nat} (hs : Steady A s₀ s) :
    Steady A s₀ (raise s code u level ps) := by
  unfold raise
  repeat' first
    | with_reducible assumption
    | fail_if_no_progress (with_reducible refine steady_mk ?_ rfl rfl)
    | with_reducible refine storeEvent_steady ?_
    | with_reducible refine steady_ite (fun _ => ?_) (fun _ => ?_)

theorem raiseOnce_steady {s : State} {n : Nat} {code : Nat} {u : UnitRef} {level : Nat} {ps : List Nat} (hs : Steady A s₀ s) :
    Steady A s₀ (raiseOnce s n code u level ps) := by
  unfold raiseOnce
  repeat' first
    | with_reducible assumption
    | fail_if_no_progress (with_reducible refine steady_mk ?_ rfl rfl)
    | with_reducible refine raise_steady ?_
    | with_reducible refine steady_ite (fun _ => ?_) (fun _ => ?_)

theorem modHealth_steady {s : State} {u : UnitRef} {f : HealthRec → HealthRec} (hs : Steady A s₀ s) :
    Steady A s₀ (modHealth s u f) := by
  unfold modHealth
  repeat' first
    | with_reducible assumption
    | fail_if_no_progress (with_reducible refine steady_mk ?_ rfl rfl)

theorem setUnitState_steady {s : State} {u : UnitRef} {st : UnitState} {code : Nat} (hs : Steady A s₀ s) :
    Steady A s₀ (setUnitState s u st code) := by
  unfold setUnitState
  repeat' first
    | with_reducible assumption
    | fail_if_no_progress (with_reducible refine steady_mk ?_ rfl rfl)
    | with_reducible refine modHealth_steady ?_

theorem charge_steady {s : State} {u : UnitRef} {kind : Nat} {counted : Bool} {nominal : Bool} {code : Nat} (hs : Steady A s₀ s) :
    Steady A s₀ (charge s u kind counted nominal code) := by
  unfold charge
  repeat' first
    | with_reducible assumption
    | fail_if_no_progress (with_reducible refine steady_mk ?_ rfl rfl)
    | with_reducible refine modHealth_steady ?_
    | with_reducible refine raise_steady ?_
    | with_reducible refine setUnitState_steady ?_
    | with_reducible refine steady_ite (fun _ => ?_) (fun _ => ?_)

theorem raiseCharged_steady {s : State} {code : Nat} {u : UnitRef} {level : Nat} {ps : List Nat} {kind : Nat} {counted : Bool} (hs : Steady A s₀ s) :
    Steady A s₀ (raiseCharged s code u level ps kind counted) := by
  unfold raiseCharged
  repeat' first
    | with_reducible assumption
    | with_reducible refine charge_steady ?_
    | with_reducible refine raise_steady ?_

theorem modGen_steady {s : State} {gen : Nat} {f : PlanFrame → PlanFrame} (hs : Steady A s₀ s) :
    Steady A s₀ (modGen s gen f) := by
  unfold modGen
  repeat' first
    | with_reducible assumption
    | fail_if_no_progress (with_reducible refine steady_mk ?_ rfl rfl)

theorem tally_steady {s : State} {gen : Nat} {t : Nat} {f : TileCounts → TileCounts} (hs : Steady A s₀ s) :
    Steady A s₀ (tally s gen t f) := by
  unfold tally
  repeat' first
    | with_reducible assumption
    | with_reducible refine modGen_steady ?_

theorem noteLevel_steady {s : State} {gen : Nat} {t : Option Nat} {level : Nat} (hs : Steady A s₀ s) :
    Steady A s₀ (noteLevel s gen t level) := by
  unfold noteLevel
  repeat' first
    | with_reducible assumption
    | fail_if_no_progress (with_reducible refine steady_mk ?_ rfl rfl)
    | with_reducible refine modGen_steady ?_

theorem addExc_steady {s : State} {gen : Nat} {e : ExcEntry} (hs : Steady A s₀ s) :
    Steady A s₀ (addExc s gen e) := by
  unfold addExc
  repeat' first
    | with_reducible assumption
    | fail_if_no_progress (with_reducible refine steady_mk ?_ rfl rfl)
    | with_reducible refine modGen_steady ?_

theorem countCorrected_steady {s : State} (hs : Steady A s₀ s) :
    Steady A s₀ (countCorrected s) := by
  unfold countCorrected
  repeat' first
    | with_reducible assumption
    | fail_if_no_progress (with_reducible refine steady_mk ?_ rfl rfl)

theorem relay_steady {s : State} {e : SyncEvent} {links : List Nat} (hs : Steady A s₀ s) :
    Steady A s₀ (relay s e links) := by
  unfold relay
  repeat' first
    | with_reducible assumption
    | fail_if_no_progress (with_reducible refine steady_mk ?_ rfl rfl)

theorem flood_steady {s : State} {k : SyncKind} {frame : Nat} {payload : Nat} (hs : Steady A s₀ s) :
    Steady A s₀ (flood s k frame payload) := by
  unfold flood
  repeat' first
    | with_reducible assumption
    | fail_if_no_progress (with_reducible refine steady_mk ?_ rfl rfl)
    | with_reducible refine relay_steady ?_
    | with_reducible refine steady_ite (fun _ => ?_) (fun _ => ?_)

theorem floodExpel_steady {s : State} {rank : Nat} (hs : Steady A s₀ s) :
    Steady A s₀ (floodExpel s rank) := by
  unfold floodExpel
  repeat' first
    | with_reducible assumption
    | fail_if_no_progress (with_reducible refine steady_mk ?_ rfl rfl)
    | with_reducible refine flood_steady ?_

theorem takeL3_steady {s : State} {code : Nat} {u : UnitRef} {ps : List Nat} (hs : Steady A s₀ s) :
    Steady A s₀ (takeL3 s code u ps) := by
  unfold takeL3
  repeat' first
    | with_reducible assumption
    | fail_if_no_progress (with_reducible refine steady_mk ?_ rfl rfl)
    | with_reducible refine raise_steady ?_
    | with_reducible refine floodExpel_steady ?_
    | split
    | (dsimp only; split)

theorem setMark_steady {s : State} {line : Nat} {m : Option PoisonMark} (hs : Steady A s₀ s) :
    Steady A s₀ (setMark s line m) := by
  unfold setMark
  repeat' first
    | with_reducible assumption
    | fail_if_no_progress (with_reducible refine steady_mk ?_ rfl rfl)
    | split

theorem putLine_steady {s : State} {line : Nat} {data : List Byte} {m : Option PoisonMark} (hs : Steady A s₀ s) :
    Steady A s₀ (putLine s line data m) :=
  setMark_steady (hs.hbm writeBytes_wf)

theorem stackRead_steady {s : State} {k : Nat} {n : Nat} (hs : Steady A s₀ s) :
    Steady A s₀ (stackRead s k n) := by
  unfold stackRead
  repeat' first
    | with_reducible assumption
    | with_reducible refine portBytes_steady ?_
    | with_reducible refine active_steady ?_

theorem stackWritten_steady {s : State} {k : Nat} {n : Nat} (hs : Steady A s₀ s) :
    Steady A s₀ (stackWritten s k n) := by
  unfold stackWritten
  repeat' first
    | with_reducible assumption
    | with_reducible refine portBytes_steady ?_
    | with_reducible refine active_steady ?_

theorem saveLine_steady {s : State} {gen : Nat} {line : Nat} (hs : Steady A s₀ s) :
    Steady A s₀ (saveLine s gen line) := by
  unfold saveLine
  repeat' first
    | with_reducible assumption
    | fail_if_no_progress (with_reducible refine steady_mk ?_ rfl rfl)
    | with_reducible refine active_steady ?_
    | with_reducible refine modStack_steady ?_
    | with_reducible refine steady_ite (fun _ => ?_) (fun _ => ?_)

theorem writeLine_steady {s : State} {mode : WriteMode} {line : Nat} {a : Nat} {bytes : List Byte} {poison : Option (Nat × Nat)} (hs : Steady A s₀ s) :
    Steady A s₀ (writeLine s mode line a bytes poison) := by
  unfold writeLine
  repeat' first
    | with_reducible assumption
    | fail_if_no_progress (with_reducible refine steady_mk ?_ rfl rfl)
    | with_reducible refine saveLine_steady ?_
    | with_reducible refine stackWritten_steady ?_
    | with_reducible refine active_steady ?_
    | with_reducible refine stackRead_steady ?_
    | with_reducible refine putLine_steady ?_
    | with_reducible refine steady_ite (fun _ => ?_) (fun _ => ?_)
    | split

theorem writeHbm_steady {s : State} {mode : WriteMode} {a : Nat} {bytes : List Byte} {poison : Nat → Option (Nat × Nat)} (hs : Steady A s₀ s) :
    Steady A s₀ (writeHbm s mode a bytes poison) := by
  unfold writeHbm
  repeat' first
    | with_reducible assumption
    | with_reducible refine writeLine_steady ?_
    | with_reducible refine steady_foldl ?_ (fun _ _ _ => ?_)

theorem saveRow_steady {s : State} {gen : Nat} {line : Nat} (hs : Steady A s₀ s) :
    Steady A s₀ (saveRow s gen line) := by
  unfold saveRow
  repeat' first
    | with_reducible assumption
    | fail_if_no_progress (with_reducible refine steady_mk ?_ rfl rfl)
    | with_reducible refine steady_ite (fun _ => ?_) (fun _ => ?_)

theorem writeRow_steady {s : State} {gen : Option Nat} {line a : Nat} {bytes : List Byte} {poison : Option (Nat × Nat)}
    (hs : Steady A s₀ s) : Steady A s₀ (writeRow s gen line a bytes poison) := by
  have key : ∀ s', Steady A s₀ s' → Steady A s₀ { s' with mem.tile := writeBytes s'.mem.tile line (mergeUnit (readBytes s'.mem.tile line 32) 32 line a bytes) } :=
    fun s' h => h.tile writeBytes_wf
  unfold writeRow
  cases gen with
  | none =>
    have k := key _ hs
    cases poison with
    | none => exact steady_ite (fun _ => steady_mk k rfl rfl) (fun _ => k)
    | some p => exact steady_mk k rfl rfl
  | some g =>
    have k := key _ (saveRow_steady (gen := g) (line := line) hs)
    cases poison with
    | none => exact steady_ite (fun _ => steady_mk k rfl rfl) (fun _ => k)
    | some p => exact steady_mk k rfl rfl

theorem writeTile_steady {s : State} {gen : Option Nat} {t : Nat} {off : Nat} {bytes : List Byte} {poison : Nat → Option (Nat × Nat)} (hs : Steady A s₀ s) :
    Steady A s₀ (writeTile s gen t off bytes poison) := by
  unfold writeTile
  repeat' first
    | with_reducible assumption
    | with_reducible refine writeRow_steady ?_
    | with_reducible refine steady_foldl ?_ (fun _ _ _ => ?_)

theorem restoreGen_steady {s : State} {gen : Nat} (hs : Steady A s₀ s) : Steady A s₀ (restoreGen s gen) := by
  unfold restoreGen
  refine steady_mk (steady_foldl (steady_foldl hs (fun s p h => putLine_steady h)) (fun s p h => ?_)) rfl rfl
  have k := h.tile (m := writeBytes s.mem.tile p.addr p.data) writeBytes_wf
  exact steady_inv k rfl rfl (fun i => ⟨i.hbm, i.tile, i.host, i.buffers, i.events, i.tokens, i.versions, i.monitors, i.leaf⟩)
    rfl rfl rfl rfl rfl

theorem dropGen_steady {s : State} {gen : Nat} (hs : Steady A s₀ s) :
    Steady A s₀ (dropGen s gen) := by
  unfold dropGen
  repeat' first
    | with_reducible assumption
    | fail_if_no_progress (with_reducible refine steady_mk ?_ rfl rfl)

theorem placeWrite_steady {s : State} {gen : Nat} {p : Place} {bytes : List Byte} {poison : Nat → Option (Nat × Nat)} (hs : Steady A s₀ s) :
    Steady A s₀ (placeWrite s gen p bytes poison) := by
  unfold placeWrite
  repeat' first
    | with_reducible assumption
    | with_reducible refine writeTile_steady ?_
    | with_reducible refine writeHbm_steady ?_
    | with_reducible refine steady_ite (fun _ => ?_) (fun _ => ?_)
    | split

theorem restoreUpdate_steady {s : State} {x : UpdSnapshot} (hs : Steady A s₀ s) :
    Steady A s₀ (restoreUpdate s x) := by
  unfold restoreUpdate
  repeat' first
    | with_reducible assumption
    | fail_if_no_progress (with_reducible refine steady_mk ?_ rfl rfl)

theorem dropWork_steady {s : State} {gen : Nat} (hs : Steady A s₀ s) :
    Steady A s₀ (dropWork s gen) := by
  unfold dropWork
  repeat' first
    | with_reducible assumption
    | fail_if_no_progress (with_reducible refine steady_mk ?_ rfl rfl)

theorem discardGen_steady {s : State} {gen : Nat} (hs : Steady A s₀ s) :
    Steady A s₀ (discardGen s gen) := by
  unfold discardGen
  repeat' first
    | with_reducible assumption
    | with_reducible refine restoreGen_steady ?_
    | with_reducible refine restoreUpdate_steady ?_
    | with_reducible refine dropWork_steady ?_
    | split

theorem takeSnapshot_steady {s : State} {gen : Nat} (hs : Steady A s₀ s) :
    Steady A s₀ (takeSnapshot s gen) := by
  unfold takeSnapshot
  repeat' first
    | with_reducible assumption
    | fail_if_no_progress (with_reducible refine steady_mk ?_ rfl rfl)

theorem restartRun_steady {s : State} {f : PlanFrame} (hs : Steady A s₀ s) :
    Steady A s₀ (restartRun s f) := by
  unfold restartRun
  repeat' first
    | with_reducible assumption
    | fail_if_no_progress (with_reducible refine steady_mk ?_ rfl rfl)
    | with_reducible refine discardGen_steady ?_
    | with_reducible refine takeSnapshot_steady ?_
    | with_reducible refine steady_ite (fun _ => ?_) (fun _ => ?_)

theorem failCheck_steady {s : State} {gen : Nat} {code : Nat} {u : UnitRef} (hs : Steady A s₀ s) :
    Steady A s₀ (failCheck s gen code u) := by
  unfold failCheck
  repeat' first
    | with_reducible assumption
    | fail_if_no_progress (with_reducible refine steady_mk ?_ rfl rfl)
    | with_reducible refine modGen_steady ?_
    | with_reducible refine restartRun_steady ?_
    | with_reducible refine raise_steady ?_
    | with_reducible refine steady_ite (fun _ => ?_) (fun _ => ?_)
    | split
    | (dsimp only; split)

theorem noteExc_steady {s : State} {gen : Nat} {tile : Option Nat} {e : ExcEntry} (hs : Steady A s₀ s) :
    Steady A s₀ (noteExc s gen tile e) := by
  unfold noteExc
  repeat' first
    | with_reducible assumption
    | with_reducible refine noteLevel_steady ?_
    | with_reducible refine addExc_steady ?_

theorem residueMismatch_steady {s : State} {gen : Nat} {t : Nat} {engine : Nat} {op : Nat} {r : ResidueErr} (hs : Steady A s₀ s) :
    Steady A s₀ (residueMismatch s gen t engine op r) := by
  unfold residueMismatch
  repeat' first
    | with_reducible assumption
    | fail_if_no_progress (with_reducible refine steady_mk ?_ rfl rfl)
    | with_reducible refine tally_steady ?_
    | with_reducible refine noteExc_steady ?_
    | with_reducible refine failCheck_steady ?_
    | with_reducible refine raiseCharged_steady ?_

theorem machineryError_steady {s : State} {gen : Nat} {tile : Option Nat} {u : UnitRef} {k : Nat} {op : Nat} (hs : Steady A s₀ s) :
    Steady A s₀ (machineryError s gen tile u k op) := by
  unfold machineryError
  repeat' first
    | with_reducible assumption
    | with_reducible refine noteExc_steady ?_
    | with_reducible refine charge_steady ?_
    | with_reducible refine takeL3_steady ?_

theorem poisonConsumed_steady {s : State} {gen : Nat} {t : Nat} {op : Nat} {origin : Nat} {number : Nat} {addr : Nat} {atRest : Bool} (hs : Steady A s₀ s) :
    Steady A s₀ (poisonConsumed s gen t op origin number addr atRest) := by
  unfold poisonConsumed
  repeat' first
    | with_reducible assumption
    | fail_if_no_progress (with_reducible refine steady_mk ?_ rfl rfl)
    | with_reducible refine modGen_steady ?_
    | with_reducible refine noteExc_steady ?_
    | with_reducible refine takeL3_steady ?_
    | with_reducible refine failCheck_steady ?_
    | with_reducible refine steady_ite (fun _ => ?_) (fun _ => ?_)

theorem consumeMarks_steady {s : State} {gen : Nat} {t : Nat} {op : Nat} {ms : List (Nat × PoisonMark)} (hs : Steady A s₀ s) :
    Steady A s₀ (consumeMarks s gen t op ms) := by
  unfold consumeMarks
  repeat' first
    | with_reducible assumption
    | with_reducible refine poisonConsumed_steady ?_
    | with_reducible refine steady_foldl ?_ (fun _ _ _ => ?_)

theorem queueOverflow_steady {s : State} {gen : Nat} {t : Nat} {kind : Nat} {op : Nat} (hs : Steady A s₀ s) :
    Steady A s₀ (queueOverflow s gen t kind op) := by
  unfold queueOverflow
  repeat' first
    | with_reducible assumption
    | with_reducible refine noteExc_steady ?_
    | with_reducible refine charge_steady ?_
    | with_reducible refine takeL3_steady ?_

theorem enterQueue_steady {s : State} {gen : Nat} {t : Nat} {kind : Nat} {op : Nat} {settle : State → State} (hs : Steady A s₀ s)
    (hssettle : ∀ s, Steady A s₀ s → Steady A s₀ (settle s)) :
    Steady A s₀ (enterQueue s gen t kind op settle) := by
  unfold enterQueue
  repeat' first
    | with_reducible assumption
    | fail_if_no_progress (with_reducible refine steady_mk ?_ rfl rfl)
    | with_reducible refine hssettle _ ?_
    | with_reducible refine queueOverflow_steady ?_
    | with_reducible refine tally_steady ?_
    | with_reducible refine steady_ite (fun _ => ?_) (fun _ => ?_)

theorem checkResidue_steady {s : State} {gen : Nat} {t : Nat} {engine : Nat} {op : Nat} {res : Option ResidueErr} (hs : Steady A s₀ s) :
    Steady A s₀ (checkResidue s gen t engine op res) := by
  unfold checkResidue
  repeat' first
    | with_reducible assumption
    | with_reducible refine enterQueue_steady ?_ (fun _ _ => ?_)
    | with_reducible refine residueMismatch_steady ?_
    | split

theorem checkPoison_steady {s : State} {gen : Nat} {t : Nat} {op : Nat} {ms : List (Nat × PoisonMark)} (hs : Steady A s₀ s) :
    Steady A s₀ (checkPoison s gen t op ms) := by
  unfold checkPoison
  repeat' first
    | with_reducible assumption
    | with_reducible refine enterQueue_steady ?_ (fun _ _ => ?_)
    | with_reducible refine consumeMarks_steady ?_
    | with_reducible refine steady_foldl ?_ (fun _ _ _ => ?_)
    | split

theorem correction_steady {s : State} (hs : Steady A s₀ s) :
    Steady A s₀ (correction s) := by
  unfold correction
  repeat' first
    | with_reducible assumption
    | with_reducible refine countCorrected_steady ?_

theorem noteNonFinite_steady {s : State} {gen : Nat} {t : Nat} {op : Nat} {fl : Option (Nat × Nat × Nat)} (hs : Steady A s₀ s) :
    Steady A s₀ (noteNonFinite s gen t op fl) := by
  unfold noteNonFinite
  repeat' first
    | with_reducible assumption
    | fail_if_no_progress (with_reducible refine steady_mk ?_ rfl rfl)
    | with_reducible refine addExc_steady ?_
    | with_reducible refine modGen_steady ?_
    | with_reducible refine raise_steady ?_
    | with_reducible refine steady_ite (fun _ => ?_) (fun _ => ?_)
    | split

theorem finishOp_steady {s : State} {op : Nat} (hs : Steady A s₀ s) :
    Steady A s₀ (finishOp s op) := by
  unfold finishOp
  repeat' first
    | with_reducible assumption
    | fail_if_no_progress (with_reducible refine steady_mk ?_ rfl rfl)

theorem withOp_steady {s : State} {op : Nat} {cls : Nat} {f : PlanFrame → Template → Desc → State → State} (hs : Steady A s₀ s)
    (hsf : ∀ p t d s, Steady A s₀ s → Steady A s₀ (f p t d s)) :
    Steady A s₀ (withOp s op cls f) := by
  unfold withOp
  repeat' first
    | with_reducible assumption
    | with_reducible refine hsf _ _ _ _ ?_
    | with_reducible refine finishOp_steady ?_
    | with_reducible refine steady_ite (fun _ => ?_) (fun _ => ?_)
    | split

theorem crossing_steady {s : State} {a : Nat} {b : Nat} {n : Nat} (hs : Steady A s₀ s) :
    Steady A s₀ (crossing s a b n) := by
  unfold crossing
  repeat' first
    | with_reducible assumption
    | with_reducible refine portBytes_steady ?_
    | with_reducible refine active_steady ?_
    | with_reducible refine steady_ite (fun _ => ?_) (fun _ => ?_)

theorem markConsumed_steady {s : State} {u : Nat} {off : Nat} {n : Nat} (hs : Steady A s₀ s) :
    Steady A s₀ (markConsumed s u off n) := by
  unfold markConsumed
  repeat' first
    | with_reducible assumption
    | fail_if_no_progress (with_reducible refine steady_mk ?_ rfl rfl)

theorem countRead_steady {s : State} {t : Nat} {p : Place} {n : Nat} (hs : Steady A s₀ s) :
    Steady A s₀ (countRead s t p n) := by
  unfold countRead
  repeat' first
    | with_reducible assumption
    | with_reducible refine crossing_steady ?_
    | with_reducible refine active_steady ?_
    | with_reducible refine markConsumed_steady ?_
    | with_reducible refine stackRead_steady ?_
    | split

theorem countWrite_steady {s : State} {t : Nat} {p : Place} {n : Nat} (hs : Steady A s₀ s) :
    Steady A s₀ (countWrite s t p n) := by
  unfold countWrite
  repeat' first
    | with_reducible assumption
    | with_reducible refine crossing_steady ?_
    | with_reducible refine active_steady ?_
    | split

theorem useOperands_steady {s : State} {gen : Nat} {t : Nat} {op : Nat} {ins : List (Place × Nat)} {out : Place × Nat} (hs : Steady A s₀ s) :
    Steady A s₀ (useOperands s gen t op ins out) := by
  unfold useOperands
  repeat' first
    | with_reducible assumption
    | with_reducible refine countRead_steady ?_
    | with_reducible refine countWrite_steady ?_
    | with_reducible refine checkPoison_steady ?_
    | with_reducible refine steady_foldl ?_ (fun _ _ _ => ?_)

end Sys2Proof.Machine
end

