-- ==== Sys2Proof/Laws/SteadyEngines.lean ====
section
/-!
SUPPORT. Sys2Proof/Laws/SteadyEngines.lean: that the functions of the arrays, the engines, programming, contexts, the update engines and HBM
change nothing but what Steady allows, one lemma each.
-/
namespace Sys2Proof.Machine
open Sys2Proof

variable {A : Allowed} {s₀ : State}

theorem noteShares_steady {s : State} {gen : Nat} {tensor : Nat} {n : Nat} {zeros : Nat} {sat : Nat} {nf : Nat} (hs : Steady A s₀ s) :
    Steady A s₀ (noteShares s gen tensor n zeros sat nf) := by
  unfold noteShares
  repeat' first
    | with_reducible assumption
    | fail_if_no_progress (with_reducible refine steady_mk ?_ rfl rfl)
    | with_reducible refine modGen_steady ?_
    | with_reducible refine steady_ite (fun _ => ?_) (fun _ => ?_)

theorem noteFloats_steady {s : State} {gen : Nat} {tensor : Nat} {xs : List FVal} (hs : Steady A s₀ s) :
    Steady A s₀ (noteFloats s gen tensor xs) := by
  unfold noteFloats
  repeat' first
    | with_reducible assumption
    | with_reducible refine noteShares_steady ?_

theorem noteObservation_steady {s : State} {f : PlanFrame} {index : Nat} {o : Observation} (hs : Steady A s₀ s) :
    Steady A s₀ (noteObservation s f index o) := by
  unfold noteObservation
  repeat' first
    | with_reducible assumption
    | fail_if_no_progress (with_reducible refine steady_mk ?_ rfl rfl)
    | with_reducible refine modGen_steady ?_
    | with_reducible refine steady_ite (fun _ => ?_) (fun _ => ?_)

theorem noteQuantised_steady {s : State} {gen : Nat} {tensor : Nat} {outliers : Nat} {elements : Nat} (hs : Steady A s₀ s) :
    Steady A s₀ (noteQuantised s gen tensor outliers elements) := by
  unfold noteQuantised
  repeat' first
    | with_reducible assumption
    | fail_if_no_progress (with_reducible refine steady_mk ?_ rfl rfl)
    | with_reducible refine modGen_steady ?_

theorem matrixOp_steady {res : Option ResidueErr} {f : PlanFrame} {t : Template} {d : Desc} {s : State} (hs : Steady A s₀ s) :
    Steady A s₀ (matrixOp res f t d s) := by
  unfold matrixOp
  repeat' first
    | with_reducible assumption
    | with_reducible refine useOperands_steady ?_
    | with_reducible refine placeWrite_steady ?_
    | with_reducible refine noteShares_steady ?_
    | with_reducible refine noteNonFinite_steady ?_
    | with_reducible refine noteFloats_steady ?_
    | with_reducible refine checkResidue_steady ?_
    | with_reducible refine steady_foldl ?_ (fun _ _ _ => ?_)
    | with_reducible refine steady_ite (fun _ => ?_) (fun _ => ?_)

theorem execMatrix_steady {op : Fin 1048576} {res : Option ResidueErr} {cyc : Nat} {s : State} (hs : Steady A s₀ s) :
    SteadyR A s₀ (execMatrix op res cyc s) := by
  unfold execMatrix
  repeat' first
    | with_reducible assumption
    | with_reducible refine steadyR_next ?_
    | with_reducible refine withOp_steady ?_ (fun _ _ _ _ _ => ?_)
    | with_reducible refine atCycle_steady ?_
    | with_reducible refine matrixOp_steady ?_

theorem vectorOp_steady {res : Option ResidueErr} {f : PlanFrame} {t : Template} {d : Desc} {s : State} (hs : Steady A s₀ s) :
    Steady A s₀ (vectorOp res f t d s) := by
  unfold vectorOp
  repeat' first
    | with_reducible assumption
    | with_reducible refine useOperands_steady ?_
    | with_reducible refine placeWrite_steady ?_
    | with_reducible refine noteShares_steady ?_
    | with_reducible refine checkResidue_steady ?_
    | with_reducible refine noteNonFinite_steady ?_

theorem execVector_steady {op : Fin 1048576} {res : Option ResidueErr} {cyc : Nat} {s : State} (hs : Steady A s₀ s) :
    SteadyR A s₀ (execVector op res cyc s) := by
  unfold execVector
  repeat' first
    | with_reducible assumption
    | with_reducible refine steadyR_next ?_
    | with_reducible refine withOp_steady ?_ (fun _ _ _ _ _ => ?_)
    | with_reducible refine atCycle_steady ?_
    | with_reducible refine vectorOp_steady ?_

theorem quantiseOp_steady {res : Option ResidueErr} {f : PlanFrame} {t : Template} {d : Desc} {s : State} (hs : Steady A s₀ s) :
    Steady A s₀ (quantiseOp res f t d s) := by
  unfold quantiseOp
  repeat' first
    | with_reducible assumption
    | fail_if_no_progress (with_reducible refine steady_mk ?_ rfl rfl)
    | with_reducible refine useOperands_steady ?_
    | with_reducible refine placeWrite_steady ?_
    | with_reducible refine noteObservation_steady ?_
    | with_reducible refine noteQuantised_steady ?_
    | with_reducible refine noteShares_steady ?_
    | with_reducible refine checkResidue_steady ?_
    | with_reducible refine noteNonFinite_steady ?_

theorem execQuantise_steady {op : Fin 1048576} {res : Option ResidueErr} {cyc : Nat} {s : State} (hs : Steady A s₀ s) :
    SteadyR A s₀ (execQuantise op res cyc s) := by
  unfold execQuantise
  repeat' first
    | with_reducible assumption
    | with_reducible refine steadyR_next ?_
    | with_reducible refine withOp_steady ?_ (fun _ _ _ _ _ => ?_)
    | with_reducible refine atCycle_steady ?_
    | with_reducible refine quantiseOp_steady ?_

theorem compressOp_steady {res : Option ResidueErr} {f : PlanFrame} {t : Template} {d : Desc} {s : State} (hs : Steady A s₀ s) :
    Steady A s₀ (compressOp res f t d s) := by
  unfold compressOp
  repeat' first
    | with_reducible assumption
    | with_reducible refine useOperands_steady ?_
    | with_reducible refine placeWrite_steady ?_
    | with_reducible refine noteShares_steady ?_
    | with_reducible refine checkResidue_steady ?_
    | with_reducible refine noteNonFinite_steady ?_

theorem execCompress_steady {op : Fin 1048576} {res : Option ResidueErr} {cyc : Nat} {s : State} (hs : Steady A s₀ s) :
    SteadyR A s₀ (execCompress op res cyc s) := by
  unfold execCompress
  repeat' first
    | with_reducible assumption
    | with_reducible refine steadyR_next ?_
    | with_reducible refine withOp_steady ?_ (fun _ _ _ _ _ => ?_)
    | with_reducible refine atCycle_steady ?_
    | with_reducible refine compressOp_steady ?_

theorem joinOp_steady {u0 : PlanFrame} {u1 : Template} {u2 : Desc} {s : State} (hs : Steady A s₀ s) :
    Steady A s₀ (joinOp u0 u1 u2 s) := by
  unfold joinOp
  repeat' first
    | with_reducible assumption

theorem execJoin_steady {op : Fin 1048576} {cyc : Nat} {s : State} (hs : Steady A s₀ s) :
    SteadyR A s₀ (execJoin op cyc s) := by
  unfold execJoin
  repeat' first
    | with_reducible assumption
    | with_reducible refine steadyR_next ?_
    | with_reducible refine withOp_steady ?_ (fun _ _ _ _ _ => ?_)
    | with_reducible refine atCycle_steady ?_
    | with_reducible refine joinOp_steady ?_

theorem setImageRow_steady {s : State} {k : Nat} {row : Nat} {ws : List Int} (hs : Steady A s₀ s) :
    Steady A s₀ (setImageRow s k row ws) := by
  unfold setImageRow
  repeat' first
    | with_reducible assumption
    | with_reducible refine writeTile_steady ?_

theorem setLevel_steady {s : State} {k row col element v : Nat} (hcells : A.cells = true) (hs : Steady A s₀ s) :
    Steady A s₀ (setLevel s k row col element v) :=
  hs.trans ⟨keeps_same (Keeps.refl s) rfl rfl rfl, fun _ => rfl, fun _ => rfl, fun _ => rfl, fun _ => rfl, fun _ => rfl, fun _ => rfl, fun _ => rfl, fun _ => rfl, fun _ => rfl, off_of_on hcells, fun _ => rfl, fun _ => rfl⟩

theorem setVectors_steady {s : State} {k : Nat} {row : Nat} {ds : List Int} (hs : Steady A s₀ s) :
    Steady A s₀ (setVectors s k row ds) := by
  unfold setVectors
  repeat' first
    | with_reducible assumption
    | fail_if_no_progress (with_reducible refine steady_mk ?_ rfl rfl)
    | with_reducible refine modArr_steady ?_

theorem rebuildRows_steady {s : State} {k : Nat} {rows : List Nat} (hs : Steady A s₀ s) :
    Steady A s₀ (rebuildRows s k rows) := by
  unfold rebuildRows
  repeat' first
    | with_reducible assumption
    | with_reducible refine setVectors_steady ?_
    | with_reducible refine steady_foldl ?_ (fun _ _ _ => ?_)

theorem startReadback_steady {s : State} {k : Nat} (hs : Steady A s₀ s) :
    Steady A s₀ (startReadback s k) := by
  unfold startReadback
  repeat' first
    | with_reducible assumption
    | fail_if_no_progress (with_reducible refine steady_mk ?_ rfl rfl)
    | with_reducible refine modArr_steady ?_

theorem regenerate_steady {s : State} {k : Nat} (hs : Steady A s₀ s) :
    Steady A s₀ (regenerate s k) := by
  unfold regenerate
  repeat' first
    | with_reducible assumption
    | with_reducible refine startReadback_steady ?_
    | with_reducible refine rebuildRows_steady ?_
    | with_reducible refine steady_ite (fun _ => ?_) (fun _ => ?_)

theorem parityError_steady {s : State} {k : Nat} (hs : Steady A s₀ s) :
    Steady A s₀ (parityError s k) := by
  unfold parityError
  repeat' first
    | with_reducible assumption
    | with_reducible refine raise_steady ?_
    | with_reducible refine startReadback_steady ?_
    | with_reducible refine rebuildRows_steady ?_
    | with_reducible refine regenerate_steady ?_
    | with_reducible refine steady_ite (fun _ => ?_) (fun _ => ?_)

theorem quarantineArray_steady {s : State} {k : Nat} (hs : Steady A s₀ s) :
    Steady A s₀ (quarantineArray s k) := by
  unfold quarantineArray
  repeat' first
    | with_reducible assumption
    | fail_if_no_progress (with_reducible refine steady_mk ?_ rfl rfl)
    | with_reducible refine modArr_steady ?_

theorem quarantineL2_steady {s : State} {k : Nat} {code : Nat} (hs : Steady A s₀ s) :
    Steady A s₀ (quarantineL2 s k code) := by
  unfold quarantineL2
  repeat' first
    | with_reducible assumption
    | with_reducible refine raise_steady ?_
    | with_reducible refine quarantineArray_steady ?_
    | with_reducible refine noteLevel_steady ?_

theorem modOut_steady {s : State} {gen : Nat} {group : Nat} {vec : Nat} {f : GroupOut → GroupOut} (hs : Steady A s₀ s) :
    Steady A s₀ (modOut s gen group vec f) := by
  unfold modOut
  repeat' first
    | with_reducible assumption
    | fail_if_no_progress (with_reducible refine steady_mk ?_ rfl rfl)

theorem ensureOut_steady {s : State} {f : PlanFrame} {t : Template} {d : Desc} {vec : Nat} {scaleA : Word} (hs : Steady A s₀ s) :
    Steady A s₀ (ensureOut s f t d vec scaleA) := by
  unfold ensureOut
  repeat' first
    | with_reducible assumption
    | fail_if_no_progress (with_reducible refine steady_mk ?_ rfl rfl)
    | with_reducible refine steady_ite (fun _ => ?_) (fun _ => ?_)

theorem addSums_steady {s : State} {gen : Nat} {group : Nat} {vec : Nat} {ys : List Int} (hs : Steady A s₀ s) :
    Steady A s₀ (addSums s gen group vec ys) := by
  unfold addSums
  repeat' first
    | with_reducible assumption
    | fail_if_no_progress (with_reducible refine steady_mk ?_ rfl rfl)
    | with_reducible refine modOut_steady ?_

theorem arriveOut_steady {s : State} {gen : Nat} {group : Nat} {vec : Nat} (hs : Steady A s₀ s) :
    Steady A s₀ (arriveOut s gen group vec) := by
  unfold arriveOut
  repeat' first
    | with_reducible assumption
    | fail_if_no_progress (with_reducible refine steady_mk ?_ rfl rfl)
    | with_reducible refine modOut_steady ?_

theorem tryFinishMvm_steady {s : State} {op : Nat} (hs : Steady A s₀ s) :
    Steady A s₀ (tryFinishMvm s op) := by
  unfold tryFinishMvm
  repeat' first
    | with_reducible assumption
    | with_reducible refine finishOp_steady ?_
    | with_reducible refine steady_ite (fun _ => ?_) (fun _ => ?_)
    | split

theorem modFlight_steady {s : State} {gen : Nat} {op : Nat} {f : InFlight → InFlight} (hs : Steady A s₀ s) :
    Steady A s₀ (modFlight s gen op f) := by
  unfold modFlight
  repeat' first
    | with_reducible assumption
    | fail_if_no_progress (with_reducible refine steady_mk ?_ rfl rfl)
    | with_reducible refine modGen_steady ?_

theorem checkReported_steady {s : State} {gen : Nat} {op : Nat} (hs : Steady A s₀ s) :
    Steady A s₀ (checkReported s gen op) := by
  unfold checkReported
  repeat' first
    | with_reducible assumption
    | fail_if_no_progress (with_reducible refine steady_mk ?_ rfl rfl)
    | with_reducible refine tryFinishMvm_steady ?_
    | with_reducible refine modFlight_steady ?_

theorem markOverflow_steady {s : State} {f : PlanFrame} {index : Nat} (hs : Steady A s₀ s) :
    Steady A s₀ (markOverflow s f index) := by
  unfold markOverflow
  repeat' first
    | with_reducible assumption
    | fail_if_no_progress (with_reducible refine steady_mk ?_ rfl rfl)
    | with_reducible refine noteObservation_steady ?_

theorem vectorIssued_steady {s : State} {gen : Nat} {op : Nat} {checks : Nat} (hs : Steady A s₀ s) :
    Steady A s₀ (vectorIssued s gen op checks) := by
  unfold vectorIssued
  repeat' first
    | with_reducible assumption
    | fail_if_no_progress (with_reducible refine steady_mk ?_ rfl rfl)
    | with_reducible refine modFlight_steady ?_

theorem runPass_steady {s : State} {f : PlanFrame} {d : Desc} {vec : Nat} {lanes : List Int} {high : Bool} (hs : Steady A s₀ s) :
    Steady A s₀ (runPass s f d vec lanes high) := by
  unfold runPass
  repeat' first
    | with_reducible assumption
    | fail_if_no_progress (with_reducible refine steady_mk ?_ rfl rfl)
    | with_reducible refine tally_steady ?_
    | with_reducible refine arriveOut_steady ?_
    | with_reducible refine active_steady ?_
    | with_reducible refine modGen_steady ?_
    | with_reducible refine addSums_steady ?_
    | with_reducible refine draw_steady ?_
    | with_reducible refine modFlight_steady ?_
    | with_reducible refine steady_ite (fun _ => ?_) (fun _ => ?_)

theorem issueAnalogue_steady {s : State} {f : PlanFrame} {t : Template} {d : Desc} {vec : Nat} {a8 : List Int} {rec : OutRecord} (hs : Steady A s₀ s) :
    Steady A s₀ (issueAnalogue s f t d vec a8 rec) := by
  unfold issueAnalogue
  repeat' first
    | with_reducible assumption
    | fail_if_no_progress (with_reducible refine steady_mk ?_ rfl rfl)
    | with_reducible refine ensureOut_steady ?_
    | with_reducible refine modOut_steady ?_
    | with_reducible refine addSums_steady ?_
    | with_reducible refine raise_steady ?_
    | with_reducible refine modTile_steady ?_
    | with_reducible refine active_steady ?_
    | with_reducible refine tally_steady ?_
    | with_reducible refine markOverflow_steady ?_
    | with_reducible refine noteShares_steady ?_
    | with_reducible refine vectorIssued_steady ?_
    | with_reducible refine runPass_steady ?_
    | with_reducible refine tryFinishMvm_steady ?_
    | with_reducible refine steady_ite (fun _ => ?_) (fun _ => ?_)

theorem issueReference_steady {s : State} {f : PlanFrame} {t : Template} {d : Desc} {vec : Nat} {a8 : List Int} {rec : OutRecord} (hs : Steady A s₀ s) :
    Steady A s₀ (issueReference s f t d vec a8 rec) := by
  unfold issueReference
  repeat' first
    | with_reducible assumption
    | with_reducible refine ensureOut_steady ?_
    | with_reducible refine addSums_steady ?_
    | with_reducible refine vectorIssued_steady ?_
    | with_reducible refine tryFinishMvm_steady ?_
    | with_reducible refine arriveOut_steady ?_

theorem issueVector_steady {s : State} {op : Nat} {vec : Nat} (hs : Steady A s₀ s) :
    Steady A s₀ (issueVector s op vec) := by
  unfold issueVector
  repeat' first
    | with_reducible assumption
    | with_reducible refine useOperands_steady ?_
    | with_reducible refine issueReference_steady ?_
    | with_reducible refine issueAnalogue_steady ?_
    | with_reducible refine steady_ite (fun _ => ?_) (fun _ => ?_)
    | split

theorem execMvm_steady {op : Fin 1048576} {vec : Fin 1562} {cyc : Nat} {s : State} (hs : Steady A s₀ s) :
    SteadyR A s₀ (execMvm op vec cyc s) := by
  unfold execMvm
  repeat' first
    | with_reducible assumption
    | with_reducible refine steadyR_next ?_
    | with_reducible refine issueVector_steady ?_
    | with_reducible refine atCycle_steady ?_

theorem addDrift_steady {s : State} {m : MvmRun} (hs : Steady A s₀ s) :
    Steady A s₀ (addDrift s m) := by
  unfold addDrift
  repeat' first
    | with_reducible assumption
    | fail_if_no_progress (with_reducible refine steady_mk ?_ rfl rfl)
    | with_reducible refine modArr_steady ?_

theorem deliverRun_steady {s : State} {m : MvmRun} {phases : List (Int × Int)} (hs : Steady A s₀ s) :
    Steady A s₀ (deliverRun s m phases) := by
  unfold deliverRun
  repeat' first
    | with_reducible assumption
    | with_reducible refine arriveOut_steady ?_
    | with_reducible refine addSums_steady ?_

theorem dropRun_steady {s : State} {m : MvmRun} (hs : Steady A s₀ s) :
    Steady A s₀ (dropRun s m) := by
  unfold dropRun
  repeat' first
    | with_reducible assumption
    | fail_if_no_progress (with_reducible refine steady_mk ?_ rfl rfl)

theorem queueSuspect_steady {s : State} {q : Suspect} (hs : Steady A s₀ s) :
    Steady A s₀ (queueSuspect s q) := by
  unfold queueSuspect
  repeat' first
    | with_reducible assumption
    | fail_if_no_progress (with_reducible refine steady_mk ?_ rfl rfl)
    | with_reducible refine tally_steady ?_
    | with_reducible refine active_steady ?_
    | with_reducible refine modOut_steady ?_
    | with_reducible refine parityError_steady ?_
    | with_reducible refine enterQueue_steady ?_ (fun _ _ => ?_)
    | with_reducible refine modTile_steady ?_
    | with_reducible refine steady_ite (fun _ => ?_) (fun _ => ?_)

theorem writeOutput_steady {s : State} {o : GroupOut} (hs : Steady A s₀ s) :
    Steady A s₀ (writeOutput s o) := by
  unfold writeOutput
  repeat' first
    | with_reducible assumption
    | with_reducible refine writeTile_steady ?_
    | with_reducible refine active_steady ?_

theorem correctOutput_steady {s : State} {gen : Nat} {group : Nat} {vec : Nat} {diffs : List Int} (hs : Steady A s₀ s) :
    Steady A s₀ (correctOutput s gen group vec diffs) := by
  unfold correctOutput
  repeat' first
    | with_reducible assumption
    | with_reducible refine addSums_steady ?_
    | with_reducible refine writeOutput_steady ?_
    | with_reducible refine steady_ite (fun _ => ?_) (fun _ => ?_)
    | split
    | (dsimp only; split)

theorem prismVerdict_steady {s : State} {q : Suspect} (hs : Steady A s₀ s) :
    Steady A s₀ (prismVerdict s q) := by
  unfold prismVerdict
  repeat' first
    | with_reducible assumption
    | fail_if_no_progress (with_reducible refine steady_mk ?_ rfl rfl)
    | with_reducible refine modOut_steady ?_
    | with_reducible refine tally_steady ?_
    | with_reducible refine noteExc_steady ?_
    | with_reducible refine raise_steady ?_
    | with_reducible refine regenerate_steady ?_
    | with_reducible refine correctOutput_steady ?_
    | with_reducible refine modArr_steady ?_
    | with_reducible refine raiseCharged_steady ?_
    | with_reducible refine failCheck_steady ?_
    | with_reducible refine noteLevel_steady ?_
    | with_reducible refine quarantineArray_steady ?_
    | with_reducible refine steady_foldl ?_ (fun _ _ _ => ?_)
    | with_reducible refine steady_ite (fun _ => ?_) (fun _ => ?_)

theorem settleHead_steady {s : State} {tile : Nat} {res : Option ResidueErr} (hs : Steady A s₀ s) :
    Steady A s₀ (settleHead s tile res) := by
  unfold settleHead
  repeat' first
    | with_reducible assumption
    | fail_if_no_progress (with_reducible refine steady_mk ?_ rfl rfl)
    | with_reducible refine modTile_steady ?_
    | with_reducible refine tally_steady ?_
    | with_reducible refine noteExc_steady ?_
    | with_reducible refine machineryError_steady ?_
    | with_reducible refine prismVerdict_steady ?_
    | split

theorem execPrismArbitration_steady {tile : TileId} {res : Option ResidueErr} {cyc : Nat} {s : State} (hs : Steady A s₀ s) :
    SteadyR A s₀ (execPrismArbitration tile res cyc s) := by
  unfold execPrismArbitration
  repeat' first
    | with_reducible assumption
    | with_reducible refine steadyR_next ?_
    | with_reducible refine settleHead_steady ?_
    | with_reducible refine atCycle_steady ?_

theorem takeReport_steady {s : State} {m : MvmRun} {r : LoupeReport} {phases : List (Int × Int)} {split : Bool} (hs : Steady A s₀ s) :
    Steady A s₀ (takeReport s m r phases split) := by
  unfold takeReport
  repeat' first
    | with_reducible assumption
    | fail_if_no_progress (with_reducible refine steady_mk ?_ rfl rfl)
    | with_reducible refine queueSuspect_steady ?_
    | with_reducible refine prismVerdict_steady ?_
    | with_reducible refine tally_steady ?_
    | with_reducible refine checkReported_steady ?_
    | with_reducible refine steady_ite (fun _ => ?_) (fun _ => ?_)

theorem splitResult_steady {s : State} {m : MvmRun} (hs : Steady A s₀ s) :
    Steady A s₀ (splitResult s m) := by
  unfold splitResult
  repeat' first
    | with_reducible assumption
    | with_reducible refine deliverRun_steady ?_
    | with_reducible refine dropRun_steady ?_
    | with_reducible refine takeReport_steady ?_

theorem normalResult_steady {s : State} {m : MvmRun} {slots : List (Fin 1562)} (hs : Steady A s₀ s) :
    Steady A s₀ (normalResult s m slots) := by
  unfold normalResult
  repeat' first
    | with_reducible assumption
    | fail_if_no_progress (with_reducible refine steady_mk ?_ rfl rfl)
    | with_reducible refine addDrift_steady ?_
    | with_reducible refine deliverRun_steady ?_
    | with_reducible refine dropRun_steady ?_
    | with_reducible refine takeReport_steady ?_
    | with_reducible refine modTile_steady ?_
    | with_reducible refine tally_steady ?_
    | with_reducible refine active_steady ?_
    | with_reducible refine noteShares_steady ?_
    | with_reducible refine steady_ite (fun _ => ?_) (fun _ => ?_)

theorem execMvmResult_steady {tile : TileId} {arr : ArrIdx} {slots : List (Fin 1562)} {cyc : Nat} {s : State} (hs : Steady A s₀ s) :
    SteadyR A s₀ (execMvmResult tile arr slots cyc s) := by
  unfold execMvmResult
  repeat' first
    | with_reducible assumption
    | with_reducible refine steadyR_next ?_
    | with_reducible refine atCycle_steady ?_
    | with_reducible refine splitResult_steady ?_
    | with_reducible refine normalResult_steady ?_
    | with_reducible refine steady_ite (fun _ => ?_) (fun _ => ?_)
    | split

theorem execSplitRerun_steady {tile : TileId} {arr : ArrIdx} {cyc : Nat} {s : State} (hs : Steady A s₀ s) :
    SteadyR A s₀ (execSplitRerun tile arr cyc s) := by
  unfold execSplitRerun
  repeat' first
    | with_reducible assumption
    | with_reducible refine steadyR_next ?_
    | with_reducible refine atCycle_steady ?_
    | with_reducible refine splitResult_steady ?_
    | with_reducible refine active_steady ?_
    | split

theorem noteNonFiniteRow_steady {s : State} {gen : Nat} {t : Nat} {op : Nat} {fl : Option (Nat × Nat × Nat)} (hs : Steady A s₀ s) :
    Steady A s₀ (noteNonFiniteRow s gen t op fl) := by
  unfold noteNonFiniteRow
  repeat' first
    | with_reducible assumption
    | fail_if_no_progress (with_reducible refine steady_mk ?_ rfl rfl)
    | with_reducible refine modGen_steady ?_
    | with_reducible refine noteNonFinite_steady ?_
    | with_reducible refine steady_ite (fun _ => ?_) (fun _ => ?_)
    | split

theorem convertOutput_steady {s : State} {o : GroupOut} (hs : Steady A s₀ s) :
    Steady A s₀ (convertOutput s o) := by
  unfold convertOutput
  repeat' first
    | with_reducible assumption
    | fail_if_no_progress (with_reducible refine steady_mk ?_ rfl rfl)
    | with_reducible refine tally_steady ?_
    | with_reducible refine noteNonFiniteRow_steady ?_
    | with_reducible refine writeOutput_steady ?_
    | with_reducible refine noteFloats_steady ?_
    | with_reducible refine noteShares_steady ?_
    | with_reducible refine modOut_steady ?_
    | with_reducible refine tryFinishMvm_steady ?_
    | with_reducible refine steady_foldl ?_ (fun _ _ _ => ?_)

theorem execOutputConversion_steady {tile : TileId} {group : Half} {vec : Fin 1562} {s : State} (hs : Steady A s₀ s) :
    SteadyR A s₀ (execOutputConversion tile group vec s) := by
  unfold execOutputConversion
  repeat' first
    | with_reducible assumption
    | with_reducible refine steadyR_next ?_
    | with_reducible refine convertOutput_steady ?_
    | with_reducible refine steady_ite (fun _ => ?_) (fun _ => ?_)
    | split

theorem execEventQueueEntry_steady {tile : TileId} {e : QueueEvent} {cyc : Nat} {s : State} (hs : Steady A s₀ s) :
    SteadyR A s₀ (execEventQueueEntry tile e cyc s) := by
  unfold execEventQueueEntry
  repeat' first
    | with_reducible assumption
    | with_reducible refine steadyR_next ?_
    | with_reducible refine atCycle_steady ?_
    | with_reducible refine enterQueue_steady ?_ (fun _ _ => ?_)
    | with_reducible refine machineryError_steady ?_
    | with_reducible refine residueMismatch_steady ?_
    | with_reducible refine poisonConsumed_steady ?_
    | with_reducible refine noteLevel_steady ?_
    | with_reducible refine failCheck_steady ?_
    | with_reducible refine steady_ite (fun _ => ?_) (fun _ => ?_)
    | split

theorem execCheckDeadlineExpiry_steady {tile : TileId} {op : Fin 1048576} {cyc : Nat} {s : State} (hs : Steady A s₀ s) :
    SteadyR A s₀ (execCheckDeadlineExpiry tile op cyc s) := by
  unfold execCheckDeadlineExpiry
  repeat' first
    | with_reducible assumption
    | with_reducible refine steadyR_next ?_
    | with_reducible refine atCycle_steady ?_
    | with_reducible refine enterQueue_steady ?_ (fun _ _ => ?_)
    | with_reducible refine noteLevel_steady ?_
    | with_reducible refine failCheck_steady ?_
    | with_reducible refine steady_ite (fun _ => ?_) (fun _ => ?_)
    | split

theorem applyReads_steady {s : State} {k : Nat} {reads : List CellRead} (hcells : A.cells = true) (hs : Steady A s₀ s) :
    Steady A s₀ (applyReads s k reads) := by
  unfold applyReads
  repeat' first
    | with_reducible assumption
    | with_reducible refine setLevel_steady hcells ?_
    | with_reducible refine steady_foldl ?_ (fun _ _ _ => ?_)

theorem readbackSlot_steady {s : State} {k : Nat} {slot : Nat} {reads : List CellRead} (hcells : A.cells = true) (hs : Steady A s₀ s) :
    Steady A s₀ (readbackSlot s k slot reads) := by
  unfold readbackSlot
  repeat' first
    | with_reducible assumption
    | fail_if_no_progress (with_reducible refine steady_mk ?_ rfl rfl)
    | with_reducible refine applyReads_steady hcells ?_
    | with_reducible refine modArr_steady ?_
    | with_reducible refine setVectors_steady ?_
    | with_reducible refine addExc_steady ?_
    | with_reducible refine raise_steady ?_
    | with_reducible refine steady_foldl ?_ (fun _ _ _ => ?_)
    | with_reducible refine steady_ite (fun _ => ?_) (fun _ => ?_)

theorem execVectorReadbackSlot_steady {tile : TileId} {arr : ArrIdx} {reads : List CellRead} {s : State} (hcells : A.cells = true) (hs : Steady A s₀ s) :
    SteadyR A s₀ (execVectorReadbackSlot tile arr reads s) := by
  unfold execVectorReadbackSlot
  repeat' first
    | with_reducible assumption
    | with_reducible refine steadyR_next ?_
    | with_reducible refine readbackSlot_steady hcells ?_
    | split

theorem scanArray_steady {s : State} {version : Nat} {k : Nat} (hs : Steady A s₀ s) :
    Steady A s₀ (scanArray s version k) := by
  unfold scanArray
  repeat' first
    | with_reducible assumption
    | fail_if_no_progress (with_reducible refine steady_mk ?_ rfl rfl)
    | with_reducible refine modArr_steady ?_
    | with_reducible refine raise_steady ?_
    | with_reducible refine steady_foldl ?_ (fun _ _ _ => ?_)
    | with_reducible refine steady_ite (fun _ => ?_) (fun _ => ?_)

theorem execProgrammingSpanStart_steady {s : State} (hs : Steady A s₀ s) :
    SteadyR A s₀ (execProgrammingSpanStart s) := by
  unfold execProgrammingSpanStart
  repeat' first
    | with_reducible assumption
    | fail_if_no_progress (with_reducible refine steady_mk ?_ rfl rfl)
    | with_reducible refine steadyR_next ?_
    | with_reducible refine scanArray_steady ?_
    | with_reducible refine steady_foldl ?_ (fun _ _ _ => ?_)
    | with_reducible refine steady_ite (fun _ => ?_) (fun _ => ?_)
    | split

theorem programOp_steady {f : PlanFrame} {u1 : Template} {d : Desc} {s : State} (hs : Steady A s₀ s) :
    Steady A s₀ (programOp f u1 d s) := by
  unfold programOp
  repeat' first
    | with_reducible assumption
    | fail_if_no_progress (with_reducible refine steady_mk ?_ rfl rfl)
    | with_reducible refine modTile_steady ?_
    | with_reducible refine steady_ite (fun _ => ?_) (fun _ => ?_)

theorem execProgram_steady {op : Fin 1048576} {cyc : Nat} {s : State} (hs : Steady A s₀ s) :
    SteadyR A s₀ (execProgram op cyc s) := by
  unfold execProgram
  repeat' first
    | with_reducible assumption
    | with_reducible refine steadyR_next ?_
    | with_reducible refine withOp_steady ?_ (fun _ _ _ _ _ => ?_)
    | with_reducible refine atCycle_steady ?_
    | with_reducible refine programOp_steady ?_

theorem startRow_steady {s : State} {k : Nat} (hs : Steady A s₀ s) :
    Steady A s₀ (startRow s k) := by
  unfold startRow
  repeat' first
    | with_reducible assumption
    | fail_if_no_progress (with_reducible refine steady_mk ?_ rfl rfl)
    | with_reducible refine modTile_steady ?_
    | with_reducible refine modArr_steady ?_
    | with_reducible refine steady_ite (fun _ => ?_) (fun _ => ?_)
    | split

theorem pulseSlot_steady {s : State} {k : Nat} {job : RowJob} {meas : List CellMeasure} (hcells : A.cells = true) (hs : Steady A s₀ s) :
    Steady A s₀ (pulseSlot s k job meas) := by
  unfold pulseSlot
  repeat' first
    | with_reducible assumption
    | fail_if_no_progress (with_reducible refine steady_mk ?_ rfl rfl)
    | with_reducible refine setLevel_steady hcells ?_
    | with_reducible refine active_steady ?_
    | with_reducible refine modArr_steady ?_
    | with_reducible refine steady_foldl ?_ (fun _ _ _ => ?_)

theorem returnReserve_steady {s : State} {k : Nat} {job : RowJob} (hs : Steady A s₀ s) :
    Steady A s₀ (returnReserve s k job) := by
  unfold returnReserve
  repeat' first
    | with_reducible assumption
    | fail_if_no_progress (with_reducible refine steady_mk ?_ rfl rfl)
    | with_reducible refine modTile_steady ?_
    | with_reducible refine steady_ite (fun _ => ?_) (fun _ => ?_)

theorem settleFailure_steady {s : State} {k : Nat} (hs : Steady A s₀ s) :
    Steady A s₀ (settleFailure s k) := by
  unfold settleFailure
  repeat' first
    | with_reducible assumption
    | with_reducible refine charge_steady ?_
    | with_reducible refine quarantineL2_steady ?_

theorem pinWeight_steady {s : State} {k : Nat} {row : Nat} {col : Nat} (hs : Steady A s₀ s) :
    Steady A s₀ (pinWeight s k row col) := by
  unfold pinWeight
  repeat' first
    | with_reducible assumption
    | fail_if_no_progress (with_reducible refine steady_mk ?_ rfl rfl)
    | with_reducible refine raise_steady ?_
    | with_reducible refine modArr_steady ?_
    | with_reducible refine raiseCharged_steady ?_
    | with_reducible refine steady_ite (fun _ => ?_) (fun _ => ?_)

theorem endRow_steady {s : State} {k : Nat} {job : RowJob} (hs : Steady A s₀ s) :
    Steady A s₀ (endRow s k job) := by
  unfold endRow
  repeat' first
    | with_reducible assumption
    | fail_if_no_progress (with_reducible refine steady_mk ?_ rfl rfl)
    | with_reducible refine returnReserve_steady ?_
    | with_reducible refine modArr_steady ?_

theorem readSlot_steady {s : State} {k : Nat} {job : RowJob} {meas : List CellMeasure} (hcells : A.cells = true) (hs : Steady A s₀ s) :
    Steady A s₀ (readSlot s k job meas) := by
  unfold readSlot
  repeat' first
    | with_reducible assumption
    | fail_if_no_progress (with_reducible refine steady_mk ?_ rfl rfl)
    | with_reducible refine setLevel_steady hcells ?_
    | with_reducible refine settled_steady ?_
    | with_reducible refine pinWeight_steady ?_
    | with_reducible refine endRow_steady ?_
    | with_reducible refine settleFailure_steady ?_
    | with_reducible refine modArr_steady ?_
    | with_reducible refine steady_foldl ?_ (fun _ _ _ => ?_)
    | with_reducible refine steady_ite (fun _ => ?_) (fun _ => ?_)

theorem programmingSlotOn_steady {s : State} {k : Nat} {meas : List CellMeasure} (hcells : A.cells = true) (hs : Steady A s₀ s) :
    Steady A s₀ (programmingSlotOn s k meas) := by
  unfold programmingSlotOn
  repeat' first
    | with_reducible assumption
    | with_reducible refine startRow_steady ?_
    | with_reducible refine readSlot_steady hcells ?_
    | with_reducible refine pulseSlot_steady hcells ?_
    | with_reducible refine steady_ite (fun _ => ?_) (fun _ => ?_)
    | split
    | (dsimp only; split)

theorem execProgrammingSlot_steady {tile : TileId} {arr : ArrIdx} {meas : List CellMeasure} {cyc : Nat} {s : State} (hcells : A.cells = true) (hs : Steady A s₀ s) :
    SteadyR A s₀ (execProgrammingSlot tile arr meas cyc s) := by
  unfold execProgrammingSlot
  repeat' first
    | with_reducible assumption
    | with_reducible refine steadyR_next ?_
    | with_reducible refine atCycle_steady ?_
    | with_reducible refine programmingSlotOn_steady hcells ?_
    | with_reducible refine steady_ite (fun _ => ?_) (fun _ => ?_)

theorem switchRow_steady {s : State} {k : Nat} {sw : RowSwitch} {pos : Nat} (hs : Steady A s₀ s) :
    Steady A s₀ (switchRow s k sw pos) := by
  unfold switchRow
  repeat' first
    | with_reducible assumption
    | fail_if_no_progress (with_reducible refine steady_mk ?_ rfl rfl)
    | with_reducible refine setImageRow_steady ?_
    | with_reducible refine setVectors_steady ?_
    | with_reducible refine modArr_steady ?_

theorem wearTick_steady {s : State} {k : Nat} {frame : Nat} (hs : Steady A s₀ s) :
    Steady A s₀ (wearTick s k frame) := by
  unfold wearTick
  repeat' first
    | with_reducible assumption
    | fail_if_no_progress (with_reducible refine steady_mk ?_ rfl rfl)
    | with_reducible refine modArr_steady ?_
    | with_reducible refine raise_steady ?_
    | with_reducible refine steady_ite (fun _ => ?_) (fun _ => ?_)

theorem refreshTick_steady {s : State} {k : Nat} {frame : Nat} (hs : Steady A s₀ s) :
    Steady A s₀ (refreshTick s k frame) := by
  unfold refreshTick
  repeat' first
    | with_reducible assumption
    | fail_if_no_progress (with_reducible refine steady_mk ?_ rfl rfl)
    | with_reducible refine modArr_steady ?_
    | with_reducible refine steady_ite (fun _ => ?_) (fun _ => ?_)

theorem mordantArrayTick_steady {s : State} {frame : Nat} {pos : Nat} {k : Nat} (hs : Steady A s₀ s) :
    Steady A s₀ (mordantArrayTick s frame pos k) := by
  unfold mordantArrayTick
  repeat' first
    | with_reducible assumption
    | fail_if_no_progress (with_reducible refine steady_mk ?_ rfl rfl)
    | with_reducible refine switchRow_steady ?_
    | with_reducible refine wearTick_steady ?_
    | with_reducible refine modArr_steady ?_
    | with_reducible refine refreshTick_steady ?_
    | with_reducible refine steady_foldl ?_ (fun _ _ _ => ?_)
    | with_reducible refine steady_ite (fun _ => ?_) (fun _ => ?_)
    | split
    | (dsimp only; split)

theorem mordantTick_steady {s : State} {frame : Nat} {pos : Nat} (hs : Steady A s₀ s) :
    Steady A s₀ (mordantTick s frame pos) := by
  unfold mordantTick
  repeat' first
    | with_reducible assumption
    | fail_if_no_progress (with_reducible refine steady_mk ?_ rfl rfl)
    | with_reducible refine mordantArrayTick_steady ?_
    | with_reducible refine modTile_steady ?_
    | with_reducible refine steady_foldl ?_ (fun _ _ _ => ?_)

theorem spanTick_steady {s : State} (hversions : A.versions = true) (hs : Steady A s₀ s) :
    Steady A s₀ (spanTick s) := by
  unfold spanTick
  repeat' first
    | with_reducible assumption
    | fail_if_no_progress (with_reducible refine steady_mk ?_ rfl rfl)
    | fail_if_no_progress (with_reducible refine steady_mk_versions hversions ?_ rfl rfl)
    | with_reducible refine steady_ite (fun _ => ?_) (fun _ => ?_)
    | split

theorem commitDrift_steady {s : State} {gen : Nat} {k : Nat} (hs : Steady A s₀ s) :
    Steady A s₀ (commitDrift s gen k) := by
  unfold commitDrift
  repeat' first
    | with_reducible assumption
    | fail_if_no_progress (with_reducible refine steady_mk ?_ rfl rfl)
    | with_reducible refine modArr_steady ?_
    | with_reducible refine raise_steady ?_
    | with_reducible refine steady_ite (fun _ => ?_) (fun _ => ?_)
    | split
    | (dsimp only; split)

theorem dropDrift_steady {s : State} {gen : Nat} {k : Nat} (hs : Steady A s₀ s) :
    Steady A s₀ (dropDrift s gen k) := by
  unfold dropDrift
  repeat' first
    | with_reducible assumption
    | fail_if_no_progress (with_reducible refine steady_mk ?_ rfl rfl)
    | with_reducible refine modArr_steady ?_

theorem calFailed_steady {s : State} {k : Nat} (hs : Steady A s₀ s) :
    Steady A s₀ (calFailed s k) := by
  unfold calFailed
  repeat' first
    | with_reducible assumption
    | fail_if_no_progress (with_reducible refine steady_mk ?_ rfl rfl)
    | with_reducible refine modArr_steady ?_
    | with_reducible refine charge_steady ?_
    | with_reducible refine quarantineL2_steady ?_
    | with_reducible refine steady_ite (fun _ => ?_) (fun _ => ?_)

theorem calibrate_steady {s : State} {k : Nat} (hs : Steady A s₀ s) :
    Steady A s₀ (calibrate s k) := by
  unfold calibrate
  repeat' first
    | with_reducible assumption
    | fail_if_no_progress (with_reducible refine steady_mk ?_ rfl rfl)
    | with_reducible refine modArr_steady ?_
    | with_reducible refine calFailed_steady ?_
    | with_reducible refine steady_ite (fun _ => ?_) (fun _ => ?_)

theorem execCalibration_steady {tile : TileId} {arr : ArrIdx} {s : State} (hs : Steady A s₀ s) :
    SteadyR A s₀ (execCalibration tile arr s) := by
  unfold execCalibration
  repeat' first
    | with_reducible assumption
    | with_reducible refine steadyR_next ?_
    | with_reducible refine calibrate_steady ?_

theorem arrayTick_steady {s : State} {frame : Nat} {k : Nat} (hs : Steady A s₀ s) :
    Steady A s₀ (arrayTick s frame k) := by
  unfold arrayTick
  repeat' first
    | with_reducible assumption
    | fail_if_no_progress (with_reducible refine steady_mk ?_ rfl rfl)
    | with_reducible refine modArr_steady ?_

theorem copyBytes_steady {s : State} {gen : Nat} {tile : Nat} {op : Nat} {src : Place} {dst : Place} {n : Nat} (hs : Steady A s₀ s) :
    Steady A s₀ (copyBytes s gen tile op src dst n) := by
  unfold copyBytes
  repeat' first
    | with_reducible assumption
    | with_reducible refine countWrite_steady ?_
    | with_reducible refine countRead_steady ?_
    | with_reducible refine placeWrite_steady ?_
    | with_reducible refine checkPoison_steady ?_

theorem transposedCopy_steady {s : State} {gen : Nat} {tile : Nat} {op : Nat} {src : Place} {dst : Place} {d : Desc} (hs : Steady A s₀ s) :
    Steady A s₀ (transposedCopy s gen tile op src dst d) := by
  unfold transposedCopy
  repeat' first
    | with_reducible assumption
    | with_reducible refine countWrite_steady ?_
    | with_reducible refine countRead_steady ?_
    | with_reducible refine checkPoison_steady ?_
    | with_reducible refine placeWrite_steady ?_

theorem issuePrefetch_steady {s : State} {t : Template} {f : PlanFrame} {d : Desc} {dst : Place} (hs : Steady A s₀ s) :
    Steady A s₀ (issuePrefetch s t f d dst) := by
  unfold issuePrefetch
  repeat' first
    | with_reducible assumption
    | fail_if_no_progress (with_reducible refine steady_mk ?_ rfl rfl)

theorem dmaOp_steady {f : PlanFrame} {t : Template} {d : Desc} {s : State} (hs : Steady A s₀ s) :
    Steady A s₀ (dmaOp f t d s) := by
  unfold dmaOp
  repeat' first
    | with_reducible assumption
    | with_reducible refine issuePrefetch_steady ?_
    | with_reducible refine transposedCopy_steady ?_
    | with_reducible refine copyBytes_steady ?_
    | with_reducible refine steady_ite (fun _ => ?_) (fun _ => ?_)

theorem execDma_steady {op : Fin 1048576} {cyc : Nat} {s : State} (hs : Steady A s₀ s) :
    SteadyR A s₀ (execDma op cyc s) := by
  unfold execDma
  repeat' first
    | with_reducible assumption
    | with_reducible refine steadyR_next ?_
    | with_reducible refine withOp_steady ?_ (fun _ _ _ _ _ => ?_)
    | with_reducible refine atCycle_steady ?_
    | with_reducible refine dmaOp_steady ?_

theorem offloadBlock_steady {s : State} {op block : Nat} (hs : Steady A s₀ s) : Steady A s₀ (offloadBlock s op block) := by
  unfold offloadBlock
  split
  · refine steady_ite (fun _ => ?_) (fun _ => hs)
    dsimp only
    refine Steady.host ?_ (fun i => writeBytes_wf i)
    exact portBytes_steady (active_steady (countRead_steady (steady_mk hs rfl rfl)))
  · exact hs

theorem execOffloadWrite_steady {op : Fin 1048576} {block : Nat} {cyc : Nat} {s : State} (hs : Steady A s₀ s) :
    SteadyR A s₀ (execOffloadWrite op block cyc s) := by
  unfold execOffloadWrite
  repeat' first
    | with_reducible assumption
    | with_reducible refine steadyR_next ?_
    | with_reducible refine offloadBlock_steady ?_
    | with_reducible refine atCycle_steady ?_

theorem deliverBlock_steady {s : State} {p : Prefetch} {data : List Byte} {poisoned : Bool} (hs : Steady A s₀ s) :
    Steady A s₀ (deliverBlock s p data poisoned) := by
  unfold deliverBlock
  repeat' first
    | with_reducible assumption
    | fail_if_no_progress (with_reducible refine steady_mk ?_ rfl rfl)
    | with_reducible refine writeHbm_steady ?_
    | with_reducible refine writeTile_steady ?_
    | with_reducible refine steady_ite (fun _ => ?_) (fun _ => ?_)

theorem prefetchFailed_steady {s : State} {p : Prefetch} (hs : Steady A s₀ s) :
    Steady A s₀ (prefetchFailed s p) := by
  unfold prefetchFailed
  repeat' first
    | with_reducible assumption
    | fail_if_no_progress (with_reducible refine steady_mk ?_ rfl rfl)
    | with_reducible refine raise_steady ?_
    | with_reducible refine deliverBlock_steady ?_
    | with_reducible refine steady_ite (fun _ => ?_) (fun _ => ?_)

theorem execPrefetchCompletion_steady {block : Nat} {bytes : List Byte} {completed : Bool} {cyc : Nat} {s : State} (hs : Steady A s₀ s) :
    SteadyR A s₀ (execPrefetchCompletion block bytes completed cyc s) := by
  unfold execPrefetchCompletion
  repeat' first
    | with_reducible assumption
    | with_reducible refine steadyR_next ?_
    | with_reducible refine portBytes_steady ?_
    | with_reducible refine active_steady ?_
    | with_reducible refine atCycle_steady ?_
    | with_reducible refine deliverBlock_steady ?_
    | with_reducible refine countCorrected_steady ?_
    | with_reducible refine prefetchFailed_steady ?_
    | with_reducible refine steady_ite (fun _ => ?_) (fun _ => ?_)
    | split

theorem execPrefetchTimeout_steady {block : Nat} {cyc : Nat} {s : State} (hs : Steady A s₀ s) :
    SteadyR A s₀ (execPrefetchTimeout block cyc s) := by
  unfold execPrefetchTimeout
  repeat' first
    | with_reducible assumption
    | with_reducible refine steadyR_next ?_
    | with_reducible refine atCycle_steady ?_
    | with_reducible refine prefetchFailed_steady ?_
    | split

theorem setCtxWord_steady {s : State} {mode : WriteMode} {n : Nat} {off : Nat} {w : Nat} (hs : Steady A s₀ s) :
    Steady A s₀ (setCtxWord s mode n off w) := by
  unfold setCtxWord
  repeat' first
    | with_reducible assumption
    | with_reducible refine writeHbm_steady ?_

theorem setCtxState_steady {s : State} {mode : WriteMode} {n : Nat} {st : Nat} {reason : Nat} (hs : Steady A s₀ s) :
    Steady A s₀ (setCtxState s mode n st reason) := by
  unfold setCtxState
  repeat' first
    | with_reducible assumption
    | with_reducible refine setCtxWord_steady ?_

theorem setDirEntry_steady {s : State} {page : Nat} {i : Nat} {v : Nat} (hs : Steady A s₀ s) :
    Steady A s₀ (setDirEntry s page i v) := by
  unfold setDirEntry
  repeat' first
    | with_reducible assumption
    | with_reducible refine writeHbm_steady ?_

theorem takePage_steady {s : State} {fill : Nat} (hs : Steady A s₀ s) : ∀ x, takePage s fill = some x → Steady A s₀ x.1 := by
  intro x hx
  simp only [takePage, Option.map_eq_some_iff] at hx
  obtain ⟨p, _, rfl⟩ := hx
  exact writeHbm_steady (steady_mk hs rfl rfl)

theorem takeBlock_steady {s : State} (hs : Steady A s₀ s) : ∀ x, takeBlock s = some x → Steady A s₀ x.1 := by
  intro x hx
  simp only [takeBlock, Option.map_eq_some_iff] at hx
  obtain ⟨p, _, rfl⟩ := hx
  exact steady_mk hs rfl rfl

theorem ensureLeaf_steady {s : State} {root i : Nat} (hs : Steady A s₀ s) : ∀ x, ensureLeaf s root i = some x → Steady A s₀ x.1 := by
  intro x hx
  simp only [ensureLeaf] at hx
  split at hx
  · cases hx; exact hs
  · simp only [Option.map_eq_some_iff] at hx
    obtain ⟨p, hp, rfl⟩ := hx
    exact setDirEntry_steady (takePage_steady hs _ hp)

theorem ensureKv_steady {s : State} {n pos : Nat} (hs : Steady A s₀ s) : ∀ x, ensureKv s n pos = some x → Steady A s₀ x := by
  intro x hx
  simp only [ensureKv] at hx
  split at hx
  · cases hx; exact hs
  · simp only [Option.bind_eq_some_iff] at hx
    obtain ⟨p, hp, hq⟩ := hx
    have k := ensureLeaf_steady hs _ hp
    split at hq
    · cases hq; exact k
    · simp only [Option.map_eq_some_iff] at hq
      obtain ⟨q, hq, rfl⟩ := hq
      exact setDirEntry_steady (takeBlock_steady k _ hq)

theorem ensureToken_steady {s : State} {n pos : Nat} (hs : Steady A s₀ s) : ∀ x, ensureToken s n pos = some x → Steady A s₀ x := by
  intro x hx
  simp only [ensureToken, Option.bind_eq_some_iff] at hx
  obtain ⟨p, hp, hq⟩ := hx
  have k := ensureLeaf_steady hs _ hp
  split at hq
  · cases hq; exact k
  · simp only [Option.map_eq_some_iff] at hq
    obtain ⟨q, hq, rfl⟩ := hq
    exact setDirEntry_steady (takePage_steady k _ hq)

theorem releaseHeld_steady {s : State} {n : Nat} (hs : Steady A s₀ s) :
    Steady A s₀ (releaseHeld s n) := by
  unfold releaseHeld
  repeat' first
    | with_reducible assumption
    | fail_if_no_progress (with_reducible refine steady_mk ?_ rfl rfl)

theorem grantContext_steady {s : State} {n : Nat} (hs : Steady A s₀ s) : Steady A s₀ (grantContext s n).1 := by
  simp only [grantContext]
  split
  · split
    · rename_i t ht
      obtain ⟨u, hu, hv⟩ := Option.bind_eq_some_iff.mp ht
      have k := ensureToken_steady (ensureKv_steady hs _ hu) _ hv
      exact steady_ite (fun _ => setCtxState_steady k) (fun _ => k)
    · exact setCtxState_steady hs
  · exact hs

theorem grantTick_steady {s : State} {t : Template} (hs : Steady A s₀ s) : Steady A s₀ (grantTick s t) := by
  have key : ∀ (l : List Nat) (acc : State × Nat), Steady A s₀ acc.1 → Steady A s₀ (l.foldl (fun acc n =>
      match grantContext acc.1 n with
      | (s, b) => (s, acc.2 + bitNat b)) acc).1 := by
    intro l
    induction l with
    | nil => exact fun _ h => h
    | cons n l ih => exact fun acc h => ih _ (grantContext_steady h)
  unfold grantTick
  have k := key (stepContexts t) (s, 0) hs
  exact steady_ite (fun _ => k) (fun _ => raise_steady k)

theorem attendOp_steady {res : Option ResidueErr} {f : PlanFrame} {t : Template} {d : Desc} {s : State} (hs : Steady A s₀ s) :
    Steady A s₀ (attendOp res f t d s) := by
  unfold attendOp
  repeat' first
    | with_reducible assumption
    | with_reducible refine useOperands_steady ?_
    | with_reducible refine placeWrite_steady ?_
    | with_reducible refine noteFloats_steady ?_
    | with_reducible refine checkResidue_steady ?_
    | with_reducible refine noteNonFinite_steady ?_

theorem execAttend_steady {op : Fin 1048576} {res : Option ResidueErr} {cyc : Nat} {s : State} (hs : Steady A s₀ s) :
    SteadyR A s₀ (execAttend op res cyc s) := by
  unfold execAttend
  repeat' first
    | with_reducible assumption
    | with_reducible refine steadyR_next ?_
    | with_reducible refine withOp_steady ?_ (fun _ _ _ _ _ => ?_)
    | with_reducible refine atCycle_steady ?_
    | with_reducible refine attendOp_steady ?_

theorem appendToken_steady {s : State} {f : PlanFrame} {n : Nat} {tok : Nat} {lp : Word} (hs : Steady A s₀ s) :
    Steady A s₀ (appendToken s f n tok lp) := by
  unfold appendToken
  repeat' first
    | with_reducible assumption
    | with_reducible refine writeHbm_steady ?_
    | with_reducible refine setCtxWord_steady ?_
    | with_reducible refine steady_ite (fun _ => ?_) (fun _ => ?_)
    | split

theorem sampleContext_steady {f : PlanFrame} {d : Desc} {p : Place} {src : Desc} {v : Nat} {s : State} {i : Nat} (hs : Steady A s₀ s) :
    Steady A s₀ (sampleContext f d p src v s i) := by
  unfold sampleContext
  repeat' first
    | with_reducible assumption
    | with_reducible refine setCtxState_steady ?_
    | with_reducible refine appendToken_steady ?_
    | with_reducible refine steady_ite (fun _ => ?_) (fun _ => ?_)
    | split
    | (dsimp only; split)

theorem sampleOp_steady {res : Option ResidueErr} {f : PlanFrame} {t : Template} {d : Desc} {s : State} (hs : Steady A s₀ s) :
    Steady A s₀ (sampleOp res f t d s) := by
  unfold sampleOp
  repeat' first
    | with_reducible assumption
    | with_reducible refine useOperands_steady ?_
    | with_reducible refine sampleContext_steady ?_
    | with_reducible refine checkResidue_steady ?_
    | with_reducible refine noteNonFinite_steady ?_
    | with_reducible refine steady_foldl ?_ (fun _ _ _ => ?_)
    | with_reducible refine steady_ite (fun _ => ?_) (fun _ => ?_)
    | split

theorem execSample_steady {op : Fin 1048576} {res : Option ResidueErr} {cyc : Nat} {s : State} (hs : Steady A s₀ s) :
    SteadyR A s₀ (execSample op res cyc s) := by
  unfold execSample
  repeat' first
    | with_reducible assumption
    | with_reducible refine steadyR_next ?_
    | with_reducible refine withOp_steady ?_ (fun _ _ _ _ _ => ?_)
    | with_reducible refine atCycle_steady ?_
    | with_reducible refine sampleOp_steady ?_

theorem aluOp_steady {s : State} {k : Nat} {d : Nat} {f : UpdEngine → Nat → FVal} (hs : Steady A s₀ s) :
    Steady A s₀ (aluOp s k d f) := by
  unfold aluOp
  repeat' first
    | with_reducible assumption
    | with_reducible refine modEngine_steady ?_

theorem moveOp_steady {s : State} {k : Nat} {d : Nat} {f : UpdEngine → Nat → Word} (hs : Steady A s₀ s) :
    Steady A s₀ (moveOp s k d f) := by
  unfold moveOp
  repeat' first
    | with_reducible assumption
    | with_reducible refine modEngine_steady ?_

theorem enterGroup_steady {s : State} {p : PlanImage} {k : Nat} {pass : Nat} {pos : Nat} (hs : Steady A s₀ s) :
    Steady A s₀ (enterGroup s p k pass pos) := by
  unfold enterGroup
  repeat' first
    | with_reducible assumption
    | fail_if_no_progress (with_reducible refine steady_mk ?_ rfl rfl)
    | with_reducible refine modEngine_steady ?_
    | with_reducible refine steady_ite (fun _ => ?_) (fun _ => ?_)
    | split

theorem advance_steady {s : State} {k : Nat} (hs : Steady A s₀ s) :
    Steady A s₀ (advance s k) := by
  unfold advance
  repeat' first
    | with_reducible assumption
    | fail_if_no_progress (with_reducible refine steady_mk ?_ rfl rfl)
    | with_reducible refine modEngine_steady ?_
    | with_reducible refine steady_ite (fun _ => ?_) (fun _ => ?_)
    | split

theorem enginePoison_steady {s : State} {a : Nat} {n : Nat} (hs : Steady A s₀ s) :
    Steady A s₀ (enginePoison s a n) := by
  unfold enginePoison
  repeat' first
    | with_reducible assumption
    | with_reducible refine poisonConsumed_steady ?_
    | with_reducible refine steady_foldl ?_ (fun _ _ _ => ?_)

theorem loadStream_steady {s : State} {k : Nat} {d : Nat} {stream : Nat} (hs : Steady A s₀ s) :
    Steady A s₀ (loadStream s k d stream) := by
  unfold loadStream
  repeat' first
    | with_reducible assumption
    | with_reducible refine moveOp_steady ?_
    | with_reducible refine draw_steady ?_
    | with_reducible refine stackRead_steady ?_
    | with_reducible refine enginePoison_steady ?_
    | with_reducible refine steady_ite (fun _ => ?_) (fun _ => ?_)
    | split

theorem storeStream_steady {s : State} {k : Nat} {stream : Nat} {a : Nat} (hs : Steady A s₀ s) :
    Steady A s₀ (storeStream s k stream a) := by
  unfold storeStream
  repeat' first
    | with_reducible assumption
    | with_reducible refine writeHbm_steady ?_
    | with_reducible refine steady_foldl ?_ (fun _ _ _ => ?_)
    | with_reducible refine steady_ite (fun _ => ?_) (fun _ => ?_)
    | split

theorem addRed_steady {s : State} {k : Nat} {slot : Nat} {a : Nat} (hs : Steady A s₀ s) :
    Steady A s₀ (addRed s k slot a) := by
  unfold addRed
  repeat' first
    | with_reducible assumption
    | fail_if_no_progress (with_reducible refine steady_mk ?_ rfl rfl)
    | with_reducible refine steady_foldl ?_ (fun _ _ _ => ?_)
    | with_reducible refine steady_ite (fun _ => ?_) (fun _ => ?_)
    | split

theorem copyBank_steady {s : State} {p : PlanImage} {e : BitVec 512} {off : Nat} {n : Nat} (hs : Steady A s₀ s) :
    Steady A s₀ (copyBank s p e off n) := by
  unfold copyBank
  repeat' first
    | with_reducible assumption
    | with_reducible refine stackRead_steady ?_
    | with_reducible refine writeHbm_steady ?_

theorem rootJob_steady {s : State} {p : PlanImage} {e : BitVec 512} {i : Nat} (hs : Steady A s₀ s) :
    Steady A s₀ (rootJob s p e i) := by
  unfold rootJob
  repeat' first
    | with_reducible assumption
    | with_reducible refine writeHbm_steady ?_
    | with_reducible refine raise_steady ?_
    | with_reducible refine copyBank_steady ?_
    | with_reducible refine steady_ite (fun _ => ?_) (fun _ => ?_)
    | split
    | (dsimp only; split)

theorem finishRoots_steady {s : State} {p : PlanImage} {e : BitVec 512} (hs : Steady A s₀ s) :
    Steady A s₀ (finishRoots s p e) := by
  unfold finishRoots
  repeat' first
    | with_reducible assumption
    | with_reducible refine rootJob_steady ?_
    | with_reducible refine copyBank_steady ?_
    | with_reducible refine steady_foldl ?_ (fun _ _ _ => ?_)
    | with_reducible refine steady_ite (fun _ => ?_) (fun _ => ?_)

theorem putDigest_steady {s : State} {group : Nat} {chunk : Nat} {bytes : List Byte} (hs : Steady A s₀ s) :
    Steady A s₀ (putDigest s group chunk bytes) := by
  unfold putDigest
  repeat' first
    | with_reducible assumption
    | fail_if_no_progress (with_reducible refine steady_mk ?_ rfl rfl)

theorem digestChunk_steady {s : State} {p : PlanImage} {e : BitVec 512} {chunk : Nat} (hs : Steady A s₀ s) :
    Steady A s₀ (digestChunk s p e chunk) := by
  unfold digestChunk
  repeat' first
    | with_reducible assumption
    | with_reducible refine putDigest_steady ?_

theorem digestArea_steady {s : State} {p : PlanImage} {e : BitVec 512} (hs : Steady A s₀ s) :
    Steady A s₀ (digestArea s p e) := by
  unfold digestArea
  repeat' first
    | with_reducible assumption
    | with_reducible refine putDigest_steady ?_
    | with_reducible refine steady_foldl ?_ (fun _ _ _ => ?_)

theorem copyChunk_steady {s : State} {p : PlanImage} {e : BitVec 512} {chunk : Nat} (hs : Steady A s₀ s) :
    Steady A s₀ (copyChunk s p e chunk) := by
  unfold copyChunk
  repeat' first
    | with_reducible assumption
    | with_reducible refine copyBank_steady ?_
    | with_reducible refine steady_foldl ?_ (fun _ _ _ => ?_)
    | with_reducible refine steady_ite (fun _ => ?_) (fun _ => ?_)

theorem groupRatio_steady {s : State} {p : PlanImage} {e : BitVec 512} (hs : Steady A s₀ s) :
    Steady A s₀ (groupRatio s p e) := by
  unfold groupRatio
  repeat' first
    | with_reducible assumption
    | fail_if_no_progress (with_reducible refine steady_mk ?_ rfl rfl)
    | with_reducible refine steady_ite (fun _ => ?_) (fun _ => ?_)

theorem finishGroup_steady {s : State} {p : PlanImage} {e : BitVec 512} (hs : Steady A s₀ s) :
    Steady A s₀ (finishGroup s p e) := by
  unfold finishGroup
  repeat' first
    | with_reducible assumption
    | with_reducible refine groupRatio_steady ?_
    | with_reducible refine digestArea_steady ?_
    | with_reducible refine finishRoots_steady ?_
    | with_reducible refine steady_ite (fun _ => ?_) (fun _ => ?_)

theorem completeChunk_steady {s : State} {p : PlanImage} {e : BitVec 512} {pass : Nat} {chunk : Nat} (hs : Steady A s₀ s) :
    Steady A s₀ (completeChunk s p e pass chunk) := by
  unfold completeChunk
  repeat' first
    | with_reducible assumption
    | with_reducible refine finishGroup_steady ?_
    | with_reducible refine digestChunk_steady ?_
    | with_reducible refine copyChunk_steady ?_
    | with_reducible refine steady_ite (fun _ => ?_) (fun _ => ?_)

theorem nextChunk_steady {s : State} {p : PlanImage} {k : Nat} {w : EngineWork} (hs : Steady A s₀ s) :
    Steady A s₀ (nextChunk s p k w) := by
  unfold nextChunk
  repeat' first
    | with_reducible assumption
    | fail_if_no_progress (with_reducible refine steady_mk ?_ rfl rfl)
    | with_reducible refine modEngine_steady ?_
    | with_reducible refine enterGroup_steady ?_
    | with_reducible refine steady_ite (fun _ => ?_) (fun _ => ?_)

theorem execUpdateChunkComplete_steady {st : StackId} {en : Fin 8} {cyc : Nat} {s : State} (hs : Steady A s₀ s) :
    SteadyR A s₀ (execUpdateChunkComplete st en cyc s) := by
  unfold execUpdateChunkComplete
  repeat' first
    | with_reducible assumption
    | with_reducible refine steadyR_next ?_
    | with_reducible refine atCycle_steady ?_
    | with_reducible refine nextChunk_steady ?_
    | with_reducible refine completeChunk_steady ?_
    | with_reducible refine steady_ite (fun _ => ?_) (fun _ => ?_)
    | split
    | (dsimp only; split)

theorem copyGroup_steady {s : State} {p : PlanImage} {e : BitVec 512} (hs : Steady A s₀ s) :
    Steady A s₀ (copyGroup s p e) := by
  unfold copyGroup
  repeat' first
    | with_reducible assumption
    | with_reducible refine copyBank_steady ?_
    | with_reducible refine digestArea_steady ?_
    | with_reducible refine digestChunk_steady ?_
    | with_reducible refine steady_foldl ?_ (fun _ _ _ => ?_)
    | with_reducible refine steady_ite (fun _ => ?_) (fun _ => ?_)

theorem scanGradients_steady {s : State} {p : PlanImage} (hs : Steady A s₀ s) :
    Steady A s₀ (scanGradients s p) := by
  unfold scanGradients
  repeat' first
    | with_reducible assumption
    | fail_if_no_progress (with_reducible refine steady_mk ?_ rfl rfl)
    | with_reducible refine stackRead_steady ?_
    | with_reducible refine enginePoison_steady ?_
    | with_reducible refine copyGroup_steady ?_
    | with_reducible refine raise_steady ?_
    | with_reducible refine enterGroup_steady ?_
    | with_reducible refine steady_foldl ?_ (fun _ _ _ => ?_)
    | with_reducible refine steady_ite (fun _ => ?_) (fun _ => ?_)

theorem execUpdateScan_steady {s : State} (hs : Steady A s₀ s) :
    SteadyR A s₀ (execUpdateScan s) := by
  unfold execUpdateScan
  repeat' first
    | with_reducible assumption
    | with_reducible refine steadyR_next ?_
    | with_reducible refine scanGradients_steady ?_
    | with_reducible refine steady_ite (fun _ => ?_) (fun _ => ?_)
    | split

theorem runWord_steady {s : State} {k : Nat} {w : Word} (hs : Steady A s₀ s) :
    Steady A s₀ (runWord s k w) := by
  unfold runWord
  repeat' first
    | with_reducible assumption
    | with_reducible refine loadStream_steady ?_
    | with_reducible refine storeStream_steady ?_
    | with_reducible refine moveOp_steady ?_
    | with_reducible refine aluOp_steady ?_
    | with_reducible refine addRed_steady ?_
    | with_reducible refine steady_ite (fun _ => ?_) (fun _ => ?_)
    | split

theorem runGroupPass_steady {s : State} {p : PlanImage} {k : Nat} {pass : Nat} {pos : Nat} (hs : Steady A s₀ s) :
    Steady A s₀ (runGroupPass s p k pass pos) := by
  unfold runGroupPass
  repeat' first
    | with_reducible assumption
    | fail_if_no_progress (with_reducible refine steady_mk ?_ rfl rfl)
    | with_reducible refine modEngine_steady ?_
    | with_reducible refine runWord_steady ?_
    | with_reducible refine completeChunk_steady ?_
    | with_reducible refine steady_foldl ?_ (fun _ _ _ => ?_)

theorem runPassAll_steady {s : State} {p : PlanImage} {pass : Nat} (hs : Steady A s₀ s) :
    Steady A s₀ (runPassAll s p pass) := by
  unfold runPassAll
  repeat' first
    | with_reducible assumption
    | with_reducible refine runGroupPass_steady ?_
    | with_reducible refine steady_foldl ?_ (fun _ _ _ => ?_)
    | with_reducible refine steady_ite (fun _ => ?_) (fun _ => ?_)

theorem execUpdateRedo_steady {s : State} (hs : Steady A s₀ s) :
    SteadyR A s₀ (execUpdateRedo s) := by
  unfold execUpdateRedo
  repeat' first
    | with_reducible assumption
    | fail_if_no_progress (with_reducible refine steady_mk ?_ rfl rfl)
    | with_reducible refine steadyR_next ?_
    | with_reducible refine scanGradients_steady ?_
    | with_reducible refine runPassAll_steady ?_
    | with_reducible refine steady_ite (fun _ => ?_) (fun _ => ?_)
    | split
    | (dsimp only; split)

theorem engineResidue_steady {s : State} {st : StackId} {en : Fin 8} {res : Option ResidueErr} (hs : Steady A s₀ s) :
    Steady A s₀ (engineResidue s st en res) := by
  unfold engineResidue
  repeat' first
    | with_reducible assumption
    | with_reducible refine noteExc_steady ?_
    | with_reducible refine raiseCharged_steady ?_
    | with_reducible refine failCheck_steady ?_
    | split

theorem issued_steady {s : State} {st : StackId} {en : Fin 8} {res : Option ResidueErr} (hs : Steady A s₀ s) :
    Steady A s₀ (issued s st en res) := by
  unfold issued
  repeat' first
    | with_reducible assumption
    | with_reducible refine advance_steady ?_
    | with_reducible refine engineResidue_steady ?_

theorem execNop_steady {st : StackId} {en : Fin 8} {s : State} (hs : Steady A s₀ s) :
    SteadyR A s₀ (execNop st en s) := by
  unfold execNop
  repeat' first
    | with_reducible assumption
    | with_reducible refine steadyR_next ?_
    | with_reducible refine issued_steady ?_

theorem execLds_steady {st : StackId} {en : Fin 8} {d : Fin 32} {stream : Fin 8} {cyc : Nat} {s : State} (hs : Steady A s₀ s) :
    SteadyR A s₀ (execLds st en d stream cyc s) := by
  unfold execLds
  repeat' first
    | with_reducible assumption
    | with_reducible refine steadyR_next ?_
    | with_reducible refine issued_steady ?_
    | with_reducible refine loadStream_steady ?_
    | with_reducible refine atCycle_steady ?_

theorem execSts_steady {st : StackId} {en : Fin 8} {stream : Fin 8} {a : Fin 32} {s : State} (hs : Steady A s₀ s) :
    SteadyR A s₀ (execSts st en stream a s) := by
  unfold execSts
  repeat' first
    | with_reducible assumption
    | with_reducible refine steadyR_next ?_
    | with_reducible refine issued_steady ?_
    | with_reducible refine storeStream_steady ?_

theorem execMov_steady {st : StackId} {en : Fin 8} {d : Fin 32} {a : Fin 32} {s : State} (hs : Steady A s₀ s) :
    SteadyR A s₀ (execMov st en d a s) := by
  unfold execMov
  repeat' first
    | with_reducible assumption
    | with_reducible refine steadyR_next ?_
    | with_reducible refine issued_steady ?_
    | with_reducible refine moveOp_steady ?_

theorem execAdd_steady {st : StackId} {en : Fin 8} {d : Fin 32} {a : Fin 32} {b : Fin 32} {res : Option ResidueErr} {s : State} (hs : Steady A s₀ s) :
    SteadyR A s₀ (execAdd st en d a b res s) := by
  unfold execAdd
  repeat' first
    | with_reducible assumption
    | with_reducible refine steadyR_next ?_
    | with_reducible refine issued_steady ?_
    | with_reducible refine aluOp_steady ?_

theorem execSub_steady {st : StackId} {en : Fin 8} {d : Fin 32} {a : Fin 32} {b : Fin 32} {res : Option ResidueErr} {s : State} (hs : Steady A s₀ s) :
    SteadyR A s₀ (execSub st en d a b res s) := by
  unfold execSub
  repeat' first
    | with_reducible assumption
    | with_reducible refine steadyR_next ?_
    | with_reducible refine issued_steady ?_
    | with_reducible refine aluOp_steady ?_

theorem execMul_steady {st : StackId} {en : Fin 8} {d : Fin 32} {a : Fin 32} {b : Fin 32} {res : Option ResidueErr} {s : State} (hs : Steady A s₀ s) :
    SteadyR A s₀ (execMul st en d a b res s) := by
  unfold execMul
  repeat' first
    | with_reducible assumption
    | with_reducible refine steadyR_next ?_
    | with_reducible refine issued_steady ?_
    | with_reducible refine aluOp_steady ?_

theorem execFma_steady {st : StackId} {en : Fin 8} {d : Fin 32} {a : Fin 32} {b : Fin 32} {c : Fin 32} {res : Option ResidueErr} {s : State} (hs : Steady A s₀ s) :
    SteadyR A s₀ (execFma st en d a b c res s) := by
  unfold execFma
  repeat' first
    | with_reducible assumption
    | with_reducible refine steadyR_next ?_
    | with_reducible refine issued_steady ?_
    | with_reducible refine aluOp_steady ?_

theorem execDiv_steady {st : StackId} {en : Fin 8} {d : Fin 32} {a : Fin 32} {b : Fin 32} {res : Option ResidueErr} {s : State} (hs : Steady A s₀ s) :
    SteadyR A s₀ (execDiv st en d a b res s) := by
  unfold execDiv
  repeat' first
    | with_reducible assumption
    | with_reducible refine steadyR_next ?_
    | with_reducible refine issued_steady ?_
    | with_reducible refine aluOp_steady ?_

theorem execSqrt_steady {st : StackId} {en : Fin 8} {d : Fin 32} {a : Fin 32} {s : State} (hs : Steady A s₀ s) :
    SteadyR A s₀ (execSqrt st en d a s) := by
  unfold execSqrt
  repeat' first
    | with_reducible assumption
    | with_reducible refine steadyR_next ?_
    | with_reducible refine issued_steady ?_
    | with_reducible refine aluOp_steady ?_

theorem execRsqrt_steady {st : StackId} {en : Fin 8} {d : Fin 32} {a : Fin 32} {s : State} (hs : Steady A s₀ s) :
    SteadyR A s₀ (execRsqrt st en d a s) := by
  unfold execRsqrt
  repeat' first
    | with_reducible assumption
    | with_reducible refine steadyR_next ?_
    | with_reducible refine issued_steady ?_
    | with_reducible refine aluOp_steady ?_

theorem execExp_steady {st : StackId} {en : Fin 8} {d : Fin 32} {a : Fin 32} {s : State} (hs : Steady A s₀ s) :
    SteadyR A s₀ (execExp st en d a s) := by
  unfold execExp
  repeat' first
    | with_reducible assumption
    | with_reducible refine steadyR_next ?_
    | with_reducible refine issued_steady ?_
    | with_reducible refine aluOp_steady ?_

theorem execLn_steady {st : StackId} {en : Fin 8} {d : Fin 32} {a : Fin 32} {s : State} (hs : Steady A s₀ s) :
    SteadyR A s₀ (execLn st en d a s) := by
  unfold execLn
  repeat' first
    | with_reducible assumption
    | with_reducible refine steadyR_next ?_
    | with_reducible refine issued_steady ?_
    | with_reducible refine aluOp_steady ?_

theorem execMax_steady {st : StackId} {en : Fin 8} {d : Fin 32} {a : Fin 32} {b : Fin 32} {s : State} (hs : Steady A s₀ s) :
    SteadyR A s₀ (execMax st en d a b s) := by
  unfold execMax
  repeat' first
    | with_reducible assumption
    | with_reducible refine steadyR_next ?_
    | with_reducible refine issued_steady ?_
    | with_reducible refine aluOp_steady ?_

theorem execMin_steady {st : StackId} {en : Fin 8} {d : Fin 32} {a : Fin 32} {b : Fin 32} {s : State} (hs : Steady A s₀ s) :
    SteadyR A s₀ (execMin st en d a b s) := by
  unfold execMin
  repeat' first
    | with_reducible assumption
    | with_reducible refine steadyR_next ?_
    | with_reducible refine issued_steady ?_
    | with_reducible refine aluOp_steady ?_

theorem execAbs_steady {st : StackId} {en : Fin 8} {d : Fin 32} {a : Fin 32} {s : State} (hs : Steady A s₀ s) :
    SteadyR A s₀ (execAbs st en d a s) := by
  unfold execAbs
  repeat' first
    | with_reducible assumption
    | with_reducible refine steadyR_next ?_
    | with_reducible refine issued_steady ?_
    | with_reducible refine aluOp_steady ?_

theorem execSel_steady {st : StackId} {en : Fin 8} {d : Fin 32} {a : Fin 32} {b : Fin 32} {c : Fin 32} {s : State} (hs : Steady A s₀ s) :
    SteadyR A s₀ (execSel st en d a b c s) := by
  unfold execSel
  repeat' first
    | with_reducible assumption
    | with_reducible refine steadyR_next ?_
    | with_reducible refine issued_steady ?_
    | with_reducible refine moveOp_steady ?_

theorem execCmplt_steady {st : StackId} {en : Fin 8} {d : Fin 32} {a : Fin 32} {b : Fin 32} {s : State} (hs : Steady A s₀ s) :
    SteadyR A s₀ (execCmplt st en d a b s) := by
  unfold execCmplt
  repeat' first
    | with_reducible assumption
    | with_reducible refine steadyR_next ?_
    | with_reducible refine issued_steady ?_
    | with_reducible refine aluOp_steady ?_

theorem execRed_steady {st : StackId} {en : Fin 8} {slot : Fin 4} {a : Fin 32} {s : State} (hs : Steady A s₀ s) :
    SteadyR A s₀ (execRed st en slot a s) := by
  unfold execRed
  repeat' first
    | with_reducible assumption
    | with_reducible refine steadyR_next ?_
    | with_reducible refine issued_steady ?_
    | with_reducible refine addRed_steady ?_

theorem countCorrection_steady {s : State} {line : Nat} (hs : Steady A s₀ s) :
    Steady A s₀ (countCorrection s line) := by
  unfold countCorrection
  repeat' first
    | with_reducible assumption
    | fail_if_no_progress (with_reducible refine steady_mk ?_ rfl rfl)
    | with_reducible refine correction_steady ?_
    | with_reducible refine modStack_steady ?_
    | with_reducible refine raiseCharged_steady ?_
    | with_reducible refine steady_ite (fun _ => ?_) (fun _ => ?_)
    | split

theorem readCodeword_steady {s : State} {line : Nat} {errs : SymbolErrors} (hs : Steady A s₀ s) :
    Steady A s₀ (readCodeword s line errs) := by
  unfold readCodeword
  repeat' first
    | with_reducible assumption
    | fail_if_no_progress (with_reducible refine steady_mk ?_ rfl rfl)
    | with_reducible refine stackRead_steady ?_
    | with_reducible refine putLine_steady ?_
    | with_reducible refine countCorrection_steady ?_
    | with_reducible refine modStack_steady ?_
    | with_reducible refine raiseCharged_steady ?_
    | with_reducible refine steady_ite (fun _ => ?_) (fun _ => ?_)
    | split
    | (dsimp only; split)

theorem execHbmRead_steady {st : StackId} {off : BitVec 36} {errs : SymbolErrors} {cyc : Nat} {s : State} (hs : Steady A s₀ s) :
    SteadyR A s₀ (execHbmRead st off errs cyc s) := by
  unfold execHbmRead
  repeat' first
    | with_reducible assumption
    | with_reducible refine steadyR_next ?_
    | exact steadyR_fault
    | with_reducible refine readCodeword_steady ?_
    | with_reducible refine atCycle_steady ?_
    | with_reducible refine steady_ite (fun _ => ?_) (fun _ => ?_)
    | with_reducible refine steadyR_ite (fun _ => ?_) (fun _ => ?_)

theorem planWrite_steady {s : State} {a : Nat} {data : List Byte} {poison : Nat → Option (Nat × Nat)} (hs : Steady A s₀ s) :
    Steady A s₀ (planWrite s a data poison) := by
  unfold planWrite
  repeat' first
    | with_reducible assumption
    | with_reducible refine consumeMarks_steady ?_
    | with_reducible refine writeHbm_steady ?_

theorem execHbmWrite_steady {st : StackId} {off : BitVec 36} {data : List Byte} {poisoned : Bool} {cyc : Nat} {s : State} (hs : Steady A s₀ s) :
    SteadyR A s₀ (execHbmWrite st off data poisoned cyc s) := by
  unfold execHbmWrite
  repeat' first
    | with_reducible assumption
    | with_reducible refine steadyR_next ?_
    | exact steadyR_fault
    | with_reducible refine planWrite_steady ?_
    | with_reducible refine atCycle_steady ?_
    | with_reducible refine steady_ite (fun _ => ?_) (fun _ => ?_)
    | split
    | (dsimp only; split)

theorem execScrubRead_steady {st : StackId} {errs : List (Fin 64 × SymbolErrors)} {s : State} (hs : Steady A s₀ s) :
    SteadyR A s₀ (execScrubRead st errs s) := by
  unfold execScrubRead
  repeat' first
    | with_reducible assumption
    | fail_if_no_progress (with_reducible refine steady_mk ?_ rfl rfl)
    | with_reducible refine steadyR_next ?_
    | with_reducible refine readCodeword_steady ?_
    | with_reducible refine modStack_steady ?_
    | with_reducible refine steady_foldl ?_ (fun _ _ _ => ?_)
    | with_reducible refine steady_ite (fun _ => ?_) (fun _ => ?_)

end Sys2Proof.Machine
end

