-- ==== Sys2Proof/Laws/SteadyLink.lean ====
section
/-!
SUPPORT. Sys2Proof/Laws/SteadyLink.lean: that the functions of the Lakes, responses, sync events, numerics, checkpoints, transactions and links
change nothing but what Steady allows, one lemma each.
-/
namespace Sys2Proof.Machine
open Sys2Proof

variable {A : Allowed} {s₀ : State}

theorem modLake_steady {s : State} {l : Nat} {f : LakeState → LakeState} (hs : Steady A s₀ s) :
    Steady A s₀ (modLake s l f) := by
  unfold modLake
  repeat' first
    | with_reducible assumption
    | fail_if_no_progress (with_reducible refine steady_mk ?_ rfl rfl)

theorem putItem_steady {s : State} {l : Nat} {cls : Nat} {kind : Nat} {port : Nat} {words : List DWord} {poison : List Nat} {rest : Bool} (hs : Steady A s₀ s) :
    Steady A s₀ (putItem s l cls kind port words poison rest) := by
  unfold putItem
  repeat' first
    | with_reducible assumption
    | fail_if_no_progress (with_reducible refine steady_mk ?_ rfl rfl)
    | with_reducible refine modLake_steady ?_

theorem waitCredit_steady {s : State} {l : Nat} {cls : Nat} (hs : Steady A s₀ s) :
    Steady A s₀ (waitCredit s l cls) := by
  unfold waitCredit
  repeat' first
    | with_reducible assumption
    | fail_if_no_progress (with_reducible refine steady_mk ?_ rfl rfl)
    | with_reducible refine modLake_steady ?_

theorem execItemEnqueue_steady {lake : LakeId} {cls : Fin 5} {kind : Fin 64} {port : Fin 64} {words : List DWord} {poison : List Nat} {rest : Bool} {s : State} (hs : Steady A s₀ s) :
    SteadyR A s₀ (execItemEnqueue lake cls kind port words poison rest s) := by
  unfold execItemEnqueue
  repeat' first
    | with_reducible assumption
    | with_reducible refine steadyR_next ?_
    | with_reducible refine putItem_steady ?_
    | with_reducible refine waitCredit_steady ?_
    | with_reducible refine steady_ite (fun _ => ?_) (fun _ => ?_)
    | with_reducible refine steadyR_ite (fun _ => ?_) (fun _ => ?_)

theorem consumeItem_steady {s : State} {l : Nat} {cells : List Cell} {bad : List Nat} (hs : Steady A s₀ s) :
    Steady A s₀ (consumeItem s l cells bad) := by
  unfold consumeItem
  repeat' first
    | with_reducible assumption
    | with_reducible refine enterQueue_steady ?_ (fun _ _ => ?_)
    | with_reducible refine poisonConsumed_steady ?_
    | with_reducible refine steady_foldl ?_ (fun _ _ _ => ?_)

theorem takeItem_steady {s : State} {l : Nat} {it : LakeItem} {flips : List (Nat × DWord)} {compute : Bool} (hs : Steady A s₀ s) :
    Steady A s₀ (takeItem s l it flips compute) := by
  unfold takeItem
  repeat' first
    | with_reducible assumption
    | fail_if_no_progress (with_reducible refine steady_mk ?_ rfl rfl)
    | with_reducible refine modLake_steady ?_
    | with_reducible refine raiseOnce_steady ?_
    | with_reducible refine consumeItem_steady ?_
    | with_reducible refine steady_foldl ?_ (fun _ _ _ => ?_)
    | with_reducible refine steady_ite (fun _ => ?_) (fun _ => ?_)

theorem execItemDequeue_steady {lake : LakeId} {cls : Fin 5} {flips : List (Nat × DWord)} {tagFlips : Fin 3} {compute : Bool} {cyc : Nat} {s : State} (hs : Steady A s₀ s) :
    SteadyR A s₀ (execItemDequeue lake cls flips tagFlips compute cyc s) := by
  unfold execItemDequeue
  repeat' first
    | with_reducible assumption
    | fail_if_no_progress (with_reducible refine steady_mk ?_ rfl rfl)
    | with_reducible refine steadyR_next ?_
    | with_reducible refine atCycle_steady ?_
    | with_reducible refine modLake_steady ?_
    | with_reducible refine waitCredit_steady ?_
    | with_reducible refine charge_steady ?_
    | with_reducible refine takeL3_steady ?_
    | with_reducible refine takeItem_steady ?_
    | with_reducible refine correction_steady ?_
    | with_reducible refine steady_ite (fun _ => ?_) (fun _ => ?_)
    | split
    | (dsimp only; split)

theorem execCreditBorrow_steady {lake : LakeId} {cls : Fin 5} {port : Fin 64} {s : State} (hs : Steady A s₀ s) :
    SteadyR A s₀ (execCreditBorrow lake cls port s) := by
  unfold execCreditBorrow
  repeat' first
    | with_reducible assumption
    | fail_if_no_progress (with_reducible refine steady_mk ?_ rfl rfl)
    | with_reducible refine steadyR_next ?_
    | with_reducible refine modLake_steady ?_
    | with_reducible refine waitCredit_steady ?_
    | with_reducible refine steady_ite (fun _ => ?_) (fun _ => ?_)
    | with_reducible refine steadyR_ite (fun _ => ?_) (fun _ => ?_)

theorem spliceLakes_steady {s : State} {f : Nat → Nat → Bool} (hs : Steady A s₀ s) :
    Steady A s₀ (spliceLakes s f) := by
  unfold spliceLakes
  repeat' first
    | with_reducible assumption
    | fail_if_no_progress (with_reducible refine steady_mk ?_ rfl rfl)

theorem lakesTick_steady {s : State} (hs : Steady A s₀ s) :
    Steady A s₀ (lakesTick s) := by
  unfold lakesTick
  repeat' first
    | with_reducible assumption
    | fail_if_no_progress (with_reducible refine steady_mk ?_ rfl rfl)
    | with_reducible refine charge_steady ?_
    | with_reducible refine takeL3_steady ?_
    | with_reducible refine steady_foldl ?_ (fun _ _ _ => ?_)

theorem lakesStart_steady {s : State} (hs : Steady A s₀ s) :
    Steady A s₀ (lakesStart s) := by
  unfold lakesStart
  repeat' first
    | with_reducible assumption
    | fail_if_no_progress (with_reducible refine steady_mk ?_ rfl rfl)

theorem raiseMsi_steady {s : State} {v : Nat} (hs : Steady A s₀ s) :
    Steady A s₀ (raiseMsi s v) := by
  unfold raiseMsi
  repeat' first
    | with_reducible assumption
    | fail_if_no_progress (with_reducible refine steady_mk ?_ rfl rfl)

theorem respondHost_steady {s : State} {slot : Nat} {x : Response} (hs : Steady A s₀ s) :
    Steady A s₀ (respondHost s slot x) := by
  unfold respondHost
  repeat' first
    | with_reducible assumption
    | fail_if_no_progress (with_reducible refine steady_mk ?_ rfl rfl)
    | with_reducible refine raiseMsi_steady ?_

theorem setSource_steady {s : State} {m : MgmtSource} (hs : Steady A s₀ s) :
    Steady A s₀ (setSource s m) := by
  unfold setSource
  repeat' first
    | with_reducible assumption
    | fail_if_no_progress (with_reducible refine steady_mk ?_ rfl rfl)

theorem sendFragments_steady {s : State} {addr : Word} {udp : Half} {seq : Word} {msg : List Byte} (hs : Steady A s₀ s) :
    Steady A s₀ (sendFragments s addr udp seq msg) := by
  unfold sendFragments
  repeat' first
    | with_reducible assumption
    | with_reducible refine sendMgmt_steady ?_
    | with_reducible refine steady_foldl ?_ (fun _ _ _ => ?_)

theorem respondMgmt_steady {s : State} {addr : Word} {udp : Half} {seq : Word} {x : Response} (hs : Steady A s₀ s) :
    Steady A s₀ (respondMgmt s addr udp seq x) := by
  unfold respondMgmt
  repeat' first
    | with_reducible assumption
    | fail_if_no_progress (with_reducible refine steady_mk ?_ rfl rfl)
    | with_reducible refine sendFragments_steady ?_
    | with_reducible refine setSource_steady ?_
    | with_reducible refine steady_ite (fun _ => ?_) (fun _ => ?_)

theorem respondPeer_steady {s : State} {rank : Rank} {x : Response} (hs : Steady A s₀ s) :
    Steady A s₀ (respondPeer s rank x) := by
  unfold respondPeer
  repeat' first
    | with_reducible assumption
    | fail_if_no_progress (with_reducible refine steady_mk ?_ rfl rfl)
    | with_reducible refine steady_ite (fun _ => ?_) (fun _ => ?_)

theorem respond_steady {s : State} {r : Req} {opcode : Nat} {st : Status} {final : Bool} {digest : List Byte} {body : List Byte} (hs : Steady A s₀ s) :
    Steady A s₀ (respond s r opcode st final digest body) := by
  unfold respond
  repeat' first
    | with_reducible assumption
    | fail_if_no_progress (with_reducible refine steady_mk ?_ rfl rfl)
    | with_reducible refine respondHost_steady ?_
    | with_reducible refine respondMgmt_steady ?_
    | with_reducible refine respondPeer_steady ?_
    | split

theorem changeEvent_steady {s : State} {r : Req} {opcode : Nat} (hs : Steady A s₀ s) :
    Steady A s₀ (changeEvent s r opcode) := by
  unfold changeEvent
  repeat' first
    | with_reducible assumption
    | with_reducible refine raise_steady ?_

theorem refuse_steady {s : State} {r : Req} {opcode : Nat} {st : Status} (hs : Steady A s₀ s) :
    Steady A s₀ (refuse s r opcode st) := by
  unfold refuse
  repeat' first
    | with_reducible assumption
    | with_reducible refine respond_steady ?_

theorem answer_steady {s : State} {r : Req} {opcode : Nat} {body : List Byte} (hs : Steady A s₀ s) :
    Steady A s₀ (answer s r opcode body) := by
  unfold answer
  repeat' first
    | with_reducible assumption
    | with_reducible refine respond_steady ?_

theorem settled_steady {s : State} {r : Req} {opcode : Nat} {state : List Byte} {body : List Byte} (hs : Steady A s₀ s) :
    Steady A s₀ (settled s r opcode state body) := by
  unfold settled
  repeat' first
    | with_reducible assumption
    | with_reducible refine respond_steady ?_
    | with_reducible refine changeEvent_steady ?_

theorem acknowledged_steady {s : State} {r : Req} {opcode : Nat} {state : List Byte} {body : List Byte} (hs : Steady A s₀ s) :
    Steady A s₀ (acknowledged s r opcode state body) := by
  unfold acknowledged
  repeat' first
    | with_reducible assumption
    | with_reducible refine respond_steady ?_

theorem accept_steady {s : State} {r : Req} {opcode : Nat} {args : List Nat} {digest : List Byte} (hs : Steady A s₀ s) :
    Steady A s₀ (accept s r opcode args digest) := by
  unfold accept
  repeat' first
    | with_reducible assumption
    | fail_if_no_progress (with_reducible refine steady_mk ?_ rfl rfl)
    | with_reducible refine respond_steady ?_

theorem closeCommand_steady {s : State} {c : OpenCommand} (hs : Steady A s₀ s) :
    Steady A s₀ (closeCommand s c) := by
  unfold closeCommand
  repeat' first
    | with_reducible assumption
    | fail_if_no_progress (with_reducible refine steady_mk ?_ rfl rfl)

theorem serve_steady {s : State} {r : Req} {opcode : Nat} {f : State → State} (hs : Steady A s₀ s)
    (hf : ∀ s, Steady A s₀ s → Steady A s₀ (f s)) : Steady A s₀ (serve s r opcode f) := by
  unfold serve
  refine steady_ite (fun _ => hs) (fun _ => ?_)
  split
  · exact refuse_steady hs
  · exact hf _ hs

theorem serveC_steady {s : State} {r : Req} {opcode : Nat} {f : State → State} (hs : Steady A s₀ s)
    (hf : ∀ s, Steady A s₀ s → Steady A s₀ (f s)) : Steady A s₀ (serveC s r opcode f) :=
  serve_steady hs (fun _ h => steady_ite (fun _ => hf _ h) (fun _ => refuse_steady h))

theorem addHold_steady {s : State} {frame : Nat} (hs : Steady A s₀ s) :
    Steady A s₀ (addHold s frame) := by
  unfold addHold
  repeat' first
    | with_reducible assumption
    | fail_if_no_progress (with_reducible refine steady_mk ?_ rfl rfl)
    | with_reducible refine steady_ite (fun _ => ?_) (fun _ => ?_)

theorem takeL4_steady {s : State} (hs : Steady A s₀ s) :
    Steady A s₀ (takeL4 s) := by
  unfold takeL4
  repeat' first
    | with_reducible assumption
    | fail_if_no_progress (with_reducible refine steady_mk ?_ rfl rfl)
    | with_reducible refine raise_steady ?_
    | with_reducible refine floodExpel_steady ?_
    | split
    | (dsimp only; split)

theorem decideRedo_steady {s : State} (hs : Steady A s₀ s) :
    Steady A s₀ (decideRedo s) := by
  unfold decideRedo
  repeat' first
    | with_reducible assumption
    | fail_if_no_progress (with_reducible refine steady_mk ?_ rfl rfl)
    | with_reducible refine takeL4_steady ?_
    | with_reducible refine steady_ite (fun _ => ?_) (fun _ => ?_)

theorem noteComplete_steady {s : State} {rank : Nat} {attempt : Nat} {whole : Bool} (hs : Steady A s₀ s) :
    Steady A s₀ (noteComplete s rank attempt whole) := by
  unfold noteComplete
  repeat' first
    | with_reducible assumption
    | fail_if_no_progress (with_reducible refine steady_mk ?_ rfl rfl)
    | with_reducible refine decideRedo_steady ?_
    | with_reducible refine steady_ite (fun _ => ?_) (fun _ => ?_)

theorem noteDone_steady {s : State} {r : DoneReport} (hs : Steady A s₀ s) :
    Steady A s₀ (noteDone s r) := by
  unfold noteDone
  repeat' first
    | with_reducible assumption
    | fail_if_no_progress (with_reducible refine steady_mk ?_ rfl rfl)

theorem noteStart_steady {s : State} {frame : Nat} (hs : Steady A s₀ s) :
    Steady A s₀ (noteStart s frame) := by
  unfold noteStart
  repeat' first
    | with_reducible assumption
    | fail_if_no_progress (with_reducible refine steady_mk ?_ rfl rfl)
    | with_reducible refine steady_ite (fun _ => ?_) (fun _ => ?_)

theorem notePrepared_steady {s : State} {rank : Nat} (hs : Steady A s₀ s) :
    Steady A s₀ (notePrepared s rank) := by
  unfold notePrepared
  repeat' first
    | with_reducible assumption
    | fail_if_no_progress (with_reducible refine steady_mk ?_ rfl rfl)
    | with_reducible refine noteStart_steady ?_
    | with_reducible refine flood_steady ?_
    | with_reducible refine steady_ite (fun _ => ?_) (fun _ => ?_)

theorem endLoad_steady {s : State} {st : Status} {digest : List Byte} {body : List Byte} (hs : Steady A s₀ s) :
    Steady A s₀ (endLoad s st digest body) := by
  unfold endLoad
  repeat' first
    | with_reducible assumption
    | fail_if_no_progress (with_reducible refine steady_mk ?_ rfl rfl)
    | with_reducible refine respond_steady ?_
    | with_reducible refine changeEvent_steady ?_
    | with_reducible refine steady_ite (fun _ => ?_) (fun _ => ?_)
    | split

theorem abandonLoad_steady {s : State} {reason : Nat} (hs : Steady A s₀ s) :
    Steady A s₀ (abandonLoad s reason) := by
  unfold abandonLoad
  repeat' first
    | with_reducible assumption
    | fail_if_no_progress (with_reducible refine steady_mk ?_ rfl rfl)
    | with_reducible refine raise_steady ?_
    | with_reducible refine endLoad_steady ?_
    | with_reducible refine steady_ite (fun _ => ?_) (fun _ => ?_)

theorem noteAbort_steady {s : State} {reason : Nat} (hs : Steady A s₀ s) :
    Steady A s₀ (noteAbort s reason) := by
  unfold noteAbort
  repeat' first
    | with_reducible assumption
    | with_reducible refine abandonLoad_steady ?_
    | with_reducible refine steady_ite (fun _ => ?_) (fun _ => ?_)

theorem noteExpel_steady {s : State} {frame : Nat} {rank : Nat} (hs : Steady A s₀ s) :
    Steady A s₀ (noteExpel s frame rank) := by
  unfold noteExpel
  repeat' first
    | with_reducible assumption
    | fail_if_no_progress (with_reducible refine steady_mk ?_ rfl rfl)
    | with_reducible refine steady_ite (fun _ => ?_) (fun _ => ?_)

theorem actOn_steady {s : State} {e : SyncEvent} (hs : Steady A s₀ s) :
    Steady A s₀ (actOn s e) := by
  unfold actOn
  repeat' first
    | with_reducible assumption
    | fail_if_no_progress (with_reducible refine steady_mk ?_ rfl rfl)
    | with_reducible refine addHold_steady ?_
    | with_reducible refine noteDone_steady ?_
    | with_reducible refine noteComplete_steady ?_
    | with_reducible refine notePrepared_steady ?_
    | with_reducible refine noteStart_steady ?_
    | with_reducible refine noteAbort_steady ?_
    | with_reducible refine noteExpel_steady ?_
    | with_reducible refine steady_ite (fun _ => ?_) (fun _ => ?_)
    | split

theorem receiveFlood_steady {s : State} {link : Nat} {e : SyncEvent} (hs : Steady A s₀ s) :
    Steady A s₀ (receiveFlood s link e) := by
  unfold receiveFlood
  repeat' first
    | with_reducible assumption
    | fail_if_no_progress (with_reducible refine steady_mk ?_ rfl rfl)
    | with_reducible refine relay_steady ?_
    | with_reducible refine takeL3_steady ?_
    | with_reducible refine actOn_steady ?_
    | with_reducible refine steady_ite (fun _ => ?_) (fun _ => ?_)

theorem execHold_steady {link : LinkId} {origin : Rank} {frame : BitVec 48} {cause : Fin 16} {cyc : Nat} {s : State} (hs : Steady A s₀ s) :
    SteadyR A s₀ (execHold link origin frame cause cyc s) := by
  unfold execHold
  repeat' first
    | with_reducible assumption
    | with_reducible refine steadyR_next ?_
    | with_reducible refine receiveFlood_steady ?_
    | with_reducible refine atCycle_steady ?_

theorem execLate_steady {link : LinkId} {origin : Rank} {frame : BitVec 48} {unit : Byte} {cyc : Nat} {s : State} (hs : Steady A s₀ s) :
    SteadyR A s₀ (execLate link origin frame unit cyc s) := by
  unfold execLate
  repeat' first
    | with_reducible assumption
    | with_reducible refine steadyR_next ?_
    | with_reducible refine receiveFlood_steady ?_
    | with_reducible refine atCycle_steady ?_

theorem execStretch_steady {link : LinkId} {origin : Rank} {frame : BitVec 48} {pos : Word} {s : State} (hs : Steady A s₀ s) :
    SteadyR A s₀ (execStretch link origin frame pos s) := by
  unfold execStretch
  repeat' first
    | with_reducible assumption
    | with_reducible refine steadyR_next ?_
    | with_reducible refine receiveFlood_steady ?_

theorem execUpdateDone_steady {link : LinkId} {origin : Rank} {frame : BitVec 48} {version : Word} {attempt : Byte} {skipped : Bool} {s : State} (hs : Steady A s₀ s) :
    SteadyR A s₀ (execUpdateDone link origin frame version attempt skipped s) := by
  unfold execUpdateDone
  repeat' first
    | with_reducible assumption
    | with_reducible refine steadyR_next ?_
    | with_reducible refine receiveFlood_steady ?_

theorem execComplete_steady {link : LinkId} {origin : Rank} {frame : BitVec 48} {attempt : Byte} {whole : Bool} {cyc : Nat} {s : State} (hs : Steady A s₀ s) :
    SteadyR A s₀ (execComplete link origin frame attempt whole cyc s) := by
  unfold execComplete
  repeat' first
    | with_reducible assumption
    | with_reducible refine steadyR_next ?_
    | with_reducible refine receiveFlood_steady ?_
    | with_reducible refine atCycle_steady ?_

theorem execPrepared_steady {link : LinkId} {origin : Rank} {planId : Word} {s : State} (hs : Steady A s₀ s) :
    SteadyR A s₀ (execPrepared link origin planId s) := by
  unfold execPrepared
  repeat' first
    | with_reducible assumption
    | with_reducible refine steadyR_next ?_
    | with_reducible refine receiveFlood_steady ?_

theorem execSyncStart_steady {link : LinkId} {origin : Rank} {frame : BitVec 48} {planId : Word} {s : State} (hs : Steady A s₀ s) :
    SteadyR A s₀ (execSyncStart link origin frame planId s) := by
  unfold execSyncStart
  repeat' first
    | with_reducible assumption
    | with_reducible refine steadyR_next ?_
    | with_reducible refine receiveFlood_steady ?_

theorem execSyncAbort_steady {link : LinkId} {origin : Rank} {planId : Word} {reason : Byte} {s : State} (hs : Steady A s₀ s) :
    SteadyR A s₀ (execSyncAbort link origin planId reason s) := by
  unfold execSyncAbort
  repeat' first
    | with_reducible assumption
    | with_reducible refine steadyR_next ?_
    | with_reducible refine receiveFlood_steady ?_

theorem execExpel_steady {link : LinkId} {origin : Rank} {frame : BitVec 48} {rank : Rank} {cyc : Nat} {s : State} (hs : Steady A s₀ s) :
    SteadyR A s₀ (execExpel link origin frame rank cyc s) := by
  unfold execExpel
  repeat' first
    | with_reducible assumption
    | with_reducible refine steadyR_next ?_
    | with_reducible refine receiveFlood_steady ?_
    | with_reducible refine atCycle_steady ?_

theorem execSyncTick_steady {link : LinkId} {frame : BitVec 48} {departure : Fin 8388608} {aligned : Bool} {arrival : Int} {s : State} (hs : Steady A s₀ s) :
    SteadyR A s₀ (execSyncTick link frame departure aligned arrival s) := by
  unfold execSyncTick
  repeat' first
    | with_reducible assumption
    | fail_if_no_progress (with_reducible refine steady_mk ?_ rfl rfl)
    | with_reducible refine steadyR_next ?_
    | with_reducible refine steady_ite (fun _ => ?_) (fun _ => ?_)
    | with_reducible refine steadyR_ite (fun _ => ?_) (fun _ => ?_)

theorem execMemberAligned_steady {frame : BitVec 48} {s : State} (hcounter : A.counter = true) (hs : Steady A s₀ s) :
    SteadyR A s₀ (execMemberAligned frame s) :=
  steadyR_ite (fun _ => steadyR_next (hs.trans ⟨keeps_same (Keeps.refl s) rfl rfl rfl, off_of_on hcounter, fun _ => rfl, fun _ => rfl, fun _ => rfl, fun _ => rfl, fun _ => rfl, fun _ => rfl, fun _ => rfl, fun _ => rfl, fun _ => rfl, fun _ => rfl, fun _ => rfl⟩)) (fun _ => steadyR_next hs)

theorem execTickLoss_steady {cyc : Nat} {s : State} (hs : Steady A s₀ s) :
    SteadyR A s₀ (execTickLoss cyc s) := by
  unfold execTickLoss
  repeat' first
    | with_reducible assumption
    | with_reducible refine steadyR_next ?_
    | with_reducible refine takeL3_steady ?_
    | with_reducible refine atCycle_steady ?_

theorem execEchoMeasurement_steady {link : LinkId} {token : Half} {s : State} (hs : Steady A s₀ s) :
    SteadyR A s₀ (execEchoMeasurement link token s) := by
  unfold execEchoMeasurement
  repeat' first
    | with_reducible assumption
    | fail_if_no_progress (with_reducible refine steady_mk ?_ rfl rfl)
    | with_reducible refine steadyR_next ?_
    | with_reducible refine modLink_steady ?_
    | with_reducible refine relay_steady ?_

theorem execEchoReq_steady {link : LinkId} {token : Half} {turnaround : Word} {s : State} (hs : Steady A s₀ s) :
    SteadyR A s₀ (execEchoReq link token turnaround s) := by
  unfold execEchoReq
  repeat' first
    | with_reducible assumption
    | fail_if_no_progress (with_reducible refine steady_mk ?_ rfl rfl)
    | with_reducible refine steadyR_next ?_
    | with_reducible refine relay_steady ?_

theorem execEchoReply_steady {link : LinkId} {token : Half} {turnaround : Word} {roundTrip : Word} {s : State} (hs : Steady A s₀ s) :
    SteadyR A s₀ (execEchoReply link token turnaround roundTrip s) := by
  unfold execEchoReply
  repeat' first
    | with_reducible assumption
    | fail_if_no_progress (with_reducible refine steady_mk ?_ rfl rfl)
    | with_reducible refine steadyR_next ?_
    | with_reducible refine modLink_steady ?_
    | with_reducible refine raise_steady ?_
    | with_reducible refine steady_ite (fun _ => ?_) (fun _ => ?_)
    | with_reducible refine steadyR_ite (fun _ => ?_) (fun _ => ?_)

theorem execC0Message_steady {link : LinkId} {m : C0Message} {s : State} (hs : Steady A s₀ s) :
    SteadyR A s₀ (execC0Message link m s) := by
  unfold execC0Message
  repeat' first
    | with_reducible assumption
    | fail_if_no_progress (with_reducible refine steady_mk ?_ rfl rfl)
    | with_reducible refine steadyR_next ?_
    | with_reducible refine steady_ite (fun _ => ?_) (fun _ => ?_)
    | with_reducible refine steadyR_ite (fun _ => ?_) (fun _ => ?_)

theorem modLayer_steady {s : State} {l : Nat} {f : LayerWord → LayerWord} (hs : Steady A s₀ s) :
    Steady A s₀ (modLayer s l f) := by
  unfold modLayer
  repeat' first
    | with_reducible assumption
    | fail_if_no_progress (with_reducible refine steady_mk ?_ rfl rfl)

theorem applyObservation_steady {s : State} {index : Nat} {p : Nat} {warm : Bool} {o : Observation} (hs : Steady A s₀ s) :
    Steady A s₀ (applyObservation s index p warm o) := by
  unfold applyObservation
  repeat' first
    | with_reducible assumption
    | fail_if_no_progress (with_reducible refine steady_mk ?_ rfl rfl)

theorem scalesTick_steady {s : State} {q : Nat} (hs : Steady A s₀ s) :
    Steady A s₀ (scalesTick s q) := by
  unfold scalesTick
  repeat' first
    | with_reducible assumption
    | fail_if_no_progress (with_reducible refine steady_mk ?_ rfl rfl)

theorem settleShared_steady {s : State} {index : Nat} {p : Nat} (hs : Steady A s₀ s) :
    Steady A s₀ (settleShared s index p) := by
  unfold settleShared
  repeat' first
    | with_reducible assumption
    | fail_if_no_progress (with_reducible refine steady_mk ?_ rfl rfl)
    | with_reducible refine applyObservation_steady ?_
    | with_reducible refine raise_steady ?_
    | with_reducible refine steady_foldl ?_ (fun _ _ _ => ?_)
    | with_reducible refine steady_ite (fun _ => ?_) (fun _ => ?_)

theorem settleAllShared_steady {s : State} (hs : Steady A s₀ s) :
    Steady A s₀ (settleAllShared s) := by
  unfold settleAllShared
  repeat' first
    | with_reducible assumption
    | with_reducible refine settleShared_steady ?_
    | with_reducible refine steady_foldl ?_ (fun _ _ _ => ?_)

theorem execScaleObservation_steady {rank : Rank} {planFrame : Word} {index : Half} {maxIn : Word} {maxAll : Word} {overflow : Bool} {quantised : Bool} {s : State} (hs : Steady A s₀ s) :
    SteadyR A s₀ (execScaleObservation rank planFrame index maxIn maxAll overflow quantised s) := by
  unfold execScaleObservation
  repeat' first
    | with_reducible assumption
    | fail_if_no_progress (with_reducible refine steady_mk ?_ rfl rfl)
    | with_reducible refine steadyR_next ?_
    | with_reducible refine settleAllShared_steady ?_
    | with_reducible refine steady_ite (fun _ => ?_) (fun _ => ?_)
    | with_reducible refine steadyR_ite (fun _ => ?_) (fun _ => ?_)

theorem monitorRecord_steady {s : State} {kind layer id : Nat} {value threshold : Word} {count : Nat} (hs : Steady A s₀ s) :
    Steady A s₀ (monitorRecord s kind layer id value threshold count) := by
  unfold monitorRecord
  exact hs.monitors (length_last 32768 _)

theorem shareFlag_steady {s : State} {kind : Nat} {tensor : Nat} {c : Nat} {n : Nat} {theta : Nat} (hs : Steady A s₀ s) :
    Steady A s₀ (shareFlag s kind tensor c n theta) := by
  unfold shareFlag
  repeat' first
    | with_reducible assumption
    | with_reducible refine raise_steady ?_
    | with_reducible refine monitorRecord_steady ?_
    | with_reducible refine steady_ite (fun _ => ?_) (fun _ => ?_)

theorem commitShares_steady {s : State} {f : PlanFrame} (hs : Steady A s₀ s) :
    Steady A s₀ (commitShares s f) := by
  unfold commitShares
  repeat' first
    | with_reducible assumption
    | fail_if_no_progress (with_reducible refine steady_mk ?_ rfl rfl)
    | with_reducible refine shareFlag_steady ?_
    | with_reducible refine steady_foldl ?_ (fun _ _ _ => ?_)
    | with_reducible refine steady_ite (fun _ => ?_) (fun _ => ?_)

theorem ratioFlags_steady {s : State} (hs : Steady A s₀ s) :
    Steady A s₀ (ratioFlags s) := by
  unfold ratioFlags
  repeat' first
    | with_reducible assumption
    | fail_if_no_progress (with_reducible refine steady_mk ?_ rfl rfl)
    | with_reducible refine raise_steady ?_
    | with_reducible refine monitorRecord_steady ?_
    | with_reducible refine steady_foldl ?_ (fun _ _ _ => ?_)
    | with_reducible refine steady_ite (fun _ => ?_) (fun _ => ?_)

theorem triggerLayer_steady {s : State} {p : Nat} {layer : Nat} (hs : Steady A s₀ s) :
    Steady A s₀ (triggerLayer s p layer) := by
  unfold triggerLayer
  repeat' first
    | with_reducible assumption
    | fail_if_no_progress (with_reducible refine steady_mk ?_ rfl rfl)
    | with_reducible refine modLayer_steady ?_
    | with_reducible refine raise_steady ?_
    | with_reducible refine monitorRecord_steady ?_
    | with_reducible refine steady_ite (fun _ => ?_) (fun _ => ?_)

theorem commitNumerics_steady {s : State} {f : PlanFrame} (hs : Steady A s₀ s) :
    Steady A s₀ (commitNumerics s f) := by
  unfold commitNumerics
  repeat' first
    | with_reducible assumption
    | fail_if_no_progress (with_reducible refine steady_mk ?_ rfl rfl)
    | with_reducible refine applyObservation_steady ?_
    | with_reducible refine settleAllShared_steady ?_
    | with_reducible refine raise_steady ?_
    | with_reducible refine modLayer_steady ?_
    | with_reducible refine triggerLayer_steady ?_
    | with_reducible refine commitShares_steady ?_
    | with_reducible refine steady_foldl ?_ (fun _ _ _ => ?_)
    | with_reducible refine steady_ite (fun _ => ?_) (fun _ => ?_)

theorem lossFlip_steady {s : State} {skipped : Bool} (hs : Steady A s₀ s) :
    Steady A s₀ (lossFlip s skipped) := by
  unfold lossFlip
  repeat' first
    | with_reducible assumption
    | fail_if_no_progress (with_reducible refine steady_mk ?_ rfl rfl)
    | with_reducible refine raise_steady ?_
    | with_reducible refine monitorRecord_steady ?_
    | with_reducible refine steady_ite (fun _ => ?_) (fun _ => ?_)

theorem setLossWord_steady {s : State} {w : Nat} (hs : Steady A s₀ s) :
    Steady A s₀ (setLossWord s w) := by
  unfold setLossWord
  repeat' first
    | with_reducible assumption
    | fail_if_no_progress (with_reducible refine steady_mk ?_ rfl rfl)

theorem startCold_steady {s : State} (hs : Steady A s₀ s) :
    Steady A s₀ (startCold s) := by
  unfold startCold
  repeat' first
    | with_reducible assumption
    | fail_if_no_progress (with_reducible refine steady_mk ?_ rfl rfl)
    | with_reducible refine raise_steady ?_
    | with_reducible refine monitorRecord_steady ?_

theorem carryScales_steady {s : State} {old : Nat → Option (Word × Word × Bool)} {warm : Nat → Nat} (hs : Steady A s₀ s) :
    Steady A s₀ (carryScales s old warm) := by
  unfold carryScales
  repeat' first
    | with_reducible assumption
    | fail_if_no_progress (with_reducible refine steady_mk ?_ rfl rfl)

theorem carryOver_steady {s : State} (hs : Steady A s₀ s) :
    Steady A s₀ (carryOver s) := by
  unfold carryOver
  repeat' first
    | with_reducible assumption
    | fail_if_no_progress (with_reducible refine steady_mk ?_ rfl rfl)
    | with_reducible refine carryScales_steady ?_

theorem restoreBlock_steady {s : State} {block : List Byte} {step : Nat} (hs : Steady A s₀ s) :
    Steady A s₀ (restoreBlock s block step) := by
  unfold restoreBlock
  repeat' first
    | with_reducible assumption
    | with_reducible refine carryScales_steady ?_
    | with_reducible refine setLossWord_steady ?_
    | with_reducible refine startCold_steady ?_
    | with_reducible refine steady_ite (fun _ => ?_) (fun _ => ?_)

theorem setSlotState_steady {s : State} {slot : Nat} {v : Nat} (hs : Steady A s₀ s) :
    Steady A s₀ (setSlotState s slot v) := by
  unfold setSlotState
  repeat' first
    | with_reducible assumption
    | with_reducible refine writeHbm_steady ?_

theorem finishSlot_steady {s : State} {p : PlanImage} {slot : Nat} (hs : Steady A s₀ s) :
    Steady A s₀ (finishSlot s p slot) := by
  unfold finishSlot
  repeat' first
    | with_reducible assumption
    | with_reducible refine raise_steady ?_
    | with_reducible refine setSlotState_steady ?_
    | with_reducible refine steady_ite (fun _ => ?_) (fun _ => ?_)

theorem setTransfer_steady {s : State} {t : Transfer} (hs : Steady A s₀ s) :
    Steady A s₀ (setTransfer s t) := by
  unfold setTransfer
  repeat' first
    | with_reducible assumption
    | fail_if_no_progress (with_reducible refine steady_mk ?_ rfl rfl)

theorem dropTransfer_steady {s : State} {t : Transfer} (hs : Steady A s₀ s) :
    Steady A s₀ (dropTransfer s t) := by
  unfold dropTransfer
  repeat' first
    | with_reducible assumption
    | fail_if_no_progress (with_reducible refine steady_mk ?_ rfl rfl)

theorem receiveSlot_steady {s : State} {p : PlanImage} {slot : Nat} {bytes : List Byte} (hs : Steady A s₀ s) :
    Steady A s₀ (receiveSlot s p slot bytes) := by
  unfold receiveSlot
  repeat' first
    | with_reducible assumption
    | with_reducible refine setSlotState_steady ?_
    | with_reducible refine finishSlot_steady ?_
    | with_reducible refine dropTransfer_steady ?_
    | with_reducible refine setTransfer_steady ?_
    | with_reducible refine steady_ite (fun _ => ?_) (fun _ => ?_)

theorem receiveRestore_steady {s : State} {p : PlanImage} {bytes : List Byte} (hs : Steady A s₀ s) :
    Steady A s₀ (receiveRestore s p bytes) := by
  unfold receiveRestore
  repeat' first
    | with_reducible assumption
    | with_reducible refine restoreBlock_steady ?_
    | with_reducible refine dropTransfer_steady ?_
    | with_reducible refine takeL3_steady ?_
    | with_reducible refine setTransfer_steady ?_
    | with_reducible refine steady_ite (fun _ => ?_) (fun _ => ?_)

theorem receiveFill_steady {s : State} {p : PlanImage} {bytes : List Byte} (hs : Steady A s₀ s) :
    Steady A s₀ (receiveFill s p bytes) := by
  unfold receiveFill
  repeat' first
    | with_reducible assumption
    | with_reducible refine dropTransfer_steady ?_
    | with_reducible refine takeL3_steady ?_
    | with_reducible refine setTransfer_steady ?_
    | with_reducible refine steady_ite (fun _ => ?_) (fun _ => ?_)

theorem receiveTransfer_steady {s : State} {p : PlanImage} {kind : Nat} {region : Nat} {a : Nat} {bytes : List Byte} (hs : Steady A s₀ s) :
    Steady A s₀ (receiveTransfer s p kind region a bytes) := by
  unfold receiveTransfer
  repeat' first
    | with_reducible assumption
    | with_reducible refine receiveSlot_steady ?_
    | with_reducible refine receiveRestore_steady ?_
    | with_reducible refine receiveFill_steady ?_
    | with_reducible refine steady_ite (fun _ => ?_) (fun _ => ?_)
    | split

theorem setTxn_steady {s : State} {id : Nat} {t : Txn} (hs : Steady A s₀ s) :
    Steady A s₀ (setTxn s id t) := by
  unfold setTxn
  repeat' first
    | with_reducible assumption
    | fail_if_no_progress (with_reducible refine steady_mk ?_ rfl rfl)

theorem setEvent_steady {s : State} {v : StagedValue} (hs : Steady A s₀ s) :
    Steady A s₀ (setEvent s v) := by
  unfold setEvent
  repeat' first
    | with_reducible assumption
    | with_reducible refine changeEvent_steady ?_
    | split

theorem releaseTxn_steady {s : State} {id : Nat} {gone : Nat → Bool} (hs : Steady A s₀ s) :
    Steady A s₀ (releaseTxn s id gone) := by
  unfold releaseTxn
  repeat' first
    | with_reducible assumption
    | fail_if_no_progress (with_reducible refine steady_mk ?_ rfl rfl)
    | with_reducible refine setTxn_steady ?_
    | with_reducible refine steady_ite (fun _ => ?_) (fun _ => ?_)
    | split

theorem boundaryTxn_steady {listed : List Nat} {s : State} {id : Nat} (hs : Steady A s₀ s) :
    Steady A s₀ (boundaryTxn listed s id) := by
  unfold boundaryTxn
  repeat' first
    | with_reducible assumption
    | with_reducible refine releaseTxn_steady ?_
    | with_reducible refine raise_steady ?_
    | with_reducible refine steady_ite (fun _ => ?_) (fun _ => ?_)
    | split

theorem commitBoundary_steady {s : State} {listed : List Nat} (hs : Steady A s₀ s) :
    Steady A s₀ (commitBoundary s listed) := by
  unfold commitBoundary
  repeat' first
    | with_reducible assumption
    | fail_if_no_progress (with_reducible refine steady_mk ?_ rfl rfl)
    | with_reducible refine setEvent_steady ?_
    | with_reducible refine setLive_steady ?_
    | with_reducible refine boundaryTxn_steady ?_
    | with_reducible refine steady_foldl ?_ (fun _ _ _ => ?_)

theorem txnTick_steady {t : Nat} {s : State} {id : Nat} (hs : Steady A s₀ s) :
    Steady A s₀ (txnTick t s id) := by
  unfold txnTick
  repeat' first
    | with_reducible assumption
    | fail_if_no_progress (with_reducible refine steady_mk ?_ rfl rfl)
    | with_reducible refine setLive_steady ?_
    | with_reducible refine setTxn_steady ?_
    | with_reducible refine releaseTxn_steady ?_
    | with_reducible refine respond_steady ?_
    | with_reducible refine changeEvent_steady ?_
    | with_reducible refine steady_foldl ?_ (fun _ _ _ => ?_)
    | with_reducible refine steady_ite (fun _ => ?_) (fun _ => ?_)
    | split

theorem settingsTick_steady {s : State} {t : Nat} (hs : Steady A s₀ s) :
    Steady A s₀ (settingsTick s t) := by
  unfold settingsTick
  repeat' first
    | with_reducible assumption
    | fail_if_no_progress (with_reducible refine steady_mk ?_ rfl rfl)
    | with_reducible refine setEvent_steady ?_
    | with_reducible refine setLive_steady ?_
    | with_reducible refine txnTick_steady ?_
    | with_reducible refine steady_foldl ?_ (fun _ _ _ => ?_)

theorem resetSettings_steady {s : State} (hs : Steady A s₀ s) :
    Steady A s₀ (resetSettings s) := by
  unfold resetSettings
  repeat' first
    | with_reducible assumption
    | fail_if_no_progress (with_reducible refine steady_mk ?_ rfl rfl)
    | with_reducible refine setLive_steady ?_
    | with_reducible refine releaseTxn_steady ?_
    | with_reducible refine steady_foldl ?_ (fun _ _ _ => ?_)

theorem execSettingGet_steady {r : Req} {ids : List Word} {s : State} (hs : Steady A s₀ s) :
    SteadyR A s₀ (execSettingGet r ids s) := by
  unfold execSettingGet
  repeat' first
    | with_reducible assumption
    | with_reducible refine steadyR_next ?_
    | with_reducible refine serve_steady ?_ (fun _ _ => ?_)
    | with_reducible refine refuse_steady ?_
    | with_reducible refine answer_steady ?_
    | with_reducible refine steady_ite (fun _ => ?_) (fun _ => ?_)

theorem execSettingSet_steady {r : Req} {id : Word} {value : Word} {s : State} (hs : Steady A s₀ s) :
    SteadyR A s₀ (execSettingSet r id value s) := by
  unfold execSettingSet
  repeat' first
    | with_reducible assumption
    | fail_if_no_progress (with_reducible refine steady_mk ?_ rfl rfl)
    | with_reducible refine steadyR_next ?_
    | with_reducible refine serve_steady ?_ (fun _ _ => ?_)
    | with_reducible refine refuse_steady ?_
    | with_reducible refine acknowledged_steady ?_
    | with_reducible refine steady_ite (fun _ => ?_) (fun _ => ?_)
    | split

theorem execTxnBegin_steady {r : Req} {s : State} (hs : Steady A s₀ s) :
    SteadyR A s₀ (execTxnBegin r s) := by
  unfold execTxnBegin
  repeat' first
    | with_reducible assumption
    | fail_if_no_progress (with_reducible refine steady_mk ?_ rfl rfl)
    | with_reducible refine steadyR_next ?_
    | with_reducible refine serve_steady ?_ (fun _ _ => ?_)
    | with_reducible refine refuse_steady ?_
    | with_reducible refine acknowledged_steady ?_
    | with_reducible refine setTxn_steady ?_
    | with_reducible refine steady_ite (fun _ => ?_) (fun _ => ?_)

theorem onTxn_steady {s : State} {r : Req} {opcode : Nat} {txn : Word} {f : State → Nat → Txn → State} (hs : Steady A s₀ s)
    (hsf : ∀ s n t, Steady A s₀ s → Steady A s₀ (f s n t)) :
    Steady A s₀ (onTxn s r opcode txn f) := by
  unfold onTxn
  repeat' first
    | with_reducible assumption
    | with_reducible refine hsf _ _ _ ?_
    | with_reducible refine refuse_steady ?_
    | with_reducible refine steady_ite (fun _ => ?_) (fun _ => ?_)
    | split

theorem execTxnStage_steady {r : Req} {txn : Word} {pairs : List (Word × Word)} {s : State} (hs : Steady A s₀ s) :
    SteadyR A s₀ (execTxnStage r txn pairs s) := by
  unfold execTxnStage
  repeat' first
    | with_reducible assumption
    | fail_if_no_progress (with_reducible refine steady_mk ?_ rfl rfl)
    | with_reducible refine steadyR_next ?_
    | with_reducible refine serve_steady ?_ (fun _ _ => ?_)
    | with_reducible refine onTxn_steady ?_ (fun _ _ _ _ => ?_)
    | with_reducible refine refuse_steady ?_
    | with_reducible refine acknowledged_steady ?_
    | with_reducible refine setTxn_steady ?_
    | with_reducible refine steady_ite (fun _ => ?_) (fun _ => ?_)
    | split

theorem execTxnCommit_steady {r : Req} {txn : Word} {target : BitVec 48} {s : State} (hs : Steady A s₀ s) :
    SteadyR A s₀ (execTxnCommit r txn target s) := by
  unfold execTxnCommit
  repeat' first
    | with_reducible assumption
    | fail_if_no_progress (with_reducible refine steady_mk ?_ rfl rfl)
    | with_reducible refine steadyR_next ?_
    | with_reducible refine serveC_steady ?_ (fun _ _ => ?_)
    | with_reducible refine onTxn_steady ?_ (fun _ _ _ _ => ?_)
    | with_reducible refine refuse_steady ?_
    | with_reducible refine accept_steady ?_
    | with_reducible refine setTxn_steady ?_
    | with_reducible refine steady_ite (fun _ => ?_) (fun _ => ?_)

theorem dropTxn_steady {s : State} {id : Nat} {t : Txn} (hs : Steady A s₀ s) :
    Steady A s₀ (dropTxn s id t) := by
  unfold dropTxn
  repeat' first
    | with_reducible assumption
    | fail_if_no_progress (with_reducible refine steady_mk ?_ rfl rfl)
    | with_reducible refine setTxn_steady ?_

theorem execTxnRollback_steady {r : Req} {txn : Word} {s : State} (hs : Steady A s₀ s) :
    SteadyR A s₀ (execTxnRollback r txn s) := by
  unfold execTxnRollback
  repeat' first
    | with_reducible assumption
    | with_reducible refine steadyR_next ?_
    | with_reducible refine serve_steady ?_ (fun _ _ => ?_)
    | with_reducible refine onTxn_steady ?_ (fun _ _ _ _ => ?_)
    | with_reducible refine acknowledged_steady ?_
    | with_reducible refine dropTxn_steady ?_

theorem rollbackTxn_steady {s : State} {id : Nat} (hs : Steady A s₀ s) :
    Steady A s₀ (rollbackTxn s id) := by
  unfold rollbackTxn
  repeat' first
    | with_reducible assumption
    | with_reducible refine raise_steady ?_
    | with_reducible refine dropTxn_steady ?_
    | with_reducible refine steady_ite (fun _ => ?_) (fun _ => ?_)
    | split

theorem execTxnTimeout_steady {id : Word} {s : State} (hs : Steady A s₀ s) :
    SteadyR A s₀ (execTxnTimeout id s) := by
  unfold execTxnTimeout
  repeat' first
    | with_reducible assumption
    | with_reducible refine steadyR_next ?_
    | with_reducible refine rollbackTxn_steady ?_

theorem rollbackHost_steady {s : State} (hs : Steady A s₀ s) :
    Steady A s₀ (rollbackHost s) := by
  unfold rollbackHost
  repeat' first
    | with_reducible assumption
    | with_reducible refine rollbackTxn_steady ?_
    | with_reducible refine steady_foldl ?_ (fun _ _ _ => ?_)

theorem execTxnStatus_steady {r : Req} {txn : Word} {s : State} (hs : Steady A s₀ s) :
    SteadyR A s₀ (execTxnStatus r txn s) := by
  unfold execTxnStatus
  repeat' first
    | with_reducible assumption
    | with_reducible refine steadyR_next ?_
    | with_reducible refine serve_steady ?_ (fun _ _ => ?_)
    | with_reducible refine refuse_steady ?_
    | with_reducible refine answer_steady ?_
    | with_reducible refine steady_ite (fun _ => ?_) (fun _ => ?_)
    | split

theorem countLink_steady {s : State} {l : Nat} {f : LinkCounters → LinkCounters} (hs : Steady A s₀ s) :
    Steady A s₀ (countLink s l f) := by
  unfold countLink
  repeat' first
    | with_reducible assumption
    | fail_if_no_progress (with_reducible refine steady_mk ?_ rfl rfl)
    | with_reducible refine modLink_steady ?_

theorem putWire_steady {s : State} {d : Nat} {f : TxFlit} (hs : Steady A s₀ s) :
    Steady A s₀ (putWire s d f) := by
  unfold putWire
  repeat' first
    | with_reducible assumption
    | fail_if_no_progress (with_reducible refine steady_mk ?_ rfl rfl)
    | with_reducible refine portBytes_steady ?_
    | with_reducible refine modGroup_steady ?_

theorem takeMessage_steady {s : State} {d : Nat} (hs : Steady A s₀ s) :
    Steady A s₀ (takeMessage s d).1 := by
  unfold takeMessage
  repeat' first
    | with_reducible assumption
    | fail_if_no_progress (with_reducible refine steady_mk ?_ rfl rfl)
    | split

theorem controlFlitOn_steady {s : State} {d : Nat} {m : Nat} {t : Nat} (hs : Steady A s₀ s) :
    Steady A s₀ (controlFlitOn s d m t) := by
  unfold controlFlitOn
  repeat' first
    | with_reducible assumption
    | fail_if_no_progress (with_reducible refine steady_mk ?_ rfl rfl)
    | with_reducible refine modGroup_steady ?_
    | with_reducible refine countLink_steady ?_
    | with_reducible refine takeMessage_steady ?_
    | with_reducible refine modLink_steady ?_
    | with_reducible refine putWire_steady ?_

theorem controlPosition_steady {s : State} {d : Nat} {t : Nat} (hs : Steady A s₀ s) :
    Steady A s₀ (controlPosition s d t) := by
  unfold controlPosition
  repeat' first
    | with_reducible assumption
    | fail_if_no_progress (with_reducible refine steady_mk ?_ rfl rfl)
    | with_reducible refine controlFlitOn_steady ?_
    | with_reducible refine steady_foldl ?_ (fun _ _ _ => ?_)
    | with_reducible refine steady_ite (fun _ => ?_) (fun _ => ?_)

theorem sendRetry_steady {s : State} {d : Nat} {t : Nat} {r : FlitRec} (hs : Steady A s₀ s) :
    Steady A s₀ (sendRetry s d t r) := by
  unfold sendRetry
  repeat' first
    | with_reducible assumption
    | fail_if_no_progress (with_reducible refine steady_mk ?_ rfl rfl)
    | with_reducible refine modGroup_steady ?_
    | with_reducible refine countLink_steady ?_
    | with_reducible refine raiseOnce_steady ?_
    | with_reducible refine putWire_steady ?_

theorem sendNext_steady {s : State} {d : Nat} {m : Nat} {t : Nat} (hs : Steady A s₀ s) :
    Steady A s₀ (sendNext s d m t) := by
  unfold sendNext
  repeat' first
    | with_reducible assumption
    | fail_if_no_progress (with_reducible refine steady_mk ?_ rfl rfl)
    | with_reducible refine modGroup_steady ?_
    | with_reducible refine takeMessage_steady ?_
    | with_reducible refine putWire_steady ?_
    | with_reducible refine steady_ite (fun _ => ?_) (fun _ => ?_)
    | split
    | (dsimp only; split)

theorem dataPosition_steady {s : State} {d : Nat} {m : Nat} {t : Nat} (hs : Steady A s₀ s) :
    Steady A s₀ (dataPosition s d m t) := by
  unfold dataPosition
  repeat' first
    | with_reducible assumption
    | with_reducible refine sendRetry_steady ?_
    | with_reducible refine sendNext_steady ?_
    | with_reducible refine steady_ite (fun _ => ?_) (fun _ => ?_)
    | split

theorem execSlotEntryTransmit_steady {dir : Fin 6} {time : Fin 15620} {s : State} (hs : Steady A s₀ s) :
    SteadyR A s₀ (execSlotEntryTransmit dir time s) := by
  unfold execSlotEntryTransmit
  repeat' first
    | with_reducible assumption
    | with_reducible refine steadyR_next ?_
    | with_reducible refine controlPosition_steady ?_
    | with_reducible refine dataPosition_steady ?_
    | with_reducible refine steady_foldl ?_ (fun _ _ _ => ?_)
    | with_reducible refine steady_ite (fun _ => ?_) (fun _ => ?_)
    | with_reducible refine steadyR_ite (fun _ => ?_) (fun _ => ?_)

theorem execRetryTimeout_steady {dir : Fin 6} {member : Fin 8} {time : Fin 15620} {previous : Bool} {s : State} (hs : Steady A s₀ s) :
    SteadyR A s₀ (execRetryTimeout dir member time previous s) := by
  unfold execRetryTimeout
  repeat' first
    | with_reducible assumption
    | with_reducible refine steadyR_next ?_
    | with_reducible refine modGroup_steady ?_
    | with_reducible refine steady_ite (fun _ => ?_) (fun _ => ?_)
    | split
    | (dsimp only; split)

theorem writeFlit_steady {s : State} {l : Nat} {place : Place} {bytes : List Byte} {poison : Nat} {lost : Bool} (hs : Steady A s₀ s) :
    Steady A s₀ (writeFlit s l place bytes poison lost) := by
  unfold writeFlit
  repeat' first
    | with_reducible assumption
    | fail_if_no_progress (with_reducible refine steady_mk ?_ rfl rfl)
    | with_reducible refine writeTile_steady ?_
    | with_reducible refine writeHbm_steady ?_
    | with_reducible refine steady_foldl ?_ (fun _ _ _ => ?_)
    | with_reducible refine steady_ite (fun _ => ?_) (fun _ => ?_)
    | split

theorem countGradient_steady {s : State} {place : Place} (hs : Steady A s₀ s) :
    Steady A s₀ (countGradient s place) := by
  unfold countGradient
  repeat' first
    | with_reducible assumption
    | fail_if_no_progress (with_reducible refine steady_mk ?_ rfl rfl)
    | split

theorem deliverFlit_steady {s : State} {l : Nat} {d : Nat} {pos : Nat} {entry : Nat} {flit : Nat} {payload : List Byte} {poison : Nat} {lost : Bool} (hs : Steady A s₀ s) :
    Steady A s₀ (deliverFlit s l d pos entry flit payload poison lost) := by
  unfold deliverFlit
  repeat' first
    | with_reducible assumption
    | fail_if_no_progress (with_reducible refine steady_mk ?_ rfl rfl)
    | with_reducible refine writeFlit_steady ?_
    | with_reducible refine modGroup_steady ?_
    | with_reducible refine countGradient_steady ?_
    | with_reducible refine receiveTransfer_steady ?_
    | with_reducible refine steady_ite (fun _ => ?_) (fun _ => ?_)
    | split
    | (dsimp only; split)

theorem abandonFlit_steady {s : State} {l : Nat} {r : FlitRec} (hs : Steady A s₀ s) :
    Steady A s₀ (abandonFlit s l r) := by
  unfold abandonFlit
  repeat' first
    | with_reducible assumption
    | fail_if_no_progress (with_reducible refine steady_mk ?_ rfl rfl)
    | with_reducible refine modGroup_steady ?_
    | with_reducible refine countLink_steady ?_
    | with_reducible refine raise_steady ?_
    | with_reducible refine deliverFlit_steady ?_

theorem linkDown_steady {s : State} {l : Nat} (hs : Steady A s₀ s) :
    Steady A s₀ (linkDown s l) := by
  unfold linkDown
  repeat' first
    | with_reducible assumption
    | fail_if_no_progress (with_reducible refine steady_mk ?_ rfl rfl)
    | with_reducible refine modLink_steady ?_
    | with_reducible refine modGroup_steady ?_

theorem laneFail_steady {s : State} {l : Nat} {lane : Nat} (hs : Steady A s₀ s) :
    Steady A s₀ (laneFail s l lane) := by
  unfold laneFail
  repeat' first
    | with_reducible assumption
    | fail_if_no_progress (with_reducible refine steady_mk ?_ rfl rfl)
    | with_reducible refine modLink_steady ?_
    | with_reducible refine linkDown_steady ?_
    | with_reducible refine raiseCharged_steady ?_
    | with_reducible refine steady_ite (fun _ => ?_) (fun _ => ?_)

theorem countCodeword_steady {s : State} {l : Nat} {o : FlitOutcome} (hs : Steady A s₀ s) :
    Steady A s₀ (countCodeword s l o) := by
  unfold countCodeword
  repeat' first
    | with_reducible assumption
    | fail_if_no_progress (with_reducible refine steady_mk ?_ rfl rfl)
    | with_reducible refine portBytes_steady ?_
    | with_reducible refine countLink_steady ?_
    | with_reducible refine modLink_steady ?_
    | with_reducible refine correction_steady ?_
    | with_reducible refine laneFail_steady ?_
    | with_reducible refine steady_foldl ?_ (fun _ _ _ => ?_)
    | with_reducible refine steady_ite (fun _ => ?_) (fun _ => ?_)
    | split

theorem ackArrival_steady {s : State} {l : Nat} {t : Nat} {ok : Bool} (hs : Steady A s₀ s) :
    Steady A s₀ (ackArrival s l t ok) := by
  unfold ackArrival
  repeat' first
    | with_reducible assumption
    | fail_if_no_progress (with_reducible refine steady_mk ?_ rfl rfl)
    | with_reducible refine modLink_steady ?_

theorem deferFlit_steady {s : State} {l : Nat} {t : Nat} {r : FlitRec} (hs : Steady A s₀ s) :
    Steady A s₀ (deferFlit s l t r) := by
  unfold deferFlit
  repeat' first
    | with_reducible assumption
    | fail_if_no_progress (with_reducible refine steady_mk ?_ rfl rfl)
    | with_reducible refine modLake_steady ?_
    | with_reducible refine ackArrival_steady ?_
    | with_reducible refine raiseOnce_steady ?_
    | with_reducible refine abandonFlit_steady ?_
    | with_reducible refine modLink_steady ?_
    | with_reducible refine steady_ite (fun _ => ?_) (fun _ => ?_)

theorem takeFlit_steady {s : State} {l : Nat} {t : Nat} {r : FlitRec} {payload : List Byte} {poison : Nat} (hs : Steady A s₀ s) :
    Steady A s₀ (takeFlit s l t r payload poison) := by
  unfold takeFlit
  repeat' first
    | with_reducible assumption
    | fail_if_no_progress (with_reducible refine steady_mk ?_ rfl rfl)
    | with_reducible refine modGroup_steady ?_
    | with_reducible refine ackArrival_steady ?_
    | with_reducible refine deliverFlit_steady ?_
    | with_reducible refine deferFlit_steady ?_
    | with_reducible refine steady_ite (fun _ => ?_) (fun _ => ?_)

theorem advanceRx_steady {s : State} {d : Nat} {entry : Nat} {flit : Nat} (hs : Steady A s₀ s) :
    Steady A s₀ (advanceRx s d entry flit) := by
  unfold advanceRx
  repeat' first
    | with_reducible assumption
    | fail_if_no_progress (with_reducible refine steady_mk ?_ rfl rfl)
    | with_reducible refine modGroup_steady ?_

theorem receiveData_steady {s : State} {l : Nat} {t : Nat} {payload : List Byte} {poison : Nat} {ok : Bool} (hs : Steady A s₀ s) :
    Steady A s₀ (receiveData s l t payload poison ok) := by
  unfold receiveData
  repeat' first
    | with_reducible assumption
    | fail_if_no_progress (with_reducible refine steady_mk ?_ rfl rfl)
    | with_reducible refine ackArrival_steady ?_
    | with_reducible refine modGroup_steady ?_
    | with_reducible refine advanceRx_steady ?_
    | with_reducible refine takeFlit_steady ?_
    | with_reducible refine steady_ite (fun _ => ?_) (fun _ => ?_)
    | split
    | (dsimp only; split)

theorem receiveRetry_steady {s : State} {l : Nat} {t : Nat} {payload : List Byte} {poison : Nat} {ok : Bool} (hs : Steady A s₀ s) :
    Steady A s₀ (receiveRetry s l t payload poison ok) := by
  unfold receiveRetry
  repeat' first
    | with_reducible assumption
    | fail_if_no_progress (with_reducible refine steady_mk ?_ rfl rfl)
    | with_reducible refine ackArrival_steady ?_
    | with_reducible refine modGroup_steady ?_
    | with_reducible refine correction_steady ?_
    | with_reducible refine countLink_steady ?_
    | with_reducible refine takeFlit_steady ?_
    | with_reducible refine steady_ite (fun _ => ?_) (fun _ => ?_)
    | split
    | (dsimp only; split)

theorem execFlitReceive_steady {link : LinkId} {time : Fin 15620} {retry : Bool} {poison : BitVec 10} {payload : List Byte} {outcome : FlitOutcome} {cyc : Nat} {s : State} (hs : Steady A s₀ s) :
    SteadyR A s₀ (execFlitReceive link time retry poison payload outcome cyc s) := by
  unfold execFlitReceive
  repeat' first
    | with_reducible assumption
    | with_reducible refine steadyR_next ?_
    | with_reducible refine countCodeword_steady ?_
    | with_reducible refine atCycle_steady ?_
    | with_reducible refine receiveRetry_steady ?_
    | with_reducible refine receiveData_steady ?_
    | with_reducible refine steady_ite (fun _ => ?_) (fun _ => ?_)
    | with_reducible refine steadyR_ite (fun _ => ?_) (fun _ => ?_)

theorem takeAcks_steady {s : State} {l : Nat} {w : ControlWords} (hs : Steady A s₀ s) :
    Steady A s₀ (takeAcks s l w) := by
  unfold takeAcks
  repeat' first
    | with_reducible assumption
    | with_reducible refine modGroup_steady ?_

theorem takeView_steady {s : State} {l : Nat} {w : ControlWords} (hs : Steady A s₀ s) :
    Steady A s₀ (takeView s l w) := by
  unfold takeView
  repeat' first
    | with_reducible assumption
    | with_reducible refine linkDown_steady ?_
    | with_reducible refine steady_foldl ?_ (fun _ _ _ => ?_)
    | with_reducible refine steady_ite (fun _ => ?_) (fun _ => ?_)

theorem takeRetries_steady {s : State} {l : Nat} {w : ControlWords} (hs : Steady A s₀ s) :
    Steady A s₀ (takeRetries s l w) := by
  unfold takeRetries
  repeat' first
    | with_reducible assumption
    | fail_if_no_progress (with_reducible refine steady_mk ?_ rfl rfl)
    | with_reducible refine modGroup_steady ?_
    | with_reducible refine abandonFlit_steady ?_
    | with_reducible refine steady_foldl ?_ (fun _ _ _ => ?_)
    | split

theorem discover_steady {s : State} {l : Nat} {w : ControlWords} (hs : Steady A s₀ s) :
    Steady A s₀ (discover s l w) := by
  unfold discover
  repeat' first
    | with_reducible assumption
    | fail_if_no_progress (with_reducible refine steady_mk ?_ rfl rfl)
    | with_reducible refine modLink_steady ?_
    | with_reducible refine raise_steady ?_
    | with_reducible refine steady_ite (fun _ => ?_) (fun _ => ?_)
    | split

theorem takeEvent_steady {s : State} {l : Nat} {e : SyncEvent} (hs : Steady A s₀ s) :
    Steady A s₀ (takeEvent s l e) := by
  unfold takeEvent
  repeat' first
    | with_reducible assumption
    | with_reducible refine receiveFlood_steady ?_
    | split

theorem takeC0_steady {s : State} {m : C0Message} (hs : Steady A s₀ s) :
    Steady A s₀ (takeC0 s m) := by
  unfold takeC0
  repeat' first
    | with_reducible assumption
    | fail_if_no_progress (with_reducible refine steady_mk ?_ rfl rfl)
    | with_reducible refine steady_ite (fun _ => ?_) (fun _ => ?_)

theorem takeC0Position_steady {s : State} {l : Nat} {t : Nat} (hs : Steady A s₀ s) :
    Steady A s₀ (takeC0Position s l t) := by
  unfold takeC0Position
  repeat' first
    | with_reducible assumption
    | fail_if_no_progress (with_reducible refine steady_mk ?_ rfl rfl)
    | with_reducible refine modGroup_steady ?_
    | with_reducible refine advanceRx_steady ?_
    | with_reducible refine steady_ite (fun _ => ?_) (fun _ => ?_)
    | split

theorem execControlFlit_steady {link : LinkId} {time : Fin 15620} {w : ControlWords} {outcome : FlitOutcome} {cyc : Nat} {s : State} (hs : Steady A s₀ s) :
    SteadyR A s₀ (execControlFlit link time w outcome cyc s) := by
  unfold execControlFlit
  repeat' first
    | with_reducible assumption
    | with_reducible refine steadyR_next ?_
    | with_reducible refine takeC0Position_steady ?_
    | with_reducible refine countCodeword_steady ?_
    | with_reducible refine atCycle_steady ?_
    | with_reducible refine takeRetries_steady ?_
    | with_reducible refine takeView_steady ?_
    | with_reducible refine takeAcks_steady ?_
    | with_reducible refine discover_steady ?_
    | with_reducible refine takeEvent_steady ?_
    | with_reducible refine takeC0_steady ?_
    | with_reducible refine steady_foldl ?_ (fun _ _ _ => ?_)
    | with_reducible refine steady_ite (fun _ => ?_) (fun _ => ?_)
    | with_reducible refine steadyR_ite (fun _ => ?_) (fun _ => ?_)

theorem execLaneFailure_steady {link : LinkId} {lane : Fin 4} {cyc : Nat} {s : State} (hs : Steady A s₀ s) :
    SteadyR A s₀ (execLaneFailure link lane cyc s) := by
  unfold execLaneFailure
  repeat' first
    | with_reducible assumption
    | with_reducible refine steadyR_next ?_
    | with_reducible refine laneFail_steady ?_
    | with_reducible refine atCycle_steady ?_

theorem execLaneDegradeRetrain_steady {link : LinkId} {failed : BitVec 4} {s : State} (hs : Steady A s₀ s) :
    SteadyR A s₀ (execLaneDegradeRetrain link failed s) := by
  unfold execLaneDegradeRetrain
  repeat' first
    | with_reducible assumption
    | fail_if_no_progress (with_reducible refine steady_mk ?_ rfl rfl)
    | with_reducible refine steadyR_next ?_
    | with_reducible refine modLink_steady ?_
    | with_reducible refine raise_steady ?_
    | with_reducible refine steady_ite (fun _ => ?_) (fun _ => ?_)
    | split
    | (dsimp only; split)

theorem execEyeMeasurement_steady {link : LinkId} {lane : Fin 4} {height : Half} {width : Half} {ser : Word} {admission : Bool} {s : State} (hs : Steady A s₀ s) :
    SteadyR A s₀ (execEyeMeasurement link lane height width ser admission s) := by
  unfold execEyeMeasurement
  repeat' first
    | with_reducible assumption
    | fail_if_no_progress (with_reducible refine steady_mk ?_ rfl rfl)
    | with_reducible refine steadyR_next ?_
    | with_reducible refine modLink_steady ?_
    | with_reducible refine laneFail_steady ?_
    | with_reducible refine modHealth_steady ?_
    | with_reducible refine raiseCharged_steady ?_
    | with_reducible refine steady_ite (fun _ => ?_) (fun _ => ?_)
    | with_reducible refine steadyR_ite (fun _ => ?_) (fun _ => ?_)

theorem execLaneTraining_steady {down : List LinkId} {s : State} (hs : Steady A s₀ s) :
    SteadyR A s₀ (execLaneTraining down s) := by
  unfold execLaneTraining
  repeat' first
    | with_reducible assumption
    | fail_if_no_progress (with_reducible refine steady_mk ?_ rfl rfl)
    | with_reducible refine steadyR_next ?_
    | with_reducible refine modLink_steady ?_
    | with_reducible refine steady_foldl ?_ (fun _ _ _ => ?_)
    | with_reducible refine steady_ite (fun _ => ?_) (fun _ => ?_)
    | with_reducible refine steadyR_ite (fun _ => ?_) (fun _ => ?_)

theorem linksTick_steady {s : State} (hs : Steady A s₀ s) :
    Steady A s₀ (linksTick s) := by
  unfold linksTick
  repeat' first
    | with_reducible assumption
    | fail_if_no_progress (with_reducible refine steady_mk ?_ rfl rfl)
    | with_reducible refine raiseOnce_steady ?_
    | with_reducible refine steady_foldl ?_ (fun _ _ _ => ?_)
    | with_reducible refine steady_ite (fun _ => ?_) (fun _ => ?_)
    | split

theorem slotsStart_steady {s : State} (hs : Steady A s₀ s) :
    Steady A s₀ (slotsStart s) := by
  unfold slotsStart
  repeat' first
    | with_reducible assumption
    | fail_if_no_progress (with_reducible refine steady_mk ?_ rfl rfl)

end Sys2Proof.Machine
end

