-- ==== Sys2Proof/Laws/SteadyPlan.lean ====
section
/-!
SUPPORT. Sys2Proof/Laws/SteadyPlan.lean: that the functions of plan frames, commit points, the ledger and plan loading
change nothing but what Steady allows, one lemma each.
-/
namespace Sys2Proof.Machine
open Sys2Proof

variable {A : Allowed} {s₀ : State}

theorem placeCalibrations_steady {s : State} {t : Option Template} (hs : Steady A s₀ s) :
    Steady A s₀ (placeCalibrations s t) := by
  unfold placeCalibrations
  repeat' first
    | with_reducible assumption
    | fail_if_no_progress (with_reducible refine steady_mk ?_ rfl rfl)
    | with_reducible refine modArr_steady ?_
    | with_reducible refine steady_foldl ?_ (fun _ _ _ => ?_)
    | with_reducible refine steady_ite (fun _ => ?_) (fun _ => ?_)

theorem assertStretch_steady {s : State} {pos : Nat} (hs : Steady A s₀ s) :
    Steady A s₀ (assertStretch s pos) := by
  unfold assertStretch
  repeat' first
    | with_reducible assumption
    | fail_if_no_progress (with_reducible refine steady_mk ?_ rfl rfl)
    | with_reducible refine monitorRecord_steady ?_
    | with_reducible refine flood_steady ?_
    | with_reducible refine raise_steady ?_
    | with_reducible refine steady_ite (fun _ => ?_) (fun _ => ?_)

theorem grantFallback_steady {s : State} {t : Template} {p : Nat} (hs : Steady A s₀ s) : Steady A s₀ (grantFallback s t p).1 := by
  unfold grantFallback
  extract_lets req auto granted refused num s1
  have h1 : Steady A s₀ s1 := steady_mk hs rfl rfl
  clear_value s1
  split
  · exact steady_mk h1 rfl rfl
  · rename_i s2 _
    have h2 : Steady A s₀ s2 := raise_steady (steady_mk h1 rfl rfl)
    exact steady_ite (fun _ => assertStretch_steady h2) (fun _ => h2)

theorem beginFrame_steady {s : State} {pos : Nat} {again : Bool} (hs : Steady A s₀ s) :
    Steady A s₀ (beginFrame s pos again) := by
  unfold beginFrame
  repeat' first
    | with_reducible assumption
    | fail_if_no_progress (with_reducible refine steady_mk ?_ rfl rfl)
    | with_reducible refine scalesTick_steady ?_
    | with_reducible refine takeSnapshot_steady ?_
    | with_reducible refine slotsStart_steady ?_
    | with_reducible refine placeCalibrations_steady ?_
    | with_reducible refine grantFallback_steady ?_
    | with_reducible refine grantTick_steady ?_
    | with_reducible refine steady_ite (fun _ => ?_) (fun _ => ?_)
    | split
    | (dsimp only; split)

theorem closeEvents_steady {s : State} {f : PlanFrame} (hs : Steady A s₀ s) :
    Steady A s₀ (closeEvents s f) := by
  unfold closeEvents
  repeat' first
    | with_reducible assumption
    | with_reducible refine raise_steady ?_
    | with_reducible refine addExc_steady ?_
    | with_reducible refine steady_foldl ?_ (fun _ _ _ => ?_)
    | with_reducible refine steady_ite (fun _ => ?_) (fun _ => ?_)

theorem closeFrame_steady {s : State} {f : PlanFrame} (hs : Steady A s₀ s) :
    Steady A s₀ (closeFrame s f) := by
  unfold closeFrame
  repeat' first
    | with_reducible assumption
    | fail_if_no_progress (with_reducible refine steady_mk ?_ rfl rfl)
    | with_reducible refine closeEvents_steady ?_

theorem prefetchEvent_steady {s : State} {f : PlanFrame} (hs : Steady A s₀ s) :
    Steady A s₀ (prefetchEvent s f) := by
  unfold prefetchEvent
  repeat' first
    | with_reducible assumption
    | with_reducible refine raise_steady ?_
    | with_reducible refine steady_ite (fun _ => ?_) (fun _ => ?_)

theorem discardAll_steady {s : State} (hs : Steady A s₀ s) :
    Steady A s₀ (discardAll s) := by
  unfold discardAll
  repeat' first
    | with_reducible assumption
    | fail_if_no_progress (with_reducible refine steady_mk ?_ rfl rfl)
    | with_reducible refine discardGen_steady ?_
    | split

theorem idleRecord_steady {s : State} {late : Bool} (hs : Steady A s₀ s) :
    Steady A s₀ (idleRecord s late) := by
  unfold idleRecord
  repeat' first
    | with_reducible assumption
    | fail_if_no_progress (with_reducible refine steady_mk ?_ rfl rfl)
    | with_reducible refine steady_ite (fun _ => ?_) (fun _ => ?_)

theorem haltRun_steady {s : State} (hs : Steady A s₀ s) :
    Steady A s₀ (haltRun s) := by
  unfold haltRun
  repeat' first
    | with_reducible assumption
    | fail_if_no_progress (with_reducible refine steady_mk ?_ rfl rfl)
    | with_reducible refine spliceLakes_steady ?_

theorem haltNow_steady {s : State} (hs : Steady A s₀ s) :
    Steady A s₀ (haltNow s) := by
  unfold haltNow
  repeat' first
    | with_reducible assumption
    | with_reducible refine haltRun_steady ?_
    | with_reducible refine discardAll_steady ?_

theorem stopAtTick_steady {s : State} {p : PlanImage} {due : Bool} (hs : Steady A s₀ s) :
    Steady A s₀ (stopAtTick s p due) := by
  unfold stopAtTick
  repeat' first
    | with_reducible assumption
    | fail_if_no_progress (with_reducible refine steady_mk ?_ rfl rfl)
    | with_reducible refine closeFrame_steady ?_
    | with_reducible refine discardGen_steady ?_
    | with_reducible refine raise_steady ?_
    | with_reducible refine haltRun_steady ?_
    | with_reducible refine steady_ite (fun _ => ?_) (fun _ => ?_)
    | split

theorem mirrorRound_steady {s : State} {p : PlanImage} (hs : Steady A s₀ s) :
    Steady A s₀ (mirrorRound s p) := by
  unfold mirrorRound
  repeat' first
    | with_reducible assumption
    | fail_if_no_progress (with_reducible refine steady_mk ?_ rfl rfl)
    | with_reducible refine steady_ite (fun _ => ?_) (fun _ => ?_)

theorem flipVersion_steady {s : State} {p : PlanImage} {next : Nat} (hversions : A.versions = true) (hs : Steady A s₀ s) :
    Steady A s₀ (flipVersion s p next) := by
  unfold flipVersion
  repeat' first
    | with_reducible assumption
    | fail_if_no_progress (with_reducible refine steady_mk ?_ rfl rfl)
    | fail_if_no_progress (with_reducible refine steady_mk_versions hversions ?_ rfl rfl)
    | with_reducible refine lossFlip_steady ?_
    | with_reducible refine ratioFlags_steady ?_
    | with_reducible refine mirrorRound_steady ?_

theorem abandonAttempt_steady {s : State} {p : PlanImage} {step : Nat} (hs : Steady A s₀ s) :
    Steady A s₀ (abandonAttempt s p step) := by
  unfold abandonAttempt
  repeat' first
    | with_reducible assumption
    | fail_if_no_progress (with_reducible refine steady_mk ?_ rfl rfl)
    | with_reducible refine flood_steady ?_
    | with_reducible refine noteComplete_steady ?_

theorem stepCommit_steady {s : State} {p : PlanImage} {step : Nat} {next : Nat} (hversions : A.versions = true) (hs : Steady A s₀ s) :
    Steady A s₀ (stepCommit s p step next) := by
  unfold stepCommit
  repeat' first
    | with_reducible assumption
    | with_reducible refine flipVersion_steady hversions ?_
    | with_reducible refine takeL3_steady ?_
    | with_reducible refine abandonAttempt_steady ?_
    | split

theorem passHold_steady {s : State} {t : Nat} (hs : Steady A s₀ s) :
    Steady A s₀ (passHold s t) := by
  unfold passHold
  repeat' first
    | with_reducible assumption
    | fail_if_no_progress (with_reducible refine steady_mk ?_ rfl rfl)
    | with_reducible refine addHold_steady ?_
    | with_reducible refine steady_ite (fun _ => ?_) (fun _ => ?_)

theorem assertHold_steady {s : State} {cause : Nat} (hs : Steady A s₀ s) :
    Steady A s₀ (assertHold s cause) := by
  unfold assertHold
  repeat' first
    | with_reducible assumption
    | with_reducible refine addHold_steady ?_
    | with_reducible refine flood_steady ?_

theorem expelRank_steady {s : State} {r : Nat} (hs : Steady A s₀ s) :
    Steady A s₀ (expelRank s r) := by
  unfold expelRank
  repeat' first
    | with_reducible assumption
    | fail_if_no_progress (with_reducible refine steady_mk ?_ rfl rfl)
    | with_reducible refine raise_steady ?_
    | with_reducible refine steady_ite (fun _ => ?_) (fun _ => ?_)

theorem recoverySelftest_steady {s : State} (hs : Steady A s₀ s) :
    Steady A s₀ (recoverySelftest s) := by
  unfold recoverySelftest
  repeat' first
    | with_reducible assumption
    | fail_if_no_progress (with_reducible refine steady_mk ?_ rfl rfl)

theorem expelTick_steady {s : State} {t : Nat} {due : Bool} (hs : Steady A s₀ s) :
    Steady A s₀ (expelTick s t due) := by
  unfold expelTick
  repeat' first
    | with_reducible assumption
    | fail_if_no_progress (with_reducible refine steady_mk ?_ rfl rfl)
    | with_reducible refine expelRank_steady ?_
    | with_reducible refine settleAllShared_steady ?_
    | with_reducible refine decideRedo_steady ?_
    | with_reducible refine recoverySelftest_steady ?_
    | with_reducible refine haltNow_steady ?_
    | with_reducible refine stopAtTick_steady ?_
    | with_reducible refine raise_steady ?_
    | with_reducible refine steady_foldl ?_ (fun _ _ _ => ?_)
    | with_reducible refine steady_ite (fun _ => ?_) (fun _ => ?_)
    | split
    | (dsimp only; split)

theorem saveWear_steady {s : State} (hs : Steady A s₀ s) :
    Steady A s₀ (saveWear s) := by
  unfold saveWear
  repeat' first
    | with_reducible assumption
    | fail_if_no_progress (with_reducible refine steady_mk ?_ rfl rfl)

theorem saveArrays_steady {s : State} (hs : Steady A s₀ s) :
    Steady A s₀ (saveArrays s) := by
  unfold saveArrays
  repeat' first
    | with_reducible assumption
    | fail_if_no_progress (with_reducible refine steady_mk ?_ rfl rfl)
    | with_reducible refine saveWear_steady ?_

theorem releaseArrays_steady {s : State} (hs : Steady A s₀ s) :
    Steady A s₀ (releaseArrays s) := by
  unfold releaseArrays
  repeat' first
    | with_reducible assumption
    | fail_if_no_progress (with_reducible refine steady_mk ?_ rfl rfl)
    | with_reducible refine modArr_steady ?_
    | with_reducible refine raise_steady ?_
    | with_reducible refine setUnitState_steady ?_
    | with_reducible refine steady_foldl ?_ (fun _ _ _ => ?_)

theorem releaseLinks_steady {s : State} (hs : Steady A s₀ s) :
    Steady A s₀ (releaseLinks s) := by
  unfold releaseLinks
  repeat' first
    | with_reducible assumption
    | with_reducible refine setUnitState_steady ?_
    | with_reducible refine steady_foldl ?_ (fun _ _ _ => ?_)

theorem leaveUnits_steady {s : State} (hs : Steady A s₀ s) :
    Steady A s₀ (leaveUnits s) := by
  unfold leaveUnits
  repeat' first
    | with_reducible assumption
    | fail_if_no_progress (with_reducible refine steady_mk ?_ rfl rfl)
    | with_reducible refine modArr_steady ?_
    | with_reducible refine takeL3_steady ?_
    | with_reducible refine steady_foldl ?_ (fun _ _ _ => ?_)
    | with_reducible refine steady_ite (fun _ => ?_) (fun _ => ?_)

theorem boundarySteps_steady {s : State} (hs : Steady A s₀ s) :
    Steady A s₀ (boundarySteps s) := by
  unfold boundarySteps
  repeat' first
    | with_reducible assumption
    | fail_if_no_progress (with_reducible refine steady_mk ?_ rfl rfl)
    | with_reducible refine leaveUnits_steady ?_
    | with_reducible refine releaseLinks_steady ?_
    | with_reducible refine releaseArrays_steady ?_
    | with_reducible refine saveArrays_steady ?_
    | with_reducible refine commitBoundary_steady ?_

theorem verifyStaged_steady {s : State} (hs : Steady A s₀ s) :
    Steady A s₀ (verifyStaged s) := by
  unfold verifyStaged
  repeat' first
    | with_reducible assumption
    | fail_if_no_progress (with_reducible refine steady_mk ?_ rfl rfl)
    | with_reducible refine endLoad_steady ?_
    | with_reducible refine raise_steady ?_
    | with_reducible refine steady_ite (fun _ => ?_) (fun _ => ?_)
    | split

theorem clearContexts_steady {s : State} {p : PlanImage} (hs : Steady A s₀ s) : Steady A s₀ (clearContexts s p) :=
  steady_inv hs rfl rfl (fun i => ⟨tableWf_filter _ i.hbm, i.tile, i.host, i.buffers, i.events, i.tokens, i.versions, i.monitors, i.leaf⟩)
    rfl rfl rfl rfl rfl

theorem adoptPlan_steady {s : State} {p : PlanImage} {manifest : List Byte} {rank : Nat} (hledger : A.ledger = true) (hs : Steady A s₀ s) :
    Steady A s₀ (adoptPlan s p manifest rank) :=
  (clearContexts_steady hs).trans ⟨keeps_same (Keeps.refl _) rfl rfl rfl, fun _ => rfl, fun _ => rfl, fun _ => rfl, fun _ => rfl, fun _ => rfl, fun _ => rfl, fun _ => rfl, off_of_on hledger, fun _ => rfl, fun _ => rfl, fun _ => rfl, fun _ => rfl⟩

theorem startStaged_steady {s : State} (hledger : A.ledger = true) (hs : Steady A s₀ s) :
    Steady A s₀ (startStaged s) := by
  unfold startStaged
  repeat' first
    | with_reducible assumption
    | fail_if_no_progress (with_reducible refine steady_mk ?_ rfl rfl)
    | with_reducible refine adoptPlan_steady hledger ?_
    | split

theorem planSettings_steady {s : State} {p : PlanImage} (hs : Steady A s₀ s) :
    Steady A s₀ (planSettings s p) := by
  unfold planSettings
  repeat' first
    | with_reducible assumption
    | with_reducible refine setLive_steady ?_
    | with_reducible refine commitBoundary_steady ?_
    | with_reducible refine steady_foldl ?_ (fun _ _ _ => ?_)

theorem startPlan_steady {s : State} {p : PlanImage} (hpos : A.pos = true) (hs : Steady A s₀ s) :
    Steady A s₀ (startPlan s p) := by
  unfold startPlan
  repeat' first
    | with_reducible assumption
    | fail_if_no_progress (with_reducible refine steady_mk ?_ rfl rfl)
    | fail_if_no_progress (with_reducible refine steady_mk_pos hpos ?_ rfl rfl)
    | with_reducible refine planSettings_steady ?_
    | with_reducible refine carryOver_steady ?_
    | with_reducible refine startCold_steady ?_
    | with_reducible refine lakesStart_steady ?_
    | with_reducible refine endLoad_steady ?_
    | with_reducible refine beginFrame_steady ?_
    | with_reducible refine steady_ite (fun _ => ?_) (fun _ => ?_)

theorem nextFrame_steady {s : State} {p : PlanImage} {pos : Nat} {again : Bool} (hs : Steady A s₀ s) :
    Steady A s₀ (nextFrame s p pos again) := by
  unfold nextFrame
  repeat' first
    | with_reducible assumption
    | fail_if_no_progress (with_reducible refine steady_mk ?_ rfl rfl)
    | with_reducible refine haltRun_steady ?_
    | with_reducible refine verifyStaged_steady ?_
    | with_reducible refine boundarySteps_steady ?_
    | with_reducible refine beginFrame_steady ?_
    | with_reducible refine steady_ite (fun _ => ?_) (fun _ => ?_)

theorem endPlan_steady {s : State} (hledger : A.ledger = true) (hs : Steady A s₀ s) :
    Steady A s₀ (endPlan s) := by
  unfold endPlan
  repeat' first
    | with_reducible assumption
    | fail_if_no_progress (with_reducible refine steady_mk ?_ rfl rfl)
    | with_reducible refine verifyStaged_steady ?_
    | with_reducible refine boundarySteps_steady ?_
    | with_reducible refine startStaged_steady hledger ?_
    | with_reducible refine haltRun_steady ?_
    | with_reducible refine steady_ite (fun _ => ?_) (fun _ => ?_)

theorem runLate_steady {s : State} {f : PlanFrame} {u : UnitRef} {code : Nat} (hs : Steady A s₀ s) :
    Steady A s₀ (runLate s f u code) := by
  unfold runLate
  repeat' first
    | with_reducible assumption
    | fail_if_no_progress (with_reducible refine steady_mk ?_ rfl rfl)
    | with_reducible refine addHold_steady ?_
    | with_reducible refine flood_steady ?_
    | with_reducible refine raise_steady ?_
    | with_reducible refine raiseOnce_steady ?_
    | with_reducible refine idleRecord_steady ?_
    | with_reducible refine restartRun_steady ?_
    | with_reducible refine steady_ite (fun _ => ?_) (fun _ => ?_)
    | split

theorem closeAtHold_steady {s : State} {p : PlanImage} {f : PlanFrame} (hs : Steady A s₀ s) :
    Steady A s₀ (closeAtHold s p f) := by
  unfold closeAtHold
  repeat' first
    | with_reducible assumption
    | fail_if_no_progress (with_reducible refine steady_mk ?_ rfl rfl)
    | with_reducible refine idleRecord_steady ?_
    | with_reducible refine takeL3_steady ?_
    | with_reducible refine nextFrame_steady ?_
    | with_reducible refine closeFrame_steady ?_
    | with_reducible refine steady_ite (fun _ => ?_) (fun _ => ?_)

theorem closeDue_steady {s : State} {p : PlanImage} {f : PlanFrame} (hversions : A.versions = true) (hs : Steady A s₀ s) :
    Steady A s₀ (closeDue s p f) := by
  unfold closeDue
  repeat' first
    | with_reducible assumption
    | fail_if_no_progress (with_reducible refine steady_mk ?_ rfl rfl)
    | with_reducible refine prefetchEvent_steady ?_
    | with_reducible refine stepCommit_steady hversions ?_
    | with_reducible refine stopAtTick_steady ?_
    | with_reducible refine runLate_steady ?_
    | with_reducible refine closeFrame_steady ?_
    | with_reducible refine nextFrame_steady ?_
    | with_reducible refine steady_ite (fun _ => ?_) (fun _ => ?_)
    | split

theorem waitTick_steady {s : State} {p : PlanImage} {hold : Bool} (hledger : A.ledger = true) (hversions : A.versions = true) (hs : Steady A s₀ s) :
    Steady A s₀ (waitTick s p hold) := by
  unfold waitTick
  repeat' first
    | with_reducible assumption
    | with_reducible refine idleRecord_steady ?_
    | with_reducible refine stepCommit_steady hversions ?_
    | with_reducible refine stopAtTick_steady ?_
    | with_reducible refine nextFrame_steady ?_
    | with_reducible refine endPlan_steady hledger ?_
    | with_reducible refine steady_ite (fun _ => ?_) (fun _ => ?_)

theorem deadlineTick_steady {s : State} {p : PlanImage} (hs : Steady A s₀ s) :
    Steady A s₀ (deadlineTick s p) := by
  unfold deadlineTick
  repeat' first
    | with_reducible assumption
    | fail_if_no_progress (with_reducible refine steady_mk ?_ rfl rfl)
    | with_reducible refine raise_steady ?_
    | with_reducible refine assertHold_steady ?_
    | with_reducible refine steady_ite (fun _ => ?_) (fun _ => ?_)
    | split

theorem planTick_steady {s : State} (hledger : A.ledger = true) (hversions : A.versions = true) (hs : Steady A s₀ s) :
    Steady A s₀ (planTick s) := by
  unfold planTick
  repeat' first
    | with_reducible assumption
    | fail_if_no_progress (with_reducible refine steady_mk ?_ rfl rfl)
    | with_reducible refine idleRecord_steady ?_
    | with_reducible refine passHold_steady ?_
    | with_reducible refine waitTick_steady hledger hversions ?_
    | with_reducible refine closeAtHold_steady ?_
    | with_reducible refine closeDue_steady hversions ?_
    | with_reducible refine deadlineTick_steady ?_
    | with_reducible refine steady_ite (fun _ => ?_) (fun _ => ?_)
    | split

theorem takeGradients_steady {s : State} (hs : Steady A s₀ s) :
    Steady A s₀ (takeGradients s) := by
  unfold takeGradients
  repeat' first
    | with_reducible assumption
    | fail_if_no_progress (with_reducible refine steady_mk ?_ rfl rfl)

theorem logSwitches_steady {s : State} (hs : Steady A s₀ s) :
    Steady A s₀ (logSwitches s) := by
  unfold logSwitches
  repeat' first
    | with_reducible assumption
    | fail_if_no_progress (with_reducible refine steady_mk ?_ rfl rfl)
    | with_reducible refine writeHbm_steady ?_
    | with_reducible refine steady_foldl ?_ (fun _ _ _ => ?_)
    | with_reducible refine steady_ite (fun _ => ?_) (fun _ => ?_)
    | split

theorem failUnsettled_steady {s : State} {gen : Nat} {q : Suspect} (hs : Steady A s₀ s) :
    Steady A s₀ (failUnsettled s gen q) := by
  unfold failUnsettled
  repeat' first
    | with_reducible assumption
    | fail_if_no_progress (with_reducible refine steady_mk ?_ rfl rfl)
    | with_reducible refine noteLevel_steady ?_
    | with_reducible refine raise_steady ?_
    | with_reducible refine modGen_steady ?_

theorem secondFailure_steady {s : State} {u : UnitRef} (hs : Steady A s₀ s) :
    Steady A s₀ (secondFailure s u) := by
  unfold secondFailure
  repeat' first
    | with_reducible assumption
    | with_reducible refine raise_steady ?_
    | with_reducible refine quarantineArray_steady ?_
    | with_reducible refine takeL3_steady ?_
    | with_reducible refine steady_ite (fun _ => ?_) (fun _ => ?_)

theorem failClosed_steady {s : State} {f : PlanFrame} {pendingBy : Table Nat} (hs : Steady A s₀ s) :
    Steady A s₀ (failClosed s f pendingBy) := by
  unfold failClosed
  repeat' first
    | with_reducible assumption
    | fail_if_no_progress (with_reducible refine steady_mk ?_ rfl rfl)
    | with_reducible refine discardAll_steady ?_
    | with_reducible refine takeL3_steady ?_
    | with_reducible refine assertHold_steady ?_
    | with_reducible refine raise_steady ?_
    | with_reducible refine secondFailure_steady ?_
    | with_reducible refine discardGen_steady ?_
    | with_reducible refine restartRun_steady ?_
    | with_reducible refine steady_ite (fun _ => ?_) (fun _ => ?_)
    | split

theorem finishUpdate_steady {s : State} {p : PlanImage} (hs : Steady A s₀ s) : Steady A s₀ (finishUpdate s p) := by
  refine noteDone_steady (flood_steady (writeHbm_steady (steady_inv hs rfl rfl
    (fun i => ⟨i.hbm, i.tile, i.host, i.buffers, i.events, i.tokens, ?_, i.monitors, i.leaf⟩) rfl rfl rfl rfl rfl)))
  have := i.versions
  simp only [List.length_drop, List.length_append, List.length_cons, List.length_nil]
  omega

theorem commitClosed_steady {s : State} {p : PlanImage} {f : PlanFrame} (hcommitted : A.committed = true) (hpos : A.pos = true) (hs : Steady A s₀ s) :
    Steady A s₀ (commitClosed s p f) := by
  unfold commitClosed
  repeat' first
    | with_reducible assumption
    | fail_if_no_progress (with_reducible refine steady_mk ?_ rfl rfl)
    | fail_if_no_progress (with_reducible refine steady_mk_commit hcommitted hpos ?_ rfl rfl)
    | with_reducible refine dropGen_steady ?_
    | with_reducible refine commitDrift_steady ?_
    | with_reducible refine dropWork_steady ?_
    | with_reducible refine commitNumerics_steady ?_
    | with_reducible refine finishUpdate_steady ?_
    | with_reducible refine steady_foldl ?_ (fun _ _ _ => ?_)
    | with_reducible refine steady_ite (fun _ => ?_) (fun _ => ?_)

theorem judgeClosed_steady {s : State} {p : PlanImage} {f : PlanFrame} (hcommitted : A.committed = true) (hpos : A.pos = true) (hs : Steady A s₀ s) :
    Steady A s₀ (judgeClosed s p f) := by
  unfold judgeClosed
  repeat' first
    | with_reducible assumption
    | with_reducible refine failUnsettled_steady ?_
    | with_reducible refine commitClosed_steady hcommitted hpos ?_
    | with_reducible refine failClosed_steady ?_
    | with_reducible refine steady_foldl ?_ (fun _ _ _ => ?_)
    | with_reducible refine steady_ite (fun _ => ?_) (fun _ => ?_)
    | split
    | (dsimp only; split)

theorem abandonedPoint_steady {s : State} {p : PlanImage} (hs : Steady A s₀ s) :
    Steady A s₀ (abandonedPoint s p) := by
  unfold abandonedPoint
  repeat' first
    | with_reducible assumption
    | with_reducible refine finishUpdate_steady ?_
    | with_reducible refine assertHold_steady ?_
    | with_reducible refine steady_ite (fun _ => ?_) (fun _ => ?_)

theorem sendC0_steady {s : State} {dest : Nat} {k : C0Kind} {bytes : List Byte} (hs : Steady A s₀ s) :
    Steady A s₀ (sendC0 s dest k bytes) := by
  unfold sendC0
  repeat' first
    | with_reducible assumption
    | fail_if_no_progress (with_reducible refine steady_mk ?_ rfl rfl)

theorem sendRecords_steady {s : State} (hs : Steady A s₀ s) :
    Steady A s₀ (sendRecords s) := by
  unfold sendRecords
  repeat' first
    | with_reducible assumption
    | fail_if_no_progress (with_reducible refine steady_mk ?_ rfl rfl)
    | with_reducible refine sendC0_steady ?_
    | with_reducible refine steady_foldl ?_ (fun _ _ _ => ?_)
    | with_reducible refine steady_ite (fun _ => ?_) (fun _ => ?_)
    | split

theorem rewritePage_steady {s : State} (hs : Steady A s₀ s) :
    Steady A s₀ (rewritePage s) := by
  unfold rewritePage
  repeat' first
    | with_reducible assumption
    | fail_if_no_progress (with_reducible refine steady_mk ?_ rfl rfl)

theorem execPlanStart_steady {s : State} (hpos : A.pos = true) (hs : Steady A s₀ s) :
    SteadyR A s₀ (execPlanStart s) := by
  unfold execPlanStart
  repeat' first
    | with_reducible assumption
    | with_reducible refine steadyR_next ?_
    | with_reducible refine rewritePage_steady ?_
    | with_reducible refine startPlan_steady hpos ?_
    | with_reducible refine steady_ite (fun _ => ?_) (fun _ => ?_)
    | split

theorem commitPoint_steady {s : State} (hcommitted : A.committed = true) (hledger : A.ledger = true) (hpos : A.pos = true) (hs : Steady A s₀ s) :
    Steady A s₀ (commitPoint s) := by
  unfold commitPoint
  repeat' first
    | with_reducible assumption
    | fail_if_no_progress (with_reducible refine steady_mk ?_ rfl rfl)
    | with_reducible refine logSwitches_steady ?_
    | with_reducible refine takeGradients_steady ?_
    | with_reducible refine rewritePage_steady ?_
    | with_reducible refine judgeClosed_steady hcommitted hpos ?_
    | with_reducible refine sendRecords_steady ?_
    | with_reducible refine abandonedPoint_steady ?_
    | with_reducible refine startStaged_steady hledger ?_
    | with_reducible refine steady_ite (fun _ => ?_) (fun _ => ?_)
    | split
    | (dsimp only; split)

theorem execCommitPoint_steady {s : State} (hcommitted : A.committed = true) (hledger : A.ledger = true) (hpos : A.pos = true) (hs : Steady A s₀ s) :
    SteadyR A s₀ (execCommitPoint s) := by
  unfold execCommitPoint
  repeat' first
    | with_reducible assumption
    | with_reducible refine steadyR_next ?_
    | with_reducible refine commitPoint_steady hcommitted hledger hpos ?_

theorem writeRecord_steady {s : State} {p : PlanImage} {r : RecordData} {readBackOk : Bool} (hledger : A.ledger = true)
    (hs : Steady A s₀ s) : Steady A s₀ (writeRecord s p r readBackOk) := by
  have key : ∀ (u : State) (d : List Byte), Steady A s₀ u →
      Steady A s₀ { u with led.ready := none, led.latest := some r.frame, led.digest := d } := fun u d h =>
    steady_mk_ledger hledger h rfl rfl
  unfold writeRecord
  split
  · exact hs
  · split
    · exact key _ _ (writeHbm_steady hs)
    · exact machineryError_steady (key _ _ (writeHbm_steady hs))

theorem execLedgerRecordWrite_steady {readBackOk : Bool} {cyc : Nat} {s : State} (hledger : A.ledger = true) (hs : Steady A s₀ s) :
    SteadyR A s₀ (execLedgerRecordWrite readBackOk cyc s) := by
  unfold execLedgerRecordWrite
  repeat' first
    | with_reducible assumption
    | with_reducible refine steadyR_next ?_
    | with_reducible refine atCycle_steady ?_
    | with_reducible refine writeRecord_steady hledger ?_
    | split

theorem execMirrorRecord_steady {record : BitVec 512} {s : State} (hs : Steady A s₀ s) :
    SteadyR A s₀ (execMirrorRecord record s) := by
  unfold execMirrorRecord
  repeat' first
    | with_reducible assumption
    | fail_if_no_progress (with_reducible refine steady_mk ?_ rfl rfl)
    | with_reducible refine steadyR_next ?_

theorem execMirrorTally_steady {cyc : Nat} {s : State} (hs : Steady A s₀ s) :
    SteadyR A s₀ (execMirrorTally cyc s) := by
  unfold execMirrorTally
  repeat' first
    | with_reducible assumption
    | fail_if_no_progress (with_reducible refine steady_mk ?_ rfl rfl)
    | with_reducible refine steadyR_next ?_
    | with_reducible refine atCycle_steady ?_
    | with_reducible refine floodExpel_steady ?_
    | with_reducible refine raise_steady ?_
    | with_reducible refine steady_foldl ?_ (fun _ _ _ => ?_)
    | with_reducible refine steady_ite (fun _ => ?_) (fun _ => ?_)
    | split
    | (dsimp only; split)

theorem issueOp_steady {s : State} {op : Nat} (hs : Steady A s₀ s) :
    Steady A s₀ (issueOp s op) := by
  unfold issueOp
  repeat' first
    | with_reducible assumption
    | fail_if_no_progress (with_reducible refine steady_mk ?_ rfl rfl)

theorem execOperationIssue_steady {op : Fin 1048576} {cyc : Nat} {s : State} (hs : Steady A s₀ s) :
    SteadyR A s₀ (execOperationIssue op cyc s) := by
  unfold execOperationIssue
  repeat' first
    | with_reducible assumption
    | with_reducible refine steadyR_next ?_
    | with_reducible refine atCycle_steady ?_
    | with_reducible refine issueOp_steady ?_
    | with_reducible refine steady_ite (fun _ => ?_) (fun _ => ?_)
    | split

theorem floodAbort_steady {s : State} {p : PlanImage} {reason : Nat} (hs : Steady A s₀ s) :
    Steady A s₀ (floodAbort s p reason) := by
  unfold floodAbort
  repeat' first
    | with_reducible assumption
    | fail_if_no_progress (with_reducible refine steady_mk ?_ rfl rfl)
    | with_reducible refine relay_steady ?_

theorem refusePlan_steady {s : State} {p : PlanImage} {atBoundary : Bool} {f : PlanFault} (hs : Steady A s₀ s) :
    Steady A s₀ (refusePlan s p atBoundary f) := by
  unfold refusePlan
  repeat' first
    | with_reducible assumption
    | with_reducible refine raise_steady ?_
    | with_reducible refine endLoad_steady ?_
    | with_reducible refine floodAbort_steady ?_
    | with_reducible refine steady_ite (fun _ => ?_) (fun _ => ?_)

theorem retireDue_steady {s : State} (hs : Steady A s₀ s) :
    Steady A s₀ (retireDue s) := by
  unfold retireDue
  repeat' first
    | with_reducible assumption
    | fail_if_no_progress (with_reducible refine steady_mk ?_ rfl rfl)
    | with_reducible refine modArr_steady ?_
    | with_reducible refine raise_steady ?_
    | with_reducible refine setUnitState_steady ?_
    | with_reducible refine steady_foldl ?_ (fun _ _ _ => ?_)
    | with_reducible refine steady_ite (fun _ => ?_) (fun _ => ?_)

theorem verifyLoad_steady {s : State} {p : PlanImage} {atBoundary : Bool} {host : Nat} {length : Nat} (hledger : A.ledger = true) (hs : Steady A s₀ s) :
    Steady A s₀ (verifyLoad s p atBoundary host length) := by
  unfold verifyLoad
  repeat' first
    | with_reducible assumption
    | fail_if_no_progress (with_reducible refine steady_mk ?_ rfl rfl)
    | with_reducible refine refusePlan_steady ?_
    | with_reducible refine raise_steady ?_
    | with_reducible refine retireDue_steady ?_
    | with_reducible refine adoptPlan_steady hledger ?_
    | with_reducible refine steady_ite (fun _ => ?_) (fun _ => ?_)
    | split
    | (dsimp only; split)

theorem loadPlan_steady {s : State} {r : Req} {atBoundary : Bool} {host : Nat} {length : Nat} {p : PlanImage} (hledger : A.ledger = true) (hs : Steady A s₀ s) :
    Steady A s₀ (loadPlan s r atBoundary host length p) := by
  unfold loadPlan
  repeat' first
    | with_reducible assumption
    | fail_if_no_progress (with_reducible refine steady_mk ?_ rfl rfl)
    | with_reducible refine refuse_steady ?_
    | with_reducible refine accept_steady ?_
    | with_reducible refine verifyLoad_steady hledger ?_
    | with_reducible refine steady_ite (fun _ => ?_) (fun _ => ?_)

theorem resumeLoad_steady {s : State} (hledger : A.ledger = true) (hs : Steady A s₀ s) :
    Steady A s₀ (resumeLoad s) := by
  unfold resumeLoad
  repeat' first
    | with_reducible assumption
    | fail_if_no_progress (with_reducible refine steady_mk ?_ rfl rfl)
    | with_reducible refine verifyLoad_steady hledger ?_
    | with_reducible refine steady_ite (fun _ => ?_) (fun _ => ?_)
    | split

theorem execPlanLoadNow_steady {r : Req} {host : DWord} {length : DWord} {image : PlanImage} {s : State} (hledger : A.ledger = true) (hs : Steady A s₀ s) :
    SteadyR A s₀ (execPlanLoadNow r host length image s) := by
  unfold execPlanLoadNow
  repeat' first
    | with_reducible assumption
    | with_reducible refine steadyR_next ?_
    | with_reducible refine serveC_steady ?_ (fun _ _ => ?_)
    | with_reducible refine loadPlan_steady hledger ?_

theorem execPlanLoadAtBoundary_steady {r : Req} {host : DWord} {length : DWord} {image : PlanImage} {s : State} (hledger : A.ledger = true) (hs : Steady A s₀ s) :
    SteadyR A s₀ (execPlanLoadAtBoundary r host length image s) := by
  unfold execPlanLoadAtBoundary
  repeat' first
    | with_reducible assumption
    | with_reducible refine steadyR_next ?_
    | with_reducible refine serveC_steady ?_ (fun _ _ => ?_)
    | with_reducible refine loadPlan_steady hledger ?_

theorem execPlanDiscard_steady {r : Req} {s : State} (hs : Steady A s₀ s) :
    SteadyR A s₀ (execPlanDiscard r s) := by
  unfold execPlanDiscard
  repeat' first
    | with_reducible assumption
    | fail_if_no_progress (with_reducible refine steady_mk ?_ rfl rfl)
    | with_reducible refine steadyR_next ?_
    | with_reducible refine serve_steady ?_ (fun _ _ => ?_)
    | with_reducible refine endLoad_steady ?_
    | with_reducible refine answer_steady ?_
    | split

theorem execPlanStatus_steady {r : Req} {s : State} (hs : Steady A s₀ s) :
    SteadyR A s₀ (execPlanStatus r s) := by
  unfold execPlanStatus
  repeat' first
    | with_reducible assumption
    | with_reducible refine steadyR_next ?_
    | with_reducible refine serve_steady ?_ (fun _ _ => ?_)
    | with_reducible refine answer_steady ?_

theorem execPlanLoadTimeout_steady {s : State} (hs : Steady A s₀ s) :
    SteadyR A s₀ (execPlanLoadTimeout s) := by
  unfold execPlanLoadTimeout
  repeat' first
    | with_reducible assumption
    | with_reducible refine steadyR_next ?_
    | with_reducible refine abandonLoad_steady ?_
    | with_reducible refine floodAbort_steady ?_
    | with_reducible refine steady_ite (fun _ => ?_) (fun _ => ?_)
    | split

theorem setRowCells_steady {s : State} {k : Nat} {row : Nat} {ws : List Int} (hcells : A.cells = true) (hs : Steady A s₀ s) :
    Steady A s₀ (setRowCells s k row ws) := by
  unfold setRowCells
  repeat' first
    | with_reducible assumption
    | with_reducible refine setLevel_steady hcells ?_
    | with_reducible refine steady_foldl ?_ (fun _ _ _ => ?_)

theorem prepareRow_steady {s : State} {k : Nat} {row : Nat} (hcells : A.cells = true) (hs : Steady A s₀ s) :
    Steady A s₀ (prepareRow s k row) := by
  unfold prepareRow
  repeat' first
    | with_reducible assumption
    | with_reducible refine setImageRow_steady ?_
    | with_reducible refine setRowCells_steady hcells ?_
    | with_reducible refine setVectors_steady ?_

theorem prepareArray_steady {s : State} {k : Nat} (hcells : A.cells = true) (hs : Steady A s₀ s) :
    Steady A s₀ (prepareArray s k) := by
  unfold prepareArray
  repeat' first
    | with_reducible assumption
    | fail_if_no_progress (with_reducible refine steady_mk ?_ rfl rfl)
    | with_reducible refine prepareRow_steady hcells ?_
    | with_reducible refine modArr_steady ?_
    | with_reducible refine calibrate_steady ?_
    | with_reducible refine steady_foldl ?_ (fun _ _ _ => ?_)
    | with_reducible refine steady_ite (fun _ => ?_) (fun _ => ?_)

theorem copyBanks_steady {s : State} {p : PlanImage} (hs : Steady A s₀ s) :
    Steady A s₀ (copyBanks s p) := by
  unfold copyBanks
  repeat' first
    | with_reducible assumption
    | with_reducible refine writeHbm_steady ?_
    | with_reducible refine steady_foldl ?_ (fun _ _ _ => ?_)
    | with_reducible refine steady_ite (fun _ => ?_) (fun _ => ?_)

theorem execPreparationComplete_steady {s : State} (hcells : A.cells = true) (hversions : A.versions = true) (hs : Steady A s₀ s) :
    SteadyR A s₀ (execPreparationComplete s) := by
  unfold execPreparationComplete
  repeat' first
    | with_reducible assumption
    | fail_if_no_progress (with_reducible refine steady_mk ?_ rfl rfl)
    | fail_if_no_progress (with_reducible refine steady_mk_versions hversions ?_ rfl rfl)
    | with_reducible refine steadyR_next ?_
    | with_reducible refine copyBanks_steady ?_
    | with_reducible refine prepareArray_steady hcells ?_
    | with_reducible refine flood_steady ?_
    | with_reducible refine notePrepared_steady ?_
    | with_reducible refine steady_foldl ?_ (fun _ _ _ => ?_)
    | with_reducible refine steady_ite (fun _ => ?_) (fun _ => ?_)
    | split

end Sys2Proof.Machine
end

