-- ==== Sys2Proof/Laws/SteadyHost.lean ====
section
/-!
SUPPORT. Sys2Proof/Laws/SteadyHost.lean: that the functions of power, the AOM, counters, health, boot, management and the tick
change nothing but what Steady allows, one lemma each.
-/
namespace Sys2Proof.Machine
open Sys2Proof

variable {A : Allowed} {s₀ : State}

theorem droopTile_steady {s : State} {t : Nat} (hs : Steady A s₀ s) :
    Steady A s₀ (droopTile s t) := by
  unfold droopTile
  repeat' first
    | with_reducible assumption
    | fail_if_no_progress (with_reducible refine steady_mk ?_ rfl rfl)
    | with_reducible refine modTile_steady ?_

theorem execDroop_steady {tile : TileId} {s : State} (hs : Steady A s₀ s) :
    SteadyR A s₀ (execDroop tile s) := by
  unfold execDroop
  repeat' first
    | with_reducible assumption
    | with_reducible refine steadyR_next ?_
    | with_reducible refine droopTile_steady ?_

theorem droopDown_steady {s : State} {t : Nat} (hs : Steady A s₀ s) :
    Steady A s₀ (droopDown s t) := by
  unfold droopDown
  repeat' first
    | with_reducible assumption
    | fail_if_no_progress (with_reducible refine steady_mk ?_ rfl rfl)
    | with_reducible refine modTile_steady ?_

theorem execDroopHoldExpiry_steady {tile : TileId} {s : State} (hs : Steady A s₀ s) :
    SteadyR A s₀ (execDroopHoldExpiry tile s) := by
  unfold execDroopHoldExpiry
  repeat' first
    | with_reducible assumption
    | with_reducible refine steadyR_next ?_
    | with_reducible refine droopDown_steady ?_
    | with_reducible refine steady_ite (fun _ => ?_) (fun _ => ?_)

theorem execDroopDecayStep_steady {tile : TileId} {s : State} (hs : Steady A s₀ s) :
    SteadyR A s₀ (execDroopDecayStep tile s) := by
  unfold execDroopDecayStep
  repeat' first
    | with_reducible assumption
    | with_reducible refine steadyR_next ?_
    | with_reducible refine droopDown_steady ?_
    | with_reducible refine steady_ite (fun _ => ?_) (fun _ => ?_)

theorem peakDie_steady {limit4 : Int} {s : State} {die : Nat} {power : Nat} (hs : Steady A s₀ s) :
    Steady A s₀ (peakDie limit4 s die power) := by
  unfold peakDie
  repeat' first
    | with_reducible assumption
    | fail_if_no_progress (with_reducible refine steady_mk ?_ rfl rfl)
    | with_reducible refine steady_ite (fun _ => ?_) (fun _ => ?_)

theorem execPeakSample_steady {core0 : Nat} {core1 : Nat} {core2 : Nat} {core3 : Nat} {other : Nat} {s : State} (hs : Steady A s₀ s) :
    SteadyR A s₀ (execPeakSample core0 core1 core2 core3 other s) := by
  unfold execPeakSample
  repeat' first
    | with_reducible assumption
    | fail_if_no_progress (with_reducible refine steady_mk ?_ rfl rfl)
    | with_reducible refine steadyR_next ?_
    | with_reducible refine peakDie_steady ?_
    | with_reducible refine raiseOnce_steady ?_
    | with_reducible refine steady_foldl ?_ (fun _ _ _ => ?_)
    | with_reducible refine steady_ite (fun _ => ?_) (fun _ => ?_)

theorem addEnergy_steady {s : State} {energy : List (Nat × Nat)} (hs : Steady A s₀ s) :
    Steady A s₀ (addEnergy s energy) := by
  unfold addEnergy
  repeat' first
    | with_reducible assumption
    | fail_if_no_progress (with_reducible refine steady_mk ?_ rfl rfl)

theorem capTake_steady {s : State} {n : Nat} {phase : Nat} {energy : List (Nat × Nat)} (hs : Steady A s₀ s) :
    Steady A s₀ (capTake s n phase energy) := by
  unfold capTake
  repeat' first
    | with_reducible assumption
    | fail_if_no_progress (with_reducible refine steady_mk ?_ rfl rfl)
    | with_reducible refine steady_foldl ?_ (fun _ _ _ => ?_)
    | with_reducible refine steady_ite (fun _ => ?_) (fun _ => ?_)

theorem switchPoint_steady {s : State} {d : Nat} {k : Nat} (hs : Steady A s₀ s) :
    Steady A s₀ (switchPoint s d k) := by
  unfold switchPoint
  repeat' first
    | with_reducible assumption
    | fail_if_no_progress (with_reducible refine steady_mk ?_ rfl rfl)
    | with_reducible refine raise_steady ?_

theorem finishRise_steady {s : State} {railOff : List DieId} {d : Nat} {target : Nat} (hs : Steady A s₀ s) :
    Steady A s₀ (finishRise s railOff d target) := by
  unfold finishRise
  repeat' first
    | with_reducible assumption
    | fail_if_no_progress (with_reducible refine steady_mk ?_ rfl rfl)
    | with_reducible refine raise_steady ?_
    | with_reducible refine switchPoint_steady ?_
    | with_reducible refine steady_ite (fun _ => ?_) (fun _ => ?_)

theorem dieTick_steady {s : State} {railOff : List DieId} {d : Nat} {target : Nat} (hs : Steady A s₀ s) :
    Steady A s₀ (dieTick s railOff d target) := by
  unfold dieTick
  repeat' first
    | with_reducible assumption
    | fail_if_no_progress (with_reducible refine steady_mk ?_ rfl rfl)
    | with_reducible refine finishRise_steady ?_
    | with_reducible refine raise_steady ?_
    | with_reducible refine switchPoint_steady ?_
    | with_reducible refine steady_ite (fun _ => ?_) (fun _ => ?_)

theorem thermalTile_steady {throttle : Int} {s : State} {t : Nat} (hs : Steady A s₀ s) :
    Steady A s₀ (thermalTile throttle s t) := by
  unfold thermalTile
  repeat' first
    | with_reducible assumption
    | fail_if_no_progress (with_reducible refine steady_mk ?_ rfl rfl)
    | with_reducible refine throttle_steady ?_
    | with_reducible refine modTile_steady ?_
    | with_reducible refine raiseOnce_steady ?_
    | with_reducible refine steady_ite (fun _ => ?_) (fun _ => ?_)

theorem droopReport_steady {s : State} (hs : Steady A s₀ s) (die : Nat) :
    Steady A s₀ (droopReport s die) := by
  unfold droopReport
  dsimp only
  split
  · exact raise_steady hs
  · exact hs

theorem droopTick_steady {s : State} (hs : Steady A s₀ s) :
    Steady A s₀ (droopTick s) := by
  unfold droopTick
  repeat' first
    | with_reducible assumption
    | fail_if_no_progress (with_reducible refine steady_mk ?_ rfl rfl)
    | with_reducible refine droopReport_steady ?_ _
    | with_reducible refine steady_foldl ?_ (fun _ _ _ => ?_)
    | with_reducible refine steady_ite (fun _ => ?_) (fun _ => ?_)

theorem powerTick_steady {s : State} {n : Nat} {phase : Nat} {energy : List (Nat × Nat)} {railOff : List DieId} (hs : Steady A s₀ s) :
    Steady A s₀ (powerTick s n phase energy railOff) := by
  unfold powerTick
  repeat' first
    | with_reducible assumption
    | fail_if_no_progress (with_reducible refine steady_mk ?_ rfl rfl)
    | with_reducible refine capTake_steady ?_
    | with_reducible refine droopTick_steady ?_
    | with_reducible refine dieTick_steady ?_
    | with_reducible refine raiseOnce_steady ?_
    | with_reducible refine thermalTile_steady ?_
    | with_reducible refine steady_foldl ?_ (fun _ _ _ => ?_)
    | with_reducible refine steady_ite (fun _ => ?_) (fun _ => ?_)

theorem modFilter_steady {s : State} {slot : Nat} {f : FilterState → FilterState} (hs : Steady A s₀ s) :
    Steady A s₀ (modFilter s slot f) := by
  unfold modFilter
  repeat' first
    | with_reducible assumption
    | fail_if_no_progress (with_reducible refine steady_mk ?_ rfl rfl)

theorem aomNext_steady {s : State} (hs : Steady A s₀ s) :
    Steady A s₀ (aomNext s) := by
  unfold aomNext
  repeat' first
    | with_reducible assumption
    | fail_if_no_progress (with_reducible refine steady_mk ?_ rfl rfl)

theorem aomLd_steady {s : State} {i : Nat} (hs : Steady A s₀ s) :
    Steady A s₀ (aomLd s i) := by
  unfold aomLd
  repeat' first
    | with_reducible assumption
    | fail_if_no_progress (with_reducible refine steady_mk ?_ rfl rfl)
    | with_reducible refine aomNext_steady ?_
    | split

theorem aomMean_steady {s : State} {n : Nat} (hs : Steady A s₀ s) :
    Steady A s₀ (aomMean s n) := by
  unfold aomMean
  repeat' first
    | with_reducible assumption
    | fail_if_no_progress (with_reducible refine steady_mk ?_ rfl rfl)
    | with_reducible refine modFilter_steady ?_
    | with_reducible refine aomNext_steady ?_

theorem aomScale_steady {s : State} (hs : Steady A s₀ s) :
    Steady A s₀ (aomScale s) := by
  unfold aomScale
  repeat' first
    | with_reducible assumption
    | fail_if_no_progress (with_reducible refine steady_mk ?_ rfl rfl)
    | with_reducible refine aomNext_steady ?_

theorem aomGt_steady {s : State} {k : Nat} (hs : Steady A s₀ s) :
    Steady A s₀ (aomGt s k) := by
  unfold aomGt
  repeat' first
    | with_reducible assumption
    | fail_if_no_progress (with_reducible refine steady_mk ?_ rfl rfl)
    | with_reducible refine aomNext_steady ?_
    | with_reducible refine steady_ite (fun _ => ?_) (fun _ => ?_)

theorem aomLt_steady {s : State} {k : Nat} (hs : Steady A s₀ s) :
    Steady A s₀ (aomLt s k) := by
  unfold aomLt
  repeat' first
    | with_reducible assumption
    | fail_if_no_progress (with_reducible refine steady_mk ?_ rfl rfl)
    | with_reducible refine aomNext_steady ?_
    | with_reducible refine steady_ite (fun _ => ?_) (fun _ => ?_)

theorem aomOutside_steady {s : State} {k : Nat} (hs : Steady A s₀ s) :
    Steady A s₀ (aomOutside s k) := by
  unfold aomOutside
  repeat' first
    | with_reducible assumption
    | fail_if_no_progress (with_reducible refine steady_mk ?_ rfl rfl)
    | with_reducible refine aomNext_steady ?_
    | with_reducible refine steady_ite (fun _ => ?_) (fun _ => ?_)

theorem aomRun_steady {s : State} {n : Nat} (hs : Steady A s₀ s) :
    Steady A s₀ (aomRun s n) := by
  unfold aomRun
  repeat' first
    | with_reducible assumption
    | fail_if_no_progress (with_reducible refine steady_mk ?_ rfl rfl)
    | with_reducible refine modFilter_steady ?_
    | with_reducible refine aomNext_steady ?_

theorem aomAndSaved_steady {s : State} (hs : Steady A s₀ s) :
    Steady A s₀ (aomAndSaved s) := by
  unfold aomAndSaved
  repeat' first
    | with_reducible assumption
    | fail_if_no_progress (with_reducible refine steady_mk ?_ rfl rfl)
    | with_reducible refine aomNext_steady ?_

theorem aomOrSaved_steady {s : State} (hs : Steady A s₀ s) :
    Steady A s₀ (aomOrSaved s) := by
  unfold aomOrSaved
  repeat' first
    | with_reducible assumption
    | fail_if_no_progress (with_reducible refine steady_mk ?_ rfl rfl)
    | with_reducible refine aomNext_steady ?_

theorem aomSave_steady {s : State} (hs : Steady A s₀ s) :
    Steady A s₀ (aomSave s) := by
  unfold aomSave
  repeat' first
    | with_reducible assumption
    | fail_if_no_progress (with_reducible refine steady_mk ?_ rfl rfl)
    | with_reducible refine aomNext_steady ?_
    | with_reducible refine modFilter_steady ?_

theorem execLd_steady {i : Fin 4096} {s : State} (hs : Steady A s₀ s) :
    SteadyR A s₀ (execLd i s) := by
  unfold execLd
  repeat' first
    | with_reducible assumption
    | with_reducible refine steadyR_next ?_
    | with_reducible refine aomLd_steady ?_

theorem execMean_steady {n : Fin 4096} {s : State} (hs : Steady A s₀ s) :
    SteadyR A s₀ (execMean n s) := by
  unfold execMean
  repeat' first
    | with_reducible assumption
    | with_reducible refine steadyR_next ?_
    | with_reducible refine aomMean_steady ?_

theorem execScale_steady {s : State} (hs : Steady A s₀ s) :
    SteadyR A s₀ (execScale s) := by
  unfold execScale
  repeat' first
    | with_reducible assumption
    | with_reducible refine steadyR_next ?_
    | with_reducible refine aomScale_steady ?_

theorem execGt_steady {k : Fin 4096} {s : State} (hs : Steady A s₀ s) :
    SteadyR A s₀ (execGt k s) := by
  unfold execGt
  repeat' first
    | with_reducible assumption
    | with_reducible refine steadyR_next ?_
    | with_reducible refine aomGt_steady ?_

theorem execLt_steady {k : Fin 4096} {s : State} (hs : Steady A s₀ s) :
    SteadyR A s₀ (execLt k s) := by
  unfold execLt
  repeat' first
    | with_reducible assumption
    | with_reducible refine steadyR_next ?_
    | with_reducible refine aomLt_steady ?_

theorem execOutside_steady {k : Fin 4096} {s : State} (hs : Steady A s₀ s) :
    SteadyR A s₀ (execOutside k s) := by
  unfold execOutside
  repeat' first
    | with_reducible assumption
    | with_reducible refine steadyR_next ?_
    | with_reducible refine aomOutside_steady ?_

theorem execRun_steady {n : Fin 4096} {s : State} (hs : Steady A s₀ s) :
    SteadyR A s₀ (execRun n s) := by
  unfold execRun
  repeat' first
    | with_reducible assumption
    | with_reducible refine steadyR_next ?_
    | with_reducible refine aomRun_steady ?_

theorem execAomAnd_steady {s : State} (hs : Steady A s₀ s) :
    SteadyR A s₀ (execAomAnd s) := by
  unfold execAomAnd
  repeat' first
    | with_reducible assumption
    | with_reducible refine steadyR_next ?_
    | with_reducible refine aomAndSaved_steady ?_

theorem execAomOr_steady {s : State} (hs : Steady A s₀ s) :
    SteadyR A s₀ (execAomOr s) := by
  unfold execAomOr
  repeat' first
    | with_reducible assumption
    | with_reducible refine steadyR_next ?_
    | with_reducible refine aomOrSaved_steady ?_

theorem execSave_steady {s : State} (hs : Steady A s₀ s) :
    SteadyR A s₀ (execSave s) := by
  unfold execSave
  repeat' first
    | with_reducible assumption
    | with_reducible refine steadyR_next ?_
    | with_reducible refine aomSave_steady ?_

theorem aomInstr_steady {s : State} {x : Nat × Nat} (hs : Steady A s₀ s) :
    Steady A s₀ (aomInstr s x) := by
  unfold aomInstr
  repeat' first
    | with_reducible assumption
    | with_reducible refine aomLd_steady ?_
    | with_reducible refine aomMean_steady ?_
    | with_reducible refine aomScale_steady ?_
    | with_reducible refine aomGt_steady ?_
    | with_reducible refine aomLt_steady ?_
    | with_reducible refine aomOutside_steady ?_
    | with_reducible refine aomRun_steady ?_
    | with_reducible refine aomAndSaved_steady ?_
    | with_reducible refine aomOrSaved_steady ?_
    | with_reducible refine aomSave_steady ?_
    | with_reducible refine aomNext_steady ?_
    | split

theorem shed_steady {s : State} (hs : Steady A s₀ s) :
    Steady A s₀ (shed s) := by
  unfold shed
  repeat' first
    | with_reducible assumption
    | fail_if_no_progress (with_reducible refine steady_mk ?_ rfl rfl)

theorem expelByAom_steady {s : State} (hs : Steady A s₀ s) :
    Steady A s₀ (expelByAom s) := by
  unfold expelByAom
  repeat' first
    | with_reducible assumption
    | fail_if_no_progress (with_reducible refine steady_mk ?_ rfl rfl)
    | with_reducible refine relay_steady ?_
    | with_reducible refine noteExpel_steady ?_
    | with_reducible refine steady_ite (fun _ => ?_) (fun _ => ?_)
    | split

theorem powerDown_steady {s : State} (hs : Steady A s₀ s) :
    Steady A s₀ (powerDown s) := by
  unfold powerDown
  repeat' first
    | with_reducible assumption
    | fail_if_no_progress (with_reducible refine steady_mk ?_ rfl rfl)
    | with_reducible refine shed_steady ?_
    | with_reducible refine expelByAom_steady ?_
    | with_reducible refine steady_ite (fun _ => ?_) (fun _ => ?_)

theorem removeRails_steady {s : State} (hs : Steady A s₀ s) :
    Steady A s₀ (removeRails s) := by
  unfold removeRails
  repeat' first
    | with_reducible assumption
    | fail_if_no_progress (with_reducible refine steady_mk ?_ rfl rfl)
    | with_reducible refine haltNow_steady ?_
    | with_reducible refine steady_ite (fun _ => ?_) (fun _ => ?_)

theorem execPowerDownSequence_steady {s : State} (hs : Steady A s₀ s) :
    SteadyR A s₀ (execPowerDownSequence s) := by
  unfold execPowerDownSequence
  repeat' first
    | with_reducible assumption
    | with_reducible refine steadyR_next ?_
    | with_reducible refine removeRails_steady ?_
    | with_reducible refine steady_ite (fun _ => ?_) (fun _ => ?_)

theorem throttle_steady {s : State} {slot : Nat} {w : BitVec 1024} (hs : Steady A s₀ s) :
    Steady A s₀ (throttle s slot w) := by
  unfold throttle
  repeat' first
    | with_reducible assumption
    | fail_if_no_progress (with_reducible refine steady_mk ?_ rfl rfl)
    | with_reducible refine steady_foldl ?_ (fun _ _ _ => ?_)

theorem watchdogExpiry_steady {s : State} (hs : Steady A s₀ s) :
    Steady A s₀ (watchdogExpiry s) := by
  unfold watchdogExpiry
  repeat' first
    | with_reducible assumption
    | fail_if_no_progress (with_reducible refine steady_mk ?_ rfl rfl)
    | with_reducible refine takeL3_steady ?_

theorem fireFilter_steady {s : State} {slot : Nat} {w : BitVec 1024} (hs : Steady A s₀ s) :
    Steady A s₀ (fireFilter s slot w) := by
  unfold fireFilter
  repeat' first
    | with_reducible assumption
    | with_reducible refine watchdogExpiry_steady ?_
    | with_reducible refine raise_steady ?_
    | with_reducible refine throttle_steady ?_
    | with_reducible refine shed_steady ?_
    | with_reducible refine powerDown_steady ?_
    | with_reducible refine steady_ite (fun _ => ?_) (fun _ => ?_)
    | split

theorem runFilter_steady {s : State} {slot : Nat} {w : BitVec 1024} (hs : Steady A s₀ s) :
    Steady A s₀ (runFilter s slot w) := by
  unfold runFilter
  repeat' first
    | with_reducible assumption
    | fail_if_no_progress (with_reducible refine steady_mk ?_ rfl rfl)
    | with_reducible refine modFilter_steady ?_
    | with_reducible refine aomInstr_steady ?_
    | with_reducible refine fireFilter_steady ?_
    | with_reducible refine throttle_steady ?_
    | with_reducible refine steady_foldl ?_ (fun _ _ _ => ?_)
    | with_reducible refine steady_ite (fun _ => ?_) (fun _ => ?_)

theorem execAomThrottleExpiry_steady {slot : Fin 33} {s : State} (hs : Steady A s₀ s) :
    SteadyR A s₀ (execAomThrottleExpiry slot s) := by
  unfold execAomThrottleExpiry
  repeat' first
    | with_reducible assumption
    | fail_if_no_progress (with_reducible refine steady_mk ?_ rfl rfl)
    | with_reducible refine steadyR_next ?_
    | with_reducible refine steady_ite (fun _ => ?_) (fun _ => ?_)

theorem latch_steady {s : State} {p : Nat} {bit : Nat} (hs : Steady A s₀ s) :
    Steady A s₀ (latch s p bit) := by
  unfold latch
  repeat' first
    | with_reducible assumption
    | fail_if_no_progress (with_reducible refine steady_mk ?_ rfl rfl)

theorem pageSample_steady {s : State} {p : Nat} (hs : Steady A s₀ s) :
    Steady A s₀ (pageSample s p) := by
  unfold pageSample
  repeat' first
    | with_reducible assumption
    | fail_if_no_progress (with_reducible refine steady_mk ?_ rfl rfl)
    | with_reducible refine latch_steady ?_
    | with_reducible refine steady_foldl ?_ (fun _ _ _ => ?_)
    | with_reducible refine steady_ite (fun _ => ?_) (fun _ => ?_)

theorem pagesMean_steady {s : State} (hs : Steady A s₀ s) :
    Steady A s₀ (pagesMean s) := by
  unfold pagesMean
  repeat' first
    | with_reducible assumption
    | fail_if_no_progress (with_reducible refine steady_mk ?_ rfl rfl)
    | with_reducible refine latch_steady ?_
    | with_reducible refine steady_foldl ?_ (fun _ _ _ => ?_)
    | with_reducible refine steady_ite (fun _ => ?_) (fun _ => ?_)

theorem takeSamples_steady {s : State} {inputs : List (Nat × Rat)} (hs : Steady A s₀ s) : Steady A s₀ (takeSamples s inputs) := by
  have hot : ∀ (u : State) (b : Bool), Steady A s₀ u → Steady A s₀ { u with pin.otpHot := u.pin.otpHot || b } := fun u b h =>
    h.trans ⟨⟨rfl, rfl, fun i => ⟨i.hbm, i.tile, i.host, i.buffers, i.events, i.tokens, i.versions, i.monitors, i.leaf⟩,
      fun _ => Nat.le_refl _, Nat.le_refl _, fun x => by simp [x], Nat.le_refl _⟩, fun _ => rfl, fun _ => rfl, fun _ => rfl, fun _ => rfl, fun _ => rfl, fun _ => rfl, fun _ => rfl, fun _ => rfl, fun _ => rfl, fun _ => rfl, fun _ => rfl, fun _ => rfl⟩
  unfold takeSamples
  have key : ∀ t u : State, Steady A s₀ u → t = u → Steady A s₀ (if t.pin.samples = 100 then pagesMean t else t) := by
    rintro _ t h rfl
    exact steady_ite (fun _ => pagesMean_steady h) (fun _ => h)
  refine key _ _ (steady_foldl (l := List.range 14) (g := pageSample) (hot _ _ ?_) (fun _ _ h => pageSample_steady h)) rfl
  exact steady_mk hs rfl rfl

theorem execAomSample_steady {inputs : List (Nat × Rat)} {cyc : Nat} {s : State} (hs : Steady A s₀ s) :
    SteadyR A s₀ (execAomSample inputs cyc s) := by
  unfold execAomSample
  repeat' first
    | with_reducible assumption
    | with_reducible refine steadyR_next ?_
    | with_reducible refine takeSamples_steady ?_
    | with_reducible refine atCycle_steady ?_
    | with_reducible refine runFilter_steady ?_
    | with_reducible refine steady_foldl ?_ (fun _ _ _ => ?_)

theorem execEometHeartbeat_steady {s : State} (hs : Steady A s₀ s) :
    SteadyR A s₀ (execEometHeartbeat s) := by
  unfold execEometHeartbeat
  repeat' first
    | with_reducible assumption
    | fail_if_no_progress (with_reducible refine steady_mk ?_ rfl rfl)
    | with_reducible refine steadyR_next ?_

theorem filtersTick_steady {s : State} (hs : Steady A s₀ s) :
    Steady A s₀ (filtersTick s) := by
  unfold filtersTick
  repeat' first
    | with_reducible assumption
    | fail_if_no_progress (with_reducible refine steady_mk ?_ rfl rfl)

theorem overflowEvent_steady {old : Table Nat} {s : State} {block : Nat} (hs : Steady A s₀ s) :
    Steady A s₀ (overflowEvent old s block) := by
  unfold overflowEvent
  repeat' first
    | with_reducible assumption
    | with_reducible refine raise_steady ?_
    | with_reducible refine steady_ite (fun _ => ?_) (fun _ => ?_)

theorem countTick_steady {s : State} {phase : Nat} {activity : List (Nat × Nat)} (hs : Steady A s₀ s) :
    Steady A s₀ (countTick s phase activity) := by
  unfold countTick
  repeat' first
    | with_reducible assumption
    | fail_if_no_progress (with_reducible refine steady_mk ?_ rfl rfl)
    | with_reducible refine overflowEvent_steady ?_
    | with_reducible refine steady_foldl ?_ (fun _ _ _ => ?_)

theorem portsTick_steady {s : State} (hs : Steady A s₀ s) :
    Steady A s₀ (portsTick s) := by
  unfold portsTick
  repeat' first
    | with_reducible assumption
    | fail_if_no_progress (with_reducible refine steady_mk ?_ rfl rfl)

theorem windowTick_steady {s : State} (hs : Steady A s₀ s) :
    Steady A s₀ (windowTick s) := by
  unfold windowTick
  repeat' first
    | with_reducible assumption
    | fail_if_no_progress (with_reducible refine steady_mk ?_ rfl rfl)
    | with_reducible refine steady_ite (fun _ => ?_) (fun _ => ?_)

theorem latchSnapshot_steady {s : State} {n : Nat} (hs : Steady A s₀ s) :
    Steady A s₀ (latchSnapshot s n) := by
  unfold latchSnapshot
  repeat' first
    | with_reducible assumption
    | fail_if_no_progress (with_reducible refine steady_mk ?_ rfl rfl)

theorem configTick_steady {s : State} {t : Nat} (hs : Steady A s₀ s) :
    Steady A s₀ (configTick s t) := by
  unfold configTick
  repeat' first
    | with_reducible assumption
    | fail_if_no_progress (with_reducible refine steady_mk ?_ rfl rfl)

theorem writeHost_steady {s : State} {a : Nat} {bytes : List Byte} (hs : Steady A s₀ s) : Steady A s₀ (writeHost s a bytes) :=
  hs.host writeBytes_wf

theorem dropEvent_steady {s : State} (hs : Steady A s₀ s) :
    Steady A s₀ (dropEvent s) := by
  unfold dropEvent
  repeat' first
    | with_reducible assumption
    | fail_if_no_progress (with_reducible refine steady_mk ?_ rfl rfl)
    | with_reducible refine raiseOnce_steady ?_
    | with_reducible refine steady_ite (fun _ => ?_) (fun _ => ?_)

theorem execDumpRecordWrite_steady {delivered : Bool} {s : State} (hdump : A.dump = true) (hs : Steady A s₀ s) :
    SteadyR A s₀ (execDumpRecordWrite delivered s) := by
  unfold execDumpRecordWrite
  repeat' first
    | with_reducible assumption
    | fail_if_no_progress (with_reducible refine steady_mk ?_ rfl rfl)
    | fail_if_no_progress (with_reducible refine steady_mk_dump hdump ?_ rfl rfl)
    | with_reducible refine steadyR_next ?_
    | with_reducible refine writeHost_steady ?_
    | with_reducible refine dropEvent_steady ?_
    | with_reducible refine steady_ite (fun _ => ?_) (fun _ => ?_)
    | split

theorem execSnapshotComplete_steady {s : State} (hs : Steady A s₀ s) :
    SteadyR A s₀ (execSnapshotComplete s) := by
  unfold execSnapshotComplete
  repeat' first
    | with_reducible assumption
    | fail_if_no_progress (with_reducible refine steady_mk ?_ rfl rfl)
    | with_reducible refine steadyR_next ?_

theorem execCounterConfig_steady {r : Req} {kind : Byte} {first : Half} {count : Half} {words : List Half} {s : State} (hs : Steady A s₀ s) :
    SteadyR A s₀ (execCounterConfig r kind first count words s) := by
  unfold execCounterConfig
  repeat' first
    | with_reducible assumption
    | fail_if_no_progress (with_reducible refine steady_mk ?_ rfl rfl)
    | with_reducible refine steadyR_next ?_
    | with_reducible refine serve_steady ?_ (fun _ _ => ?_)
    | with_reducible refine refuse_steady ?_
    | with_reducible refine settled_steady ?_
    | with_reducible refine steady_ite (fun _ => ?_) (fun _ => ?_)

theorem execCounterRead_steady {r : Req} {kind : Byte} {first : Half} {count : Half} {s : State} (hs : Steady A s₀ s) :
    SteadyR A s₀ (execCounterRead r kind first count s) := by
  unfold execCounterRead
  repeat' first
    | with_reducible assumption
    | with_reducible refine steadyR_next ?_
    | with_reducible refine serve_steady ?_ (fun _ _ => ?_)
    | with_reducible refine answer_steady ?_
    | with_reducible refine refuse_steady ?_
    | with_reducible refine steady_ite (fun _ => ?_) (fun _ => ?_)

theorem execCounterClear_steady {r : Req} {kind : Byte} {first : Half} {count : Half} {mask : Byte} {s : State} (hs : Steady A s₀ s) :
    SteadyR A s₀ (execCounterClear r kind first count mask s) := by
  unfold execCounterClear
  repeat' first
    | with_reducible assumption
    | fail_if_no_progress (with_reducible refine steady_mk ?_ rfl rfl)
    | with_reducible refine steadyR_next ?_
    | with_reducible refine serve_steady ?_ (fun _ _ => ?_)
    | with_reducible refine settled_steady ?_
    | with_reducible refine refuse_steady ?_
    | with_reducible refine steady_ite (fun _ => ?_) (fun _ => ?_)

theorem execDumpRegister_steady {r : Req} {host : DWord} {length : DWord} {s : State} (hdump : A.dump = true) (hs : Steady A s₀ s) :
    SteadyR A s₀ (execDumpRegister r host length s) := by
  unfold execDumpRegister
  repeat' first
    | with_reducible assumption
    | fail_if_no_progress (with_reducible refine steady_mk ?_ rfl rfl)
    | fail_if_no_progress (with_reducible refine steady_mk_dump hdump ?_ rfl rfl)
    | with_reducible refine steadyR_next ?_
    | with_reducible refine serve_steady ?_ (fun _ _ => ?_)
    | with_reducible refine refuse_steady ?_
    | with_reducible refine settled_steady ?_
    | with_reducible refine steady_ite (fun _ => ?_) (fun _ => ?_)

theorem execDumpRelease_steady {r : Req} {s : State} (hdump : A.dump = true) (hs : Steady A s₀ s) :
    SteadyR A s₀ (execDumpRelease r s) := by
  unfold execDumpRelease
  repeat' first
    | with_reducible assumption
    | fail_if_no_progress (with_reducible refine steady_mk ?_ rfl rfl)
    | fail_if_no_progress (with_reducible refine steady_mk_dump hdump ?_ rfl rfl)
    | with_reducible refine steadyR_next ?_
    | with_reducible refine serve_steady ?_ (fun _ _ => ?_)
    | with_reducible refine settled_steady ?_

theorem execBandwidthRead_steady {r : Req} {first : Byte} {count : Byte} {s : State} (hs : Steady A s₀ s) :
    SteadyR A s₀ (execBandwidthRead r first count s) := by
  unfold execBandwidthRead
  repeat' first
    | with_reducible assumption
    | with_reducible refine steadyR_next ?_
    | with_reducible refine serve_steady ?_ (fun _ _ => ?_)
    | with_reducible refine answer_steady ?_
    | with_reducible refine refuse_steady ?_
    | with_reducible refine steady_ite (fun _ => ?_) (fun _ => ?_)

theorem execDumpStatus_steady {r : Req} {s : State} (hs : Steady A s₀ s) :
    SteadyR A s₀ (execDumpStatus r s) := by
  unfold execDumpStatus
  repeat' first
    | with_reducible assumption
    | with_reducible refine steadyR_next ?_
    | with_reducible refine serve_steady ?_ (fun _ _ => ?_)
    | with_reducible refine answer_steady ?_
    | split

theorem execEventRaise_steady {code : Half} {unit : UnitRef} {level : Fin 8} {ps : List DWord} {charge : Option (Fin 8 × Bool × Bool)} {s : State} (hs : Steady A s₀ s) :
    SteadyR A s₀ (execEventRaise code unit level ps charge s) := by
  unfold execEventRaise
  repeat' first
    | with_reducible assumption
    | with_reducible refine steadyR_next ?_
    | with_reducible refine raise_steady ?_
    | with_reducible refine charge_steady ?_
    | split

theorem execEventResend_steady {s : State} (hs : Steady A s₀ s) :
    SteadyR A s₀ (execEventResend s) := by
  unfold execEventResend
  repeat' first
    | with_reducible assumption
    | with_reducible refine steadyR_next ?_
    | with_reducible refine sendEvents_steady ?_
    | with_reducible refine steady_foldl ?_ (fun _ _ _ => ?_)

theorem suppressionEvent_steady {s : State} {x : Nat × Nat} (hs : Steady A s₀ s) :
    Steady A s₀ (suppressionEvent s x) := by
  unfold suppressionEvent
  repeat' first
    | with_reducible assumption
    | with_reducible refine storeEvent_steady ?_

theorem execEventSuppressionEnd_steady {s : State} (htime : A.time = true) (hs : Steady A s₀ s) : SteadyR A s₀ (execEventSuppressionEnd s) := by
  refine steadyR_next (steady_foldl (hs.trans ⟨keeps_same (Keeps.refl s) rfl rfl rfl, fun _ => rfl, fun _ => rfl, fun _ => rfl, fun _ => rfl, fun _ => rfl, off_of_on htime, fun _ => rfl, fun _ => rfl, fun _ => rfl, fun _ => rfl, fun _ => rfl, fun _ => rfl⟩)
    (fun _ _ h => suppressionEvent_steady h))

theorem saveIntervals_steady {s : State} (hs : Steady A s₀ s) :
    Steady A s₀ (saveIntervals s) := by
  unfold saveIntervals
  repeat' first
    | with_reducible assumption
    | fail_if_no_progress (with_reducible refine steady_mk ?_ rfl rfl)

theorem norFails_steady {s : State} (hs : Steady A s₀ s) :
    Steady A s₀ (norFails s) := by
  unfold norFails
  repeat' first
    | with_reducible assumption
    | fail_if_no_progress (with_reducible refine steady_mk ?_ rfl rfl)
    | with_reducible refine raise_steady ?_
    | with_reducible refine steady_ite (fun _ => ?_) (fun _ => ?_)

theorem norWritten_steady {s : State} (hs : Steady A s₀ s) :
    Steady A s₀ (norWritten s) := by
  unfold norWritten
  repeat' first
    | with_reducible assumption
    | fail_if_no_progress (with_reducible refine steady_mk ?_ rfl rfl)

theorem execHealthFold_steady {norFails : Bool} {s : State} (hs : Steady A s₀ s) :
    SteadyR A s₀ (execHealthFold norFails s) := by
  unfold execHealthFold
  repeat' first
    | with_reducible assumption
    | with_reducible refine steadyR_next ?_
    | with_reducible refine norFails_steady ?_
    | with_reducible refine norWritten_steady ?_
    | with_reducible refine saveIntervals_steady ?_
    | with_reducible refine steady_ite (fun _ => ?_) (fun _ => ?_)

theorem norTick_steady {s : State} {fails : Bool} (hs : Steady A s₀ s) :
    Steady A s₀ (norTick s fails) := by
  unfold norTick
  repeat' first
    | with_reducible assumption
    | with_reducible refine norFails_steady ?_
    | with_reducible refine norWritten_steady ?_
    | with_reducible refine steady_ite (fun _ => ?_) (fun _ => ?_)

theorem disagree_steady {s : State} {u : UnitRef} (hs : Steady A s₀ s) :
    Steady A s₀ (disagree s u) := by
  unfold disagree
  repeat' first
    | with_reducible assumption
    | fail_if_no_progress (with_reducible refine steady_mk ?_ rfl rfl)
    | with_reducible refine raise_steady ?_
    | with_reducible refine steady_ite (fun _ => ?_) (fun _ => ?_)

theorem takeLive_steady {s : State} {u : UnitRef} (hs : Steady A s₀ s) :
    Steady A s₀ (takeLive s u) := by
  unfold takeLive
  repeat' first
    | with_reducible assumption
    | with_reducible refine setUnitState_steady ?_
    | with_reducible refine disagree_steady ?_
    | with_reducible refine steady_ite (fun _ => ?_) (fun _ => ?_)

theorem restrictUsed_steady {s : State} {u : UnitRef} (hs : Steady A s₀ s) :
    Steady A s₀ (restrictUsed s u) := by
  unfold restrictUsed
  repeat' first
    | with_reducible assumption
    | fail_if_no_progress (with_reducible refine steady_mk ?_ rfl rfl)
    | with_reducible refine disagree_steady ?_
    | with_reducible refine modArr_steady ?_
    | with_reducible refine steady_ite (fun _ => ?_) (fun _ => ?_)

theorem compareTick_steady {s : State} (hs : Steady A s₀ s) :
    Steady A s₀ (compareTick s) := by
  unfold compareTick
  repeat' first
    | with_reducible assumption
    | with_reducible refine takeLive_steady ?_
    | with_reducible refine restrictUsed_steady ?_
    | with_reducible refine steady_foldl ?_ (fun _ _ _ => ?_)
    | with_reducible refine steady_ite (fun _ => ?_) (fun _ => ?_)
    | split
    | (dsimp only; split)

theorem execHealthRead_steady {r : Req} {kind : Byte} {first : Half} {count : Half} {s : State} (hs : Steady A s₀ s) :
    SteadyR A s₀ (execHealthRead r kind first count s) := by
  unfold execHealthRead
  repeat' first
    | with_reducible assumption
    | with_reducible refine steadyR_next ?_
    | with_reducible refine serve_steady ?_ (fun _ _ => ?_)
    | with_reducible refine answer_steady ?_
    | with_reducible refine refuse_steady ?_
    | with_reducible refine steady_ite (fun _ => ?_) (fun _ => ?_)

theorem execHealthLog_steady {r : Req} {first : Word} {count : Word} {host : DWord} {s : State} (hs : Steady A s₀ s) :
    SteadyR A s₀ (execHealthLog r first count host s) := by
  unfold execHealthLog
  repeat' first
    | with_reducible assumption
    | with_reducible refine steadyR_next ?_
    | with_reducible refine serveC_steady ?_ (fun _ _ => ?_)
    | with_reducible refine refuse_steady ?_
    | with_reducible refine accept_steady ?_
    | with_reducible refine steady_ite (fun _ => ?_) (fun _ => ?_)

theorem execHealthLogDone_steady {r : Req} {s : State} (hs : Steady A s₀ s) :
    SteadyR A s₀ (execHealthLogDone r s) := by
  unfold execHealthLogDone
  repeat' first
    | with_reducible assumption
    | with_reducible refine steadyR_next ?_
    | with_reducible refine writeHost_steady ?_
    | with_reducible refine closeCommand_steady ?_
    | with_reducible refine respond_steady ?_
    | split

theorem marginFailure_steady {s : State} {t : Nat} {u : UnitRef} {item : Nat} {pattern : Nat} (hs : Steady A s₀ s) :
    Steady A s₀ (marginFailure s t u item pattern) := by
  unfold marginFailure
  repeat' first
    | with_reducible assumption
    | fail_if_no_progress (with_reducible refine steady_mk ?_ rfl rfl)
    | with_reducible refine modTile_steady ?_

theorem repeatPassed_steady {s : State} {u : UnitRef} (hs : Steady A s₀ s) :
    Steady A s₀ (repeatPassed s u) := by
  unfold repeatPassed
  repeat' first
    | with_reducible assumption
    | fail_if_no_progress (with_reducible refine steady_mk ?_ rfl rfl)
    | with_reducible refine modHealth_steady ?_
    | with_reducible refine charge_steady ?_
    | with_reducible refine raise_steady ?_

theorem repeatFailed_steady {s : State} {u : UnitRef} (hs : Steady A s₀ s) :
    Steady A s₀ (repeatFailed s u) := by
  unfold repeatFailed
  repeat' first
    | with_reducible assumption
    | with_reducible refine charge_steady ?_
    | with_reducible refine raise_steady ?_

theorem runRepeat_steady {s : State} {t : Nat} {x : TestRepeat} {pass : Bool} (hs : Steady A s₀ s) :
    Steady A s₀ (runRepeat s t x pass) := by
  unfold runRepeat
  repeat' first
    | with_reducible assumption
    | fail_if_no_progress (with_reducible refine steady_mk ?_ rfl rfl)
    | with_reducible refine modTile_steady ?_
    | with_reducible refine repeatPassed_steady ?_
    | with_reducible refine repeatFailed_steady ?_
    | with_reducible refine steady_ite (fun _ => ?_) (fun _ => ?_)

theorem testReadback_steady {s : State} {k : Nat} {q : Nat} {reads : List CellRead} (hcells : A.cells = true) (hs : Steady A s₀ s) :
    Steady A s₀ (testReadback s k q reads) := by
  unfold testReadback
  repeat' first
    | with_reducible assumption
    | fail_if_no_progress (with_reducible refine steady_mk ?_ rfl rfl)
    | with_reducible refine applyReads_steady hcells ?_
    | with_reducible refine modArr_steady ?_

theorem runItems_steady {s : State} {t : Nat} {v : Nat} {arrayPass : Bool} {enginePass : Bool} {reads : List CellRead} (hcells : A.cells = true) (hs : Steady A s₀ s) :
    Steady A s₀ (runItems s t v arrayPass enginePass reads) := by
  unfold runItems
  repeat' first
    | with_reducible assumption
    | with_reducible refine testReadback_steady hcells ?_
    | with_reducible refine marginFailure_steady ?_
    | with_reducible refine steady_ite (fun _ => ?_) (fun _ => ?_)

theorem runQuarantined_steady {s : State} {t : Nat} {v : Nat} {arrayPass : Bool} {reads : List CellRead} (hcells : A.cells = true) (hs : Steady A s₀ s) :
    Steady A s₀ (runQuarantined s t v arrayPass reads) := by
  unfold runQuarantined
  repeat' first
    | with_reducible assumption
    | fail_if_no_progress (with_reducible refine steady_mk ?_ rfl rfl)
    | with_reducible refine testReadback_steady hcells ?_
    | with_reducible refine modArr_steady ?_
    | with_reducible refine marginFailure_steady ?_
    | with_reducible refine steady_ite (fun _ => ?_) (fun _ => ?_)
    | split

theorem skipTest_steady {s : State} {t : Nat} (hs : Steady A s₀ s) :
    Steady A s₀ (skipTest s t) := by
  unfold skipTest
  repeat' first
    | with_reducible assumption
    | fail_if_no_progress (with_reducible refine steady_mk ?_ rfl rfl)
    | with_reducible refine modHealth_steady ?_
    | with_reducible refine modTile_steady ?_

theorem execTestSlotRun_steady {arrayPass : Bool} {enginePass : Bool} {reads : List CellRead} {s : State} (hcells : A.cells = true) (hs : Steady A s₀ s) :
    SteadyR A s₀ (execTestSlotRun arrayPass enginePass reads s) := by
  unfold execTestSlotRun
  repeat' first
    | with_reducible assumption
    | with_reducible refine steadyR_next ?_
    | with_reducible refine skipTest_steady ?_
    | with_reducible refine runRepeat_steady ?_
    | with_reducible refine runItems_steady hcells ?_
    | with_reducible refine runQuarantined_steady hcells ?_
    | with_reducible refine steady_ite (fun _ => ?_) (fun _ => ?_)
    | split

theorem cleanVisit_steady {t : List UnitRef} {s : State} {u : UnitRef} (hs : Steady A s₀ s) :
    Steady A s₀ (cleanVisit t s u) := by
  unfold cleanVisit
  repeat' first
    | with_reducible assumption
    | fail_if_no_progress (with_reducible refine steady_mk ?_ rfl rfl)
    | with_reducible refine modHealth_steady ?_
    | with_reducible refine steady_ite (fun _ => ?_) (fun _ => ?_)

theorem endVisit_steady {s : State} {t : Nat} (hs : Steady A s₀ s) :
    Steady A s₀ (endVisit s t) := by
  unfold endVisit
  repeat' first
    | with_reducible assumption
    | fail_if_no_progress (with_reducible refine steady_mk ?_ rfl rfl)
    | with_reducible refine repeatPassed_steady ?_
    | with_reducible refine cleanVisit_steady ?_
    | with_reducible refine modTile_steady ?_
    | with_reducible refine steady_foldl ?_ (fun _ _ _ => ?_)

theorem visitTick_steady {s : State} {t : Nat} (hs : Steady A s₀ s) :
    Steady A s₀ (visitTick s t) := by
  unfold visitTick
  repeat' first
    | with_reducible assumption
    | with_reducible refine endVisit_steady ?_
    | with_reducible refine steady_ite (fun _ => ?_) (fun _ => ?_)

theorem execSelftest_steady {r : Req} {s : State} (hs : Steady A s₀ s) :
    SteadyR A s₀ (execSelftest r s) := by
  unfold execSelftest
  repeat' first
    | with_reducible assumption
    | with_reducible refine steadyR_next ?_
    | with_reducible refine serveC_steady ?_ (fun _ _ => ?_)
    | with_reducible refine refuse_steady ?_
    | with_reducible refine recoverySelftest_steady ?_
    | with_reducible refine accept_steady ?_
    | with_reducible refine steady_ite (fun _ => ?_) (fun _ => ?_)

theorem selftestNominal_steady {s : State} {u : UnitRef} (hs : Steady A s₀ s) :
    Steady A s₀ (selftestNominal s u) := by
  unfold selftestNominal
  repeat' first
    | with_reducible assumption
    | fail_if_no_progress (with_reducible refine steady_mk ?_ rfl rfl)
    | with_reducible refine charge_steady ?_
    | with_reducible refine raise_steady ?_

theorem selftestMargin_steady {s : State} {u : UnitRef} (hs : Steady A s₀ s) :
    Steady A s₀ (selftestMargin s u) := by
  unfold selftestMargin
  repeat' first
    | with_reducible assumption
    | fail_if_no_progress (with_reducible refine steady_mk ?_ rfl rfl)
    | with_reducible refine modHealth_steady ?_
    | with_reducible refine charge_steady ?_

theorem selftestMemories_steady {s : State} {t : Nat} (hs : Steady A s₀ s) : Steady A s₀ (selftestMemories s t) :=
  steady_inv hs rfl rfl (fun i => ⟨tableWf_filter _ i.hbm, tableWf_filter _ i.tile, i.host, i.buffers, i.events, i.tokens, i.versions,
    i.monitors, i.leaf⟩) rfl rfl rfl rfl rfl

theorem execSelftestTile_steady {nominalFails : List UnitRef} {marginFails : List UnitRef} {s : State} (hs : Steady A s₀ s) :
    SteadyR A s₀ (execSelftestTile nominalFails marginFails s) := by
  unfold execSelftestTile
  repeat' first
    | with_reducible assumption
    | fail_if_no_progress (with_reducible refine steady_mk ?_ rfl rfl)
    | with_reducible refine steadyR_next ?_
    | with_reducible refine selftestMemories_steady ?_
    | with_reducible refine selftestNominal_steady ?_
    | with_reducible refine selftestMargin_steady ?_
    | with_reducible refine modHealth_steady ?_
    | with_reducible refine calibrate_steady ?_
    | with_reducible refine steady_foldl ?_ (fun _ _ _ => ?_)
    | with_reducible refine steady_ite (fun _ => ?_) (fun _ => ?_)
    | with_reducible refine steadyR_ite (fun _ => ?_) (fun _ => ?_)

theorem execSelftestDone_steady {s : State} (hledger : A.ledger = true) (hs : Steady A s₀ s) :
    SteadyR A s₀ (execSelftestDone s) := by
  unfold execSelftestDone
  repeat' first
    | with_reducible assumption
    | fail_if_no_progress (with_reducible refine steady_mk ?_ rfl rfl)
    | with_reducible refine steadyR_next ?_
    | with_reducible refine respond_steady ?_
    | with_reducible refine changeEvent_steady ?_
    | with_reducible refine closeCommand_steady ?_
    | with_reducible refine resumeLoad_steady hledger ?_
    | with_reducible refine steady_ite (fun _ => ?_) (fun _ => ?_)
    | split

theorem restart_steady {clean : Bool} {s : State} (hcounter : A.counter = true) (hcommitted : A.committed = true) (htime : A.time = true) (hoffload : A.offload = true) (hledger : A.ledger = true) (hdump : A.dump = true) (hpos : A.pos = true) (hversions : A.versions = true)
    (hs : Steady A s₀ s) : Steady A s₀ (restart clean s) :=
  hs.trans ⟨keeps_inv rfl rfl (fun i => ⟨rfl, rfl, i.host, i.buffers, Nat.zero_le _, i.tokens, Nat.zero_le _, Nat.zero_le _, i.leaf⟩)
    rfl rfl rfl rfl, off_of_on hcounter, off_of_on hcommitted, fun _ => rfl, fun _ => rfl, fun _ => rfl, off_of_on htime, off_of_on hoffload, off_of_on hledger, off_of_on hdump, fun _ => rfl, off_of_on hpos, off_of_on hversions⟩

theorem coldReset_steady {clean : Bool} {s : State} (hcounter : A.counter = true) (hcommitted : A.committed = true) (htime : A.time = true) (hoffload : A.offload = true) (hledger : A.ledger = true) (hdump : A.dump = true) (hpos : A.pos = true) (hversions : A.versions = true)
    (hs : Steady A s₀ s) : Steady A s₀ (coldReset clean s) :=
  steady_inv (restart_steady (clean := clean) hcounter hcommitted htime hoffload hledger hdump hpos hversions (resetSettings_steady hs)) rfl rfl
    (fun i => ⟨i.hbm, i.tile, i.host, rfl, i.events, Nat.le_refl 16, i.versions, i.monitors, i.leaf⟩) rfl rfl rfl rfl rfl

theorem powerOnReset_steady {s : State} (hcounter : A.counter = true) (hcommitted : A.committed = true) (htime : A.time = true) (hoffload : A.offload = true) (hledger : A.ledger = true) (hdump : A.dump = true) (hpos : A.pos = true) (hversions : A.versions = true)
    (hs : Steady A s₀ s) : Steady A s₀ (powerOnReset s) :=
  steady_mk (coldReset_steady hcounter hcommitted htime hoffload hledger hdump hpos hversions hs) rfl rfl

theorem enterStage3_steady {s : State} (hs : Steady A s₀ s) : Steady A s₀ (enterStage3 s) :=
  steady_inv hs rfl rfl (fun i => ⟨i.hbm, rfl, i.host, i.buffers, i.events, i.tokens, i.versions, i.monitors, i.leaf⟩)
    rfl rfl rfl rfl rfl

theorem warmReset_steady {s : State} (hcounter : A.counter = true) (hcommitted : A.committed = true) (htime : A.time = true) (hoffload : A.offload = true) (hledger : A.ledger = true) (hdump : A.dump = true) (hpos : A.pos = true) (hversions : A.versions = true)
    (hs : Steady A s₀ s) : Steady A s₀ (warmReset s) := by
  have h : Steady A s₀ (resetSettings s) := resetSettings_steady hs
  unfold warmReset
  refine steady_ite (fun _ => enterStage3_steady ?_) (fun _ => ?_) <;>
    exact h.trans ⟨keeps_inv rfl rfl
      (fun i => ⟨i.hbm, rfl, i.host, i.buffers, Nat.zero_le _, i.tokens, Nat.zero_le _, Nat.zero_le _, i.leaf⟩) rfl rfl rfl rfl,
      off_of_on hcounter, off_of_on hcommitted, fun _ => rfl, fun _ => rfl, fun _ => rfl, off_of_on htime, off_of_on hoffload, off_of_on hledger, off_of_on hdump, fun _ => rfl, off_of_on hpos, off_of_on hversions⟩

theorem orderlyStop_steady {s : State} (hs : Steady A s₀ s) :
    Steady A s₀ (orderlyStop s) := by
  unfold orderlyStop
  repeat' first
    | with_reducible assumption
    | with_reducible refine norWritten_steady ?_
    | with_reducible refine saveWear_steady ?_

theorem execPowerOn_steady {s : State} (hcounter : A.counter = true) (hcommitted : A.committed = true) (htime : A.time = true) (hoffload : A.offload = true) (hledger : A.ledger = true) (hdump : A.dump = true) (hpos : A.pos = true) (hversions : A.versions = true) (hs : Steady A s₀ s) :
    SteadyR A s₀ (execPowerOn s) := by
  unfold execPowerOn
  repeat' first
    | with_reducible assumption
    | with_reducible refine steadyR_next ?_
    | with_reducible refine powerOnReset_steady hcounter hcommitted htime hoffload hledger hdump hpos hversions ?_

theorem trySlot_steady {s : State} {slot : Bool} (hs : Steady A s₀ s) :
    Steady A s₀ (trySlot s slot).1 := by
  unfold trySlot
  repeat' first
    | with_reducible assumption
    | fail_if_no_progress (with_reducible refine steady_mk ?_ rfl rfl)
    | with_reducible refine raise_steady ?_
    | with_reducible refine steady_ite (fun _ => ?_) (fun _ => ?_)
    | split

theorem execFirmwareVerify_steady {s : State} (hs : Steady A s₀ s) :
    SteadyR A s₀ (execFirmwareVerify s) := by
  unfold execFirmwareVerify
  repeat' first
    | with_reducible assumption
    | fail_if_no_progress (with_reducible refine steady_mk ?_ rfl rfl)
    | with_reducible refine steadyR_next ?_
    | with_reducible refine trySlot_steady ?_
    | with_reducible refine raise_steady ?_
    | with_reducible refine steady_ite (fun _ => ?_) (fun _ => ?_)
    | with_reducible refine steadyR_ite (fun _ => ?_) (fun _ => ?_)

theorem execEometStart_steady {s : State} (hs : Steady A s₀ s) :
    SteadyR A s₀ (execEometStart s) := by
  unfold execEometStart
  repeat' first
    | with_reducible assumption
    | fail_if_no_progress (with_reducible refine steady_mk ?_ rfl rfl)
    | with_reducible refine steadyR_next ?_
    | with_reducible refine steady_ite (fun _ => ?_) (fun _ => ?_)
    | with_reducible refine steadyR_ite (fun _ => ?_) (fun _ => ?_)

theorem execRailGroupEnable_steady {g : RailGroup} {s : State} (hs : Steady A s₀ s) :
    SteadyR A s₀ (execRailGroupEnable g s) := by
  unfold execRailGroupEnable
  repeat' first
    | with_reducible assumption
    | fail_if_no_progress (with_reducible refine steady_mk ?_ rfl rfl)
    | with_reducible refine steadyR_next ?_
    | with_reducible refine steady_ite (fun _ => ?_) (fun _ => ?_)

theorem execPowerGoodAssert_steady {g : RailGroup} {s : State} (hs : Steady A s₀ s) :
    SteadyR A s₀ (execPowerGoodAssert g s) := by
  unfold execPowerGoodAssert
  repeat' first
    | with_reducible assumption
    | fail_if_no_progress (with_reducible refine steady_mk ?_ rfl rfl)
    | with_reducible refine steadyR_next ?_
    | with_reducible refine enterStage3_steady ?_
    | with_reducible refine steady_ite (fun _ => ?_) (fun _ => ?_)
    | with_reducible refine steadyR_ite (fun _ => ?_) (fun _ => ?_)

theorem execPowerGoodTimeout_steady {g : RailGroup} {s : State} (hs : Steady A s₀ s) :
    SteadyR A s₀ (execPowerGoodTimeout g s) := by
  unfold execPowerGoodTimeout
  repeat' first
    | with_reducible assumption
    | fail_if_no_progress (with_reducible refine steady_mk ?_ rfl rfl)
    | with_reducible refine steadyR_next ?_
    | exact steadyR_fault
    | with_reducible refine removeRails_steady ?_
    | with_reducible refine raise_steady ?_
    | with_reducible refine steady_ite (fun _ => ?_) (fun _ => ?_)
    | with_reducible refine steadyR_ite (fun _ => ?_) (fun _ => ?_)

theorem execPowerGoodLoss_steady {g : RailGroup} {cyc : Nat} {s : State} (hs : Steady A s₀ s) :
    SteadyR A s₀ (execPowerGoodLoss g cyc s) := by
  unfold execPowerGoodLoss
  repeat' first
    | with_reducible assumption
    | fail_if_no_progress (with_reducible refine steady_mk ?_ rfl rfl)
    | with_reducible refine steadyR_next ?_
    | exact steadyR_fault
    | with_reducible refine atCycle_steady ?_
    | with_reducible refine latch_steady ?_
    | with_reducible refine powerDown_steady ?_
    | with_reducible refine raise_steady ?_
    | with_reducible refine steady_foldl ?_ (fun _ _ _ => ?_)
    | with_reducible refine steady_ite (fun _ => ?_) (fun _ => ?_)
    | with_reducible refine steadyR_ite (fun _ => ?_) (fun _ => ?_)

theorem execPgAonLoss_steady {s : State} (hcounter : A.counter = true) (hcommitted : A.committed = true) (htime : A.time = true) (hoffload : A.offload = true) (hledger : A.ledger = true) (hdump : A.dump = true) (hpos : A.pos = true) (hversions : A.versions = true) (hs : Steady A s₀ s) :
    SteadyR A s₀ (execPgAonLoss s) := by
  unfold execPgAonLoss
  repeat' first
    | with_reducible assumption
    | fail_if_no_progress (with_reducible refine steady_mk ?_ rfl rfl)
    | with_reducible refine steadyR_next ?_
    | with_reducible refine restart_steady hcounter hcommitted htime hoffload hledger hdump hpos hversions ?_

theorem execHbmTraining_steady {s : State} (hs : Steady A s₀ s) :
    SteadyR A s₀ (execHbmTraining s) := by
  unfold execHbmTraining
  repeat' first
    | with_reducible assumption
    | fail_if_no_progress (with_reducible refine steady_mk ?_ rfl rfl)
    | with_reducible refine steadyR_next ?_
    | with_reducible refine steady_ite (fun _ => ?_) (fun _ => ?_)
    | with_reducible refine steadyR_ite (fun _ => ?_) (fun _ => ?_)

theorem otpEntry_steady {s : State} (hs : Steady A s₀ s) :
    Steady A s₀ (otpEntry s) := by
  unfold otpEntry
  repeat' first
    | with_reducible assumption
    | with_reducible refine charge_steady ?_
    | with_reducible refine steady_ite (fun _ => ?_) (fun _ => ?_)

theorem execBootComplete_steady {s : State} (hs : Steady A s₀ s) : SteadyR A s₀ (execBootComplete s) := by
  refine steadyR_ite (fun _ => steadyR_next hs) (fun _ => steadyR_next (otpEntry_steady (raise_steady ?_)))
  exact hs.trans ⟨⟨rfl, rfl, fun i => ⟨i.hbm, i.tile, i.host, i.buffers, i.events, i.tokens, i.versions, i.monitors, i.leaf⟩,
    fun _ => Nat.le_refl _, Nat.le_refl _, fun x => x, Nat.le_max_left _ _⟩, fun _ => rfl, fun _ => rfl, fun _ => rfl, fun _ => rfl, fun _ => rfl, fun _ => rfl, fun _ => rfl, fun _ => rfl, fun _ => rfl, fun _ => rfl, fun _ => rfl, fun _ => rfl⟩

theorem execSysRstNLow_steady {cyc : Nat} {s : State} (hs : Steady A s₀ s) :
    SteadyR A s₀ (execSysRstNLow cyc s) := by
  unfold execSysRstNLow
  repeat' first
    | with_reducible assumption
    | fail_if_no_progress (with_reducible refine steady_mk ?_ rfl rfl)
    | with_reducible refine steadyR_next ?_
    | with_reducible refine atCycle_steady ?_
    | with_reducible refine expelByAom_steady ?_
    | with_reducible refine removeRails_steady ?_
    | with_reducible refine steady_ite (fun _ => ?_) (fun _ => ?_)

theorem execSysRstNRise_steady {s : State} (hcounter : A.counter = true) (hcommitted : A.committed = true) (htime : A.time = true) (hoffload : A.offload = true) (hledger : A.ledger = true) (hdump : A.dump = true) (hpos : A.pos = true) (hversions : A.versions = true) (hs : Steady A s₀ s) :
    SteadyR A s₀ (execSysRstNRise s) := by
  unfold execSysRstNRise
  repeat' first
    | with_reducible assumption
    | fail_if_no_progress (with_reducible refine steady_mk ?_ rfl rfl)
    | with_reducible refine steadyR_next ?_
    | with_reducible refine coldReset_steady hcounter hcommitted htime hoffload hledger hdump hpos hversions ?_
    | with_reducible refine steady_ite (fun _ => ?_) (fun _ => ?_)
    | with_reducible refine steadyR_ite (fun _ => ?_) (fun _ => ?_)

theorem execThermalTrip_steady {die : Fin 6} {cyc : Nat} {s : State} (hs : Steady A s₀ s) :
    SteadyR A s₀ (execThermalTrip die cyc s) := by
  unfold execThermalTrip
  repeat' first
    | with_reducible assumption
    | fail_if_no_progress (with_reducible refine steady_mk ?_ rfl rfl)
    | with_reducible refine steadyR_next ?_
    | with_reducible refine powerDown_steady ?_
    | with_reducible refine raise_steady ?_
    | with_reducible refine atCycle_steady ?_

theorem execRefclkLoss_steady {cyc : Nat} {s : State} (hs : Steady A s₀ s) :
    SteadyR A s₀ (execRefclkLoss cyc s) := by
  unfold execRefclkLoss
  repeat' first
    | with_reducible assumption
    | fail_if_no_progress (with_reducible refine steady_mk ?_ rfl rfl)
    | with_reducible refine steadyR_next ?_
    | with_reducible refine powerDown_steady ?_
    | with_reducible refine raise_steady ?_
    | with_reducible refine atCycle_steady ?_

theorem execLinkrefLoss_steady {s : State} (hs : Steady A s₀ s) :
    SteadyR A s₀ (execLinkrefLoss s) := by
  unfold execLinkrefLoss
  repeat' first
    | with_reducible assumption
    | fail_if_no_progress (with_reducible refine steady_mk ?_ rfl rfl)
    | with_reducible refine steadyR_next ?_
    | with_reducible refine linkDown_steady ?_
    | with_reducible refine steady_foldl ?_ (fun _ _ _ => ?_)

theorem restartEomet_steady {s : State} (hs : Steady A s₀ s) :
    Steady A s₀ (restartEomet s) := by
  unfold restartEomet
  repeat' first
    | with_reducible assumption
    | fail_if_no_progress (with_reducible refine steady_mk ?_ rfl rfl)
    | with_reducible refine raise_steady ?_

theorem execEometRestart_steady {s : State} (hs : Steady A s₀ s) :
    SteadyR A s₀ (execEometRestart s) := by
  unfold execEometRestart
  repeat' first
    | with_reducible assumption
    | with_reducible refine steadyR_next ?_
    | with_reducible refine restartEomet_steady ?_
    | with_reducible refine steady_ite (fun _ => ?_) (fun _ => ?_)
    | with_reducible refine steadyR_ite (fun _ => ?_) (fun _ => ?_)

theorem admitRequest_steady {s : State} {r : Req} {h : List Byte} (hs : Steady A s₀ s) :
    Steady A s₀ (admitRequest s r h) := by
  unfold admitRequest
  repeat' first
    | with_reducible assumption
    | with_reducible refine active_steady ?_
    | with_reducible refine refuse_steady ?_
    | split
    | (dsimp only; split)

theorem ringDoorbell_steady {s : State} {slot : Nat} (hs : Steady A s₀ s) :
    Steady A s₀ (ringDoorbell s slot) := by
  unfold ringDoorbell
  repeat' first
    | with_reducible assumption
    | fail_if_no_progress (with_reducible refine steady_mk ?_ rfl rfl)
    | with_reducible refine raise_steady ?_
    | with_reducible refine admitRequest_steady ?_
    | with_reducible refine steady_ite (fun _ => ?_) (fun _ => ?_)

theorem execDoorbell_steady {slot : Fin 16} {s : State} (hs : Steady A s₀ s) :
    SteadyR A s₀ (execDoorbell slot s) := by
  unfold execDoorbell
  repeat' first
    | with_reducible assumption
    | fail_if_no_progress (with_reducible refine steady_mk ?_ rfl rfl)
    | with_reducible refine steadyR_next ?_
    | with_reducible refine ringDoorbell_steady ?_

theorem putBar_steady {s : State} {off : Nat} {b : Byte} (hs : Steady A s₀ s) : Steady A s₀ (putBar s off b) :=
  steady_ite (fun _ => hs.buffers tableWf_tset) (fun _ => hs)

theorem execRegisterWrite_steady {off : BitVec 24} {data : List Byte} {s : State} (hs : Steady A s₀ s) :
    SteadyR A s₀ (execRegisterWrite off data s) := by
  unfold execRegisterWrite
  repeat' first
    | with_reducible assumption
    | fail_if_no_progress (with_reducible refine steady_mk ?_ rfl rfl)
    | with_reducible refine steadyR_next ?_
    | with_reducible refine putBar_steady ?_
    | with_reducible refine ringDoorbell_steady ?_
    | with_reducible refine steady_foldl ?_ (fun _ _ _ => ?_)

theorem authFailed_steady {s : State} (hs : Steady A s₀ s) :
    Steady A s₀ (authFailed s) := by
  unfold authFailed
  repeat' first
    | with_reducible assumption
    | fail_if_no_progress (with_reducible refine steady_mk ?_ rfl rfl)
    | with_reducible refine raise_steady ?_
    | with_reducible refine steady_ite (fun _ => ?_) (fun _ => ?_)

theorem mgmtRequest_steady {s : State} {addr : Word} {udp : Half} {seq : Word} {msg : List Byte} (hs : Steady A s₀ s) :
    Steady A s₀ (mgmtRequest s addr udp seq msg) := by
  unfold mgmtRequest
  repeat' first
    | with_reducible assumption
    | fail_if_no_progress (with_reducible refine steady_mk ?_ rfl rfl)
    | with_reducible refine sendFragments_steady ?_
    | with_reducible refine refuse_steady ?_
    | with_reducible refine admitRequest_steady ?_
    | with_reducible refine setSource_steady ?_
    | with_reducible refine steady_foldl ?_ (fun _ _ _ => ?_)
    | with_reducible refine steady_ite (fun _ => ?_) (fun _ => ?_)
    | split
    | (dsimp only; split)

theorem takeFragment_steady {s : State} {addr : Word} {udp : Half} {seq : Word} {frag : Nat} {payload : List Byte} (hs : Steady A s₀ s) :
    Steady A s₀ (takeFragment s addr udp seq frag payload) := by
  unfold takeFragment
  repeat' first
    | with_reducible assumption
    | fail_if_no_progress (with_reducible refine steady_mk ?_ rfl rfl)
    | with_reducible refine mgmtRequest_steady ?_
    | with_reducible refine steady_ite (fun _ => ?_) (fun _ => ?_)

theorem execMgmtDatagram_steady {addr : Word} {udp : Half} {bytes : List Byte} {s : State} (hs : Steady A s₀ s) :
    SteadyR A s₀ (execMgmtDatagram addr udp bytes s) := by
  unfold execMgmtDatagram
  repeat' first
    | with_reducible assumption
    | with_reducible refine steadyR_next ?_
    | with_reducible refine portBytes_steady ?_
    | with_reducible refine authFailed_steady ?_
    | with_reducible refine takeFragment_steady ?_
    | with_reducible refine steady_ite (fun _ => ?_) (fun _ => ?_)
    | with_reducible refine steadyR_ite (fun _ => ?_) (fun _ => ?_)

theorem execReassemblyTimeout_steady {addr : Word} {udp : Half} {seq : Word} {s : State} (hs : Steady A s₀ s) :
    SteadyR A s₀ (execReassemblyTimeout addr udp seq s) := by
  unfold execReassemblyTimeout
  repeat' first
    | with_reducible assumption
    | fail_if_no_progress (with_reducible refine steady_mk ?_ rfl rfl)
    | with_reducible refine steadyR_next ?_

theorem execPeerRequest_steady {rank : Rank} {bytes : List Byte} {s : State} (hs : Steady A s₀ s) :
    SteadyR A s₀ (execPeerRequest rank bytes s) := by
  unfold execPeerRequest
  repeat' first
    | with_reducible assumption
    | fail_if_no_progress (with_reducible refine steady_mk ?_ rfl rfl)
    | with_reducible refine steadyR_next ?_
    | with_reducible refine refuse_steady ?_
    | with_reducible refine admitRequest_steady ?_
    | with_reducible refine steady_ite (fun _ => ?_) (fun _ => ?_)
    | with_reducible refine steadyR_ite (fun _ => ?_) (fun _ => ?_)

theorem execArpRequest_steady {mac : BitVec 48} {ip : Word} {target : Word} {s : State} (hs : Steady A s₀ s) :
    SteadyR A s₀ (execArpRequest mac ip target s) := by
  unfold execArpRequest
  repeat' first
    | with_reducible assumption
    | fail_if_no_progress (with_reducible refine steady_mk ?_ rfl rfl)
    | with_reducible refine steadyR_next ?_
    | with_reducible refine steady_ite (fun _ => ?_) (fun _ => ?_)

theorem execIcmpEchoRequest_steady {addr : Word} {payload : List Byte} {s : State} (hs : Steady A s₀ s) :
    SteadyR A s₀ (execIcmpEchoRequest addr payload s) := by
  unfold execIcmpEchoRequest
  repeat' first
    | with_reducible assumption
    | fail_if_no_progress (with_reducible refine steady_mk ?_ rfl rfl)
    | with_reducible refine steadyR_next ?_
    | with_reducible refine steady_ite (fun _ => ?_) (fun _ => ?_)

theorem dropHost_steady {s : State} (hs : Steady A s₀ s) :
    Steady A s₀ (dropHost s) := by
  unfold dropHost
  repeat' first
    | with_reducible assumption
    | fail_if_no_progress (with_reducible refine steady_mk ?_ rfl rfl)
    | with_reducible refine rollbackHost_steady ?_

theorem hostLinkDown_steady {s : State} (hs : Steady A s₀ s) :
    Steady A s₀ (hostLinkDown s) := by
  unfold hostLinkDown
  repeat' first
    | with_reducible assumption
    | fail_if_no_progress (with_reducible refine steady_mk ?_ rfl rfl)
    | with_reducible refine dropHost_steady ?_
    | with_reducible refine takeL3_steady ?_
    | with_reducible refine steady_ite (fun _ => ?_) (fun _ => ?_)

theorem execFunctionLevelReset_steady {cyc : Nat} {s : State} (hdump : A.dump = true) (hs : Steady A s₀ s) :
    SteadyR A s₀ (execFunctionLevelReset cyc s) := by
  unfold execFunctionLevelReset
  repeat' first
    | with_reducible assumption
    | fail_if_no_progress (with_reducible refine steady_mk ?_ rfl rfl)
    | fail_if_no_progress (with_reducible refine steady_mk_dump hdump ?_ rfl rfl)
    | with_reducible refine steadyR_next ?_
    | with_reducible refine dropHost_steady ?_
    | with_reducible refine atCycle_steady ?_
    | with_reducible refine takeL3_steady ?_
    | with_reducible refine steady_ite (fun _ => ?_) (fun _ => ?_)

theorem execPcieLinkDown_steady {cyc : Nat} {s : State} (hs : Steady A s₀ s) :
    SteadyR A s₀ (execPcieLinkDown cyc s) := by
  unfold execPcieLinkDown
  repeat' first
    | with_reducible assumption
    | with_reducible refine steadyR_next ?_
    | with_reducible refine hostLinkDown_steady ?_
    | with_reducible refine atCycle_steady ?_

theorem execD3hotEntry_steady {cyc : Nat} {s : State} (hs : Steady A s₀ s) :
    SteadyR A s₀ (execD3hotEntry cyc s) := by
  unfold execD3hotEntry
  repeat' first
    | with_reducible assumption
    | with_reducible refine steadyR_next ?_
    | with_reducible refine hostLinkDown_steady ?_
    | with_reducible refine atCycle_steady ?_

theorem execPerstNLow_steady {cyc : Nat} {s : State} (hs : Steady A s₀ s) :
    SteadyR A s₀ (execPerstNLow cyc s) := by
  unfold execPerstNLow
  repeat' first
    | with_reducible assumption
    | fail_if_no_progress (with_reducible refine steady_mk ?_ rfl rfl)
    | with_reducible refine steadyR_next ?_
    | with_reducible refine atCycle_steady ?_
    | with_reducible refine hostLinkDown_steady ?_

theorem execPerstNRise_steady {s : State} (hs : Steady A s₀ s) :
    SteadyR A s₀ (execPerstNRise s) := by
  unfold execPerstNRise
  repeat' first
    | with_reducible assumption
    | fail_if_no_progress (with_reducible refine steady_mk ?_ rfl rfl)
    | with_reducible refine steadyR_next ?_

theorem correctableError_steady {s : State} (hs : Steady A s₀ s) :
    Steady A s₀ (correctableError s) := by
  unfold correctableError
  repeat' first
    | with_reducible assumption
    | fail_if_no_progress (with_reducible refine steady_mk ?_ rfl rfl)
    | with_reducible refine raiseOnce_steady ?_
    | with_reducible refine steady_ite (fun _ => ?_) (fun _ => ?_)

theorem execPcieError_steady {e : PcieErr} {cyc : Nat} {s : State} (hs : Steady A s₀ s) :
    SteadyR A s₀ (execPcieError e cyc s) := by
  unfold execPcieError
  repeat' first
    | with_reducible assumption
    | fail_if_no_progress (with_reducible refine steady_mk ?_ rfl rfl)
    | with_reducible refine steadyR_next ?_
    | with_reducible refine atCycle_steady ?_
    | with_reducible refine correctableError_steady ?_
    | with_reducible refine raise_steady ?_
    | with_reducible refine hostLinkDown_steady ?_
    | with_reducible refine steady_ite (fun _ => ?_) (fun _ => ?_)
    | split

theorem smbusReply_steady {s : State} {x : Option (List Byte)} (hs : Steady A s₀ s) :
    Steady A s₀ (smbusReply s x) := by
  unfold smbusReply
  repeat' first
    | with_reducible assumption
    | fail_if_no_progress (with_reducible refine steady_mk ?_ rfl rfl)

theorem smbusBad_steady {s : State} (hs : Steady A s₀ s) :
    Steady A s₀ (smbusBad s) := by
  unfold smbusBad
  repeat' first
    | with_reducible assumption
    | with_reducible refine smbusReply_steady ?_
    | with_reducible refine latch_steady ?_

theorem smbusRead_steady {s : State} {f : Nat → List Byte} (hs : Steady A s₀ s) :
    Steady A s₀ (smbusRead s f) := by
  unfold smbusRead
  repeat' first
    | with_reducible assumption
    | with_reducible refine smbusReply_steady ?_
    | with_reducible refine steady_ite (fun _ => ?_) (fun _ => ?_)

theorem execPage_steady {p : Byte} {pecOk : Bool} {s : State} (hs : Steady A s₀ s) :
    SteadyR A s₀ (execPage p pecOk s) := by
  unfold execPage
  repeat' first
    | with_reducible assumption
    | fail_if_no_progress (with_reducible refine steady_mk ?_ rfl rfl)
    | with_reducible refine steadyR_next ?_
    | with_reducible refine smbusReply_steady ?_
    | with_reducible refine smbusBad_steady ?_
    | with_reducible refine steady_ite (fun _ => ?_) (fun _ => ?_)

theorem execClearFaults_steady {pecOk : Bool} {s : State} (hs : Steady A s₀ s) :
    SteadyR A s₀ (execClearFaults pecOk s) := by
  unfold execClearFaults
  repeat' first
    | with_reducible assumption
    | fail_if_no_progress (with_reducible refine steady_mk ?_ rfl rfl)
    | with_reducible refine steadyR_next ?_
    | with_reducible refine smbusReply_steady ?_
    | with_reducible refine smbusBad_steady ?_
    | with_reducible refine steady_ite (fun _ => ?_) (fun _ => ?_)

theorem execVoutMode_steady {s : State} (hs : Steady A s₀ s) :
    SteadyR A s₀ (execVoutMode s) := by
  unfold execVoutMode
  repeat' first
    | with_reducible assumption
    | with_reducible refine steadyR_next ?_
    | with_reducible refine smbusReply_steady ?_

theorem execStatusWord_steady {s : State} (hs : Steady A s₀ s) :
    SteadyR A s₀ (execStatusWord s) := by
  unfold execStatusWord
  repeat' first
    | with_reducible assumption
    | with_reducible refine steadyR_next ?_
    | with_reducible refine smbusRead_steady ?_

theorem execReadVout_steady {s : State} (hs : Steady A s₀ s) :
    SteadyR A s₀ (execReadVout s) := by
  unfold execReadVout
  repeat' first
    | with_reducible assumption
    | with_reducible refine steadyR_next ?_
    | with_reducible refine smbusRead_steady ?_

theorem execReadIout_steady {s : State} (hs : Steady A s₀ s) :
    SteadyR A s₀ (execReadIout s) := by
  unfold execReadIout
  repeat' first
    | with_reducible assumption
    | with_reducible refine steadyR_next ?_
    | with_reducible refine smbusRead_steady ?_

theorem execReadPout_steady {s : State} (hs : Steady A s₀ s) :
    SteadyR A s₀ (execReadPout s) := by
  unfold execReadPout
  repeat' first
    | with_reducible assumption
    | with_reducible refine steadyR_next ?_
    | with_reducible refine smbusRead_steady ?_

theorem execReadTemperature1_steady {s : State} (hs : Steady A s₀ s) :
    SteadyR A s₀ (execReadTemperature1 s) := by
  unfold execReadTemperature1
  repeat' first
    | with_reducible assumption
    | with_reducible refine steadyR_next ?_
    | with_reducible refine smbusRead_steady ?_

theorem execReadTemperature2_steady {s : State} (hs : Steady A s₀ s) :
    SteadyR A s₀ (execReadTemperature2 s) := by
  unfold execReadTemperature2
  repeat' first
    | with_reducible assumption
    | with_reducible refine steadyR_next ?_
    | with_reducible refine smbusRead_steady ?_

theorem execPmbusRevision_steady {s : State} (hs : Steady A s₀ s) :
    SteadyR A s₀ (execPmbusRevision s) := by
  unfold execPmbusRevision
  repeat' first
    | with_reducible assumption
    | with_reducible refine steadyR_next ?_
    | with_reducible refine smbusReply_steady ?_

theorem execSmbusUnknownCommand_steady {_code : Byte} {s : State} (hs : Steady A s₀ s) :
    SteadyR A s₀ (execSmbusUnknownCommand _code s) := by
  unfold execSmbusUnknownCommand
  repeat' first
    | with_reducible assumption
    | with_reducible refine steadyR_next ?_
    | with_reducible refine smbusReply_steady ?_

theorem execAlertResponseAddress_steady {s : State} (hs : Steady A s₀ s) :
    SteadyR A s₀ (execAlertResponseAddress s) := by
  unfold execAlertResponseAddress
  repeat' first
    | with_reducible assumption
    | with_reducible refine steadyR_next ?_
    | with_reducible refine smbusReply_steady ?_

theorem execJtagTestInstruction_steady {s : State} (hs : Steady A s₀ s) :
    SteadyR A s₀ (execJtagTestInstruction s) := by
  unfold execJtagTestInstruction
  repeat' first
    | with_reducible assumption
    | fail_if_no_progress (with_reducible refine steady_mk ?_ rfl rfl)
    | with_reducible refine steadyR_next ?_

theorem execIdentity_steady {r : Req} {s : State} (hs : Steady A s₀ s) :
    SteadyR A s₀ (execIdentity r s) := by
  unfold execIdentity
  repeat' first
    | with_reducible assumption
    | with_reducible refine steadyR_next ?_
    | with_reducible refine serve_steady ?_ (fun _ _ => ?_)
    | with_reducible refine answer_steady ?_

theorem execRunStatus_steady {r : Req} {s : State} (hs : Steady A s₀ s) :
    SteadyR A s₀ (execRunStatus r s) := by
  unfold execRunStatus
  repeat' first
    | with_reducible assumption
    | with_reducible refine steadyR_next ?_
    | with_reducible refine serve_steady ?_ (fun _ _ => ?_)
    | with_reducible refine answer_steady ?_

theorem execEventRead_steady {r : Req} {first : Word} {count : Half} {s : State} (hs : Steady A s₀ s) :
    SteadyR A s₀ (execEventRead r first count s) := by
  unfold execEventRead
  repeat' first
    | with_reducible assumption
    | with_reducible refine steadyR_next ?_
    | with_reducible refine serve_steady ?_ (fun _ _ => ?_)
    | with_reducible refine answer_steady ?_
    | with_reducible refine refuse_steady ?_
    | with_reducible refine steady_ite (fun _ => ?_) (fun _ => ?_)

theorem ackEvents_steady {s : State} {seq : Word} (hs : Steady A s₀ s) :
    Steady A s₀ (ackEvents s seq) := by
  unfold ackEvents
  repeat' first
    | with_reducible assumption
    | fail_if_no_progress (with_reducible refine steady_mk ?_ rfl rfl)
    | with_reducible refine raise_steady ?_
    | split
    | (dsimp only; split)

theorem execEventAck_steady {r : Req} {seq : Word} {s : State} (hs : Steady A s₀ s) :
    SteadyR A s₀ (execEventAck r seq s) := by
  unfold execEventAck
  repeat' first
    | with_reducible assumption
    | with_reducible refine steadyR_next ?_
    | with_reducible refine serve_steady ?_ (fun _ _ => ?_)
    | with_reducible refine acknowledged_steady ?_
    | with_reducible refine ackEvents_steady ?_
    | with_reducible refine refuse_steady ?_
    | with_reducible refine steady_ite (fun _ => ?_) (fun _ => ?_)

theorem execArrayStatus_steady {r : Req} {tile : TileId} {mask : Half} {s : State} (hs : Steady A s₀ s) :
    SteadyR A s₀ (execArrayStatus r tile mask s) := by
  unfold execArrayStatus
  repeat' first
    | with_reducible assumption
    | with_reducible refine steadyR_next ?_
    | with_reducible refine serve_steady ?_ (fun _ _ => ?_)
    | with_reducible refine answer_steady ?_

theorem execLedgerHead_steady {r : Req} {s : State} (hs : Steady A s₀ s) :
    SteadyR A s₀ (execLedgerHead r s) := by
  unfold execLedgerHead
  repeat' first
    | with_reducible assumption
    | with_reducible refine steadyR_next ?_
    | with_reducible refine serve_steady ?_ (fun _ _ => ?_)
    | with_reducible refine answer_steady ?_

theorem execMemoryStatus_steady {r : Req} {st : Byte} {s : State} (hs : Steady A s₀ s) :
    SteadyR A s₀ (execMemoryStatus r st s) := by
  unfold execMemoryStatus
  repeat' first
    | with_reducible assumption
    | with_reducible refine steadyR_next ?_
    | with_reducible refine serve_steady ?_ (fun _ _ => ?_)
    | with_reducible refine answer_steady ?_
    | with_reducible refine refuse_steady ?_
    | with_reducible refine steady_ite (fun _ => ?_) (fun _ => ?_)

theorem execNumericsState_steady {r : Req} {part : Byte} {first : Word} {count : Half} {s : State} (hs : Steady A s₀ s) :
    SteadyR A s₀ (execNumericsState r part first count s) := by
  unfold execNumericsState
  repeat' first
    | with_reducible assumption
    | with_reducible refine steadyR_next ?_
    | with_reducible refine serve_steady ?_ (fun _ _ => ?_)
    | with_reducible refine answer_steady ?_
    | with_reducible refine refuse_steady ?_
    | with_reducible refine steady_ite (fun _ => ?_) (fun _ => ?_)

theorem execLinkStatus_steady {r : Req} {mask : DWord} {s : State} (hs : Steady A s₀ s) :
    SteadyR A s₀ (execLinkStatus r mask s) := by
  unfold execLinkStatus
  repeat' first
    | with_reducible assumption
    | with_reducible refine steadyR_next ?_
    | with_reducible refine serve_steady ?_ (fun _ _ => ?_)
    | with_reducible refine answer_steady ?_
    | with_reducible refine refuse_steady ?_
    | with_reducible refine steady_ite (fun _ => ?_) (fun _ => ?_)

theorem execQueueStatus_steady {r : Req} {lake : Half} {s : State} (hs : Steady A s₀ s) :
    SteadyR A s₀ (execQueueStatus r lake s) := by
  unfold execQueueStatus
  repeat' first
    | with_reducible assumption
    | with_reducible refine steadyR_next ?_
    | with_reducible refine serve_steady ?_ (fun _ _ => ?_)
    | with_reducible refine answer_steady ?_
    | with_reducible refine refuse_steady ?_
    | with_reducible refine steady_ite (fun _ => ?_) (fun _ => ?_)

theorem execPowerStatus_steady {r : Req} {kind : Byte} {index : Half} {s : State} (hs : Steady A s₀ s) :
    SteadyR A s₀ (execPowerStatus r kind index s) := by
  unfold execPowerStatus
  repeat' first
    | with_reducible assumption
    | with_reducible refine steadyR_next ?_
    | with_reducible refine serve_steady ?_ (fun _ _ => ?_)
    | with_reducible refine answer_steady ?_
    | with_reducible refine refuse_steady ?_
    | split

theorem execAomFilterRead_steady {r : Req} {slot : Byte} {s : State} (hs : Steady A s₀ s) :
    SteadyR A s₀ (execAomFilterRead r slot s) := by
  unfold execAomFilterRead
  repeat' first
    | with_reducible assumption
    | with_reducible refine steadyR_next ?_
    | with_reducible refine serve_steady ?_ (fun _ _ => ?_)
    | with_reducible refine answer_steady ?_
    | with_reducible refine refuse_steady ?_
    | with_reducible refine steady_ite (fun _ => ?_) (fun _ => ?_)

theorem execStopAtPosition_steady {r : Req} {pos : Word} {s : State} (hs : Steady A s₀ s) :
    SteadyR A s₀ (execStopAtPosition r pos s) := by
  unfold execStopAtPosition
  repeat' first
    | with_reducible assumption
    | fail_if_no_progress (with_reducible refine steady_mk ?_ rfl rfl)
    | with_reducible refine steadyR_next ?_
    | with_reducible refine serve_steady ?_ (fun _ _ => ?_)
    | with_reducible refine settled_steady ?_
    | with_reducible refine refuse_steady ?_
    | with_reducible refine steady_ite (fun _ => ?_) (fun _ => ?_)

theorem execStopNow_steady {r : Req} {cyc : Nat} {s : State} (hs : Steady A s₀ s) :
    SteadyR A s₀ (execStopNow r cyc s) := by
  unfold execStopNow
  repeat' first
    | with_reducible assumption
    | with_reducible refine steadyR_next ?_
    | with_reducible refine serve_steady ?_ (fun _ _ => ?_)
    | with_reducible refine atCycle_steady ?_
    | with_reducible refine settled_steady ?_
    | with_reducible refine takeL3_steady ?_
    | with_reducible refine refuse_steady ?_
    | with_reducible refine steady_ite (fun _ => ?_) (fun _ => ?_)

theorem resetAnswer_steady {s : State} {r : Req} {opcode : Nat} (hs : Steady A s₀ s) :
    Steady A s₀ (resetAnswer s r opcode) := by
  unfold resetAnswer
  repeat' first
    | with_reducible assumption
    | with_reducible refine answer_steady ?_
    | with_reducible refine changeEvent_steady ?_

theorem execResetWarm_steady {r : Req} {s : State} (hcounter : A.counter = true) (hcommitted : A.committed = true) (htime : A.time = true) (hoffload : A.offload = true) (hledger : A.ledger = true) (hdump : A.dump = true) (hpos : A.pos = true) (hversions : A.versions = true) (hs : Steady A s₀ s) :
    SteadyR A s₀ (execResetWarm r s) := by
  unfold execResetWarm
  repeat' first
    | with_reducible assumption
    | with_reducible refine steadyR_next ?_
    | with_reducible refine serve_steady ?_ (fun _ _ => ?_)
    | with_reducible refine refuse_steady ?_
    | with_reducible refine warmReset_steady hcounter hcommitted htime hoffload hledger hdump hpos hversions ?_
    | with_reducible refine orderlyStop_steady ?_
    | with_reducible refine resetAnswer_steady ?_
    | with_reducible refine steady_ite (fun _ => ?_) (fun _ => ?_)

theorem execResetPowerCycle_steady {r : Req} {s : State} (hcounter : A.counter = true) (hcommitted : A.committed = true) (htime : A.time = true) (hoffload : A.offload = true) (hledger : A.ledger = true) (hdump : A.dump = true) (hpos : A.pos = true) (hversions : A.versions = true) (hs : Steady A s₀ s) :
    SteadyR A s₀ (execResetPowerCycle r s) := by
  unfold execResetPowerCycle
  repeat' first
    | with_reducible assumption
    | with_reducible refine steadyR_next ?_
    | with_reducible refine serve_steady ?_ (fun _ _ => ?_)
    | with_reducible refine refuse_steady ?_
    | with_reducible refine coldReset_steady hcounter hcommitted htime hoffload hledger hdump hpos hversions ?_
    | with_reducible refine orderlyStop_steady ?_
    | with_reducible refine resetAnswer_steady ?_
    | with_reducible refine steady_ite (fun _ => ?_) (fun _ => ?_)

theorem execLedgerExport_steady {r : Req} {frame : BitVec 48} {count : Word} {host : DWord} {s : State} (hs : Steady A s₀ s) :
    SteadyR A s₀ (execLedgerExport r frame count host s) := by
  unfold execLedgerExport
  repeat' first
    | with_reducible assumption
    | with_reducible refine steadyR_next ?_
    | with_reducible refine serveC_steady ?_ (fun _ _ => ?_)
    | with_reducible refine accept_steady ?_
    | with_reducible refine refuse_steady ?_
    | with_reducible refine steady_ite (fun _ => ?_) (fun _ => ?_)

theorem exportRecords_steady {s : State} {first : Nat} {count : Nat} {host : Nat} (hs : Steady A s₀ s) :
    Steady A s₀ (exportRecords s first count host) := by
  unfold exportRecords
  repeat' first
    | with_reducible assumption
    | with_reducible refine writeHost_steady ?_
    | with_reducible refine steady_foldl ?_ (fun _ _ _ => ?_)
    | split

theorem execLedgerExportDone_steady {r : Req} {s : State} (hs : Steady A s₀ s) :
    SteadyR A s₀ (execLedgerExportDone r s) := by
  unfold execLedgerExportDone
  repeat' first
    | with_reducible assumption
    | with_reducible refine steadyR_next ?_
    | with_reducible refine exportRecords_steady ?_
    | with_reducible refine closeCommand_steady ?_
    | with_reducible refine respond_steady ?_
    | split

theorem execOffloadRegister_steady {r : Req} {host : DWord} {length : DWord} {s : State} (hoffload : A.offload = true) (hs : Steady A s₀ s) :
    SteadyR A s₀ (execOffloadRegister r host length s) := by
  unfold execOffloadRegister
  repeat' first
    | with_reducible assumption
    | fail_if_no_progress (with_reducible refine steady_mk ?_ rfl rfl)
    | fail_if_no_progress (with_reducible refine steady_mk_offload hoffload ?_ rfl rfl)
    | with_reducible refine steadyR_next ?_
    | with_reducible refine serve_steady ?_ (fun _ _ => ?_)
    | with_reducible refine refuse_steady ?_
    | with_reducible refine settled_steady ?_
    | with_reducible refine steady_ite (fun _ => ?_) (fun _ => ?_)

theorem execOffloadRelease_steady {r : Req} {s : State} (hoffload : A.offload = true) (hs : Steady A s₀ s) :
    SteadyR A s₀ (execOffloadRelease r s) := by
  unfold execOffloadRelease
  repeat' first
    | with_reducible assumption
    | fail_if_no_progress (with_reducible refine steady_mk ?_ rfl rfl)
    | fail_if_no_progress (with_reducible refine steady_mk_offload hoffload ?_ rfl rfl)
    | with_reducible refine steadyR_next ?_
    | with_reducible refine serve_steady ?_ (fun _ _ => ?_)
    | with_reducible refine refuse_steady ?_
    | with_reducible refine settled_steady ?_
    | with_reducible refine steady_ite (fun _ => ?_) (fun _ => ?_)

theorem acceptTransfer_steady {s : State} {r : Req} {dir : Nat} {device : Nat} {host : Nat} {length : Nat} (hs : Steady A s₀ s) :
    Steady A s₀ (acceptTransfer s r dir device host length) := by
  unfold acceptTransfer
  repeat' first
    | with_reducible assumption
    | with_reducible refine accept_steady ?_
    | with_reducible refine refuse_steady ?_
    | with_reducible refine steady_ite (fun _ => ?_) (fun _ => ?_)

theorem execHostTransferToHost_steady {r : Req} {device : DWord} {host : DWord} {length : DWord} {s : State} (hs : Steady A s₀ s) :
    SteadyR A s₀ (execHostTransferToHost r device host length s) := by
  unfold execHostTransferToHost
  repeat' first
    | with_reducible assumption
    | with_reducible refine steadyR_next ?_
    | with_reducible refine serveC_steady ?_ (fun _ _ => ?_)
    | with_reducible refine acceptTransfer_steady ?_

theorem execHostTransferToDevice_steady {r : Req} {device : DWord} {host : DWord} {length : DWord} {s : State} (hs : Steady A s₀ s) :
    SteadyR A s₀ (execHostTransferToDevice r device host length s) := by
  unfold execHostTransferToDevice
  repeat' first
    | with_reducible assumption
    | with_reducible refine steadyR_next ?_
    | with_reducible refine serveC_steady ?_ (fun _ _ => ?_)
    | with_reducible refine acceptTransfer_steady ?_

theorem hostIn_steady {s : State} {n : Nat} (hs : Steady A s₀ s) :
    Steady A s₀ (hostIn s n) := by
  unfold hostIn
  repeat' first
    | with_reducible assumption
    | with_reducible refine portBytes_steady ?_
    | with_reducible refine active_steady ?_

theorem hostOut_steady {s : State} {n : Nat} (hs : Steady A s₀ s) :
    Steady A s₀ (hostOut s n) := by
  unfold hostOut
  repeat' first
    | with_reducible assumption
    | with_reducible refine portBytes_steady ?_
    | with_reducible refine active_steady ?_

theorem execHostTransferDone_steady {r : Req} {poisoned : Bool} {s : State} (hs : Steady A s₀ s) :
    SteadyR A s₀ (execHostTransferDone r poisoned s) := by
  unfold execHostTransferDone
  repeat' first
    | with_reducible assumption
    | fail_if_no_progress (with_reducible refine steady_mk ?_ rfl rfl)
    | with_reducible refine steadyR_next ?_
    | with_reducible refine hostOut_steady ?_
    | with_reducible refine writeHost_steady ?_
    | with_reducible refine closeCommand_steady ?_
    | with_reducible refine respond_steady ?_
    | with_reducible refine hostIn_steady ?_
    | with_reducible refine steady_ite (fun _ => ?_) (fun _ => ?_)
    | split

theorem landLine_steady {w : HostWrite} {s : State} {line : Nat} (hs : Steady A s₀ s) :
    Steady A s₀ (landLine w s line) := by
  unfold landLine
  repeat' first
    | with_reducible assumption
    | with_reducible refine writeHbm_steady ?_

theorem landWrite_steady {s : State} {w : HostWrite} (hs : Steady A s₀ s) :
    Steady A s₀ (landWrite s w) := by
  unfold landWrite
  repeat' first
    | with_reducible assumption
    | with_reducible refine raise_steady ?_
    | with_reducible refine landLine_steady ?_
    | with_reducible refine respond_steady ?_
    | with_reducible refine changeEvent_steady ?_
    | with_reducible refine closeCommand_steady ?_
    | with_reducible refine steady_foldl ?_ (fun _ _ _ => ?_)
    | with_reducible refine steady_ite (fun _ => ?_) (fun _ => ?_)
    | split
    | (dsimp only; split)

theorem landedTick_steady {s : State} (hs : Steady A s₀ s) :
    Steady A s₀ (landedTick s) := by
  unfold landedTick
  repeat' first
    | with_reducible assumption
    | fail_if_no_progress (with_reducible refine steady_mk ?_ rfl rfl)
    | with_reducible refine landWrite_steady ?_
    | with_reducible refine steady_foldl ?_ (fun _ _ _ => ?_)

theorem execAomFilterLoad_steady {r : Req} {filter : BitVec 1024} {s : State} (hs : Steady A s₀ s) :
    SteadyR A s₀ (execAomFilterLoad r filter s) := by
  unfold execAomFilterLoad
  repeat' first
    | with_reducible assumption
    | fail_if_no_progress (with_reducible refine steady_mk ?_ rfl rfl)
    | with_reducible refine steadyR_next ?_
    | with_reducible refine serve_steady ?_ (fun _ _ => ?_)
    | with_reducible refine refuse_steady ?_
    | with_reducible refine settled_steady ?_
    | with_reducible refine steady_ite (fun _ => ?_) (fun _ => ?_)

theorem execAomFilterRemove_steady {r : Req} {slot : Byte} {s : State} (hs : Steady A s₀ s) :
    SteadyR A s₀ (execAomFilterRemove r slot s) := by
  unfold execAomFilterRemove
  repeat' first
    | with_reducible assumption
    | fail_if_no_progress (with_reducible refine steady_mk ?_ rfl rfl)
    | with_reducible refine steadyR_next ?_
    | with_reducible refine serve_steady ?_ (fun _ _ => ?_)
    | with_reducible refine refuse_steady ?_
    | with_reducible refine settled_steady ?_
    | with_reducible refine steady_ite (fun _ => ?_) (fun _ => ?_)

theorem modEntryBytes_steady {s : State} {n : Nat} {f : List Byte → List Byte} (hs : Steady A s₀ s) :
    Steady A s₀ (modEntryBytes s n f) := by
  unfold modEntryBytes
  repeat' first
    | with_reducible assumption
    | fail_if_no_progress (with_reducible refine steady_mk ?_ rfl rfl)
    | with_reducible refine writeHbm_steady ?_

theorem onContext_steady {s : State} {r : Req} {opcode : Nat} {n : Nat} {f : State → State} (hs : Steady A s₀ s)
    (hsf : ∀ s, Steady A s₀ s → Steady A s₀ (f s)) :
    Steady A s₀ (onContext s r opcode n f) := by
  unfold onContext
  repeat' first
    | with_reducible assumption
    | with_reducible refine hsf _ ?_
    | with_reducible refine refuse_steady ?_
    | with_reducible refine steady_ite (fun _ => ?_) (fun _ => ?_)

theorem addOrder_steady {s : State} {o : CtxOrder} (hs : Steady A s₀ s) :
    Steady A s₀ (addOrder s o) := by
  unfold addOrder
  repeat' first
    | with_reducible assumption
    | fail_if_no_progress (with_reducible refine steady_mk ?_ rfl rfl)

theorem execContextLoad_steady {r : Req} {context : Word} {host : DWord} {promptLen : Word} {word8 : DWord} {word18 : DWord} {s : State} (hs : Steady A s₀ s) :
    SteadyR A s₀ (execContextLoad r context host promptLen word8 word18 s) := by
  unfold execContextLoad
  repeat' first
    | with_reducible assumption
    | with_reducible refine steadyR_next ?_
    | with_reducible refine serveC_steady ?_ (fun _ _ => ?_)
    | with_reducible refine onContext_steady ?_ (fun _ _ => ?_)
    | with_reducible refine refuse_steady ?_
    | with_reducible refine accept_steady ?_
    | with_reducible refine steady_ite (fun _ => ?_) (fun _ => ?_)

theorem execContextLoadDone_steady {r : Req} {s : State} (hs : Steady A s₀ s) :
    SteadyR A s₀ (execContextLoadDone r s) := by
  unfold execContextLoadDone
  repeat' first
    | with_reducible assumption
    | with_reducible refine steadyR_next ?_
    | with_reducible refine addOrder_steady ?_
    | with_reducible refine hostIn_steady ?_
    | with_reducible refine steady_ite (fun _ => ?_) (fun _ => ?_)
    | split

theorem execContextRead_steady {r : Req} {first : Word} {count : Half} {s : State} (hs : Steady A s₀ s) :
    SteadyR A s₀ (execContextRead r first count s) := by
  unfold execContextRead
  repeat' first
    | with_reducible assumption
    | with_reducible refine steadyR_next ?_
    | with_reducible refine serve_steady ?_ (fun _ _ => ?_)
    | with_reducible refine onContext_steady ?_ (fun _ _ => ?_)
    | with_reducible refine answer_steady ?_
    | with_reducible refine refuse_steady ?_
    | with_reducible refine steady_ite (fun _ => ?_) (fun _ => ?_)

theorem execContextWrite_steady {r : Req} {context : Word} {word8 : DWord} {word18 : DWord} {s : State} (hs : Steady A s₀ s) :
    SteadyR A s₀ (execContextWrite r context word8 word18 s) := by
  unfold execContextWrite
  repeat' first
    | with_reducible assumption
    | with_reducible refine steadyR_next ?_
    | with_reducible refine serve_steady ?_ (fun _ _ => ?_)
    | with_reducible refine onContext_steady ?_ (fun _ _ => ?_)
    | with_reducible refine refuse_steady ?_
    | with_reducible refine addOrder_steady ?_
    | with_reducible refine steady_ite (fun _ => ?_) (fun _ => ?_)

theorem execContextStop_steady {r : Req} {context : Word} {s : State} (hs : Steady A s₀ s) :
    SteadyR A s₀ (execContextStop r context s) := by
  unfold execContextStop
  repeat' first
    | with_reducible assumption
    | with_reducible refine steadyR_next ?_
    | with_reducible refine serve_steady ?_ (fun _ _ => ?_)
    | with_reducible refine onContext_steady ?_ (fun _ _ => ?_)
    | with_reducible refine addOrder_steady ?_
    | with_reducible refine refuse_steady ?_
    | with_reducible refine steady_ite (fun _ => ?_) (fun _ => ?_)

theorem execContextRelease_steady {r : Req} {context : Word} {s : State} (hs : Steady A s₀ s) :
    SteadyR A s₀ (execContextRelease r context s) := by
  unfold execContextRelease
  repeat' first
    | with_reducible assumption
    | with_reducible refine steadyR_next ?_
    | with_reducible refine serve_steady ?_ (fun _ _ => ?_)
    | with_reducible refine onContext_steady ?_ (fun _ _ => ?_)
    | with_reducible refine refuse_steady ?_
    | with_reducible refine addOrder_steady ?_
    | with_reducible refine steady_ite (fun _ => ?_) (fun _ => ?_)

theorem execContextTokens_steady {r : Req} {context : Word} {first : Word} {count : Word} {host : DWord} {s : State} (hs : Steady A s₀ s) :
    SteadyR A s₀ (execContextTokens r context first count host s) := by
  unfold execContextTokens
  repeat' first
    | with_reducible assumption
    | with_reducible refine steadyR_next ?_
    | with_reducible refine serveC_steady ?_ (fun _ _ => ?_)
    | with_reducible refine onContext_steady ?_ (fun _ _ => ?_)
    | with_reducible refine refuse_steady ?_
    | with_reducible refine accept_steady ?_
    | with_reducible refine steady_ite (fun _ => ?_) (fun _ => ?_)

theorem copyTokens_steady {s : State} {n : Nat} {first : Nat} {count : Nat} {host : Nat} (hs : Steady A s₀ s) :
    Steady A s₀ (copyTokens s n first count host) := by
  unfold copyTokens
  repeat' first
    | with_reducible assumption
    | with_reducible refine writeHost_steady ?_
    | with_reducible refine steady_foldl ?_ (fun _ _ _ => ?_)
    | split

theorem execContextTokensDone_steady {r : Req} {s : State} (hs : Steady A s₀ s) :
    SteadyR A s₀ (execContextTokensDone r s) := by
  unfold execContextTokensDone
  repeat' first
    | with_reducible assumption
    | with_reducible refine steadyR_next ?_
    | with_reducible refine hostOut_steady ?_
    | with_reducible refine copyTokens_steady ?_
    | with_reducible refine closeCommand_steady ?_
    | with_reducible refine respond_steady ?_
    | split

theorem putPrompt_steady {n : Nat} {o : Option State} {x : Nat × Nat} (hs : ∀ s, o = some s → Steady A s₀ s) :
    ∀ s, putPrompt n o x = some s → Steady A s₀ s := by
  intro s h
  simp only [putPrompt, Option.map_eq_some_iff, Option.bind_eq_some_iff] at h
  obtain ⟨u, ⟨a, ha, b, hb, hu⟩, rfl⟩ := h
  have k := ensureKv_steady (ensureToken_steady (hs a ha) _ hb) _ hu
  split
  · exact writeHbm_steady k
  · exact k

theorem loadContext_steady {s : State} {o : CtxOrder} (hs : Steady A s₀ s) : ∀ t, loadContext s o = some t → Steady A s₀ t := by
  intro t h
  simp only [loadContext, Option.bind_eq_some_iff] at h
  obtain ⟨x, hx, y, hy, ht⟩ := h
  have k : Steady A s₀ (if ctxState s o.context = 0 then s else releaseHeld s o.context) :=
    steady_ite (fun _ => hs) (fun _ => releaseHeld_steady hs)
  have k := modEntryBytes_steady (n := o.context) (f := loadedEntry o x.2 y.2) (takePage_steady (takePage_steady k _ hx) _ hy)
  have key : ∀ (l : List (Nat × Nat)) (p : Option State), (∀ s, p = some s → Steady A s₀ s) →
      ∀ s, l.foldl (putPrompt o.context) p = some s → Steady A s₀ s := by
    intro l
    induction l with
    | nil => exact fun _ h => h
    | cons a l ih => exact fun p h => ih _ (putPrompt_steady h)
  exact key _ _ (fun s e => by cases e; exact k) _ ht

theorem orderEffect_steady {s : State} {o : CtxOrder} (hs : Steady A s₀ s) : ∀ t, orderEffect s o = some t → Steady A s₀ t := by
  intro t h
  simp only [orderEffect] at h
  split at h
  · exact loadContext_steady hs _ h
  · cases h; exact modEntryBytes_steady hs
  · split at h <;> cases h
    · exact modEntryBytes_steady hs
    · exact hs
  · cases h; exact modEntryBytes_steady (releaseHeld_steady hs)

theorem orderAnswer_steady {s : State} {o : CtxOrder} {ok : Bool} (hs : Steady A s₀ s) :
    Steady A s₀ (orderAnswer s o ok) := by
  unfold orderAnswer
  repeat' first
    | with_reducible assumption
    | fail_if_no_progress (with_reducible refine steady_mk ?_ rfl rfl)
    | with_reducible refine settled_steady ?_
    | with_reducible refine respond_steady ?_
    | with_reducible refine steady_ite (fun _ => ?_) (fun _ => ?_)
    | split

theorem contextsTick_steady {s : State} (hs : Steady A s₀ s) :
    Steady A s₀ (contextsTick s) := by
  unfold contextsTick
  repeat' first
    | with_reducible assumption
    | fail_if_no_progress (with_reducible refine steady_mk ?_ rfl rfl)
    | exact orderEffect_steady ‹_› _ ‹_›
    | with_reducible refine orderAnswer_steady ?_
    | with_reducible refine steady_foldl ?_ (fun _ _ _ => ?_)
    | split

theorem execFwStage_steady {r : Req} {host : DWord} {length : Word} {s : State} (hs : Steady A s₀ s) :
    SteadyR A s₀ (execFwStage r host length s) := by
  unfold execFwStage
  repeat' first
    | with_reducible assumption
    | with_reducible refine steadyR_next ?_
    | with_reducible refine serveC_steady ?_ (fun _ _ => ?_)
    | with_reducible refine accept_steady ?_
    | with_reducible refine refuse_steady ?_
    | with_reducible refine steady_ite (fun _ => ?_) (fun _ => ?_)

theorem execFwStageDone_steady {r : Req} {s : State} (himage : A.image = true) (hs : Steady A s₀ s) :
    SteadyR A s₀ (execFwStageDone r s) := by
  unfold execFwStageDone
  repeat' first
    | with_reducible assumption
    | fail_if_no_progress (with_reducible refine steady_mk ?_ rfl rfl)
    | fail_if_no_progress (with_reducible refine steady_mk_image himage ?_ rfl rfl)
    | with_reducible refine steadyR_next ?_
    | with_reducible refine hostIn_steady ?_
    | with_reducible refine closeCommand_steady ?_
    | with_reducible refine respond_steady ?_
    | with_reducible refine changeEvent_steady ?_
    | with_reducible refine raise_steady ?_
    | with_reducible refine steady_ite (fun _ => ?_) (fun _ => ?_)
    | split

theorem execFwActivate_steady {r : Req} {slot : Byte} {s : State} (hcounter : A.counter = true) (hcommitted : A.committed = true) (himage : A.image = true) (htime : A.time = true) (hoffload : A.offload = true) (hledger : A.ledger = true) (hdump : A.dump = true) (hpos : A.pos = true) (hversions : A.versions = true) (hs : Steady A s₀ s) :
    SteadyR A s₀ (execFwActivate r slot s) := by
  unfold execFwActivate
  repeat' first
    | with_reducible assumption
    | fail_if_no_progress (with_reducible refine steady_mk ?_ rfl rfl)
    | fail_if_no_progress (with_reducible refine steady_mk_image himage ?_ rfl rfl)
    | with_reducible refine steadyR_next ?_
    | with_reducible refine serve_steady ?_ (fun _ _ => ?_)
    | with_reducible refine refuse_steady ?_
    | with_reducible refine settled_steady ?_
    | with_reducible refine draw_steady ?_
    | with_reducible refine coldReset_steady hcounter hcommitted htime hoffload hledger hdump hpos hversions ?_
    | with_reducible refine orderlyStop_steady ?_
    | with_reducible refine steady_ite (fun _ => ?_) (fun _ => ?_)

theorem msiEvent_leaves (s : State) : (msiEvent s).eo.leaf = s.eo.leaf ∧ (msiEvent s).eo.leafFuses = s.eo.leafFuses := by
  exact iteInduction (motive := fun t : State => t.eo.leaf = s.eo.leaf ∧ t.eo.leafFuses = s.eo.leafFuses) (fun _ => ⟨rfl, rfl⟩)
    (fun _ => ⟨rfl, rfl⟩)
theorem raise_leaves (s : State) (c : Nat) (u : UnitRef) (l : Nat) (ps : List Nat) :
    (raise s c u l ps).eo.leaf = s.eo.leaf ∧ (raise s c u l ps).eo.leafFuses = s.eo.leafFuses := by
  have key : ∀ (t : State) (e : EventRec),
      (storeEvent t e).eo.leaf = t.eo.leaf ∧ (storeEvent t e).eo.leafFuses = t.eo.leafFuses := fun t e =>
    ⟨(msiEvent_leaves _).1, (msiEvent_leaves _).2⟩
  unfold raise; split
  · exact key _ _
  · exact ⟨rfl, rfl⟩
theorem blowFuse_leaf (s : State) : (blowFuse s).eo.leaf = 64 * s.eo.leafFuses := (raise_leaves _ _ _ _ _).1
theorem blowFuse_leafFuses (s : State) : (blowFuse s).eo.leafFuses = s.eo.leafFuses + 1 := (raise_leaves _ _ _ _ _).2
theorem blowFuse_steady {s : State} (hs : Steady A s₀ s) : Steady A s₀ (blowFuse s) := by
  refine raise_steady (hs.trans ⟨⟨rfl, rfl, fun i => ?_, fun i => i.leaf, Nat.le_succ _, fun x => x, Nat.le_refl _⟩, fun _ => rfl, fun _ => rfl, fun _ => rfl, fun _ => rfl, fun _ => rfl, fun _ => rfl, fun _ => rfl, fun _ => rfl, fun _ => rfl, fun _ => rfl, fun _ => rfl, fun _ => rfl⟩)
  exact ⟨i.hbm, i.tile, i.host, i.buffers, i.events, i.tokens, i.versions, i.monitors, Nat.mul_le_mul_left _ (Nat.le_succ _)⟩

theorem execAttest_steady {s : State} {r : Req} {nonce : BitVec 256} (hs : Steady A s₀ s) : SteadyR A s₀ (execAttest r nonce s) := by
  refine steadyR_next (serve_steady hs (fun s h => ?_))
  refine steady_ite (fun _ => refuse_steady (raise_steady h)) (fun _ => answer_steady ?_)
  have step : ∀ u : State, Steady A s₀ u → (Inv u → u.eo.leaf + 1 ≤ 64 * u.eo.leafFuses) →
      Steady A s₀ { u with eo.tokens := u.eo.tokens - 1, eo.leaf := u.eo.leaf + 1 } := fun u k hl =>
    k.trans ⟨⟨rfl, rfl, fun i => ⟨i.hbm, i.tile, i.host, i.buffers, i.events, Nat.le_trans (Nat.sub_le _ _) i.tokens, i.versions, i.monitors,
      hl i⟩, fun _ => Nat.le_succ _, Nat.le_refl _, fun x => x, Nat.le_refl _⟩, fun _ => rfl, fun _ => rfl, fun _ => rfl, fun _ => rfl, fun _ => rfl, fun _ => rfl, fun _ => rfl, fun _ => rfl, fun _ => rfl, fun _ => rfl, fun _ => rfl, fun _ => rfl⟩
  by_cases n : needsFuse s = true
  · have e : (if needsFuse s then blowFuse s else s) = blowFuse s := if_pos n
    simp only [e]
    refine step _ (blowFuse_steady h) (fun _ => ?_)
    rw [blowFuse_leaf, blowFuse_leafFuses]; omega
  · have e : (if needsFuse s then blowFuse s else s) = s := if_neg n
    simp only [e]
    refine step _ h (fun i => ?_)
    have := i.leaf
    simp only [needsFuse, Bool.or_eq_true, beq_iff_eq, not_or] at n
    omega

theorem execAttestTokenRefill_steady {s : State} (hs : Steady A s₀ s) : SteadyR A s₀ (execAttestTokenRefill s) :=
  steadyR_next (steady_inv hs rfl rfl (fun i => ⟨i.hbm, i.tile, i.host, i.buffers, i.events, Nat.min_le_left _ _, i.versions, i.monitors,
    i.leaf⟩) rfl rfl rfl rfl rfl)

theorem execIdentityCert_steady {r : Req} {s : State} (hs : Steady A s₀ s) :
    SteadyR A s₀ (execIdentityCert r s) := by
  unfold execIdentityCert
  repeat' first
    | with_reducible assumption
    | with_reducible refine steadyR_next ?_
    | with_reducible refine serve_steady ?_ (fun _ _ => ?_)
    | with_reducible refine answer_steady ?_

theorem execOwnerKeySet_steady {r : Req} {record : List Byte} {s : State} (howner : A.owner = true) (hs : Steady A s₀ s) :
    SteadyR A s₀ (execOwnerKeySet r record s) := by
  unfold execOwnerKeySet
  repeat' first
    | with_reducible assumption
    | fail_if_no_progress (with_reducible refine steady_mk ?_ rfl rfl)
    | fail_if_no_progress (with_reducible refine steady_mk_owner howner ?_ rfl rfl)
    | with_reducible refine steadyR_next ?_
    | with_reducible refine serve_steady ?_ (fun _ _ => ?_)
    | with_reducible refine refuse_steady ?_
    | with_reducible refine raise_steady ?_
    | with_reducible refine settled_steady ?_
    | with_reducible refine steady_ite (fun _ => ?_) (fun _ => ?_)

theorem execMgmtKeySet_steady {r : Req} {key : BitVec 256} {s : State} (hmgmt : A.mgmt = true) (hs : Steady A s₀ s) :
    SteadyR A s₀ (execMgmtKeySet r key s) := by
  unfold execMgmtKeySet
  repeat' first
    | with_reducible assumption
    | fail_if_no_progress (with_reducible refine steady_mk ?_ rfl rfl)
    | fail_if_no_progress (with_reducible refine steady_mk_mgmt hmgmt ?_ rfl rfl)
    | with_reducible refine steadyR_next ?_
    | with_reducible refine serve_steady ?_ (fun _ _ => ?_)
    | with_reducible refine settled_steady ?_

theorem endFrame_steady {s : State} (hs : Steady A s₀ s) :
    Steady A s₀ (endFrame s) := by
  unfold endFrame
  repeat' first
    | with_reducible assumption
    | fail_if_no_progress (with_reducible refine steady_mk ?_ rfl rfl)

theorem advanceCounter_steady {s : State} (hcounter : A.counter = true) (hs : Steady A s₀ s) : Steady A s₀ (advanceCounter s) :=
  hs.trans ⟨keeps_same (Keeps.refl s) rfl rfl rfl, off_of_on hcounter, fun _ => rfl, fun _ => rfl, fun _ => rfl, fun _ => rfl, fun _ => rfl, fun _ => rfl, fun _ => rfl, fun _ => rfl, fun _ => rfl, fun _ => rfl, fun _ => rfl⟩

theorem telemetryTick_steady {s : State} {n : Nat} {phase : Nat} {i : TickInputs} (hs : Steady A s₀ s) :
    Steady A s₀ (telemetryTick s n phase i) := by
  unfold telemetryTick
  repeat' first
    | with_reducible assumption
    | with_reducible refine addEnergy_steady ?_
    | with_reducible refine portsTick_steady ?_
    | with_reducible refine countTick_steady ?_
    | with_reducible refine windowTick_steady ?_
    | with_reducible refine settingsTick_steady ?_
    | with_reducible refine configTick_steady ?_
    | with_reducible refine latchSnapshot_steady ?_

theorem tempTile_steady {s : State} {x : TileId × Int} (hs : Steady A s₀ s) :
    Steady A s₀ (tempTile s x) := by
  unfold tempTile
  repeat' first
    | with_reducible assumption
    | fail_if_no_progress (with_reducible refine steady_mk ?_ rfl rfl)
    | with_reducible refine modTile_steady ?_

theorem tempTick_steady {s : State} {temps : List (TileId × Int)} (hs : Steady A s₀ s) :
    Steady A s₀ (tempTick s temps) := by
  unfold tempTick
  repeat' first
    | with_reducible assumption
    | with_reducible refine tempTile_steady ?_
    | with_reducible refine raise_steady ?_
    | with_reducible refine steady_foldl ?_ (fun _ _ _ => ?_)

theorem expelledTick_steady {s : State} (hs : Steady A s₀ s) :
    Steady A s₀ (expelledTick s) := by
  unfold expelledTick
  repeat' first
    | with_reducible assumption
    | fail_if_no_progress (with_reducible refine steady_mk ?_ rfl rfl)
    | with_reducible refine removeRails_steady ?_
    | with_reducible refine steady_ite (fun _ => ?_) (fun _ => ?_)

theorem arraysTick_steady {s : State} {t : Nat} (hs : Steady A s₀ s) :
    Steady A s₀ (arraysTick s t) := by
  unfold arraysTick
  repeat' first
    | with_reducible assumption
    | with_reducible refine arrayTick_steady ?_
    | with_reducible refine steady_foldl ?_ (fun _ _ _ => ?_)

theorem validTick_steady {s : State} {t : Nat} (hs : Steady A s₀ s) :
    Steady A s₀ (validTick s t) := by
  unfold validTick
  repeat' first
    | with_reducible assumption
    | with_reducible refine arrayTick_steady ?_
    | with_reducible refine steady_foldl ?_ (fun _ _ _ => ?_)

theorem tilesTick_steady {s : State} (hs : Steady A s₀ s) :
    Steady A s₀ (tilesTick s) := by
  unfold tilesTick
  repeat' first
    | with_reducible assumption
    | fail_if_no_progress (with_reducible refine steady_mk ?_ rfl rfl)

theorem timerTick_steady {s : State} (hs : Steady A s₀ s) :
    Steady A s₀ (timerTick s) := by
  unfold timerTick
  repeat' first
    | with_reducible assumption
    | fail_if_no_progress (with_reducible refine steady_mk ?_ rfl rfl)
    | with_reducible refine raise_steady ?_
    | with_reducible refine steady_ite (fun _ => ?_) (fun _ => ?_)
    | split

theorem frameTick_steady {s : State} {i : TickInputs} (hcounter : A.counter = true) (hledger : A.ledger = true) (hversions : A.versions = true) (hs : Steady A s₀ s) :
    Steady A s₀ (frameTick s i) := by
  unfold frameTick
  repeat' first
    | with_reducible assumption
    | with_reducible refine advanceCounter_steady hcounter ?_
    | with_reducible refine endFrame_steady ?_
    | with_reducible refine telemetryTick_steady ?_
    | with_reducible refine filtersTick_steady ?_
    | with_reducible refine timerTick_steady ?_
    | with_reducible refine tempTick_steady ?_
    | with_reducible refine contextsTick_steady ?_
    | with_reducible refine landedTick_steady ?_
    | with_reducible refine expelledTick_steady ?_
    | with_reducible refine expelTick_steady ?_
    | with_reducible refine spanTick_steady hversions ?_
    | with_reducible refine mordantTick_steady ?_
    | with_reducible refine tilesTick_steady ?_
    | with_reducible refine visitTick_steady ?_
    | with_reducible refine arraysTick_steady ?_
    | with_reducible refine validTick_steady ?_
    | with_reducible refine planTick_steady hledger hversions ?_
    | with_reducible refine powerTick_steady ?_
    | with_reducible refine lakesTick_steady ?_
    | with_reducible refine linksTick_steady ?_
    | with_reducible refine rewritePage_steady ?_
    | with_reducible refine compareTick_steady ?_
    | with_reducible refine norTick_steady ?_

theorem execFrameTick_steady {i : TickInputs} {s : State} (hcounter : A.counter = true) (hledger : A.ledger = true) (hversions : A.versions = true) (hs : Steady A s₀ s) :
    SteadyR A s₀ (execFrameTick i s) := by
  unfold execFrameTick
  repeat' first
    | with_reducible assumption
    | with_reducible refine steadyR_next ?_
    | with_reducible refine frameTick_steady hcounter hledger hversions ?_
    | with_reducible refine steady_ite (fun _ => ?_) (fun _ => ?_)

end Sys2Proof.Machine
end

