-- ==== Sys2Proof/Laws/Touch.lean ====
section
/-!
SUPPORT. Sys2Proof/Laws/Touch.lean: the rules that carry ChangesOnly (which parts of the state a function may change) through a
function's text.
-/
namespace Sys2Proof.Machine
open Sys2Proof

variable {W : Parts} {s₀ s t : State}

theorem ChangesOnly.refl (s : State) : ChangesOnly W s s := ⟨rfl, rfl, fun _ => rfl, fun _ => rfl, fun _ => rfl, fun _ => rfl, fun _ => rfl, fun _ => rfl, fun _ => rfl, fun _ => rfl, fun _ => rfl, fun _ => rfl, fun _ => rfl, fun _ => rfl, fun _ => rfl, fun _ => rfl, fun _ => rfl, fun _ => rfl, fun _ => rfl, fun _ => rfl, fun _ => rfl, fun _ => rfl, fun _ => rfl, fun _ => rfl, fun _ => rfl, fun _ => rfl, fun _ => rfl, fun _ => rfl, fun _ => rfl, fun _ => rfl, fun _ => rfl, fun _ => rfl, fun _ => rfl⟩

theorem ChangesOnly.trans {a b c : State} (h : ChangesOnly W a b) (k : ChangesOnly W b c) : ChangesOnly W a c :=
  ⟨k.pending.trans h.pending, k.id.trans h.id, fun x => (k.free x).trans (h.free x), fun x => (k.cycle x).trans (h.cycle x), fun x => (k.runs x).trans (h.runs x), fun x => (k.holds x).trans (h.holds x), fun x => (k.frame x).trans (h.frame x), fun x => (k.led x).trans (h.led x), fun x => (k.tiles x).trans (h.tiles x), fun x => (k.arrays x).trans (h.arrays x), fun x => (k.cells x).trans (h.cells x), fun x => (k.ops x).trans (h.ops x), fun x => (k.hbm x).trans (h.hbm x), fun x => (k.tileMem x).trans (h.tileMem x), fun x => (k.host x).trans (h.host x), fun x => (k.upd x).trans (h.upd x), fun x => (k.num x).trans (h.num x), fun x => (k.wire x).trans (h.wire x), fun x => (k.sync x).trans (h.sync x), fun x => (k.plan x).trans (h.plan x), fun x => (k.lakes x).trans (h.lakes x), fun x => (k.pow x).trans (h.pow x), fun x => (k.aom x).trans (h.aom x), fun x => (k.traffic x).trans (h.traffic x), fun x => (k.cnt x).trans (h.cnt x), fun x => (k.pin x).trans (h.pin x), fun x => (k.ctx x).trans (h.ctx x), fun x => (k.ev x).trans (h.ev x), fun x => (k.hl x).trans (h.hl x), fun x => (k.outbox x).trans (h.outbox x), fun x => (k.mail x).trans (h.mail x), fun x => (k.settings x).trans (h.settings x), fun x => (k.keys x).trans (h.keys x)⟩

/-- A record update. -/
theorem touch_mk {free : Nat} {fr : FrameState} {led : LedgerState} {tiles : Table TileState} {arrays : Table ArrayState} {cells : Table Nat} {ops : OpsState} {mem : MemState} {upd : UpdState} {num : NumState} {link : LinkSide} {plan : PlanState} {lakes : Table LakeState} {pow : PowerState} {aom : AomState} {cnt : CountState} {pin : PinState} {ctx : CtxState} {ev : EventState} {hl : HealthState} {eo : EoState}
    (h : ChangesOnly W s₀ s) (k : ChangesOnly W s ⟨s.pending, free, s.id, fr, led, tiles, arrays, cells, ops, mem, upd, num, link, plan, lakes, pow, aom, cnt, pin, ctx, ev, hl, eo⟩) : ChangesOnly W s₀ ⟨s.pending, free, s.id, fr, led, tiles, arrays, cells, ops, mem, upd, num, link, plan, lakes, pow, aom, cnt, pin, ctx, ev, hl, eo⟩ := h.trans k

theorem touch_foldl {β : Type} {l : List β} {g : State → β → State} (h : ChangesOnly W s₀ s)
    (hg : ∀ s x, ChangesOnly W s₀ s → ChangesOnly W s₀ (g s x)) : ChangesOnly W s₀ (l.foldl g s) := by
  induction l generalizing s with
  | nil => exact h
  | cons a l ih => exact ih (hg _ _ h)

theorem touch_ite {c : Prop} [Decidable c] {a b : State} (h1 : c → ChangesOnly W s₀ a) (h2 : ¬ c → ChangesOnly W s₀ b) :
    ChangesOnly W s₀ (if c then a else b) := by
  split <;> simp_all

/-- ChangesOnly of a result: of the next state, if it answers one. -/
def TouchR (W : Parts) (s₀ : State) (r : Result) : Prop := ∀ t, r = .next t → ChangesOnly W s₀ t

theorem touchR_next (h : ChangesOnly W s₀ t) : TouchR W s₀ (.next t) := by intro u hu; cases hu; exact h

theorem touchR_fault {f : Fault} : TouchR W s₀ (.fault f) := by intro t h; cases h

theorem touchR_ite {c : Prop} [Decidable c] {a b : Result} (h1 : c → TouchR W s₀ a) (h2 : ¬ c → TouchR W s₀ b) :
    TouchR W s₀ (if c then a else b) := by
  split <;> simp_all

end Sys2Proof.Machine
end

