-- ==== Sys2Proof/Laws/TouchOps.lean ====
section
/-!
SUPPORT. Sys2Proof/Laws/TouchOps.lean: which parts of the state the functions of the shared operations (events, charges, escalation, memory, checks and operands)
may change, one lemma each.
-/
namespace Sys2Proof.Machine
open Sys2Proof

variable {W : Parts} {s₀ : State}

theorem setLive_touch {s : State} {id : Nat} {v : Word} (h_settings : W.settings = true) (hs : ChangesOnly W s₀ s) :
    ChangesOnly W s₀ (setLive s id v) := by
  unfold setLive
  repeat' first
    | with_reducible assumption
    | fail_if_no_progress (with_reducible refine touch_mk ?_ ⟨rfl, rfl, fun _ => rfl, fun _ => rfl, fun _ => rfl, fun _ => rfl, fun _ => rfl, fun _ => rfl, fun _ => rfl, fun _ => rfl, fun _ => rfl, fun _ => rfl, fun _ => rfl, fun _ => rfl, fun _ => rfl, fun _ => rfl, fun _ => rfl, fun _ => rfl, fun _ => rfl, fun _ => rfl, fun _ => rfl, fun _ => rfl, fun _ => rfl, fun _ => rfl, fun _ => rfl, fun _ => rfl, fun _ => rfl, fun _ => rfl, fun _ => rfl, fun _ => rfl, fun _ => rfl, off_of_on h_settings, fun _ => rfl⟩)
    | split

theorem atCycle_touch {s : State} {cyc : Nat} (h_cycle : W.cycle = true) (hs : ChangesOnly W s₀ s) :
    ChangesOnly W s₀ (atCycle s cyc) := by
  unfold atCycle
  repeat' first
    | with_reducible assumption
    | fail_if_no_progress (with_reducible refine touch_mk ?_ ⟨rfl, rfl, fun _ => rfl, off_of_on h_cycle, fun _ => rfl, fun _ => rfl, fun _ => rfl, fun _ => rfl, fun _ => rfl, fun _ => rfl, fun _ => rfl, fun _ => rfl, fun _ => rfl, fun _ => rfl, fun _ => rfl, fun _ => rfl, fun _ => rfl, fun _ => rfl, fun _ => rfl, fun _ => rfl, fun _ => rfl, fun _ => rfl, fun _ => rfl, fun _ => rfl, fun _ => rfl, fun _ => rfl, fun _ => rfl, fun _ => rfl, fun _ => rfl, fun _ => rfl, fun _ => rfl, fun _ => rfl, fun _ => rfl⟩)

theorem draw_touch {s : State} (h_free : W.free = true) (hs : ChangesOnly W s₀ s) :
    ChangesOnly W s₀ (draw s) := by
  unfold draw
  repeat' first
    | with_reducible assumption
    | fail_if_no_progress (with_reducible refine touch_mk ?_ ⟨rfl, rfl, off_of_on h_free, fun _ => rfl, fun _ => rfl, fun _ => rfl, fun _ => rfl, fun _ => rfl, fun _ => rfl, fun _ => rfl, fun _ => rfl, fun _ => rfl, fun _ => rfl, fun _ => rfl, fun _ => rfl, fun _ => rfl, fun _ => rfl, fun _ => rfl, fun _ => rfl, fun _ => rfl, fun _ => rfl, fun _ => rfl, fun _ => rfl, fun _ => rfl, fun _ => rfl, fun _ => rfl, fun _ => rfl, fun _ => rfl, fun _ => rfl, fun _ => rfl, fun _ => rfl, fun _ => rfl, fun _ => rfl⟩)

theorem modTile_touch {s : State} {t : Nat} {f : TileState → TileState} (h_tiles : W.tiles = true) (hs : ChangesOnly W s₀ s) :
    ChangesOnly W s₀ (modTile s t f) := by
  unfold modTile
  repeat' first
    | with_reducible assumption
    | fail_if_no_progress (with_reducible refine touch_mk ?_ ⟨rfl, rfl, fun _ => rfl, fun _ => rfl, fun _ => rfl, fun _ => rfl, fun _ => rfl, fun _ => rfl, off_of_on h_tiles, fun _ => rfl, fun _ => rfl, fun _ => rfl, fun _ => rfl, fun _ => rfl, fun _ => rfl, fun _ => rfl, fun _ => rfl, fun _ => rfl, fun _ => rfl, fun _ => rfl, fun _ => rfl, fun _ => rfl, fun _ => rfl, fun _ => rfl, fun _ => rfl, fun _ => rfl, fun _ => rfl, fun _ => rfl, fun _ => rfl, fun _ => rfl, fun _ => rfl, fun _ => rfl, fun _ => rfl⟩)

theorem modArr_touch {s : State} {k : Nat} {f : ArrayState → ArrayState} (h_arrays : W.arrays = true) (hs : ChangesOnly W s₀ s) :
    ChangesOnly W s₀ (modArr s k f) := by
  unfold modArr
  repeat' first
    | with_reducible assumption
    | fail_if_no_progress (with_reducible refine touch_mk ?_ ⟨rfl, rfl, fun _ => rfl, fun _ => rfl, fun _ => rfl, fun _ => rfl, fun _ => rfl, fun _ => rfl, fun _ => rfl, off_of_on h_arrays, fun _ => rfl, fun _ => rfl, fun _ => rfl, fun _ => rfl, fun _ => rfl, fun _ => rfl, fun _ => rfl, fun _ => rfl, fun _ => rfl, fun _ => rfl, fun _ => rfl, fun _ => rfl, fun _ => rfl, fun _ => rfl, fun _ => rfl, fun _ => rfl, fun _ => rfl, fun _ => rfl, fun _ => rfl, fun _ => rfl, fun _ => rfl, fun _ => rfl, fun _ => rfl⟩)

theorem modLink_touch {s : State} {l : Nat} {f : LinkState → LinkState} (h_wire : W.wire = true) (hs : ChangesOnly W s₀ s) :
    ChangesOnly W s₀ (modLink s l f) := by
  unfold modLink
  repeat' first
    | with_reducible assumption
    | fail_if_no_progress (with_reducible refine touch_mk ?_ ⟨rfl, rfl, fun _ => rfl, fun _ => rfl, fun _ => rfl, fun _ => rfl, fun _ => rfl, fun _ => rfl, fun _ => rfl, fun _ => rfl, fun _ => rfl, fun _ => rfl, fun _ => rfl, fun _ => rfl, fun _ => rfl, fun _ => rfl, fun _ => rfl, off_of_on h_wire, fun _ => rfl, fun _ => rfl, fun _ => rfl, fun _ => rfl, fun _ => rfl, fun _ => rfl, fun _ => rfl, fun _ => rfl, fun _ => rfl, fun _ => rfl, fun _ => rfl, fun _ => rfl, fun _ => rfl, fun _ => rfl, fun _ => rfl⟩)

theorem modGroup_touch {s : State} {d : Nat} {f : GroupState → GroupState} (h_wire : W.wire = true) (hs : ChangesOnly W s₀ s) :
    ChangesOnly W s₀ (modGroup s d f) := by
  unfold modGroup
  repeat' first
    | with_reducible assumption
    | fail_if_no_progress (with_reducible refine touch_mk ?_ ⟨rfl, rfl, fun _ => rfl, fun _ => rfl, fun _ => rfl, fun _ => rfl, fun _ => rfl, fun _ => rfl, fun _ => rfl, fun _ => rfl, fun _ => rfl, fun _ => rfl, fun _ => rfl, fun _ => rfl, fun _ => rfl, fun _ => rfl, fun _ => rfl, off_of_on h_wire, fun _ => rfl, fun _ => rfl, fun _ => rfl, fun _ => rfl, fun _ => rfl, fun _ => rfl, fun _ => rfl, fun _ => rfl, fun _ => rfl, fun _ => rfl, fun _ => rfl, fun _ => rfl, fun _ => rfl, fun _ => rfl, fun _ => rfl⟩)

theorem modStack_touch {s : State} {k : Nat} {f : StackCounts → StackCounts} (h_hbm : W.hbm = true) (hs : ChangesOnly W s₀ s) :
    ChangesOnly W s₀ (modStack s k f) := by
  unfold modStack
  repeat' first
    | with_reducible assumption
    | fail_if_no_progress (with_reducible refine touch_mk ?_ ⟨rfl, rfl, fun _ => rfl, fun _ => rfl, fun _ => rfl, fun _ => rfl, fun _ => rfl, fun _ => rfl, fun _ => rfl, fun _ => rfl, fun _ => rfl, fun _ => rfl, off_of_on h_hbm, fun _ => rfl, fun _ => rfl, fun _ => rfl, fun _ => rfl, fun _ => rfl, fun _ => rfl, fun _ => rfl, fun _ => rfl, fun _ => rfl, fun _ => rfl, fun _ => rfl, fun _ => rfl, fun _ => rfl, fun _ => rfl, fun _ => rfl, fun _ => rfl, fun _ => rfl, fun _ => rfl, fun _ => rfl, fun _ => rfl⟩)

theorem modEngine_touch {s : State} {k : Nat} {f : UpdEngine → UpdEngine} (h_upd : W.upd = true) (hs : ChangesOnly W s₀ s) :
    ChangesOnly W s₀ (modEngine s k f) := by
  unfold modEngine
  repeat' first
    | with_reducible assumption
    | fail_if_no_progress (with_reducible refine touch_mk ?_ ⟨rfl, rfl, fun _ => rfl, fun _ => rfl, fun _ => rfl, fun _ => rfl, fun _ => rfl, fun _ => rfl, fun _ => rfl, fun _ => rfl, fun _ => rfl, fun _ => rfl, fun _ => rfl, fun _ => rfl, fun _ => rfl, off_of_on h_upd, fun _ => rfl, fun _ => rfl, fun _ => rfl, fun _ => rfl, fun _ => rfl, fun _ => rfl, fun _ => rfl, fun _ => rfl, fun _ => rfl, fun _ => rfl, fun _ => rfl, fun _ => rfl, fun _ => rfl, fun _ => rfl, fun _ => rfl, fun _ => rfl, fun _ => rfl⟩)

theorem active_touch {s : State} {block : Nat} {code : Nat} {n : Nat} (h_traffic : W.traffic = true) (hs : ChangesOnly W s₀ s) :
    ChangesOnly W s₀ (active s block code n) := by
  unfold active
  repeat' first
    | with_reducible assumption
    | fail_if_no_progress (with_reducible refine touch_mk ?_ ⟨rfl, rfl, fun _ => rfl, fun _ => rfl, fun _ => rfl, fun _ => rfl, fun _ => rfl, fun _ => rfl, fun _ => rfl, fun _ => rfl, fun _ => rfl, fun _ => rfl, fun _ => rfl, fun _ => rfl, fun _ => rfl, fun _ => rfl, fun _ => rfl, fun _ => rfl, fun _ => rfl, fun _ => rfl, fun _ => rfl, fun _ => rfl, fun _ => rfl, off_of_on h_traffic, fun _ => rfl, fun _ => rfl, fun _ => rfl, fun _ => rfl, fun _ => rfl, fun _ => rfl, fun _ => rfl, fun _ => rfl, fun _ => rfl⟩)

theorem portBytes_touch {s : State} {port : Nat} {n : Nat} (h_traffic : W.traffic = true) (hs : ChangesOnly W s₀ s) :
    ChangesOnly W s₀ (portBytes s port n) := by
  unfold portBytes
  repeat' first
    | with_reducible assumption
    | fail_if_no_progress (with_reducible refine touch_mk ?_ ⟨rfl, rfl, fun _ => rfl, fun _ => rfl, fun _ => rfl, fun _ => rfl, fun _ => rfl, fun _ => rfl, fun _ => rfl, fun _ => rfl, fun _ => rfl, fun _ => rfl, fun _ => rfl, fun _ => rfl, fun _ => rfl, fun _ => rfl, fun _ => rfl, fun _ => rfl, fun _ => rfl, fun _ => rfl, fun _ => rfl, fun _ => rfl, fun _ => rfl, off_of_on h_traffic, fun _ => rfl, fun _ => rfl, fun _ => rfl, fun _ => rfl, fun _ => rfl, fun _ => rfl, fun _ => rfl, fun _ => rfl, fun _ => rfl⟩)

theorem sendMgmt_touch {s : State} {m : OutMsg} {bytes : Nat} (h_traffic : W.traffic = true) (h_outbox : W.outbox = true) (hs : ChangesOnly W s₀ s) :
    ChangesOnly W s₀ (sendMgmt s m bytes) := by
  unfold sendMgmt
  repeat' first
    | with_reducible assumption
    | fail_if_no_progress (with_reducible refine touch_mk ?_ ⟨rfl, rfl, fun _ => rfl, fun _ => rfl, fun _ => rfl, fun _ => rfl, fun _ => rfl, fun _ => rfl, fun _ => rfl, fun _ => rfl, fun _ => rfl, fun _ => rfl, fun _ => rfl, fun _ => rfl, fun _ => rfl, fun _ => rfl, fun _ => rfl, fun _ => rfl, fun _ => rfl, fun _ => rfl, fun _ => rfl, fun _ => rfl, fun _ => rfl, fun _ => rfl, fun _ => rfl, fun _ => rfl, fun _ => rfl, fun _ => rfl, fun _ => rfl, off_of_on h_outbox, fun _ => rfl, fun _ => rfl, fun _ => rfl⟩)
    | with_reducible refine portBytes_touch h_traffic ?_

theorem sendEvents_touch {s : State} {recs : List EventRec} (h_traffic : W.traffic = true) (h_outbox : W.outbox = true) (hs : ChangesOnly W s₀ s) :
    ChangesOnly W s₀ (sendEvents s recs) := by
  unfold sendEvents
  repeat' first
    | with_reducible assumption
    | with_reducible refine sendMgmt_touch h_traffic h_outbox ?_
    | with_reducible refine touch_ite (fun _ => ?_) (fun _ => ?_)
    | split

theorem msiEvent_touch {s : State} (h_ev : W.ev = true) (h_outbox : W.outbox = true) (hs : ChangesOnly W s₀ s) :
    ChangesOnly W s₀ (msiEvent s) := by
  unfold msiEvent
  repeat' first
    | with_reducible assumption
    | fail_if_no_progress (with_reducible refine touch_mk ?_ ⟨rfl, rfl, fun _ => rfl, fun _ => rfl, fun _ => rfl, fun _ => rfl, fun _ => rfl, fun _ => rfl, fun _ => rfl, fun _ => rfl, fun _ => rfl, fun _ => rfl, fun _ => rfl, fun _ => rfl, fun _ => rfl, fun _ => rfl, fun _ => rfl, fun _ => rfl, fun _ => rfl, fun _ => rfl, fun _ => rfl, fun _ => rfl, fun _ => rfl, fun _ => rfl, fun _ => rfl, fun _ => rfl, fun _ => rfl, off_of_on h_ev, fun _ => rfl, off_of_on h_outbox, fun _ => rfl, fun _ => rfl, fun _ => rfl⟩)
    | with_reducible refine touch_ite (fun _ => ?_) (fun _ => ?_)

theorem storeEvent_touch {s : State} {e : EventRec} (h_traffic : W.traffic = true) (h_ev : W.ev = true) (h_outbox : W.outbox = true) (hs : ChangesOnly W s₀ s) :
    ChangesOnly W s₀ (storeEvent s e) := by
  unfold storeEvent
  repeat' first
    | with_reducible assumption
    | fail_if_no_progress (with_reducible refine touch_mk ?_ ⟨rfl, rfl, fun _ => rfl, fun _ => rfl, fun _ => rfl, fun _ => rfl, fun _ => rfl, fun _ => rfl, fun _ => rfl, fun _ => rfl, fun _ => rfl, fun _ => rfl, fun _ => rfl, fun _ => rfl, fun _ => rfl, fun _ => rfl, fun _ => rfl, fun _ => rfl, fun _ => rfl, fun _ => rfl, fun _ => rfl, fun _ => rfl, fun _ => rfl, fun _ => rfl, fun _ => rfl, fun _ => rfl, fun _ => rfl, off_of_on h_ev, fun _ => rfl, fun _ => rfl, fun _ => rfl, fun _ => rfl, fun _ => rfl⟩)
    | with_reducible refine msiEvent_touch h_ev h_outbox ?_
    | with_reducible refine sendEvents_touch h_traffic h_outbox ?_

theorem raise_touch {s : State} {code : Nat} {u : UnitRef} {level : Nat} {ps : List Nat} (h_traffic : W.traffic = true) (h_ev : W.ev = true) (h_outbox : W.outbox = true) (hs : ChangesOnly W s₀ s) :
    ChangesOnly W s₀ (raise s code u level ps) := by
  unfold raise
  repeat' first
    | with_reducible assumption
    | fail_if_no_progress (with_reducible refine touch_mk ?_ ⟨rfl, rfl, fun _ => rfl, fun _ => rfl, fun _ => rfl, fun _ => rfl, fun _ => rfl, fun _ => rfl, fun _ => rfl, fun _ => rfl, fun _ => rfl, fun _ => rfl, fun _ => rfl, fun _ => rfl, fun _ => rfl, fun _ => rfl, fun _ => rfl, fun _ => rfl, fun _ => rfl, fun _ => rfl, fun _ => rfl, fun _ => rfl, fun _ => rfl, fun _ => rfl, fun _ => rfl, fun _ => rfl, fun _ => rfl, off_of_on h_ev, fun _ => rfl, fun _ => rfl, fun _ => rfl, fun _ => rfl, fun _ => rfl⟩)
    | with_reducible refine storeEvent_touch h_traffic h_ev h_outbox ?_
    | with_reducible refine touch_ite (fun _ => ?_) (fun _ => ?_)

theorem raiseOnce_touch {s : State} {n : Nat} {code : Nat} {u : UnitRef} {level : Nat} {ps : List Nat} (h_traffic : W.traffic = true) (h_ev : W.ev = true) (h_outbox : W.outbox = true) (hs : ChangesOnly W s₀ s) :
    ChangesOnly W s₀ (raiseOnce s n code u level ps) := by
  unfold raiseOnce
  repeat' first
    | with_reducible assumption
    | fail_if_no_progress (with_reducible refine touch_mk ?_ ⟨rfl, rfl, fun _ => rfl, fun _ => rfl, fun _ => rfl, fun _ => rfl, fun _ => rfl, fun _ => rfl, fun _ => rfl, fun _ => rfl, fun _ => rfl, fun _ => rfl, fun _ => rfl, fun _ => rfl, fun _ => rfl, fun _ => rfl, fun _ => rfl, fun _ => rfl, fun _ => rfl, fun _ => rfl, fun _ => rfl, fun _ => rfl, fun _ => rfl, fun _ => rfl, fun _ => rfl, fun _ => rfl, fun _ => rfl, off_of_on h_ev, fun _ => rfl, fun _ => rfl, fun _ => rfl, fun _ => rfl, fun _ => rfl⟩)
    | with_reducible refine raise_touch h_traffic h_ev h_outbox ?_
    | with_reducible refine touch_ite (fun _ => ?_) (fun _ => ?_)

theorem modHealth_touch {s : State} {u : UnitRef} {f : HealthRec → HealthRec} (h_hl : W.hl = true) (hs : ChangesOnly W s₀ s) :
    ChangesOnly W s₀ (modHealth s u f) := by
  unfold modHealth
  repeat' first
    | with_reducible assumption
    | fail_if_no_progress (with_reducible refine touch_mk ?_ ⟨rfl, rfl, fun _ => rfl, fun _ => rfl, fun _ => rfl, fun _ => rfl, fun _ => rfl, fun _ => rfl, fun _ => rfl, fun _ => rfl, fun _ => rfl, fun _ => rfl, fun _ => rfl, fun _ => rfl, fun _ => rfl, fun _ => rfl, fun _ => rfl, fun _ => rfl, fun _ => rfl, fun _ => rfl, fun _ => rfl, fun _ => rfl, fun _ => rfl, fun _ => rfl, fun _ => rfl, fun _ => rfl, fun _ => rfl, fun _ => rfl, off_of_on h_hl, fun _ => rfl, fun _ => rfl, fun _ => rfl, fun _ => rfl⟩)

theorem setUnitState_touch {s : State} {u : UnitRef} {st : UnitState} {code : Nat} (h_hl : W.hl = true) (hs : ChangesOnly W s₀ s) :
    ChangesOnly W s₀ (setUnitState s u st code) := by
  unfold setUnitState
  repeat' first
    | with_reducible assumption
    | with_reducible refine modHealth_touch h_hl ?_

theorem charge_touch {s : State} {u : UnitRef} {kind : Nat} {counted : Bool} {nominal : Bool} {code : Nat} (h_traffic : W.traffic = true) (h_ev : W.ev = true) (h_hl : W.hl = true) (h_outbox : W.outbox = true) (hs : ChangesOnly W s₀ s) :
    ChangesOnly W s₀ (charge s u kind counted nominal code) := by
  unfold charge
  repeat' first
    | with_reducible assumption
    | fail_if_no_progress (with_reducible refine touch_mk ?_ ⟨rfl, rfl, fun _ => rfl, fun _ => rfl, fun _ => rfl, fun _ => rfl, fun _ => rfl, fun _ => rfl, fun _ => rfl, fun _ => rfl, fun _ => rfl, fun _ => rfl, fun _ => rfl, fun _ => rfl, fun _ => rfl, fun _ => rfl, fun _ => rfl, fun _ => rfl, fun _ => rfl, fun _ => rfl, fun _ => rfl, fun _ => rfl, fun _ => rfl, fun _ => rfl, fun _ => rfl, fun _ => rfl, fun _ => rfl, fun _ => rfl, off_of_on h_hl, fun _ => rfl, fun _ => rfl, fun _ => rfl, fun _ => rfl⟩)
    | with_reducible refine modHealth_touch h_hl ?_
    | with_reducible refine raise_touch h_traffic h_ev h_outbox ?_
    | with_reducible refine setUnitState_touch h_hl ?_
    | with_reducible refine touch_ite (fun _ => ?_) (fun _ => ?_)

theorem raiseCharged_touch {s : State} {code : Nat} {u : UnitRef} {level : Nat} {ps : List Nat} {kind : Nat} {counted : Bool} (h_traffic : W.traffic = true) (h_ev : W.ev = true) (h_hl : W.hl = true) (h_outbox : W.outbox = true) (hs : ChangesOnly W s₀ s) :
    ChangesOnly W s₀ (raiseCharged s code u level ps kind counted) := by
  unfold raiseCharged
  repeat' first
    | with_reducible assumption
    | with_reducible refine charge_touch h_traffic h_ev h_hl h_outbox ?_
    | with_reducible refine raise_touch h_traffic h_ev h_outbox ?_

theorem modGen_touch {s : State} {gen : Nat} {f : PlanFrame → PlanFrame} (h_runs : W.runs = true) (hs : ChangesOnly W s₀ s) :
    ChangesOnly W s₀ (modGen s gen f) := by
  unfold modGen
  repeat' first
    | with_reducible assumption
    | fail_if_no_progress (with_reducible refine touch_mk ?_ ⟨rfl, rfl, fun _ => rfl, fun _ => rfl, off_of_on h_runs, fun _ => rfl, fun _ => rfl, fun _ => rfl, fun _ => rfl, fun _ => rfl, fun _ => rfl, fun _ => rfl, fun _ => rfl, fun _ => rfl, fun _ => rfl, fun _ => rfl, fun _ => rfl, fun _ => rfl, fun _ => rfl, fun _ => rfl, fun _ => rfl, fun _ => rfl, fun _ => rfl, fun _ => rfl, fun _ => rfl, fun _ => rfl, fun _ => rfl, fun _ => rfl, fun _ => rfl, fun _ => rfl, fun _ => rfl, fun _ => rfl, fun _ => rfl⟩)

theorem tally_touch {s : State} {gen : Nat} {t : Nat} {f : TileCounts → TileCounts} (h_runs : W.runs = true) (hs : ChangesOnly W s₀ s) :
    ChangesOnly W s₀ (tally s gen t f) := by
  unfold tally
  repeat' first
    | with_reducible assumption
    | with_reducible refine modGen_touch h_runs ?_

theorem noteLevel_touch {s : State} {gen : Nat} {t : Option Nat} {level : Nat} (h_runs : W.runs = true) (hs : ChangesOnly W s₀ s) :
    ChangesOnly W s₀ (noteLevel s gen t level) := by
  unfold noteLevel
  repeat' first
    | with_reducible assumption
    | with_reducible refine modGen_touch h_runs ?_

theorem addExc_touch {s : State} {gen : Nat} {e : ExcEntry} (h_runs : W.runs = true) (hs : ChangesOnly W s₀ s) :
    ChangesOnly W s₀ (addExc s gen e) := by
  unfold addExc
  repeat' first
    | with_reducible assumption
    | with_reducible refine modGen_touch h_runs ?_

theorem countCorrected_touch {s : State} (h_runs : W.runs = true) (hs : ChangesOnly W s₀ s) :
    ChangesOnly W s₀ (countCorrected s) := by
  unfold countCorrected
  repeat' first
    | with_reducible assumption
    | fail_if_no_progress (with_reducible refine touch_mk ?_ ⟨rfl, rfl, fun _ => rfl, fun _ => rfl, off_of_on h_runs, fun _ => rfl, fun _ => rfl, fun _ => rfl, fun _ => rfl, fun _ => rfl, fun _ => rfl, fun _ => rfl, fun _ => rfl, fun _ => rfl, fun _ => rfl, fun _ => rfl, fun _ => rfl, fun _ => rfl, fun _ => rfl, fun _ => rfl, fun _ => rfl, fun _ => rfl, fun _ => rfl, fun _ => rfl, fun _ => rfl, fun _ => rfl, fun _ => rfl, fun _ => rfl, fun _ => rfl, fun _ => rfl, fun _ => rfl, fun _ => rfl, fun _ => rfl⟩)

theorem relay_touch {s : State} {e : SyncEvent} {links : List Nat} (h_sync : W.sync = true) (hs : ChangesOnly W s₀ s) :
    ChangesOnly W s₀ (relay s e links) := by
  unfold relay
  repeat' first
    | with_reducible assumption
    | fail_if_no_progress (with_reducible refine touch_mk ?_ ⟨rfl, rfl, fun _ => rfl, fun _ => rfl, fun _ => rfl, fun _ => rfl, fun _ => rfl, fun _ => rfl, fun _ => rfl, fun _ => rfl, fun _ => rfl, fun _ => rfl, fun _ => rfl, fun _ => rfl, fun _ => rfl, fun _ => rfl, fun _ => rfl, fun _ => rfl, off_of_on h_sync, fun _ => rfl, fun _ => rfl, fun _ => rfl, fun _ => rfl, fun _ => rfl, fun _ => rfl, fun _ => rfl, fun _ => rfl, fun _ => rfl, fun _ => rfl, fun _ => rfl, fun _ => rfl, fun _ => rfl, fun _ => rfl⟩)

theorem flood_touch {s : State} {k : SyncKind} {frame : Nat} {payload : Nat} (h_sync : W.sync = true) (hs : ChangesOnly W s₀ s) :
    ChangesOnly W s₀ (flood s k frame payload) := by
  unfold flood
  repeat' first
    | with_reducible assumption
    | fail_if_no_progress (with_reducible refine touch_mk ?_ ⟨rfl, rfl, fun _ => rfl, fun _ => rfl, fun _ => rfl, fun _ => rfl, fun _ => rfl, fun _ => rfl, fun _ => rfl, fun _ => rfl, fun _ => rfl, fun _ => rfl, fun _ => rfl, fun _ => rfl, fun _ => rfl, fun _ => rfl, fun _ => rfl, fun _ => rfl, off_of_on h_sync, fun _ => rfl, fun _ => rfl, fun _ => rfl, fun _ => rfl, fun _ => rfl, fun _ => rfl, fun _ => rfl, fun _ => rfl, fun _ => rfl, fun _ => rfl, fun _ => rfl, fun _ => rfl, fun _ => rfl, fun _ => rfl⟩)
    | with_reducible refine relay_touch h_sync ?_
    | with_reducible refine touch_ite (fun _ => ?_) (fun _ => ?_)

theorem floodExpel_touch {s : State} {rank : Nat} (h_sync : W.sync = true) (hs : ChangesOnly W s₀ s) :
    ChangesOnly W s₀ (floodExpel s rank) := by
  unfold floodExpel
  repeat' first
    | with_reducible assumption
    | fail_if_no_progress (with_reducible refine touch_mk ?_ ⟨rfl, rfl, fun _ => rfl, fun _ => rfl, fun _ => rfl, fun _ => rfl, fun _ => rfl, fun _ => rfl, fun _ => rfl, fun _ => rfl, fun _ => rfl, fun _ => rfl, fun _ => rfl, fun _ => rfl, fun _ => rfl, fun _ => rfl, fun _ => rfl, fun _ => rfl, off_of_on h_sync, fun _ => rfl, fun _ => rfl, fun _ => rfl, fun _ => rfl, fun _ => rfl, fun _ => rfl, fun _ => rfl, fun _ => rfl, fun _ => rfl, fun _ => rfl, fun _ => rfl, fun _ => rfl, fun _ => rfl, fun _ => rfl⟩)
    | with_reducible refine flood_touch h_sync ?_

theorem takeL3_touch {s : State} {code : Nat} {u : UnitRef} {ps : List Nat} (h_runs : W.runs = true) (h_sync : W.sync = true) (h_traffic : W.traffic = true) (h_ev : W.ev = true) (h_outbox : W.outbox = true) (hs : ChangesOnly W s₀ s) :
    ChangesOnly W s₀ (takeL3 s code u ps) := by
  unfold takeL3
  repeat' first
    | with_reducible assumption
    | fail_if_no_progress (with_reducible refine touch_mk ?_ ⟨rfl, rfl, fun _ => rfl, fun _ => rfl, off_of_on h_runs, fun _ => rfl, fun _ => rfl, fun _ => rfl, fun _ => rfl, fun _ => rfl, fun _ => rfl, fun _ => rfl, fun _ => rfl, fun _ => rfl, fun _ => rfl, fun _ => rfl, fun _ => rfl, fun _ => rfl, fun _ => rfl, fun _ => rfl, fun _ => rfl, fun _ => rfl, fun _ => rfl, fun _ => rfl, fun _ => rfl, fun _ => rfl, fun _ => rfl, fun _ => rfl, fun _ => rfl, fun _ => rfl, fun _ => rfl, fun _ => rfl, fun _ => rfl⟩)
    | with_reducible refine raise_touch h_traffic h_ev h_outbox ?_
    | with_reducible refine floodExpel_touch h_sync ?_
    | split
    | (dsimp only; split)

theorem setMark_touch {s : State} {line : Nat} {m : Option PoisonMark} (h_hbm : W.hbm = true) (hs : ChangesOnly W s₀ s) :
    ChangesOnly W s₀ (setMark s line m) := by
  unfold setMark
  repeat' first
    | with_reducible assumption
    | fail_if_no_progress (with_reducible refine touch_mk ?_ ⟨rfl, rfl, fun _ => rfl, fun _ => rfl, fun _ => rfl, fun _ => rfl, fun _ => rfl, fun _ => rfl, fun _ => rfl, fun _ => rfl, fun _ => rfl, fun _ => rfl, off_of_on h_hbm, fun _ => rfl, fun _ => rfl, fun _ => rfl, fun _ => rfl, fun _ => rfl, fun _ => rfl, fun _ => rfl, fun _ => rfl, fun _ => rfl, fun _ => rfl, fun _ => rfl, fun _ => rfl, fun _ => rfl, fun _ => rfl, fun _ => rfl, fun _ => rfl, fun _ => rfl, fun _ => rfl, fun _ => rfl, fun _ => rfl⟩)
    | split

theorem putLine_touch {s : State} {line : Nat} {data : List Byte} {m : Option PoisonMark} (h_hbm : W.hbm = true) (hs : ChangesOnly W s₀ s) :
    ChangesOnly W s₀ (putLine s line data m) := by
  unfold putLine
  repeat' first
    | with_reducible assumption
    | fail_if_no_progress (with_reducible refine touch_mk ?_ ⟨rfl, rfl, fun _ => rfl, fun _ => rfl, fun _ => rfl, fun _ => rfl, fun _ => rfl, fun _ => rfl, fun _ => rfl, fun _ => rfl, fun _ => rfl, fun _ => rfl, off_of_on h_hbm, fun _ => rfl, fun _ => rfl, fun _ => rfl, fun _ => rfl, fun _ => rfl, fun _ => rfl, fun _ => rfl, fun _ => rfl, fun _ => rfl, fun _ => rfl, fun _ => rfl, fun _ => rfl, fun _ => rfl, fun _ => rfl, fun _ => rfl, fun _ => rfl, fun _ => rfl, fun _ => rfl, fun _ => rfl, fun _ => rfl⟩)
    | with_reducible refine setMark_touch h_hbm ?_

theorem stackRead_touch {s : State} {k : Nat} {n : Nat} (h_traffic : W.traffic = true) (hs : ChangesOnly W s₀ s) :
    ChangesOnly W s₀ (stackRead s k n) := by
  unfold stackRead
  repeat' first
    | with_reducible assumption
    | with_reducible refine portBytes_touch h_traffic ?_
    | with_reducible refine active_touch h_traffic ?_

theorem stackWritten_touch {s : State} {k : Nat} {n : Nat} (h_traffic : W.traffic = true) (hs : ChangesOnly W s₀ s) :
    ChangesOnly W s₀ (stackWritten s k n) := by
  unfold stackWritten
  repeat' first
    | with_reducible assumption
    | with_reducible refine portBytes_touch h_traffic ?_
    | with_reducible refine active_touch h_traffic ?_

theorem saveLine_touch {s : State} {gen : Nat} {line : Nat} (h_hbm : W.hbm = true) (h_traffic : W.traffic = true) (hs : ChangesOnly W s₀ s) :
    ChangesOnly W s₀ (saveLine s gen line) := by
  unfold saveLine
  repeat' first
    | with_reducible assumption
    | fail_if_no_progress (with_reducible refine touch_mk ?_ ⟨rfl, rfl, fun _ => rfl, fun _ => rfl, fun _ => rfl, fun _ => rfl, fun _ => rfl, fun _ => rfl, fun _ => rfl, fun _ => rfl, fun _ => rfl, fun _ => rfl, off_of_on h_hbm, fun _ => rfl, fun _ => rfl, fun _ => rfl, fun _ => rfl, fun _ => rfl, fun _ => rfl, fun _ => rfl, fun _ => rfl, fun _ => rfl, fun _ => rfl, fun _ => rfl, fun _ => rfl, fun _ => rfl, fun _ => rfl, fun _ => rfl, fun _ => rfl, fun _ => rfl, fun _ => rfl, fun _ => rfl, fun _ => rfl⟩)
    | with_reducible refine active_touch h_traffic ?_
    | with_reducible refine modStack_touch h_hbm ?_
    | with_reducible refine touch_ite (fun _ => ?_) (fun _ => ?_)

theorem writeLine_touch {s : State} {mode : WriteMode} {line : Nat} {a : Nat} {bytes : List Byte} {poison : Option (Nat × Nat)} (h_hbm : W.hbm = true) (h_traffic : W.traffic = true) (hs : ChangesOnly W s₀ s) :
    ChangesOnly W s₀ (writeLine s mode line a bytes poison) := by
  unfold writeLine
  repeat' first
    | with_reducible assumption
    | fail_if_no_progress (with_reducible refine touch_mk ?_ ⟨rfl, rfl, fun _ => rfl, fun _ => rfl, fun _ => rfl, fun _ => rfl, fun _ => rfl, fun _ => rfl, fun _ => rfl, fun _ => rfl, fun _ => rfl, fun _ => rfl, off_of_on h_hbm, fun _ => rfl, fun _ => rfl, fun _ => rfl, fun _ => rfl, fun _ => rfl, fun _ => rfl, fun _ => rfl, fun _ => rfl, fun _ => rfl, fun _ => rfl, fun _ => rfl, fun _ => rfl, fun _ => rfl, fun _ => rfl, fun _ => rfl, fun _ => rfl, fun _ => rfl, fun _ => rfl, fun _ => rfl, fun _ => rfl⟩)
    | with_reducible refine saveLine_touch h_hbm h_traffic ?_
    | with_reducible refine stackWritten_touch h_traffic ?_
    | with_reducible refine active_touch h_traffic ?_
    | with_reducible refine stackRead_touch h_traffic ?_
    | with_reducible refine putLine_touch h_hbm ?_
    | with_reducible refine touch_ite (fun _ => ?_) (fun _ => ?_)
    | split

theorem writeHbm_touch {s : State} {mode : WriteMode} {a : Nat} {bytes : List Byte} {poison : Nat → Option (Nat × Nat)} (h_hbm : W.hbm = true) (h_traffic : W.traffic = true) (hs : ChangesOnly W s₀ s) :
    ChangesOnly W s₀ (writeHbm s mode a bytes poison) := by
  unfold writeHbm
  repeat' first
    | with_reducible assumption
    | with_reducible refine writeLine_touch h_hbm h_traffic ?_
    | with_reducible refine touch_foldl ?_ (fun _ _ _ => ?_)

theorem saveRow_touch {s : State} {gen : Nat} {line : Nat} (h_tileMem : W.tileMem = true) (hs : ChangesOnly W s₀ s) :
    ChangesOnly W s₀ (saveRow s gen line) := by
  unfold saveRow
  repeat' first
    | with_reducible assumption
    | fail_if_no_progress (with_reducible refine touch_mk ?_ ⟨rfl, rfl, fun _ => rfl, fun _ => rfl, fun _ => rfl, fun _ => rfl, fun _ => rfl, fun _ => rfl, fun _ => rfl, fun _ => rfl, fun _ => rfl, fun _ => rfl, fun _ => rfl, off_of_on h_tileMem, fun _ => rfl, fun _ => rfl, fun _ => rfl, fun _ => rfl, fun _ => rfl, fun _ => rfl, fun _ => rfl, fun _ => rfl, fun _ => rfl, fun _ => rfl, fun _ => rfl, fun _ => rfl, fun _ => rfl, fun _ => rfl, fun _ => rfl, fun _ => rfl, fun _ => rfl, fun _ => rfl, fun _ => rfl⟩)
    | with_reducible refine touch_ite (fun _ => ?_) (fun _ => ?_)

theorem writeRow_touch {s : State} {gen : Option Nat} {line : Nat} {a : Nat} {bytes : List Byte} {poison : Option (Nat × Nat)} (h_tileMem : W.tileMem = true) (hs : ChangesOnly W s₀ s) :
    ChangesOnly W s₀ (writeRow s gen line a bytes poison) := by
  unfold writeRow
  repeat' first
    | with_reducible assumption
    | fail_if_no_progress (with_reducible refine touch_mk ?_ ⟨rfl, rfl, fun _ => rfl, fun _ => rfl, fun _ => rfl, fun _ => rfl, fun _ => rfl, fun _ => rfl, fun _ => rfl, fun _ => rfl, fun _ => rfl, fun _ => rfl, fun _ => rfl, off_of_on h_tileMem, fun _ => rfl, fun _ => rfl, fun _ => rfl, fun _ => rfl, fun _ => rfl, fun _ => rfl, fun _ => rfl, fun _ => rfl, fun _ => rfl, fun _ => rfl, fun _ => rfl, fun _ => rfl, fun _ => rfl, fun _ => rfl, fun _ => rfl, fun _ => rfl, fun _ => rfl, fun _ => rfl, fun _ => rfl⟩)
    | with_reducible refine saveRow_touch h_tileMem ?_
    | with_reducible refine touch_ite (fun _ => ?_) (fun _ => ?_)
    | split

theorem writeTile_touch {s : State} {gen : Option Nat} {t : Nat} {off : Nat} {bytes : List Byte} {poison : Nat → Option (Nat × Nat)} (h_tileMem : W.tileMem = true) (hs : ChangesOnly W s₀ s) :
    ChangesOnly W s₀ (writeTile s gen t off bytes poison) := by
  unfold writeTile
  repeat' first
    | with_reducible assumption
    | with_reducible refine writeRow_touch h_tileMem ?_
    | with_reducible refine touch_foldl ?_ (fun _ _ _ => ?_)

theorem restoreGen_touch {s : State} {gen : Nat} (h_hbm : W.hbm = true) (h_tileMem : W.tileMem = true) (hs : ChangesOnly W s₀ s) :
    ChangesOnly W s₀ (restoreGen s gen) := by
  unfold restoreGen
  repeat' first
    | with_reducible assumption
    | fail_if_no_progress (with_reducible refine touch_mk ?_ ⟨rfl, rfl, fun _ => rfl, fun _ => rfl, fun _ => rfl, fun _ => rfl, fun _ => rfl, fun _ => rfl, fun _ => rfl, fun _ => rfl, fun _ => rfl, fun _ => rfl, off_of_on h_hbm, off_of_on h_tileMem, fun _ => rfl, fun _ => rfl, fun _ => rfl, fun _ => rfl, fun _ => rfl, fun _ => rfl, fun _ => rfl, fun _ => rfl, fun _ => rfl, fun _ => rfl, fun _ => rfl, fun _ => rfl, fun _ => rfl, fun _ => rfl, fun _ => rfl, fun _ => rfl, fun _ => rfl, fun _ => rfl, fun _ => rfl⟩)
    | with_reducible refine putLine_touch h_hbm ?_
    | with_reducible refine touch_foldl ?_ (fun _ _ _ => ?_)

theorem dropGen_touch {s : State} {gen : Nat} (h_hbm : W.hbm = true) (h_tileMem : W.tileMem = true) (hs : ChangesOnly W s₀ s) :
    ChangesOnly W s₀ (dropGen s gen) := by
  unfold dropGen
  repeat' first
    | with_reducible assumption
    | fail_if_no_progress (with_reducible refine touch_mk ?_ ⟨rfl, rfl, fun _ => rfl, fun _ => rfl, fun _ => rfl, fun _ => rfl, fun _ => rfl, fun _ => rfl, fun _ => rfl, fun _ => rfl, fun _ => rfl, fun _ => rfl, off_of_on h_hbm, off_of_on h_tileMem, fun _ => rfl, fun _ => rfl, fun _ => rfl, fun _ => rfl, fun _ => rfl, fun _ => rfl, fun _ => rfl, fun _ => rfl, fun _ => rfl, fun _ => rfl, fun _ => rfl, fun _ => rfl, fun _ => rfl, fun _ => rfl, fun _ => rfl, fun _ => rfl, fun _ => rfl, fun _ => rfl, fun _ => rfl⟩)

theorem placeWrite_touch {s : State} {gen : Nat} {p : Place} {bytes : List Byte} {poison : Nat → Option (Nat × Nat)} (h_hbm : W.hbm = true) (h_tileMem : W.tileMem = true) (h_traffic : W.traffic = true) (hs : ChangesOnly W s₀ s) :
    ChangesOnly W s₀ (placeWrite s gen p bytes poison) := by
  unfold placeWrite
  repeat' first
    | with_reducible assumption
    | with_reducible refine writeTile_touch h_tileMem ?_
    | with_reducible refine writeHbm_touch h_hbm h_traffic ?_
    | with_reducible refine touch_ite (fun _ => ?_) (fun _ => ?_)
    | split

theorem restoreUpdate_touch {s : State} {x : UpdSnapshot} (h_upd : W.upd = true) (hs : ChangesOnly W s₀ s) :
    ChangesOnly W s₀ (restoreUpdate s x) := by
  unfold restoreUpdate
  repeat' first
    | with_reducible assumption
    | fail_if_no_progress (with_reducible refine touch_mk ?_ ⟨rfl, rfl, fun _ => rfl, fun _ => rfl, fun _ => rfl, fun _ => rfl, fun _ => rfl, fun _ => rfl, fun _ => rfl, fun _ => rfl, fun _ => rfl, fun _ => rfl, fun _ => rfl, fun _ => rfl, fun _ => rfl, off_of_on h_upd, fun _ => rfl, fun _ => rfl, fun _ => rfl, fun _ => rfl, fun _ => rfl, fun _ => rfl, fun _ => rfl, fun _ => rfl, fun _ => rfl, fun _ => rfl, fun _ => rfl, fun _ => rfl, fun _ => rfl, fun _ => rfl, fun _ => rfl, fun _ => rfl, fun _ => rfl⟩)

theorem dropWork_touch {s : State} {gen : Nat} (h_tiles : W.tiles = true) (h_arrays : W.arrays = true) (h_ops : W.ops = true) (h_upd : W.upd = true) (hs : ChangesOnly W s₀ s) :
    ChangesOnly W s₀ (dropWork s gen) := by
  unfold dropWork
  repeat' first
    | with_reducible assumption
    | fail_if_no_progress (with_reducible refine touch_mk ?_ ⟨rfl, rfl, fun _ => rfl, fun _ => rfl, fun _ => rfl, fun _ => rfl, fun _ => rfl, fun _ => rfl, off_of_on h_tiles, off_of_on h_arrays, fun _ => rfl, off_of_on h_ops, fun _ => rfl, fun _ => rfl, fun _ => rfl, off_of_on h_upd, fun _ => rfl, fun _ => rfl, fun _ => rfl, fun _ => rfl, fun _ => rfl, fun _ => rfl, fun _ => rfl, fun _ => rfl, fun _ => rfl, fun _ => rfl, fun _ => rfl, fun _ => rfl, fun _ => rfl, fun _ => rfl, fun _ => rfl, fun _ => rfl, fun _ => rfl⟩)

theorem discardGen_touch {s : State} {gen : Nat} (h_tiles : W.tiles = true) (h_arrays : W.arrays = true) (h_ops : W.ops = true) (h_hbm : W.hbm = true) (h_tileMem : W.tileMem = true) (h_upd : W.upd = true) (hs : ChangesOnly W s₀ s) :
    ChangesOnly W s₀ (discardGen s gen) := by
  unfold discardGen
  repeat' first
    | with_reducible assumption
    | with_reducible refine restoreGen_touch h_hbm h_tileMem ?_
    | with_reducible refine restoreUpdate_touch h_upd ?_
    | with_reducible refine dropWork_touch h_tiles h_arrays h_ops h_upd ?_
    | split

theorem takeSnapshot_touch {s : State} {gen : Nat} (h_upd : W.upd = true) (hs : ChangesOnly W s₀ s) :
    ChangesOnly W s₀ (takeSnapshot s gen) := by
  unfold takeSnapshot
  repeat' first
    | with_reducible assumption
    | fail_if_no_progress (with_reducible refine touch_mk ?_ ⟨rfl, rfl, fun _ => rfl, fun _ => rfl, fun _ => rfl, fun _ => rfl, fun _ => rfl, fun _ => rfl, fun _ => rfl, fun _ => rfl, fun _ => rfl, fun _ => rfl, fun _ => rfl, fun _ => rfl, fun _ => rfl, off_of_on h_upd, fun _ => rfl, fun _ => rfl, fun _ => rfl, fun _ => rfl, fun _ => rfl, fun _ => rfl, fun _ => rfl, fun _ => rfl, fun _ => rfl, fun _ => rfl, fun _ => rfl, fun _ => rfl, fun _ => rfl, fun _ => rfl, fun _ => rfl, fun _ => rfl, fun _ => rfl⟩)

theorem restartRun_touch {s : State} {f : PlanFrame} (h_runs : W.runs = true) (h_tiles : W.tiles = true) (h_arrays : W.arrays = true) (h_ops : W.ops = true) (h_hbm : W.hbm = true) (h_tileMem : W.tileMem = true) (h_upd : W.upd = true) (hs : ChangesOnly W s₀ s) :
    ChangesOnly W s₀ (restartRun s f) := by
  unfold restartRun
  repeat' first
    | with_reducible assumption
    | fail_if_no_progress (with_reducible refine touch_mk ?_ ⟨rfl, rfl, fun _ => rfl, fun _ => rfl, off_of_on h_runs, fun _ => rfl, fun _ => rfl, fun _ => rfl, fun _ => rfl, fun _ => rfl, fun _ => rfl, fun _ => rfl, fun _ => rfl, fun _ => rfl, fun _ => rfl, fun _ => rfl, fun _ => rfl, fun _ => rfl, fun _ => rfl, fun _ => rfl, fun _ => rfl, fun _ => rfl, fun _ => rfl, fun _ => rfl, fun _ => rfl, fun _ => rfl, fun _ => rfl, fun _ => rfl, fun _ => rfl, fun _ => rfl, fun _ => rfl, fun _ => rfl, fun _ => rfl⟩)
    | with_reducible refine discardGen_touch h_tiles h_arrays h_ops h_hbm h_tileMem h_upd ?_
    | with_reducible refine takeSnapshot_touch h_upd ?_
    | with_reducible refine touch_ite (fun _ => ?_) (fun _ => ?_)

theorem failCheck_touch {s : State} {gen : Nat} {code : Nat} {u : UnitRef} (h_runs : W.runs = true) (h_tiles : W.tiles = true) (h_arrays : W.arrays = true) (h_ops : W.ops = true) (h_hbm : W.hbm = true) (h_tileMem : W.tileMem = true) (h_upd : W.upd = true) (h_traffic : W.traffic = true) (h_ev : W.ev = true) (h_outbox : W.outbox = true) (hs : ChangesOnly W s₀ s) :
    ChangesOnly W s₀ (failCheck s gen code u) := by
  unfold failCheck
  repeat' first
    | with_reducible assumption
    | fail_if_no_progress (with_reducible refine touch_mk ?_ ⟨rfl, rfl, fun _ => rfl, fun _ => rfl, off_of_on h_runs, fun _ => rfl, fun _ => rfl, fun _ => rfl, fun _ => rfl, fun _ => rfl, fun _ => rfl, fun _ => rfl, fun _ => rfl, fun _ => rfl, fun _ => rfl, fun _ => rfl, fun _ => rfl, fun _ => rfl, fun _ => rfl, fun _ => rfl, fun _ => rfl, fun _ => rfl, fun _ => rfl, fun _ => rfl, fun _ => rfl, fun _ => rfl, fun _ => rfl, fun _ => rfl, fun _ => rfl, fun _ => rfl, fun _ => rfl, fun _ => rfl, fun _ => rfl⟩)
    | with_reducible refine modGen_touch h_runs ?_
    | with_reducible refine restartRun_touch h_runs h_tiles h_arrays h_ops h_hbm h_tileMem h_upd ?_
    | with_reducible refine raise_touch h_traffic h_ev h_outbox ?_
    | with_reducible refine touch_ite (fun _ => ?_) (fun _ => ?_)
    | split
    | (dsimp only; split)

theorem noteExc_touch {s : State} {gen : Nat} {tile : Option Nat} {e : ExcEntry} (h_runs : W.runs = true) (hs : ChangesOnly W s₀ s) :
    ChangesOnly W s₀ (noteExc s gen tile e) := by
  unfold noteExc
  repeat' first
    | with_reducible assumption
    | with_reducible refine noteLevel_touch h_runs ?_
    | with_reducible refine addExc_touch h_runs ?_

theorem residueMismatch_touch {s : State} {gen : Nat} {t : Nat} {engine : Nat} {op : Nat} {r : ResidueErr} (h_runs : W.runs = true) (h_tiles : W.tiles = true) (h_arrays : W.arrays = true) (h_ops : W.ops = true) (h_hbm : W.hbm = true) (h_tileMem : W.tileMem = true) (h_upd : W.upd = true) (h_traffic : W.traffic = true) (h_ev : W.ev = true) (h_hl : W.hl = true) (h_outbox : W.outbox = true) (hs : ChangesOnly W s₀ s) :
    ChangesOnly W s₀ (residueMismatch s gen t engine op r) := by
  unfold residueMismatch
  repeat' first
    | with_reducible assumption
    | with_reducible refine tally_touch h_runs ?_
    | with_reducible refine noteExc_touch h_runs ?_
    | with_reducible refine failCheck_touch h_runs h_tiles h_arrays h_ops h_hbm h_tileMem h_upd h_traffic h_ev h_outbox ?_
    | with_reducible refine raiseCharged_touch h_traffic h_ev h_hl h_outbox ?_

theorem machineryError_touch {s : State} {gen : Nat} {tile : Option Nat} {u : UnitRef} {k : Nat} {op : Nat} (h_runs : W.runs = true) (h_sync : W.sync = true) (h_traffic : W.traffic = true) (h_ev : W.ev = true) (h_hl : W.hl = true) (h_outbox : W.outbox = true) (hs : ChangesOnly W s₀ s) :
    ChangesOnly W s₀ (machineryError s gen tile u k op) := by
  unfold machineryError
  repeat' first
    | with_reducible assumption
    | with_reducible refine noteExc_touch h_runs ?_
    | with_reducible refine charge_touch h_traffic h_ev h_hl h_outbox ?_
    | with_reducible refine takeL3_touch h_runs h_sync h_traffic h_ev h_outbox ?_

theorem poisonConsumed_touch {s : State} {gen : Nat} {t : Nat} {op : Nat} {origin : Nat} {number : Nat} {addr : Nat} {atRest : Bool} (h_runs : W.runs = true) (h_tiles : W.tiles = true) (h_arrays : W.arrays = true) (h_ops : W.ops = true) (h_hbm : W.hbm = true) (h_tileMem : W.tileMem = true) (h_upd : W.upd = true) (h_sync : W.sync = true) (h_traffic : W.traffic = true) (h_ev : W.ev = true) (h_outbox : W.outbox = true) (hs : ChangesOnly W s₀ s) :
    ChangesOnly W s₀ (poisonConsumed s gen t op origin number addr atRest) := by
  unfold poisonConsumed
  repeat' first
    | with_reducible assumption
    | with_reducible refine modGen_touch h_runs ?_
    | with_reducible refine noteExc_touch h_runs ?_
    | with_reducible refine takeL3_touch h_runs h_sync h_traffic h_ev h_outbox ?_
    | with_reducible refine failCheck_touch h_runs h_tiles h_arrays h_ops h_hbm h_tileMem h_upd h_traffic h_ev h_outbox ?_
    | with_reducible refine touch_ite (fun _ => ?_) (fun _ => ?_)

theorem consumeMarks_touch {s : State} {gen : Nat} {t : Nat} {op : Nat} {ms : List (Nat × PoisonMark)} (h_runs : W.runs = true) (h_tiles : W.tiles = true) (h_arrays : W.arrays = true) (h_ops : W.ops = true) (h_hbm : W.hbm = true) (h_tileMem : W.tileMem = true) (h_upd : W.upd = true) (h_sync : W.sync = true) (h_traffic : W.traffic = true) (h_ev : W.ev = true) (h_outbox : W.outbox = true) (hs : ChangesOnly W s₀ s) :
    ChangesOnly W s₀ (consumeMarks s gen t op ms) := by
  unfold consumeMarks
  repeat' first
    | with_reducible assumption
    | with_reducible refine poisonConsumed_touch h_runs h_tiles h_arrays h_ops h_hbm h_tileMem h_upd h_sync h_traffic h_ev h_outbox ?_
    | with_reducible refine touch_foldl ?_ (fun _ _ _ => ?_)

theorem queueOverflow_touch {s : State} {gen : Nat} {t : Nat} {kind : Nat} {op : Nat} (h_runs : W.runs = true) (h_sync : W.sync = true) (h_traffic : W.traffic = true) (h_ev : W.ev = true) (h_hl : W.hl = true) (h_outbox : W.outbox = true) (hs : ChangesOnly W s₀ s) :
    ChangesOnly W s₀ (queueOverflow s gen t kind op) := by
  unfold queueOverflow
  repeat' first
    | with_reducible assumption
    | with_reducible refine noteExc_touch h_runs ?_
    | with_reducible refine charge_touch h_traffic h_ev h_hl h_outbox ?_
    | with_reducible refine takeL3_touch h_runs h_sync h_traffic h_ev h_outbox ?_

theorem enterQueue_touch {s : State} {gen : Nat} {t : Nat} {kind : Nat} {op : Nat} {settle : State → State} (h_runs : W.runs = true) (h_sync : W.sync = true) (h_traffic : W.traffic = true) (h_ev : W.ev = true) (h_hl : W.hl = true) (h_outbox : W.outbox = true) (hs : ChangesOnly W s₀ s)
    (hssettle : ∀ s, ChangesOnly W s₀ s → ChangesOnly W s₀ (settle s)) :
    ChangesOnly W s₀ (enterQueue s gen t kind op settle) := by
  unfold enterQueue
  repeat' first
    | with_reducible assumption
    | with_reducible refine hssettle _ ?_
    | with_reducible refine queueOverflow_touch h_runs h_sync h_traffic h_ev h_hl h_outbox ?_
    | with_reducible refine tally_touch h_runs ?_
    | with_reducible refine touch_ite (fun _ => ?_) (fun _ => ?_)

theorem checkResidue_touch {s : State} {gen : Nat} {t : Nat} {engine : Nat} {op : Nat} {res : Option ResidueErr} (h_runs : W.runs = true) (h_tiles : W.tiles = true) (h_arrays : W.arrays = true) (h_ops : W.ops = true) (h_hbm : W.hbm = true) (h_tileMem : W.tileMem = true) (h_upd : W.upd = true) (h_sync : W.sync = true) (h_traffic : W.traffic = true) (h_ev : W.ev = true) (h_hl : W.hl = true) (h_outbox : W.outbox = true) (hs : ChangesOnly W s₀ s) :
    ChangesOnly W s₀ (checkResidue s gen t engine op res) := by
  unfold checkResidue
  repeat' first
    | with_reducible assumption
    | with_reducible refine enterQueue_touch h_runs h_sync h_traffic h_ev h_hl h_outbox ?_ (fun _ _ => ?_)
    | with_reducible refine residueMismatch_touch h_runs h_tiles h_arrays h_ops h_hbm h_tileMem h_upd h_traffic h_ev h_hl h_outbox ?_
    | split

theorem checkPoison_touch {s : State} {gen : Nat} {t : Nat} {op : Nat} {ms : List (Nat × PoisonMark)} (h_runs : W.runs = true) (h_tiles : W.tiles = true) (h_arrays : W.arrays = true) (h_ops : W.ops = true) (h_hbm : W.hbm = true) (h_tileMem : W.tileMem = true) (h_upd : W.upd = true) (h_sync : W.sync = true) (h_traffic : W.traffic = true) (h_ev : W.ev = true) (h_hl : W.hl = true) (h_outbox : W.outbox = true) (hs : ChangesOnly W s₀ s) :
    ChangesOnly W s₀ (checkPoison s gen t op ms) := by
  unfold checkPoison
  repeat' first
    | with_reducible assumption
    | with_reducible refine enterQueue_touch h_runs h_sync h_traffic h_ev h_hl h_outbox ?_ (fun _ _ => ?_)
    | with_reducible refine consumeMarks_touch h_runs h_tiles h_arrays h_ops h_hbm h_tileMem h_upd h_sync h_traffic h_ev h_outbox ?_
    | with_reducible refine touch_foldl ?_ (fun _ _ _ => ?_)
    | split

theorem correction_touch {s : State} (h_runs : W.runs = true) (hs : ChangesOnly W s₀ s) :
    ChangesOnly W s₀ (correction s) := by
  unfold correction
  repeat' first
    | with_reducible assumption
    | with_reducible refine countCorrected_touch h_runs ?_

theorem noteNonFinite_touch {s : State} {gen : Nat} {t : Nat} {op : Nat} {fl : Option (Nat × Nat × Nat)} (h_runs : W.runs = true) (h_traffic : W.traffic = true) (h_ev : W.ev = true) (h_outbox : W.outbox = true) (hs : ChangesOnly W s₀ s) :
    ChangesOnly W s₀ (noteNonFinite s gen t op fl) := by
  unfold noteNonFinite
  repeat' first
    | with_reducible assumption
    | with_reducible refine addExc_touch h_runs ?_
    | with_reducible refine modGen_touch h_runs ?_
    | with_reducible refine raise_touch h_traffic h_ev h_outbox ?_
    | with_reducible refine touch_ite (fun _ => ?_) (fun _ => ?_)
    | split

theorem finishOp_touch {s : State} {op : Nat} (h_runs : W.runs = true) (hs : ChangesOnly W s₀ s) :
    ChangesOnly W s₀ (finishOp s op) := by
  unfold finishOp
  repeat' first
    | with_reducible assumption
    | fail_if_no_progress (with_reducible refine touch_mk ?_ ⟨rfl, rfl, fun _ => rfl, fun _ => rfl, off_of_on h_runs, fun _ => rfl, fun _ => rfl, fun _ => rfl, fun _ => rfl, fun _ => rfl, fun _ => rfl, fun _ => rfl, fun _ => rfl, fun _ => rfl, fun _ => rfl, fun _ => rfl, fun _ => rfl, fun _ => rfl, fun _ => rfl, fun _ => rfl, fun _ => rfl, fun _ => rfl, fun _ => rfl, fun _ => rfl, fun _ => rfl, fun _ => rfl, fun _ => rfl, fun _ => rfl, fun _ => rfl, fun _ => rfl, fun _ => rfl, fun _ => rfl, fun _ => rfl⟩)

theorem withOp_touch {s : State} {op : Nat} {cls : Nat} {f : PlanFrame → Template → Desc → State → State} (h_runs : W.runs = true) (hs : ChangesOnly W s₀ s)
    (hsf : ∀ p t d s, ChangesOnly W s₀ s → ChangesOnly W s₀ (f p t d s)) :
    ChangesOnly W s₀ (withOp s op cls f) := by
  unfold withOp
  repeat' first
    | with_reducible assumption
    | with_reducible refine hsf _ _ _ _ ?_
    | with_reducible refine finishOp_touch h_runs ?_
    | with_reducible refine touch_ite (fun _ => ?_) (fun _ => ?_)
    | split

theorem crossing_touch {s : State} {a : Nat} {b : Nat} {n : Nat} (h_traffic : W.traffic = true) (hs : ChangesOnly W s₀ s) :
    ChangesOnly W s₀ (crossing s a b n) := by
  unfold crossing
  repeat' first
    | with_reducible assumption
    | with_reducible refine portBytes_touch h_traffic ?_
    | with_reducible refine active_touch h_traffic ?_
    | with_reducible refine touch_ite (fun _ => ?_) (fun _ => ?_)

theorem markConsumed_touch {s : State} {u : Nat} {off : Nat} {n : Nat} (h_ops : W.ops = true) (hs : ChangesOnly W s₀ s) :
    ChangesOnly W s₀ (markConsumed s u off n) := by
  unfold markConsumed
  repeat' first
    | with_reducible assumption
    | fail_if_no_progress (with_reducible refine touch_mk ?_ ⟨rfl, rfl, fun _ => rfl, fun _ => rfl, fun _ => rfl, fun _ => rfl, fun _ => rfl, fun _ => rfl, fun _ => rfl, fun _ => rfl, fun _ => rfl, off_of_on h_ops, fun _ => rfl, fun _ => rfl, fun _ => rfl, fun _ => rfl, fun _ => rfl, fun _ => rfl, fun _ => rfl, fun _ => rfl, fun _ => rfl, fun _ => rfl, fun _ => rfl, fun _ => rfl, fun _ => rfl, fun _ => rfl, fun _ => rfl, fun _ => rfl, fun _ => rfl, fun _ => rfl, fun _ => rfl, fun _ => rfl, fun _ => rfl⟩)

theorem countRead_touch {s : State} {t : Nat} {p : Place} {n : Nat} (h_ops : W.ops = true) (h_traffic : W.traffic = true) (hs : ChangesOnly W s₀ s) :
    ChangesOnly W s₀ (countRead s t p n) := by
  unfold countRead
  repeat' first
    | with_reducible assumption
    | with_reducible refine crossing_touch h_traffic ?_
    | with_reducible refine active_touch h_traffic ?_
    | with_reducible refine markConsumed_touch h_ops ?_
    | with_reducible refine stackRead_touch h_traffic ?_
    | split

theorem countWrite_touch {s : State} {t : Nat} {p : Place} {n : Nat} (h_traffic : W.traffic = true) (hs : ChangesOnly W s₀ s) :
    ChangesOnly W s₀ (countWrite s t p n) := by
  unfold countWrite
  repeat' first
    | with_reducible assumption
    | with_reducible refine crossing_touch h_traffic ?_
    | with_reducible refine active_touch h_traffic ?_
    | split

theorem useOperands_touch {s : State} {gen : Nat} {t : Nat} {op : Nat} {ins : List (Place × Nat)} {out : Place × Nat} (h_runs : W.runs = true) (h_tiles : W.tiles = true) (h_arrays : W.arrays = true) (h_ops : W.ops = true) (h_hbm : W.hbm = true) (h_tileMem : W.tileMem = true) (h_upd : W.upd = true) (h_sync : W.sync = true) (h_traffic : W.traffic = true) (h_ev : W.ev = true) (h_hl : W.hl = true) (h_outbox : W.outbox = true) (hs : ChangesOnly W s₀ s) :
    ChangesOnly W s₀ (useOperands s gen t op ins out) := by
  unfold useOperands
  repeat' first
    | with_reducible assumption
    | with_reducible refine countRead_touch h_ops h_traffic ?_
    | with_reducible refine countWrite_touch h_traffic ?_
    | with_reducible refine checkPoison_touch h_runs h_tiles h_arrays h_ops h_hbm h_tileMem h_upd h_sync h_traffic h_ev h_hl h_outbox ?_
    | with_reducible refine touch_foldl ?_ (fun _ _ _ => ?_)

end Sys2Proof.Machine
end

