-- ==== Sys2Proof/Laws/TouchEngines.lean ====
section
/-!
SUPPORT. Sys2Proof/Laws/TouchEngines.lean: which parts of the state the functions of the arrays, the engines, programming, contexts, the update engines and HBM
may change, one lemma each.
-/
namespace Sys2Proof.Machine
open Sys2Proof

variable {W : Parts} {s₀ : State}

theorem noteShares_touch {s : State} {gen : Nat} {tensor : Nat} {n : Nat} {zeros : Nat} {sat : Nat} {nf : Nat} (h_runs : W.runs = true) (h_num : W.num = true) (hs : ChangesOnly W s₀ s) :
    ChangesOnly W s₀ (noteShares s gen tensor n zeros sat nf) := by
  unfold noteShares
  repeat' first
    | with_reducible assumption
    | fail_if_no_progress (with_reducible refine touch_mk ?_ ⟨rfl, rfl, fun _ => rfl, fun _ => rfl, fun _ => rfl, fun _ => rfl, fun _ => rfl, fun _ => rfl, fun _ => rfl, fun _ => rfl, fun _ => rfl, fun _ => rfl, fun _ => rfl, fun _ => rfl, fun _ => rfl, fun _ => rfl, off_of_on h_num, fun _ => rfl, fun _ => rfl, fun _ => rfl, fun _ => rfl, fun _ => rfl, fun _ => rfl, fun _ => rfl, fun _ => rfl, fun _ => rfl, fun _ => rfl, fun _ => rfl, fun _ => rfl, fun _ => rfl, fun _ => rfl, fun _ => rfl, fun _ => rfl⟩)
    | with_reducible refine modGen_touch h_runs ?_
    | with_reducible refine touch_ite (fun _ => ?_) (fun _ => ?_)

theorem noteFloats_touch {s : State} {gen : Nat} {tensor : Nat} {xs : List FVal} (h_runs : W.runs = true) (h_num : W.num = true) (hs : ChangesOnly W s₀ s) :
    ChangesOnly W s₀ (noteFloats s gen tensor xs) := by
  unfold noteFloats
  repeat' first
    | with_reducible assumption
    | with_reducible refine noteShares_touch h_runs h_num ?_

theorem noteObservation_touch {s : State} {f : PlanFrame} {index : Nat} {o : Observation} (h_runs : W.runs = true) (h_num : W.num = true) (hs : ChangesOnly W s₀ s) :
    ChangesOnly W s₀ (noteObservation s f index o) := by
  unfold noteObservation
  repeat' first
    | with_reducible assumption
    | fail_if_no_progress (with_reducible refine touch_mk ?_ ⟨rfl, rfl, fun _ => rfl, fun _ => rfl, fun _ => rfl, fun _ => rfl, fun _ => rfl, fun _ => rfl, fun _ => rfl, fun _ => rfl, fun _ => rfl, fun _ => rfl, fun _ => rfl, fun _ => rfl, fun _ => rfl, fun _ => rfl, off_of_on h_num, fun _ => rfl, fun _ => rfl, fun _ => rfl, fun _ => rfl, fun _ => rfl, fun _ => rfl, fun _ => rfl, fun _ => rfl, fun _ => rfl, fun _ => rfl, fun _ => rfl, fun _ => rfl, fun _ => rfl, fun _ => rfl, fun _ => rfl, fun _ => rfl⟩)
    | with_reducible refine modGen_touch h_runs ?_
    | with_reducible refine touch_ite (fun _ => ?_) (fun _ => ?_)

theorem noteQuantised_touch {s : State} {gen : Nat} {tensor : Nat} {outliers : Nat} {elements : Nat} (h_runs : W.runs = true) (h_num : W.num = true) (hs : ChangesOnly W s₀ s) :
    ChangesOnly W s₀ (noteQuantised s gen tensor outliers elements) := by
  unfold noteQuantised
  repeat' first
    | with_reducible assumption
    | fail_if_no_progress (with_reducible refine touch_mk ?_ ⟨rfl, rfl, fun _ => rfl, fun _ => rfl, fun _ => rfl, fun _ => rfl, fun _ => rfl, fun _ => rfl, fun _ => rfl, fun _ => rfl, fun _ => rfl, fun _ => rfl, fun _ => rfl, fun _ => rfl, fun _ => rfl, fun _ => rfl, off_of_on h_num, fun _ => rfl, fun _ => rfl, fun _ => rfl, fun _ => rfl, fun _ => rfl, fun _ => rfl, fun _ => rfl, fun _ => rfl, fun _ => rfl, fun _ => rfl, fun _ => rfl, fun _ => rfl, fun _ => rfl, fun _ => rfl, fun _ => rfl, fun _ => rfl⟩)
    | with_reducible refine modGen_touch h_runs ?_

theorem matrixOp_touch {res : Option ResidueErr} {f : PlanFrame} {t : Template} {d : Desc} {s : State} (h_runs : W.runs = true) (h_tiles : W.tiles = true) (h_arrays : W.arrays = true) (h_ops : W.ops = true) (h_hbm : W.hbm = true) (h_tileMem : W.tileMem = true) (h_upd : W.upd = true) (h_num : W.num = true) (h_sync : W.sync = true) (h_traffic : W.traffic = true) (h_ev : W.ev = true) (h_hl : W.hl = true) (h_outbox : W.outbox = true) (hs : ChangesOnly W s₀ s) :
    ChangesOnly W s₀ (matrixOp res f t d s) := by
  unfold matrixOp
  repeat' first
    | with_reducible assumption
    | with_reducible refine useOperands_touch h_runs h_tiles h_arrays h_ops h_hbm h_tileMem h_upd h_sync h_traffic h_ev h_hl h_outbox ?_
    | with_reducible refine placeWrite_touch h_hbm h_tileMem h_traffic ?_
    | with_reducible refine noteShares_touch h_runs h_num ?_
    | with_reducible refine noteNonFinite_touch h_runs h_traffic h_ev h_outbox ?_
    | with_reducible refine noteFloats_touch h_runs h_num ?_
    | with_reducible refine checkResidue_touch h_runs h_tiles h_arrays h_ops h_hbm h_tileMem h_upd h_sync h_traffic h_ev h_hl h_outbox ?_
    | with_reducible refine touch_foldl ?_ (fun _ _ _ => ?_)
    | with_reducible refine touch_ite (fun _ => ?_) (fun _ => ?_)

theorem execMatrix_touch {op : Fin 1048576} {res : Option ResidueErr} {cyc : Nat} {s : State} (h_cycle : W.cycle = true) (h_runs : W.runs = true) (h_tiles : W.tiles = true) (h_arrays : W.arrays = true) (h_ops : W.ops = true) (h_hbm : W.hbm = true) (h_tileMem : W.tileMem = true) (h_upd : W.upd = true) (h_num : W.num = true) (h_sync : W.sync = true) (h_traffic : W.traffic = true) (h_ev : W.ev = true) (h_hl : W.hl = true) (h_outbox : W.outbox = true) (hs : ChangesOnly W s₀ s) :
    TouchR W s₀ (execMatrix op res cyc s) := by
  unfold execMatrix
  repeat' first
    | with_reducible assumption
    | with_reducible refine touchR_next ?_
    | with_reducible refine withOp_touch h_runs ?_ (fun _ _ _ _ _ => ?_)
    | with_reducible refine atCycle_touch h_cycle ?_
    | with_reducible refine matrixOp_touch h_runs h_tiles h_arrays h_ops h_hbm h_tileMem h_upd h_num h_sync h_traffic h_ev h_hl h_outbox ?_

theorem vectorOp_touch {res : Option ResidueErr} {f : PlanFrame} {t : Template} {d : Desc} {s : State} (h_runs : W.runs = true) (h_tiles : W.tiles = true) (h_arrays : W.arrays = true) (h_ops : W.ops = true) (h_hbm : W.hbm = true) (h_tileMem : W.tileMem = true) (h_upd : W.upd = true) (h_num : W.num = true) (h_sync : W.sync = true) (h_traffic : W.traffic = true) (h_ev : W.ev = true) (h_hl : W.hl = true) (h_outbox : W.outbox = true) (hs : ChangesOnly W s₀ s) :
    ChangesOnly W s₀ (vectorOp res f t d s) := by
  unfold vectorOp
  repeat' first
    | with_reducible assumption
    | with_reducible refine useOperands_touch h_runs h_tiles h_arrays h_ops h_hbm h_tileMem h_upd h_sync h_traffic h_ev h_hl h_outbox ?_
    | with_reducible refine placeWrite_touch h_hbm h_tileMem h_traffic ?_
    | with_reducible refine noteShares_touch h_runs h_num ?_
    | with_reducible refine checkResidue_touch h_runs h_tiles h_arrays h_ops h_hbm h_tileMem h_upd h_sync h_traffic h_ev h_hl h_outbox ?_
    | with_reducible refine noteNonFinite_touch h_runs h_traffic h_ev h_outbox ?_

theorem execVector_touch {op : Fin 1048576} {res : Option ResidueErr} {cyc : Nat} {s : State} (h_cycle : W.cycle = true) (h_runs : W.runs = true) (h_tiles : W.tiles = true) (h_arrays : W.arrays = true) (h_ops : W.ops = true) (h_hbm : W.hbm = true) (h_tileMem : W.tileMem = true) (h_upd : W.upd = true) (h_num : W.num = true) (h_sync : W.sync = true) (h_traffic : W.traffic = true) (h_ev : W.ev = true) (h_hl : W.hl = true) (h_outbox : W.outbox = true) (hs : ChangesOnly W s₀ s) :
    TouchR W s₀ (execVector op res cyc s) := by
  unfold execVector
  repeat' first
    | with_reducible assumption
    | with_reducible refine touchR_next ?_
    | with_reducible refine withOp_touch h_runs ?_ (fun _ _ _ _ _ => ?_)
    | with_reducible refine atCycle_touch h_cycle ?_
    | with_reducible refine vectorOp_touch h_runs h_tiles h_arrays h_ops h_hbm h_tileMem h_upd h_num h_sync h_traffic h_ev h_hl h_outbox ?_

theorem quantiseOp_touch {res : Option ResidueErr} {f : PlanFrame} {t : Template} {d : Desc} {s : State} (h_free : W.free = true) (h_runs : W.runs = true) (h_tiles : W.tiles = true) (h_arrays : W.arrays = true) (h_ops : W.ops = true) (h_hbm : W.hbm = true) (h_tileMem : W.tileMem = true) (h_upd : W.upd = true) (h_num : W.num = true) (h_sync : W.sync = true) (h_traffic : W.traffic = true) (h_ev : W.ev = true) (h_hl : W.hl = true) (h_outbox : W.outbox = true) (hs : ChangesOnly W s₀ s) :
    ChangesOnly W s₀ (quantiseOp res f t d s) := by
  unfold quantiseOp
  repeat' first
    | with_reducible assumption
    | fail_if_no_progress (with_reducible refine touch_mk ?_ ⟨rfl, rfl, off_of_on h_free, fun _ => rfl, fun _ => rfl, fun _ => rfl, fun _ => rfl, fun _ => rfl, fun _ => rfl, fun _ => rfl, fun _ => rfl, fun _ => rfl, fun _ => rfl, fun _ => rfl, fun _ => rfl, fun _ => rfl, fun _ => rfl, fun _ => rfl, fun _ => rfl, fun _ => rfl, fun _ => rfl, fun _ => rfl, fun _ => rfl, fun _ => rfl, fun _ => rfl, fun _ => rfl, fun _ => rfl, fun _ => rfl, fun _ => rfl, fun _ => rfl, fun _ => rfl, fun _ => rfl, fun _ => rfl⟩)
    | with_reducible refine useOperands_touch h_runs h_tiles h_arrays h_ops h_hbm h_tileMem h_upd h_sync h_traffic h_ev h_hl h_outbox ?_
    | with_reducible refine placeWrite_touch h_hbm h_tileMem h_traffic ?_
    | with_reducible refine noteObservation_touch h_runs h_num ?_
    | with_reducible refine noteQuantised_touch h_runs h_num ?_
    | with_reducible refine noteShares_touch h_runs h_num ?_
    | with_reducible refine checkResidue_touch h_runs h_tiles h_arrays h_ops h_hbm h_tileMem h_upd h_sync h_traffic h_ev h_hl h_outbox ?_
    | with_reducible refine noteNonFinite_touch h_runs h_traffic h_ev h_outbox ?_

theorem execQuantise_touch {op : Fin 1048576} {res : Option ResidueErr} {cyc : Nat} {s : State} (h_free : W.free = true) (h_cycle : W.cycle = true) (h_runs : W.runs = true) (h_tiles : W.tiles = true) (h_arrays : W.arrays = true) (h_ops : W.ops = true) (h_hbm : W.hbm = true) (h_tileMem : W.tileMem = true) (h_upd : W.upd = true) (h_num : W.num = true) (h_sync : W.sync = true) (h_traffic : W.traffic = true) (h_ev : W.ev = true) (h_hl : W.hl = true) (h_outbox : W.outbox = true) (hs : ChangesOnly W s₀ s) :
    TouchR W s₀ (execQuantise op res cyc s) := by
  unfold execQuantise
  repeat' first
    | with_reducible assumption
    | with_reducible refine touchR_next ?_
    | with_reducible refine withOp_touch h_runs ?_ (fun _ _ _ _ _ => ?_)
    | with_reducible refine atCycle_touch h_cycle ?_
    | with_reducible refine quantiseOp_touch h_free h_runs h_tiles h_arrays h_ops h_hbm h_tileMem h_upd h_num h_sync h_traffic h_ev h_hl h_outbox ?_

theorem compressOp_touch {res : Option ResidueErr} {f : PlanFrame} {t : Template} {d : Desc} {s : State} (h_runs : W.runs = true) (h_tiles : W.tiles = true) (h_arrays : W.arrays = true) (h_ops : W.ops = true) (h_hbm : W.hbm = true) (h_tileMem : W.tileMem = true) (h_upd : W.upd = true) (h_num : W.num = true) (h_sync : W.sync = true) (h_traffic : W.traffic = true) (h_ev : W.ev = true) (h_hl : W.hl = true) (h_outbox : W.outbox = true) (hs : ChangesOnly W s₀ s) :
    ChangesOnly W s₀ (compressOp res f t d s) := by
  unfold compressOp
  repeat' first
    | with_reducible assumption
    | with_reducible refine useOperands_touch h_runs h_tiles h_arrays h_ops h_hbm h_tileMem h_upd h_sync h_traffic h_ev h_hl h_outbox ?_
    | with_reducible refine placeWrite_touch h_hbm h_tileMem h_traffic ?_
    | with_reducible refine noteShares_touch h_runs h_num ?_
    | with_reducible refine checkResidue_touch h_runs h_tiles h_arrays h_ops h_hbm h_tileMem h_upd h_sync h_traffic h_ev h_hl h_outbox ?_
    | with_reducible refine noteNonFinite_touch h_runs h_traffic h_ev h_outbox ?_

theorem execCompress_touch {op : Fin 1048576} {res : Option ResidueErr} {cyc : Nat} {s : State} (h_cycle : W.cycle = true) (h_runs : W.runs = true) (h_tiles : W.tiles = true) (h_arrays : W.arrays = true) (h_ops : W.ops = true) (h_hbm : W.hbm = true) (h_tileMem : W.tileMem = true) (h_upd : W.upd = true) (h_num : W.num = true) (h_sync : W.sync = true) (h_traffic : W.traffic = true) (h_ev : W.ev = true) (h_hl : W.hl = true) (h_outbox : W.outbox = true) (hs : ChangesOnly W s₀ s) :
    TouchR W s₀ (execCompress op res cyc s) := by
  unfold execCompress
  repeat' first
    | with_reducible assumption
    | with_reducible refine touchR_next ?_
    | with_reducible refine withOp_touch h_runs ?_ (fun _ _ _ _ _ => ?_)
    | with_reducible refine atCycle_touch h_cycle ?_
    | with_reducible refine compressOp_touch h_runs h_tiles h_arrays h_ops h_hbm h_tileMem h_upd h_num h_sync h_traffic h_ev h_hl h_outbox ?_

theorem joinOp_touch {u0 : PlanFrame} {u1 : Template} {u2 : Desc} {s : State} (hs : ChangesOnly W s₀ s) :
    ChangesOnly W s₀ (joinOp u0 u1 u2 s) := by
  unfold joinOp
  repeat' first
    | with_reducible assumption

theorem execJoin_touch {op : Fin 1048576} {cyc : Nat} {s : State} (h_cycle : W.cycle = true) (h_runs : W.runs = true) (hs : ChangesOnly W s₀ s) :
    TouchR W s₀ (execJoin op cyc s) := by
  unfold execJoin
  repeat' first
    | with_reducible assumption
    | with_reducible refine touchR_next ?_
    | with_reducible refine withOp_touch h_runs ?_ (fun _ _ _ _ _ => ?_)
    | with_reducible refine atCycle_touch h_cycle ?_
    | with_reducible refine joinOp_touch ?_

theorem setImageRow_touch {s : State} {k : Nat} {row : Nat} {ws : List Int} (h_tileMem : W.tileMem = true) (hs : ChangesOnly W s₀ s) :
    ChangesOnly W s₀ (setImageRow s k row ws) := by
  unfold setImageRow
  repeat' first
    | with_reducible assumption
    | with_reducible refine writeTile_touch h_tileMem ?_

theorem setLevel_touch {s : State} {k : Nat} {row : Nat} {col : Nat} {element : Nat} {v : Nat} (h_cells : W.cells = true) (hs : ChangesOnly W s₀ s) :
    ChangesOnly W s₀ (setLevel s k row col element v) := by
  unfold setLevel
  repeat' first
    | with_reducible assumption
    | fail_if_no_progress (with_reducible refine touch_mk ?_ ⟨rfl, rfl, fun _ => rfl, fun _ => rfl, fun _ => rfl, fun _ => rfl, fun _ => rfl, fun _ => rfl, fun _ => rfl, fun _ => rfl, off_of_on h_cells, fun _ => rfl, fun _ => rfl, fun _ => rfl, fun _ => rfl, fun _ => rfl, fun _ => rfl, fun _ => rfl, fun _ => rfl, fun _ => rfl, fun _ => rfl, fun _ => rfl, fun _ => rfl, fun _ => rfl, fun _ => rfl, fun _ => rfl, fun _ => rfl, fun _ => rfl, fun _ => rfl, fun _ => rfl, fun _ => rfl, fun _ => rfl, fun _ => rfl⟩)

theorem setVectors_touch {s : State} {k : Nat} {row : Nat} {ds : List Int} (h_arrays : W.arrays = true) (hs : ChangesOnly W s₀ s) :
    ChangesOnly W s₀ (setVectors s k row ds) := by
  unfold setVectors
  repeat' first
    | with_reducible assumption
    | with_reducible refine modArr_touch h_arrays ?_

theorem rebuildRows_touch {s : State} {k : Nat} {rows : List Nat} (h_arrays : W.arrays = true) (hs : ChangesOnly W s₀ s) :
    ChangesOnly W s₀ (rebuildRows s k rows) := by
  unfold rebuildRows
  repeat' first
    | with_reducible assumption
    | with_reducible refine setVectors_touch h_arrays ?_
    | with_reducible refine touch_foldl ?_ (fun _ _ _ => ?_)

theorem startReadback_touch {s : State} {k : Nat} (h_arrays : W.arrays = true) (hs : ChangesOnly W s₀ s) :
    ChangesOnly W s₀ (startReadback s k) := by
  unfold startReadback
  repeat' first
    | with_reducible assumption
    | with_reducible refine modArr_touch h_arrays ?_

theorem regenerate_touch {s : State} {k : Nat} (h_arrays : W.arrays = true) (hs : ChangesOnly W s₀ s) :
    ChangesOnly W s₀ (regenerate s k) := by
  unfold regenerate
  repeat' first
    | with_reducible assumption
    | with_reducible refine startReadback_touch h_arrays ?_
    | with_reducible refine rebuildRows_touch h_arrays ?_
    | with_reducible refine touch_ite (fun _ => ?_) (fun _ => ?_)

theorem parityError_touch {s : State} {k : Nat} (h_arrays : W.arrays = true) (h_traffic : W.traffic = true) (h_ev : W.ev = true) (h_outbox : W.outbox = true) (hs : ChangesOnly W s₀ s) :
    ChangesOnly W s₀ (parityError s k) := by
  unfold parityError
  repeat' first
    | with_reducible assumption
    | with_reducible refine raise_touch h_traffic h_ev h_outbox ?_
    | with_reducible refine startReadback_touch h_arrays ?_
    | with_reducible refine rebuildRows_touch h_arrays ?_
    | with_reducible refine regenerate_touch h_arrays ?_
    | with_reducible refine touch_ite (fun _ => ?_) (fun _ => ?_)

theorem quarantineArray_touch {s : State} {k : Nat} (h_arrays : W.arrays = true) (hs : ChangesOnly W s₀ s) :
    ChangesOnly W s₀ (quarantineArray s k) := by
  unfold quarantineArray
  repeat' first
    | with_reducible assumption
    | with_reducible refine modArr_touch h_arrays ?_

theorem quarantineL2_touch {s : State} {k : Nat} {code : Nat} (h_runs : W.runs = true) (h_arrays : W.arrays = true) (h_traffic : W.traffic = true) (h_ev : W.ev = true) (h_outbox : W.outbox = true) (hs : ChangesOnly W s₀ s) :
    ChangesOnly W s₀ (quarantineL2 s k code) := by
  unfold quarantineL2
  repeat' first
    | with_reducible assumption
    | with_reducible refine raise_touch h_traffic h_ev h_outbox ?_
    | with_reducible refine quarantineArray_touch h_arrays ?_
    | with_reducible refine noteLevel_touch h_runs ?_

theorem modOut_touch {s : State} {gen : Nat} {group : Nat} {vec : Nat} {f : GroupOut → GroupOut} (h_ops : W.ops = true) (hs : ChangesOnly W s₀ s) :
    ChangesOnly W s₀ (modOut s gen group vec f) := by
  unfold modOut
  repeat' first
    | with_reducible assumption
    | fail_if_no_progress (with_reducible refine touch_mk ?_ ⟨rfl, rfl, fun _ => rfl, fun _ => rfl, fun _ => rfl, fun _ => rfl, fun _ => rfl, fun _ => rfl, fun _ => rfl, fun _ => rfl, fun _ => rfl, off_of_on h_ops, fun _ => rfl, fun _ => rfl, fun _ => rfl, fun _ => rfl, fun _ => rfl, fun _ => rfl, fun _ => rfl, fun _ => rfl, fun _ => rfl, fun _ => rfl, fun _ => rfl, fun _ => rfl, fun _ => rfl, fun _ => rfl, fun _ => rfl, fun _ => rfl, fun _ => rfl, fun _ => rfl, fun _ => rfl, fun _ => rfl, fun _ => rfl⟩)

theorem ensureOut_touch {s : State} {f : PlanFrame} {t : Template} {d : Desc} {vec : Nat} {scaleA : Word} (h_ops : W.ops = true) (hs : ChangesOnly W s₀ s) :
    ChangesOnly W s₀ (ensureOut s f t d vec scaleA) := by
  unfold ensureOut
  repeat' first
    | with_reducible assumption
    | fail_if_no_progress (with_reducible refine touch_mk ?_ ⟨rfl, rfl, fun _ => rfl, fun _ => rfl, fun _ => rfl, fun _ => rfl, fun _ => rfl, fun _ => rfl, fun _ => rfl, fun _ => rfl, fun _ => rfl, off_of_on h_ops, fun _ => rfl, fun _ => rfl, fun _ => rfl, fun _ => rfl, fun _ => rfl, fun _ => rfl, fun _ => rfl, fun _ => rfl, fun _ => rfl, fun _ => rfl, fun _ => rfl, fun _ => rfl, fun _ => rfl, fun _ => rfl, fun _ => rfl, fun _ => rfl, fun _ => rfl, fun _ => rfl, fun _ => rfl, fun _ => rfl, fun _ => rfl⟩)
    | with_reducible refine touch_ite (fun _ => ?_) (fun _ => ?_)

theorem addSums_touch {s : State} {gen : Nat} {group : Nat} {vec : Nat} {ys : List Int} (h_ops : W.ops = true) (hs : ChangesOnly W s₀ s) :
    ChangesOnly W s₀ (addSums s gen group vec ys) := by
  unfold addSums
  repeat' first
    | with_reducible assumption
    | with_reducible refine modOut_touch h_ops ?_

theorem arriveOut_touch {s : State} {gen : Nat} {group : Nat} {vec : Nat} (h_ops : W.ops = true) (hs : ChangesOnly W s₀ s) :
    ChangesOnly W s₀ (arriveOut s gen group vec) := by
  unfold arriveOut
  repeat' first
    | with_reducible assumption
    | with_reducible refine modOut_touch h_ops ?_

theorem tryFinishMvm_touch {s : State} {op : Nat} (h_runs : W.runs = true) (hs : ChangesOnly W s₀ s) :
    ChangesOnly W s₀ (tryFinishMvm s op) := by
  unfold tryFinishMvm
  repeat' first
    | with_reducible assumption
    | with_reducible refine finishOp_touch h_runs ?_
    | with_reducible refine touch_ite (fun _ => ?_) (fun _ => ?_)
    | split

theorem modFlight_touch {s : State} {gen : Nat} {op : Nat} {f : InFlight → InFlight} (h_runs : W.runs = true) (hs : ChangesOnly W s₀ s) :
    ChangesOnly W s₀ (modFlight s gen op f) := by
  unfold modFlight
  repeat' first
    | with_reducible assumption
    | with_reducible refine modGen_touch h_runs ?_

theorem checkReported_touch {s : State} {gen : Nat} {op : Nat} (h_runs : W.runs = true) (hs : ChangesOnly W s₀ s) :
    ChangesOnly W s₀ (checkReported s gen op) := by
  unfold checkReported
  repeat' first
    | with_reducible assumption
    | with_reducible refine tryFinishMvm_touch h_runs ?_
    | with_reducible refine modFlight_touch h_runs ?_

theorem markOverflow_touch {s : State} {f : PlanFrame} {index : Nat} (h_runs : W.runs = true) (h_num : W.num = true) (hs : ChangesOnly W s₀ s) :
    ChangesOnly W s₀ (markOverflow s f index) := by
  unfold markOverflow
  repeat' first
    | with_reducible assumption
    | with_reducible refine noteObservation_touch h_runs h_num ?_

theorem vectorIssued_touch {s : State} {gen : Nat} {op : Nat} {checks : Nat} (h_runs : W.runs = true) (hs : ChangesOnly W s₀ s) :
    ChangesOnly W s₀ (vectorIssued s gen op checks) := by
  unfold vectorIssued
  repeat' first
    | with_reducible assumption
    | with_reducible refine modFlight_touch h_runs ?_

theorem runPass_touch {s : State} {f : PlanFrame} {d : Desc} {vec : Nat} {lanes : List Int} {high : Bool} (h_free : W.free = true) (h_runs : W.runs = true) (h_ops : W.ops = true) (h_traffic : W.traffic = true) (hs : ChangesOnly W s₀ s) :
    ChangesOnly W s₀ (runPass s f d vec lanes high) := by
  unfold runPass
  repeat' first
    | with_reducible assumption
    | fail_if_no_progress (with_reducible refine touch_mk ?_ ⟨rfl, rfl, fun _ => rfl, fun _ => rfl, fun _ => rfl, fun _ => rfl, fun _ => rfl, fun _ => rfl, fun _ => rfl, fun _ => rfl, fun _ => rfl, off_of_on h_ops, fun _ => rfl, fun _ => rfl, fun _ => rfl, fun _ => rfl, fun _ => rfl, fun _ => rfl, fun _ => rfl, fun _ => rfl, fun _ => rfl, fun _ => rfl, fun _ => rfl, fun _ => rfl, fun _ => rfl, fun _ => rfl, fun _ => rfl, fun _ => rfl, fun _ => rfl, fun _ => rfl, fun _ => rfl, fun _ => rfl, fun _ => rfl⟩)
    | with_reducible refine tally_touch h_runs ?_
    | with_reducible refine arriveOut_touch h_ops ?_
    | with_reducible refine active_touch h_traffic ?_
    | with_reducible refine modGen_touch h_runs ?_
    | with_reducible refine addSums_touch h_ops ?_
    | with_reducible refine draw_touch h_free ?_
    | with_reducible refine modFlight_touch h_runs ?_
    | with_reducible refine touch_ite (fun _ => ?_) (fun _ => ?_)

theorem issueAnalogue_touch {s : State} {f : PlanFrame} {t : Template} {d : Desc} {vec : Nat} {a8 : List Int} {rec : OutRecord} (h_free : W.free = true) (h_runs : W.runs = true) (h_tiles : W.tiles = true) (h_ops : W.ops = true) (h_num : W.num = true) (h_traffic : W.traffic = true) (h_ev : W.ev = true) (h_outbox : W.outbox = true) (hs : ChangesOnly W s₀ s) :
    ChangesOnly W s₀ (issueAnalogue s f t d vec a8 rec) := by
  unfold issueAnalogue
  repeat' first
    | with_reducible assumption
    | with_reducible refine ensureOut_touch h_ops ?_
    | with_reducible refine modOut_touch h_ops ?_
    | with_reducible refine addSums_touch h_ops ?_
    | with_reducible refine raise_touch h_traffic h_ev h_outbox ?_
    | with_reducible refine modTile_touch h_tiles ?_
    | with_reducible refine active_touch h_traffic ?_
    | with_reducible refine tally_touch h_runs ?_
    | with_reducible refine markOverflow_touch h_runs h_num ?_
    | with_reducible refine noteShares_touch h_runs h_num ?_
    | with_reducible refine vectorIssued_touch h_runs ?_
    | with_reducible refine runPass_touch h_free h_runs h_ops h_traffic ?_
    | with_reducible refine tryFinishMvm_touch h_runs ?_
    | with_reducible refine touch_ite (fun _ => ?_) (fun _ => ?_)

theorem issueReference_touch {s : State} {f : PlanFrame} {t : Template} {d : Desc} {vec : Nat} {a8 : List Int} {rec : OutRecord} (h_runs : W.runs = true) (h_ops : W.ops = true) (hs : ChangesOnly W s₀ s) :
    ChangesOnly W s₀ (issueReference s f t d vec a8 rec) := by
  unfold issueReference
  repeat' first
    | with_reducible assumption
    | with_reducible refine ensureOut_touch h_ops ?_
    | with_reducible refine addSums_touch h_ops ?_
    | with_reducible refine vectorIssued_touch h_runs ?_
    | with_reducible refine tryFinishMvm_touch h_runs ?_
    | with_reducible refine arriveOut_touch h_ops ?_

theorem issueVector_touch {s : State} {op : Nat} {vec : Nat} (h_free : W.free = true) (h_runs : W.runs = true) (h_tiles : W.tiles = true) (h_arrays : W.arrays = true) (h_ops : W.ops = true) (h_hbm : W.hbm = true) (h_tileMem : W.tileMem = true) (h_upd : W.upd = true) (h_num : W.num = true) (h_sync : W.sync = true) (h_traffic : W.traffic = true) (h_ev : W.ev = true) (h_hl : W.hl = true) (h_outbox : W.outbox = true) (hs : ChangesOnly W s₀ s) :
    ChangesOnly W s₀ (issueVector s op vec) := by
  unfold issueVector
  repeat' first
    | with_reducible assumption
    | with_reducible refine useOperands_touch h_runs h_tiles h_arrays h_ops h_hbm h_tileMem h_upd h_sync h_traffic h_ev h_hl h_outbox ?_
    | with_reducible refine issueReference_touch h_runs h_ops ?_
    | with_reducible refine issueAnalogue_touch h_free h_runs h_tiles h_ops h_num h_traffic h_ev h_outbox ?_
    | with_reducible refine touch_ite (fun _ => ?_) (fun _ => ?_)
    | split

theorem execMvm_touch {op : Fin 1048576} {vec : Fin 1562} {cyc : Nat} {s : State} (h_free : W.free = true) (h_cycle : W.cycle = true) (h_runs : W.runs = true) (h_tiles : W.tiles = true) (h_arrays : W.arrays = true) (h_ops : W.ops = true) (h_hbm : W.hbm = true) (h_tileMem : W.tileMem = true) (h_upd : W.upd = true) (h_num : W.num = true) (h_sync : W.sync = true) (h_traffic : W.traffic = true) (h_ev : W.ev = true) (h_hl : W.hl = true) (h_outbox : W.outbox = true) (hs : ChangesOnly W s₀ s) :
    TouchR W s₀ (execMvm op vec cyc s) := by
  unfold execMvm
  repeat' first
    | with_reducible assumption
    | with_reducible refine touchR_next ?_
    | with_reducible refine issueVector_touch h_free h_runs h_tiles h_arrays h_ops h_hbm h_tileMem h_upd h_num h_sync h_traffic h_ev h_hl h_outbox ?_
    | with_reducible refine atCycle_touch h_cycle ?_

theorem addDrift_touch {s : State} {m : MvmRun} (h_arrays : W.arrays = true) (hs : ChangesOnly W s₀ s) :
    ChangesOnly W s₀ (addDrift s m) := by
  unfold addDrift
  repeat' first
    | with_reducible assumption
    | with_reducible refine modArr_touch h_arrays ?_

theorem deliverRun_touch {s : State} {m : MvmRun} {phases : List (Int × Int)} (h_ops : W.ops = true) (hs : ChangesOnly W s₀ s) :
    ChangesOnly W s₀ (deliverRun s m phases) := by
  unfold deliverRun
  repeat' first
    | with_reducible assumption
    | with_reducible refine arriveOut_touch h_ops ?_
    | with_reducible refine addSums_touch h_ops ?_

theorem dropRun_touch {s : State} {m : MvmRun} (h_ops : W.ops = true) (hs : ChangesOnly W s₀ s) :
    ChangesOnly W s₀ (dropRun s m) := by
  unfold dropRun
  repeat' first
    | with_reducible assumption
    | fail_if_no_progress (with_reducible refine touch_mk ?_ ⟨rfl, rfl, fun _ => rfl, fun _ => rfl, fun _ => rfl, fun _ => rfl, fun _ => rfl, fun _ => rfl, fun _ => rfl, fun _ => rfl, fun _ => rfl, off_of_on h_ops, fun _ => rfl, fun _ => rfl, fun _ => rfl, fun _ => rfl, fun _ => rfl, fun _ => rfl, fun _ => rfl, fun _ => rfl, fun _ => rfl, fun _ => rfl, fun _ => rfl, fun _ => rfl, fun _ => rfl, fun _ => rfl, fun _ => rfl, fun _ => rfl, fun _ => rfl, fun _ => rfl, fun _ => rfl, fun _ => rfl, fun _ => rfl⟩)

theorem queueSuspect_touch {s : State} {q : Suspect} (h_runs : W.runs = true) (h_tiles : W.tiles = true) (h_arrays : W.arrays = true) (h_ops : W.ops = true) (h_sync : W.sync = true) (h_traffic : W.traffic = true) (h_ev : W.ev = true) (h_hl : W.hl = true) (h_outbox : W.outbox = true) (hs : ChangesOnly W s₀ s) :
    ChangesOnly W s₀ (queueSuspect s q) := by
  unfold queueSuspect
  repeat' first
    | with_reducible assumption
    | with_reducible refine tally_touch h_runs ?_
    | with_reducible refine active_touch h_traffic ?_
    | with_reducible refine modOut_touch h_ops ?_
    | with_reducible refine parityError_touch h_arrays h_traffic h_ev h_outbox ?_
    | with_reducible refine enterQueue_touch h_runs h_sync h_traffic h_ev h_hl h_outbox ?_ (fun _ _ => ?_)
    | with_reducible refine modTile_touch h_tiles ?_
    | with_reducible refine touch_ite (fun _ => ?_) (fun _ => ?_)

theorem writeOutput_touch {s : State} {o : GroupOut} (h_tileMem : W.tileMem = true) (h_traffic : W.traffic = true) (hs : ChangesOnly W s₀ s) :
    ChangesOnly W s₀ (writeOutput s o) := by
  unfold writeOutput
  repeat' first
    | with_reducible assumption
    | with_reducible refine writeTile_touch h_tileMem ?_
    | with_reducible refine active_touch h_traffic ?_

theorem correctOutput_touch {s : State} {gen : Nat} {group : Nat} {vec : Nat} {diffs : List Int} (h_ops : W.ops = true) (h_tileMem : W.tileMem = true) (h_traffic : W.traffic = true) (hs : ChangesOnly W s₀ s) :
    ChangesOnly W s₀ (correctOutput s gen group vec diffs) := by
  unfold correctOutput
  repeat' first
    | with_reducible assumption
    | with_reducible refine addSums_touch h_ops ?_
    | with_reducible refine writeOutput_touch h_tileMem h_traffic ?_
    | with_reducible refine touch_ite (fun _ => ?_) (fun _ => ?_)
    | split
    | (dsimp only; split)

theorem prismVerdict_touch {s : State} {q : Suspect} (h_runs : W.runs = true) (h_tiles : W.tiles = true) (h_arrays : W.arrays = true) (h_ops : W.ops = true) (h_hbm : W.hbm = true) (h_tileMem : W.tileMem = true) (h_upd : W.upd = true) (h_traffic : W.traffic = true) (h_ev : W.ev = true) (h_hl : W.hl = true) (h_outbox : W.outbox = true) (hs : ChangesOnly W s₀ s) :
    ChangesOnly W s₀ (prismVerdict s q) := by
  unfold prismVerdict
  repeat' first
    | with_reducible assumption
    | with_reducible refine modOut_touch h_ops ?_
    | with_reducible refine tally_touch h_runs ?_
    | with_reducible refine noteExc_touch h_runs ?_
    | with_reducible refine raise_touch h_traffic h_ev h_outbox ?_
    | with_reducible refine regenerate_touch h_arrays ?_
    | with_reducible refine correctOutput_touch h_ops h_tileMem h_traffic ?_
    | with_reducible refine modArr_touch h_arrays ?_
    | with_reducible refine raiseCharged_touch h_traffic h_ev h_hl h_outbox ?_
    | with_reducible refine failCheck_touch h_runs h_tiles h_arrays h_ops h_hbm h_tileMem h_upd h_traffic h_ev h_outbox ?_
    | with_reducible refine noteLevel_touch h_runs ?_
    | with_reducible refine quarantineArray_touch h_arrays ?_
    | with_reducible refine touch_foldl ?_ (fun _ _ _ => ?_)
    | with_reducible refine touch_ite (fun _ => ?_) (fun _ => ?_)

theorem settleHead_touch {s : State} {tile : Nat} {res : Option ResidueErr} (h_runs : W.runs = true) (h_tiles : W.tiles = true) (h_arrays : W.arrays = true) (h_ops : W.ops = true) (h_hbm : W.hbm = true) (h_tileMem : W.tileMem = true) (h_upd : W.upd = true) (h_sync : W.sync = true) (h_traffic : W.traffic = true) (h_ev : W.ev = true) (h_hl : W.hl = true) (h_outbox : W.outbox = true) (hs : ChangesOnly W s₀ s) :
    ChangesOnly W s₀ (settleHead s tile res) := by
  unfold settleHead
  repeat' first
    | with_reducible assumption
    | with_reducible refine modTile_touch h_tiles ?_
    | with_reducible refine tally_touch h_runs ?_
    | with_reducible refine noteExc_touch h_runs ?_
    | with_reducible refine machineryError_touch h_runs h_sync h_traffic h_ev h_hl h_outbox ?_
    | with_reducible refine prismVerdict_touch h_runs h_tiles h_arrays h_ops h_hbm h_tileMem h_upd h_traffic h_ev h_hl h_outbox ?_
    | split

theorem execPrismArbitration_touch {tile : TileId} {res : Option ResidueErr} {cyc : Nat} {s : State} (h_cycle : W.cycle = true) (h_runs : W.runs = true) (h_tiles : W.tiles = true) (h_arrays : W.arrays = true) (h_ops : W.ops = true) (h_hbm : W.hbm = true) (h_tileMem : W.tileMem = true) (h_upd : W.upd = true) (h_sync : W.sync = true) (h_traffic : W.traffic = true) (h_ev : W.ev = true) (h_hl : W.hl = true) (h_outbox : W.outbox = true) (hs : ChangesOnly W s₀ s) :
    TouchR W s₀ (execPrismArbitration tile res cyc s) := by
  unfold execPrismArbitration
  repeat' first
    | with_reducible assumption
    | with_reducible refine touchR_next ?_
    | with_reducible refine settleHead_touch h_runs h_tiles h_arrays h_ops h_hbm h_tileMem h_upd h_sync h_traffic h_ev h_hl h_outbox ?_
    | with_reducible refine atCycle_touch h_cycle ?_

theorem takeReport_touch {s : State} {m : MvmRun} {r : LoupeReport} {phases : List (Int × Int)} {split : Bool} (h_runs : W.runs = true) (h_tiles : W.tiles = true) (h_arrays : W.arrays = true) (h_ops : W.ops = true) (h_hbm : W.hbm = true) (h_tileMem : W.tileMem = true) (h_upd : W.upd = true) (h_sync : W.sync = true) (h_traffic : W.traffic = true) (h_ev : W.ev = true) (h_hl : W.hl = true) (h_outbox : W.outbox = true) (hs : ChangesOnly W s₀ s) :
    ChangesOnly W s₀ (takeReport s m r phases split) := by
  unfold takeReport
  repeat' first
    | with_reducible assumption
    | with_reducible refine queueSuspect_touch h_runs h_tiles h_arrays h_ops h_sync h_traffic h_ev h_hl h_outbox ?_
    | with_reducible refine prismVerdict_touch h_runs h_tiles h_arrays h_ops h_hbm h_tileMem h_upd h_traffic h_ev h_hl h_outbox ?_
    | with_reducible refine tally_touch h_runs ?_
    | with_reducible refine checkReported_touch h_runs ?_
    | with_reducible refine touch_ite (fun _ => ?_) (fun _ => ?_)

theorem splitResult_touch {s : State} {m : MvmRun} (h_runs : W.runs = true) (h_tiles : W.tiles = true) (h_arrays : W.arrays = true) (h_ops : W.ops = true) (h_hbm : W.hbm = true) (h_tileMem : W.tileMem = true) (h_upd : W.upd = true) (h_sync : W.sync = true) (h_traffic : W.traffic = true) (h_ev : W.ev = true) (h_hl : W.hl = true) (h_outbox : W.outbox = true) (hs : ChangesOnly W s₀ s) :
    ChangesOnly W s₀ (splitResult s m) := by
  unfold splitResult
  repeat' first
    | with_reducible assumption
    | with_reducible refine deliverRun_touch h_ops ?_
    | with_reducible refine dropRun_touch h_ops ?_
    | with_reducible refine takeReport_touch h_runs h_tiles h_arrays h_ops h_hbm h_tileMem h_upd h_sync h_traffic h_ev h_hl h_outbox ?_

theorem normalResult_touch {s : State} {m : MvmRun} {slots : List (Fin 1562)} (h_runs : W.runs = true) (h_tiles : W.tiles = true) (h_arrays : W.arrays = true) (h_ops : W.ops = true) (h_hbm : W.hbm = true) (h_tileMem : W.tileMem = true) (h_upd : W.upd = true) (h_num : W.num = true) (h_sync : W.sync = true) (h_traffic : W.traffic = true) (h_ev : W.ev = true) (h_hl : W.hl = true) (h_outbox : W.outbox = true) (hs : ChangesOnly W s₀ s) :
    ChangesOnly W s₀ (normalResult s m slots) := by
  unfold normalResult
  repeat' first
    | with_reducible assumption
    | fail_if_no_progress (with_reducible refine touch_mk ?_ ⟨rfl, rfl, fun _ => rfl, fun _ => rfl, fun _ => rfl, fun _ => rfl, fun _ => rfl, fun _ => rfl, fun _ => rfl, fun _ => rfl, fun _ => rfl, off_of_on h_ops, fun _ => rfl, fun _ => rfl, fun _ => rfl, fun _ => rfl, fun _ => rfl, fun _ => rfl, fun _ => rfl, fun _ => rfl, fun _ => rfl, fun _ => rfl, fun _ => rfl, fun _ => rfl, fun _ => rfl, fun _ => rfl, fun _ => rfl, fun _ => rfl, fun _ => rfl, fun _ => rfl, fun _ => rfl, fun _ => rfl, fun _ => rfl⟩)
    | with_reducible refine addDrift_touch h_arrays ?_
    | with_reducible refine deliverRun_touch h_ops ?_
    | with_reducible refine dropRun_touch h_ops ?_
    | with_reducible refine takeReport_touch h_runs h_tiles h_arrays h_ops h_hbm h_tileMem h_upd h_sync h_traffic h_ev h_hl h_outbox ?_
    | with_reducible refine modTile_touch h_tiles ?_
    | with_reducible refine tally_touch h_runs ?_
    | with_reducible refine active_touch h_traffic ?_
    | with_reducible refine noteShares_touch h_runs h_num ?_
    | with_reducible refine touch_ite (fun _ => ?_) (fun _ => ?_)

theorem execMvmResult_touch {tile : TileId} {arr : ArrIdx} {slots : List (Fin 1562)} {cyc : Nat} {s : State} (h_cycle : W.cycle = true) (h_runs : W.runs = true) (h_tiles : W.tiles = true) (h_arrays : W.arrays = true) (h_ops : W.ops = true) (h_hbm : W.hbm = true) (h_tileMem : W.tileMem = true) (h_upd : W.upd = true) (h_num : W.num = true) (h_sync : W.sync = true) (h_traffic : W.traffic = true) (h_ev : W.ev = true) (h_hl : W.hl = true) (h_outbox : W.outbox = true) (hs : ChangesOnly W s₀ s) :
    TouchR W s₀ (execMvmResult tile arr slots cyc s) := by
  unfold execMvmResult
  repeat' first
    | with_reducible assumption
    | with_reducible refine touchR_next ?_
    | with_reducible refine atCycle_touch h_cycle ?_
    | with_reducible refine splitResult_touch h_runs h_tiles h_arrays h_ops h_hbm h_tileMem h_upd h_sync h_traffic h_ev h_hl h_outbox ?_
    | with_reducible refine normalResult_touch h_runs h_tiles h_arrays h_ops h_hbm h_tileMem h_upd h_num h_sync h_traffic h_ev h_hl h_outbox ?_
    | with_reducible refine touch_ite (fun _ => ?_) (fun _ => ?_)
    | split

theorem execSplitRerun_touch {tile : TileId} {arr : ArrIdx} {cyc : Nat} {s : State} (h_cycle : W.cycle = true) (h_runs : W.runs = true) (h_tiles : W.tiles = true) (h_arrays : W.arrays = true) (h_ops : W.ops = true) (h_hbm : W.hbm = true) (h_tileMem : W.tileMem = true) (h_upd : W.upd = true) (h_sync : W.sync = true) (h_traffic : W.traffic = true) (h_ev : W.ev = true) (h_hl : W.hl = true) (h_outbox : W.outbox = true) (hs : ChangesOnly W s₀ s) :
    TouchR W s₀ (execSplitRerun tile arr cyc s) := by
  unfold execSplitRerun
  repeat' first
    | with_reducible assumption
    | with_reducible refine touchR_next ?_
    | with_reducible refine atCycle_touch h_cycle ?_
    | with_reducible refine splitResult_touch h_runs h_tiles h_arrays h_ops h_hbm h_tileMem h_upd h_sync h_traffic h_ev h_hl h_outbox ?_
    | with_reducible refine active_touch h_traffic ?_
    | split

theorem noteNonFiniteRow_touch {s : State} {gen : Nat} {t : Nat} {op : Nat} {fl : Option (Nat × Nat × Nat)} (h_runs : W.runs = true) (h_traffic : W.traffic = true) (h_ev : W.ev = true) (h_outbox : W.outbox = true) (hs : ChangesOnly W s₀ s) :
    ChangesOnly W s₀ (noteNonFiniteRow s gen t op fl) := by
  unfold noteNonFiniteRow
  repeat' first
    | with_reducible assumption
    | with_reducible refine modGen_touch h_runs ?_
    | with_reducible refine noteNonFinite_touch h_runs h_traffic h_ev h_outbox ?_
    | with_reducible refine touch_ite (fun _ => ?_) (fun _ => ?_)
    | split

theorem convertOutput_touch {s : State} {o : GroupOut} (h_runs : W.runs = true) (h_ops : W.ops = true) (h_tileMem : W.tileMem = true) (h_num : W.num = true) (h_traffic : W.traffic = true) (h_ev : W.ev = true) (h_outbox : W.outbox = true) (hs : ChangesOnly W s₀ s) :
    ChangesOnly W s₀ (convertOutput s o) := by
  unfold convertOutput
  repeat' first
    | with_reducible assumption
    | with_reducible refine tally_touch h_runs ?_
    | with_reducible refine noteNonFiniteRow_touch h_runs h_traffic h_ev h_outbox ?_
    | with_reducible refine writeOutput_touch h_tileMem h_traffic ?_
    | with_reducible refine noteFloats_touch h_runs h_num ?_
    | with_reducible refine noteShares_touch h_runs h_num ?_
    | with_reducible refine modOut_touch h_ops ?_
    | with_reducible refine tryFinishMvm_touch h_runs ?_
    | with_reducible refine touch_foldl ?_ (fun _ _ _ => ?_)

theorem execOutputConversion_touch {tile : TileId} {group : Half} {vec : Fin 1562} {s : State} (h_runs : W.runs = true) (h_ops : W.ops = true) (h_tileMem : W.tileMem = true) (h_num : W.num = true) (h_traffic : W.traffic = true) (h_ev : W.ev = true) (h_outbox : W.outbox = true) (hs : ChangesOnly W s₀ s) :
    TouchR W s₀ (execOutputConversion tile group vec s) := by
  unfold execOutputConversion
  repeat' first
    | with_reducible assumption
    | with_reducible refine touchR_next ?_
    | with_reducible refine convertOutput_touch h_runs h_ops h_tileMem h_num h_traffic h_ev h_outbox ?_
    | with_reducible refine touch_ite (fun _ => ?_) (fun _ => ?_)
    | split

theorem execEventQueueEntry_touch {tile : TileId} {e : QueueEvent} {cyc : Nat} {s : State} (h_cycle : W.cycle = true) (h_runs : W.runs = true) (h_tiles : W.tiles = true) (h_arrays : W.arrays = true) (h_ops : W.ops = true) (h_hbm : W.hbm = true) (h_tileMem : W.tileMem = true) (h_upd : W.upd = true) (h_sync : W.sync = true) (h_traffic : W.traffic = true) (h_ev : W.ev = true) (h_hl : W.hl = true) (h_outbox : W.outbox = true) (hs : ChangesOnly W s₀ s) :
    TouchR W s₀ (execEventQueueEntry tile e cyc s) := by
  unfold execEventQueueEntry
  repeat' first
    | with_reducible assumption
    | with_reducible refine touchR_next ?_
    | with_reducible refine atCycle_touch h_cycle ?_
    | with_reducible refine enterQueue_touch h_runs h_sync h_traffic h_ev h_hl h_outbox ?_ (fun _ _ => ?_)
    | with_reducible refine machineryError_touch h_runs h_sync h_traffic h_ev h_hl h_outbox ?_
    | with_reducible refine residueMismatch_touch h_runs h_tiles h_arrays h_ops h_hbm h_tileMem h_upd h_traffic h_ev h_hl h_outbox ?_
    | with_reducible refine poisonConsumed_touch h_runs h_tiles h_arrays h_ops h_hbm h_tileMem h_upd h_sync h_traffic h_ev h_outbox ?_
    | with_reducible refine noteLevel_touch h_runs ?_
    | with_reducible refine failCheck_touch h_runs h_tiles h_arrays h_ops h_hbm h_tileMem h_upd h_traffic h_ev h_outbox ?_
    | with_reducible refine touch_ite (fun _ => ?_) (fun _ => ?_)
    | split

theorem execCheckDeadlineExpiry_touch {tile : TileId} {op : Fin 1048576} {cyc : Nat} {s : State} (h_cycle : W.cycle = true) (h_runs : W.runs = true) (h_tiles : W.tiles = true) (h_arrays : W.arrays = true) (h_ops : W.ops = true) (h_hbm : W.hbm = true) (h_tileMem : W.tileMem = true) (h_upd : W.upd = true) (h_sync : W.sync = true) (h_traffic : W.traffic = true) (h_ev : W.ev = true) (h_hl : W.hl = true) (h_outbox : W.outbox = true) (hs : ChangesOnly W s₀ s) :
    TouchR W s₀ (execCheckDeadlineExpiry tile op cyc s) := by
  unfold execCheckDeadlineExpiry
  repeat' first
    | with_reducible assumption
    | with_reducible refine touchR_next ?_
    | with_reducible refine atCycle_touch h_cycle ?_
    | with_reducible refine enterQueue_touch h_runs h_sync h_traffic h_ev h_hl h_outbox ?_ (fun _ _ => ?_)
    | with_reducible refine noteLevel_touch h_runs ?_
    | with_reducible refine failCheck_touch h_runs h_tiles h_arrays h_ops h_hbm h_tileMem h_upd h_traffic h_ev h_outbox ?_
    | with_reducible refine touch_ite (fun _ => ?_) (fun _ => ?_)
    | split

theorem applyReads_touch {s : State} {k : Nat} {reads : List CellRead} (h_cells : W.cells = true) (hs : ChangesOnly W s₀ s) :
    ChangesOnly W s₀ (applyReads s k reads) := by
  unfold applyReads
  repeat' first
    | with_reducible assumption
    | with_reducible refine setLevel_touch h_cells ?_
    | with_reducible refine touch_foldl ?_ (fun _ _ _ => ?_)

theorem readbackSlot_touch {s : State} {k : Nat} {slot : Nat} {reads : List CellRead} (h_runs : W.runs = true) (h_arrays : W.arrays = true) (h_cells : W.cells = true) (h_traffic : W.traffic = true) (h_ev : W.ev = true) (h_outbox : W.outbox = true) (hs : ChangesOnly W s₀ s) :
    ChangesOnly W s₀ (readbackSlot s k slot reads) := by
  unfold readbackSlot
  repeat' first
    | with_reducible assumption
    | with_reducible refine applyReads_touch h_cells ?_
    | with_reducible refine modArr_touch h_arrays ?_
    | with_reducible refine setVectors_touch h_arrays ?_
    | with_reducible refine addExc_touch h_runs ?_
    | with_reducible refine raise_touch h_traffic h_ev h_outbox ?_
    | with_reducible refine touch_foldl ?_ (fun _ _ _ => ?_)
    | with_reducible refine touch_ite (fun _ => ?_) (fun _ => ?_)

theorem execVectorReadbackSlot_touch {tile : TileId} {arr : ArrIdx} {reads : List CellRead} {s : State} (h_runs : W.runs = true) (h_arrays : W.arrays = true) (h_cells : W.cells = true) (h_traffic : W.traffic = true) (h_ev : W.ev = true) (h_outbox : W.outbox = true) (hs : ChangesOnly W s₀ s) :
    TouchR W s₀ (execVectorReadbackSlot tile arr reads s) := by
  unfold execVectorReadbackSlot
  repeat' first
    | with_reducible assumption
    | with_reducible refine touchR_next ?_
    | with_reducible refine readbackSlot_touch h_runs h_arrays h_cells h_traffic h_ev h_outbox ?_
    | split

theorem scanArray_touch {s : State} {version : Nat} {k : Nat} (h_arrays : W.arrays = true) (h_traffic : W.traffic = true) (h_ev : W.ev = true) (h_outbox : W.outbox = true) (hs : ChangesOnly W s₀ s) :
    ChangesOnly W s₀ (scanArray s version k) := by
  unfold scanArray
  repeat' first
    | with_reducible assumption
    | with_reducible refine modArr_touch h_arrays ?_
    | with_reducible refine raise_touch h_traffic h_ev h_outbox ?_
    | with_reducible refine touch_foldl ?_ (fun _ _ _ => ?_)
    | with_reducible refine touch_ite (fun _ => ?_) (fun _ => ?_)

theorem execProgrammingSpanStart_touch {s : State} (h_arrays : W.arrays = true) (h_plan : W.plan = true) (h_traffic : W.traffic = true) (h_ev : W.ev = true) (h_outbox : W.outbox = true) (hs : ChangesOnly W s₀ s) :
    TouchR W s₀ (execProgrammingSpanStart s) := by
  unfold execProgrammingSpanStart
  repeat' first
    | with_reducible assumption
    | fail_if_no_progress (with_reducible refine touch_mk ?_ ⟨rfl, rfl, fun _ => rfl, fun _ => rfl, fun _ => rfl, fun _ => rfl, fun _ => rfl, fun _ => rfl, fun _ => rfl, fun _ => rfl, fun _ => rfl, fun _ => rfl, fun _ => rfl, fun _ => rfl, fun _ => rfl, fun _ => rfl, fun _ => rfl, fun _ => rfl, fun _ => rfl, off_of_on h_plan, fun _ => rfl, fun _ => rfl, fun _ => rfl, fun _ => rfl, fun _ => rfl, fun _ => rfl, fun _ => rfl, fun _ => rfl, fun _ => rfl, fun _ => rfl, fun _ => rfl, fun _ => rfl, fun _ => rfl⟩)
    | with_reducible refine touchR_next ?_
    | with_reducible refine scanArray_touch h_arrays h_traffic h_ev h_outbox ?_
    | with_reducible refine touch_foldl ?_ (fun _ _ _ => ?_)
    | with_reducible refine touch_ite (fun _ => ?_) (fun _ => ?_)
    | split

theorem programOp_touch {f : PlanFrame} {u1 : Template} {d : Desc} {s : State} (h_tiles : W.tiles = true) (hs : ChangesOnly W s₀ s) :
    ChangesOnly W s₀ (programOp f u1 d s) := by
  unfold programOp
  repeat' first
    | with_reducible assumption
    | with_reducible refine modTile_touch h_tiles ?_
    | with_reducible refine touch_ite (fun _ => ?_) (fun _ => ?_)

theorem execProgram_touch {op : Fin 1048576} {cyc : Nat} {s : State} (h_cycle : W.cycle = true) (h_runs : W.runs = true) (h_tiles : W.tiles = true) (hs : ChangesOnly W s₀ s) :
    TouchR W s₀ (execProgram op cyc s) := by
  unfold execProgram
  repeat' first
    | with_reducible assumption
    | with_reducible refine touchR_next ?_
    | with_reducible refine withOp_touch h_runs ?_ (fun _ _ _ _ _ => ?_)
    | with_reducible refine atCycle_touch h_cycle ?_
    | with_reducible refine programOp_touch h_tiles ?_

theorem startRow_touch {s : State} {k : Nat} (h_tiles : W.tiles = true) (h_arrays : W.arrays = true) (hs : ChangesOnly W s₀ s) :
    ChangesOnly W s₀ (startRow s k) := by
  unfold startRow
  repeat' first
    | with_reducible assumption
    | with_reducible refine modTile_touch h_tiles ?_
    | with_reducible refine modArr_touch h_arrays ?_
    | with_reducible refine touch_ite (fun _ => ?_) (fun _ => ?_)
    | split

theorem pulseSlot_touch {s : State} {k : Nat} {job : RowJob} {meas : List CellMeasure} (h_arrays : W.arrays = true) (h_cells : W.cells = true) (h_traffic : W.traffic = true) (hs : ChangesOnly W s₀ s) :
    ChangesOnly W s₀ (pulseSlot s k job meas) := by
  unfold pulseSlot
  repeat' first
    | with_reducible assumption
    | with_reducible refine setLevel_touch h_cells ?_
    | with_reducible refine active_touch h_traffic ?_
    | with_reducible refine modArr_touch h_arrays ?_
    | with_reducible refine touch_foldl ?_ (fun _ _ _ => ?_)

theorem returnReserve_touch {s : State} {k : Nat} {job : RowJob} (h_tiles : W.tiles = true) (hs : ChangesOnly W s₀ s) :
    ChangesOnly W s₀ (returnReserve s k job) := by
  unfold returnReserve
  repeat' first
    | with_reducible assumption
    | with_reducible refine modTile_touch h_tiles ?_
    | with_reducible refine touch_ite (fun _ => ?_) (fun _ => ?_)

theorem settleFailure_touch {s : State} {k : Nat} (h_runs : W.runs = true) (h_arrays : W.arrays = true) (h_traffic : W.traffic = true) (h_ev : W.ev = true) (h_hl : W.hl = true) (h_outbox : W.outbox = true) (hs : ChangesOnly W s₀ s) :
    ChangesOnly W s₀ (settleFailure s k) := by
  unfold settleFailure
  repeat' first
    | with_reducible assumption
    | with_reducible refine charge_touch h_traffic h_ev h_hl h_outbox ?_
    | with_reducible refine quarantineL2_touch h_runs h_arrays h_traffic h_ev h_outbox ?_

theorem pinWeight_touch {s : State} {k : Nat} {row : Nat} {col : Nat} (h_arrays : W.arrays = true) (h_traffic : W.traffic = true) (h_ev : W.ev = true) (h_hl : W.hl = true) (h_outbox : W.outbox = true) (hs : ChangesOnly W s₀ s) :
    ChangesOnly W s₀ (pinWeight s k row col) := by
  unfold pinWeight
  repeat' first
    | with_reducible assumption
    | with_reducible refine raise_touch h_traffic h_ev h_outbox ?_
    | with_reducible refine modArr_touch h_arrays ?_
    | with_reducible refine raiseCharged_touch h_traffic h_ev h_hl h_outbox ?_
    | with_reducible refine touch_ite (fun _ => ?_) (fun _ => ?_)

theorem endRow_touch {s : State} {k : Nat} {job : RowJob} (h_tiles : W.tiles = true) (h_arrays : W.arrays = true) (hs : ChangesOnly W s₀ s) :
    ChangesOnly W s₀ (endRow s k job) := by
  unfold endRow
  repeat' first
    | with_reducible assumption
    | with_reducible refine returnReserve_touch h_tiles ?_
    | with_reducible refine modArr_touch h_arrays ?_

theorem readSlot_touch {s : State} {k : Nat} {job : RowJob} {meas : List CellMeasure} (h_runs : W.runs = true) (h_tiles : W.tiles = true) (h_arrays : W.arrays = true) (h_cells : W.cells = true) (h_traffic : W.traffic = true) (h_ev : W.ev = true) (h_hl : W.hl = true) (h_outbox : W.outbox = true) (hs : ChangesOnly W s₀ s) :
    ChangesOnly W s₀ (readSlot s k job meas) := by
  unfold readSlot
  repeat' first
    | with_reducible assumption
    | with_reducible refine setLevel_touch h_cells ?_
    | with_reducible refine settled_touch h_wire h_traffic h_ev h_outbox h_mail ?_
    | with_reducible refine pinWeight_touch h_arrays h_traffic h_ev h_hl h_outbox ?_
    | with_reducible refine endRow_touch h_tiles h_arrays ?_
    | with_reducible refine settleFailure_touch h_runs h_arrays h_traffic h_ev h_hl h_outbox ?_
    | with_reducible refine modArr_touch h_arrays ?_
    | with_reducible refine touch_foldl ?_ (fun _ _ _ => ?_)
    | with_reducible refine touch_ite (fun _ => ?_) (fun _ => ?_)

theorem programmingSlotOn_touch {s : State} {k : Nat} {meas : List CellMeasure} (h_runs : W.runs = true) (h_tiles : W.tiles = true) (h_arrays : W.arrays = true) (h_cells : W.cells = true) (h_traffic : W.traffic = true) (h_ev : W.ev = true) (h_hl : W.hl = true) (h_outbox : W.outbox = true) (hs : ChangesOnly W s₀ s) :
    ChangesOnly W s₀ (programmingSlotOn s k meas) := by
  unfold programmingSlotOn
  repeat' first
    | with_reducible assumption
    | with_reducible refine startRow_touch h_tiles h_arrays ?_
    | with_reducible refine readSlot_touch h_runs h_tiles h_arrays h_cells h_traffic h_ev h_hl h_outbox ?_
    | with_reducible refine pulseSlot_touch h_arrays h_cells h_traffic ?_
    | with_reducible refine touch_ite (fun _ => ?_) (fun _ => ?_)
    | split
    | (dsimp only; split)

theorem execProgrammingSlot_touch {tile : TileId} {arr : ArrIdx} {meas : List CellMeasure} {cyc : Nat} {s : State} (h_cycle : W.cycle = true) (h_runs : W.runs = true) (h_tiles : W.tiles = true) (h_arrays : W.arrays = true) (h_cells : W.cells = true) (h_traffic : W.traffic = true) (h_ev : W.ev = true) (h_hl : W.hl = true) (h_outbox : W.outbox = true) (hs : ChangesOnly W s₀ s) :
    TouchR W s₀ (execProgrammingSlot tile arr meas cyc s) := by
  unfold execProgrammingSlot
  repeat' first
    | with_reducible assumption
    | with_reducible refine touchR_next ?_
    | with_reducible refine atCycle_touch h_cycle ?_
    | with_reducible refine programmingSlotOn_touch h_runs h_tiles h_arrays h_cells h_traffic h_ev h_hl h_outbox ?_
    | with_reducible refine touch_ite (fun _ => ?_) (fun _ => ?_)

theorem switchRow_touch {s : State} {k : Nat} {sw : RowSwitch} {pos : Nat} (h_arrays : W.arrays = true) (h_tileMem : W.tileMem = true) (h_plan : W.plan = true) (hs : ChangesOnly W s₀ s) :
    ChangesOnly W s₀ (switchRow s k sw pos) := by
  unfold switchRow
  repeat' first
    | with_reducible assumption
    | fail_if_no_progress (with_reducible refine touch_mk ?_ ⟨rfl, rfl, fun _ => rfl, fun _ => rfl, fun _ => rfl, fun _ => rfl, fun _ => rfl, fun _ => rfl, fun _ => rfl, fun _ => rfl, fun _ => rfl, fun _ => rfl, fun _ => rfl, fun _ => rfl, fun _ => rfl, fun _ => rfl, fun _ => rfl, fun _ => rfl, fun _ => rfl, off_of_on h_plan, fun _ => rfl, fun _ => rfl, fun _ => rfl, fun _ => rfl, fun _ => rfl, fun _ => rfl, fun _ => rfl, fun _ => rfl, fun _ => rfl, fun _ => rfl, fun _ => rfl, fun _ => rfl, fun _ => rfl⟩)
    | with_reducible refine setImageRow_touch h_tileMem ?_
    | with_reducible refine setVectors_touch h_arrays ?_
    | with_reducible refine modArr_touch h_arrays ?_

theorem wearTick_touch {s : State} {k : Nat} {frame : Nat} (h_arrays : W.arrays = true) (h_traffic : W.traffic = true) (h_ev : W.ev = true) (h_outbox : W.outbox = true) (hs : ChangesOnly W s₀ s) :
    ChangesOnly W s₀ (wearTick s k frame) := by
  unfold wearTick
  repeat' first
    | with_reducible assumption
    | with_reducible refine modArr_touch h_arrays ?_
    | with_reducible refine raise_touch h_traffic h_ev h_outbox ?_
    | with_reducible refine touch_ite (fun _ => ?_) (fun _ => ?_)

theorem refreshTick_touch {s : State} {k : Nat} {frame : Nat} (h_arrays : W.arrays = true) (hs : ChangesOnly W s₀ s) :
    ChangesOnly W s₀ (refreshTick s k frame) := by
  unfold refreshTick
  repeat' first
    | with_reducible assumption
    | with_reducible refine modArr_touch h_arrays ?_
    | with_reducible refine touch_ite (fun _ => ?_) (fun _ => ?_)

theorem mordantArrayTick_touch {s : State} {frame : Nat} {pos : Nat} {k : Nat} (h_arrays : W.arrays = true) (h_tileMem : W.tileMem = true) (h_plan : W.plan = true) (h_traffic : W.traffic = true) (h_ev : W.ev = true) (h_outbox : W.outbox = true) (hs : ChangesOnly W s₀ s) :
    ChangesOnly W s₀ (mordantArrayTick s frame pos k) := by
  unfold mordantArrayTick
  repeat' first
    | with_reducible assumption
    | with_reducible refine switchRow_touch h_arrays h_tileMem h_plan ?_
    | with_reducible refine wearTick_touch h_arrays h_traffic h_ev h_outbox ?_
    | with_reducible refine modArr_touch h_arrays ?_
    | with_reducible refine refreshTick_touch h_arrays ?_
    | with_reducible refine touch_foldl ?_ (fun _ _ _ => ?_)
    | with_reducible refine touch_ite (fun _ => ?_) (fun _ => ?_)
    | split
    | (dsimp only; split)

theorem mordantTick_touch {s : State} {frame : Nat} {pos : Nat} (h_tiles : W.tiles = true) (h_arrays : W.arrays = true) (h_tileMem : W.tileMem = true) (h_plan : W.plan = true) (h_traffic : W.traffic = true) (h_ev : W.ev = true) (h_outbox : W.outbox = true) (hs : ChangesOnly W s₀ s) :
    ChangesOnly W s₀ (mordantTick s frame pos) := by
  unfold mordantTick
  repeat' first
    | with_reducible assumption
    | with_reducible refine mordantArrayTick_touch h_arrays h_tileMem h_plan h_traffic h_ev h_outbox ?_
    | with_reducible refine modTile_touch h_tiles ?_
    | with_reducible refine touch_foldl ?_ (fun _ _ _ => ?_)

theorem spanTick_touch {s : State} (h_frame : W.frame = true) (h_plan : W.plan = true) (hs : ChangesOnly W s₀ s) :
    ChangesOnly W s₀ (spanTick s) := by
  unfold spanTick
  repeat' first
    | with_reducible assumption
    | fail_if_no_progress (with_reducible refine touch_mk ?_ ⟨rfl, rfl, fun _ => rfl, fun _ => rfl, fun _ => rfl, fun _ => rfl, off_of_on h_frame, fun _ => rfl, fun _ => rfl, fun _ => rfl, fun _ => rfl, fun _ => rfl, fun _ => rfl, fun _ => rfl, fun _ => rfl, fun _ => rfl, fun _ => rfl, fun _ => rfl, fun _ => rfl, off_of_on h_plan, fun _ => rfl, fun _ => rfl, fun _ => rfl, fun _ => rfl, fun _ => rfl, fun _ => rfl, fun _ => rfl, fun _ => rfl, fun _ => rfl, fun _ => rfl, fun _ => rfl, fun _ => rfl, fun _ => rfl⟩)
    | with_reducible refine touch_ite (fun _ => ?_) (fun _ => ?_)
    | split

theorem commitDrift_touch {s : State} {gen : Nat} {k : Nat} (h_arrays : W.arrays = true) (h_traffic : W.traffic = true) (h_ev : W.ev = true) (h_outbox : W.outbox = true) (hs : ChangesOnly W s₀ s) :
    ChangesOnly W s₀ (commitDrift s gen k) := by
  unfold commitDrift
  repeat' first
    | with_reducible assumption
    | with_reducible refine modArr_touch h_arrays ?_
    | with_reducible refine raise_touch h_traffic h_ev h_outbox ?_
    | with_reducible refine touch_ite (fun _ => ?_) (fun _ => ?_)
    | split
    | (dsimp only; split)

theorem dropDrift_touch {s : State} {gen : Nat} {k : Nat} (h_arrays : W.arrays = true) (hs : ChangesOnly W s₀ s) :
    ChangesOnly W s₀ (dropDrift s gen k) := by
  unfold dropDrift
  repeat' first
    | with_reducible assumption
    | with_reducible refine modArr_touch h_arrays ?_

theorem calFailed_touch {s : State} {k : Nat} (h_runs : W.runs = true) (h_arrays : W.arrays = true) (h_traffic : W.traffic = true) (h_ev : W.ev = true) (h_hl : W.hl = true) (h_outbox : W.outbox = true) (hs : ChangesOnly W s₀ s) :
    ChangesOnly W s₀ (calFailed s k) := by
  unfold calFailed
  repeat' first
    | with_reducible assumption
    | with_reducible refine modArr_touch h_arrays ?_
    | with_reducible refine charge_touch h_traffic h_ev h_hl h_outbox ?_
    | with_reducible refine quarantineL2_touch h_runs h_arrays h_traffic h_ev h_outbox ?_
    | with_reducible refine touch_ite (fun _ => ?_) (fun _ => ?_)

theorem calibrate_touch {s : State} {k : Nat} (h_free : W.free = true) (h_runs : W.runs = true) (h_arrays : W.arrays = true) (h_traffic : W.traffic = true) (h_ev : W.ev = true) (h_hl : W.hl = true) (h_outbox : W.outbox = true) (hs : ChangesOnly W s₀ s) :
    ChangesOnly W s₀ (calibrate s k) := by
  unfold calibrate
  repeat' first
    | with_reducible assumption
    | fail_if_no_progress (with_reducible refine touch_mk ?_ ⟨rfl, rfl, off_of_on h_free, fun _ => rfl, fun _ => rfl, fun _ => rfl, fun _ => rfl, fun _ => rfl, fun _ => rfl, fun _ => rfl, fun _ => rfl, fun _ => rfl, fun _ => rfl, fun _ => rfl, fun _ => rfl, fun _ => rfl, fun _ => rfl, fun _ => rfl, fun _ => rfl, fun _ => rfl, fun _ => rfl, fun _ => rfl, fun _ => rfl, fun _ => rfl, fun _ => rfl, fun _ => rfl, fun _ => rfl, fun _ => rfl, fun _ => rfl, fun _ => rfl, fun _ => rfl, fun _ => rfl, fun _ => rfl⟩)
    | with_reducible refine modArr_touch h_arrays ?_
    | with_reducible refine calFailed_touch h_runs h_arrays h_traffic h_ev h_hl h_outbox ?_
    | with_reducible refine touch_ite (fun _ => ?_) (fun _ => ?_)

theorem execCalibration_touch {tile : TileId} {arr : ArrIdx} {s : State} (h_free : W.free = true) (h_runs : W.runs = true) (h_arrays : W.arrays = true) (h_traffic : W.traffic = true) (h_ev : W.ev = true) (h_hl : W.hl = true) (h_outbox : W.outbox = true) (hs : ChangesOnly W s₀ s) :
    TouchR W s₀ (execCalibration tile arr s) := by
  unfold execCalibration
  repeat' first
    | with_reducible assumption
    | with_reducible refine touchR_next ?_
    | with_reducible refine calibrate_touch h_free h_runs h_arrays h_traffic h_ev h_hl h_outbox ?_

theorem arrayTick_touch {s : State} {frame : Nat} {k : Nat} (h_arrays : W.arrays = true) (hs : ChangesOnly W s₀ s) :
    ChangesOnly W s₀ (arrayTick s frame k) := by
  unfold arrayTick
  repeat' first
    | with_reducible assumption
    | with_reducible refine modArr_touch h_arrays ?_

theorem copyBytes_touch {s : State} {gen : Nat} {tile : Nat} {op : Nat} {src : Place} {dst : Place} {n : Nat} (h_runs : W.runs = true) (h_tiles : W.tiles = true) (h_arrays : W.arrays = true) (h_ops : W.ops = true) (h_hbm : W.hbm = true) (h_tileMem : W.tileMem = true) (h_upd : W.upd = true) (h_sync : W.sync = true) (h_traffic : W.traffic = true) (h_ev : W.ev = true) (h_hl : W.hl = true) (h_outbox : W.outbox = true) (hs : ChangesOnly W s₀ s) :
    ChangesOnly W s₀ (copyBytes s gen tile op src dst n) := by
  unfold copyBytes
  repeat' first
    | with_reducible assumption
    | with_reducible refine countWrite_touch h_traffic ?_
    | with_reducible refine countRead_touch h_ops h_traffic ?_
    | with_reducible refine placeWrite_touch h_hbm h_tileMem h_traffic ?_
    | with_reducible refine checkPoison_touch h_runs h_tiles h_arrays h_ops h_hbm h_tileMem h_upd h_sync h_traffic h_ev h_hl h_outbox ?_

theorem transposedCopy_touch {s : State} {gen : Nat} {tile : Nat} {op : Nat} {src : Place} {dst : Place} {d : Desc} (h_runs : W.runs = true) (h_tiles : W.tiles = true) (h_arrays : W.arrays = true) (h_ops : W.ops = true) (h_hbm : W.hbm = true) (h_tileMem : W.tileMem = true) (h_upd : W.upd = true) (h_sync : W.sync = true) (h_traffic : W.traffic = true) (h_ev : W.ev = true) (h_hl : W.hl = true) (h_outbox : W.outbox = true) (hs : ChangesOnly W s₀ s) :
    ChangesOnly W s₀ (transposedCopy s gen tile op src dst d) := by
  unfold transposedCopy
  repeat' first
    | with_reducible assumption
    | with_reducible refine countWrite_touch h_traffic ?_
    | with_reducible refine countRead_touch h_ops h_traffic ?_
    | with_reducible refine checkPoison_touch h_runs h_tiles h_arrays h_ops h_hbm h_tileMem h_upd h_sync h_traffic h_ev h_hl h_outbox ?_
    | with_reducible refine placeWrite_touch h_hbm h_tileMem h_traffic ?_

theorem issuePrefetch_touch {s : State} {t : Template} {f : PlanFrame} {d : Desc} {dst : Place} (h_ctx : W.ctx = true) (hs : ChangesOnly W s₀ s) :
    ChangesOnly W s₀ (issuePrefetch s t f d dst) := by
  unfold issuePrefetch
  repeat' first
    | with_reducible assumption
    | fail_if_no_progress (with_reducible refine touch_mk ?_ ⟨rfl, rfl, fun _ => rfl, fun _ => rfl, fun _ => rfl, fun _ => rfl, fun _ => rfl, fun _ => rfl, fun _ => rfl, fun _ => rfl, fun _ => rfl, fun _ => rfl, fun _ => rfl, fun _ => rfl, fun _ => rfl, fun _ => rfl, fun _ => rfl, fun _ => rfl, fun _ => rfl, fun _ => rfl, fun _ => rfl, fun _ => rfl, fun _ => rfl, fun _ => rfl, fun _ => rfl, fun _ => rfl, off_of_on h_ctx, fun _ => rfl, fun _ => rfl, fun _ => rfl, fun _ => rfl, fun _ => rfl, fun _ => rfl⟩)

theorem dmaOp_touch {f : PlanFrame} {t : Template} {d : Desc} {s : State} (h_runs : W.runs = true) (h_tiles : W.tiles = true) (h_arrays : W.arrays = true) (h_ops : W.ops = true) (h_hbm : W.hbm = true) (h_tileMem : W.tileMem = true) (h_upd : W.upd = true) (h_sync : W.sync = true) (h_traffic : W.traffic = true) (h_ctx : W.ctx = true) (h_ev : W.ev = true) (h_hl : W.hl = true) (h_outbox : W.outbox = true) (hs : ChangesOnly W s₀ s) :
    ChangesOnly W s₀ (dmaOp f t d s) := by
  unfold dmaOp
  repeat' first
    | with_reducible assumption
    | with_reducible refine issuePrefetch_touch h_ctx ?_
    | with_reducible refine transposedCopy_touch h_runs h_tiles h_arrays h_ops h_hbm h_tileMem h_upd h_sync h_traffic h_ev h_hl h_outbox ?_
    | with_reducible refine copyBytes_touch h_runs h_tiles h_arrays h_ops h_hbm h_tileMem h_upd h_sync h_traffic h_ev h_hl h_outbox ?_
    | with_reducible refine touch_ite (fun _ => ?_) (fun _ => ?_)

theorem execDma_touch {op : Fin 1048576} {cyc : Nat} {s : State} (h_cycle : W.cycle = true) (h_runs : W.runs = true) (h_tiles : W.tiles = true) (h_arrays : W.arrays = true) (h_ops : W.ops = true) (h_hbm : W.hbm = true) (h_tileMem : W.tileMem = true) (h_upd : W.upd = true) (h_sync : W.sync = true) (h_traffic : W.traffic = true) (h_ctx : W.ctx = true) (h_ev : W.ev = true) (h_hl : W.hl = true) (h_outbox : W.outbox = true) (hs : ChangesOnly W s₀ s) :
    TouchR W s₀ (execDma op cyc s) := by
  unfold execDma
  repeat' first
    | with_reducible assumption
    | with_reducible refine touchR_next ?_
    | with_reducible refine withOp_touch h_runs ?_ (fun _ _ _ _ _ => ?_)
    | with_reducible refine atCycle_touch h_cycle ?_
    | with_reducible refine dmaOp_touch h_runs h_tiles h_arrays h_ops h_hbm h_tileMem h_upd h_sync h_traffic h_ctx h_ev h_hl h_outbox ?_

theorem offloadBlock_touch {s : State} {op : Nat} {block : Nat} (h_free : W.free = true) (h_ops : W.ops = true) (h_host : W.host = true) (h_traffic : W.traffic = true) (hs : ChangesOnly W s₀ s) :
    ChangesOnly W s₀ (offloadBlock s op block) := by
  unfold offloadBlock
  repeat' first
    | with_reducible assumption
    | fail_if_no_progress (with_reducible refine touch_mk ?_ ⟨rfl, rfl, off_of_on h_free, fun _ => rfl, fun _ => rfl, fun _ => rfl, fun _ => rfl, fun _ => rfl, fun _ => rfl, fun _ => rfl, fun _ => rfl, fun _ => rfl, fun _ => rfl, fun _ => rfl, off_of_on h_host, fun _ => rfl, fun _ => rfl, fun _ => rfl, fun _ => rfl, fun _ => rfl, fun _ => rfl, fun _ => rfl, fun _ => rfl, fun _ => rfl, fun _ => rfl, fun _ => rfl, fun _ => rfl, fun _ => rfl, fun _ => rfl, fun _ => rfl, fun _ => rfl, fun _ => rfl, fun _ => rfl⟩)
    | with_reducible refine countRead_touch h_ops h_traffic ?_
    | with_reducible refine portBytes_touch h_traffic ?_
    | with_reducible refine active_touch h_traffic ?_
    | with_reducible refine touch_ite (fun _ => ?_) (fun _ => ?_)
    | split

theorem execOffloadWrite_touch {op : Fin 1048576} {block : Nat} {cyc : Nat} {s : State} (h_free : W.free = true) (h_cycle : W.cycle = true) (h_ops : W.ops = true) (h_host : W.host = true) (h_traffic : W.traffic = true) (hs : ChangesOnly W s₀ s) :
    TouchR W s₀ (execOffloadWrite op block cyc s) := by
  unfold execOffloadWrite
  repeat' first
    | with_reducible assumption
    | with_reducible refine touchR_next ?_
    | with_reducible refine offloadBlock_touch h_free h_ops h_host h_traffic ?_
    | with_reducible refine atCycle_touch h_cycle ?_

theorem deliverBlock_touch {s : State} {p : Prefetch} {data : List Byte} {poisoned : Bool} (h_hbm : W.hbm = true) (h_tileMem : W.tileMem = true) (h_traffic : W.traffic = true) (h_ctx : W.ctx = true) (hs : ChangesOnly W s₀ s) :
    ChangesOnly W s₀ (deliverBlock s p data poisoned) := by
  unfold deliverBlock
  repeat' first
    | with_reducible assumption
    | fail_if_no_progress (with_reducible refine touch_mk ?_ ⟨rfl, rfl, fun _ => rfl, fun _ => rfl, fun _ => rfl, fun _ => rfl, fun _ => rfl, fun _ => rfl, fun _ => rfl, fun _ => rfl, fun _ => rfl, fun _ => rfl, fun _ => rfl, fun _ => rfl, fun _ => rfl, fun _ => rfl, fun _ => rfl, fun _ => rfl, fun _ => rfl, fun _ => rfl, fun _ => rfl, fun _ => rfl, fun _ => rfl, fun _ => rfl, fun _ => rfl, fun _ => rfl, off_of_on h_ctx, fun _ => rfl, fun _ => rfl, fun _ => rfl, fun _ => rfl, fun _ => rfl, fun _ => rfl⟩)
    | with_reducible refine writeHbm_touch h_hbm h_traffic ?_
    | with_reducible refine writeTile_touch h_tileMem ?_
    | with_reducible refine touch_ite (fun _ => ?_) (fun _ => ?_)

theorem prefetchFailed_touch {s : State} {p : Prefetch} (h_hbm : W.hbm = true) (h_tileMem : W.tileMem = true) (h_traffic : W.traffic = true) (h_ctx : W.ctx = true) (h_ev : W.ev = true) (h_outbox : W.outbox = true) (hs : ChangesOnly W s₀ s) :
    ChangesOnly W s₀ (prefetchFailed s p) := by
  unfold prefetchFailed
  repeat' first
    | with_reducible assumption
    | fail_if_no_progress (with_reducible refine touch_mk ?_ ⟨rfl, rfl, fun _ => rfl, fun _ => rfl, fun _ => rfl, fun _ => rfl, fun _ => rfl, fun _ => rfl, fun _ => rfl, fun _ => rfl, fun _ => rfl, fun _ => rfl, fun _ => rfl, fun _ => rfl, fun _ => rfl, fun _ => rfl, fun _ => rfl, fun _ => rfl, fun _ => rfl, fun _ => rfl, fun _ => rfl, fun _ => rfl, fun _ => rfl, fun _ => rfl, fun _ => rfl, fun _ => rfl, off_of_on h_ctx, fun _ => rfl, fun _ => rfl, fun _ => rfl, fun _ => rfl, fun _ => rfl, fun _ => rfl⟩)
    | with_reducible refine raise_touch h_traffic h_ev h_outbox ?_
    | with_reducible refine deliverBlock_touch h_hbm h_tileMem h_traffic h_ctx ?_
    | with_reducible refine touch_ite (fun _ => ?_) (fun _ => ?_)

theorem execPrefetchCompletion_touch {block : Nat} {bytes : List Byte} {completed : Bool} {cyc : Nat} {s : State} (h_cycle : W.cycle = true) (h_runs : W.runs = true) (h_hbm : W.hbm = true) (h_tileMem : W.tileMem = true) (h_traffic : W.traffic = true) (h_ctx : W.ctx = true) (h_ev : W.ev = true) (h_outbox : W.outbox = true) (hs : ChangesOnly W s₀ s) :
    TouchR W s₀ (execPrefetchCompletion block bytes completed cyc s) := by
  unfold execPrefetchCompletion
  repeat' first
    | with_reducible assumption
    | with_reducible refine touchR_next ?_
    | with_reducible refine portBytes_touch h_traffic ?_
    | with_reducible refine active_touch h_traffic ?_
    | with_reducible refine atCycle_touch h_cycle ?_
    | with_reducible refine deliverBlock_touch h_hbm h_tileMem h_traffic h_ctx ?_
    | with_reducible refine countCorrected_touch h_runs ?_
    | with_reducible refine prefetchFailed_touch h_hbm h_tileMem h_traffic h_ctx h_ev h_outbox ?_
    | with_reducible refine touch_ite (fun _ => ?_) (fun _ => ?_)
    | split

theorem execPrefetchTimeout_touch {block : Nat} {cyc : Nat} {s : State} (h_cycle : W.cycle = true) (h_hbm : W.hbm = true) (h_tileMem : W.tileMem = true) (h_traffic : W.traffic = true) (h_ctx : W.ctx = true) (h_ev : W.ev = true) (h_outbox : W.outbox = true) (hs : ChangesOnly W s₀ s) :
    TouchR W s₀ (execPrefetchTimeout block cyc s) := by
  unfold execPrefetchTimeout
  repeat' first
    | with_reducible assumption
    | with_reducible refine touchR_next ?_
    | with_reducible refine atCycle_touch h_cycle ?_
    | with_reducible refine prefetchFailed_touch h_hbm h_tileMem h_traffic h_ctx h_ev h_outbox ?_
    | split

theorem setCtxWord_touch {s : State} {mode : WriteMode} {n : Nat} {off : Nat} {w : Nat} (h_hbm : W.hbm = true) (h_traffic : W.traffic = true) (hs : ChangesOnly W s₀ s) :
    ChangesOnly W s₀ (setCtxWord s mode n off w) := by
  unfold setCtxWord
  repeat' first
    | with_reducible assumption
    | with_reducible refine writeHbm_touch h_hbm h_traffic ?_

theorem setCtxState_touch {s : State} {mode : WriteMode} {n : Nat} {st : Nat} {reason : Nat} (h_hbm : W.hbm = true) (h_traffic : W.traffic = true) (hs : ChangesOnly W s₀ s) :
    ChangesOnly W s₀ (setCtxState s mode n st reason) := by
  unfold setCtxState
  repeat' first
    | with_reducible assumption
    | with_reducible refine setCtxWord_touch h_hbm h_traffic ?_

theorem setDirEntry_touch {s : State} {page : Nat} {i : Nat} {v : Nat} (h_hbm : W.hbm = true) (h_traffic : W.traffic = true) (hs : ChangesOnly W s₀ s) :
    ChangesOnly W s₀ (setDirEntry s page i v) := by
  unfold setDirEntry
  repeat' first
    | with_reducible assumption
    | with_reducible refine writeHbm_touch h_hbm h_traffic ?_

theorem takePage_touch {s : State} {fill : Nat} (h_hbm : W.hbm = true) (h_traffic : W.traffic = true) (h_ctx : W.ctx = true) (hs : ChangesOnly W s₀ s) : ∀ x, takePage s fill = some x → ChangesOnly W s₀ x.1 := by
  intro x hx
  simp only [takePage, Option.map_eq_some_iff] at hx
  obtain ⟨p, _, rfl⟩ := hx
  exact writeHbm_touch h_hbm h_traffic (touch_mk hs ⟨rfl, rfl, fun _ => rfl, fun _ => rfl, fun _ => rfl, fun _ => rfl, fun _ => rfl, fun _ => rfl, fun _ => rfl, fun _ => rfl, fun _ => rfl, fun _ => rfl, fun _ => rfl, fun _ => rfl, fun _ => rfl, fun _ => rfl, fun _ => rfl, fun _ => rfl, fun _ => rfl, fun _ => rfl, fun _ => rfl, fun _ => rfl, fun _ => rfl, fun _ => rfl, fun _ => rfl, fun _ => rfl, off_of_on h_ctx, fun _ => rfl, fun _ => rfl, fun _ => rfl, fun _ => rfl, fun _ => rfl, fun _ => rfl⟩)

theorem takeBlock_touch {s : State} (h_ctx : W.ctx = true) (hs : ChangesOnly W s₀ s) : ∀ x, takeBlock s = some x → ChangesOnly W s₀ x.1 := by
  intro x hx
  simp only [takeBlock, Option.map_eq_some_iff] at hx
  obtain ⟨p, _, rfl⟩ := hx
  exact touch_mk hs ⟨rfl, rfl, fun _ => rfl, fun _ => rfl, fun _ => rfl, fun _ => rfl, fun _ => rfl, fun _ => rfl, fun _ => rfl, fun _ => rfl, fun _ => rfl, fun _ => rfl, fun _ => rfl, fun _ => rfl, fun _ => rfl, fun _ => rfl, fun _ => rfl, fun _ => rfl, fun _ => rfl, fun _ => rfl, fun _ => rfl, fun _ => rfl, fun _ => rfl, fun _ => rfl, fun _ => rfl, fun _ => rfl, off_of_on h_ctx, fun _ => rfl, fun _ => rfl, fun _ => rfl, fun _ => rfl, fun _ => rfl, fun _ => rfl⟩

theorem ensureLeaf_touch {s : State} {root i : Nat} (h_hbm : W.hbm = true) (h_traffic : W.traffic = true) (h_ctx : W.ctx = true) (hs : ChangesOnly W s₀ s) : ∀ x, ensureLeaf s root i = some x → ChangesOnly W s₀ x.1 := by
  intro x hx
  simp only [ensureLeaf] at hx
  split at hx
  · cases hx; exact hs
  · simp only [Option.map_eq_some_iff] at hx
    obtain ⟨p, hp, rfl⟩ := hx
    exact setDirEntry_touch h_hbm h_traffic (takePage_touch h_hbm h_traffic h_ctx hs _ hp)

theorem ensureKv_touch {s : State} {n pos : Nat} (h_hbm : W.hbm = true) (h_traffic : W.traffic = true) (h_ctx : W.ctx = true) (hs : ChangesOnly W s₀ s) : ∀ x, ensureKv s n pos = some x → ChangesOnly W s₀ x := by
  intro x hx
  simp only [ensureKv] at hx
  split at hx
  · cases hx; exact hs
  · simp only [Option.bind_eq_some_iff] at hx
    obtain ⟨p, hp, hq⟩ := hx
    have k := ensureLeaf_touch h_hbm h_traffic h_ctx hs _ hp
    split at hq
    · cases hq; exact k
    · simp only [Option.map_eq_some_iff] at hq
      obtain ⟨q, hq, rfl⟩ := hq
      exact setDirEntry_touch h_hbm h_traffic (takeBlock_touch h_ctx k _ hq)

theorem ensureToken_touch {s : State} {n pos : Nat} (h_hbm : W.hbm = true) (h_traffic : W.traffic = true) (h_ctx : W.ctx = true) (hs : ChangesOnly W s₀ s) : ∀ x, ensureToken s n pos = some x → ChangesOnly W s₀ x := by
  intro x hx
  simp only [ensureToken, Option.bind_eq_some_iff] at hx
  obtain ⟨p, hp, hq⟩ := hx
  have k := ensureLeaf_touch h_hbm h_traffic h_ctx hs _ hp
  split at hq
  · cases hq; exact k
  · simp only [Option.map_eq_some_iff] at hq
    obtain ⟨q, hq, rfl⟩ := hq
    exact setDirEntry_touch h_hbm h_traffic (takePage_touch h_hbm h_traffic h_ctx k _ hq)

theorem releaseHeld_touch {s : State} {n : Nat} (h_ctx : W.ctx = true) (hs : ChangesOnly W s₀ s) :
    ChangesOnly W s₀ (releaseHeld s n) := by
  unfold releaseHeld
  repeat' first
    | with_reducible assumption
    | fail_if_no_progress (with_reducible refine touch_mk ?_ ⟨rfl, rfl, fun _ => rfl, fun _ => rfl, fun _ => rfl, fun _ => rfl, fun _ => rfl, fun _ => rfl, fun _ => rfl, fun _ => rfl, fun _ => rfl, fun _ => rfl, fun _ => rfl, fun _ => rfl, fun _ => rfl, fun _ => rfl, fun _ => rfl, fun _ => rfl, fun _ => rfl, fun _ => rfl, fun _ => rfl, fun _ => rfl, fun _ => rfl, fun _ => rfl, fun _ => rfl, fun _ => rfl, off_of_on h_ctx, fun _ => rfl, fun _ => rfl, fun _ => rfl, fun _ => rfl, fun _ => rfl, fun _ => rfl⟩)

theorem grantContext_touch {s : State} {n : Nat} (h_hbm : W.hbm = true) (h_traffic : W.traffic = true) (h_ctx : W.ctx = true) (hs : ChangesOnly W s₀ s) : ChangesOnly W s₀ (grantContext s n).1 := by
  simp only [grantContext]
  split
  · split
    · rename_i t ht
      obtain ⟨u, hu, hv⟩ := Option.bind_eq_some_iff.mp ht
      have k := ensureToken_touch h_hbm h_traffic h_ctx (ensureKv_touch h_hbm h_traffic h_ctx hs _ hu) _ hv
      exact touch_ite (fun _ => setCtxState_touch h_hbm h_traffic k) (fun _ => k)
    · exact setCtxState_touch h_hbm h_traffic hs
  · exact hs

theorem grantTick_touch {s : State} {t : Template} (h_hbm : W.hbm = true) (h_traffic : W.traffic = true) (h_ctx : W.ctx = true) (h_ev : W.ev = true) (h_outbox : W.outbox = true) (hs : ChangesOnly W s₀ s) : ChangesOnly W s₀ (grantTick s t) := by
  have key : ∀ (l : List Nat) (acc : State × Nat), ChangesOnly W s₀ acc.1 → ChangesOnly W s₀ (l.foldl (fun acc n =>
      match grantContext acc.1 n with
      | (s, b) => (s, acc.2 + bitNat b)) acc).1 := by
    intro l
    induction l with
    | nil => exact fun _ h => h
    | cons n l ih => exact fun acc h => ih _ (grantContext_touch h_hbm h_traffic h_ctx h)
  unfold grantTick
  have k := key (stepContexts t) (s, 0) hs
  exact touch_ite (fun _ => k) (fun _ => raise_touch h_traffic h_ev h_outbox k)

theorem attendOp_touch {res : Option ResidueErr} {f : PlanFrame} {t : Template} {d : Desc} {s : State} (h_runs : W.runs = true) (h_tiles : W.tiles = true) (h_arrays : W.arrays = true) (h_ops : W.ops = true) (h_hbm : W.hbm = true) (h_tileMem : W.tileMem = true) (h_upd : W.upd = true) (h_num : W.num = true) (h_sync : W.sync = true) (h_traffic : W.traffic = true) (h_ev : W.ev = true) (h_hl : W.hl = true) (h_outbox : W.outbox = true) (hs : ChangesOnly W s₀ s) :
    ChangesOnly W s₀ (attendOp res f t d s) := by
  unfold attendOp
  repeat' first
    | with_reducible assumption
    | with_reducible refine useOperands_touch h_runs h_tiles h_arrays h_ops h_hbm h_tileMem h_upd h_sync h_traffic h_ev h_hl h_outbox ?_
    | with_reducible refine placeWrite_touch h_hbm h_tileMem h_traffic ?_
    | with_reducible refine noteFloats_touch h_runs h_num ?_
    | with_reducible refine checkResidue_touch h_runs h_tiles h_arrays h_ops h_hbm h_tileMem h_upd h_sync h_traffic h_ev h_hl h_outbox ?_
    | with_reducible refine noteNonFinite_touch h_runs h_traffic h_ev h_outbox ?_

theorem execAttend_touch {op : Fin 1048576} {res : Option ResidueErr} {cyc : Nat} {s : State} (h_cycle : W.cycle = true) (h_runs : W.runs = true) (h_tiles : W.tiles = true) (h_arrays : W.arrays = true) (h_ops : W.ops = true) (h_hbm : W.hbm = true) (h_tileMem : W.tileMem = true) (h_upd : W.upd = true) (h_num : W.num = true) (h_sync : W.sync = true) (h_traffic : W.traffic = true) (h_ev : W.ev = true) (h_hl : W.hl = true) (h_outbox : W.outbox = true) (hs : ChangesOnly W s₀ s) :
    TouchR W s₀ (execAttend op res cyc s) := by
  unfold execAttend
  repeat' first
    | with_reducible assumption
    | with_reducible refine touchR_next ?_
    | with_reducible refine withOp_touch h_runs ?_ (fun _ _ _ _ _ => ?_)
    | with_reducible refine atCycle_touch h_cycle ?_
    | with_reducible refine attendOp_touch h_runs h_tiles h_arrays h_ops h_hbm h_tileMem h_upd h_num h_sync h_traffic h_ev h_hl h_outbox ?_

theorem appendToken_touch {s : State} {f : PlanFrame} {n : Nat} {tok : Nat} {lp : Word} (h_hbm : W.hbm = true) (h_traffic : W.traffic = true) (hs : ChangesOnly W s₀ s) :
    ChangesOnly W s₀ (appendToken s f n tok lp) := by
  unfold appendToken
  repeat' first
    | with_reducible assumption
    | with_reducible refine writeHbm_touch h_hbm h_traffic ?_
    | with_reducible refine setCtxWord_touch h_hbm h_traffic ?_
    | with_reducible refine touch_ite (fun _ => ?_) (fun _ => ?_)
    | split

theorem sampleContext_touch {f : PlanFrame} {d : Desc} {p : Place} {src : Desc} {v : Nat} {s : State} {i : Nat} (h_hbm : W.hbm = true) (h_traffic : W.traffic = true) (hs : ChangesOnly W s₀ s) :
    ChangesOnly W s₀ (sampleContext f d p src v s i) := by
  unfold sampleContext
  repeat' first
    | with_reducible assumption
    | with_reducible refine setCtxState_touch h_hbm h_traffic ?_
    | with_reducible refine appendToken_touch h_hbm h_traffic ?_
    | with_reducible refine touch_ite (fun _ => ?_) (fun _ => ?_)
    | split
    | (dsimp only; split)

theorem sampleOp_touch {res : Option ResidueErr} {f : PlanFrame} {t : Template} {d : Desc} {s : State} (h_runs : W.runs = true) (h_tiles : W.tiles = true) (h_arrays : W.arrays = true) (h_ops : W.ops = true) (h_hbm : W.hbm = true) (h_tileMem : W.tileMem = true) (h_upd : W.upd = true) (h_sync : W.sync = true) (h_traffic : W.traffic = true) (h_ev : W.ev = true) (h_hl : W.hl = true) (h_outbox : W.outbox = true) (hs : ChangesOnly W s₀ s) :
    ChangesOnly W s₀ (sampleOp res f t d s) := by
  unfold sampleOp
  repeat' first
    | with_reducible assumption
    | with_reducible refine useOperands_touch h_runs h_tiles h_arrays h_ops h_hbm h_tileMem h_upd h_sync h_traffic h_ev h_hl h_outbox ?_
    | with_reducible refine sampleContext_touch h_hbm h_traffic ?_
    | with_reducible refine checkResidue_touch h_runs h_tiles h_arrays h_ops h_hbm h_tileMem h_upd h_sync h_traffic h_ev h_hl h_outbox ?_
    | with_reducible refine noteNonFinite_touch h_runs h_traffic h_ev h_outbox ?_
    | with_reducible refine touch_foldl ?_ (fun _ _ _ => ?_)
    | with_reducible refine touch_ite (fun _ => ?_) (fun _ => ?_)
    | split

theorem execSample_touch {op : Fin 1048576} {res : Option ResidueErr} {cyc : Nat} {s : State} (h_cycle : W.cycle = true) (h_runs : W.runs = true) (h_tiles : W.tiles = true) (h_arrays : W.arrays = true) (h_ops : W.ops = true) (h_hbm : W.hbm = true) (h_tileMem : W.tileMem = true) (h_upd : W.upd = true) (h_sync : W.sync = true) (h_traffic : W.traffic = true) (h_ev : W.ev = true) (h_hl : W.hl = true) (h_outbox : W.outbox = true) (hs : ChangesOnly W s₀ s) :
    TouchR W s₀ (execSample op res cyc s) := by
  unfold execSample
  repeat' first
    | with_reducible assumption
    | with_reducible refine touchR_next ?_
    | with_reducible refine withOp_touch h_runs ?_ (fun _ _ _ _ _ => ?_)
    | with_reducible refine atCycle_touch h_cycle ?_
    | with_reducible refine sampleOp_touch h_runs h_tiles h_arrays h_ops h_hbm h_tileMem h_upd h_sync h_traffic h_ev h_hl h_outbox ?_

theorem aluOp_touch {s : State} {k : Nat} {d : Nat} {f : UpdEngine → Nat → FVal} (h_upd : W.upd = true) (hs : ChangesOnly W s₀ s) :
    ChangesOnly W s₀ (aluOp s k d f) := by
  unfold aluOp
  repeat' first
    | with_reducible assumption
    | with_reducible refine modEngine_touch h_upd ?_

theorem moveOp_touch {s : State} {k : Nat} {d : Nat} {f : UpdEngine → Nat → Word} (h_upd : W.upd = true) (hs : ChangesOnly W s₀ s) :
    ChangesOnly W s₀ (moveOp s k d f) := by
  unfold moveOp
  repeat' first
    | with_reducible assumption
    | with_reducible refine modEngine_touch h_upd ?_

theorem enterGroup_touch {s : State} {p : PlanImage} {k : Nat} {pass : Nat} {pos : Nat} (h_upd : W.upd = true) (hs : ChangesOnly W s₀ s) :
    ChangesOnly W s₀ (enterGroup s p k pass pos) := by
  unfold enterGroup
  repeat' first
    | with_reducible assumption
    | with_reducible refine modEngine_touch h_upd ?_
    | with_reducible refine touch_ite (fun _ => ?_) (fun _ => ?_)
    | split

theorem advance_touch {s : State} {k : Nat} (h_upd : W.upd = true) (hs : ChangesOnly W s₀ s) :
    ChangesOnly W s₀ (advance s k) := by
  unfold advance
  repeat' first
    | with_reducible assumption
    | with_reducible refine modEngine_touch h_upd ?_
    | with_reducible refine touch_ite (fun _ => ?_) (fun _ => ?_)
    | split

theorem enginePoison_touch {s : State} {a : Nat} {n : Nat} (h_runs : W.runs = true) (h_tiles : W.tiles = true) (h_arrays : W.arrays = true) (h_ops : W.ops = true) (h_hbm : W.hbm = true) (h_tileMem : W.tileMem = true) (h_upd : W.upd = true) (h_sync : W.sync = true) (h_traffic : W.traffic = true) (h_ev : W.ev = true) (h_outbox : W.outbox = true) (hs : ChangesOnly W s₀ s) :
    ChangesOnly W s₀ (enginePoison s a n) := by
  unfold enginePoison
  repeat' first
    | with_reducible assumption
    | with_reducible refine poisonConsumed_touch h_runs h_tiles h_arrays h_ops h_hbm h_tileMem h_upd h_sync h_traffic h_ev h_outbox ?_
    | with_reducible refine touch_foldl ?_ (fun _ _ _ => ?_)

theorem loadStream_touch {s : State} {k : Nat} {d : Nat} {stream : Nat} (h_free : W.free = true) (h_runs : W.runs = true) (h_tiles : W.tiles = true) (h_arrays : W.arrays = true) (h_ops : W.ops = true) (h_hbm : W.hbm = true) (h_tileMem : W.tileMem = true) (h_upd : W.upd = true) (h_sync : W.sync = true) (h_traffic : W.traffic = true) (h_ev : W.ev = true) (h_outbox : W.outbox = true) (hs : ChangesOnly W s₀ s) :
    ChangesOnly W s₀ (loadStream s k d stream) := by
  unfold loadStream
  repeat' first
    | with_reducible assumption
    | with_reducible refine moveOp_touch h_upd ?_
    | with_reducible refine draw_touch h_free ?_
    | with_reducible refine stackRead_touch h_traffic ?_
    | with_reducible refine enginePoison_touch h_runs h_tiles h_arrays h_ops h_hbm h_tileMem h_upd h_sync h_traffic h_ev h_outbox ?_
    | with_reducible refine touch_ite (fun _ => ?_) (fun _ => ?_)
    | split

theorem storeStream_touch {s : State} {k : Nat} {stream : Nat} {a : Nat} (h_hbm : W.hbm = true) (h_traffic : W.traffic = true) (hs : ChangesOnly W s₀ s) :
    ChangesOnly W s₀ (storeStream s k stream a) := by
  unfold storeStream
  repeat' first
    | with_reducible assumption
    | with_reducible refine writeHbm_touch h_hbm h_traffic ?_
    | with_reducible refine touch_foldl ?_ (fun _ _ _ => ?_)
    | with_reducible refine touch_ite (fun _ => ?_) (fun _ => ?_)
    | split

theorem addRed_touch {s : State} {k : Nat} {slot : Nat} {a : Nat} (h_upd : W.upd = true) (hs : ChangesOnly W s₀ s) :
    ChangesOnly W s₀ (addRed s k slot a) := by
  unfold addRed
  repeat' first
    | with_reducible assumption
    | fail_if_no_progress (with_reducible refine touch_mk ?_ ⟨rfl, rfl, fun _ => rfl, fun _ => rfl, fun _ => rfl, fun _ => rfl, fun _ => rfl, fun _ => rfl, fun _ => rfl, fun _ => rfl, fun _ => rfl, fun _ => rfl, fun _ => rfl, fun _ => rfl, fun _ => rfl, off_of_on h_upd, fun _ => rfl, fun _ => rfl, fun _ => rfl, fun _ => rfl, fun _ => rfl, fun _ => rfl, fun _ => rfl, fun _ => rfl, fun _ => rfl, fun _ => rfl, fun _ => rfl, fun _ => rfl, fun _ => rfl, fun _ => rfl, fun _ => rfl, fun _ => rfl, fun _ => rfl⟩)
    | with_reducible refine touch_foldl ?_ (fun _ _ _ => ?_)
    | with_reducible refine touch_ite (fun _ => ?_) (fun _ => ?_)
    | split

theorem copyBank_touch {s : State} {p : PlanImage} {e : BitVec 512} {off : Nat} {n : Nat} (h_hbm : W.hbm = true) (h_traffic : W.traffic = true) (hs : ChangesOnly W s₀ s) :
    ChangesOnly W s₀ (copyBank s p e off n) := by
  unfold copyBank
  repeat' first
    | with_reducible assumption
    | with_reducible refine stackRead_touch h_traffic ?_
    | with_reducible refine writeHbm_touch h_hbm h_traffic ?_

theorem rootJob_touch {s : State} {p : PlanImage} {e : BitVec 512} {i : Nat} (h_hbm : W.hbm = true) (h_traffic : W.traffic = true) (h_ev : W.ev = true) (h_outbox : W.outbox = true) (hs : ChangesOnly W s₀ s) :
    ChangesOnly W s₀ (rootJob s p e i) := by
  unfold rootJob
  repeat' first
    | with_reducible assumption
    | with_reducible refine writeHbm_touch h_hbm h_traffic ?_
    | with_reducible refine raise_touch h_traffic h_ev h_outbox ?_
    | with_reducible refine copyBank_touch h_hbm h_traffic ?_
    | with_reducible refine touch_ite (fun _ => ?_) (fun _ => ?_)
    | split
    | (dsimp only; split)

theorem finishRoots_touch {s : State} {p : PlanImage} {e : BitVec 512} (h_hbm : W.hbm = true) (h_traffic : W.traffic = true) (h_ev : W.ev = true) (h_outbox : W.outbox = true) (hs : ChangesOnly W s₀ s) :
    ChangesOnly W s₀ (finishRoots s p e) := by
  unfold finishRoots
  repeat' first
    | with_reducible assumption
    | with_reducible refine rootJob_touch h_hbm h_traffic h_ev h_outbox ?_
    | with_reducible refine copyBank_touch h_hbm h_traffic ?_
    | with_reducible refine touch_foldl ?_ (fun _ _ _ => ?_)
    | with_reducible refine touch_ite (fun _ => ?_) (fun _ => ?_)

theorem putDigest_touch {s : State} {group : Nat} {chunk : Nat} {bytes : List Byte} (h_upd : W.upd = true) (hs : ChangesOnly W s₀ s) :
    ChangesOnly W s₀ (putDigest s group chunk bytes) := by
  unfold putDigest
  repeat' first
    | with_reducible assumption
    | fail_if_no_progress (with_reducible refine touch_mk ?_ ⟨rfl, rfl, fun _ => rfl, fun _ => rfl, fun _ => rfl, fun _ => rfl, fun _ => rfl, fun _ => rfl, fun _ => rfl, fun _ => rfl, fun _ => rfl, fun _ => rfl, fun _ => rfl, fun _ => rfl, fun _ => rfl, off_of_on h_upd, fun _ => rfl, fun _ => rfl, fun _ => rfl, fun _ => rfl, fun _ => rfl, fun _ => rfl, fun _ => rfl, fun _ => rfl, fun _ => rfl, fun _ => rfl, fun _ => rfl, fun _ => rfl, fun _ => rfl, fun _ => rfl, fun _ => rfl, fun _ => rfl, fun _ => rfl⟩)

theorem digestChunk_touch {s : State} {p : PlanImage} {e : BitVec 512} {chunk : Nat} (h_upd : W.upd = true) (hs : ChangesOnly W s₀ s) :
    ChangesOnly W s₀ (digestChunk s p e chunk) := by
  unfold digestChunk
  repeat' first
    | with_reducible assumption
    | with_reducible refine putDigest_touch h_upd ?_

theorem digestArea_touch {s : State} {p : PlanImage} {e : BitVec 512} (h_upd : W.upd = true) (hs : ChangesOnly W s₀ s) :
    ChangesOnly W s₀ (digestArea s p e) := by
  unfold digestArea
  repeat' first
    | with_reducible assumption
    | with_reducible refine putDigest_touch h_upd ?_
    | with_reducible refine touch_foldl ?_ (fun _ _ _ => ?_)

theorem copyChunk_touch {s : State} {p : PlanImage} {e : BitVec 512} {chunk : Nat} (h_hbm : W.hbm = true) (h_traffic : W.traffic = true) (hs : ChangesOnly W s₀ s) :
    ChangesOnly W s₀ (copyChunk s p e chunk) := by
  unfold copyChunk
  repeat' first
    | with_reducible assumption
    | with_reducible refine copyBank_touch h_hbm h_traffic ?_
    | with_reducible refine touch_foldl ?_ (fun _ _ _ => ?_)
    | with_reducible refine touch_ite (fun _ => ?_) (fun _ => ?_)

theorem groupRatio_touch {s : State} {p : PlanImage} {e : BitVec 512} (h_upd : W.upd = true) (hs : ChangesOnly W s₀ s) :
    ChangesOnly W s₀ (groupRatio s p e) := by
  unfold groupRatio
  repeat' first
    | with_reducible assumption
    | fail_if_no_progress (with_reducible refine touch_mk ?_ ⟨rfl, rfl, fun _ => rfl, fun _ => rfl, fun _ => rfl, fun _ => rfl, fun _ => rfl, fun _ => rfl, fun _ => rfl, fun _ => rfl, fun _ => rfl, fun _ => rfl, fun _ => rfl, fun _ => rfl, fun _ => rfl, off_of_on h_upd, fun _ => rfl, fun _ => rfl, fun _ => rfl, fun _ => rfl, fun _ => rfl, fun _ => rfl, fun _ => rfl, fun _ => rfl, fun _ => rfl, fun _ => rfl, fun _ => rfl, fun _ => rfl, fun _ => rfl, fun _ => rfl, fun _ => rfl, fun _ => rfl, fun _ => rfl⟩)
    | with_reducible refine touch_ite (fun _ => ?_) (fun _ => ?_)

theorem finishGroup_touch {s : State} {p : PlanImage} {e : BitVec 512} (h_hbm : W.hbm = true) (h_upd : W.upd = true) (h_traffic : W.traffic = true) (h_ev : W.ev = true) (h_outbox : W.outbox = true) (hs : ChangesOnly W s₀ s) :
    ChangesOnly W s₀ (finishGroup s p e) := by
  unfold finishGroup
  repeat' first
    | with_reducible assumption
    | with_reducible refine groupRatio_touch h_upd ?_
    | with_reducible refine digestArea_touch h_upd ?_
    | with_reducible refine finishRoots_touch h_hbm h_traffic h_ev h_outbox ?_
    | with_reducible refine touch_ite (fun _ => ?_) (fun _ => ?_)

theorem completeChunk_touch {s : State} {p : PlanImage} {e : BitVec 512} {pass : Nat} {chunk : Nat} (h_hbm : W.hbm = true) (h_upd : W.upd = true) (h_traffic : W.traffic = true) (h_ev : W.ev = true) (h_outbox : W.outbox = true) (hs : ChangesOnly W s₀ s) :
    ChangesOnly W s₀ (completeChunk s p e pass chunk) := by
  unfold completeChunk
  repeat' first
    | with_reducible assumption
    | with_reducible refine finishGroup_touch h_hbm h_upd h_traffic h_ev h_outbox ?_
    | with_reducible refine digestChunk_touch h_upd ?_
    | with_reducible refine copyChunk_touch h_hbm h_traffic ?_
    | with_reducible refine touch_ite (fun _ => ?_) (fun _ => ?_)

theorem nextChunk_touch {s : State} {p : PlanImage} {k : Nat} {w : EngineWork} (h_upd : W.upd = true) (hs : ChangesOnly W s₀ s) :
    ChangesOnly W s₀ (nextChunk s p k w) := by
  unfold nextChunk
  repeat' first
    | with_reducible assumption
    | with_reducible refine modEngine_touch h_upd ?_
    | with_reducible refine enterGroup_touch h_upd ?_
    | with_reducible refine touch_ite (fun _ => ?_) (fun _ => ?_)

theorem execUpdateChunkComplete_touch {st : StackId} {en : Fin 8} {cyc : Nat} {s : State} (h_cycle : W.cycle = true) (h_hbm : W.hbm = true) (h_upd : W.upd = true) (h_traffic : W.traffic = true) (h_ev : W.ev = true) (h_outbox : W.outbox = true) (hs : ChangesOnly W s₀ s) :
    TouchR W s₀ (execUpdateChunkComplete st en cyc s) := by
  unfold execUpdateChunkComplete
  repeat' first
    | with_reducible assumption
    | with_reducible refine touchR_next ?_
    | with_reducible refine atCycle_touch h_cycle ?_
    | with_reducible refine nextChunk_touch h_upd ?_
    | with_reducible refine completeChunk_touch h_hbm h_upd h_traffic h_ev h_outbox ?_
    | with_reducible refine touch_ite (fun _ => ?_) (fun _ => ?_)
    | split
    | (dsimp only; split)

theorem copyGroup_touch {s : State} {p : PlanImage} {e : BitVec 512} (h_hbm : W.hbm = true) (h_upd : W.upd = true) (h_traffic : W.traffic = true) (hs : ChangesOnly W s₀ s) :
    ChangesOnly W s₀ (copyGroup s p e) := by
  unfold copyGroup
  repeat' first
    | with_reducible assumption
    | with_reducible refine copyBank_touch h_hbm h_traffic ?_
    | with_reducible refine digestArea_touch h_upd ?_
    | with_reducible refine digestChunk_touch h_upd ?_
    | with_reducible refine touch_foldl ?_ (fun _ _ _ => ?_)
    | with_reducible refine touch_ite (fun _ => ?_) (fun _ => ?_)

theorem scanGradients_touch {s : State} {p : PlanImage} (h_runs : W.runs = true) (h_tiles : W.tiles = true) (h_arrays : W.arrays = true) (h_ops : W.ops = true) (h_hbm : W.hbm = true) (h_tileMem : W.tileMem = true) (h_upd : W.upd = true) (h_sync : W.sync = true) (h_traffic : W.traffic = true) (h_ev : W.ev = true) (h_outbox : W.outbox = true) (hs : ChangesOnly W s₀ s) :
    ChangesOnly W s₀ (scanGradients s p) := by
  unfold scanGradients
  repeat' first
    | with_reducible assumption
    | fail_if_no_progress (with_reducible refine touch_mk ?_ ⟨rfl, rfl, fun _ => rfl, fun _ => rfl, fun _ => rfl, fun _ => rfl, fun _ => rfl, fun _ => rfl, fun _ => rfl, fun _ => rfl, fun _ => rfl, fun _ => rfl, fun _ => rfl, fun _ => rfl, fun _ => rfl, off_of_on h_upd, fun _ => rfl, fun _ => rfl, fun _ => rfl, fun _ => rfl, fun _ => rfl, fun _ => rfl, fun _ => rfl, fun _ => rfl, fun _ => rfl, fun _ => rfl, fun _ => rfl, fun _ => rfl, fun _ => rfl, fun _ => rfl, fun _ => rfl, fun _ => rfl, fun _ => rfl⟩)
    | with_reducible refine stackRead_touch h_traffic ?_
    | with_reducible refine enginePoison_touch h_runs h_tiles h_arrays h_ops h_hbm h_tileMem h_upd h_sync h_traffic h_ev h_outbox ?_
    | with_reducible refine copyGroup_touch h_hbm h_upd h_traffic ?_
    | with_reducible refine raise_touch h_traffic h_ev h_outbox ?_
    | with_reducible refine enterGroup_touch h_upd ?_
    | with_reducible refine touch_foldl ?_ (fun _ _ _ => ?_)
    | with_reducible refine touch_ite (fun _ => ?_) (fun _ => ?_)

theorem execUpdateScan_touch {s : State} (h_runs : W.runs = true) (h_tiles : W.tiles = true) (h_arrays : W.arrays = true) (h_ops : W.ops = true) (h_hbm : W.hbm = true) (h_tileMem : W.tileMem = true) (h_upd : W.upd = true) (h_sync : W.sync = true) (h_traffic : W.traffic = true) (h_ev : W.ev = true) (h_outbox : W.outbox = true) (hs : ChangesOnly W s₀ s) :
    TouchR W s₀ (execUpdateScan s) := by
  unfold execUpdateScan
  repeat' first
    | with_reducible assumption
    | with_reducible refine touchR_next ?_
    | with_reducible refine scanGradients_touch h_runs h_tiles h_arrays h_ops h_hbm h_tileMem h_upd h_sync h_traffic h_ev h_outbox ?_
    | with_reducible refine touch_ite (fun _ => ?_) (fun _ => ?_)
    | split

theorem runWord_touch {s : State} {k : Nat} {w : Word} (h_free : W.free = true) (h_runs : W.runs = true) (h_tiles : W.tiles = true) (h_arrays : W.arrays = true) (h_ops : W.ops = true) (h_hbm : W.hbm = true) (h_tileMem : W.tileMem = true) (h_upd : W.upd = true) (h_sync : W.sync = true) (h_traffic : W.traffic = true) (h_ev : W.ev = true) (h_outbox : W.outbox = true) (hs : ChangesOnly W s₀ s) :
    ChangesOnly W s₀ (runWord s k w) := by
  unfold runWord
  repeat' first
    | with_reducible assumption
    | with_reducible refine loadStream_touch h_free h_runs h_tiles h_arrays h_ops h_hbm h_tileMem h_upd h_sync h_traffic h_ev h_outbox ?_
    | with_reducible refine storeStream_touch h_hbm h_traffic ?_
    | with_reducible refine moveOp_touch h_upd ?_
    | with_reducible refine aluOp_touch h_upd ?_
    | with_reducible refine addRed_touch h_upd ?_
    | with_reducible refine touch_ite (fun _ => ?_) (fun _ => ?_)
    | split

theorem runGroupPass_touch {s : State} {p : PlanImage} {k : Nat} {pass : Nat} {pos : Nat} (h_free : W.free = true) (h_runs : W.runs = true) (h_tiles : W.tiles = true) (h_arrays : W.arrays = true) (h_ops : W.ops = true) (h_hbm : W.hbm = true) (h_tileMem : W.tileMem = true) (h_upd : W.upd = true) (h_sync : W.sync = true) (h_traffic : W.traffic = true) (h_ev : W.ev = true) (h_outbox : W.outbox = true) (hs : ChangesOnly W s₀ s) :
    ChangesOnly W s₀ (runGroupPass s p k pass pos) := by
  unfold runGroupPass
  repeat' first
    | with_reducible assumption
    | with_reducible refine modEngine_touch h_upd ?_
    | with_reducible refine runWord_touch h_free h_runs h_tiles h_arrays h_ops h_hbm h_tileMem h_upd h_sync h_traffic h_ev h_outbox ?_
    | with_reducible refine completeChunk_touch h_hbm h_upd h_traffic h_ev h_outbox ?_
    | with_reducible refine touch_foldl ?_ (fun _ _ _ => ?_)

theorem runPassAll_touch {s : State} {p : PlanImage} {pass : Nat} (h_free : W.free = true) (h_runs : W.runs = true) (h_tiles : W.tiles = true) (h_arrays : W.arrays = true) (h_ops : W.ops = true) (h_hbm : W.hbm = true) (h_tileMem : W.tileMem = true) (h_upd : W.upd = true) (h_sync : W.sync = true) (h_traffic : W.traffic = true) (h_ev : W.ev = true) (h_outbox : W.outbox = true) (hs : ChangesOnly W s₀ s) :
    ChangesOnly W s₀ (runPassAll s p pass) := by
  unfold runPassAll
  repeat' first
    | with_reducible assumption
    | with_reducible refine runGroupPass_touch h_free h_runs h_tiles h_arrays h_ops h_hbm h_tileMem h_upd h_sync h_traffic h_ev h_outbox ?_
    | with_reducible refine touch_foldl ?_ (fun _ _ _ => ?_)
    | with_reducible refine touch_ite (fun _ => ?_) (fun _ => ?_)

theorem execUpdateRedo_touch {s : State} (h_free : W.free = true) (h_runs : W.runs = true) (h_tiles : W.tiles = true) (h_arrays : W.arrays = true) (h_ops : W.ops = true) (h_hbm : W.hbm = true) (h_tileMem : W.tileMem = true) (h_upd : W.upd = true) (h_sync : W.sync = true) (h_traffic : W.traffic = true) (h_ev : W.ev = true) (h_outbox : W.outbox = true) (hs : ChangesOnly W s₀ s) :
    TouchR W s₀ (execUpdateRedo s) := by
  unfold execUpdateRedo
  repeat' first
    | with_reducible assumption
    | fail_if_no_progress (with_reducible refine touch_mk ?_ ⟨rfl, rfl, fun _ => rfl, fun _ => rfl, fun _ => rfl, fun _ => rfl, fun _ => rfl, fun _ => rfl, fun _ => rfl, fun _ => rfl, fun _ => rfl, fun _ => rfl, fun _ => rfl, fun _ => rfl, fun _ => rfl, off_of_on h_upd, fun _ => rfl, fun _ => rfl, fun _ => rfl, fun _ => rfl, fun _ => rfl, fun _ => rfl, fun _ => rfl, fun _ => rfl, fun _ => rfl, fun _ => rfl, fun _ => rfl, fun _ => rfl, fun _ => rfl, fun _ => rfl, fun _ => rfl, fun _ => rfl, fun _ => rfl⟩)
    | with_reducible refine touchR_next ?_
    | with_reducible refine scanGradients_touch h_runs h_tiles h_arrays h_ops h_hbm h_tileMem h_upd h_sync h_traffic h_ev h_outbox ?_
    | with_reducible refine runPassAll_touch h_free h_runs h_tiles h_arrays h_ops h_hbm h_tileMem h_upd h_sync h_traffic h_ev h_outbox ?_
    | with_reducible refine touch_ite (fun _ => ?_) (fun _ => ?_)
    | split
    | (dsimp only; split)

theorem engineResidue_touch {s : State} {st : StackId} {en : Fin 8} {res : Option ResidueErr} (h_runs : W.runs = true) (h_tiles : W.tiles = true) (h_arrays : W.arrays = true) (h_ops : W.ops = true) (h_hbm : W.hbm = true) (h_tileMem : W.tileMem = true) (h_upd : W.upd = true) (h_traffic : W.traffic = true) (h_ev : W.ev = true) (h_hl : W.hl = true) (h_outbox : W.outbox = true) (hs : ChangesOnly W s₀ s) :
    ChangesOnly W s₀ (engineResidue s st en res) := by
  unfold engineResidue
  repeat' first
    | with_reducible assumption
    | with_reducible refine noteExc_touch h_runs ?_
    | with_reducible refine raiseCharged_touch h_traffic h_ev h_hl h_outbox ?_
    | with_reducible refine failCheck_touch h_runs h_tiles h_arrays h_ops h_hbm h_tileMem h_upd h_traffic h_ev h_outbox ?_
    | split

theorem issued_touch {s : State} {st : StackId} {en : Fin 8} {res : Option ResidueErr} (h_runs : W.runs = true) (h_tiles : W.tiles = true) (h_arrays : W.arrays = true) (h_ops : W.ops = true) (h_hbm : W.hbm = true) (h_tileMem : W.tileMem = true) (h_upd : W.upd = true) (h_traffic : W.traffic = true) (h_ev : W.ev = true) (h_hl : W.hl = true) (h_outbox : W.outbox = true) (hs : ChangesOnly W s₀ s) :
    ChangesOnly W s₀ (issued s st en res) := by
  unfold issued
  repeat' first
    | with_reducible assumption
    | with_reducible refine advance_touch h_upd ?_
    | with_reducible refine engineResidue_touch h_runs h_tiles h_arrays h_ops h_hbm h_tileMem h_upd h_traffic h_ev h_hl h_outbox ?_

theorem execNop_touch {st : StackId} {en : Fin 8} {s : State} (h_runs : W.runs = true) (h_tiles : W.tiles = true) (h_arrays : W.arrays = true) (h_ops : W.ops = true) (h_hbm : W.hbm = true) (h_tileMem : W.tileMem = true) (h_upd : W.upd = true) (h_traffic : W.traffic = true) (h_ev : W.ev = true) (h_hl : W.hl = true) (h_outbox : W.outbox = true) (hs : ChangesOnly W s₀ s) :
    TouchR W s₀ (execNop st en s) := by
  unfold execNop
  repeat' first
    | with_reducible assumption
    | with_reducible refine touchR_next ?_
    | with_reducible refine issued_touch h_runs h_tiles h_arrays h_ops h_hbm h_tileMem h_upd h_traffic h_ev h_hl h_outbox ?_

theorem execLds_touch {st : StackId} {en : Fin 8} {d : Fin 32} {stream : Fin 8} {cyc : Nat} {s : State} (h_free : W.free = true) (h_cycle : W.cycle = true) (h_runs : W.runs = true) (h_tiles : W.tiles = true) (h_arrays : W.arrays = true) (h_ops : W.ops = true) (h_hbm : W.hbm = true) (h_tileMem : W.tileMem = true) (h_upd : W.upd = true) (h_sync : W.sync = true) (h_traffic : W.traffic = true) (h_ev : W.ev = true) (h_hl : W.hl = true) (h_outbox : W.outbox = true) (hs : ChangesOnly W s₀ s) :
    TouchR W s₀ (execLds st en d stream cyc s) := by
  unfold execLds
  repeat' first
    | with_reducible assumption
    | with_reducible refine touchR_next ?_
    | with_reducible refine issued_touch h_runs h_tiles h_arrays h_ops h_hbm h_tileMem h_upd h_traffic h_ev h_hl h_outbox ?_
    | with_reducible refine loadStream_touch h_free h_runs h_tiles h_arrays h_ops h_hbm h_tileMem h_upd h_sync h_traffic h_ev h_outbox ?_
    | with_reducible refine atCycle_touch h_cycle ?_

theorem execSts_touch {st : StackId} {en : Fin 8} {stream : Fin 8} {a : Fin 32} {s : State} (h_runs : W.runs = true) (h_tiles : W.tiles = true) (h_arrays : W.arrays = true) (h_ops : W.ops = true) (h_hbm : W.hbm = true) (h_tileMem : W.tileMem = true) (h_upd : W.upd = true) (h_traffic : W.traffic = true) (h_ev : W.ev = true) (h_hl : W.hl = true) (h_outbox : W.outbox = true) (hs : ChangesOnly W s₀ s) :
    TouchR W s₀ (execSts st en stream a s) := by
  unfold execSts
  repeat' first
    | with_reducible assumption
    | with_reducible refine touchR_next ?_
    | with_reducible refine issued_touch h_runs h_tiles h_arrays h_ops h_hbm h_tileMem h_upd h_traffic h_ev h_hl h_outbox ?_
    | with_reducible refine storeStream_touch h_hbm h_traffic ?_

theorem execMov_touch {st : StackId} {en : Fin 8} {d : Fin 32} {a : Fin 32} {s : State} (h_runs : W.runs = true) (h_tiles : W.tiles = true) (h_arrays : W.arrays = true) (h_ops : W.ops = true) (h_hbm : W.hbm = true) (h_tileMem : W.tileMem = true) (h_upd : W.upd = true) (h_traffic : W.traffic = true) (h_ev : W.ev = true) (h_hl : W.hl = true) (h_outbox : W.outbox = true) (hs : ChangesOnly W s₀ s) :
    TouchR W s₀ (execMov st en d a s) := by
  unfold execMov
  repeat' first
    | with_reducible assumption
    | with_reducible refine touchR_next ?_
    | with_reducible refine issued_touch h_runs h_tiles h_arrays h_ops h_hbm h_tileMem h_upd h_traffic h_ev h_hl h_outbox ?_
    | with_reducible refine moveOp_touch h_upd ?_

theorem execAdd_touch {st : StackId} {en : Fin 8} {d : Fin 32} {a : Fin 32} {b : Fin 32} {res : Option ResidueErr} {s : State} (h_runs : W.runs = true) (h_tiles : W.tiles = true) (h_arrays : W.arrays = true) (h_ops : W.ops = true) (h_hbm : W.hbm = true) (h_tileMem : W.tileMem = true) (h_upd : W.upd = true) (h_traffic : W.traffic = true) (h_ev : W.ev = true) (h_hl : W.hl = true) (h_outbox : W.outbox = true) (hs : ChangesOnly W s₀ s) :
    TouchR W s₀ (execAdd st en d a b res s) := by
  unfold execAdd
  repeat' first
    | with_reducible assumption
    | with_reducible refine touchR_next ?_
    | with_reducible refine issued_touch h_runs h_tiles h_arrays h_ops h_hbm h_tileMem h_upd h_traffic h_ev h_hl h_outbox ?_
    | with_reducible refine aluOp_touch h_upd ?_

theorem execSub_touch {st : StackId} {en : Fin 8} {d : Fin 32} {a : Fin 32} {b : Fin 32} {res : Option ResidueErr} {s : State} (h_runs : W.runs = true) (h_tiles : W.tiles = true) (h_arrays : W.arrays = true) (h_ops : W.ops = true) (h_hbm : W.hbm = true) (h_tileMem : W.tileMem = true) (h_upd : W.upd = true) (h_traffic : W.traffic = true) (h_ev : W.ev = true) (h_hl : W.hl = true) (h_outbox : W.outbox = true) (hs : ChangesOnly W s₀ s) :
    TouchR W s₀ (execSub st en d a b res s) := by
  unfold execSub
  repeat' first
    | with_reducible assumption
    | with_reducible refine touchR_next ?_
    | with_reducible refine issued_touch h_runs h_tiles h_arrays h_ops h_hbm h_tileMem h_upd h_traffic h_ev h_hl h_outbox ?_
    | with_reducible refine aluOp_touch h_upd ?_

theorem execMul_touch {st : StackId} {en : Fin 8} {d : Fin 32} {a : Fin 32} {b : Fin 32} {res : Option ResidueErr} {s : State} (h_runs : W.runs = true) (h_tiles : W.tiles = true) (h_arrays : W.arrays = true) (h_ops : W.ops = true) (h_hbm : W.hbm = true) (h_tileMem : W.tileMem = true) (h_upd : W.upd = true) (h_traffic : W.traffic = true) (h_ev : W.ev = true) (h_hl : W.hl = true) (h_outbox : W.outbox = true) (hs : ChangesOnly W s₀ s) :
    TouchR W s₀ (execMul st en d a b res s) := by
  unfold execMul
  repeat' first
    | with_reducible assumption
    | with_reducible refine touchR_next ?_
    | with_reducible refine issued_touch h_runs h_tiles h_arrays h_ops h_hbm h_tileMem h_upd h_traffic h_ev h_hl h_outbox ?_
    | with_reducible refine aluOp_touch h_upd ?_

theorem execFma_touch {st : StackId} {en : Fin 8} {d : Fin 32} {a : Fin 32} {b : Fin 32} {c : Fin 32} {res : Option ResidueErr} {s : State} (h_runs : W.runs = true) (h_tiles : W.tiles = true) (h_arrays : W.arrays = true) (h_ops : W.ops = true) (h_hbm : W.hbm = true) (h_tileMem : W.tileMem = true) (h_upd : W.upd = true) (h_traffic : W.traffic = true) (h_ev : W.ev = true) (h_hl : W.hl = true) (h_outbox : W.outbox = true) (hs : ChangesOnly W s₀ s) :
    TouchR W s₀ (execFma st en d a b c res s) := by
  unfold execFma
  repeat' first
    | with_reducible assumption
    | with_reducible refine touchR_next ?_
    | with_reducible refine issued_touch h_runs h_tiles h_arrays h_ops h_hbm h_tileMem h_upd h_traffic h_ev h_hl h_outbox ?_
    | with_reducible refine aluOp_touch h_upd ?_

theorem execDiv_touch {st : StackId} {en : Fin 8} {d : Fin 32} {a : Fin 32} {b : Fin 32} {res : Option ResidueErr} {s : State} (h_runs : W.runs = true) (h_tiles : W.tiles = true) (h_arrays : W.arrays = true) (h_ops : W.ops = true) (h_hbm : W.hbm = true) (h_tileMem : W.tileMem = true) (h_upd : W.upd = true) (h_traffic : W.traffic = true) (h_ev : W.ev = true) (h_hl : W.hl = true) (h_outbox : W.outbox = true) (hs : ChangesOnly W s₀ s) :
    TouchR W s₀ (execDiv st en d a b res s) := by
  unfold execDiv
  repeat' first
    | with_reducible assumption
    | with_reducible refine touchR_next ?_
    | with_reducible refine issued_touch h_runs h_tiles h_arrays h_ops h_hbm h_tileMem h_upd h_traffic h_ev h_hl h_outbox ?_
    | with_reducible refine aluOp_touch h_upd ?_

theorem execSqrt_touch {st : StackId} {en : Fin 8} {d : Fin 32} {a : Fin 32} {s : State} (h_runs : W.runs = true) (h_tiles : W.tiles = true) (h_arrays : W.arrays = true) (h_ops : W.ops = true) (h_hbm : W.hbm = true) (h_tileMem : W.tileMem = true) (h_upd : W.upd = true) (h_traffic : W.traffic = true) (h_ev : W.ev = true) (h_hl : W.hl = true) (h_outbox : W.outbox = true) (hs : ChangesOnly W s₀ s) :
    TouchR W s₀ (execSqrt st en d a s) := by
  unfold execSqrt
  repeat' first
    | with_reducible assumption
    | with_reducible refine touchR_next ?_
    | with_reducible refine issued_touch h_runs h_tiles h_arrays h_ops h_hbm h_tileMem h_upd h_traffic h_ev h_hl h_outbox ?_
    | with_reducible refine aluOp_touch h_upd ?_

theorem execRsqrt_touch {st : StackId} {en : Fin 8} {d : Fin 32} {a : Fin 32} {s : State} (h_runs : W.runs = true) (h_tiles : W.tiles = true) (h_arrays : W.arrays = true) (h_ops : W.ops = true) (h_hbm : W.hbm = true) (h_tileMem : W.tileMem = true) (h_upd : W.upd = true) (h_traffic : W.traffic = true) (h_ev : W.ev = true) (h_hl : W.hl = true) (h_outbox : W.outbox = true) (hs : ChangesOnly W s₀ s) :
    TouchR W s₀ (execRsqrt st en d a s) := by
  unfold execRsqrt
  repeat' first
    | with_reducible assumption
    | with_reducible refine touchR_next ?_
    | with_reducible refine issued_touch h_runs h_tiles h_arrays h_ops h_hbm h_tileMem h_upd h_traffic h_ev h_hl h_outbox ?_
    | with_reducible refine aluOp_touch h_upd ?_

theorem execExp_touch {st : StackId} {en : Fin 8} {d : Fin 32} {a : Fin 32} {s : State} (h_runs : W.runs = true) (h_tiles : W.tiles = true) (h_arrays : W.arrays = true) (h_ops : W.ops = true) (h_hbm : W.hbm = true) (h_tileMem : W.tileMem = true) (h_upd : W.upd = true) (h_traffic : W.traffic = true) (h_ev : W.ev = true) (h_hl : W.hl = true) (h_outbox : W.outbox = true) (hs : ChangesOnly W s₀ s) :
    TouchR W s₀ (execExp st en d a s) := by
  unfold execExp
  repeat' first
    | with_reducible assumption
    | with_reducible refine touchR_next ?_
    | with_reducible refine issued_touch h_runs h_tiles h_arrays h_ops h_hbm h_tileMem h_upd h_traffic h_ev h_hl h_outbox ?_
    | with_reducible refine aluOp_touch h_upd ?_

theorem execLn_touch {st : StackId} {en : Fin 8} {d : Fin 32} {a : Fin 32} {s : State} (h_runs : W.runs = true) (h_tiles : W.tiles = true) (h_arrays : W.arrays = true) (h_ops : W.ops = true) (h_hbm : W.hbm = true) (h_tileMem : W.tileMem = true) (h_upd : W.upd = true) (h_traffic : W.traffic = true) (h_ev : W.ev = true) (h_hl : W.hl = true) (h_outbox : W.outbox = true) (hs : ChangesOnly W s₀ s) :
    TouchR W s₀ (execLn st en d a s) := by
  unfold execLn
  repeat' first
    | with_reducible assumption
    | with_reducible refine touchR_next ?_
    | with_reducible refine issued_touch h_runs h_tiles h_arrays h_ops h_hbm h_tileMem h_upd h_traffic h_ev h_hl h_outbox ?_
    | with_reducible refine aluOp_touch h_upd ?_

theorem execMax_touch {st : StackId} {en : Fin 8} {d : Fin 32} {a : Fin 32} {b : Fin 32} {s : State} (h_runs : W.runs = true) (h_tiles : W.tiles = true) (h_arrays : W.arrays = true) (h_ops : W.ops = true) (h_hbm : W.hbm = true) (h_tileMem : W.tileMem = true) (h_upd : W.upd = true) (h_traffic : W.traffic = true) (h_ev : W.ev = true) (h_hl : W.hl = true) (h_outbox : W.outbox = true) (hs : ChangesOnly W s₀ s) :
    TouchR W s₀ (execMax st en d a b s) := by
  unfold execMax
  repeat' first
    | with_reducible assumption
    | with_reducible refine touchR_next ?_
    | with_reducible refine issued_touch h_runs h_tiles h_arrays h_ops h_hbm h_tileMem h_upd h_traffic h_ev h_hl h_outbox ?_
    | with_reducible refine aluOp_touch h_upd ?_

theorem execMin_touch {st : StackId} {en : Fin 8} {d : Fin 32} {a : Fin 32} {b : Fin 32} {s : State} (h_runs : W.runs = true) (h_tiles : W.tiles = true) (h_arrays : W.arrays = true) (h_ops : W.ops = true) (h_hbm : W.hbm = true) (h_tileMem : W.tileMem = true) (h_upd : W.upd = true) (h_traffic : W.traffic = true) (h_ev : W.ev = true) (h_hl : W.hl = true) (h_outbox : W.outbox = true) (hs : ChangesOnly W s₀ s) :
    TouchR W s₀ (execMin st en d a b s) := by
  unfold execMin
  repeat' first
    | with_reducible assumption
    | with_reducible refine touchR_next ?_
    | with_reducible refine issued_touch h_runs h_tiles h_arrays h_ops h_hbm h_tileMem h_upd h_traffic h_ev h_hl h_outbox ?_
    | with_reducible refine aluOp_touch h_upd ?_

theorem execAbs_touch {st : StackId} {en : Fin 8} {d : Fin 32} {a : Fin 32} {s : State} (h_runs : W.runs = true) (h_tiles : W.tiles = true) (h_arrays : W.arrays = true) (h_ops : W.ops = true) (h_hbm : W.hbm = true) (h_tileMem : W.tileMem = true) (h_upd : W.upd = true) (h_traffic : W.traffic = true) (h_ev : W.ev = true) (h_hl : W.hl = true) (h_outbox : W.outbox = true) (hs : ChangesOnly W s₀ s) :
    TouchR W s₀ (execAbs st en d a s) := by
  unfold execAbs
  repeat' first
    | with_reducible assumption
    | with_reducible refine touchR_next ?_
    | with_reducible refine issued_touch h_runs h_tiles h_arrays h_ops h_hbm h_tileMem h_upd h_traffic h_ev h_hl h_outbox ?_
    | with_reducible refine aluOp_touch h_upd ?_

theorem execSel_touch {st : StackId} {en : Fin 8} {d : Fin 32} {a : Fin 32} {b : Fin 32} {c : Fin 32} {s : State} (h_runs : W.runs = true) (h_tiles : W.tiles = true) (h_arrays : W.arrays = true) (h_ops : W.ops = true) (h_hbm : W.hbm = true) (h_tileMem : W.tileMem = true) (h_upd : W.upd = true) (h_traffic : W.traffic = true) (h_ev : W.ev = true) (h_hl : W.hl = true) (h_outbox : W.outbox = true) (hs : ChangesOnly W s₀ s) :
    TouchR W s₀ (execSel st en d a b c s) := by
  unfold execSel
  repeat' first
    | with_reducible assumption
    | with_reducible refine touchR_next ?_
    | with_reducible refine issued_touch h_runs h_tiles h_arrays h_ops h_hbm h_tileMem h_upd h_traffic h_ev h_hl h_outbox ?_
    | with_reducible refine moveOp_touch h_upd ?_

theorem execCmplt_touch {st : StackId} {en : Fin 8} {d : Fin 32} {a : Fin 32} {b : Fin 32} {s : State} (h_runs : W.runs = true) (h_tiles : W.tiles = true) (h_arrays : W.arrays = true) (h_ops : W.ops = true) (h_hbm : W.hbm = true) (h_tileMem : W.tileMem = true) (h_upd : W.upd = true) (h_traffic : W.traffic = true) (h_ev : W.ev = true) (h_hl : W.hl = true) (h_outbox : W.outbox = true) (hs : ChangesOnly W s₀ s) :
    TouchR W s₀ (execCmplt st en d a b s) := by
  unfold execCmplt
  repeat' first
    | with_reducible assumption
    | with_reducible refine touchR_next ?_
    | with_reducible refine issued_touch h_runs h_tiles h_arrays h_ops h_hbm h_tileMem h_upd h_traffic h_ev h_hl h_outbox ?_
    | with_reducible refine aluOp_touch h_upd ?_

theorem execRed_touch {st : StackId} {en : Fin 8} {slot : Fin 4} {a : Fin 32} {s : State} (h_runs : W.runs = true) (h_tiles : W.tiles = true) (h_arrays : W.arrays = true) (h_ops : W.ops = true) (h_hbm : W.hbm = true) (h_tileMem : W.tileMem = true) (h_upd : W.upd = true) (h_traffic : W.traffic = true) (h_ev : W.ev = true) (h_hl : W.hl = true) (h_outbox : W.outbox = true) (hs : ChangesOnly W s₀ s) :
    TouchR W s₀ (execRed st en slot a s) := by
  unfold execRed
  repeat' first
    | with_reducible assumption
    | with_reducible refine touchR_next ?_
    | with_reducible refine issued_touch h_runs h_tiles h_arrays h_ops h_hbm h_tileMem h_upd h_traffic h_ev h_hl h_outbox ?_
    | with_reducible refine addRed_touch h_upd ?_

theorem countCorrection_touch {s : State} {line : Nat} (h_runs : W.runs = true) (h_hbm : W.hbm = true) (h_traffic : W.traffic = true) (h_ev : W.ev = true) (h_hl : W.hl = true) (h_outbox : W.outbox = true) (hs : ChangesOnly W s₀ s) :
    ChangesOnly W s₀ (countCorrection s line) := by
  unfold countCorrection
  repeat' first
    | with_reducible assumption
    | fail_if_no_progress (with_reducible refine touch_mk ?_ ⟨rfl, rfl, fun _ => rfl, fun _ => rfl, fun _ => rfl, fun _ => rfl, fun _ => rfl, fun _ => rfl, fun _ => rfl, fun _ => rfl, fun _ => rfl, fun _ => rfl, off_of_on h_hbm, fun _ => rfl, fun _ => rfl, fun _ => rfl, fun _ => rfl, fun _ => rfl, fun _ => rfl, fun _ => rfl, fun _ => rfl, fun _ => rfl, fun _ => rfl, fun _ => rfl, fun _ => rfl, fun _ => rfl, fun _ => rfl, fun _ => rfl, fun _ => rfl, fun _ => rfl, fun _ => rfl, fun _ => rfl, fun _ => rfl⟩)
    | with_reducible refine correction_touch h_runs ?_
    | with_reducible refine modStack_touch h_hbm ?_
    | with_reducible refine raiseCharged_touch h_traffic h_ev h_hl h_outbox ?_
    | with_reducible refine touch_ite (fun _ => ?_) (fun _ => ?_)
    | split

theorem readCodeword_touch {s : State} {line : Nat} {errs : SymbolErrors} (h_runs : W.runs = true) (h_hbm : W.hbm = true) (h_traffic : W.traffic = true) (h_ev : W.ev = true) (h_hl : W.hl = true) (h_outbox : W.outbox = true) (hs : ChangesOnly W s₀ s) :
    ChangesOnly W s₀ (readCodeword s line errs) := by
  unfold readCodeword
  repeat' first
    | with_reducible assumption
    | with_reducible refine stackRead_touch h_traffic ?_
    | with_reducible refine putLine_touch h_hbm ?_
    | with_reducible refine countCorrection_touch h_runs h_hbm h_traffic h_ev h_hl h_outbox ?_
    | with_reducible refine modStack_touch h_hbm ?_
    | with_reducible refine raiseCharged_touch h_traffic h_ev h_hl h_outbox ?_
    | with_reducible refine touch_ite (fun _ => ?_) (fun _ => ?_)
    | split
    | (dsimp only; split)

theorem execHbmRead_touch {st : StackId} {off : BitVec 36} {errs : SymbolErrors} {cyc : Nat} {s : State} (h_cycle : W.cycle = true) (h_runs : W.runs = true) (h_hbm : W.hbm = true) (h_traffic : W.traffic = true) (h_ev : W.ev = true) (h_hl : W.hl = true) (h_outbox : W.outbox = true) (hs : ChangesOnly W s₀ s) :
    TouchR W s₀ (execHbmRead st off errs cyc s) := by
  unfold execHbmRead
  repeat' first
    | with_reducible assumption
    | with_reducible refine touchR_next ?_
    | exact touchR_fault
    | with_reducible refine readCodeword_touch h_runs h_hbm h_traffic h_ev h_hl h_outbox ?_
    | with_reducible refine atCycle_touch h_cycle ?_
    | with_reducible refine touch_ite (fun _ => ?_) (fun _ => ?_)
    | with_reducible refine touchR_ite (fun _ => ?_) (fun _ => ?_)

theorem planWrite_touch {s : State} {a : Nat} {data : List Byte} {poison : Nat → Option (Nat × Nat)} (h_runs : W.runs = true) (h_tiles : W.tiles = true) (h_arrays : W.arrays = true) (h_ops : W.ops = true) (h_hbm : W.hbm = true) (h_tileMem : W.tileMem = true) (h_upd : W.upd = true) (h_sync : W.sync = true) (h_traffic : W.traffic = true) (h_ev : W.ev = true) (h_outbox : W.outbox = true) (hs : ChangesOnly W s₀ s) :
    ChangesOnly W s₀ (planWrite s a data poison) := by
  unfold planWrite
  repeat' first
    | with_reducible assumption
    | with_reducible refine consumeMarks_touch h_runs h_tiles h_arrays h_ops h_hbm h_tileMem h_upd h_sync h_traffic h_ev h_outbox ?_
    | with_reducible refine writeHbm_touch h_hbm h_traffic ?_

theorem execHbmWrite_touch {st : StackId} {off : BitVec 36} {data : List Byte} {poisoned : Bool} {cyc : Nat} {s : State} (h_cycle : W.cycle = true) (h_runs : W.runs = true) (h_tiles : W.tiles = true) (h_arrays : W.arrays = true) (h_ops : W.ops = true) (h_hbm : W.hbm = true) (h_tileMem : W.tileMem = true) (h_upd : W.upd = true) (h_sync : W.sync = true) (h_traffic : W.traffic = true) (h_ev : W.ev = true) (h_outbox : W.outbox = true) (hs : ChangesOnly W s₀ s) :
    TouchR W s₀ (execHbmWrite st off data poisoned cyc s) := by
  unfold execHbmWrite
  repeat' first
    | with_reducible assumption
    | with_reducible refine touchR_next ?_
    | exact touchR_fault
    | with_reducible refine planWrite_touch h_runs h_tiles h_arrays h_ops h_hbm h_tileMem h_upd h_sync h_traffic h_ev h_outbox ?_
    | with_reducible refine atCycle_touch h_cycle ?_
    | with_reducible refine touch_ite (fun _ => ?_) (fun _ => ?_)
    | split
    | (dsimp only; split)

theorem execScrubRead_touch {st : StackId} {errs : List (Fin 64 × SymbolErrors)} {s : State} (h_runs : W.runs = true) (h_hbm : W.hbm = true) (h_traffic : W.traffic = true) (h_ev : W.ev = true) (h_hl : W.hl = true) (h_outbox : W.outbox = true) (hs : ChangesOnly W s₀ s) :
    TouchR W s₀ (execScrubRead st errs s) := by
  unfold execScrubRead
  repeat' first
    | with_reducible assumption
    | with_reducible refine touchR_next ?_
    | with_reducible refine readCodeword_touch h_runs h_hbm h_traffic h_ev h_hl h_outbox ?_
    | with_reducible refine modStack_touch h_hbm ?_
    | with_reducible refine touch_foldl ?_ (fun _ _ _ => ?_)
    | with_reducible refine touch_ite (fun _ => ?_) (fun _ => ?_)

end Sys2Proof.Machine
end

