-- ==== Sys2Proof/Laws/TouchLink.lean ====
section
/-!
SUPPORT. Sys2Proof/Laws/TouchLink.lean: which parts of the state the functions of the Lakes, responses, sync events, numerics, checkpoints, transactions and links
may change, one lemma each.
-/
namespace Sys2Proof.Machine
open Sys2Proof

variable {W : Parts} {s₀ : State}

theorem modLake_touch {s : State} {l : Nat} {f : LakeState → LakeState} (h_lakes : W.lakes = true) (hs : ChangesOnly W s₀ s) :
    ChangesOnly W s₀ (modLake s l f) := by
  unfold modLake
  repeat' first
    | with_reducible assumption
    | fail_if_no_progress (with_reducible refine touch_mk ?_ ⟨rfl, rfl, fun _ => rfl, fun _ => rfl, fun _ => rfl, fun _ => rfl, fun _ => rfl, fun _ => rfl, fun _ => rfl, fun _ => rfl, fun _ => rfl, fun _ => rfl, fun _ => rfl, fun _ => rfl, fun _ => rfl, fun _ => rfl, fun _ => rfl, fun _ => rfl, fun _ => rfl, fun _ => rfl, off_of_on h_lakes, fun _ => rfl, fun _ => rfl, fun _ => rfl, fun _ => rfl, fun _ => rfl, fun _ => rfl, fun _ => rfl, fun _ => rfl, fun _ => rfl, fun _ => rfl, fun _ => rfl, fun _ => rfl⟩)

theorem putItem_touch {s : State} {l : Nat} {cls : Nat} {kind : Nat} {port : Nat} {words : List DWord} {poison : List Nat} {rest : Bool} (h_lakes : W.lakes = true) (hs : ChangesOnly W s₀ s) :
    ChangesOnly W s₀ (putItem s l cls kind port words poison rest) := by
  unfold putItem
  repeat' first
    | with_reducible assumption
    | with_reducible refine modLake_touch h_lakes ?_

theorem waitCredit_touch {s : State} {l : Nat} {cls : Nat} (h_lakes : W.lakes = true) (hs : ChangesOnly W s₀ s) :
    ChangesOnly W s₀ (waitCredit s l cls) := by
  unfold waitCredit
  repeat' first
    | with_reducible assumption
    | with_reducible refine modLake_touch h_lakes ?_

theorem execItemEnqueue_touch {lake : LakeId} {cls : Fin 5} {kind : Fin 64} {port : Fin 64} {words : List DWord} {poison : List Nat} {rest : Bool} {s : State} (h_lakes : W.lakes = true) (hs : ChangesOnly W s₀ s) :
    TouchR W s₀ (execItemEnqueue lake cls kind port words poison rest s) := by
  unfold execItemEnqueue
  repeat' first
    | with_reducible assumption
    | with_reducible refine touchR_next ?_
    | with_reducible refine putItem_touch h_lakes ?_
    | with_reducible refine waitCredit_touch h_lakes ?_
    | with_reducible refine touch_ite (fun _ => ?_) (fun _ => ?_)
    | with_reducible refine touchR_ite (fun _ => ?_) (fun _ => ?_)

theorem consumeItem_touch {s : State} {l : Nat} {cells : List Cell} {bad : List Nat} (h_runs : W.runs = true) (h_tiles : W.tiles = true) (h_arrays : W.arrays = true) (h_ops : W.ops = true) (h_hbm : W.hbm = true) (h_tileMem : W.tileMem = true) (h_upd : W.upd = true) (h_sync : W.sync = true) (h_traffic : W.traffic = true) (h_ev : W.ev = true) (h_hl : W.hl = true) (h_outbox : W.outbox = true) (hs : ChangesOnly W s₀ s) :
    ChangesOnly W s₀ (consumeItem s l cells bad) := by
  unfold consumeItem
  repeat' first
    | with_reducible assumption
    | with_reducible refine enterQueue_touch h_runs h_sync h_traffic h_ev h_hl h_outbox ?_ (fun _ _ => ?_)
    | with_reducible refine poisonConsumed_touch h_runs h_tiles h_arrays h_ops h_hbm h_tileMem h_upd h_sync h_traffic h_ev h_outbox ?_
    | with_reducible refine touch_foldl ?_ (fun _ _ _ => ?_)

theorem takeItem_touch {s : State} {l : Nat} {it : LakeItem} {flips : List (Nat × DWord)} {compute : Bool} (h_runs : W.runs = true) (h_tiles : W.tiles = true) (h_arrays : W.arrays = true) (h_ops : W.ops = true) (h_hbm : W.hbm = true) (h_tileMem : W.tileMem = true) (h_upd : W.upd = true) (h_sync : W.sync = true) (h_lakes : W.lakes = true) (h_traffic : W.traffic = true) (h_ev : W.ev = true) (h_hl : W.hl = true) (h_outbox : W.outbox = true) (hs : ChangesOnly W s₀ s) :
    ChangesOnly W s₀ (takeItem s l it flips compute) := by
  unfold takeItem
  repeat' first
    | with_reducible assumption
    | with_reducible refine modLake_touch h_lakes ?_
    | with_reducible refine raiseOnce_touch h_traffic h_ev h_outbox ?_
    | with_reducible refine consumeItem_touch h_runs h_tiles h_arrays h_ops h_hbm h_tileMem h_upd h_sync h_traffic h_ev h_hl h_outbox ?_
    | with_reducible refine touch_foldl ?_ (fun _ _ _ => ?_)
    | with_reducible refine touch_ite (fun _ => ?_) (fun _ => ?_)

theorem execItemDequeue_touch {lake : LakeId} {cls : Fin 5} {flips : List (Nat × DWord)} {tagFlips : Fin 3} {compute : Bool} {cyc : Nat} {s : State} (h_cycle : W.cycle = true) (h_runs : W.runs = true) (h_tiles : W.tiles = true) (h_arrays : W.arrays = true) (h_ops : W.ops = true) (h_hbm : W.hbm = true) (h_tileMem : W.tileMem = true) (h_upd : W.upd = true) (h_sync : W.sync = true) (h_lakes : W.lakes = true) (h_traffic : W.traffic = true) (h_ev : W.ev = true) (h_hl : W.hl = true) (h_outbox : W.outbox = true) (hs : ChangesOnly W s₀ s) :
    TouchR W s₀ (execItemDequeue lake cls flips tagFlips compute cyc s) := by
  unfold execItemDequeue
  repeat' first
    | with_reducible assumption
    | with_reducible refine touchR_next ?_
    | with_reducible refine atCycle_touch h_cycle ?_
    | with_reducible refine modLake_touch h_lakes ?_
    | with_reducible refine waitCredit_touch h_lakes ?_
    | with_reducible refine charge_touch h_traffic h_ev h_hl h_outbox ?_
    | with_reducible refine takeL3_touch h_runs h_sync h_traffic h_ev h_outbox ?_
    | with_reducible refine takeItem_touch h_runs h_tiles h_arrays h_ops h_hbm h_tileMem h_upd h_sync h_lakes h_traffic h_ev h_hl h_outbox ?_
    | with_reducible refine correction_touch h_runs ?_
    | with_reducible refine touch_ite (fun _ => ?_) (fun _ => ?_)
    | split
    | (dsimp only; split)

theorem execCreditBorrow_touch {lake : LakeId} {cls : Fin 5} {port : Fin 64} {s : State} (h_lakes : W.lakes = true) (hs : ChangesOnly W s₀ s) :
    TouchR W s₀ (execCreditBorrow lake cls port s) := by
  unfold execCreditBorrow
  repeat' first
    | with_reducible assumption
    | with_reducible refine touchR_next ?_
    | with_reducible refine modLake_touch h_lakes ?_
    | with_reducible refine waitCredit_touch h_lakes ?_
    | with_reducible refine touch_ite (fun _ => ?_) (fun _ => ?_)
    | with_reducible refine touchR_ite (fun _ => ?_) (fun _ => ?_)

theorem spliceLakes_touch {s : State} {f : Nat → Nat → Bool} (h_lakes : W.lakes = true) (hs : ChangesOnly W s₀ s) :
    ChangesOnly W s₀ (spliceLakes s f) := by
  unfold spliceLakes
  repeat' first
    | with_reducible assumption
    | fail_if_no_progress (with_reducible refine touch_mk ?_ ⟨rfl, rfl, fun _ => rfl, fun _ => rfl, fun _ => rfl, fun _ => rfl, fun _ => rfl, fun _ => rfl, fun _ => rfl, fun _ => rfl, fun _ => rfl, fun _ => rfl, fun _ => rfl, fun _ => rfl, fun _ => rfl, fun _ => rfl, fun _ => rfl, fun _ => rfl, fun _ => rfl, fun _ => rfl, off_of_on h_lakes, fun _ => rfl, fun _ => rfl, fun _ => rfl, fun _ => rfl, fun _ => rfl, fun _ => rfl, fun _ => rfl, fun _ => rfl, fun _ => rfl, fun _ => rfl, fun _ => rfl, fun _ => rfl⟩)

theorem lakesTick_touch {s : State} (h_runs : W.runs = true) (h_sync : W.sync = true) (h_lakes : W.lakes = true) (h_traffic : W.traffic = true) (h_ev : W.ev = true) (h_hl : W.hl = true) (h_outbox : W.outbox = true) (hs : ChangesOnly W s₀ s) :
    ChangesOnly W s₀ (lakesTick s) := by
  unfold lakesTick
  repeat' first
    | with_reducible assumption
    | fail_if_no_progress (with_reducible refine touch_mk ?_ ⟨rfl, rfl, fun _ => rfl, fun _ => rfl, fun _ => rfl, fun _ => rfl, fun _ => rfl, fun _ => rfl, fun _ => rfl, fun _ => rfl, fun _ => rfl, fun _ => rfl, fun _ => rfl, fun _ => rfl, fun _ => rfl, fun _ => rfl, fun _ => rfl, fun _ => rfl, fun _ => rfl, fun _ => rfl, off_of_on h_lakes, fun _ => rfl, fun _ => rfl, fun _ => rfl, fun _ => rfl, fun _ => rfl, fun _ => rfl, fun _ => rfl, fun _ => rfl, fun _ => rfl, fun _ => rfl, fun _ => rfl, fun _ => rfl⟩)
    | with_reducible refine charge_touch h_traffic h_ev h_hl h_outbox ?_
    | with_reducible refine takeL3_touch h_runs h_sync h_traffic h_ev h_outbox ?_
    | with_reducible refine touch_foldl ?_ (fun _ _ _ => ?_)

theorem lakesStart_touch {s : State} (h_lakes : W.lakes = true) (hs : ChangesOnly W s₀ s) :
    ChangesOnly W s₀ (lakesStart s) := by
  unfold lakesStart
  repeat' first
    | with_reducible assumption
    | fail_if_no_progress (with_reducible refine touch_mk ?_ ⟨rfl, rfl, fun _ => rfl, fun _ => rfl, fun _ => rfl, fun _ => rfl, fun _ => rfl, fun _ => rfl, fun _ => rfl, fun _ => rfl, fun _ => rfl, fun _ => rfl, fun _ => rfl, fun _ => rfl, fun _ => rfl, fun _ => rfl, fun _ => rfl, fun _ => rfl, fun _ => rfl, fun _ => rfl, off_of_on h_lakes, fun _ => rfl, fun _ => rfl, fun _ => rfl, fun _ => rfl, fun _ => rfl, fun _ => rfl, fun _ => rfl, fun _ => rfl, fun _ => rfl, fun _ => rfl, fun _ => rfl, fun _ => rfl⟩)

theorem raiseMsi_touch {s : State} {v : Nat} (h_outbox : W.outbox = true) (hs : ChangesOnly W s₀ s) :
    ChangesOnly W s₀ (raiseMsi s v) := by
  unfold raiseMsi
  repeat' first
    | with_reducible assumption
    | fail_if_no_progress (with_reducible refine touch_mk ?_ ⟨rfl, rfl, fun _ => rfl, fun _ => rfl, fun _ => rfl, fun _ => rfl, fun _ => rfl, fun _ => rfl, fun _ => rfl, fun _ => rfl, fun _ => rfl, fun _ => rfl, fun _ => rfl, fun _ => rfl, fun _ => rfl, fun _ => rfl, fun _ => rfl, fun _ => rfl, fun _ => rfl, fun _ => rfl, fun _ => rfl, fun _ => rfl, fun _ => rfl, fun _ => rfl, fun _ => rfl, fun _ => rfl, fun _ => rfl, fun _ => rfl, fun _ => rfl, off_of_on h_outbox, fun _ => rfl, fun _ => rfl, fun _ => rfl⟩)

theorem respondHost_touch {s : State} {slot : Nat} {x : Response} (h_outbox : W.outbox = true) (h_mail : W.mail = true) (hs : ChangesOnly W s₀ s) :
    ChangesOnly W s₀ (respondHost s slot x) := by
  unfold respondHost
  repeat' first
    | with_reducible assumption
    | fail_if_no_progress (with_reducible refine touch_mk ?_ ⟨rfl, rfl, fun _ => rfl, fun _ => rfl, fun _ => rfl, fun _ => rfl, fun _ => rfl, fun _ => rfl, fun _ => rfl, fun _ => rfl, fun _ => rfl, fun _ => rfl, fun _ => rfl, fun _ => rfl, fun _ => rfl, fun _ => rfl, fun _ => rfl, fun _ => rfl, fun _ => rfl, fun _ => rfl, fun _ => rfl, fun _ => rfl, fun _ => rfl, fun _ => rfl, fun _ => rfl, fun _ => rfl, fun _ => rfl, fun _ => rfl, fun _ => rfl, fun _ => rfl, off_of_on h_mail, fun _ => rfl, fun _ => rfl⟩)
    | with_reducible refine raiseMsi_touch h_outbox ?_

theorem setSource_touch {s : State} {m : MgmtSource} (h_mail : W.mail = true) (hs : ChangesOnly W s₀ s) :
    ChangesOnly W s₀ (setSource s m) := by
  unfold setSource
  repeat' first
    | with_reducible assumption
    | fail_if_no_progress (with_reducible refine touch_mk ?_ ⟨rfl, rfl, fun _ => rfl, fun _ => rfl, fun _ => rfl, fun _ => rfl, fun _ => rfl, fun _ => rfl, fun _ => rfl, fun _ => rfl, fun _ => rfl, fun _ => rfl, fun _ => rfl, fun _ => rfl, fun _ => rfl, fun _ => rfl, fun _ => rfl, fun _ => rfl, fun _ => rfl, fun _ => rfl, fun _ => rfl, fun _ => rfl, fun _ => rfl, fun _ => rfl, fun _ => rfl, fun _ => rfl, fun _ => rfl, fun _ => rfl, fun _ => rfl, fun _ => rfl, off_of_on h_mail, fun _ => rfl, fun _ => rfl⟩)

theorem sendFragments_touch {s : State} {addr : Word} {udp : Half} {seq : Word} {msg : List Byte} (h_traffic : W.traffic = true) (h_outbox : W.outbox = true) (hs : ChangesOnly W s₀ s) :
    ChangesOnly W s₀ (sendFragments s addr udp seq msg) := by
  unfold sendFragments
  repeat' first
    | with_reducible assumption
    | with_reducible refine sendMgmt_touch h_traffic h_outbox ?_
    | with_reducible refine touch_foldl ?_ (fun _ _ _ => ?_)

theorem respondMgmt_touch {s : State} {addr : Word} {udp : Half} {seq : Word} {x : Response} (h_traffic : W.traffic = true) (h_outbox : W.outbox = true) (h_mail : W.mail = true) (hs : ChangesOnly W s₀ s) :
    ChangesOnly W s₀ (respondMgmt s addr udp seq x) := by
  unfold respondMgmt
  repeat' first
    | with_reducible assumption
    | with_reducible refine sendFragments_touch h_traffic h_outbox ?_
    | with_reducible refine setSource_touch h_mail ?_
    | with_reducible refine touch_ite (fun _ => ?_) (fun _ => ?_)

theorem respondPeer_touch {s : State} {rank : Rank} {x : Response} (h_wire : W.wire = true) (h_mail : W.mail = true) (hs : ChangesOnly W s₀ s) :
    ChangesOnly W s₀ (respondPeer s rank x) := by
  unfold respondPeer
  repeat' first
    | with_reducible assumption
    | fail_if_no_progress (with_reducible refine touch_mk ?_ ⟨rfl, rfl, fun _ => rfl, fun _ => rfl, fun _ => rfl, fun _ => rfl, fun _ => rfl, fun _ => rfl, fun _ => rfl, fun _ => rfl, fun _ => rfl, fun _ => rfl, fun _ => rfl, fun _ => rfl, fun _ => rfl, fun _ => rfl, fun _ => rfl, off_of_on h_wire, fun _ => rfl, fun _ => rfl, fun _ => rfl, fun _ => rfl, fun _ => rfl, fun _ => rfl, fun _ => rfl, fun _ => rfl, fun _ => rfl, fun _ => rfl, fun _ => rfl, fun _ => rfl, off_of_on h_mail, fun _ => rfl, fun _ => rfl⟩)
    | with_reducible refine touch_ite (fun _ => ?_) (fun _ => ?_)

theorem respond_touch {s : State} {r : Req} {opcode : Nat} {st : Status} {final : Bool} {digest : List Byte} {body : List Byte} (h_wire : W.wire = true) (h_traffic : W.traffic = true) (h_outbox : W.outbox = true) (h_mail : W.mail = true) (hs : ChangesOnly W s₀ s) :
    ChangesOnly W s₀ (respond s r opcode st final digest body) := by
  unfold respond
  repeat' first
    | with_reducible assumption
    | with_reducible refine respondHost_touch h_outbox h_mail ?_
    | with_reducible refine respondMgmt_touch h_traffic h_outbox h_mail ?_
    | with_reducible refine respondPeer_touch h_wire h_mail ?_
    | split

theorem changeEvent_touch {s : State} {r : Req} {opcode : Nat} (h_traffic : W.traffic = true) (h_ev : W.ev = true) (h_outbox : W.outbox = true) (hs : ChangesOnly W s₀ s) :
    ChangesOnly W s₀ (changeEvent s r opcode) := by
  unfold changeEvent
  repeat' first
    | with_reducible assumption
    | with_reducible refine raise_touch h_traffic h_ev h_outbox ?_

theorem refuse_touch {s : State} {r : Req} {opcode : Nat} {st : Status} (h_wire : W.wire = true) (h_traffic : W.traffic = true) (h_outbox : W.outbox = true) (h_mail : W.mail = true) (hs : ChangesOnly W s₀ s) :
    ChangesOnly W s₀ (refuse s r opcode st) := by
  unfold refuse
  repeat' first
    | with_reducible assumption
    | with_reducible refine respond_touch h_wire h_traffic h_outbox h_mail ?_

theorem answer_touch {s : State} {r : Req} {opcode : Nat} {body : List Byte} (h_wire : W.wire = true) (h_traffic : W.traffic = true) (h_outbox : W.outbox = true) (h_mail : W.mail = true) (hs : ChangesOnly W s₀ s) :
    ChangesOnly W s₀ (answer s r opcode body) := by
  unfold answer
  repeat' first
    | with_reducible assumption
    | with_reducible refine respond_touch h_wire h_traffic h_outbox h_mail ?_

theorem settled_touch {s : State} {r : Req} {opcode : Nat} {state : List Byte} {body : List Byte} (h_wire : W.wire = true) (h_traffic : W.traffic = true) (h_ev : W.ev = true) (h_outbox : W.outbox = true) (h_mail : W.mail = true) (hs : ChangesOnly W s₀ s) :
    ChangesOnly W s₀ (settled s r opcode state body) := by
  unfold settled
  repeat' first
    | with_reducible assumption
    | with_reducible refine respond_touch h_wire h_traffic h_outbox h_mail ?_
    | with_reducible refine changeEvent_touch h_traffic h_ev h_outbox ?_

theorem acknowledged_touch {s : State} {r : Req} {opcode : Nat} {state : List Byte} {body : List Byte} (h_wire : W.wire = true) (h_traffic : W.traffic = true) (h_outbox : W.outbox = true) (h_mail : W.mail = true) (hs : ChangesOnly W s₀ s) :
    ChangesOnly W s₀ (acknowledged s r opcode state body) := by
  unfold acknowledged
  repeat' first
    | with_reducible assumption
    | with_reducible refine respond_touch h_wire h_traffic h_outbox h_mail ?_

theorem accept_touch {s : State} {r : Req} {opcode : Nat} {args : List Nat} {digest : List Byte} (h_wire : W.wire = true) (h_traffic : W.traffic = true) (h_outbox : W.outbox = true) (h_mail : W.mail = true) (hs : ChangesOnly W s₀ s) :
    ChangesOnly W s₀ (accept s r opcode args digest) := by
  unfold accept
  repeat' first
    | with_reducible assumption
    | fail_if_no_progress (with_reducible refine touch_mk ?_ ⟨rfl, rfl, fun _ => rfl, fun _ => rfl, fun _ => rfl, fun _ => rfl, fun _ => rfl, fun _ => rfl, fun _ => rfl, fun _ => rfl, fun _ => rfl, fun _ => rfl, fun _ => rfl, fun _ => rfl, fun _ => rfl, fun _ => rfl, fun _ => rfl, fun _ => rfl, fun _ => rfl, fun _ => rfl, fun _ => rfl, fun _ => rfl, fun _ => rfl, fun _ => rfl, fun _ => rfl, fun _ => rfl, fun _ => rfl, fun _ => rfl, fun _ => rfl, fun _ => rfl, off_of_on h_mail, fun _ => rfl, fun _ => rfl⟩)
    | with_reducible refine respond_touch h_wire h_traffic h_outbox h_mail ?_

theorem closeCommand_touch {s : State} {c : OpenCommand} (h_mail : W.mail = true) (hs : ChangesOnly W s₀ s) :
    ChangesOnly W s₀ (closeCommand s c) := by
  unfold closeCommand
  repeat' first
    | with_reducible assumption
    | fail_if_no_progress (with_reducible refine touch_mk ?_ ⟨rfl, rfl, fun _ => rfl, fun _ => rfl, fun _ => rfl, fun _ => rfl, fun _ => rfl, fun _ => rfl, fun _ => rfl, fun _ => rfl, fun _ => rfl, fun _ => rfl, fun _ => rfl, fun _ => rfl, fun _ => rfl, fun _ => rfl, fun _ => rfl, fun _ => rfl, fun _ => rfl, fun _ => rfl, fun _ => rfl, fun _ => rfl, fun _ => rfl, fun _ => rfl, fun _ => rfl, fun _ => rfl, fun _ => rfl, fun _ => rfl, fun _ => rfl, fun _ => rfl, off_of_on h_mail, fun _ => rfl, fun _ => rfl⟩)

theorem serve_touch {s : State} {r : Req} {opcode : Nat} {f : State → State} (h_wire : W.wire = true) (h_traffic : W.traffic = true) (h_outbox : W.outbox = true) (h_mail : W.mail = true) (hs : ChangesOnly W s₀ s)
    (hsf : ∀ s, ChangesOnly W s₀ s → ChangesOnly W s₀ (f s)) :
    ChangesOnly W s₀ (serve s r opcode f) := by
  unfold serve
  repeat' first
    | with_reducible assumption
    | with_reducible refine hsf _ ?_
    | with_reducible refine refuse_touch h_wire h_traffic h_outbox h_mail ?_
    | with_reducible refine touch_ite (fun _ => ?_) (fun _ => ?_)
    | split

theorem serveC_touch {s : State} {r : Req} {opcode : Nat} {f : State → State} (h_wire : W.wire = true) (h_traffic : W.traffic = true) (h_outbox : W.outbox = true) (h_mail : W.mail = true) (hs : ChangesOnly W s₀ s)
    (hsf : ∀ s, ChangesOnly W s₀ s → ChangesOnly W s₀ (f s)) :
    ChangesOnly W s₀ (serveC s r opcode f) := by
  unfold serveC
  repeat' first
    | with_reducible assumption
    | with_reducible refine hsf _ ?_
    | with_reducible refine serve_touch h_wire h_traffic h_outbox h_mail ?_ (fun _ _ => ?_)
    | with_reducible refine refuse_touch h_wire h_traffic h_outbox h_mail ?_
    | with_reducible refine touch_ite (fun _ => ?_) (fun _ => ?_)

theorem addHold_touch {s : State} {frame : Nat} (h_holds : W.holds = true) (hs : ChangesOnly W s₀ s) :
    ChangesOnly W s₀ (addHold s frame) := by
  unfold addHold
  repeat' first
    | with_reducible assumption
    | fail_if_no_progress (with_reducible refine touch_mk ?_ ⟨rfl, rfl, fun _ => rfl, fun _ => rfl, fun _ => rfl, off_of_on h_holds, fun _ => rfl, fun _ => rfl, fun _ => rfl, fun _ => rfl, fun _ => rfl, fun _ => rfl, fun _ => rfl, fun _ => rfl, fun _ => rfl, fun _ => rfl, fun _ => rfl, fun _ => rfl, fun _ => rfl, fun _ => rfl, fun _ => rfl, fun _ => rfl, fun _ => rfl, fun _ => rfl, fun _ => rfl, fun _ => rfl, fun _ => rfl, fun _ => rfl, fun _ => rfl, fun _ => rfl, fun _ => rfl, fun _ => rfl, fun _ => rfl⟩)
    | with_reducible refine touch_ite (fun _ => ?_) (fun _ => ?_)

theorem takeL4_touch {s : State} (h_runs : W.runs = true) (h_sync : W.sync = true) (h_traffic : W.traffic = true) (h_ev : W.ev = true) (h_outbox : W.outbox = true) (hs : ChangesOnly W s₀ s) :
    ChangesOnly W s₀ (takeL4 s) := by
  unfold takeL4
  repeat' first
    | with_reducible assumption
    | fail_if_no_progress (with_reducible refine touch_mk ?_ ⟨rfl, rfl, fun _ => rfl, fun _ => rfl, off_of_on h_runs, fun _ => rfl, fun _ => rfl, fun _ => rfl, fun _ => rfl, fun _ => rfl, fun _ => rfl, fun _ => rfl, fun _ => rfl, fun _ => rfl, fun _ => rfl, fun _ => rfl, fun _ => rfl, fun _ => rfl, fun _ => rfl, fun _ => rfl, fun _ => rfl, fun _ => rfl, fun _ => rfl, fun _ => rfl, fun _ => rfl, fun _ => rfl, fun _ => rfl, fun _ => rfl, fun _ => rfl, fun _ => rfl, fun _ => rfl, fun _ => rfl, fun _ => rfl⟩)
    | with_reducible refine raise_touch h_traffic h_ev h_outbox ?_
    | with_reducible refine floodExpel_touch h_sync ?_
    | split
    | (dsimp only; split)

theorem decideRedo_touch {s : State} (h_runs : W.runs = true) (h_upd : W.upd = true) (h_sync : W.sync = true) (h_traffic : W.traffic = true) (h_ev : W.ev = true) (h_outbox : W.outbox = true) (hs : ChangesOnly W s₀ s) :
    ChangesOnly W s₀ (decideRedo s) := by
  unfold decideRedo
  repeat' first
    | with_reducible assumption
    | fail_if_no_progress (with_reducible refine touch_mk ?_ ⟨rfl, rfl, fun _ => rfl, fun _ => rfl, fun _ => rfl, fun _ => rfl, fun _ => rfl, fun _ => rfl, fun _ => rfl, fun _ => rfl, fun _ => rfl, fun _ => rfl, fun _ => rfl, fun _ => rfl, fun _ => rfl, off_of_on h_upd, fun _ => rfl, fun _ => rfl, fun _ => rfl, fun _ => rfl, fun _ => rfl, fun _ => rfl, fun _ => rfl, fun _ => rfl, fun _ => rfl, fun _ => rfl, fun _ => rfl, fun _ => rfl, fun _ => rfl, fun _ => rfl, fun _ => rfl, fun _ => rfl, fun _ => rfl⟩)
    | with_reducible refine takeL4_touch h_runs h_sync h_traffic h_ev h_outbox ?_
    | with_reducible refine touch_ite (fun _ => ?_) (fun _ => ?_)

theorem noteComplete_touch {s : State} {rank : Nat} {attempt : Nat} {whole : Bool} (h_runs : W.runs = true) (h_upd : W.upd = true) (h_sync : W.sync = true) (h_traffic : W.traffic = true) (h_ev : W.ev = true) (h_outbox : W.outbox = true) (hs : ChangesOnly W s₀ s) :
    ChangesOnly W s₀ (noteComplete s rank attempt whole) := by
  unfold noteComplete
  repeat' first
    | with_reducible assumption
    | fail_if_no_progress (with_reducible refine touch_mk ?_ ⟨rfl, rfl, fun _ => rfl, fun _ => rfl, fun _ => rfl, fun _ => rfl, fun _ => rfl, fun _ => rfl, fun _ => rfl, fun _ => rfl, fun _ => rfl, fun _ => rfl, fun _ => rfl, fun _ => rfl, fun _ => rfl, off_of_on h_upd, fun _ => rfl, fun _ => rfl, fun _ => rfl, fun _ => rfl, fun _ => rfl, fun _ => rfl, fun _ => rfl, fun _ => rfl, fun _ => rfl, fun _ => rfl, fun _ => rfl, fun _ => rfl, fun _ => rfl, fun _ => rfl, fun _ => rfl, fun _ => rfl, fun _ => rfl⟩)
    | with_reducible refine decideRedo_touch h_runs h_upd h_sync h_traffic h_ev h_outbox ?_
    | with_reducible refine touch_ite (fun _ => ?_) (fun _ => ?_)

theorem noteDone_touch {s : State} {r : DoneReport} (h_upd : W.upd = true) (hs : ChangesOnly W s₀ s) :
    ChangesOnly W s₀ (noteDone s r) := by
  unfold noteDone
  repeat' first
    | with_reducible assumption
    | fail_if_no_progress (with_reducible refine touch_mk ?_ ⟨rfl, rfl, fun _ => rfl, fun _ => rfl, fun _ => rfl, fun _ => rfl, fun _ => rfl, fun _ => rfl, fun _ => rfl, fun _ => rfl, fun _ => rfl, fun _ => rfl, fun _ => rfl, fun _ => rfl, fun _ => rfl, off_of_on h_upd, fun _ => rfl, fun _ => rfl, fun _ => rfl, fun _ => rfl, fun _ => rfl, fun _ => rfl, fun _ => rfl, fun _ => rfl, fun _ => rfl, fun _ => rfl, fun _ => rfl, fun _ => rfl, fun _ => rfl, fun _ => rfl, fun _ => rfl, fun _ => rfl, fun _ => rfl⟩)

theorem noteStart_touch {s : State} {frame : Nat} (h_plan : W.plan = true) (hs : ChangesOnly W s₀ s) :
    ChangesOnly W s₀ (noteStart s frame) := by
  unfold noteStart
  repeat' first
    | with_reducible assumption
    | fail_if_no_progress (with_reducible refine touch_mk ?_ ⟨rfl, rfl, fun _ => rfl, fun _ => rfl, fun _ => rfl, fun _ => rfl, fun _ => rfl, fun _ => rfl, fun _ => rfl, fun _ => rfl, fun _ => rfl, fun _ => rfl, fun _ => rfl, fun _ => rfl, fun _ => rfl, fun _ => rfl, fun _ => rfl, fun _ => rfl, fun _ => rfl, off_of_on h_plan, fun _ => rfl, fun _ => rfl, fun _ => rfl, fun _ => rfl, fun _ => rfl, fun _ => rfl, fun _ => rfl, fun _ => rfl, fun _ => rfl, fun _ => rfl, fun _ => rfl, fun _ => rfl, fun _ => rfl⟩)
    | with_reducible refine touch_ite (fun _ => ?_) (fun _ => ?_)

theorem notePrepared_touch {s : State} {rank : Nat} (h_sync : W.sync = true) (h_plan : W.plan = true) (hs : ChangesOnly W s₀ s) :
    ChangesOnly W s₀ (notePrepared s rank) := by
  unfold notePrepared
  repeat' first
    | with_reducible assumption
    | fail_if_no_progress (with_reducible refine touch_mk ?_ ⟨rfl, rfl, fun _ => rfl, fun _ => rfl, fun _ => rfl, fun _ => rfl, fun _ => rfl, fun _ => rfl, fun _ => rfl, fun _ => rfl, fun _ => rfl, fun _ => rfl, fun _ => rfl, fun _ => rfl, fun _ => rfl, fun _ => rfl, fun _ => rfl, fun _ => rfl, fun _ => rfl, off_of_on h_plan, fun _ => rfl, fun _ => rfl, fun _ => rfl, fun _ => rfl, fun _ => rfl, fun _ => rfl, fun _ => rfl, fun _ => rfl, fun _ => rfl, fun _ => rfl, fun _ => rfl, fun _ => rfl, fun _ => rfl⟩)
    | with_reducible refine noteStart_touch h_plan ?_
    | with_reducible refine flood_touch h_sync ?_
    | with_reducible refine touch_ite (fun _ => ?_) (fun _ => ?_)

theorem endLoad_touch {s : State} {st : Status} {digest : List Byte} {body : List Byte} (h_wire : W.wire = true) (h_plan : W.plan = true) (h_traffic : W.traffic = true) (h_ev : W.ev = true) (h_outbox : W.outbox = true) (h_mail : W.mail = true) (hs : ChangesOnly W s₀ s) :
    ChangesOnly W s₀ (endLoad s st digest body) := by
  unfold endLoad
  repeat' first
    | with_reducible assumption
    | fail_if_no_progress (with_reducible refine touch_mk ?_ ⟨rfl, rfl, fun _ => rfl, fun _ => rfl, fun _ => rfl, fun _ => rfl, fun _ => rfl, fun _ => rfl, fun _ => rfl, fun _ => rfl, fun _ => rfl, fun _ => rfl, fun _ => rfl, fun _ => rfl, fun _ => rfl, fun _ => rfl, fun _ => rfl, fun _ => rfl, fun _ => rfl, off_of_on h_plan, fun _ => rfl, fun _ => rfl, fun _ => rfl, fun _ => rfl, fun _ => rfl, fun _ => rfl, fun _ => rfl, fun _ => rfl, fun _ => rfl, fun _ => rfl, off_of_on h_mail, fun _ => rfl, fun _ => rfl⟩)
    | with_reducible refine respond_touch h_wire h_traffic h_outbox h_mail ?_
    | with_reducible refine changeEvent_touch h_traffic h_ev h_outbox ?_
    | with_reducible refine touch_ite (fun _ => ?_) (fun _ => ?_)
    | split

theorem abandonLoad_touch {s : State} {reason : Nat} (h_wire : W.wire = true) (h_plan : W.plan = true) (h_traffic : W.traffic = true) (h_ev : W.ev = true) (h_outbox : W.outbox = true) (h_mail : W.mail = true) (hs : ChangesOnly W s₀ s) :
    ChangesOnly W s₀ (abandonLoad s reason) := by
  unfold abandonLoad
  repeat' first
    | with_reducible assumption
    | fail_if_no_progress (with_reducible refine touch_mk ?_ ⟨rfl, rfl, fun _ => rfl, fun _ => rfl, fun _ => rfl, fun _ => rfl, fun _ => rfl, fun _ => rfl, fun _ => rfl, fun _ => rfl, fun _ => rfl, fun _ => rfl, fun _ => rfl, fun _ => rfl, fun _ => rfl, fun _ => rfl, fun _ => rfl, fun _ => rfl, fun _ => rfl, off_of_on h_plan, fun _ => rfl, fun _ => rfl, fun _ => rfl, fun _ => rfl, fun _ => rfl, fun _ => rfl, fun _ => rfl, fun _ => rfl, fun _ => rfl, fun _ => rfl, fun _ => rfl, fun _ => rfl, fun _ => rfl⟩)
    | with_reducible refine raise_touch h_traffic h_ev h_outbox ?_
    | with_reducible refine endLoad_touch h_wire h_plan h_traffic h_ev h_outbox h_mail ?_
    | with_reducible refine touch_ite (fun _ => ?_) (fun _ => ?_)

theorem noteAbort_touch {s : State} {reason : Nat} (h_wire : W.wire = true) (h_plan : W.plan = true) (h_traffic : W.traffic = true) (h_ev : W.ev = true) (h_outbox : W.outbox = true) (h_mail : W.mail = true) (hs : ChangesOnly W s₀ s) :
    ChangesOnly W s₀ (noteAbort s reason) := by
  unfold noteAbort
  repeat' first
    | with_reducible assumption
    | with_reducible refine abandonLoad_touch h_wire h_plan h_traffic h_ev h_outbox h_mail ?_
    | with_reducible refine touch_ite (fun _ => ?_) (fun _ => ?_)

theorem noteExpel_touch {s : State} {frame : Nat} {rank : Nat} (h_sync : W.sync = true) (hs : ChangesOnly W s₀ s) :
    ChangesOnly W s₀ (noteExpel s frame rank) := by
  unfold noteExpel
  repeat' first
    | with_reducible assumption
    | fail_if_no_progress (with_reducible refine touch_mk ?_ ⟨rfl, rfl, fun _ => rfl, fun _ => rfl, fun _ => rfl, fun _ => rfl, fun _ => rfl, fun _ => rfl, fun _ => rfl, fun _ => rfl, fun _ => rfl, fun _ => rfl, fun _ => rfl, fun _ => rfl, fun _ => rfl, fun _ => rfl, fun _ => rfl, fun _ => rfl, off_of_on h_sync, fun _ => rfl, fun _ => rfl, fun _ => rfl, fun _ => rfl, fun _ => rfl, fun _ => rfl, fun _ => rfl, fun _ => rfl, fun _ => rfl, fun _ => rfl, fun _ => rfl, fun _ => rfl, fun _ => rfl, fun _ => rfl⟩)
    | with_reducible refine touch_ite (fun _ => ?_) (fun _ => ?_)

theorem actOn_touch {s : State} {e : SyncEvent} (h_runs : W.runs = true) (h_holds : W.holds = true) (h_frame : W.frame = true) (h_upd : W.upd = true) (h_wire : W.wire = true) (h_sync : W.sync = true) (h_plan : W.plan = true) (h_traffic : W.traffic = true) (h_ev : W.ev = true) (h_outbox : W.outbox = true) (h_mail : W.mail = true) (hs : ChangesOnly W s₀ s) :
    ChangesOnly W s₀ (actOn s e) := by
  unfold actOn
  repeat' first
    | with_reducible assumption
    | fail_if_no_progress (with_reducible refine touch_mk ?_ ⟨rfl, rfl, fun _ => rfl, fun _ => rfl, fun _ => rfl, fun _ => rfl, off_of_on h_frame, fun _ => rfl, fun _ => rfl, fun _ => rfl, fun _ => rfl, fun _ => rfl, fun _ => rfl, fun _ => rfl, fun _ => rfl, fun _ => rfl, fun _ => rfl, fun _ => rfl, fun _ => rfl, fun _ => rfl, fun _ => rfl, fun _ => rfl, fun _ => rfl, fun _ => rfl, fun _ => rfl, fun _ => rfl, fun _ => rfl, fun _ => rfl, fun _ => rfl, fun _ => rfl, fun _ => rfl, fun _ => rfl, fun _ => rfl⟩)
    | with_reducible refine addHold_touch h_holds ?_
    | with_reducible refine noteDone_touch h_upd ?_
    | with_reducible refine noteComplete_touch h_runs h_upd h_sync h_traffic h_ev h_outbox ?_
    | with_reducible refine notePrepared_touch h_sync h_plan ?_
    | with_reducible refine noteStart_touch h_plan ?_
    | with_reducible refine noteAbort_touch h_wire h_plan h_traffic h_ev h_outbox h_mail ?_
    | with_reducible refine noteExpel_touch h_sync ?_
    | with_reducible refine touch_ite (fun _ => ?_) (fun _ => ?_)
    | split

theorem receiveFlood_touch {s : State} {link : Nat} {e : SyncEvent} (h_runs : W.runs = true) (h_holds : W.holds = true) (h_frame : W.frame = true) (h_upd : W.upd = true) (h_wire : W.wire = true) (h_sync : W.sync = true) (h_plan : W.plan = true) (h_traffic : W.traffic = true) (h_ev : W.ev = true) (h_outbox : W.outbox = true) (h_mail : W.mail = true) (hs : ChangesOnly W s₀ s) :
    ChangesOnly W s₀ (receiveFlood s link e) := by
  unfold receiveFlood
  repeat' first
    | with_reducible assumption
    | fail_if_no_progress (with_reducible refine touch_mk ?_ ⟨rfl, rfl, fun _ => rfl, fun _ => rfl, fun _ => rfl, fun _ => rfl, fun _ => rfl, fun _ => rfl, fun _ => rfl, fun _ => rfl, fun _ => rfl, fun _ => rfl, fun _ => rfl, fun _ => rfl, fun _ => rfl, fun _ => rfl, fun _ => rfl, fun _ => rfl, off_of_on h_sync, fun _ => rfl, fun _ => rfl, fun _ => rfl, fun _ => rfl, fun _ => rfl, fun _ => rfl, fun _ => rfl, fun _ => rfl, fun _ => rfl, fun _ => rfl, fun _ => rfl, fun _ => rfl, fun _ => rfl, fun _ => rfl⟩)
    | with_reducible refine relay_touch h_sync ?_
    | with_reducible refine takeL3_touch h_runs h_sync h_traffic h_ev h_outbox ?_
    | with_reducible refine actOn_touch h_runs h_holds h_frame h_upd h_wire h_sync h_plan h_traffic h_ev h_outbox h_mail ?_
    | with_reducible refine touch_ite (fun _ => ?_) (fun _ => ?_)

theorem execHold_touch {link : LinkId} {origin : Rank} {frame : BitVec 48} {cause : Fin 16} {cyc : Nat} {s : State} (h_cycle : W.cycle = true) (h_runs : W.runs = true) (h_holds : W.holds = true) (h_frame : W.frame = true) (h_upd : W.upd = true) (h_wire : W.wire = true) (h_sync : W.sync = true) (h_plan : W.plan = true) (h_traffic : W.traffic = true) (h_ev : W.ev = true) (h_outbox : W.outbox = true) (h_mail : W.mail = true) (hs : ChangesOnly W s₀ s) :
    TouchR W s₀ (execHold link origin frame cause cyc s) := by
  unfold execHold
  repeat' first
    | with_reducible assumption
    | with_reducible refine touchR_next ?_
    | with_reducible refine receiveFlood_touch h_runs h_holds h_frame h_upd h_wire h_sync h_plan h_traffic h_ev h_outbox h_mail ?_
    | with_reducible refine atCycle_touch h_cycle ?_

theorem execLate_touch {link : LinkId} {origin : Rank} {frame : BitVec 48} {unit : Byte} {cyc : Nat} {s : State} (h_cycle : W.cycle = true) (h_runs : W.runs = true) (h_holds : W.holds = true) (h_frame : W.frame = true) (h_upd : W.upd = true) (h_wire : W.wire = true) (h_sync : W.sync = true) (h_plan : W.plan = true) (h_traffic : W.traffic = true) (h_ev : W.ev = true) (h_outbox : W.outbox = true) (h_mail : W.mail = true) (hs : ChangesOnly W s₀ s) :
    TouchR W s₀ (execLate link origin frame unit cyc s) := by
  unfold execLate
  repeat' first
    | with_reducible assumption
    | with_reducible refine touchR_next ?_
    | with_reducible refine receiveFlood_touch h_runs h_holds h_frame h_upd h_wire h_sync h_plan h_traffic h_ev h_outbox h_mail ?_
    | with_reducible refine atCycle_touch h_cycle ?_

theorem execStretch_touch {link : LinkId} {origin : Rank} {frame : BitVec 48} {pos : Word} {s : State} (h_runs : W.runs = true) (h_holds : W.holds = true) (h_frame : W.frame = true) (h_upd : W.upd = true) (h_wire : W.wire = true) (h_sync : W.sync = true) (h_plan : W.plan = true) (h_traffic : W.traffic = true) (h_ev : W.ev = true) (h_outbox : W.outbox = true) (h_mail : W.mail = true) (hs : ChangesOnly W s₀ s) :
    TouchR W s₀ (execStretch link origin frame pos s) := by
  unfold execStretch
  repeat' first
    | with_reducible assumption
    | with_reducible refine touchR_next ?_
    | with_reducible refine receiveFlood_touch h_runs h_holds h_frame h_upd h_wire h_sync h_plan h_traffic h_ev h_outbox h_mail ?_

theorem execUpdateDone_touch {link : LinkId} {origin : Rank} {frame : BitVec 48} {version : Word} {attempt : Byte} {skipped : Bool} {s : State} (h_runs : W.runs = true) (h_holds : W.holds = true) (h_frame : W.frame = true) (h_upd : W.upd = true) (h_wire : W.wire = true) (h_sync : W.sync = true) (h_plan : W.plan = true) (h_traffic : W.traffic = true) (h_ev : W.ev = true) (h_outbox : W.outbox = true) (h_mail : W.mail = true) (hs : ChangesOnly W s₀ s) :
    TouchR W s₀ (execUpdateDone link origin frame version attempt skipped s) := by
  unfold execUpdateDone
  repeat' first
    | with_reducible assumption
    | with_reducible refine touchR_next ?_
    | with_reducible refine receiveFlood_touch h_runs h_holds h_frame h_upd h_wire h_sync h_plan h_traffic h_ev h_outbox h_mail ?_

theorem execComplete_touch {link : LinkId} {origin : Rank} {frame : BitVec 48} {attempt : Byte} {whole : Bool} {cyc : Nat} {s : State} (h_cycle : W.cycle = true) (h_runs : W.runs = true) (h_holds : W.holds = true) (h_frame : W.frame = true) (h_upd : W.upd = true) (h_wire : W.wire = true) (h_sync : W.sync = true) (h_plan : W.plan = true) (h_traffic : W.traffic = true) (h_ev : W.ev = true) (h_outbox : W.outbox = true) (h_mail : W.mail = true) (hs : ChangesOnly W s₀ s) :
    TouchR W s₀ (execComplete link origin frame attempt whole cyc s) := by
  unfold execComplete
  repeat' first
    | with_reducible assumption
    | with_reducible refine touchR_next ?_
    | with_reducible refine receiveFlood_touch h_runs h_holds h_frame h_upd h_wire h_sync h_plan h_traffic h_ev h_outbox h_mail ?_
    | with_reducible refine atCycle_touch h_cycle ?_

theorem execPrepared_touch {link : LinkId} {origin : Rank} {planId : Word} {s : State} (h_runs : W.runs = true) (h_holds : W.holds = true) (h_frame : W.frame = true) (h_upd : W.upd = true) (h_wire : W.wire = true) (h_sync : W.sync = true) (h_plan : W.plan = true) (h_traffic : W.traffic = true) (h_ev : W.ev = true) (h_outbox : W.outbox = true) (h_mail : W.mail = true) (hs : ChangesOnly W s₀ s) :
    TouchR W s₀ (execPrepared link origin planId s) := by
  unfold execPrepared
  repeat' first
    | with_reducible assumption
    | with_reducible refine touchR_next ?_
    | with_reducible refine receiveFlood_touch h_runs h_holds h_frame h_upd h_wire h_sync h_plan h_traffic h_ev h_outbox h_mail ?_

theorem execSyncStart_touch {link : LinkId} {origin : Rank} {frame : BitVec 48} {planId : Word} {s : State} (h_runs : W.runs = true) (h_holds : W.holds = true) (h_frame : W.frame = true) (h_upd : W.upd = true) (h_wire : W.wire = true) (h_sync : W.sync = true) (h_plan : W.plan = true) (h_traffic : W.traffic = true) (h_ev : W.ev = true) (h_outbox : W.outbox = true) (h_mail : W.mail = true) (hs : ChangesOnly W s₀ s) :
    TouchR W s₀ (execSyncStart link origin frame planId s) := by
  unfold execSyncStart
  repeat' first
    | with_reducible assumption
    | with_reducible refine touchR_next ?_
    | with_reducible refine receiveFlood_touch h_runs h_holds h_frame h_upd h_wire h_sync h_plan h_traffic h_ev h_outbox h_mail ?_

theorem execSyncAbort_touch {link : LinkId} {origin : Rank} {planId : Word} {reason : Byte} {s : State} (h_runs : W.runs = true) (h_holds : W.holds = true) (h_frame : W.frame = true) (h_upd : W.upd = true) (h_wire : W.wire = true) (h_sync : W.sync = true) (h_plan : W.plan = true) (h_traffic : W.traffic = true) (h_ev : W.ev = true) (h_outbox : W.outbox = true) (h_mail : W.mail = true) (hs : ChangesOnly W s₀ s) :
    TouchR W s₀ (execSyncAbort link origin planId reason s) := by
  unfold execSyncAbort
  repeat' first
    | with_reducible assumption
    | with_reducible refine touchR_next ?_
    | with_reducible refine receiveFlood_touch h_runs h_holds h_frame h_upd h_wire h_sync h_plan h_traffic h_ev h_outbox h_mail ?_

theorem execExpel_touch {link : LinkId} {origin : Rank} {frame : BitVec 48} {rank : Rank} {cyc : Nat} {s : State} (h_cycle : W.cycle = true) (h_runs : W.runs = true) (h_holds : W.holds = true) (h_frame : W.frame = true) (h_upd : W.upd = true) (h_wire : W.wire = true) (h_sync : W.sync = true) (h_plan : W.plan = true) (h_traffic : W.traffic = true) (h_ev : W.ev = true) (h_outbox : W.outbox = true) (h_mail : W.mail = true) (hs : ChangesOnly W s₀ s) :
    TouchR W s₀ (execExpel link origin frame rank cyc s) := by
  unfold execExpel
  repeat' first
    | with_reducible assumption
    | with_reducible refine touchR_next ?_
    | with_reducible refine receiveFlood_touch h_runs h_holds h_frame h_upd h_wire h_sync h_plan h_traffic h_ev h_outbox h_mail ?_
    | with_reducible refine atCycle_touch h_cycle ?_

theorem execSyncTick_touch {link : LinkId} {frame : BitVec 48} {departure : Fin 8388608} {aligned : Bool} {arrival : Int} {s : State} (h_sync : W.sync = true) (hs : ChangesOnly W s₀ s) :
    TouchR W s₀ (execSyncTick link frame departure aligned arrival s) := by
  unfold execSyncTick
  repeat' first
    | with_reducible assumption
    | fail_if_no_progress (with_reducible refine touch_mk ?_ ⟨rfl, rfl, fun _ => rfl, fun _ => rfl, fun _ => rfl, fun _ => rfl, fun _ => rfl, fun _ => rfl, fun _ => rfl, fun _ => rfl, fun _ => rfl, fun _ => rfl, fun _ => rfl, fun _ => rfl, fun _ => rfl, fun _ => rfl, fun _ => rfl, fun _ => rfl, off_of_on h_sync, fun _ => rfl, fun _ => rfl, fun _ => rfl, fun _ => rfl, fun _ => rfl, fun _ => rfl, fun _ => rfl, fun _ => rfl, fun _ => rfl, fun _ => rfl, fun _ => rfl, fun _ => rfl, fun _ => rfl, fun _ => rfl⟩)
    | with_reducible refine touchR_next ?_
    | with_reducible refine touch_ite (fun _ => ?_) (fun _ => ?_)
    | with_reducible refine touchR_ite (fun _ => ?_) (fun _ => ?_)

theorem execMemberAligned_touch {frame : BitVec 48} {s : State} (h_frame : W.frame = true) (h_sync : W.sync = true) (hs : ChangesOnly W s₀ s) :
    TouchR W s₀ (execMemberAligned frame s) := by
  unfold execMemberAligned
  repeat' first
    | with_reducible assumption
    | fail_if_no_progress (with_reducible refine touch_mk ?_ ⟨rfl, rfl, fun _ => rfl, fun _ => rfl, fun _ => rfl, fun _ => rfl, off_of_on h_frame, fun _ => rfl, fun _ => rfl, fun _ => rfl, fun _ => rfl, fun _ => rfl, fun _ => rfl, fun _ => rfl, fun _ => rfl, fun _ => rfl, fun _ => rfl, fun _ => rfl, off_of_on h_sync, fun _ => rfl, fun _ => rfl, fun _ => rfl, fun _ => rfl, fun _ => rfl, fun _ => rfl, fun _ => rfl, fun _ => rfl, fun _ => rfl, fun _ => rfl, fun _ => rfl, fun _ => rfl, fun _ => rfl, fun _ => rfl⟩)
    | with_reducible refine touchR_next ?_
    | with_reducible refine touch_ite (fun _ => ?_) (fun _ => ?_)
    | with_reducible refine touchR_ite (fun _ => ?_) (fun _ => ?_)

theorem execTickLoss_touch {cyc : Nat} {s : State} (h_cycle : W.cycle = true) (h_runs : W.runs = true) (h_sync : W.sync = true) (h_traffic : W.traffic = true) (h_ev : W.ev = true) (h_outbox : W.outbox = true) (hs : ChangesOnly W s₀ s) :
    TouchR W s₀ (execTickLoss cyc s) := by
  unfold execTickLoss
  repeat' first
    | with_reducible assumption
    | with_reducible refine touchR_next ?_
    | with_reducible refine takeL3_touch h_runs h_sync h_traffic h_ev h_outbox ?_
    | with_reducible refine atCycle_touch h_cycle ?_

theorem execEchoMeasurement_touch {link : LinkId} {token : Half} {s : State} (h_wire : W.wire = true) (h_sync : W.sync = true) (hs : ChangesOnly W s₀ s) :
    TouchR W s₀ (execEchoMeasurement link token s) := by
  unfold execEchoMeasurement
  repeat' first
    | with_reducible assumption
    | with_reducible refine touchR_next ?_
    | with_reducible refine modLink_touch h_wire ?_
    | with_reducible refine relay_touch h_sync ?_

theorem execEchoReq_touch {link : LinkId} {token : Half} {turnaround : Word} {s : State} (h_sync : W.sync = true) (hs : ChangesOnly W s₀ s) :
    TouchR W s₀ (execEchoReq link token turnaround s) := by
  unfold execEchoReq
  repeat' first
    | with_reducible assumption
    | with_reducible refine touchR_next ?_
    | with_reducible refine relay_touch h_sync ?_

theorem execEchoReply_touch {link : LinkId} {token : Half} {turnaround : Word} {roundTrip : Word} {s : State} (h_wire : W.wire = true) (h_traffic : W.traffic = true) (h_ev : W.ev = true) (h_outbox : W.outbox = true) (hs : ChangesOnly W s₀ s) :
    TouchR W s₀ (execEchoReply link token turnaround roundTrip s) := by
  unfold execEchoReply
  repeat' first
    | with_reducible assumption
    | with_reducible refine touchR_next ?_
    | with_reducible refine modLink_touch h_wire ?_
    | with_reducible refine raise_touch h_traffic h_ev h_outbox ?_
    | with_reducible refine touch_ite (fun _ => ?_) (fun _ => ?_)
    | with_reducible refine touchR_ite (fun _ => ?_) (fun _ => ?_)

theorem execC0Message_touch {link : LinkId} {m : C0Message} {s : State} (h_wire : W.wire = true) (hs : ChangesOnly W s₀ s) :
    TouchR W s₀ (execC0Message link m s) := by
  unfold execC0Message
  repeat' first
    | with_reducible assumption
    | fail_if_no_progress (with_reducible refine touch_mk ?_ ⟨rfl, rfl, fun _ => rfl, fun _ => rfl, fun _ => rfl, fun _ => rfl, fun _ => rfl, fun _ => rfl, fun _ => rfl, fun _ => rfl, fun _ => rfl, fun _ => rfl, fun _ => rfl, fun _ => rfl, fun _ => rfl, fun _ => rfl, fun _ => rfl, off_of_on h_wire, fun _ => rfl, fun _ => rfl, fun _ => rfl, fun _ => rfl, fun _ => rfl, fun _ => rfl, fun _ => rfl, fun _ => rfl, fun _ => rfl, fun _ => rfl, fun _ => rfl, fun _ => rfl, fun _ => rfl, fun _ => rfl, fun _ => rfl⟩)
    | with_reducible refine touchR_next ?_
    | with_reducible refine touch_ite (fun _ => ?_) (fun _ => ?_)
    | with_reducible refine touchR_ite (fun _ => ?_) (fun _ => ?_)

theorem modLayer_touch {s : State} {l : Nat} {f : LayerWord → LayerWord} (h_num : W.num = true) (hs : ChangesOnly W s₀ s) :
    ChangesOnly W s₀ (modLayer s l f) := by
  unfold modLayer
  repeat' first
    | with_reducible assumption
    | fail_if_no_progress (with_reducible refine touch_mk ?_ ⟨rfl, rfl, fun _ => rfl, fun _ => rfl, fun _ => rfl, fun _ => rfl, fun _ => rfl, fun _ => rfl, fun _ => rfl, fun _ => rfl, fun _ => rfl, fun _ => rfl, fun _ => rfl, fun _ => rfl, fun _ => rfl, fun _ => rfl, off_of_on h_num, fun _ => rfl, fun _ => rfl, fun _ => rfl, fun _ => rfl, fun _ => rfl, fun _ => rfl, fun _ => rfl, fun _ => rfl, fun _ => rfl, fun _ => rfl, fun _ => rfl, fun _ => rfl, fun _ => rfl, fun _ => rfl, fun _ => rfl, fun _ => rfl⟩)

theorem applyObservation_touch {s : State} {index : Nat} {p : Nat} {warm : Bool} {o : Observation} (h_num : W.num = true) (hs : ChangesOnly W s₀ s) :
    ChangesOnly W s₀ (applyObservation s index p warm o) := by
  unfold applyObservation
  repeat' first
    | with_reducible assumption
    | fail_if_no_progress (with_reducible refine touch_mk ?_ ⟨rfl, rfl, fun _ => rfl, fun _ => rfl, fun _ => rfl, fun _ => rfl, fun _ => rfl, fun _ => rfl, fun _ => rfl, fun _ => rfl, fun _ => rfl, fun _ => rfl, fun _ => rfl, fun _ => rfl, fun _ => rfl, fun _ => rfl, off_of_on h_num, fun _ => rfl, fun _ => rfl, fun _ => rfl, fun _ => rfl, fun _ => rfl, fun _ => rfl, fun _ => rfl, fun _ => rfl, fun _ => rfl, fun _ => rfl, fun _ => rfl, fun _ => rfl, fun _ => rfl, fun _ => rfl, fun _ => rfl, fun _ => rfl⟩)

theorem scalesTick_touch {s : State} {q : Nat} (h_num : W.num = true) (hs : ChangesOnly W s₀ s) :
    ChangesOnly W s₀ (scalesTick s q) := by
  unfold scalesTick
  repeat' first
    | with_reducible assumption
    | fail_if_no_progress (with_reducible refine touch_mk ?_ ⟨rfl, rfl, fun _ => rfl, fun _ => rfl, fun _ => rfl, fun _ => rfl, fun _ => rfl, fun _ => rfl, fun _ => rfl, fun _ => rfl, fun _ => rfl, fun _ => rfl, fun _ => rfl, fun _ => rfl, fun _ => rfl, fun _ => rfl, off_of_on h_num, fun _ => rfl, fun _ => rfl, fun _ => rfl, fun _ => rfl, fun _ => rfl, fun _ => rfl, fun _ => rfl, fun _ => rfl, fun _ => rfl, fun _ => rfl, fun _ => rfl, fun _ => rfl, fun _ => rfl, fun _ => rfl, fun _ => rfl, fun _ => rfl⟩)

theorem settleShared_touch {s : State} {index : Nat} {p : Nat} (h_num : W.num = true) (h_traffic : W.traffic = true) (h_ev : W.ev = true) (h_outbox : W.outbox = true) (hs : ChangesOnly W s₀ s) :
    ChangesOnly W s₀ (settleShared s index p) := by
  unfold settleShared
  repeat' first
    | with_reducible assumption
    | fail_if_no_progress (with_reducible refine touch_mk ?_ ⟨rfl, rfl, fun _ => rfl, fun _ => rfl, fun _ => rfl, fun _ => rfl, fun _ => rfl, fun _ => rfl, fun _ => rfl, fun _ => rfl, fun _ => rfl, fun _ => rfl, fun _ => rfl, fun _ => rfl, fun _ => rfl, fun _ => rfl, off_of_on h_num, fun _ => rfl, fun _ => rfl, fun _ => rfl, fun _ => rfl, fun _ => rfl, fun _ => rfl, fun _ => rfl, fun _ => rfl, fun _ => rfl, fun _ => rfl, fun _ => rfl, fun _ => rfl, fun _ => rfl, fun _ => rfl, fun _ => rfl, fun _ => rfl⟩)
    | with_reducible refine applyObservation_touch h_num ?_
    | with_reducible refine raise_touch h_traffic h_ev h_outbox ?_
    | with_reducible refine touch_foldl ?_ (fun _ _ _ => ?_)
    | with_reducible refine touch_ite (fun _ => ?_) (fun _ => ?_)

theorem settleAllShared_touch {s : State} (h_num : W.num = true) (h_traffic : W.traffic = true) (h_ev : W.ev = true) (h_outbox : W.outbox = true) (hs : ChangesOnly W s₀ s) :
    ChangesOnly W s₀ (settleAllShared s) := by
  unfold settleAllShared
  repeat' first
    | with_reducible assumption
    | with_reducible refine settleShared_touch h_num h_traffic h_ev h_outbox ?_
    | with_reducible refine touch_foldl ?_ (fun _ _ _ => ?_)

theorem execScaleObservation_touch {rank : Rank} {planFrame : Word} {index : Half} {maxIn : Word} {maxAll : Word} {overflow : Bool} {quantised : Bool} {s : State} (h_num : W.num = true) (h_traffic : W.traffic = true) (h_ev : W.ev = true) (h_outbox : W.outbox = true) (hs : ChangesOnly W s₀ s) :
    TouchR W s₀ (execScaleObservation rank planFrame index maxIn maxAll overflow quantised s) := by
  unfold execScaleObservation
  repeat' first
    | with_reducible assumption
    | fail_if_no_progress (with_reducible refine touch_mk ?_ ⟨rfl, rfl, fun _ => rfl, fun _ => rfl, fun _ => rfl, fun _ => rfl, fun _ => rfl, fun _ => rfl, fun _ => rfl, fun _ => rfl, fun _ => rfl, fun _ => rfl, fun _ => rfl, fun _ => rfl, fun _ => rfl, fun _ => rfl, off_of_on h_num, fun _ => rfl, fun _ => rfl, fun _ => rfl, fun _ => rfl, fun _ => rfl, fun _ => rfl, fun _ => rfl, fun _ => rfl, fun _ => rfl, fun _ => rfl, fun _ => rfl, fun _ => rfl, fun _ => rfl, fun _ => rfl, fun _ => rfl, fun _ => rfl⟩)
    | with_reducible refine touchR_next ?_
    | with_reducible refine settleAllShared_touch h_num h_traffic h_ev h_outbox ?_
    | with_reducible refine touch_ite (fun _ => ?_) (fun _ => ?_)
    | with_reducible refine touchR_ite (fun _ => ?_) (fun _ => ?_)

theorem monitorRecord_touch {s : State} {kind : Nat} {layer : Nat} {id : Nat} {value : Word} {threshold : Word} {count : Nat} (h_num : W.num = true) (hs : ChangesOnly W s₀ s) :
    ChangesOnly W s₀ (monitorRecord s kind layer id value threshold count) := by
  unfold monitorRecord
  repeat' first
    | with_reducible assumption
    | fail_if_no_progress (with_reducible refine touch_mk ?_ ⟨rfl, rfl, fun _ => rfl, fun _ => rfl, fun _ => rfl, fun _ => rfl, fun _ => rfl, fun _ => rfl, fun _ => rfl, fun _ => rfl, fun _ => rfl, fun _ => rfl, fun _ => rfl, fun _ => rfl, fun _ => rfl, fun _ => rfl, off_of_on h_num, fun _ => rfl, fun _ => rfl, fun _ => rfl, fun _ => rfl, fun _ => rfl, fun _ => rfl, fun _ => rfl, fun _ => rfl, fun _ => rfl, fun _ => rfl, fun _ => rfl, fun _ => rfl, fun _ => rfl, fun _ => rfl, fun _ => rfl, fun _ => rfl⟩)

theorem shareFlag_touch {s : State} {kind : Nat} {tensor : Nat} {c : Nat} {n : Nat} {theta : Nat} (h_num : W.num = true) (h_traffic : W.traffic = true) (h_ev : W.ev = true) (h_outbox : W.outbox = true) (hs : ChangesOnly W s₀ s) :
    ChangesOnly W s₀ (shareFlag s kind tensor c n theta) := by
  unfold shareFlag
  repeat' first
    | with_reducible assumption
    | with_reducible refine raise_touch h_traffic h_ev h_outbox ?_
    | with_reducible refine monitorRecord_touch h_num ?_
    | with_reducible refine touch_ite (fun _ => ?_) (fun _ => ?_)

theorem commitShares_touch {s : State} {f : PlanFrame} (h_num : W.num = true) (h_traffic : W.traffic = true) (h_ev : W.ev = true) (h_outbox : W.outbox = true) (hs : ChangesOnly W s₀ s) :
    ChangesOnly W s₀ (commitShares s f) := by
  unfold commitShares
  repeat' first
    | with_reducible assumption
    | fail_if_no_progress (with_reducible refine touch_mk ?_ ⟨rfl, rfl, fun _ => rfl, fun _ => rfl, fun _ => rfl, fun _ => rfl, fun _ => rfl, fun _ => rfl, fun _ => rfl, fun _ => rfl, fun _ => rfl, fun _ => rfl, fun _ => rfl, fun _ => rfl, fun _ => rfl, fun _ => rfl, off_of_on h_num, fun _ => rfl, fun _ => rfl, fun _ => rfl, fun _ => rfl, fun _ => rfl, fun _ => rfl, fun _ => rfl, fun _ => rfl, fun _ => rfl, fun _ => rfl, fun _ => rfl, fun _ => rfl, fun _ => rfl, fun _ => rfl, fun _ => rfl, fun _ => rfl⟩)
    | with_reducible refine shareFlag_touch h_num h_traffic h_ev h_outbox ?_
    | with_reducible refine touch_foldl ?_ (fun _ _ _ => ?_)
    | with_reducible refine touch_ite (fun _ => ?_) (fun _ => ?_)

theorem ratioFlags_touch {s : State} (h_upd : W.upd = true) (h_num : W.num = true) (h_traffic : W.traffic = true) (h_ev : W.ev = true) (h_outbox : W.outbox = true) (hs : ChangesOnly W s₀ s) :
    ChangesOnly W s₀ (ratioFlags s) := by
  unfold ratioFlags
  repeat' first
    | with_reducible assumption
    | fail_if_no_progress (with_reducible refine touch_mk ?_ ⟨rfl, rfl, fun _ => rfl, fun _ => rfl, fun _ => rfl, fun _ => rfl, fun _ => rfl, fun _ => rfl, fun _ => rfl, fun _ => rfl, fun _ => rfl, fun _ => rfl, fun _ => rfl, fun _ => rfl, fun _ => rfl, off_of_on h_upd, fun _ => rfl, fun _ => rfl, fun _ => rfl, fun _ => rfl, fun _ => rfl, fun _ => rfl, fun _ => rfl, fun _ => rfl, fun _ => rfl, fun _ => rfl, fun _ => rfl, fun _ => rfl, fun _ => rfl, fun _ => rfl, fun _ => rfl, fun _ => rfl, fun _ => rfl⟩)
    | with_reducible refine raise_touch h_traffic h_ev h_outbox ?_
    | with_reducible refine monitorRecord_touch h_num ?_
    | with_reducible refine touch_foldl ?_ (fun _ _ _ => ?_)
    | with_reducible refine touch_ite (fun _ => ?_) (fun _ => ?_)

theorem triggerLayer_touch {s : State} {p : Nat} {layer : Nat} (h_num : W.num = true) (h_traffic : W.traffic = true) (h_ev : W.ev = true) (h_outbox : W.outbox = true) (hs : ChangesOnly W s₀ s) :
    ChangesOnly W s₀ (triggerLayer s p layer) := by
  unfold triggerLayer
  repeat' first
    | with_reducible assumption
    | with_reducible refine modLayer_touch h_num ?_
    | with_reducible refine raise_touch h_traffic h_ev h_outbox ?_
    | with_reducible refine monitorRecord_touch h_num ?_
    | with_reducible refine touch_ite (fun _ => ?_) (fun _ => ?_)

theorem commitNumerics_touch {s : State} {f : PlanFrame} (h_num : W.num = true) (h_traffic : W.traffic = true) (h_ev : W.ev = true) (h_outbox : W.outbox = true) (hs : ChangesOnly W s₀ s) :
    ChangesOnly W s₀ (commitNumerics s f) := by
  unfold commitNumerics
  repeat' first
    | with_reducible assumption
    | fail_if_no_progress (with_reducible refine touch_mk ?_ ⟨rfl, rfl, fun _ => rfl, fun _ => rfl, fun _ => rfl, fun _ => rfl, fun _ => rfl, fun _ => rfl, fun _ => rfl, fun _ => rfl, fun _ => rfl, fun _ => rfl, fun _ => rfl, fun _ => rfl, fun _ => rfl, fun _ => rfl, off_of_on h_num, fun _ => rfl, fun _ => rfl, fun _ => rfl, fun _ => rfl, fun _ => rfl, fun _ => rfl, fun _ => rfl, fun _ => rfl, fun _ => rfl, fun _ => rfl, fun _ => rfl, fun _ => rfl, fun _ => rfl, fun _ => rfl, fun _ => rfl, fun _ => rfl⟩)
    | with_reducible refine applyObservation_touch h_num ?_
    | with_reducible refine settleAllShared_touch h_num h_traffic h_ev h_outbox ?_
    | with_reducible refine raise_touch h_traffic h_ev h_outbox ?_
    | with_reducible refine modLayer_touch h_num ?_
    | with_reducible refine triggerLayer_touch h_num h_traffic h_ev h_outbox ?_
    | with_reducible refine commitShares_touch h_num h_traffic h_ev h_outbox ?_
    | with_reducible refine touch_foldl ?_ (fun _ _ _ => ?_)
    | with_reducible refine touch_ite (fun _ => ?_) (fun _ => ?_)

theorem lossFlip_touch {s : State} {skipped : Bool} (h_num : W.num = true) (h_traffic : W.traffic = true) (h_ev : W.ev = true) (h_outbox : W.outbox = true) (hs : ChangesOnly W s₀ s) :
    ChangesOnly W s₀ (lossFlip s skipped) := by
  unfold lossFlip
  repeat' first
    | with_reducible assumption
    | fail_if_no_progress (with_reducible refine touch_mk ?_ ⟨rfl, rfl, fun _ => rfl, fun _ => rfl, fun _ => rfl, fun _ => rfl, fun _ => rfl, fun _ => rfl, fun _ => rfl, fun _ => rfl, fun _ => rfl, fun _ => rfl, fun _ => rfl, fun _ => rfl, fun _ => rfl, fun _ => rfl, off_of_on h_num, fun _ => rfl, fun _ => rfl, fun _ => rfl, fun _ => rfl, fun _ => rfl, fun _ => rfl, fun _ => rfl, fun _ => rfl, fun _ => rfl, fun _ => rfl, fun _ => rfl, fun _ => rfl, fun _ => rfl, fun _ => rfl, fun _ => rfl, fun _ => rfl⟩)
    | with_reducible refine raise_touch h_traffic h_ev h_outbox ?_
    | with_reducible refine monitorRecord_touch h_num ?_
    | with_reducible refine touch_ite (fun _ => ?_) (fun _ => ?_)

theorem setLossWord_touch {s : State} {w : Nat} (h_num : W.num = true) (hs : ChangesOnly W s₀ s) :
    ChangesOnly W s₀ (setLossWord s w) := by
  unfold setLossWord
  repeat' first
    | with_reducible assumption
    | fail_if_no_progress (with_reducible refine touch_mk ?_ ⟨rfl, rfl, fun _ => rfl, fun _ => rfl, fun _ => rfl, fun _ => rfl, fun _ => rfl, fun _ => rfl, fun _ => rfl, fun _ => rfl, fun _ => rfl, fun _ => rfl, fun _ => rfl, fun _ => rfl, fun _ => rfl, fun _ => rfl, off_of_on h_num, fun _ => rfl, fun _ => rfl, fun _ => rfl, fun _ => rfl, fun _ => rfl, fun _ => rfl, fun _ => rfl, fun _ => rfl, fun _ => rfl, fun _ => rfl, fun _ => rfl, fun _ => rfl, fun _ => rfl, fun _ => rfl, fun _ => rfl, fun _ => rfl⟩)

theorem startCold_touch {s : State} (h_num : W.num = true) (h_traffic : W.traffic = true) (h_ev : W.ev = true) (h_outbox : W.outbox = true) (hs : ChangesOnly W s₀ s) :
    ChangesOnly W s₀ (startCold s) := by
  unfold startCold
  repeat' first
    | with_reducible assumption
    | fail_if_no_progress (with_reducible refine touch_mk ?_ ⟨rfl, rfl, fun _ => rfl, fun _ => rfl, fun _ => rfl, fun _ => rfl, fun _ => rfl, fun _ => rfl, fun _ => rfl, fun _ => rfl, fun _ => rfl, fun _ => rfl, fun _ => rfl, fun _ => rfl, fun _ => rfl, fun _ => rfl, off_of_on h_num, fun _ => rfl, fun _ => rfl, fun _ => rfl, fun _ => rfl, fun _ => rfl, fun _ => rfl, fun _ => rfl, fun _ => rfl, fun _ => rfl, fun _ => rfl, fun _ => rfl, fun _ => rfl, fun _ => rfl, fun _ => rfl, fun _ => rfl, fun _ => rfl⟩)
    | with_reducible refine raise_touch h_traffic h_ev h_outbox ?_
    | with_reducible refine monitorRecord_touch h_num ?_

theorem carryScales_touch {s : State} {old : Nat → Option (Word × Word × Bool)} {warm : Nat → Nat} (h_num : W.num = true) (hs : ChangesOnly W s₀ s) :
    ChangesOnly W s₀ (carryScales s old warm) := by
  unfold carryScales
  repeat' first
    | with_reducible assumption
    | fail_if_no_progress (with_reducible refine touch_mk ?_ ⟨rfl, rfl, fun _ => rfl, fun _ => rfl, fun _ => rfl, fun _ => rfl, fun _ => rfl, fun _ => rfl, fun _ => rfl, fun _ => rfl, fun _ => rfl, fun _ => rfl, fun _ => rfl, fun _ => rfl, fun _ => rfl, fun _ => rfl, off_of_on h_num, fun _ => rfl, fun _ => rfl, fun _ => rfl, fun _ => rfl, fun _ => rfl, fun _ => rfl, fun _ => rfl, fun _ => rfl, fun _ => rfl, fun _ => rfl, fun _ => rfl, fun _ => rfl, fun _ => rfl, fun _ => rfl, fun _ => rfl, fun _ => rfl⟩)

theorem carryOver_touch {s : State} (h_num : W.num = true) (hs : ChangesOnly W s₀ s) :
    ChangesOnly W s₀ (carryOver s) := by
  unfold carryOver
  repeat' first
    | with_reducible assumption
    | fail_if_no_progress (with_reducible refine touch_mk ?_ ⟨rfl, rfl, fun _ => rfl, fun _ => rfl, fun _ => rfl, fun _ => rfl, fun _ => rfl, fun _ => rfl, fun _ => rfl, fun _ => rfl, fun _ => rfl, fun _ => rfl, fun _ => rfl, fun _ => rfl, fun _ => rfl, fun _ => rfl, off_of_on h_num, fun _ => rfl, fun _ => rfl, fun _ => rfl, fun _ => rfl, fun _ => rfl, fun _ => rfl, fun _ => rfl, fun _ => rfl, fun _ => rfl, fun _ => rfl, fun _ => rfl, fun _ => rfl, fun _ => rfl, fun _ => rfl, fun _ => rfl, fun _ => rfl⟩)
    | with_reducible refine carryScales_touch h_num ?_

theorem restoreBlock_touch {s : State} {block : List Byte} {step : Nat} (h_num : W.num = true) (h_traffic : W.traffic = true) (h_ev : W.ev = true) (h_outbox : W.outbox = true) (hs : ChangesOnly W s₀ s) :
    ChangesOnly W s₀ (restoreBlock s block step) := by
  unfold restoreBlock
  repeat' first
    | with_reducible assumption
    | with_reducible refine carryScales_touch h_num ?_
    | with_reducible refine setLossWord_touch h_num ?_
    | with_reducible refine startCold_touch h_num h_traffic h_ev h_outbox ?_
    | with_reducible refine touch_ite (fun _ => ?_) (fun _ => ?_)

theorem setSlotState_touch {s : State} {slot : Nat} {v : Nat} (h_hbm : W.hbm = true) (h_traffic : W.traffic = true) (hs : ChangesOnly W s₀ s) :
    ChangesOnly W s₀ (setSlotState s slot v) := by
  unfold setSlotState
  repeat' first
    | with_reducible assumption
    | with_reducible refine writeHbm_touch h_hbm h_traffic ?_

theorem finishSlot_touch {s : State} {p : PlanImage} {slot : Nat} (h_hbm : W.hbm = true) (h_traffic : W.traffic = true) (h_ev : W.ev = true) (h_outbox : W.outbox = true) (hs : ChangesOnly W s₀ s) :
    ChangesOnly W s₀ (finishSlot s p slot) := by
  unfold finishSlot
  repeat' first
    | with_reducible assumption
    | with_reducible refine raise_touch h_traffic h_ev h_outbox ?_
    | with_reducible refine setSlotState_touch h_hbm h_traffic ?_
    | with_reducible refine touch_ite (fun _ => ?_) (fun _ => ?_)

theorem setTransfer_touch {s : State} {t : Transfer} (h_wire : W.wire = true) (hs : ChangesOnly W s₀ s) :
    ChangesOnly W s₀ (setTransfer s t) := by
  unfold setTransfer
  repeat' first
    | with_reducible assumption
    | fail_if_no_progress (with_reducible refine touch_mk ?_ ⟨rfl, rfl, fun _ => rfl, fun _ => rfl, fun _ => rfl, fun _ => rfl, fun _ => rfl, fun _ => rfl, fun _ => rfl, fun _ => rfl, fun _ => rfl, fun _ => rfl, fun _ => rfl, fun _ => rfl, fun _ => rfl, fun _ => rfl, fun _ => rfl, off_of_on h_wire, fun _ => rfl, fun _ => rfl, fun _ => rfl, fun _ => rfl, fun _ => rfl, fun _ => rfl, fun _ => rfl, fun _ => rfl, fun _ => rfl, fun _ => rfl, fun _ => rfl, fun _ => rfl, fun _ => rfl, fun _ => rfl, fun _ => rfl⟩)

theorem dropTransfer_touch {s : State} {t : Transfer} (h_wire : W.wire = true) (hs : ChangesOnly W s₀ s) :
    ChangesOnly W s₀ (dropTransfer s t) := by
  unfold dropTransfer
  repeat' first
    | with_reducible assumption
    | fail_if_no_progress (with_reducible refine touch_mk ?_ ⟨rfl, rfl, fun _ => rfl, fun _ => rfl, fun _ => rfl, fun _ => rfl, fun _ => rfl, fun _ => rfl, fun _ => rfl, fun _ => rfl, fun _ => rfl, fun _ => rfl, fun _ => rfl, fun _ => rfl, fun _ => rfl, fun _ => rfl, fun _ => rfl, off_of_on h_wire, fun _ => rfl, fun _ => rfl, fun _ => rfl, fun _ => rfl, fun _ => rfl, fun _ => rfl, fun _ => rfl, fun _ => rfl, fun _ => rfl, fun _ => rfl, fun _ => rfl, fun _ => rfl, fun _ => rfl, fun _ => rfl, fun _ => rfl⟩)

theorem receiveSlot_touch {s : State} {p : PlanImage} {slot : Nat} {bytes : List Byte} (h_hbm : W.hbm = true) (h_wire : W.wire = true) (h_traffic : W.traffic = true) (h_ev : W.ev = true) (h_outbox : W.outbox = true) (hs : ChangesOnly W s₀ s) :
    ChangesOnly W s₀ (receiveSlot s p slot bytes) := by
  unfold receiveSlot
  repeat' first
    | with_reducible assumption
    | with_reducible refine setSlotState_touch h_hbm h_traffic ?_
    | with_reducible refine finishSlot_touch h_hbm h_traffic h_ev h_outbox ?_
    | with_reducible refine dropTransfer_touch h_wire ?_
    | with_reducible refine setTransfer_touch h_wire ?_
    | with_reducible refine touch_ite (fun _ => ?_) (fun _ => ?_)

theorem receiveRestore_touch {s : State} {p : PlanImage} {bytes : List Byte} (h_runs : W.runs = true) (h_num : W.num = true) (h_wire : W.wire = true) (h_sync : W.sync = true) (h_traffic : W.traffic = true) (h_ev : W.ev = true) (h_outbox : W.outbox = true) (hs : ChangesOnly W s₀ s) :
    ChangesOnly W s₀ (receiveRestore s p bytes) := by
  unfold receiveRestore
  repeat' first
    | with_reducible assumption
    | with_reducible refine restoreBlock_touch h_num h_traffic h_ev h_outbox ?_
    | with_reducible refine dropTransfer_touch h_wire ?_
    | with_reducible refine takeL3_touch h_runs h_sync h_traffic h_ev h_outbox ?_
    | with_reducible refine setTransfer_touch h_wire ?_
    | with_reducible refine touch_ite (fun _ => ?_) (fun _ => ?_)

theorem receiveFill_touch {s : State} {p : PlanImage} {bytes : List Byte} (h_runs : W.runs = true) (h_wire : W.wire = true) (h_sync : W.sync = true) (h_traffic : W.traffic = true) (h_ev : W.ev = true) (h_outbox : W.outbox = true) (hs : ChangesOnly W s₀ s) :
    ChangesOnly W s₀ (receiveFill s p bytes) := by
  unfold receiveFill
  repeat' first
    | with_reducible assumption
    | with_reducible refine dropTransfer_touch h_wire ?_
    | with_reducible refine takeL3_touch h_runs h_sync h_traffic h_ev h_outbox ?_
    | with_reducible refine setTransfer_touch h_wire ?_
    | with_reducible refine touch_ite (fun _ => ?_) (fun _ => ?_)

theorem receiveTransfer_touch {s : State} {p : PlanImage} {kind : Nat} {region : Nat} {a : Nat} {bytes : List Byte} (h_runs : W.runs = true) (h_hbm : W.hbm = true) (h_num : W.num = true) (h_wire : W.wire = true) (h_sync : W.sync = true) (h_traffic : W.traffic = true) (h_ev : W.ev = true) (h_outbox : W.outbox = true) (hs : ChangesOnly W s₀ s) :
    ChangesOnly W s₀ (receiveTransfer s p kind region a bytes) := by
  unfold receiveTransfer
  repeat' first
    | with_reducible assumption
    | with_reducible refine receiveSlot_touch h_hbm h_wire h_traffic h_ev h_outbox ?_
    | with_reducible refine receiveRestore_touch h_runs h_num h_wire h_sync h_traffic h_ev h_outbox ?_
    | with_reducible refine receiveFill_touch h_runs h_wire h_sync h_traffic h_ev h_outbox ?_
    | with_reducible refine touch_ite (fun _ => ?_) (fun _ => ?_)
    | split

theorem setTxn_touch {s : State} {id : Nat} {t : Txn} (h_settings : W.settings = true) (hs : ChangesOnly W s₀ s) :
    ChangesOnly W s₀ (setTxn s id t) := by
  unfold setTxn
  repeat' first
    | with_reducible assumption
    | fail_if_no_progress (with_reducible refine touch_mk ?_ ⟨rfl, rfl, fun _ => rfl, fun _ => rfl, fun _ => rfl, fun _ => rfl, fun _ => rfl, fun _ => rfl, fun _ => rfl, fun _ => rfl, fun _ => rfl, fun _ => rfl, fun _ => rfl, fun _ => rfl, fun _ => rfl, fun _ => rfl, fun _ => rfl, fun _ => rfl, fun _ => rfl, fun _ => rfl, fun _ => rfl, fun _ => rfl, fun _ => rfl, fun _ => rfl, fun _ => rfl, fun _ => rfl, fun _ => rfl, fun _ => rfl, fun _ => rfl, fun _ => rfl, fun _ => rfl, off_of_on h_settings, fun _ => rfl⟩)

theorem setEvent_touch {s : State} {v : StagedValue} (h_traffic : W.traffic = true) (h_ev : W.ev = true) (h_outbox : W.outbox = true) (hs : ChangesOnly W s₀ s) :
    ChangesOnly W s₀ (setEvent s v) := by
  unfold setEvent
  repeat' first
    | with_reducible assumption
    | with_reducible refine changeEvent_touch h_traffic h_ev h_outbox ?_
    | split

theorem releaseTxn_touch {s : State} {id : Nat} {gone : Nat → Bool} (h_settings : W.settings = true) (hs : ChangesOnly W s₀ s) :
    ChangesOnly W s₀ (releaseTxn s id gone) := by
  unfold releaseTxn
  repeat' first
    | with_reducible assumption
    | with_reducible refine setTxn_touch h_settings ?_
    | with_reducible refine touch_ite (fun _ => ?_) (fun _ => ?_)
    | split

theorem boundaryTxn_touch {listed : List Nat} {s : State} {id : Nat} (h_traffic : W.traffic = true) (h_ev : W.ev = true) (h_outbox : W.outbox = true) (h_settings : W.settings = true) (hs : ChangesOnly W s₀ s) :
    ChangesOnly W s₀ (boundaryTxn listed s id) := by
  unfold boundaryTxn
  repeat' first
    | with_reducible assumption
    | with_reducible refine releaseTxn_touch h_settings ?_
    | with_reducible refine raise_touch h_traffic h_ev h_outbox ?_
    | with_reducible refine touch_ite (fun _ => ?_) (fun _ => ?_)
    | split

theorem commitBoundary_touch {s : State} {listed : List Nat} (h_traffic : W.traffic = true) (h_ev : W.ev = true) (h_outbox : W.outbox = true) (h_settings : W.settings = true) (hs : ChangesOnly W s₀ s) :
    ChangesOnly W s₀ (commitBoundary s listed) := by
  unfold commitBoundary
  repeat' first
    | with_reducible assumption
    | fail_if_no_progress (with_reducible refine touch_mk ?_ ⟨rfl, rfl, fun _ => rfl, fun _ => rfl, fun _ => rfl, fun _ => rfl, fun _ => rfl, fun _ => rfl, fun _ => rfl, fun _ => rfl, fun _ => rfl, fun _ => rfl, fun _ => rfl, fun _ => rfl, fun _ => rfl, fun _ => rfl, fun _ => rfl, fun _ => rfl, fun _ => rfl, fun _ => rfl, fun _ => rfl, fun _ => rfl, fun _ => rfl, fun _ => rfl, fun _ => rfl, fun _ => rfl, fun _ => rfl, fun _ => rfl, fun _ => rfl, fun _ => rfl, fun _ => rfl, off_of_on h_settings, fun _ => rfl⟩)
    | with_reducible refine setEvent_touch h_traffic h_ev h_outbox ?_
    | with_reducible refine setLive_touch h_settings ?_
    | with_reducible refine boundaryTxn_touch h_traffic h_ev h_outbox h_settings ?_
    | with_reducible refine touch_foldl ?_ (fun _ _ _ => ?_)

theorem txnTick_touch {t : Nat} {s : State} {id : Nat} (h_wire : W.wire = true) (h_traffic : W.traffic = true) (h_ev : W.ev = true) (h_outbox : W.outbox = true) (h_mail : W.mail = true) (h_settings : W.settings = true) (hs : ChangesOnly W s₀ s) :
    ChangesOnly W s₀ (txnTick t s id) := by
  unfold txnTick
  repeat' first
    | with_reducible assumption
    | fail_if_no_progress (with_reducible refine touch_mk ?_ ⟨rfl, rfl, fun _ => rfl, fun _ => rfl, fun _ => rfl, fun _ => rfl, fun _ => rfl, fun _ => rfl, fun _ => rfl, fun _ => rfl, fun _ => rfl, fun _ => rfl, fun _ => rfl, fun _ => rfl, fun _ => rfl, fun _ => rfl, fun _ => rfl, fun _ => rfl, fun _ => rfl, fun _ => rfl, fun _ => rfl, fun _ => rfl, fun _ => rfl, fun _ => rfl, fun _ => rfl, fun _ => rfl, fun _ => rfl, fun _ => rfl, fun _ => rfl, fun _ => rfl, off_of_on h_mail, off_of_on h_settings, fun _ => rfl⟩)
    | with_reducible refine setLive_touch h_settings ?_
    | with_reducible refine setTxn_touch h_settings ?_
    | with_reducible refine releaseTxn_touch h_settings ?_
    | with_reducible refine respond_touch h_wire h_traffic h_outbox h_mail ?_
    | with_reducible refine changeEvent_touch h_traffic h_ev h_outbox ?_
    | with_reducible refine touch_foldl ?_ (fun _ _ _ => ?_)
    | with_reducible refine touch_ite (fun _ => ?_) (fun _ => ?_)
    | split

theorem settingsTick_touch {s : State} {t : Nat} (h_wire : W.wire = true) (h_traffic : W.traffic = true) (h_ev : W.ev = true) (h_outbox : W.outbox = true) (h_mail : W.mail = true) (h_settings : W.settings = true) (hs : ChangesOnly W s₀ s) :
    ChangesOnly W s₀ (settingsTick s t) := by
  unfold settingsTick
  repeat' first
    | with_reducible assumption
    | fail_if_no_progress (with_reducible refine touch_mk ?_ ⟨rfl, rfl, fun _ => rfl, fun _ => rfl, fun _ => rfl, fun _ => rfl, fun _ => rfl, fun _ => rfl, fun _ => rfl, fun _ => rfl, fun _ => rfl, fun _ => rfl, fun _ => rfl, fun _ => rfl, fun _ => rfl, fun _ => rfl, fun _ => rfl, fun _ => rfl, fun _ => rfl, fun _ => rfl, fun _ => rfl, fun _ => rfl, fun _ => rfl, fun _ => rfl, fun _ => rfl, fun _ => rfl, fun _ => rfl, fun _ => rfl, fun _ => rfl, fun _ => rfl, fun _ => rfl, off_of_on h_settings, fun _ => rfl⟩)
    | with_reducible refine setEvent_touch h_traffic h_ev h_outbox ?_
    | with_reducible refine setLive_touch h_settings ?_
    | with_reducible refine txnTick_touch h_wire h_traffic h_ev h_outbox h_mail h_settings ?_
    | with_reducible refine touch_foldl ?_ (fun _ _ _ => ?_)

theorem resetSettings_touch {s : State} (h_settings : W.settings = true) (hs : ChangesOnly W s₀ s) :
    ChangesOnly W s₀ (resetSettings s) := by
  unfold resetSettings
  repeat' first
    | with_reducible assumption
    | fail_if_no_progress (with_reducible refine touch_mk ?_ ⟨rfl, rfl, fun _ => rfl, fun _ => rfl, fun _ => rfl, fun _ => rfl, fun _ => rfl, fun _ => rfl, fun _ => rfl, fun _ => rfl, fun _ => rfl, fun _ => rfl, fun _ => rfl, fun _ => rfl, fun _ => rfl, fun _ => rfl, fun _ => rfl, fun _ => rfl, fun _ => rfl, fun _ => rfl, fun _ => rfl, fun _ => rfl, fun _ => rfl, fun _ => rfl, fun _ => rfl, fun _ => rfl, fun _ => rfl, fun _ => rfl, fun _ => rfl, fun _ => rfl, fun _ => rfl, off_of_on h_settings, fun _ => rfl⟩)
    | with_reducible refine setLive_touch h_settings ?_
    | with_reducible refine releaseTxn_touch h_settings ?_
    | with_reducible refine touch_foldl ?_ (fun _ _ _ => ?_)

theorem execSettingGet_touch {r : Req} {ids : List Word} {s : State} (h_wire : W.wire = true) (h_traffic : W.traffic = true) (h_outbox : W.outbox = true) (h_mail : W.mail = true) (hs : ChangesOnly W s₀ s) :
    TouchR W s₀ (execSettingGet r ids s) := by
  unfold execSettingGet
  repeat' first
    | with_reducible assumption
    | with_reducible refine touchR_next ?_
    | with_reducible refine serve_touch h_wire h_traffic h_outbox h_mail ?_ (fun _ _ => ?_)
    | with_reducible refine refuse_touch h_wire h_traffic h_outbox h_mail ?_
    | with_reducible refine answer_touch h_wire h_traffic h_outbox h_mail ?_
    | with_reducible refine touch_ite (fun _ => ?_) (fun _ => ?_)

theorem execSettingSet_touch {r : Req} {id : Word} {value : Word} {s : State} (h_wire : W.wire = true) (h_traffic : W.traffic = true) (h_outbox : W.outbox = true) (h_mail : W.mail = true) (h_settings : W.settings = true) (hs : ChangesOnly W s₀ s) :
    TouchR W s₀ (execSettingSet r id value s) := by
  unfold execSettingSet
  repeat' first
    | with_reducible assumption
    | fail_if_no_progress (with_reducible refine touch_mk ?_ ⟨rfl, rfl, fun _ => rfl, fun _ => rfl, fun _ => rfl, fun _ => rfl, fun _ => rfl, fun _ => rfl, fun _ => rfl, fun _ => rfl, fun _ => rfl, fun _ => rfl, fun _ => rfl, fun _ => rfl, fun _ => rfl, fun _ => rfl, fun _ => rfl, fun _ => rfl, fun _ => rfl, fun _ => rfl, fun _ => rfl, fun _ => rfl, fun _ => rfl, fun _ => rfl, fun _ => rfl, fun _ => rfl, fun _ => rfl, fun _ => rfl, fun _ => rfl, fun _ => rfl, fun _ => rfl, off_of_on h_settings, fun _ => rfl⟩)
    | with_reducible refine touchR_next ?_
    | with_reducible refine serve_touch h_wire h_traffic h_outbox h_mail ?_ (fun _ _ => ?_)
    | with_reducible refine refuse_touch h_wire h_traffic h_outbox h_mail ?_
    | with_reducible refine acknowledged_touch h_wire h_traffic h_outbox h_mail ?_
    | with_reducible refine touch_ite (fun _ => ?_) (fun _ => ?_)
    | split

theorem execTxnBegin_touch {r : Req} {s : State} (h_wire : W.wire = true) (h_traffic : W.traffic = true) (h_outbox : W.outbox = true) (h_mail : W.mail = true) (h_settings : W.settings = true) (hs : ChangesOnly W s₀ s) :
    TouchR W s₀ (execTxnBegin r s) := by
  unfold execTxnBegin
  repeat' first
    | with_reducible assumption
    | fail_if_no_progress (with_reducible refine touch_mk ?_ ⟨rfl, rfl, fun _ => rfl, fun _ => rfl, fun _ => rfl, fun _ => rfl, fun _ => rfl, fun _ => rfl, fun _ => rfl, fun _ => rfl, fun _ => rfl, fun _ => rfl, fun _ => rfl, fun _ => rfl, fun _ => rfl, fun _ => rfl, fun _ => rfl, fun _ => rfl, fun _ => rfl, fun _ => rfl, fun _ => rfl, fun _ => rfl, fun _ => rfl, fun _ => rfl, fun _ => rfl, fun _ => rfl, fun _ => rfl, fun _ => rfl, fun _ => rfl, fun _ => rfl, fun _ => rfl, off_of_on h_settings, fun _ => rfl⟩)
    | with_reducible refine touchR_next ?_
    | with_reducible refine serve_touch h_wire h_traffic h_outbox h_mail ?_ (fun _ _ => ?_)
    | with_reducible refine refuse_touch h_wire h_traffic h_outbox h_mail ?_
    | with_reducible refine acknowledged_touch h_wire h_traffic h_outbox h_mail ?_
    | with_reducible refine setTxn_touch h_settings ?_
    | with_reducible refine touch_ite (fun _ => ?_) (fun _ => ?_)

theorem onTxn_touch {s : State} {r : Req} {opcode : Nat} {txn : Word} {f : State → Nat → Txn → State} (h_wire : W.wire = true) (h_traffic : W.traffic = true) (h_outbox : W.outbox = true) (h_mail : W.mail = true) (hs : ChangesOnly W s₀ s)
    (hsf : ∀ s n t, ChangesOnly W s₀ s → ChangesOnly W s₀ (f s n t)) :
    ChangesOnly W s₀ (onTxn s r opcode txn f) := by
  unfold onTxn
  repeat' first
    | with_reducible assumption
    | with_reducible refine hsf _ _ _ ?_
    | with_reducible refine refuse_touch h_wire h_traffic h_outbox h_mail ?_
    | with_reducible refine touch_ite (fun _ => ?_) (fun _ => ?_)
    | split

theorem execTxnStage_touch {r : Req} {txn : Word} {pairs : List (Word × Word)} {s : State} (h_wire : W.wire = true) (h_traffic : W.traffic = true) (h_outbox : W.outbox = true) (h_mail : W.mail = true) (h_settings : W.settings = true) (hs : ChangesOnly W s₀ s) :
    TouchR W s₀ (execTxnStage r txn pairs s) := by
  unfold execTxnStage
  repeat' first
    | with_reducible assumption
    | with_reducible refine touchR_next ?_
    | with_reducible refine serve_touch h_wire h_traffic h_outbox h_mail ?_ (fun _ _ => ?_)
    | with_reducible refine onTxn_touch h_wire h_traffic h_outbox h_mail ?_ (fun _ _ _ _ => ?_)
    | with_reducible refine refuse_touch h_wire h_traffic h_outbox h_mail ?_
    | with_reducible refine acknowledged_touch h_wire h_traffic h_outbox h_mail ?_
    | with_reducible refine setTxn_touch h_settings ?_
    | with_reducible refine touch_ite (fun _ => ?_) (fun _ => ?_)
    | split

theorem execTxnCommit_touch {r : Req} {txn : Word} {target : BitVec 48} {s : State} (h_wire : W.wire = true) (h_traffic : W.traffic = true) (h_outbox : W.outbox = true) (h_mail : W.mail = true) (h_settings : W.settings = true) (hs : ChangesOnly W s₀ s) :
    TouchR W s₀ (execTxnCommit r txn target s) := by
  unfold execTxnCommit
  repeat' first
    | with_reducible assumption
    | with_reducible refine touchR_next ?_
    | with_reducible refine serveC_touch h_wire h_traffic h_outbox h_mail ?_ (fun _ _ => ?_)
    | with_reducible refine onTxn_touch h_wire h_traffic h_outbox h_mail ?_ (fun _ _ _ _ => ?_)
    | with_reducible refine refuse_touch h_wire h_traffic h_outbox h_mail ?_
    | with_reducible refine accept_touch h_wire h_traffic h_outbox h_mail ?_
    | with_reducible refine setTxn_touch h_settings ?_
    | with_reducible refine touch_ite (fun _ => ?_) (fun _ => ?_)

theorem dropTxn_touch {s : State} {id : Nat} {t : Txn} (h_settings : W.settings = true) (hs : ChangesOnly W s₀ s) :
    ChangesOnly W s₀ (dropTxn s id t) := by
  unfold dropTxn
  repeat' first
    | with_reducible assumption
    | with_reducible refine setTxn_touch h_settings ?_

theorem execTxnRollback_touch {r : Req} {txn : Word} {s : State} (h_wire : W.wire = true) (h_traffic : W.traffic = true) (h_outbox : W.outbox = true) (h_mail : W.mail = true) (h_settings : W.settings = true) (hs : ChangesOnly W s₀ s) :
    TouchR W s₀ (execTxnRollback r txn s) := by
  unfold execTxnRollback
  repeat' first
    | with_reducible assumption
    | with_reducible refine touchR_next ?_
    | with_reducible refine serve_touch h_wire h_traffic h_outbox h_mail ?_ (fun _ _ => ?_)
    | with_reducible refine onTxn_touch h_wire h_traffic h_outbox h_mail ?_ (fun _ _ _ _ => ?_)
    | with_reducible refine acknowledged_touch h_wire h_traffic h_outbox h_mail ?_
    | with_reducible refine dropTxn_touch h_settings ?_

theorem rollbackTxn_touch {s : State} {id : Nat} (h_traffic : W.traffic = true) (h_ev : W.ev = true) (h_outbox : W.outbox = true) (h_settings : W.settings = true) (hs : ChangesOnly W s₀ s) :
    ChangesOnly W s₀ (rollbackTxn s id) := by
  unfold rollbackTxn
  repeat' first
    | with_reducible assumption
    | with_reducible refine raise_touch h_traffic h_ev h_outbox ?_
    | with_reducible refine dropTxn_touch h_settings ?_
    | with_reducible refine touch_ite (fun _ => ?_) (fun _ => ?_)
    | split

theorem execTxnTimeout_touch {id : Word} {s : State} (h_traffic : W.traffic = true) (h_ev : W.ev = true) (h_outbox : W.outbox = true) (h_settings : W.settings = true) (hs : ChangesOnly W s₀ s) :
    TouchR W s₀ (execTxnTimeout id s) := by
  unfold execTxnTimeout
  repeat' first
    | with_reducible assumption
    | with_reducible refine touchR_next ?_
    | with_reducible refine rollbackTxn_touch h_traffic h_ev h_outbox h_settings ?_

theorem rollbackHost_touch {s : State} (h_traffic : W.traffic = true) (h_ev : W.ev = true) (h_outbox : W.outbox = true) (h_settings : W.settings = true) (hs : ChangesOnly W s₀ s) :
    ChangesOnly W s₀ (rollbackHost s) := by
  unfold rollbackHost
  repeat' first
    | with_reducible assumption
    | with_reducible refine rollbackTxn_touch h_traffic h_ev h_outbox h_settings ?_
    | with_reducible refine touch_foldl ?_ (fun _ _ _ => ?_)

theorem execTxnStatus_touch {r : Req} {txn : Word} {s : State} (h_wire : W.wire = true) (h_traffic : W.traffic = true) (h_outbox : W.outbox = true) (h_mail : W.mail = true) (hs : ChangesOnly W s₀ s) :
    TouchR W s₀ (execTxnStatus r txn s) := by
  unfold execTxnStatus
  repeat' first
    | with_reducible assumption
    | with_reducible refine touchR_next ?_
    | with_reducible refine serve_touch h_wire h_traffic h_outbox h_mail ?_ (fun _ _ => ?_)
    | with_reducible refine refuse_touch h_wire h_traffic h_outbox h_mail ?_
    | with_reducible refine answer_touch h_wire h_traffic h_outbox h_mail ?_
    | with_reducible refine touch_ite (fun _ => ?_) (fun _ => ?_)
    | split

theorem countLink_touch {s : State} {l : Nat} {f : LinkCounters → LinkCounters} (h_wire : W.wire = true) (hs : ChangesOnly W s₀ s) :
    ChangesOnly W s₀ (countLink s l f) := by
  unfold countLink
  repeat' first
    | with_reducible assumption
    | with_reducible refine modLink_touch h_wire ?_

theorem putWire_touch {s : State} {d : Nat} {f : TxFlit} (h_wire : W.wire = true) (h_traffic : W.traffic = true) (hs : ChangesOnly W s₀ s) :
    ChangesOnly W s₀ (putWire s d f) := by
  unfold putWire
  repeat' first
    | with_reducible assumption
    | with_reducible refine portBytes_touch h_traffic ?_
    | with_reducible refine modGroup_touch h_wire ?_

theorem takeMessage_touch {s : State} {d : Nat} (h_wire : W.wire = true) (hs : ChangesOnly W s₀ s) :
    ChangesOnly W s₀ (takeMessage s d).1 := by
  unfold takeMessage
  repeat' first
    | with_reducible assumption
    | fail_if_no_progress (with_reducible refine touch_mk ?_ ⟨rfl, rfl, fun _ => rfl, fun _ => rfl, fun _ => rfl, fun _ => rfl, fun _ => rfl, fun _ => rfl, fun _ => rfl, fun _ => rfl, fun _ => rfl, fun _ => rfl, fun _ => rfl, fun _ => rfl, fun _ => rfl, fun _ => rfl, fun _ => rfl, off_of_on h_wire, fun _ => rfl, fun _ => rfl, fun _ => rfl, fun _ => rfl, fun _ => rfl, fun _ => rfl, fun _ => rfl, fun _ => rfl, fun _ => rfl, fun _ => rfl, fun _ => rfl, fun _ => rfl, fun _ => rfl, fun _ => rfl, fun _ => rfl⟩)
    | split

theorem controlFlitOn_touch {s : State} {d : Nat} {m : Nat} {t : Nat} (h_wire : W.wire = true) (h_sync : W.sync = true) (h_traffic : W.traffic = true) (hs : ChangesOnly W s₀ s) :
    ChangesOnly W s₀ (controlFlitOn s d m t) := by
  unfold controlFlitOn
  repeat' first
    | with_reducible assumption
    | fail_if_no_progress (with_reducible refine touch_mk ?_ ⟨rfl, rfl, fun _ => rfl, fun _ => rfl, fun _ => rfl, fun _ => rfl, fun _ => rfl, fun _ => rfl, fun _ => rfl, fun _ => rfl, fun _ => rfl, fun _ => rfl, fun _ => rfl, fun _ => rfl, fun _ => rfl, fun _ => rfl, fun _ => rfl, fun _ => rfl, off_of_on h_sync, fun _ => rfl, fun _ => rfl, fun _ => rfl, fun _ => rfl, fun _ => rfl, fun _ => rfl, fun _ => rfl, fun _ => rfl, fun _ => rfl, fun _ => rfl, fun _ => rfl, fun _ => rfl, fun _ => rfl, fun _ => rfl⟩)
    | with_reducible refine modGroup_touch h_wire ?_
    | with_reducible refine countLink_touch h_wire ?_
    | with_reducible refine takeMessage_touch h_wire ?_
    | with_reducible refine modLink_touch h_wire ?_
    | with_reducible refine putWire_touch h_wire h_traffic ?_

theorem controlPosition_touch {s : State} {d : Nat} {t : Nat} (h_wire : W.wire = true) (h_sync : W.sync = true) (h_traffic : W.traffic = true) (hs : ChangesOnly W s₀ s) :
    ChangesOnly W s₀ (controlPosition s d t) := by
  unfold controlPosition
  repeat' first
    | with_reducible assumption
    | fail_if_no_progress (with_reducible refine touch_mk ?_ ⟨rfl, rfl, fun _ => rfl, fun _ => rfl, fun _ => rfl, fun _ => rfl, fun _ => rfl, fun _ => rfl, fun _ => rfl, fun _ => rfl, fun _ => rfl, fun _ => rfl, fun _ => rfl, fun _ => rfl, fun _ => rfl, fun _ => rfl, fun _ => rfl, fun _ => rfl, off_of_on h_sync, fun _ => rfl, fun _ => rfl, fun _ => rfl, fun _ => rfl, fun _ => rfl, fun _ => rfl, fun _ => rfl, fun _ => rfl, fun _ => rfl, fun _ => rfl, fun _ => rfl, fun _ => rfl, fun _ => rfl, fun _ => rfl⟩)
    | with_reducible refine controlFlitOn_touch h_wire h_sync h_traffic ?_
    | with_reducible refine touch_foldl ?_ (fun _ _ _ => ?_)
    | with_reducible refine touch_ite (fun _ => ?_) (fun _ => ?_)

theorem sendRetry_touch {s : State} {d : Nat} {t : Nat} {r : FlitRec} (h_wire : W.wire = true) (h_traffic : W.traffic = true) (h_ev : W.ev = true) (h_outbox : W.outbox = true) (hs : ChangesOnly W s₀ s) :
    ChangesOnly W s₀ (sendRetry s d t r) := by
  unfold sendRetry
  repeat' first
    | with_reducible assumption
    | with_reducible refine modGroup_touch h_wire ?_
    | with_reducible refine countLink_touch h_wire ?_
    | with_reducible refine raiseOnce_touch h_traffic h_ev h_outbox ?_
    | with_reducible refine putWire_touch h_wire h_traffic ?_

theorem sendNext_touch {s : State} {d : Nat} {m : Nat} {t : Nat} (h_wire : W.wire = true) (h_traffic : W.traffic = true) (hs : ChangesOnly W s₀ s) :
    ChangesOnly W s₀ (sendNext s d m t) := by
  unfold sendNext
  repeat' first
    | with_reducible assumption
    | with_reducible refine modGroup_touch h_wire ?_
    | with_reducible refine takeMessage_touch h_wire ?_
    | with_reducible refine putWire_touch h_wire h_traffic ?_
    | with_reducible refine touch_ite (fun _ => ?_) (fun _ => ?_)
    | split
    | (dsimp only; split)

theorem dataPosition_touch {s : State} {d : Nat} {m : Nat} {t : Nat} (h_wire : W.wire = true) (h_traffic : W.traffic = true) (h_ev : W.ev = true) (h_outbox : W.outbox = true) (hs : ChangesOnly W s₀ s) :
    ChangesOnly W s₀ (dataPosition s d m t) := by
  unfold dataPosition
  repeat' first
    | with_reducible assumption
    | with_reducible refine sendRetry_touch h_wire h_traffic h_ev h_outbox ?_
    | with_reducible refine sendNext_touch h_wire h_traffic ?_
    | with_reducible refine touch_ite (fun _ => ?_) (fun _ => ?_)
    | split

theorem execSlotEntryTransmit_touch {dir : Fin 6} {time : Fin 15620} {s : State} (h_wire : W.wire = true) (h_sync : W.sync = true) (h_traffic : W.traffic = true) (h_ev : W.ev = true) (h_outbox : W.outbox = true) (hs : ChangesOnly W s₀ s) :
    TouchR W s₀ (execSlotEntryTransmit dir time s) := by
  unfold execSlotEntryTransmit
  repeat' first
    | with_reducible assumption
    | with_reducible refine touchR_next ?_
    | with_reducible refine controlPosition_touch h_wire h_sync h_traffic ?_
    | with_reducible refine dataPosition_touch h_wire h_traffic h_ev h_outbox ?_
    | with_reducible refine touch_foldl ?_ (fun _ _ _ => ?_)
    | with_reducible refine touch_ite (fun _ => ?_) (fun _ => ?_)
    | with_reducible refine touchR_ite (fun _ => ?_) (fun _ => ?_)

theorem execRetryTimeout_touch {dir : Fin 6} {member : Fin 8} {time : Fin 15620} {previous : Bool} {s : State} (h_wire : W.wire = true) (hs : ChangesOnly W s₀ s) :
    TouchR W s₀ (execRetryTimeout dir member time previous s) := by
  unfold execRetryTimeout
  repeat' first
    | with_reducible assumption
    | with_reducible refine touchR_next ?_
    | with_reducible refine modGroup_touch h_wire ?_
    | with_reducible refine touch_ite (fun _ => ?_) (fun _ => ?_)
    | split
    | (dsimp only; split)

theorem writeFlit_touch {s : State} {l : Nat} {place : Place} {bytes : List Byte} {poison : Nat} {lost : Bool} (h_hbm : W.hbm = true) (h_tileMem : W.tileMem = true) (h_traffic : W.traffic = true) (hs : ChangesOnly W s₀ s) :
    ChangesOnly W s₀ (writeFlit s l place bytes poison lost) := by
  unfold writeFlit
  repeat' first
    | with_reducible assumption
    | fail_if_no_progress (with_reducible refine touch_mk ?_ ⟨rfl, rfl, fun _ => rfl, fun _ => rfl, fun _ => rfl, fun _ => rfl, fun _ => rfl, fun _ => rfl, fun _ => rfl, fun _ => rfl, fun _ => rfl, fun _ => rfl, off_of_on h_hbm, off_of_on h_tileMem, fun _ => rfl, fun _ => rfl, fun _ => rfl, fun _ => rfl, fun _ => rfl, fun _ => rfl, fun _ => rfl, fun _ => rfl, fun _ => rfl, fun _ => rfl, fun _ => rfl, fun _ => rfl, fun _ => rfl, fun _ => rfl, fun _ => rfl, fun _ => rfl, fun _ => rfl, fun _ => rfl, fun _ => rfl⟩)
    | with_reducible refine writeTile_touch h_tileMem ?_
    | with_reducible refine writeHbm_touch h_hbm h_traffic ?_
    | with_reducible refine touch_foldl ?_ (fun _ _ _ => ?_)
    | with_reducible refine touch_ite (fun _ => ?_) (fun _ => ?_)
    | split

theorem countGradient_touch {s : State} {place : Place} (h_runs : W.runs = true) (hs : ChangesOnly W s₀ s) :
    ChangesOnly W s₀ (countGradient s place) := by
  unfold countGradient
  repeat' first
    | with_reducible assumption
    | fail_if_no_progress (with_reducible refine touch_mk ?_ ⟨rfl, rfl, fun _ => rfl, fun _ => rfl, off_of_on h_runs, fun _ => rfl, fun _ => rfl, fun _ => rfl, fun _ => rfl, fun _ => rfl, fun _ => rfl, fun _ => rfl, fun _ => rfl, fun _ => rfl, fun _ => rfl, fun _ => rfl, fun _ => rfl, fun _ => rfl, fun _ => rfl, fun _ => rfl, fun _ => rfl, fun _ => rfl, fun _ => rfl, fun _ => rfl, fun _ => rfl, fun _ => rfl, fun _ => rfl, fun _ => rfl, fun _ => rfl, fun _ => rfl, fun _ => rfl, fun _ => rfl, fun _ => rfl⟩)
    | split

theorem deliverFlit_touch {s : State} {l : Nat} {d : Nat} {pos : Nat} {entry : Nat} {flit : Nat} {payload : List Byte} {poison : Nat} {lost : Bool} (h_runs : W.runs = true) (h_hbm : W.hbm = true) (h_tileMem : W.tileMem = true) (h_num : W.num = true) (h_wire : W.wire = true) (h_sync : W.sync = true) (h_traffic : W.traffic = true) (h_ev : W.ev = true) (h_outbox : W.outbox = true) (hs : ChangesOnly W s₀ s) :
    ChangesOnly W s₀ (deliverFlit s l d pos entry flit payload poison lost) := by
  unfold deliverFlit
  repeat' first
    | with_reducible assumption
    | with_reducible refine writeFlit_touch h_hbm h_tileMem h_traffic ?_
    | with_reducible refine modGroup_touch h_wire ?_
    | with_reducible refine countGradient_touch h_runs ?_
    | with_reducible refine receiveTransfer_touch h_runs h_hbm h_num h_wire h_sync h_traffic h_ev h_outbox ?_
    | with_reducible refine touch_ite (fun _ => ?_) (fun _ => ?_)
    | split
    | (dsimp only; split)

theorem abandonFlit_touch {s : State} {l : Nat} {r : FlitRec} (h_runs : W.runs = true) (h_hbm : W.hbm = true) (h_tileMem : W.tileMem = true) (h_num : W.num = true) (h_wire : W.wire = true) (h_sync : W.sync = true) (h_traffic : W.traffic = true) (h_ev : W.ev = true) (h_outbox : W.outbox = true) (hs : ChangesOnly W s₀ s) :
    ChangesOnly W s₀ (abandonFlit s l r) := by
  unfold abandonFlit
  repeat' first
    | with_reducible assumption
    | with_reducible refine modGroup_touch h_wire ?_
    | with_reducible refine countLink_touch h_wire ?_
    | with_reducible refine raise_touch h_traffic h_ev h_outbox ?_
    | with_reducible refine deliverFlit_touch h_runs h_hbm h_tileMem h_num h_wire h_sync h_traffic h_ev h_outbox ?_

theorem linkDown_touch {s : State} {l : Nat} (h_wire : W.wire = true) (hs : ChangesOnly W s₀ s) :
    ChangesOnly W s₀ (linkDown s l) := by
  unfold linkDown
  repeat' first
    | with_reducible assumption
    | with_reducible refine modLink_touch h_wire ?_
    | with_reducible refine modGroup_touch h_wire ?_

theorem laneFail_touch {s : State} {l : Nat} {lane : Nat} (h_wire : W.wire = true) (h_traffic : W.traffic = true) (h_ev : W.ev = true) (h_hl : W.hl = true) (h_outbox : W.outbox = true) (hs : ChangesOnly W s₀ s) :
    ChangesOnly W s₀ (laneFail s l lane) := by
  unfold laneFail
  repeat' first
    | with_reducible assumption
    | with_reducible refine modLink_touch h_wire ?_
    | with_reducible refine linkDown_touch h_wire ?_
    | with_reducible refine raiseCharged_touch h_traffic h_ev h_hl h_outbox ?_
    | with_reducible refine touch_ite (fun _ => ?_) (fun _ => ?_)

theorem countCodeword_touch {s : State} {l : Nat} {o : FlitOutcome} (h_runs : W.runs = true) (h_wire : W.wire = true) (h_traffic : W.traffic = true) (h_ev : W.ev = true) (h_hl : W.hl = true) (h_outbox : W.outbox = true) (hs : ChangesOnly W s₀ s) :
    ChangesOnly W s₀ (countCodeword s l o) := by
  unfold countCodeword
  repeat' first
    | with_reducible assumption
    | with_reducible refine portBytes_touch h_traffic ?_
    | with_reducible refine countLink_touch h_wire ?_
    | with_reducible refine modLink_touch h_wire ?_
    | with_reducible refine correction_touch h_runs ?_
    | with_reducible refine laneFail_touch h_wire h_traffic h_ev h_hl h_outbox ?_
    | with_reducible refine touch_foldl ?_ (fun _ _ _ => ?_)
    | with_reducible refine touch_ite (fun _ => ?_) (fun _ => ?_)
    | split

theorem ackArrival_touch {s : State} {l : Nat} {t : Nat} {ok : Bool} (h_wire : W.wire = true) (hs : ChangesOnly W s₀ s) :
    ChangesOnly W s₀ (ackArrival s l t ok) := by
  unfold ackArrival
  repeat' first
    | with_reducible assumption
    | with_reducible refine modLink_touch h_wire ?_

theorem deferFlit_touch {s : State} {l : Nat} {t : Nat} {r : FlitRec} (h_runs : W.runs = true) (h_hbm : W.hbm = true) (h_tileMem : W.tileMem = true) (h_num : W.num = true) (h_wire : W.wire = true) (h_sync : W.sync = true) (h_lakes : W.lakes = true) (h_traffic : W.traffic = true) (h_ev : W.ev = true) (h_outbox : W.outbox = true) (hs : ChangesOnly W s₀ s) :
    ChangesOnly W s₀ (deferFlit s l t r) := by
  unfold deferFlit
  repeat' first
    | with_reducible assumption
    | with_reducible refine modLake_touch h_lakes ?_
    | with_reducible refine ackArrival_touch h_wire ?_
    | with_reducible refine raiseOnce_touch h_traffic h_ev h_outbox ?_
    | with_reducible refine abandonFlit_touch h_runs h_hbm h_tileMem h_num h_wire h_sync h_traffic h_ev h_outbox ?_
    | with_reducible refine modLink_touch h_wire ?_
    | with_reducible refine touch_ite (fun _ => ?_) (fun _ => ?_)

theorem takeFlit_touch {s : State} {l : Nat} {t : Nat} {r : FlitRec} {payload : List Byte} {poison : Nat} (h_runs : W.runs = true) (h_hbm : W.hbm = true) (h_tileMem : W.tileMem = true) (h_num : W.num = true) (h_wire : W.wire = true) (h_sync : W.sync = true) (h_lakes : W.lakes = true) (h_traffic : W.traffic = true) (h_ev : W.ev = true) (h_outbox : W.outbox = true) (hs : ChangesOnly W s₀ s) :
    ChangesOnly W s₀ (takeFlit s l t r payload poison) := by
  unfold takeFlit
  repeat' first
    | with_reducible assumption
    | with_reducible refine modGroup_touch h_wire ?_
    | with_reducible refine ackArrival_touch h_wire ?_
    | with_reducible refine deliverFlit_touch h_runs h_hbm h_tileMem h_num h_wire h_sync h_traffic h_ev h_outbox ?_
    | with_reducible refine deferFlit_touch h_runs h_hbm h_tileMem h_num h_wire h_sync h_lakes h_traffic h_ev h_outbox ?_
    | with_reducible refine touch_ite (fun _ => ?_) (fun _ => ?_)

theorem advanceRx_touch {s : State} {d : Nat} {entry : Nat} {flit : Nat} (h_wire : W.wire = true) (hs : ChangesOnly W s₀ s) :
    ChangesOnly W s₀ (advanceRx s d entry flit) := by
  unfold advanceRx
  repeat' first
    | with_reducible assumption
    | with_reducible refine modGroup_touch h_wire ?_

theorem receiveData_touch {s : State} {l : Nat} {t : Nat} {payload : List Byte} {poison : Nat} {ok : Bool} (h_runs : W.runs = true) (h_hbm : W.hbm = true) (h_tileMem : W.tileMem = true) (h_num : W.num = true) (h_wire : W.wire = true) (h_sync : W.sync = true) (h_lakes : W.lakes = true) (h_traffic : W.traffic = true) (h_ev : W.ev = true) (h_outbox : W.outbox = true) (hs : ChangesOnly W s₀ s) :
    ChangesOnly W s₀ (receiveData s l t payload poison ok) := by
  unfold receiveData
  repeat' first
    | with_reducible assumption
    | with_reducible refine ackArrival_touch h_wire ?_
    | with_reducible refine modGroup_touch h_wire ?_
    | with_reducible refine advanceRx_touch h_wire ?_
    | with_reducible refine takeFlit_touch h_runs h_hbm h_tileMem h_num h_wire h_sync h_lakes h_traffic h_ev h_outbox ?_
    | with_reducible refine touch_ite (fun _ => ?_) (fun _ => ?_)
    | split
    | (dsimp only; split)

theorem receiveRetry_touch {s : State} {l : Nat} {t : Nat} {payload : List Byte} {poison : Nat} {ok : Bool} (h_runs : W.runs = true) (h_hbm : W.hbm = true) (h_tileMem : W.tileMem = true) (h_num : W.num = true) (h_wire : W.wire = true) (h_sync : W.sync = true) (h_lakes : W.lakes = true) (h_traffic : W.traffic = true) (h_ev : W.ev = true) (h_outbox : W.outbox = true) (hs : ChangesOnly W s₀ s) :
    ChangesOnly W s₀ (receiveRetry s l t payload poison ok) := by
  unfold receiveRetry
  repeat' first
    | with_reducible assumption
    | with_reducible refine ackArrival_touch h_wire ?_
    | with_reducible refine modGroup_touch h_wire ?_
    | with_reducible refine correction_touch h_runs ?_
    | with_reducible refine countLink_touch h_wire ?_
    | with_reducible refine takeFlit_touch h_runs h_hbm h_tileMem h_num h_wire h_sync h_lakes h_traffic h_ev h_outbox ?_
    | with_reducible refine touch_ite (fun _ => ?_) (fun _ => ?_)
    | split
    | (dsimp only; split)

theorem execFlitReceive_touch {link : LinkId} {time : Fin 15620} {retry : Bool} {poison : BitVec 10} {payload : List Byte} {outcome : FlitOutcome} {cyc : Nat} {s : State} (h_cycle : W.cycle = true) (h_runs : W.runs = true) (h_hbm : W.hbm = true) (h_tileMem : W.tileMem = true) (h_num : W.num = true) (h_wire : W.wire = true) (h_sync : W.sync = true) (h_lakes : W.lakes = true) (h_traffic : W.traffic = true) (h_ev : W.ev = true) (h_hl : W.hl = true) (h_outbox : W.outbox = true) (hs : ChangesOnly W s₀ s) :
    TouchR W s₀ (execFlitReceive link time retry poison payload outcome cyc s) := by
  unfold execFlitReceive
  repeat' first
    | with_reducible assumption
    | with_reducible refine touchR_next ?_
    | with_reducible refine countCodeword_touch h_runs h_wire h_traffic h_ev h_hl h_outbox ?_
    | with_reducible refine atCycle_touch h_cycle ?_
    | with_reducible refine receiveRetry_touch h_runs h_hbm h_tileMem h_num h_wire h_sync h_lakes h_traffic h_ev h_outbox ?_
    | with_reducible refine receiveData_touch h_runs h_hbm h_tileMem h_num h_wire h_sync h_lakes h_traffic h_ev h_outbox ?_
    | with_reducible refine touch_ite (fun _ => ?_) (fun _ => ?_)
    | with_reducible refine touchR_ite (fun _ => ?_) (fun _ => ?_)

theorem takeAcks_touch {s : State} {l : Nat} {w : ControlWords} (h_wire : W.wire = true) (hs : ChangesOnly W s₀ s) :
    ChangesOnly W s₀ (takeAcks s l w) := by
  unfold takeAcks
  repeat' first
    | with_reducible assumption
    | with_reducible refine modGroup_touch h_wire ?_

theorem takeView_touch {s : State} {l : Nat} {w : ControlWords} (h_wire : W.wire = true) (hs : ChangesOnly W s₀ s) :
    ChangesOnly W s₀ (takeView s l w) := by
  unfold takeView
  repeat' first
    | with_reducible assumption
    | with_reducible refine linkDown_touch h_wire ?_
    | with_reducible refine touch_foldl ?_ (fun _ _ _ => ?_)
    | with_reducible refine touch_ite (fun _ => ?_) (fun _ => ?_)

theorem takeRetries_touch {s : State} {l : Nat} {w : ControlWords} (h_runs : W.runs = true) (h_hbm : W.hbm = true) (h_tileMem : W.tileMem = true) (h_num : W.num = true) (h_wire : W.wire = true) (h_sync : W.sync = true) (h_traffic : W.traffic = true) (h_ev : W.ev = true) (h_outbox : W.outbox = true) (hs : ChangesOnly W s₀ s) :
    ChangesOnly W s₀ (takeRetries s l w) := by
  unfold takeRetries
  repeat' first
    | with_reducible assumption
    | with_reducible refine modGroup_touch h_wire ?_
    | with_reducible refine abandonFlit_touch h_runs h_hbm h_tileMem h_num h_wire h_sync h_traffic h_ev h_outbox ?_
    | with_reducible refine touch_foldl ?_ (fun _ _ _ => ?_)
    | split

theorem discover_touch {s : State} {l : Nat} {w : ControlWords} (h_wire : W.wire = true) (h_traffic : W.traffic = true) (h_ev : W.ev = true) (h_outbox : W.outbox = true) (hs : ChangesOnly W s₀ s) :
    ChangesOnly W s₀ (discover s l w) := by
  unfold discover
  repeat' first
    | with_reducible assumption
    | with_reducible refine modLink_touch h_wire ?_
    | with_reducible refine raise_touch h_traffic h_ev h_outbox ?_
    | with_reducible refine touch_ite (fun _ => ?_) (fun _ => ?_)
    | split

theorem takeEvent_touch {s : State} {l : Nat} {e : SyncEvent} (h_runs : W.runs = true) (h_holds : W.holds = true) (h_frame : W.frame = true) (h_upd : W.upd = true) (h_wire : W.wire = true) (h_sync : W.sync = true) (h_plan : W.plan = true) (h_traffic : W.traffic = true) (h_ev : W.ev = true) (h_outbox : W.outbox = true) (h_mail : W.mail = true) (hs : ChangesOnly W s₀ s) :
    ChangesOnly W s₀ (takeEvent s l e) := by
  unfold takeEvent
  repeat' first
    | with_reducible assumption
    | with_reducible refine receiveFlood_touch h_runs h_holds h_frame h_upd h_wire h_sync h_plan h_traffic h_ev h_outbox h_mail ?_
    | split

theorem takeC0_touch {s : State} {m : C0Message} (h_wire : W.wire = true) (hs : ChangesOnly W s₀ s) :
    ChangesOnly W s₀ (takeC0 s m) := by
  unfold takeC0
  repeat' first
    | with_reducible assumption
    | fail_if_no_progress (with_reducible refine touch_mk ?_ ⟨rfl, rfl, fun _ => rfl, fun _ => rfl, fun _ => rfl, fun _ => rfl, fun _ => rfl, fun _ => rfl, fun _ => rfl, fun _ => rfl, fun _ => rfl, fun _ => rfl, fun _ => rfl, fun _ => rfl, fun _ => rfl, fun _ => rfl, fun _ => rfl, off_of_on h_wire, fun _ => rfl, fun _ => rfl, fun _ => rfl, fun _ => rfl, fun _ => rfl, fun _ => rfl, fun _ => rfl, fun _ => rfl, fun _ => rfl, fun _ => rfl, fun _ => rfl, fun _ => rfl, fun _ => rfl, fun _ => rfl, fun _ => rfl⟩)
    | with_reducible refine touch_ite (fun _ => ?_) (fun _ => ?_)

theorem takeC0Position_touch {s : State} {l : Nat} {t : Nat} (h_wire : W.wire = true) (hs : ChangesOnly W s₀ s) :
    ChangesOnly W s₀ (takeC0Position s l t) := by
  unfold takeC0Position
  repeat' first
    | with_reducible assumption
    | with_reducible refine modGroup_touch h_wire ?_
    | with_reducible refine advanceRx_touch h_wire ?_
    | with_reducible refine touch_ite (fun _ => ?_) (fun _ => ?_)
    | split

theorem execControlFlit_touch {link : LinkId} {time : Fin 15620} {w : ControlWords} {outcome : FlitOutcome} {cyc : Nat} {s : State} (h_cycle : W.cycle = true) (h_runs : W.runs = true) (h_holds : W.holds = true) (h_frame : W.frame = true) (h_hbm : W.hbm = true) (h_tileMem : W.tileMem = true) (h_upd : W.upd = true) (h_num : W.num = true) (h_wire : W.wire = true) (h_sync : W.sync = true) (h_plan : W.plan = true) (h_traffic : W.traffic = true) (h_ev : W.ev = true) (h_hl : W.hl = true) (h_outbox : W.outbox = true) (h_mail : W.mail = true) (hs : ChangesOnly W s₀ s) :
    TouchR W s₀ (execControlFlit link time w outcome cyc s) := by
  unfold execControlFlit
  repeat' first
    | with_reducible assumption
    | with_reducible refine touchR_next ?_
    | with_reducible refine takeC0Position_touch h_wire ?_
    | with_reducible refine countCodeword_touch h_runs h_wire h_traffic h_ev h_hl h_outbox ?_
    | with_reducible refine atCycle_touch h_cycle ?_
    | with_reducible refine takeRetries_touch h_runs h_hbm h_tileMem h_num h_wire h_sync h_traffic h_ev h_outbox ?_
    | with_reducible refine takeView_touch h_wire ?_
    | with_reducible refine takeAcks_touch h_wire ?_
    | with_reducible refine discover_touch h_wire h_traffic h_ev h_outbox ?_
    | with_reducible refine takeEvent_touch h_runs h_holds h_frame h_upd h_wire h_sync h_plan h_traffic h_ev h_outbox h_mail ?_
    | with_reducible refine takeC0_touch h_wire ?_
    | with_reducible refine touch_foldl ?_ (fun _ _ _ => ?_)
    | with_reducible refine touch_ite (fun _ => ?_) (fun _ => ?_)
    | with_reducible refine touchR_ite (fun _ => ?_) (fun _ => ?_)

theorem execLaneFailure_touch {link : LinkId} {lane : Fin 4} {cyc : Nat} {s : State} (h_cycle : W.cycle = true) (h_wire : W.wire = true) (h_traffic : W.traffic = true) (h_ev : W.ev = true) (h_hl : W.hl = true) (h_outbox : W.outbox = true) (hs : ChangesOnly W s₀ s) :
    TouchR W s₀ (execLaneFailure link lane cyc s) := by
  unfold execLaneFailure
  repeat' first
    | with_reducible assumption
    | with_reducible refine touchR_next ?_
    | with_reducible refine laneFail_touch h_wire h_traffic h_ev h_hl h_outbox ?_
    | with_reducible refine atCycle_touch h_cycle ?_

theorem execLaneDegradeRetrain_touch {link : LinkId} {failed : BitVec 4} {s : State} (h_wire : W.wire = true) (h_traffic : W.traffic = true) (h_ev : W.ev = true) (h_outbox : W.outbox = true) (hs : ChangesOnly W s₀ s) :
    TouchR W s₀ (execLaneDegradeRetrain link failed s) := by
  unfold execLaneDegradeRetrain
  repeat' first
    | with_reducible assumption
    | with_reducible refine touchR_next ?_
    | with_reducible refine modLink_touch h_wire ?_
    | with_reducible refine raise_touch h_traffic h_ev h_outbox ?_
    | with_reducible refine touch_ite (fun _ => ?_) (fun _ => ?_)
    | split
    | (dsimp only; split)

theorem execEyeMeasurement_touch {link : LinkId} {lane : Fin 4} {height : Half} {width : Half} {ser : Word} {admission : Bool} {s : State} (h_wire : W.wire = true) (h_traffic : W.traffic = true) (h_ev : W.ev = true) (h_hl : W.hl = true) (h_outbox : W.outbox = true) (hs : ChangesOnly W s₀ s) :
    TouchR W s₀ (execEyeMeasurement link lane height width ser admission s) := by
  unfold execEyeMeasurement
  repeat' first
    | with_reducible assumption
    | with_reducible refine touchR_next ?_
    | with_reducible refine modLink_touch h_wire ?_
    | with_reducible refine laneFail_touch h_wire h_traffic h_ev h_hl h_outbox ?_
    | with_reducible refine modHealth_touch h_hl ?_
    | with_reducible refine raiseCharged_touch h_traffic h_ev h_hl h_outbox ?_
    | with_reducible refine touch_ite (fun _ => ?_) (fun _ => ?_)
    | with_reducible refine touchR_ite (fun _ => ?_) (fun _ => ?_)

theorem execLaneTraining_touch {down : List LinkId} {s : State} (h_wire : W.wire = true) (h_pin : W.pin = true) (hs : ChangesOnly W s₀ s) :
    TouchR W s₀ (execLaneTraining down s) := by
  unfold execLaneTraining
  repeat' first
    | with_reducible assumption
    | fail_if_no_progress (with_reducible refine touch_mk ?_ ⟨rfl, rfl, fun _ => rfl, fun _ => rfl, fun _ => rfl, fun _ => rfl, fun _ => rfl, fun _ => rfl, fun _ => rfl, fun _ => rfl, fun _ => rfl, fun _ => rfl, fun _ => rfl, fun _ => rfl, fun _ => rfl, fun _ => rfl, fun _ => rfl, fun _ => rfl, fun _ => rfl, fun _ => rfl, fun _ => rfl, fun _ => rfl, fun _ => rfl, fun _ => rfl, fun _ => rfl, off_of_on h_pin, fun _ => rfl, fun _ => rfl, fun _ => rfl, fun _ => rfl, fun _ => rfl, fun _ => rfl, fun _ => rfl⟩)
    | with_reducible refine touchR_next ?_
    | with_reducible refine modLink_touch h_wire ?_
    | with_reducible refine touch_foldl ?_ (fun _ _ _ => ?_)
    | with_reducible refine touch_ite (fun _ => ?_) (fun _ => ?_)
    | with_reducible refine touchR_ite (fun _ => ?_) (fun _ => ?_)

theorem linksTick_touch {s : State} (h_wire : W.wire = true) (h_traffic : W.traffic = true) (h_ev : W.ev = true) (h_outbox : W.outbox = true) (hs : ChangesOnly W s₀ s) :
    ChangesOnly W s₀ (linksTick s) := by
  unfold linksTick
  repeat' first
    | with_reducible assumption
    | fail_if_no_progress (with_reducible refine touch_mk ?_ ⟨rfl, rfl, fun _ => rfl, fun _ => rfl, fun _ => rfl, fun _ => rfl, fun _ => rfl, fun _ => rfl, fun _ => rfl, fun _ => rfl, fun _ => rfl, fun _ => rfl, fun _ => rfl, fun _ => rfl, fun _ => rfl, fun _ => rfl, fun _ => rfl, off_of_on h_wire, fun _ => rfl, fun _ => rfl, fun _ => rfl, fun _ => rfl, fun _ => rfl, fun _ => rfl, fun _ => rfl, fun _ => rfl, fun _ => rfl, fun _ => rfl, fun _ => rfl, fun _ => rfl, fun _ => rfl, fun _ => rfl, fun _ => rfl⟩)
    | with_reducible refine raiseOnce_touch h_traffic h_ev h_outbox ?_
    | with_reducible refine touch_foldl ?_ (fun _ _ _ => ?_)
    | with_reducible refine touch_ite (fun _ => ?_) (fun _ => ?_)
    | split

theorem slotsStart_touch {s : State} (h_wire : W.wire = true) (hs : ChangesOnly W s₀ s) :
    ChangesOnly W s₀ (slotsStart s) := by
  unfold slotsStart
  repeat' first
    | with_reducible assumption
    | fail_if_no_progress (with_reducible refine touch_mk ?_ ⟨rfl, rfl, fun _ => rfl, fun _ => rfl, fun _ => rfl, fun _ => rfl, fun _ => rfl, fun _ => rfl, fun _ => rfl, fun _ => rfl, fun _ => rfl, fun _ => rfl, fun _ => rfl, fun _ => rfl, fun _ => rfl, fun _ => rfl, fun _ => rfl, off_of_on h_wire, fun _ => rfl, fun _ => rfl, fun _ => rfl, fun _ => rfl, fun _ => rfl, fun _ => rfl, fun _ => rfl, fun _ => rfl, fun _ => rfl, fun _ => rfl, fun _ => rfl, fun _ => rfl, fun _ => rfl, fun _ => rfl, fun _ => rfl⟩)

end Sys2Proof.Machine
end

