-- ==== Sys2Proof/Laws/TouchPlan.lean ====
section
/-!
SUPPORT. Sys2Proof/Laws/TouchPlan.lean: which parts of the state the functions of plan frames, commit points, the ledger and plan loading
may change, one lemma each.
-/
namespace Sys2Proof.Machine
open Sys2Proof

variable {W : Parts} {s₀ : State}

theorem placeCalibrations_touch {s : State} {t : Option Template} (h_arrays : W.arrays = true) (hs : ChangesOnly W s₀ s) :
    ChangesOnly W s₀ (placeCalibrations s t) := by
  unfold placeCalibrations
  repeat' first
    | with_reducible assumption
    | with_reducible refine modArr_touch h_arrays ?_
    | with_reducible refine touch_foldl ?_ (fun _ _ _ => ?_)
    | with_reducible refine touch_ite (fun _ => ?_) (fun _ => ?_)

theorem assertStretch_touch {s : State} {pos : Nat} (h_frame : W.frame = true) (h_num : W.num = true) (h_sync : W.sync = true) (h_traffic : W.traffic = true) (h_ev : W.ev = true) (h_outbox : W.outbox = true) (hs : ChangesOnly W s₀ s) :
    ChangesOnly W s₀ (assertStretch s pos) := by
  unfold assertStretch
  repeat' first
    | with_reducible assumption
    | fail_if_no_progress (with_reducible refine touch_mk ?_ ⟨rfl, rfl, fun _ => rfl, fun _ => rfl, fun _ => rfl, fun _ => rfl, off_of_on h_frame, fun _ => rfl, fun _ => rfl, fun _ => rfl, fun _ => rfl, fun _ => rfl, fun _ => rfl, fun _ => rfl, fun _ => rfl, fun _ => rfl, fun _ => rfl, fun _ => rfl, fun _ => rfl, fun _ => rfl, fun _ => rfl, fun _ => rfl, fun _ => rfl, fun _ => rfl, fun _ => rfl, fun _ => rfl, fun _ => rfl, fun _ => rfl, fun _ => rfl, fun _ => rfl, fun _ => rfl, fun _ => rfl, fun _ => rfl⟩)
    | with_reducible refine monitorRecord_touch h_num ?_
    | with_reducible refine flood_touch h_sync ?_
    | with_reducible refine raise_touch h_traffic h_ev h_outbox ?_
    | with_reducible refine touch_ite (fun _ => ?_) (fun _ => ?_)

theorem grantFallback_touch {s : State} {t : Template} {p : Nat} (h_frame : W.frame = true) (h_num : W.num = true) (h_sync : W.sync = true) (h_traffic : W.traffic = true) (h_ev : W.ev = true) (h_outbox : W.outbox = true) (hs : ChangesOnly W s₀ s) : ChangesOnly W s₀ (grantFallback s t p).1 := by
  unfold grantFallback
  extract_lets req auto granted refused num s1
  have h1 : ChangesOnly W s₀ s1 := touch_mk hs ⟨rfl, rfl, fun _ => rfl, fun _ => rfl, fun _ => rfl, fun _ => rfl, fun _ => rfl, fun _ => rfl, fun _ => rfl, fun _ => rfl, fun _ => rfl, fun _ => rfl, fun _ => rfl, fun _ => rfl, fun _ => rfl, fun _ => rfl, off_of_on h_num, fun _ => rfl, fun _ => rfl, fun _ => rfl, fun _ => rfl, fun _ => rfl, fun _ => rfl, fun _ => rfl, fun _ => rfl, fun _ => rfl, fun _ => rfl, fun _ => rfl, fun _ => rfl, fun _ => rfl, fun _ => rfl, fun _ => rfl, fun _ => rfl⟩
  clear_value s1
  split
  · exact touch_mk h1 ⟨rfl, rfl, fun _ => rfl, fun _ => rfl, fun _ => rfl, fun _ => rfl, fun _ => rfl, fun _ => rfl, fun _ => rfl, fun _ => rfl, fun _ => rfl, fun _ => rfl, fun _ => rfl, fun _ => rfl, fun _ => rfl, fun _ => rfl, off_of_on h_num, fun _ => rfl, fun _ => rfl, fun _ => rfl, fun _ => rfl, fun _ => rfl, fun _ => rfl, fun _ => rfl, fun _ => rfl, fun _ => rfl, fun _ => rfl, fun _ => rfl, fun _ => rfl, fun _ => rfl, fun _ => rfl, fun _ => rfl, fun _ => rfl⟩
  · rename_i s2 _
    have h2 : ChangesOnly W s₀ s2 := raise_touch h_traffic h_ev h_outbox (touch_mk h1 ⟨rfl, rfl, fun _ => rfl, fun _ => rfl, fun _ => rfl, fun _ => rfl, fun _ => rfl, fun _ => rfl, fun _ => rfl, fun _ => rfl, fun _ => rfl, fun _ => rfl, fun _ => rfl, fun _ => rfl, fun _ => rfl, fun _ => rfl, off_of_on h_num, fun _ => rfl, fun _ => rfl, fun _ => rfl, fun _ => rfl, fun _ => rfl, fun _ => rfl, fun _ => rfl, fun _ => rfl, fun _ => rfl, fun _ => rfl, fun _ => rfl, fun _ => rfl, fun _ => rfl, fun _ => rfl, fun _ => rfl, fun _ => rfl⟩)
    exact touch_ite (fun _ => assertStretch_touch h_frame h_num h_sync h_traffic h_ev h_outbox h2) (fun _ => h2)

theorem beginFrame_touch {s : State} {pos : Nat} {again : Bool} (h_runs : W.runs = true) (h_frame : W.frame = true) (h_arrays : W.arrays = true) (h_hbm : W.hbm = true) (h_upd : W.upd = true) (h_num : W.num = true) (h_wire : W.wire = true) (h_sync : W.sync = true) (h_traffic : W.traffic = true) (h_ctx : W.ctx = true) (h_ev : W.ev = true) (h_outbox : W.outbox = true) (hs : ChangesOnly W s₀ s) :
    ChangesOnly W s₀ (beginFrame s pos again) := by
  unfold beginFrame
  repeat' first
    | with_reducible assumption
    | fail_if_no_progress (with_reducible refine touch_mk ?_ ⟨rfl, rfl, fun _ => rfl, fun _ => rfl, off_of_on h_runs, fun _ => rfl, off_of_on h_frame, fun _ => rfl, fun _ => rfl, fun _ => rfl, fun _ => rfl, fun _ => rfl, fun _ => rfl, fun _ => rfl, fun _ => rfl, off_of_on h_upd, off_of_on h_num, fun _ => rfl, fun _ => rfl, fun _ => rfl, fun _ => rfl, fun _ => rfl, fun _ => rfl, fun _ => rfl, fun _ => rfl, fun _ => rfl, fun _ => rfl, fun _ => rfl, fun _ => rfl, fun _ => rfl, fun _ => rfl, fun _ => rfl, fun _ => rfl⟩)
    | with_reducible refine scalesTick_touch h_num ?_
    | with_reducible refine takeSnapshot_touch h_upd ?_
    | with_reducible refine slotsStart_touch h_wire ?_
    | with_reducible refine placeCalibrations_touch h_arrays ?_
    | with_reducible refine grantFallback_touch h_frame h_num h_sync h_traffic h_ev h_outbox ?_
    | with_reducible refine grantTick_touch h_hbm h_traffic h_ctx h_ev h_outbox ?_
    | with_reducible refine touch_ite (fun _ => ?_) (fun _ => ?_)
    | split
    | (dsimp only; split)

theorem closeEvents_touch {s : State} {f : PlanFrame} (h_runs : W.runs = true) (h_traffic : W.traffic = true) (h_ev : W.ev = true) (h_outbox : W.outbox = true) (hs : ChangesOnly W s₀ s) :
    ChangesOnly W s₀ (closeEvents s f) := by
  unfold closeEvents
  repeat' first
    | with_reducible assumption
    | with_reducible refine raise_touch h_traffic h_ev h_outbox ?_
    | with_reducible refine addExc_touch h_runs ?_
    | with_reducible refine touch_foldl ?_ (fun _ _ _ => ?_)
    | with_reducible refine touch_ite (fun _ => ?_) (fun _ => ?_)

theorem closeFrame_touch {s : State} {f : PlanFrame} (h_runs : W.runs = true) (h_traffic : W.traffic = true) (h_ev : W.ev = true) (h_outbox : W.outbox = true) (hs : ChangesOnly W s₀ s) :
    ChangesOnly W s₀ (closeFrame s f) := by
  unfold closeFrame
  repeat' first
    | with_reducible assumption
    | fail_if_no_progress (with_reducible refine touch_mk ?_ ⟨rfl, rfl, fun _ => rfl, fun _ => rfl, off_of_on h_runs, fun _ => rfl, fun _ => rfl, fun _ => rfl, fun _ => rfl, fun _ => rfl, fun _ => rfl, fun _ => rfl, fun _ => rfl, fun _ => rfl, fun _ => rfl, fun _ => rfl, fun _ => rfl, fun _ => rfl, fun _ => rfl, fun _ => rfl, fun _ => rfl, fun _ => rfl, fun _ => rfl, fun _ => rfl, fun _ => rfl, fun _ => rfl, fun _ => rfl, fun _ => rfl, fun _ => rfl, fun _ => rfl, fun _ => rfl, fun _ => rfl, fun _ => rfl⟩)
    | with_reducible refine closeEvents_touch h_runs h_traffic h_ev h_outbox ?_

theorem prefetchEvent_touch {s : State} {f : PlanFrame} (h_traffic : W.traffic = true) (h_ev : W.ev = true) (h_outbox : W.outbox = true) (hs : ChangesOnly W s₀ s) :
    ChangesOnly W s₀ (prefetchEvent s f) := by
  unfold prefetchEvent
  repeat' first
    | with_reducible assumption
    | with_reducible refine raise_touch h_traffic h_ev h_outbox ?_
    | with_reducible refine touch_ite (fun _ => ?_) (fun _ => ?_)

theorem discardAll_touch {s : State} (h_runs : W.runs = true) (h_tiles : W.tiles = true) (h_arrays : W.arrays = true) (h_ops : W.ops = true) (h_hbm : W.hbm = true) (h_tileMem : W.tileMem = true) (h_upd : W.upd = true) (hs : ChangesOnly W s₀ s) :
    ChangesOnly W s₀ (discardAll s) := by
  unfold discardAll
  repeat' first
    | with_reducible assumption
    | fail_if_no_progress (with_reducible refine touch_mk ?_ ⟨rfl, rfl, fun _ => rfl, fun _ => rfl, off_of_on h_runs, fun _ => rfl, fun _ => rfl, fun _ => rfl, fun _ => rfl, fun _ => rfl, fun _ => rfl, fun _ => rfl, fun _ => rfl, fun _ => rfl, fun _ => rfl, fun _ => rfl, fun _ => rfl, fun _ => rfl, fun _ => rfl, fun _ => rfl, fun _ => rfl, fun _ => rfl, fun _ => rfl, fun _ => rfl, fun _ => rfl, fun _ => rfl, fun _ => rfl, fun _ => rfl, fun _ => rfl, fun _ => rfl, fun _ => rfl, fun _ => rfl, fun _ => rfl⟩)
    | with_reducible refine discardGen_touch h_tiles h_arrays h_ops h_hbm h_tileMem h_upd ?_
    | split

theorem idleRecord_touch {s : State} {late : Bool} (h_led : W.led = true) (hs : ChangesOnly W s₀ s) :
    ChangesOnly W s₀ (idleRecord s late) := by
  unfold idleRecord
  repeat' first
    | with_reducible assumption
    | fail_if_no_progress (with_reducible refine touch_mk ?_ ⟨rfl, rfl, fun _ => rfl, fun _ => rfl, fun _ => rfl, fun _ => rfl, fun _ => rfl, off_of_on h_led, fun _ => rfl, fun _ => rfl, fun _ => rfl, fun _ => rfl, fun _ => rfl, fun _ => rfl, fun _ => rfl, fun _ => rfl, fun _ => rfl, fun _ => rfl, fun _ => rfl, fun _ => rfl, fun _ => rfl, fun _ => rfl, fun _ => rfl, fun _ => rfl, fun _ => rfl, fun _ => rfl, fun _ => rfl, fun _ => rfl, fun _ => rfl, fun _ => rfl, fun _ => rfl, fun _ => rfl, fun _ => rfl⟩)
    | with_reducible refine touch_ite (fun _ => ?_) (fun _ => ?_)

theorem haltRun_touch {s : State} (h_runs : W.runs = true) (h_frame : W.frame = true) (h_plan : W.plan = true) (h_lakes : W.lakes = true) (hs : ChangesOnly W s₀ s) :
    ChangesOnly W s₀ (haltRun s) := by
  unfold haltRun
  repeat' first
    | with_reducible assumption
    | fail_if_no_progress (with_reducible refine touch_mk ?_ ⟨rfl, rfl, fun _ => rfl, fun _ => rfl, off_of_on h_runs, fun _ => rfl, off_of_on h_frame, fun _ => rfl, fun _ => rfl, fun _ => rfl, fun _ => rfl, fun _ => rfl, fun _ => rfl, fun _ => rfl, fun _ => rfl, fun _ => rfl, fun _ => rfl, fun _ => rfl, fun _ => rfl, off_of_on h_plan, fun _ => rfl, fun _ => rfl, fun _ => rfl, fun _ => rfl, fun _ => rfl, fun _ => rfl, fun _ => rfl, fun _ => rfl, fun _ => rfl, fun _ => rfl, fun _ => rfl, fun _ => rfl, fun _ => rfl⟩)
    | with_reducible refine spliceLakes_touch h_lakes ?_

theorem haltNow_touch {s : State} (h_runs : W.runs = true) (h_frame : W.frame = true) (h_tiles : W.tiles = true) (h_arrays : W.arrays = true) (h_ops : W.ops = true) (h_hbm : W.hbm = true) (h_tileMem : W.tileMem = true) (h_upd : W.upd = true) (h_plan : W.plan = true) (h_lakes : W.lakes = true) (hs : ChangesOnly W s₀ s) :
    ChangesOnly W s₀ (haltNow s) := by
  unfold haltNow
  repeat' first
    | with_reducible assumption
    | with_reducible refine haltRun_touch h_runs h_frame h_plan h_lakes ?_
    | with_reducible refine discardAll_touch h_runs h_tiles h_arrays h_ops h_hbm h_tileMem h_upd ?_

theorem stopAtTick_touch {s : State} {p : PlanImage} {due : Bool} (h_runs : W.runs = true) (h_frame : W.frame = true) (h_tiles : W.tiles = true) (h_arrays : W.arrays = true) (h_ops : W.ops = true) (h_hbm : W.hbm = true) (h_tileMem : W.tileMem = true) (h_upd : W.upd = true) (h_plan : W.plan = true) (h_lakes : W.lakes = true) (h_traffic : W.traffic = true) (h_ev : W.ev = true) (h_outbox : W.outbox = true) (hs : ChangesOnly W s₀ s) :
    ChangesOnly W s₀ (stopAtTick s p due) := by
  unfold stopAtTick
  repeat' first
    | with_reducible assumption
    | fail_if_no_progress (with_reducible refine touch_mk ?_ ⟨rfl, rfl, fun _ => rfl, fun _ => rfl, off_of_on h_runs, fun _ => rfl, fun _ => rfl, fun _ => rfl, fun _ => rfl, fun _ => rfl, fun _ => rfl, fun _ => rfl, fun _ => rfl, fun _ => rfl, fun _ => rfl, fun _ => rfl, fun _ => rfl, fun _ => rfl, fun _ => rfl, off_of_on h_plan, fun _ => rfl, fun _ => rfl, fun _ => rfl, fun _ => rfl, fun _ => rfl, fun _ => rfl, fun _ => rfl, fun _ => rfl, fun _ => rfl, fun _ => rfl, fun _ => rfl, fun _ => rfl, fun _ => rfl⟩)
    | with_reducible refine closeFrame_touch h_runs h_traffic h_ev h_outbox ?_
    | with_reducible refine discardGen_touch h_tiles h_arrays h_ops h_hbm h_tileMem h_upd ?_
    | with_reducible refine raise_touch h_traffic h_ev h_outbox ?_
    | with_reducible refine haltRun_touch h_runs h_frame h_plan h_lakes ?_
    | with_reducible refine touch_ite (fun _ => ?_) (fun _ => ?_)
    | split

theorem mirrorRound_touch {s : State} {p : PlanImage} (h_upd : W.upd = true) (hs : ChangesOnly W s₀ s) :
    ChangesOnly W s₀ (mirrorRound s p) := by
  unfold mirrorRound
  repeat' first
    | with_reducible assumption
    | fail_if_no_progress (with_reducible refine touch_mk ?_ ⟨rfl, rfl, fun _ => rfl, fun _ => rfl, fun _ => rfl, fun _ => rfl, fun _ => rfl, fun _ => rfl, fun _ => rfl, fun _ => rfl, fun _ => rfl, fun _ => rfl, fun _ => rfl, fun _ => rfl, fun _ => rfl, off_of_on h_upd, fun _ => rfl, fun _ => rfl, fun _ => rfl, fun _ => rfl, fun _ => rfl, fun _ => rfl, fun _ => rfl, fun _ => rfl, fun _ => rfl, fun _ => rfl, fun _ => rfl, fun _ => rfl, fun _ => rfl, fun _ => rfl, fun _ => rfl, fun _ => rfl, fun _ => rfl⟩)
    | with_reducible refine touch_ite (fun _ => ?_) (fun _ => ?_)

theorem flipVersion_touch {s : State} {p : PlanImage} {next : Nat} (h_frame : W.frame = true) (h_upd : W.upd = true) (h_num : W.num = true) (h_plan : W.plan = true) (h_traffic : W.traffic = true) (h_ev : W.ev = true) (h_outbox : W.outbox = true) (hs : ChangesOnly W s₀ s) :
    ChangesOnly W s₀ (flipVersion s p next) := by
  unfold flipVersion
  repeat' first
    | with_reducible assumption
    | fail_if_no_progress (with_reducible refine touch_mk ?_ ⟨rfl, rfl, fun _ => rfl, fun _ => rfl, fun _ => rfl, fun _ => rfl, off_of_on h_frame, fun _ => rfl, fun _ => rfl, fun _ => rfl, fun _ => rfl, fun _ => rfl, fun _ => rfl, fun _ => rfl, fun _ => rfl, off_of_on h_upd, off_of_on h_num, fun _ => rfl, fun _ => rfl, off_of_on h_plan, fun _ => rfl, fun _ => rfl, fun _ => rfl, fun _ => rfl, fun _ => rfl, fun _ => rfl, fun _ => rfl, fun _ => rfl, fun _ => rfl, fun _ => rfl, fun _ => rfl, fun _ => rfl, fun _ => rfl⟩)
    | with_reducible refine lossFlip_touch h_num h_traffic h_ev h_outbox ?_
    | with_reducible refine ratioFlags_touch h_upd h_num h_traffic h_ev h_outbox ?_
    | with_reducible refine mirrorRound_touch h_upd ?_

theorem abandonAttempt_touch {s : State} {p : PlanImage} {step : Nat} (h_runs : W.runs = true) (h_upd : W.upd = true) (h_sync : W.sync = true) (h_traffic : W.traffic = true) (h_ev : W.ev = true) (h_outbox : W.outbox = true) (hs : ChangesOnly W s₀ s) :
    ChangesOnly W s₀ (abandonAttempt s p step) := by
  unfold abandonAttempt
  repeat' first
    | with_reducible assumption
    | fail_if_no_progress (with_reducible refine touch_mk ?_ ⟨rfl, rfl, fun _ => rfl, fun _ => rfl, fun _ => rfl, fun _ => rfl, fun _ => rfl, fun _ => rfl, fun _ => rfl, fun _ => rfl, fun _ => rfl, fun _ => rfl, fun _ => rfl, fun _ => rfl, fun _ => rfl, off_of_on h_upd, fun _ => rfl, fun _ => rfl, fun _ => rfl, fun _ => rfl, fun _ => rfl, fun _ => rfl, fun _ => rfl, fun _ => rfl, fun _ => rfl, fun _ => rfl, fun _ => rfl, fun _ => rfl, fun _ => rfl, fun _ => rfl, fun _ => rfl, fun _ => rfl, fun _ => rfl⟩)
    | with_reducible refine flood_touch h_sync ?_
    | with_reducible refine noteComplete_touch h_runs h_upd h_sync h_traffic h_ev h_outbox ?_

theorem stepCommit_touch {s : State} {p : PlanImage} {step : Nat} {next : Nat} (h_runs : W.runs = true) (h_frame : W.frame = true) (h_upd : W.upd = true) (h_num : W.num = true) (h_sync : W.sync = true) (h_plan : W.plan = true) (h_traffic : W.traffic = true) (h_ev : W.ev = true) (h_outbox : W.outbox = true) (hs : ChangesOnly W s₀ s) :
    ChangesOnly W s₀ (stepCommit s p step next) := by
  unfold stepCommit
  repeat' first
    | with_reducible assumption
    | with_reducible refine flipVersion_touch h_frame h_upd h_num h_plan h_traffic h_ev h_outbox ?_
    | with_reducible refine takeL3_touch h_runs h_sync h_traffic h_ev h_outbox ?_
    | with_reducible refine abandonAttempt_touch h_runs h_upd h_sync h_traffic h_ev h_outbox ?_
    | split

theorem passHold_touch {s : State} {t : Nat} (h_holds : W.holds = true) (h_frame : W.frame = true) (hs : ChangesOnly W s₀ s) :
    ChangesOnly W s₀ (passHold s t) := by
  unfold passHold
  repeat' first
    | with_reducible assumption
    | fail_if_no_progress (with_reducible refine touch_mk ?_ ⟨rfl, rfl, fun _ => rfl, fun _ => rfl, fun _ => rfl, off_of_on h_holds, off_of_on h_frame, fun _ => rfl, fun _ => rfl, fun _ => rfl, fun _ => rfl, fun _ => rfl, fun _ => rfl, fun _ => rfl, fun _ => rfl, fun _ => rfl, fun _ => rfl, fun _ => rfl, fun _ => rfl, fun _ => rfl, fun _ => rfl, fun _ => rfl, fun _ => rfl, fun _ => rfl, fun _ => rfl, fun _ => rfl, fun _ => rfl, fun _ => rfl, fun _ => rfl, fun _ => rfl, fun _ => rfl, fun _ => rfl, fun _ => rfl⟩)
    | with_reducible refine addHold_touch h_holds ?_
    | with_reducible refine touch_ite (fun _ => ?_) (fun _ => ?_)

theorem assertHold_touch {s : State} {cause : Nat} (h_holds : W.holds = true) (h_sync : W.sync = true) (hs : ChangesOnly W s₀ s) :
    ChangesOnly W s₀ (assertHold s cause) := by
  unfold assertHold
  repeat' first
    | with_reducible assumption
    | with_reducible refine addHold_touch h_holds ?_
    | with_reducible refine flood_touch h_sync ?_

theorem expelRank_touch {s : State} {r : Nat} (h_upd : W.upd = true) (h_wire : W.wire = true) (h_sync : W.sync = true) (h_traffic : W.traffic = true) (h_ev : W.ev = true) (h_outbox : W.outbox = true) (hs : ChangesOnly W s₀ s) :
    ChangesOnly W s₀ (expelRank s r) := by
  unfold expelRank
  repeat' first
    | with_reducible assumption
    | fail_if_no_progress (with_reducible refine touch_mk ?_ ⟨rfl, rfl, fun _ => rfl, fun _ => rfl, fun _ => rfl, fun _ => rfl, fun _ => rfl, fun _ => rfl, fun _ => rfl, fun _ => rfl, fun _ => rfl, fun _ => rfl, fun _ => rfl, fun _ => rfl, fun _ => rfl, off_of_on h_upd, fun _ => rfl, off_of_on h_wire, off_of_on h_sync, fun _ => rfl, fun _ => rfl, fun _ => rfl, fun _ => rfl, fun _ => rfl, fun _ => rfl, fun _ => rfl, fun _ => rfl, fun _ => rfl, fun _ => rfl, fun _ => rfl, fun _ => rfl, fun _ => rfl, fun _ => rfl⟩)
    | with_reducible refine raise_touch h_traffic h_ev h_outbox ?_
    | with_reducible refine touch_ite (fun _ => ?_) (fun _ => ?_)

theorem recoverySelftest_touch {s : State} (h_pin : W.pin = true) (hs : ChangesOnly W s₀ s) :
    ChangesOnly W s₀ (recoverySelftest s) := by
  unfold recoverySelftest
  repeat' first
    | with_reducible assumption
    | fail_if_no_progress (with_reducible refine touch_mk ?_ ⟨rfl, rfl, fun _ => rfl, fun _ => rfl, fun _ => rfl, fun _ => rfl, fun _ => rfl, fun _ => rfl, fun _ => rfl, fun _ => rfl, fun _ => rfl, fun _ => rfl, fun _ => rfl, fun _ => rfl, fun _ => rfl, fun _ => rfl, fun _ => rfl, fun _ => rfl, fun _ => rfl, fun _ => rfl, fun _ => rfl, fun _ => rfl, fun _ => rfl, fun _ => rfl, fun _ => rfl, off_of_on h_pin, fun _ => rfl, fun _ => rfl, fun _ => rfl, fun _ => rfl, fun _ => rfl, fun _ => rfl, fun _ => rfl⟩)

theorem expelTick_touch {s : State} {t : Nat} {due : Bool} (h_runs : W.runs = true) (h_frame : W.frame = true) (h_tiles : W.tiles = true) (h_arrays : W.arrays = true) (h_ops : W.ops = true) (h_hbm : W.hbm = true) (h_tileMem : W.tileMem = true) (h_upd : W.upd = true) (h_num : W.num = true) (h_wire : W.wire = true) (h_sync : W.sync = true) (h_plan : W.plan = true) (h_lakes : W.lakes = true) (h_traffic : W.traffic = true) (h_pin : W.pin = true) (h_ev : W.ev = true) (h_outbox : W.outbox = true) (hs : ChangesOnly W s₀ s) :
    ChangesOnly W s₀ (expelTick s t due) := by
  unfold expelTick
  repeat' first
    | with_reducible assumption
    | fail_if_no_progress (with_reducible refine touch_mk ?_ ⟨rfl, rfl, fun _ => rfl, fun _ => rfl, fun _ => rfl, fun _ => rfl, fun _ => rfl, fun _ => rfl, fun _ => rfl, fun _ => rfl, fun _ => rfl, fun _ => rfl, fun _ => rfl, fun _ => rfl, fun _ => rfl, fun _ => rfl, fun _ => rfl, fun _ => rfl, off_of_on h_sync, off_of_on h_plan, fun _ => rfl, fun _ => rfl, fun _ => rfl, fun _ => rfl, fun _ => rfl, fun _ => rfl, fun _ => rfl, fun _ => rfl, fun _ => rfl, fun _ => rfl, fun _ => rfl, fun _ => rfl, fun _ => rfl⟩)
    | with_reducible refine expelRank_touch h_upd h_wire h_sync h_traffic h_ev h_outbox ?_
    | with_reducible refine settleAllShared_touch h_num h_traffic h_ev h_outbox ?_
    | with_reducible refine decideRedo_touch h_runs h_upd h_sync h_traffic h_ev h_outbox ?_
    | with_reducible refine recoverySelftest_touch h_pin ?_
    | with_reducible refine haltNow_touch h_runs h_frame h_tiles h_arrays h_ops h_hbm h_tileMem h_upd h_plan h_lakes ?_
    | with_reducible refine stopAtTick_touch h_runs h_frame h_tiles h_arrays h_ops h_hbm h_tileMem h_upd h_plan h_lakes h_traffic h_ev h_outbox ?_
    | with_reducible refine raise_touch h_traffic h_ev h_outbox ?_
    | with_reducible refine touch_foldl ?_ (fun _ _ _ => ?_)
    | with_reducible refine touch_ite (fun _ => ?_) (fun _ => ?_)
    | split
    | (dsimp only; split)

theorem saveWear_touch {s : State} (h_arrays : W.arrays = true) (hs : ChangesOnly W s₀ s) :
    ChangesOnly W s₀ (saveWear s) := by
  unfold saveWear
  repeat' first
    | with_reducible assumption
    | fail_if_no_progress (with_reducible refine touch_mk ?_ ⟨rfl, rfl, fun _ => rfl, fun _ => rfl, fun _ => rfl, fun _ => rfl, fun _ => rfl, fun _ => rfl, fun _ => rfl, off_of_on h_arrays, fun _ => rfl, fun _ => rfl, fun _ => rfl, fun _ => rfl, fun _ => rfl, fun _ => rfl, fun _ => rfl, fun _ => rfl, fun _ => rfl, fun _ => rfl, fun _ => rfl, fun _ => rfl, fun _ => rfl, fun _ => rfl, fun _ => rfl, fun _ => rfl, fun _ => rfl, fun _ => rfl, fun _ => rfl, fun _ => rfl, fun _ => rfl, fun _ => rfl, fun _ => rfl⟩)

theorem saveArrays_touch {s : State} (h_arrays : W.arrays = true) (hs : ChangesOnly W s₀ s) :
    ChangesOnly W s₀ (saveArrays s) := by
  unfold saveArrays
  repeat' first
    | with_reducible assumption
    | fail_if_no_progress (with_reducible refine touch_mk ?_ ⟨rfl, rfl, fun _ => rfl, fun _ => rfl, fun _ => rfl, fun _ => rfl, fun _ => rfl, fun _ => rfl, fun _ => rfl, off_of_on h_arrays, fun _ => rfl, fun _ => rfl, fun _ => rfl, fun _ => rfl, fun _ => rfl, fun _ => rfl, fun _ => rfl, fun _ => rfl, fun _ => rfl, fun _ => rfl, fun _ => rfl, fun _ => rfl, fun _ => rfl, fun _ => rfl, fun _ => rfl, fun _ => rfl, fun _ => rfl, fun _ => rfl, fun _ => rfl, fun _ => rfl, fun _ => rfl, fun _ => rfl, fun _ => rfl⟩)
    | with_reducible refine saveWear_touch h_arrays ?_

theorem releaseArrays_touch {s : State} (h_arrays : W.arrays = true) (h_traffic : W.traffic = true) (h_ev : W.ev = true) (h_hl : W.hl = true) (h_outbox : W.outbox = true) (hs : ChangesOnly W s₀ s) :
    ChangesOnly W s₀ (releaseArrays s) := by
  unfold releaseArrays
  repeat' first
    | with_reducible assumption
    | with_reducible refine modArr_touch h_arrays ?_
    | with_reducible refine raise_touch h_traffic h_ev h_outbox ?_
    | with_reducible refine setUnitState_touch h_hl ?_
    | with_reducible refine touch_foldl ?_ (fun _ _ _ => ?_)

theorem releaseLinks_touch {s : State} (h_hl : W.hl = true) (hs : ChangesOnly W s₀ s) :
    ChangesOnly W s₀ (releaseLinks s) := by
  unfold releaseLinks
  repeat' first
    | with_reducible assumption
    | with_reducible refine setUnitState_touch h_hl ?_
    | with_reducible refine touch_foldl ?_ (fun _ _ _ => ?_)

theorem leaveUnits_touch {s : State} (h_runs : W.runs = true) (h_arrays : W.arrays = true) (h_sync : W.sync = true) (h_traffic : W.traffic = true) (h_ev : W.ev = true) (h_hl : W.hl = true) (h_outbox : W.outbox = true) (hs : ChangesOnly W s₀ s) :
    ChangesOnly W s₀ (leaveUnits s) := by
  unfold leaveUnits
  repeat' first
    | with_reducible assumption
    | fail_if_no_progress (with_reducible refine touch_mk ?_ ⟨rfl, rfl, fun _ => rfl, fun _ => rfl, fun _ => rfl, fun _ => rfl, fun _ => rfl, fun _ => rfl, fun _ => rfl, fun _ => rfl, fun _ => rfl, fun _ => rfl, fun _ => rfl, fun _ => rfl, fun _ => rfl, fun _ => rfl, fun _ => rfl, fun _ => rfl, fun _ => rfl, fun _ => rfl, fun _ => rfl, fun _ => rfl, fun _ => rfl, fun _ => rfl, fun _ => rfl, fun _ => rfl, fun _ => rfl, fun _ => rfl, off_of_on h_hl, fun _ => rfl, fun _ => rfl, fun _ => rfl, fun _ => rfl⟩)
    | with_reducible refine modArr_touch h_arrays ?_
    | with_reducible refine takeL3_touch h_runs h_sync h_traffic h_ev h_outbox ?_
    | with_reducible refine touch_foldl ?_ (fun _ _ _ => ?_)
    | with_reducible refine touch_ite (fun _ => ?_) (fun _ => ?_)

theorem boundarySteps_touch {s : State} (h_runs : W.runs = true) (h_frame : W.frame = true) (h_arrays : W.arrays = true) (h_sync : W.sync = true) (h_traffic : W.traffic = true) (h_ev : W.ev = true) (h_hl : W.hl = true) (h_outbox : W.outbox = true) (h_settings : W.settings = true) (hs : ChangesOnly W s₀ s) :
    ChangesOnly W s₀ (boundarySteps s) := by
  unfold boundarySteps
  repeat' first
    | with_reducible assumption
    | fail_if_no_progress (with_reducible refine touch_mk ?_ ⟨rfl, rfl, fun _ => rfl, fun _ => rfl, fun _ => rfl, fun _ => rfl, off_of_on h_frame, fun _ => rfl, fun _ => rfl, fun _ => rfl, fun _ => rfl, fun _ => rfl, fun _ => rfl, fun _ => rfl, fun _ => rfl, fun _ => rfl, fun _ => rfl, fun _ => rfl, fun _ => rfl, fun _ => rfl, fun _ => rfl, fun _ => rfl, fun _ => rfl, fun _ => rfl, fun _ => rfl, fun _ => rfl, fun _ => rfl, fun _ => rfl, fun _ => rfl, fun _ => rfl, fun _ => rfl, fun _ => rfl, fun _ => rfl⟩)
    | with_reducible refine leaveUnits_touch h_runs h_arrays h_sync h_traffic h_ev h_hl h_outbox ?_
    | with_reducible refine releaseLinks_touch h_hl ?_
    | with_reducible refine releaseArrays_touch h_arrays h_traffic h_ev h_hl h_outbox ?_
    | with_reducible refine saveArrays_touch h_arrays ?_
    | with_reducible refine commitBoundary_touch h_traffic h_ev h_outbox h_settings ?_

theorem verifyStaged_touch {s : State} (h_wire : W.wire = true) (h_plan : W.plan = true) (h_traffic : W.traffic = true) (h_ev : W.ev = true) (h_outbox : W.outbox = true) (h_mail : W.mail = true) (hs : ChangesOnly W s₀ s) :
    ChangesOnly W s₀ (verifyStaged s) := by
  unfold verifyStaged
  repeat' first
    | with_reducible assumption
    | fail_if_no_progress (with_reducible refine touch_mk ?_ ⟨rfl, rfl, fun _ => rfl, fun _ => rfl, fun _ => rfl, fun _ => rfl, fun _ => rfl, fun _ => rfl, fun _ => rfl, fun _ => rfl, fun _ => rfl, fun _ => rfl, fun _ => rfl, fun _ => rfl, fun _ => rfl, fun _ => rfl, fun _ => rfl, fun _ => rfl, fun _ => rfl, off_of_on h_plan, fun _ => rfl, fun _ => rfl, fun _ => rfl, fun _ => rfl, fun _ => rfl, fun _ => rfl, fun _ => rfl, fun _ => rfl, fun _ => rfl, fun _ => rfl, fun _ => rfl, fun _ => rfl, fun _ => rfl⟩)
    | with_reducible refine endLoad_touch h_wire h_plan h_traffic h_ev h_outbox h_mail ?_
    | with_reducible refine raise_touch h_traffic h_ev h_outbox ?_
    | with_reducible refine touch_ite (fun _ => ?_) (fun _ => ?_)
    | split

theorem clearContexts_touch {s : State} {p : PlanImage} (h_hbm : W.hbm = true) (h_ctx : W.ctx = true) (hs : ChangesOnly W s₀ s) :
    ChangesOnly W s₀ (clearContexts s p) := by
  unfold clearContexts
  repeat' first
    | with_reducible assumption
    | fail_if_no_progress (with_reducible refine touch_mk ?_ ⟨rfl, rfl, fun _ => rfl, fun _ => rfl, fun _ => rfl, fun _ => rfl, fun _ => rfl, fun _ => rfl, fun _ => rfl, fun _ => rfl, fun _ => rfl, fun _ => rfl, off_of_on h_hbm, fun _ => rfl, fun _ => rfl, fun _ => rfl, fun _ => rfl, fun _ => rfl, fun _ => rfl, fun _ => rfl, fun _ => rfl, fun _ => rfl, fun _ => rfl, fun _ => rfl, fun _ => rfl, fun _ => rfl, off_of_on h_ctx, fun _ => rfl, fun _ => rfl, fun _ => rfl, fun _ => rfl, fun _ => rfl, fun _ => rfl⟩)

theorem adoptPlan_touch {s : State} {p : PlanImage} {manifest : List Byte} {rank : Nat} (h_runs : W.runs = true) (h_holds : W.holds = true) (h_frame : W.frame = true) (h_led : W.led = true) (h_hbm : W.hbm = true) (h_wire : W.wire = true) (h_sync : W.sync = true) (h_plan : W.plan = true) (h_ctx : W.ctx = true) (hs : ChangesOnly W s₀ s) :
    ChangesOnly W s₀ (adoptPlan s p manifest rank) := by
  unfold adoptPlan
  repeat' first
    | with_reducible assumption
    | fail_if_no_progress (with_reducible refine touch_mk ?_ ⟨rfl, rfl, fun _ => rfl, fun _ => rfl, off_of_on h_runs, off_of_on h_holds, off_of_on h_frame, off_of_on h_led, fun _ => rfl, fun _ => rfl, fun _ => rfl, fun _ => rfl, fun _ => rfl, fun _ => rfl, fun _ => rfl, fun _ => rfl, fun _ => rfl, off_of_on h_wire, off_of_on h_sync, off_of_on h_plan, fun _ => rfl, fun _ => rfl, fun _ => rfl, fun _ => rfl, fun _ => rfl, fun _ => rfl, fun _ => rfl, fun _ => rfl, fun _ => rfl, fun _ => rfl, fun _ => rfl, fun _ => rfl, fun _ => rfl⟩)
    | with_reducible refine clearContexts_touch h_hbm h_ctx ?_

theorem startStaged_touch {s : State} (h_runs : W.runs = true) (h_holds : W.holds = true) (h_frame : W.frame = true) (h_led : W.led = true) (h_hbm : W.hbm = true) (h_wire : W.wire = true) (h_sync : W.sync = true) (h_plan : W.plan = true) (h_ctx : W.ctx = true) (hs : ChangesOnly W s₀ s) :
    ChangesOnly W s₀ (startStaged s) := by
  unfold startStaged
  repeat' first
    | with_reducible assumption
    | fail_if_no_progress (with_reducible refine touch_mk ?_ ⟨rfl, rfl, fun _ => rfl, fun _ => rfl, fun _ => rfl, fun _ => rfl, fun _ => rfl, fun _ => rfl, fun _ => rfl, fun _ => rfl, fun _ => rfl, fun _ => rfl, fun _ => rfl, fun _ => rfl, fun _ => rfl, fun _ => rfl, fun _ => rfl, fun _ => rfl, fun _ => rfl, off_of_on h_plan, fun _ => rfl, fun _ => rfl, fun _ => rfl, fun _ => rfl, fun _ => rfl, fun _ => rfl, fun _ => rfl, fun _ => rfl, fun _ => rfl, fun _ => rfl, fun _ => rfl, fun _ => rfl, fun _ => rfl⟩)
    | with_reducible refine adoptPlan_touch h_runs h_holds h_frame h_led h_hbm h_wire h_sync h_plan h_ctx ?_
    | split

theorem planSettings_touch {s : State} {p : PlanImage} (h_traffic : W.traffic = true) (h_ev : W.ev = true) (h_outbox : W.outbox = true) (h_settings : W.settings = true) (hs : ChangesOnly W s₀ s) :
    ChangesOnly W s₀ (planSettings s p) := by
  unfold planSettings
  repeat' first
    | with_reducible assumption
    | with_reducible refine setLive_touch h_settings ?_
    | with_reducible refine commitBoundary_touch h_traffic h_ev h_outbox h_settings ?_
    | with_reducible refine touch_foldl ?_ (fun _ _ _ => ?_)

theorem startPlan_touch {s : State} {p : PlanImage} (h_runs : W.runs = true) (h_frame : W.frame = true) (h_arrays : W.arrays = true) (h_hbm : W.hbm = true) (h_upd : W.upd = true) (h_num : W.num = true) (h_wire : W.wire = true) (h_sync : W.sync = true) (h_plan : W.plan = true) (h_lakes : W.lakes = true) (h_traffic : W.traffic = true) (h_ctx : W.ctx = true) (h_ev : W.ev = true) (h_outbox : W.outbox = true) (h_mail : W.mail = true) (h_settings : W.settings = true) (hs : ChangesOnly W s₀ s) :
    ChangesOnly W s₀ (startPlan s p) := by
  unfold startPlan
  repeat' first
    | with_reducible assumption
    | fail_if_no_progress (with_reducible refine touch_mk ?_ ⟨rfl, rfl, fun _ => rfl, fun _ => rfl, off_of_on h_runs, fun _ => rfl, off_of_on h_frame, fun _ => rfl, fun _ => rfl, fun _ => rfl, fun _ => rfl, fun _ => rfl, fun _ => rfl, fun _ => rfl, fun _ => rfl, off_of_on h_upd, off_of_on h_num, fun _ => rfl, off_of_on h_sync, off_of_on h_plan, fun _ => rfl, fun _ => rfl, fun _ => rfl, fun _ => rfl, fun _ => rfl, fun _ => rfl, fun _ => rfl, fun _ => rfl, fun _ => rfl, fun _ => rfl, fun _ => rfl, fun _ => rfl, fun _ => rfl⟩)
    | with_reducible refine planSettings_touch h_traffic h_ev h_outbox h_settings ?_
    | with_reducible refine carryOver_touch h_num ?_
    | with_reducible refine startCold_touch h_num h_traffic h_ev h_outbox ?_
    | with_reducible refine lakesStart_touch h_lakes ?_
    | with_reducible refine endLoad_touch h_wire h_plan h_traffic h_ev h_outbox h_mail ?_
    | with_reducible refine beginFrame_touch h_runs h_frame h_arrays h_hbm h_upd h_num h_wire h_sync h_traffic h_ctx h_ev h_outbox ?_
    | with_reducible refine touch_ite (fun _ => ?_) (fun _ => ?_)

theorem nextFrame_touch {s : State} {p : PlanImage} {pos : Nat} {again : Bool} (h_runs : W.runs = true) (h_frame : W.frame = true) (h_arrays : W.arrays = true) (h_hbm : W.hbm = true) (h_upd : W.upd = true) (h_num : W.num = true) (h_wire : W.wire = true) (h_sync : W.sync = true) (h_plan : W.plan = true) (h_lakes : W.lakes = true) (h_traffic : W.traffic = true) (h_ctx : W.ctx = true) (h_ev : W.ev = true) (h_hl : W.hl = true) (h_outbox : W.outbox = true) (h_mail : W.mail = true) (h_settings : W.settings = true) (hs : ChangesOnly W s₀ s) :
    ChangesOnly W s₀ (nextFrame s p pos again) := by
  unfold nextFrame
  repeat' first
    | with_reducible assumption
    | fail_if_no_progress (with_reducible refine touch_mk ?_ ⟨rfl, rfl, fun _ => rfl, fun _ => rfl, off_of_on h_runs, fun _ => rfl, fun _ => rfl, fun _ => rfl, fun _ => rfl, fun _ => rfl, fun _ => rfl, fun _ => rfl, fun _ => rfl, fun _ => rfl, fun _ => rfl, fun _ => rfl, fun _ => rfl, fun _ => rfl, fun _ => rfl, off_of_on h_plan, fun _ => rfl, fun _ => rfl, fun _ => rfl, fun _ => rfl, fun _ => rfl, fun _ => rfl, fun _ => rfl, fun _ => rfl, fun _ => rfl, fun _ => rfl, fun _ => rfl, fun _ => rfl, fun _ => rfl⟩)
    | with_reducible refine haltRun_touch h_runs h_frame h_plan h_lakes ?_
    | with_reducible refine verifyStaged_touch h_wire h_plan h_traffic h_ev h_outbox h_mail ?_
    | with_reducible refine boundarySteps_touch h_runs h_frame h_arrays h_sync h_traffic h_ev h_hl h_outbox h_settings ?_
    | with_reducible refine beginFrame_touch h_runs h_frame h_arrays h_hbm h_upd h_num h_wire h_sync h_traffic h_ctx h_ev h_outbox ?_
    | with_reducible refine touch_ite (fun _ => ?_) (fun _ => ?_)

theorem endPlan_touch {s : State} (h_runs : W.runs = true) (h_holds : W.holds = true) (h_frame : W.frame = true) (h_led : W.led = true) (h_arrays : W.arrays = true) (h_hbm : W.hbm = true) (h_wire : W.wire = true) (h_sync : W.sync = true) (h_plan : W.plan = true) (h_lakes : W.lakes = true) (h_traffic : W.traffic = true) (h_ctx : W.ctx = true) (h_ev : W.ev = true) (h_hl : W.hl = true) (h_outbox : W.outbox = true) (h_mail : W.mail = true) (h_settings : W.settings = true) (hs : ChangesOnly W s₀ s) :
    ChangesOnly W s₀ (endPlan s) := by
  unfold endPlan
  repeat' first
    | with_reducible assumption
    | fail_if_no_progress (with_reducible refine touch_mk ?_ ⟨rfl, rfl, fun _ => rfl, fun _ => rfl, fun _ => rfl, fun _ => rfl, fun _ => rfl, fun _ => rfl, fun _ => rfl, fun _ => rfl, fun _ => rfl, fun _ => rfl, fun _ => rfl, fun _ => rfl, fun _ => rfl, fun _ => rfl, fun _ => rfl, fun _ => rfl, fun _ => rfl, off_of_on h_plan, fun _ => rfl, fun _ => rfl, fun _ => rfl, fun _ => rfl, fun _ => rfl, fun _ => rfl, fun _ => rfl, fun _ => rfl, fun _ => rfl, fun _ => rfl, fun _ => rfl, fun _ => rfl, fun _ => rfl⟩)
    | with_reducible refine verifyStaged_touch h_wire h_plan h_traffic h_ev h_outbox h_mail ?_
    | with_reducible refine boundarySteps_touch h_runs h_frame h_arrays h_sync h_traffic h_ev h_hl h_outbox h_settings ?_
    | with_reducible refine startStaged_touch h_runs h_holds h_frame h_led h_hbm h_wire h_sync h_plan h_ctx ?_
    | with_reducible refine haltRun_touch h_runs h_frame h_plan h_lakes ?_
    | with_reducible refine touch_ite (fun _ => ?_) (fun _ => ?_)

theorem runLate_touch {s : State} {f : PlanFrame} {u : UnitRef} {code : Nat} (h_runs : W.runs = true) (h_holds : W.holds = true) (h_frame : W.frame = true) (h_led : W.led = true) (h_tiles : W.tiles = true) (h_arrays : W.arrays = true) (h_ops : W.ops = true) (h_hbm : W.hbm = true) (h_tileMem : W.tileMem = true) (h_upd : W.upd = true) (h_sync : W.sync = true) (h_traffic : W.traffic = true) (h_ev : W.ev = true) (h_outbox : W.outbox = true) (hs : ChangesOnly W s₀ s) :
    ChangesOnly W s₀ (runLate s f u code) := by
  unfold runLate
  repeat' first
    | with_reducible assumption
    | fail_if_no_progress (with_reducible refine touch_mk ?_ ⟨rfl, rfl, fun _ => rfl, fun _ => rfl, off_of_on h_runs, fun _ => rfl, off_of_on h_frame, fun _ => rfl, fun _ => rfl, fun _ => rfl, fun _ => rfl, fun _ => rfl, fun _ => rfl, fun _ => rfl, fun _ => rfl, fun _ => rfl, fun _ => rfl, fun _ => rfl, fun _ => rfl, fun _ => rfl, fun _ => rfl, fun _ => rfl, fun _ => rfl, fun _ => rfl, fun _ => rfl, fun _ => rfl, fun _ => rfl, fun _ => rfl, fun _ => rfl, fun _ => rfl, fun _ => rfl, fun _ => rfl, fun _ => rfl⟩)
    | with_reducible refine addHold_touch h_holds ?_
    | with_reducible refine flood_touch h_sync ?_
    | with_reducible refine raise_touch h_traffic h_ev h_outbox ?_
    | with_reducible refine raiseOnce_touch h_traffic h_ev h_outbox ?_
    | with_reducible refine idleRecord_touch h_led ?_
    | with_reducible refine restartRun_touch h_runs h_tiles h_arrays h_ops h_hbm h_tileMem h_upd ?_
    | with_reducible refine touch_ite (fun _ => ?_) (fun _ => ?_)
    | split

theorem closeAtHold_touch {s : State} {p : PlanImage} {f : PlanFrame} (h_runs : W.runs = true) (h_frame : W.frame = true) (h_led : W.led = true) (h_arrays : W.arrays = true) (h_hbm : W.hbm = true) (h_upd : W.upd = true) (h_num : W.num = true) (h_wire : W.wire = true) (h_sync : W.sync = true) (h_plan : W.plan = true) (h_lakes : W.lakes = true) (h_traffic : W.traffic = true) (h_ctx : W.ctx = true) (h_ev : W.ev = true) (h_hl : W.hl = true) (h_outbox : W.outbox = true) (h_mail : W.mail = true) (h_settings : W.settings = true) (hs : ChangesOnly W s₀ s) :
    ChangesOnly W s₀ (closeAtHold s p f) := by
  unfold closeAtHold
  repeat' first
    | with_reducible assumption
    | fail_if_no_progress (with_reducible refine touch_mk ?_ ⟨rfl, rfl, fun _ => rfl, fun _ => rfl, fun _ => rfl, fun _ => rfl, off_of_on h_frame, fun _ => rfl, fun _ => rfl, fun _ => rfl, fun _ => rfl, fun _ => rfl, fun _ => rfl, fun _ => rfl, fun _ => rfl, fun _ => rfl, fun _ => rfl, fun _ => rfl, fun _ => rfl, fun _ => rfl, fun _ => rfl, fun _ => rfl, fun _ => rfl, fun _ => rfl, fun _ => rfl, fun _ => rfl, fun _ => rfl, fun _ => rfl, fun _ => rfl, fun _ => rfl, fun _ => rfl, fun _ => rfl, fun _ => rfl⟩)
    | with_reducible refine idleRecord_touch h_led ?_
    | with_reducible refine takeL3_touch h_runs h_sync h_traffic h_ev h_outbox ?_
    | with_reducible refine nextFrame_touch h_runs h_frame h_arrays h_hbm h_upd h_num h_wire h_sync h_plan h_lakes h_traffic h_ctx h_ev h_hl h_outbox h_mail h_settings ?_
    | with_reducible refine closeFrame_touch h_runs h_traffic h_ev h_outbox ?_
    | with_reducible refine touch_ite (fun _ => ?_) (fun _ => ?_)

theorem closeDue_touch {s : State} {p : PlanImage} {f : PlanFrame} (h_runs : W.runs = true) (h_holds : W.holds = true) (h_frame : W.frame = true) (h_led : W.led = true) (h_tiles : W.tiles = true) (h_arrays : W.arrays = true) (h_ops : W.ops = true) (h_hbm : W.hbm = true) (h_tileMem : W.tileMem = true) (h_upd : W.upd = true) (h_num : W.num = true) (h_wire : W.wire = true) (h_sync : W.sync = true) (h_plan : W.plan = true) (h_lakes : W.lakes = true) (h_traffic : W.traffic = true) (h_ctx : W.ctx = true) (h_ev : W.ev = true) (h_hl : W.hl = true) (h_outbox : W.outbox = true) (h_mail : W.mail = true) (h_settings : W.settings = true) (hs : ChangesOnly W s₀ s) :
    ChangesOnly W s₀ (closeDue s p f) := by
  unfold closeDue
  repeat' first
    | with_reducible assumption
    | fail_if_no_progress (with_reducible refine touch_mk ?_ ⟨rfl, rfl, fun _ => rfl, fun _ => rfl, fun _ => rfl, fun _ => rfl, off_of_on h_frame, fun _ => rfl, fun _ => rfl, fun _ => rfl, fun _ => rfl, fun _ => rfl, fun _ => rfl, fun _ => rfl, fun _ => rfl, fun _ => rfl, fun _ => rfl, fun _ => rfl, fun _ => rfl, fun _ => rfl, fun _ => rfl, fun _ => rfl, fun _ => rfl, fun _ => rfl, fun _ => rfl, fun _ => rfl, fun _ => rfl, fun _ => rfl, fun _ => rfl, fun _ => rfl, fun _ => rfl, fun _ => rfl, fun _ => rfl⟩)
    | with_reducible refine prefetchEvent_touch h_traffic h_ev h_outbox ?_
    | with_reducible refine stepCommit_touch h_runs h_frame h_upd h_num h_sync h_plan h_traffic h_ev h_outbox ?_
    | with_reducible refine stopAtTick_touch h_runs h_frame h_tiles h_arrays h_ops h_hbm h_tileMem h_upd h_plan h_lakes h_traffic h_ev h_outbox ?_
    | with_reducible refine runLate_touch h_runs h_holds h_frame h_led h_tiles h_arrays h_ops h_hbm h_tileMem h_upd h_sync h_traffic h_ev h_outbox ?_
    | with_reducible refine closeFrame_touch h_runs h_traffic h_ev h_outbox ?_
    | with_reducible refine nextFrame_touch h_runs h_frame h_arrays h_hbm h_upd h_num h_wire h_sync h_plan h_lakes h_traffic h_ctx h_ev h_hl h_outbox h_mail h_settings ?_
    | with_reducible refine touch_ite (fun _ => ?_) (fun _ => ?_)
    | split

theorem waitTick_touch {s : State} {p : PlanImage} {hold : Bool} (h_runs : W.runs = true) (h_holds : W.holds = true) (h_frame : W.frame = true) (h_led : W.led = true) (h_tiles : W.tiles = true) (h_arrays : W.arrays = true) (h_ops : W.ops = true) (h_hbm : W.hbm = true) (h_tileMem : W.tileMem = true) (h_upd : W.upd = true) (h_num : W.num = true) (h_wire : W.wire = true) (h_sync : W.sync = true) (h_plan : W.plan = true) (h_lakes : W.lakes = true) (h_traffic : W.traffic = true) (h_ctx : W.ctx = true) (h_ev : W.ev = true) (h_hl : W.hl = true) (h_outbox : W.outbox = true) (h_mail : W.mail = true) (h_settings : W.settings = true) (hs : ChangesOnly W s₀ s) :
    ChangesOnly W s₀ (waitTick s p hold) := by
  unfold waitTick
  repeat' first
    | with_reducible assumption
    | with_reducible refine idleRecord_touch h_led ?_
    | with_reducible refine stepCommit_touch h_runs h_frame h_upd h_num h_sync h_plan h_traffic h_ev h_outbox ?_
    | with_reducible refine stopAtTick_touch h_runs h_frame h_tiles h_arrays h_ops h_hbm h_tileMem h_upd h_plan h_lakes h_traffic h_ev h_outbox ?_
    | with_reducible refine nextFrame_touch h_runs h_frame h_arrays h_hbm h_upd h_num h_wire h_sync h_plan h_lakes h_traffic h_ctx h_ev h_hl h_outbox h_mail h_settings ?_
    | with_reducible refine endPlan_touch h_runs h_holds h_frame h_led h_arrays h_hbm h_wire h_sync h_plan h_lakes h_traffic h_ctx h_ev h_hl h_outbox h_mail h_settings ?_
    | with_reducible refine touch_ite (fun _ => ?_) (fun _ => ?_)

theorem deadlineTick_touch {s : State} {p : PlanImage} (h_holds : W.holds = true) (h_sync : W.sync = true) (h_plan : W.plan = true) (h_traffic : W.traffic = true) (h_ev : W.ev = true) (h_outbox : W.outbox = true) (hs : ChangesOnly W s₀ s) :
    ChangesOnly W s₀ (deadlineTick s p) := by
  unfold deadlineTick
  repeat' first
    | with_reducible assumption
    | fail_if_no_progress (with_reducible refine touch_mk ?_ ⟨rfl, rfl, fun _ => rfl, fun _ => rfl, fun _ => rfl, fun _ => rfl, fun _ => rfl, fun _ => rfl, fun _ => rfl, fun _ => rfl, fun _ => rfl, fun _ => rfl, fun _ => rfl, fun _ => rfl, fun _ => rfl, fun _ => rfl, fun _ => rfl, fun _ => rfl, fun _ => rfl, off_of_on h_plan, fun _ => rfl, fun _ => rfl, fun _ => rfl, fun _ => rfl, fun _ => rfl, fun _ => rfl, fun _ => rfl, fun _ => rfl, fun _ => rfl, fun _ => rfl, fun _ => rfl, fun _ => rfl, fun _ => rfl⟩)
    | with_reducible refine raise_touch h_traffic h_ev h_outbox ?_
    | with_reducible refine assertHold_touch h_holds h_sync ?_
    | with_reducible refine touch_ite (fun _ => ?_) (fun _ => ?_)
    | split

theorem planTick_touch {s : State} (h_runs : W.runs = true) (h_holds : W.holds = true) (h_frame : W.frame = true) (h_led : W.led = true) (h_tiles : W.tiles = true) (h_arrays : W.arrays = true) (h_ops : W.ops = true) (h_hbm : W.hbm = true) (h_tileMem : W.tileMem = true) (h_upd : W.upd = true) (h_num : W.num = true) (h_wire : W.wire = true) (h_sync : W.sync = true) (h_plan : W.plan = true) (h_lakes : W.lakes = true) (h_traffic : W.traffic = true) (h_ctx : W.ctx = true) (h_ev : W.ev = true) (h_hl : W.hl = true) (h_outbox : W.outbox = true) (h_mail : W.mail = true) (h_settings : W.settings = true) (hs : ChangesOnly W s₀ s) :
    ChangesOnly W s₀ (planTick s) := by
  unfold planTick
  repeat' first
    | with_reducible assumption
    | fail_if_no_progress (with_reducible refine touch_mk ?_ ⟨rfl, rfl, fun _ => rfl, fun _ => rfl, fun _ => rfl, fun _ => rfl, off_of_on h_frame, fun _ => rfl, fun _ => rfl, fun _ => rfl, fun _ => rfl, fun _ => rfl, fun _ => rfl, fun _ => rfl, fun _ => rfl, fun _ => rfl, fun _ => rfl, fun _ => rfl, fun _ => rfl, fun _ => rfl, fun _ => rfl, fun _ => rfl, fun _ => rfl, fun _ => rfl, fun _ => rfl, fun _ => rfl, fun _ => rfl, fun _ => rfl, fun _ => rfl, fun _ => rfl, fun _ => rfl, fun _ => rfl, fun _ => rfl⟩)
    | with_reducible refine idleRecord_touch h_led ?_
    | with_reducible refine passHold_touch h_holds h_frame ?_
    | with_reducible refine waitTick_touch h_runs h_holds h_frame h_led h_tiles h_arrays h_ops h_hbm h_tileMem h_upd h_num h_wire h_sync h_plan h_lakes h_traffic h_ctx h_ev h_hl h_outbox h_mail h_settings ?_
    | with_reducible refine closeAtHold_touch h_runs h_frame h_led h_arrays h_hbm h_upd h_num h_wire h_sync h_plan h_lakes h_traffic h_ctx h_ev h_hl h_outbox h_mail h_settings ?_
    | with_reducible refine closeDue_touch h_runs h_holds h_frame h_led h_tiles h_arrays h_ops h_hbm h_tileMem h_upd h_num h_wire h_sync h_plan h_lakes h_traffic h_ctx h_ev h_hl h_outbox h_mail h_settings ?_
    | with_reducible refine deadlineTick_touch h_holds h_sync h_plan h_traffic h_ev h_outbox ?_
    | with_reducible refine touch_ite (fun _ => ?_) (fun _ => ?_)
    | split

theorem takeGradients_touch {s : State} (h_runs : W.runs = true) (h_upd : W.upd = true) (hs : ChangesOnly W s₀ s) :
    ChangesOnly W s₀ (takeGradients s) := by
  unfold takeGradients
  repeat' first
    | with_reducible assumption
    | fail_if_no_progress (with_reducible refine touch_mk ?_ ⟨rfl, rfl, fun _ => rfl, fun _ => rfl, off_of_on h_runs, fun _ => rfl, fun _ => rfl, fun _ => rfl, fun _ => rfl, fun _ => rfl, fun _ => rfl, fun _ => rfl, fun _ => rfl, fun _ => rfl, fun _ => rfl, off_of_on h_upd, fun _ => rfl, fun _ => rfl, fun _ => rfl, fun _ => rfl, fun _ => rfl, fun _ => rfl, fun _ => rfl, fun _ => rfl, fun _ => rfl, fun _ => rfl, fun _ => rfl, fun _ => rfl, fun _ => rfl, fun _ => rfl, fun _ => rfl, fun _ => rfl, fun _ => rfl⟩)

theorem logSwitches_touch {s : State} (h_hbm : W.hbm = true) (h_plan : W.plan = true) (h_traffic : W.traffic = true) (hs : ChangesOnly W s₀ s) : ChangesOnly W s₀ (logSwitches s) := by
  have key : ∀ (u : State) (n : Nat), ChangesOnly W s₀ u → ChangesOnly W s₀ { u with plan.logOffset := n } := fun u n h =>
    touch_mk h ⟨rfl, rfl, fun _ => rfl, fun _ => rfl, fun _ => rfl, fun _ => rfl, fun _ => rfl, fun _ => rfl, fun _ => rfl, fun _ => rfl, fun _ => rfl, fun _ => rfl, fun _ => rfl, fun _ => rfl, fun _ => rfl, fun _ => rfl, fun _ => rfl, fun _ => rfl, fun _ => rfl, off_of_on h_plan, fun _ => rfl, fun _ => rfl, fun _ => rfl, fun _ => rfl, fun _ => rfl, fun _ => rfl, fun _ => rfl, fun _ => rfl, fun _ => rfl, fun _ => rfl, fun _ => rfl, fun _ => rfl, fun _ => rfl⟩
  have done : ∀ (u : State), ChangesOnly W s₀ u → ChangesOnly W s₀ { u with plan.logPending := [] } := fun u h => touch_mk h ⟨rfl, rfl, fun _ => rfl, fun _ => rfl, fun _ => rfl, fun _ => rfl, fun _ => rfl, fun _ => rfl, fun _ => rfl, fun _ => rfl, fun _ => rfl, fun _ => rfl, fun _ => rfl, fun _ => rfl, fun _ => rfl, fun _ => rfl, fun _ => rfl, fun _ => rfl, fun _ => rfl, off_of_on h_plan, fun _ => rfl, fun _ => rfl, fun _ => rfl, fun _ => rfl, fun _ => rfl, fun _ => rfl, fun _ => rfl, fun _ => rfl, fun _ => rfl, fun _ => rfl, fun _ => rfl, fun _ => rfl, fun _ => rfl⟩
  unfold logSwitches
  split
  · exact done _ hs
  · exact done _ (touch_foldl hs (fun s x h => touch_ite (fun _ => key _ _ (writeHbm_touch h_hbm h_traffic h)) (fun _ => h)))

theorem failUnsettled_touch {s : State} {gen : Nat} {q : Suspect} (h_runs : W.runs = true) (h_traffic : W.traffic = true) (h_ev : W.ev = true) (h_outbox : W.outbox = true) (hs : ChangesOnly W s₀ s) :
    ChangesOnly W s₀ (failUnsettled s gen q) := by
  unfold failUnsettled
  repeat' first
    | with_reducible assumption
    | with_reducible refine noteLevel_touch h_runs ?_
    | with_reducible refine raise_touch h_traffic h_ev h_outbox ?_
    | with_reducible refine modGen_touch h_runs ?_

theorem secondFailure_touch {s : State} {u : UnitRef} (h_runs : W.runs = true) (h_arrays : W.arrays = true) (h_sync : W.sync = true) (h_traffic : W.traffic = true) (h_ev : W.ev = true) (h_outbox : W.outbox = true) (hs : ChangesOnly W s₀ s) :
    ChangesOnly W s₀ (secondFailure s u) := by
  unfold secondFailure
  repeat' first
    | with_reducible assumption
    | with_reducible refine raise_touch h_traffic h_ev h_outbox ?_
    | with_reducible refine quarantineArray_touch h_arrays ?_
    | with_reducible refine takeL3_touch h_runs h_sync h_traffic h_ev h_outbox ?_
    | with_reducible refine touch_ite (fun _ => ?_) (fun _ => ?_)

theorem failClosed_touch {s : State} {f : PlanFrame} {pendingBy : Table Nat} (h_runs : W.runs = true) (h_holds : W.holds = true) (h_frame : W.frame = true) (h_led : W.led = true) (h_tiles : W.tiles = true) (h_arrays : W.arrays = true) (h_ops : W.ops = true) (h_hbm : W.hbm = true) (h_tileMem : W.tileMem = true) (h_upd : W.upd = true) (h_sync : W.sync = true) (h_traffic : W.traffic = true) (h_ev : W.ev = true) (h_outbox : W.outbox = true) (hs : ChangesOnly W s₀ s) :
    ChangesOnly W s₀ (failClosed s f pendingBy) := by
  unfold failClosed
  repeat' first
    | with_reducible assumption
    | fail_if_no_progress (with_reducible refine touch_mk ?_ ⟨rfl, rfl, fun _ => rfl, fun _ => rfl, off_of_on h_runs, fun _ => rfl, off_of_on h_frame, off_of_on h_led, fun _ => rfl, fun _ => rfl, fun _ => rfl, fun _ => rfl, fun _ => rfl, fun _ => rfl, fun _ => rfl, fun _ => rfl, fun _ => rfl, fun _ => rfl, fun _ => rfl, fun _ => rfl, fun _ => rfl, fun _ => rfl, fun _ => rfl, fun _ => rfl, fun _ => rfl, fun _ => rfl, fun _ => rfl, fun _ => rfl, fun _ => rfl, fun _ => rfl, fun _ => rfl, fun _ => rfl, fun _ => rfl⟩)
    | with_reducible refine discardAll_touch h_runs h_tiles h_arrays h_ops h_hbm h_tileMem h_upd ?_
    | with_reducible refine takeL3_touch h_runs h_sync h_traffic h_ev h_outbox ?_
    | with_reducible refine assertHold_touch h_holds h_sync ?_
    | with_reducible refine raise_touch h_traffic h_ev h_outbox ?_
    | with_reducible refine secondFailure_touch h_runs h_arrays h_sync h_traffic h_ev h_outbox ?_
    | with_reducible refine discardGen_touch h_tiles h_arrays h_ops h_hbm h_tileMem h_upd ?_
    | with_reducible refine restartRun_touch h_runs h_tiles h_arrays h_ops h_hbm h_tileMem h_upd ?_
    | with_reducible refine touch_ite (fun _ => ?_) (fun _ => ?_)
    | split

theorem finishUpdate_touch {s : State} {p : PlanImage} (h_hbm : W.hbm = true) (h_upd : W.upd = true) (h_sync : W.sync = true) (h_traffic : W.traffic = true) (hs : ChangesOnly W s₀ s) :
    ChangesOnly W s₀ (finishUpdate s p) := by
  unfold finishUpdate
  repeat' first
    | with_reducible assumption
    | fail_if_no_progress (with_reducible refine touch_mk ?_ ⟨rfl, rfl, fun _ => rfl, fun _ => rfl, fun _ => rfl, fun _ => rfl, fun _ => rfl, fun _ => rfl, fun _ => rfl, fun _ => rfl, fun _ => rfl, fun _ => rfl, fun _ => rfl, fun _ => rfl, fun _ => rfl, off_of_on h_upd, fun _ => rfl, fun _ => rfl, fun _ => rfl, fun _ => rfl, fun _ => rfl, fun _ => rfl, fun _ => rfl, fun _ => rfl, fun _ => rfl, fun _ => rfl, fun _ => rfl, fun _ => rfl, fun _ => rfl, fun _ => rfl, fun _ => rfl, fun _ => rfl, fun _ => rfl⟩)
    | with_reducible refine writeHbm_touch h_hbm h_traffic ?_
    | with_reducible refine flood_touch h_sync ?_
    | with_reducible refine noteDone_touch h_upd ?_

theorem commitClosed_touch {s : State} {p : PlanImage} {f : PlanFrame} (h_runs : W.runs = true) (h_frame : W.frame = true) (h_led : W.led = true) (h_tiles : W.tiles = true) (h_arrays : W.arrays = true) (h_ops : W.ops = true) (h_hbm : W.hbm = true) (h_tileMem : W.tileMem = true) (h_upd : W.upd = true) (h_num : W.num = true) (h_sync : W.sync = true) (h_traffic : W.traffic = true) (h_ev : W.ev = true) (h_outbox : W.outbox = true) (hs : ChangesOnly W s₀ s) :
    ChangesOnly W s₀ (commitClosed s p f) := by
  unfold commitClosed
  repeat' first
    | with_reducible assumption
    | fail_if_no_progress (with_reducible refine touch_mk ?_ ⟨rfl, rfl, fun _ => rfl, fun _ => rfl, off_of_on h_runs, fun _ => rfl, off_of_on h_frame, off_of_on h_led, off_of_on h_tiles, fun _ => rfl, fun _ => rfl, fun _ => rfl, fun _ => rfl, fun _ => rfl, fun _ => rfl, fun _ => rfl, fun _ => rfl, fun _ => rfl, fun _ => rfl, fun _ => rfl, fun _ => rfl, fun _ => rfl, fun _ => rfl, fun _ => rfl, fun _ => rfl, fun _ => rfl, fun _ => rfl, fun _ => rfl, fun _ => rfl, fun _ => rfl, fun _ => rfl, fun _ => rfl, fun _ => rfl⟩)
    | with_reducible refine dropGen_touch h_hbm h_tileMem ?_
    | with_reducible refine commitDrift_touch h_arrays h_traffic h_ev h_outbox ?_
    | with_reducible refine dropWork_touch h_tiles h_arrays h_ops h_upd ?_
    | with_reducible refine commitNumerics_touch h_num h_traffic h_ev h_outbox ?_
    | with_reducible refine finishUpdate_touch h_hbm h_upd h_sync h_traffic ?_
    | with_reducible refine touch_foldl ?_ (fun _ _ _ => ?_)
    | with_reducible refine touch_ite (fun _ => ?_) (fun _ => ?_)

theorem judgeClosed_touch {s : State} {p : PlanImage} {f : PlanFrame} (h_runs : W.runs = true) (h_holds : W.holds = true) (h_frame : W.frame = true) (h_led : W.led = true) (h_tiles : W.tiles = true) (h_arrays : W.arrays = true) (h_ops : W.ops = true) (h_hbm : W.hbm = true) (h_tileMem : W.tileMem = true) (h_upd : W.upd = true) (h_num : W.num = true) (h_sync : W.sync = true) (h_traffic : W.traffic = true) (h_ev : W.ev = true) (h_outbox : W.outbox = true) (hs : ChangesOnly W s₀ s) :
    ChangesOnly W s₀ (judgeClosed s p f) := by
  unfold judgeClosed
  repeat' first
    | with_reducible assumption
    | with_reducible refine failUnsettled_touch h_runs h_traffic h_ev h_outbox ?_
    | with_reducible refine commitClosed_touch h_runs h_frame h_led h_tiles h_arrays h_ops h_hbm h_tileMem h_upd h_num h_sync h_traffic h_ev h_outbox ?_
    | with_reducible refine failClosed_touch h_runs h_holds h_frame h_led h_tiles h_arrays h_ops h_hbm h_tileMem h_upd h_sync h_traffic h_ev h_outbox ?_
    | with_reducible refine touch_foldl ?_ (fun _ _ _ => ?_)
    | with_reducible refine touch_ite (fun _ => ?_) (fun _ => ?_)
    | split
    | (dsimp only; split)

theorem abandonedPoint_touch {s : State} {p : PlanImage} (h_holds : W.holds = true) (h_hbm : W.hbm = true) (h_upd : W.upd = true) (h_sync : W.sync = true) (h_traffic : W.traffic = true) (hs : ChangesOnly W s₀ s) :
    ChangesOnly W s₀ (abandonedPoint s p) := by
  unfold abandonedPoint
  repeat' first
    | with_reducible assumption
    | with_reducible refine finishUpdate_touch h_hbm h_upd h_sync h_traffic ?_
    | with_reducible refine assertHold_touch h_holds h_sync ?_
    | with_reducible refine touch_ite (fun _ => ?_) (fun _ => ?_)

theorem sendC0_touch {s : State} {dest : Nat} {k : C0Kind} {bytes : List Byte} (h_wire : W.wire = true) (hs : ChangesOnly W s₀ s) :
    ChangesOnly W s₀ (sendC0 s dest k bytes) := by
  unfold sendC0
  repeat' first
    | with_reducible assumption
    | fail_if_no_progress (with_reducible refine touch_mk ?_ ⟨rfl, rfl, fun _ => rfl, fun _ => rfl, fun _ => rfl, fun _ => rfl, fun _ => rfl, fun _ => rfl, fun _ => rfl, fun _ => rfl, fun _ => rfl, fun _ => rfl, fun _ => rfl, fun _ => rfl, fun _ => rfl, fun _ => rfl, fun _ => rfl, off_of_on h_wire, fun _ => rfl, fun _ => rfl, fun _ => rfl, fun _ => rfl, fun _ => rfl, fun _ => rfl, fun _ => rfl, fun _ => rfl, fun _ => rfl, fun _ => rfl, fun _ => rfl, fun _ => rfl, fun _ => rfl, fun _ => rfl, fun _ => rfl⟩)

theorem sendRecords_touch {s : State} (h_upd : W.upd = true) (h_num : W.num = true) (h_wire : W.wire = true) (hs : ChangesOnly W s₀ s) :
    ChangesOnly W s₀ (sendRecords s) := by
  unfold sendRecords
  repeat' first
    | with_reducible assumption
    | fail_if_no_progress (with_reducible refine touch_mk ?_ ⟨rfl, rfl, fun _ => rfl, fun _ => rfl, fun _ => rfl, fun _ => rfl, fun _ => rfl, fun _ => rfl, fun _ => rfl, fun _ => rfl, fun _ => rfl, fun _ => rfl, fun _ => rfl, fun _ => rfl, fun _ => rfl, off_of_on h_upd, off_of_on h_num, fun _ => rfl, fun _ => rfl, fun _ => rfl, fun _ => rfl, fun _ => rfl, fun _ => rfl, fun _ => rfl, fun _ => rfl, fun _ => rfl, fun _ => rfl, fun _ => rfl, fun _ => rfl, fun _ => rfl, fun _ => rfl, fun _ => rfl, fun _ => rfl⟩)
    | with_reducible refine sendC0_touch h_wire ?_
    | with_reducible refine touch_foldl ?_ (fun _ _ _ => ?_)
    | with_reducible refine touch_ite (fun _ => ?_) (fun _ => ?_)
    | split

theorem rewritePage_touch {s : State} (h_frame : W.frame = true) (hs : ChangesOnly W s₀ s) :
    ChangesOnly W s₀ (rewritePage s) := by
  unfold rewritePage
  repeat' first
    | with_reducible assumption
    | fail_if_no_progress (with_reducible refine touch_mk ?_ ⟨rfl, rfl, fun _ => rfl, fun _ => rfl, fun _ => rfl, fun _ => rfl, off_of_on h_frame, fun _ => rfl, fun _ => rfl, fun _ => rfl, fun _ => rfl, fun _ => rfl, fun _ => rfl, fun _ => rfl, fun _ => rfl, fun _ => rfl, fun _ => rfl, fun _ => rfl, fun _ => rfl, fun _ => rfl, fun _ => rfl, fun _ => rfl, fun _ => rfl, fun _ => rfl, fun _ => rfl, fun _ => rfl, fun _ => rfl, fun _ => rfl, fun _ => rfl, fun _ => rfl, fun _ => rfl, fun _ => rfl, fun _ => rfl⟩)

theorem execPlanStart_touch {s : State} (h_runs : W.runs = true) (h_frame : W.frame = true) (h_arrays : W.arrays = true) (h_hbm : W.hbm = true) (h_upd : W.upd = true) (h_num : W.num = true) (h_wire : W.wire = true) (h_sync : W.sync = true) (h_plan : W.plan = true) (h_lakes : W.lakes = true) (h_traffic : W.traffic = true) (h_ctx : W.ctx = true) (h_ev : W.ev = true) (h_outbox : W.outbox = true) (h_mail : W.mail = true) (h_settings : W.settings = true) (hs : ChangesOnly W s₀ s) :
    TouchR W s₀ (execPlanStart s) := by
  unfold execPlanStart
  repeat' first
    | with_reducible assumption
    | with_reducible refine touchR_next ?_
    | with_reducible refine rewritePage_touch h_frame ?_
    | with_reducible refine startPlan_touch h_runs h_frame h_arrays h_hbm h_upd h_num h_wire h_sync h_plan h_lakes h_traffic h_ctx h_ev h_outbox h_mail h_settings ?_
    | with_reducible refine touch_ite (fun _ => ?_) (fun _ => ?_)
    | split

theorem commitPoint_touch {s : State} (h_cycle : W.cycle = true) (h_runs : W.runs = true) (h_holds : W.holds = true) (h_frame : W.frame = true) (h_led : W.led = true) (h_tiles : W.tiles = true) (h_arrays : W.arrays = true) (h_ops : W.ops = true) (h_hbm : W.hbm = true) (h_tileMem : W.tileMem = true) (h_upd : W.upd = true) (h_num : W.num = true) (h_wire : W.wire = true) (h_sync : W.sync = true) (h_plan : W.plan = true) (h_traffic : W.traffic = true) (h_ctx : W.ctx = true) (h_ev : W.ev = true) (h_outbox : W.outbox = true) (hs : ChangesOnly W s₀ s) :
    ChangesOnly W s₀ (commitPoint s) := by
  unfold commitPoint
  repeat' first
    | with_reducible assumption
    | fail_if_no_progress (with_reducible refine touch_mk ?_ ⟨rfl, rfl, fun _ => rfl, off_of_on h_cycle, fun _ => rfl, fun _ => rfl, fun _ => rfl, fun _ => rfl, fun _ => rfl, fun _ => rfl, fun _ => rfl, fun _ => rfl, fun _ => rfl, fun _ => rfl, fun _ => rfl, fun _ => rfl, fun _ => rfl, fun _ => rfl, fun _ => rfl, fun _ => rfl, fun _ => rfl, fun _ => rfl, fun _ => rfl, fun _ => rfl, fun _ => rfl, fun _ => rfl, fun _ => rfl, fun _ => rfl, fun _ => rfl, fun _ => rfl, fun _ => rfl, fun _ => rfl, fun _ => rfl⟩)
    | with_reducible refine logSwitches_touch h_hbm h_plan h_traffic ?_
    | with_reducible refine takeGradients_touch h_runs h_upd ?_
    | with_reducible refine rewritePage_touch h_frame ?_
    | with_reducible refine judgeClosed_touch h_runs h_holds h_frame h_led h_tiles h_arrays h_ops h_hbm h_tileMem h_upd h_num h_sync h_traffic h_ev h_outbox ?_
    | with_reducible refine sendRecords_touch h_upd h_num h_wire ?_
    | with_reducible refine abandonedPoint_touch h_holds h_hbm h_upd h_sync h_traffic ?_
    | with_reducible refine startStaged_touch h_runs h_holds h_frame h_led h_hbm h_wire h_sync h_plan h_ctx ?_
    | with_reducible refine touch_ite (fun _ => ?_) (fun _ => ?_)
    | split
    | (dsimp only; split)

theorem execCommitPoint_touch {s : State} (h_cycle : W.cycle = true) (h_runs : W.runs = true) (h_holds : W.holds = true) (h_frame : W.frame = true) (h_led : W.led = true) (h_tiles : W.tiles = true) (h_arrays : W.arrays = true) (h_ops : W.ops = true) (h_hbm : W.hbm = true) (h_tileMem : W.tileMem = true) (h_upd : W.upd = true) (h_num : W.num = true) (h_wire : W.wire = true) (h_sync : W.sync = true) (h_plan : W.plan = true) (h_traffic : W.traffic = true) (h_ctx : W.ctx = true) (h_ev : W.ev = true) (h_outbox : W.outbox = true) (hs : ChangesOnly W s₀ s) :
    TouchR W s₀ (execCommitPoint s) := by
  unfold execCommitPoint
  repeat' first
    | with_reducible assumption
    | with_reducible refine touchR_next ?_
    | with_reducible refine commitPoint_touch h_cycle h_runs h_holds h_frame h_led h_tiles h_arrays h_ops h_hbm h_tileMem h_upd h_num h_wire h_sync h_plan h_traffic h_ctx h_ev h_outbox ?_

theorem writeRecord_touch {s : State} {p : PlanImage} {r : RecordData} {readBackOk : Bool} (h_runs : W.runs = true) (h_led : W.led = true) (h_hbm : W.hbm = true) (h_sync : W.sync = true) (h_traffic : W.traffic = true) (h_ev : W.ev = true) (h_hl : W.hl = true) (h_outbox : W.outbox = true) (hs : ChangesOnly W s₀ s) :
    ChangesOnly W s₀ (writeRecord s p r readBackOk) := by
  unfold writeRecord
  repeat' first
    | with_reducible assumption
    | fail_if_no_progress (with_reducible refine touch_mk ?_ ⟨rfl, rfl, fun _ => rfl, fun _ => rfl, fun _ => rfl, fun _ => rfl, fun _ => rfl, off_of_on h_led, fun _ => rfl, fun _ => rfl, fun _ => rfl, fun _ => rfl, fun _ => rfl, fun _ => rfl, fun _ => rfl, fun _ => rfl, fun _ => rfl, fun _ => rfl, fun _ => rfl, fun _ => rfl, fun _ => rfl, fun _ => rfl, fun _ => rfl, fun _ => rfl, fun _ => rfl, fun _ => rfl, fun _ => rfl, fun _ => rfl, fun _ => rfl, fun _ => rfl, fun _ => rfl, fun _ => rfl, fun _ => rfl⟩)
    | with_reducible refine writeHbm_touch h_hbm h_traffic ?_
    | with_reducible refine machineryError_touch h_runs h_sync h_traffic h_ev h_hl h_outbox ?_
    | with_reducible refine touch_ite (fun _ => ?_) (fun _ => ?_)
    | split

theorem execLedgerRecordWrite_touch {readBackOk : Bool} {cyc : Nat} {s : State} (h_cycle : W.cycle = true) (h_runs : W.runs = true) (h_led : W.led = true) (h_hbm : W.hbm = true) (h_sync : W.sync = true) (h_traffic : W.traffic = true) (h_ev : W.ev = true) (h_hl : W.hl = true) (h_outbox : W.outbox = true) (hs : ChangesOnly W s₀ s) :
    TouchR W s₀ (execLedgerRecordWrite readBackOk cyc s) := by
  unfold execLedgerRecordWrite
  repeat' first
    | with_reducible assumption
    | with_reducible refine touchR_next ?_
    | with_reducible refine atCycle_touch h_cycle ?_
    | with_reducible refine writeRecord_touch h_runs h_led h_hbm h_sync h_traffic h_ev h_hl h_outbox ?_
    | split

theorem execMirrorRecord_touch {record : BitVec 512} {s : State} (h_upd : W.upd = true) (hs : ChangesOnly W s₀ s) :
    TouchR W s₀ (execMirrorRecord record s) := by
  unfold execMirrorRecord
  repeat' first
    | with_reducible assumption
    | fail_if_no_progress (with_reducible refine touch_mk ?_ ⟨rfl, rfl, fun _ => rfl, fun _ => rfl, fun _ => rfl, fun _ => rfl, fun _ => rfl, fun _ => rfl, fun _ => rfl, fun _ => rfl, fun _ => rfl, fun _ => rfl, fun _ => rfl, fun _ => rfl, fun _ => rfl, off_of_on h_upd, fun _ => rfl, fun _ => rfl, fun _ => rfl, fun _ => rfl, fun _ => rfl, fun _ => rfl, fun _ => rfl, fun _ => rfl, fun _ => rfl, fun _ => rfl, fun _ => rfl, fun _ => rfl, fun _ => rfl, fun _ => rfl, fun _ => rfl, fun _ => rfl, fun _ => rfl⟩)
    | with_reducible refine touchR_next ?_

theorem execMirrorTally_touch {cyc : Nat} {s : State} (h_cycle : W.cycle = true) (h_upd : W.upd = true) (h_sync : W.sync = true) (h_traffic : W.traffic = true) (h_ev : W.ev = true) (h_outbox : W.outbox = true) (hs : ChangesOnly W s₀ s) :
    TouchR W s₀ (execMirrorTally cyc s) := by
  unfold execMirrorTally
  repeat' first
    | with_reducible assumption
    | fail_if_no_progress (with_reducible refine touch_mk ?_ ⟨rfl, rfl, fun _ => rfl, fun _ => rfl, fun _ => rfl, fun _ => rfl, fun _ => rfl, fun _ => rfl, fun _ => rfl, fun _ => rfl, fun _ => rfl, fun _ => rfl, fun _ => rfl, fun _ => rfl, fun _ => rfl, off_of_on h_upd, fun _ => rfl, fun _ => rfl, fun _ => rfl, fun _ => rfl, fun _ => rfl, fun _ => rfl, fun _ => rfl, fun _ => rfl, fun _ => rfl, fun _ => rfl, fun _ => rfl, fun _ => rfl, fun _ => rfl, fun _ => rfl, fun _ => rfl, fun _ => rfl, fun _ => rfl⟩)
    | with_reducible refine touchR_next ?_
    | with_reducible refine atCycle_touch h_cycle ?_
    | with_reducible refine floodExpel_touch h_sync ?_
    | with_reducible refine raise_touch h_traffic h_ev h_outbox ?_
    | with_reducible refine touch_foldl ?_ (fun _ _ _ => ?_)
    | with_reducible refine touch_ite (fun _ => ?_) (fun _ => ?_)
    | split
    | (dsimp only; split)

theorem issueOp_touch {s : State} {op : Nat} (h_runs : W.runs = true) (hs : ChangesOnly W s₀ s) :
    ChangesOnly W s₀ (issueOp s op) := by
  unfold issueOp
  repeat' first
    | with_reducible assumption
    | fail_if_no_progress (with_reducible refine touch_mk ?_ ⟨rfl, rfl, fun _ => rfl, fun _ => rfl, off_of_on h_runs, fun _ => rfl, fun _ => rfl, fun _ => rfl, fun _ => rfl, fun _ => rfl, fun _ => rfl, fun _ => rfl, fun _ => rfl, fun _ => rfl, fun _ => rfl, fun _ => rfl, fun _ => rfl, fun _ => rfl, fun _ => rfl, fun _ => rfl, fun _ => rfl, fun _ => rfl, fun _ => rfl, fun _ => rfl, fun _ => rfl, fun _ => rfl, fun _ => rfl, fun _ => rfl, fun _ => rfl, fun _ => rfl, fun _ => rfl, fun _ => rfl, fun _ => rfl⟩)

theorem execOperationIssue_touch {op : Fin 1048576} {cyc : Nat} {s : State} (h_cycle : W.cycle = true) (h_runs : W.runs = true) (hs : ChangesOnly W s₀ s) :
    TouchR W s₀ (execOperationIssue op cyc s) := by
  unfold execOperationIssue
  repeat' first
    | with_reducible assumption
    | with_reducible refine touchR_next ?_
    | with_reducible refine atCycle_touch h_cycle ?_
    | with_reducible refine issueOp_touch h_runs ?_
    | with_reducible refine touch_ite (fun _ => ?_) (fun _ => ?_)
    | split

theorem floodAbort_touch {s : State} {p : PlanImage} {reason : Nat} (h_sync : W.sync = true) (hs : ChangesOnly W s₀ s) :
    ChangesOnly W s₀ (floodAbort s p reason) := by
  unfold floodAbort
  repeat' first
    | with_reducible assumption
    | with_reducible refine relay_touch h_sync ?_

theorem refusePlan_touch {s : State} {p : PlanImage} {atBoundary : Bool} {f : PlanFault} (h_wire : W.wire = true) (h_sync : W.sync = true) (h_plan : W.plan = true) (h_traffic : W.traffic = true) (h_ev : W.ev = true) (h_outbox : W.outbox = true) (h_mail : W.mail = true) (hs : ChangesOnly W s₀ s) :
    ChangesOnly W s₀ (refusePlan s p atBoundary f) := by
  unfold refusePlan
  repeat' first
    | with_reducible assumption
    | with_reducible refine raise_touch h_traffic h_ev h_outbox ?_
    | with_reducible refine endLoad_touch h_wire h_plan h_traffic h_ev h_outbox h_mail ?_
    | with_reducible refine floodAbort_touch h_sync ?_
    | with_reducible refine touch_ite (fun _ => ?_) (fun _ => ?_)

theorem retireDue_touch {s : State} (h_arrays : W.arrays = true) (h_traffic : W.traffic = true) (h_ev : W.ev = true) (h_hl : W.hl = true) (h_outbox : W.outbox = true) (hs : ChangesOnly W s₀ s) :
    ChangesOnly W s₀ (retireDue s) := by
  unfold retireDue
  repeat' first
    | with_reducible assumption
    | with_reducible refine modArr_touch h_arrays ?_
    | with_reducible refine raise_touch h_traffic h_ev h_outbox ?_
    | with_reducible refine setUnitState_touch h_hl ?_
    | with_reducible refine touch_foldl ?_ (fun _ _ _ => ?_)
    | with_reducible refine touch_ite (fun _ => ?_) (fun _ => ?_)

theorem verifyLoad_touch {s : State} {p : PlanImage} {atBoundary : Bool} {host : Nat} {length : Nat} (h_runs : W.runs = true) (h_holds : W.holds = true) (h_frame : W.frame = true) (h_led : W.led = true) (h_arrays : W.arrays = true) (h_hbm : W.hbm = true) (h_wire : W.wire = true) (h_sync : W.sync = true) (h_plan : W.plan = true) (h_traffic : W.traffic = true) (h_ctx : W.ctx = true) (h_ev : W.ev = true) (h_hl : W.hl = true) (h_outbox : W.outbox = true) (h_mail : W.mail = true) (hs : ChangesOnly W s₀ s) :
    ChangesOnly W s₀ (verifyLoad s p atBoundary host length) := by
  unfold verifyLoad
  repeat' first
    | with_reducible assumption
    | fail_if_no_progress (with_reducible refine touch_mk ?_ ⟨rfl, rfl, fun _ => rfl, fun _ => rfl, fun _ => rfl, fun _ => rfl, fun _ => rfl, fun _ => rfl, fun _ => rfl, fun _ => rfl, fun _ => rfl, fun _ => rfl, fun _ => rfl, fun _ => rfl, fun _ => rfl, fun _ => rfl, fun _ => rfl, fun _ => rfl, fun _ => rfl, off_of_on h_plan, fun _ => rfl, fun _ => rfl, fun _ => rfl, fun _ => rfl, fun _ => rfl, fun _ => rfl, fun _ => rfl, fun _ => rfl, fun _ => rfl, fun _ => rfl, fun _ => rfl, fun _ => rfl, fun _ => rfl⟩)
    | with_reducible refine refusePlan_touch h_wire h_sync h_plan h_traffic h_ev h_outbox h_mail ?_
    | with_reducible refine raise_touch h_traffic h_ev h_outbox ?_
    | with_reducible refine retireDue_touch h_arrays h_traffic h_ev h_hl h_outbox ?_
    | with_reducible refine adoptPlan_touch h_runs h_holds h_frame h_led h_hbm h_wire h_sync h_plan h_ctx ?_
    | with_reducible refine touch_ite (fun _ => ?_) (fun _ => ?_)
    | split
    | (dsimp only; split)

theorem loadPlan_touch {s : State} {r : Req} {atBoundary : Bool} {host : Nat} {length : Nat} {p : PlanImage} (h_runs : W.runs = true) (h_holds : W.holds = true) (h_frame : W.frame = true) (h_led : W.led = true) (h_arrays : W.arrays = true) (h_hbm : W.hbm = true) (h_wire : W.wire = true) (h_sync : W.sync = true) (h_plan : W.plan = true) (h_traffic : W.traffic = true) (h_ctx : W.ctx = true) (h_ev : W.ev = true) (h_hl : W.hl = true) (h_outbox : W.outbox = true) (h_mail : W.mail = true) (hs : ChangesOnly W s₀ s) :
    ChangesOnly W s₀ (loadPlan s r atBoundary host length p) := by
  unfold loadPlan
  repeat' first
    | with_reducible assumption
    | fail_if_no_progress (with_reducible refine touch_mk ?_ ⟨rfl, rfl, fun _ => rfl, fun _ => rfl, fun _ => rfl, fun _ => rfl, fun _ => rfl, fun _ => rfl, fun _ => rfl, fun _ => rfl, fun _ => rfl, fun _ => rfl, fun _ => rfl, fun _ => rfl, fun _ => rfl, fun _ => rfl, fun _ => rfl, fun _ => rfl, fun _ => rfl, off_of_on h_plan, fun _ => rfl, fun _ => rfl, fun _ => rfl, fun _ => rfl, fun _ => rfl, fun _ => rfl, fun _ => rfl, fun _ => rfl, fun _ => rfl, fun _ => rfl, fun _ => rfl, fun _ => rfl, fun _ => rfl⟩)
    | with_reducible refine refuse_touch h_wire h_traffic h_outbox h_mail ?_
    | with_reducible refine accept_touch h_wire h_traffic h_outbox h_mail ?_
    | with_reducible refine verifyLoad_touch h_runs h_holds h_frame h_led h_arrays h_hbm h_wire h_sync h_plan h_traffic h_ctx h_ev h_hl h_outbox h_mail ?_
    | with_reducible refine touch_ite (fun _ => ?_) (fun _ => ?_)

theorem resumeLoad_touch {s : State} (h_runs : W.runs = true) (h_holds : W.holds = true) (h_frame : W.frame = true) (h_led : W.led = true) (h_arrays : W.arrays = true) (h_hbm : W.hbm = true) (h_wire : W.wire = true) (h_sync : W.sync = true) (h_plan : W.plan = true) (h_traffic : W.traffic = true) (h_ctx : W.ctx = true) (h_ev : W.ev = true) (h_hl : W.hl = true) (h_outbox : W.outbox = true) (h_mail : W.mail = true) (hs : ChangesOnly W s₀ s) :
    ChangesOnly W s₀ (resumeLoad s) := by
  unfold resumeLoad
  repeat' first
    | with_reducible assumption
    | fail_if_no_progress (with_reducible refine touch_mk ?_ ⟨rfl, rfl, fun _ => rfl, fun _ => rfl, fun _ => rfl, fun _ => rfl, fun _ => rfl, fun _ => rfl, fun _ => rfl, fun _ => rfl, fun _ => rfl, fun _ => rfl, fun _ => rfl, fun _ => rfl, fun _ => rfl, fun _ => rfl, fun _ => rfl, fun _ => rfl, fun _ => rfl, off_of_on h_plan, fun _ => rfl, fun _ => rfl, fun _ => rfl, fun _ => rfl, fun _ => rfl, fun _ => rfl, fun _ => rfl, fun _ => rfl, fun _ => rfl, fun _ => rfl, off_of_on h_mail, fun _ => rfl, fun _ => rfl⟩)
    | with_reducible refine verifyLoad_touch h_runs h_holds h_frame h_led h_arrays h_hbm h_wire h_sync h_plan h_traffic h_ctx h_ev h_hl h_outbox h_mail ?_
    | with_reducible refine touch_ite (fun _ => ?_) (fun _ => ?_)
    | split

theorem execPlanLoadNow_touch {r : Req} {host : DWord} {length : DWord} {image : PlanImage} {s : State} (h_runs : W.runs = true) (h_holds : W.holds = true) (h_frame : W.frame = true) (h_led : W.led = true) (h_arrays : W.arrays = true) (h_hbm : W.hbm = true) (h_wire : W.wire = true) (h_sync : W.sync = true) (h_plan : W.plan = true) (h_traffic : W.traffic = true) (h_ctx : W.ctx = true) (h_ev : W.ev = true) (h_hl : W.hl = true) (h_outbox : W.outbox = true) (h_mail : W.mail = true) (hs : ChangesOnly W s₀ s) :
    TouchR W s₀ (execPlanLoadNow r host length image s) := by
  unfold execPlanLoadNow
  repeat' first
    | with_reducible assumption
    | with_reducible refine touchR_next ?_
    | with_reducible refine serveC_touch h_wire h_traffic h_outbox h_mail ?_ (fun _ _ => ?_)
    | with_reducible refine loadPlan_touch h_runs h_holds h_frame h_led h_arrays h_hbm h_wire h_sync h_plan h_traffic h_ctx h_ev h_hl h_outbox h_mail ?_

theorem execPlanLoadAtBoundary_touch {r : Req} {host : DWord} {length : DWord} {image : PlanImage} {s : State} (h_runs : W.runs = true) (h_holds : W.holds = true) (h_frame : W.frame = true) (h_led : W.led = true) (h_arrays : W.arrays = true) (h_hbm : W.hbm = true) (h_wire : W.wire = true) (h_sync : W.sync = true) (h_plan : W.plan = true) (h_traffic : W.traffic = true) (h_ctx : W.ctx = true) (h_ev : W.ev = true) (h_hl : W.hl = true) (h_outbox : W.outbox = true) (h_mail : W.mail = true) (hs : ChangesOnly W s₀ s) :
    TouchR W s₀ (execPlanLoadAtBoundary r host length image s) := by
  unfold execPlanLoadAtBoundary
  repeat' first
    | with_reducible assumption
    | with_reducible refine touchR_next ?_
    | with_reducible refine serveC_touch h_wire h_traffic h_outbox h_mail ?_ (fun _ _ => ?_)
    | with_reducible refine loadPlan_touch h_runs h_holds h_frame h_led h_arrays h_hbm h_wire h_sync h_plan h_traffic h_ctx h_ev h_hl h_outbox h_mail ?_

theorem execPlanDiscard_touch {r : Req} {s : State} (h_wire : W.wire = true) (h_plan : W.plan = true) (h_traffic : W.traffic = true) (h_ev : W.ev = true) (h_outbox : W.outbox = true) (h_mail : W.mail = true) (hs : ChangesOnly W s₀ s) :
    TouchR W s₀ (execPlanDiscard r s) := by
  unfold execPlanDiscard
  repeat' first
    | with_reducible assumption
    | fail_if_no_progress (with_reducible refine touch_mk ?_ ⟨rfl, rfl, fun _ => rfl, fun _ => rfl, fun _ => rfl, fun _ => rfl, fun _ => rfl, fun _ => rfl, fun _ => rfl, fun _ => rfl, fun _ => rfl, fun _ => rfl, fun _ => rfl, fun _ => rfl, fun _ => rfl, fun _ => rfl, fun _ => rfl, fun _ => rfl, fun _ => rfl, off_of_on h_plan, fun _ => rfl, fun _ => rfl, fun _ => rfl, fun _ => rfl, fun _ => rfl, fun _ => rfl, fun _ => rfl, fun _ => rfl, fun _ => rfl, fun _ => rfl, fun _ => rfl, fun _ => rfl, fun _ => rfl⟩)
    | with_reducible refine touchR_next ?_
    | with_reducible refine serve_touch h_wire h_traffic h_outbox h_mail ?_ (fun _ _ => ?_)
    | with_reducible refine endLoad_touch h_wire h_plan h_traffic h_ev h_outbox h_mail ?_
    | with_reducible refine answer_touch h_wire h_traffic h_outbox h_mail ?_
    | split

theorem execPlanStatus_touch {r : Req} {s : State} (h_wire : W.wire = true) (h_traffic : W.traffic = true) (h_outbox : W.outbox = true) (h_mail : W.mail = true) (hs : ChangesOnly W s₀ s) :
    TouchR W s₀ (execPlanStatus r s) := by
  unfold execPlanStatus
  repeat' first
    | with_reducible assumption
    | with_reducible refine touchR_next ?_
    | with_reducible refine serve_touch h_wire h_traffic h_outbox h_mail ?_ (fun _ _ => ?_)
    | with_reducible refine answer_touch h_wire h_traffic h_outbox h_mail ?_

theorem execPlanLoadTimeout_touch {s : State} (h_wire : W.wire = true) (h_sync : W.sync = true) (h_plan : W.plan = true) (h_traffic : W.traffic = true) (h_ev : W.ev = true) (h_outbox : W.outbox = true) (h_mail : W.mail = true) (hs : ChangesOnly W s₀ s) :
    TouchR W s₀ (execPlanLoadTimeout s) := by
  unfold execPlanLoadTimeout
  repeat' first
    | with_reducible assumption
    | with_reducible refine touchR_next ?_
    | with_reducible refine abandonLoad_touch h_wire h_plan h_traffic h_ev h_outbox h_mail ?_
    | with_reducible refine floodAbort_touch h_sync ?_
    | with_reducible refine touch_ite (fun _ => ?_) (fun _ => ?_)
    | split

theorem setRowCells_touch {s : State} {k : Nat} {row : Nat} {ws : List Int} (h_cells : W.cells = true) (hs : ChangesOnly W s₀ s) :
    ChangesOnly W s₀ (setRowCells s k row ws) := by
  unfold setRowCells
  repeat' first
    | with_reducible assumption
    | with_reducible refine setLevel_touch h_cells ?_
    | with_reducible refine touch_foldl ?_ (fun _ _ _ => ?_)

theorem prepareRow_touch {s : State} {k : Nat} {row : Nat} (h_arrays : W.arrays = true) (h_cells : W.cells = true) (h_tileMem : W.tileMem = true) (hs : ChangesOnly W s₀ s) :
    ChangesOnly W s₀ (prepareRow s k row) := by
  unfold prepareRow
  repeat' first
    | with_reducible assumption
    | with_reducible refine setImageRow_touch h_tileMem ?_
    | with_reducible refine setRowCells_touch h_cells ?_
    | with_reducible refine setVectors_touch h_arrays ?_

theorem prepareArray_touch {s : State} {k : Nat} (h_free : W.free = true) (h_runs : W.runs = true) (h_arrays : W.arrays = true) (h_cells : W.cells = true) (h_tileMem : W.tileMem = true) (h_traffic : W.traffic = true) (h_ev : W.ev = true) (h_hl : W.hl = true) (h_outbox : W.outbox = true) (hs : ChangesOnly W s₀ s) :
    ChangesOnly W s₀ (prepareArray s k) := by
  unfold prepareArray
  repeat' first
    | with_reducible assumption
    | with_reducible refine prepareRow_touch h_arrays h_cells h_tileMem ?_
    | with_reducible refine modArr_touch h_arrays ?_
    | with_reducible refine calibrate_touch h_free h_runs h_arrays h_traffic h_ev h_hl h_outbox ?_
    | with_reducible refine touch_foldl ?_ (fun _ _ _ => ?_)
    | with_reducible refine touch_ite (fun _ => ?_) (fun _ => ?_)

theorem copyBanks_touch {s : State} {p : PlanImage} (h_hbm : W.hbm = true) (h_traffic : W.traffic = true) (hs : ChangesOnly W s₀ s) :
    ChangesOnly W s₀ (copyBanks s p) := by
  unfold copyBanks
  repeat' first
    | with_reducible assumption
    | with_reducible refine writeHbm_touch h_hbm h_traffic ?_
    | with_reducible refine touch_foldl ?_ (fun _ _ _ => ?_)
    | with_reducible refine touch_ite (fun _ => ?_) (fun _ => ?_)

theorem execPreparationComplete_touch {s : State} (h_free : W.free = true) (h_runs : W.runs = true) (h_frame : W.frame = true) (h_arrays : W.arrays = true) (h_cells : W.cells = true) (h_hbm : W.hbm = true) (h_tileMem : W.tileMem = true) (h_sync : W.sync = true) (h_plan : W.plan = true) (h_traffic : W.traffic = true) (h_ev : W.ev = true) (h_hl : W.hl = true) (h_outbox : W.outbox = true) (hs : ChangesOnly W s₀ s) :
    TouchR W s₀ (execPreparationComplete s) := by
  unfold execPreparationComplete
  repeat' first
    | with_reducible assumption
    | fail_if_no_progress (with_reducible refine touch_mk ?_ ⟨rfl, rfl, fun _ => rfl, fun _ => rfl, fun _ => rfl, fun _ => rfl, off_of_on h_frame, fun _ => rfl, fun _ => rfl, fun _ => rfl, fun _ => rfl, fun _ => rfl, fun _ => rfl, fun _ => rfl, fun _ => rfl, fun _ => rfl, fun _ => rfl, fun _ => rfl, fun _ => rfl, off_of_on h_plan, fun _ => rfl, fun _ => rfl, fun _ => rfl, fun _ => rfl, fun _ => rfl, fun _ => rfl, fun _ => rfl, fun _ => rfl, fun _ => rfl, fun _ => rfl, fun _ => rfl, fun _ => rfl, fun _ => rfl⟩)
    | with_reducible refine touchR_next ?_
    | with_reducible refine copyBanks_touch h_hbm h_traffic ?_
    | with_reducible refine prepareArray_touch h_free h_runs h_arrays h_cells h_tileMem h_traffic h_ev h_hl h_outbox ?_
    | with_reducible refine flood_touch h_sync ?_
    | with_reducible refine notePrepared_touch h_sync h_plan ?_
    | with_reducible refine touch_foldl ?_ (fun _ _ _ => ?_)
    | with_reducible refine touch_ite (fun _ => ?_) (fun _ => ?_)
    | split

end Sys2Proof.Machine
end

