-- ==== Sys2Proof/Laws/TouchHost.lean ====
section
/-!
SUPPORT. Sys2Proof/Laws/TouchHost.lean: which parts of the state the functions of power, the AOM, counters, health, boot, management and the tick
may change, one lemma each.
-/
namespace Sys2Proof.Machine
open Sys2Proof

variable {W : Parts} {s₀ : State}

theorem droopTile_touch {s : State} {t : Nat} (h_tiles : W.tiles = true) (h_pow : W.pow = true) (hs : ChangesOnly W s₀ s) :
    ChangesOnly W s₀ (droopTile s t) := by
  unfold droopTile
  repeat' first
    | with_reducible assumption
    | fail_if_no_progress (with_reducible refine touch_mk ?_ ⟨rfl, rfl, fun _ => rfl, fun _ => rfl, fun _ => rfl, fun _ => rfl, fun _ => rfl, fun _ => rfl, fun _ => rfl, fun _ => rfl, fun _ => rfl, fun _ => rfl, fun _ => rfl, fun _ => rfl, fun _ => rfl, fun _ => rfl, fun _ => rfl, fun _ => rfl, fun _ => rfl, fun _ => rfl, fun _ => rfl, off_of_on h_pow, fun _ => rfl, fun _ => rfl, fun _ => rfl, fun _ => rfl, fun _ => rfl, fun _ => rfl, fun _ => rfl, fun _ => rfl, fun _ => rfl, fun _ => rfl, fun _ => rfl⟩)
    | with_reducible refine modTile_touch h_tiles ?_

theorem execDroop_touch {tile : TileId} {s : State} (h_tiles : W.tiles = true) (h_pow : W.pow = true) (hs : ChangesOnly W s₀ s) :
    TouchR W s₀ (execDroop tile s) := by
  unfold execDroop
  repeat' first
    | with_reducible assumption
    | with_reducible refine touchR_next ?_
    | with_reducible refine droopTile_touch h_tiles h_pow ?_

theorem droopDown_touch {s : State} {t : Nat} (h_tiles : W.tiles = true) (hs : ChangesOnly W s₀ s) :
    ChangesOnly W s₀ (droopDown s t) := by
  unfold droopDown
  repeat' first
    | with_reducible assumption
    | with_reducible refine modTile_touch h_tiles ?_

theorem execDroopHoldExpiry_touch {tile : TileId} {s : State} (h_tiles : W.tiles = true) (hs : ChangesOnly W s₀ s) :
    TouchR W s₀ (execDroopHoldExpiry tile s) := by
  unfold execDroopHoldExpiry
  repeat' first
    | with_reducible assumption
    | with_reducible refine touchR_next ?_
    | with_reducible refine droopDown_touch h_tiles ?_
    | with_reducible refine touch_ite (fun _ => ?_) (fun _ => ?_)

theorem execDroopDecayStep_touch {tile : TileId} {s : State} (h_tiles : W.tiles = true) (hs : ChangesOnly W s₀ s) :
    TouchR W s₀ (execDroopDecayStep tile s) := by
  unfold execDroopDecayStep
  repeat' first
    | with_reducible assumption
    | with_reducible refine touchR_next ?_
    | with_reducible refine droopDown_touch h_tiles ?_
    | with_reducible refine touch_ite (fun _ => ?_) (fun _ => ?_)

theorem peakDie_touch {limit4 : Int} {s : State} {die : Nat} {power : Nat} (h_pow : W.pow = true) (hs : ChangesOnly W s₀ s) :
    ChangesOnly W s₀ (peakDie limit4 s die power) := by
  unfold peakDie
  repeat' first
    | with_reducible assumption
    | fail_if_no_progress (with_reducible refine touch_mk ?_ ⟨rfl, rfl, fun _ => rfl, fun _ => rfl, fun _ => rfl, fun _ => rfl, fun _ => rfl, fun _ => rfl, fun _ => rfl, fun _ => rfl, fun _ => rfl, fun _ => rfl, fun _ => rfl, fun _ => rfl, fun _ => rfl, fun _ => rfl, fun _ => rfl, fun _ => rfl, fun _ => rfl, fun _ => rfl, fun _ => rfl, off_of_on h_pow, fun _ => rfl, fun _ => rfl, fun _ => rfl, fun _ => rfl, fun _ => rfl, fun _ => rfl, fun _ => rfl, fun _ => rfl, fun _ => rfl, fun _ => rfl, fun _ => rfl⟩)
    | with_reducible refine touch_ite (fun _ => ?_) (fun _ => ?_)

theorem execPeakSample_touch {core0 : Nat} {core1 : Nat} {core2 : Nat} {core3 : Nat} {other : Nat} {s : State} (h_pow : W.pow = true) (h_traffic : W.traffic = true) (h_ev : W.ev = true) (h_outbox : W.outbox = true) (hs : ChangesOnly W s₀ s) :
    TouchR W s₀ (execPeakSample core0 core1 core2 core3 other s) := by
  unfold execPeakSample
  repeat' first
    | with_reducible assumption
    | fail_if_no_progress (with_reducible refine touch_mk ?_ ⟨rfl, rfl, fun _ => rfl, fun _ => rfl, fun _ => rfl, fun _ => rfl, fun _ => rfl, fun _ => rfl, fun _ => rfl, fun _ => rfl, fun _ => rfl, fun _ => rfl, fun _ => rfl, fun _ => rfl, fun _ => rfl, fun _ => rfl, fun _ => rfl, fun _ => rfl, fun _ => rfl, fun _ => rfl, fun _ => rfl, off_of_on h_pow, fun _ => rfl, fun _ => rfl, fun _ => rfl, fun _ => rfl, fun _ => rfl, fun _ => rfl, fun _ => rfl, fun _ => rfl, fun _ => rfl, fun _ => rfl, fun _ => rfl⟩)
    | with_reducible refine touchR_next ?_
    | with_reducible refine peakDie_touch h_pow ?_
    | with_reducible refine raiseOnce_touch h_traffic h_ev h_outbox ?_
    | with_reducible refine touch_foldl ?_ (fun _ _ _ => ?_)
    | with_reducible refine touch_ite (fun _ => ?_) (fun _ => ?_)

theorem addEnergy_touch {s : State} {energy : List (Nat × Nat)} (h_traffic : W.traffic = true) (hs : ChangesOnly W s₀ s) :
    ChangesOnly W s₀ (addEnergy s energy) := by
  unfold addEnergy
  repeat' first
    | with_reducible assumption
    | fail_if_no_progress (with_reducible refine touch_mk ?_ ⟨rfl, rfl, fun _ => rfl, fun _ => rfl, fun _ => rfl, fun _ => rfl, fun _ => rfl, fun _ => rfl, fun _ => rfl, fun _ => rfl, fun _ => rfl, fun _ => rfl, fun _ => rfl, fun _ => rfl, fun _ => rfl, fun _ => rfl, fun _ => rfl, fun _ => rfl, fun _ => rfl, fun _ => rfl, fun _ => rfl, fun _ => rfl, fun _ => rfl, off_of_on h_traffic, fun _ => rfl, fun _ => rfl, fun _ => rfl, fun _ => rfl, fun _ => rfl, fun _ => rfl, fun _ => rfl, fun _ => rfl, fun _ => rfl⟩)

theorem capTake_touch {s : State} {n : Nat} {phase : Nat} {energy : List (Nat × Nat)} (h_pow : W.pow = true) (hs : ChangesOnly W s₀ s) :
    ChangesOnly W s₀ (capTake s n phase energy) := by
  unfold capTake
  repeat' first
    | with_reducible assumption
    | fail_if_no_progress (with_reducible refine touch_mk ?_ ⟨rfl, rfl, fun _ => rfl, fun _ => rfl, fun _ => rfl, fun _ => rfl, fun _ => rfl, fun _ => rfl, fun _ => rfl, fun _ => rfl, fun _ => rfl, fun _ => rfl, fun _ => rfl, fun _ => rfl, fun _ => rfl, fun _ => rfl, fun _ => rfl, fun _ => rfl, fun _ => rfl, fun _ => rfl, fun _ => rfl, off_of_on h_pow, fun _ => rfl, fun _ => rfl, fun _ => rfl, fun _ => rfl, fun _ => rfl, fun _ => rfl, fun _ => rfl, fun _ => rfl, fun _ => rfl, fun _ => rfl, fun _ => rfl⟩)
    | with_reducible refine touch_foldl ?_ (fun _ _ _ => ?_)
    | with_reducible refine touch_ite (fun _ => ?_) (fun _ => ?_)

theorem switchPoint_touch {s : State} {d : Nat} {k : Nat} (h_pow : W.pow = true) (h_traffic : W.traffic = true) (h_ev : W.ev = true) (h_outbox : W.outbox = true) (hs : ChangesOnly W s₀ s) :
    ChangesOnly W s₀ (switchPoint s d k) := by
  unfold switchPoint
  repeat' first
    | with_reducible assumption
    | fail_if_no_progress (with_reducible refine touch_mk ?_ ⟨rfl, rfl, fun _ => rfl, fun _ => rfl, fun _ => rfl, fun _ => rfl, fun _ => rfl, fun _ => rfl, fun _ => rfl, fun _ => rfl, fun _ => rfl, fun _ => rfl, fun _ => rfl, fun _ => rfl, fun _ => rfl, fun _ => rfl, fun _ => rfl, fun _ => rfl, fun _ => rfl, fun _ => rfl, fun _ => rfl, off_of_on h_pow, fun _ => rfl, fun _ => rfl, fun _ => rfl, fun _ => rfl, fun _ => rfl, fun _ => rfl, fun _ => rfl, fun _ => rfl, fun _ => rfl, fun _ => rfl, fun _ => rfl⟩)
    | with_reducible refine raise_touch h_traffic h_ev h_outbox ?_

theorem finishRise_touch {s : State} {railOff : List DieId} {d : Nat} {target : Nat} (h_pow : W.pow = true) (h_traffic : W.traffic = true) (h_ev : W.ev = true) (h_outbox : W.outbox = true) (hs : ChangesOnly W s₀ s) :
    ChangesOnly W s₀ (finishRise s railOff d target) := by
  unfold finishRise
  repeat' first
    | with_reducible assumption
    | fail_if_no_progress (with_reducible refine touch_mk ?_ ⟨rfl, rfl, fun _ => rfl, fun _ => rfl, fun _ => rfl, fun _ => rfl, fun _ => rfl, fun _ => rfl, fun _ => rfl, fun _ => rfl, fun _ => rfl, fun _ => rfl, fun _ => rfl, fun _ => rfl, fun _ => rfl, fun _ => rfl, fun _ => rfl, fun _ => rfl, fun _ => rfl, fun _ => rfl, fun _ => rfl, off_of_on h_pow, fun _ => rfl, fun _ => rfl, fun _ => rfl, fun _ => rfl, fun _ => rfl, fun _ => rfl, fun _ => rfl, fun _ => rfl, fun _ => rfl, fun _ => rfl, fun _ => rfl⟩)
    | with_reducible refine raise_touch h_traffic h_ev h_outbox ?_
    | with_reducible refine switchPoint_touch h_pow h_traffic h_ev h_outbox ?_
    | with_reducible refine touch_ite (fun _ => ?_) (fun _ => ?_)

theorem dieTick_touch {s : State} {railOff : List DieId} {d : Nat} {target : Nat} (h_pow : W.pow = true) (h_traffic : W.traffic = true) (h_ev : W.ev = true) (h_outbox : W.outbox = true) (hs : ChangesOnly W s₀ s) :
    ChangesOnly W s₀ (dieTick s railOff d target) := by
  unfold dieTick
  repeat' first
    | with_reducible assumption
    | fail_if_no_progress (with_reducible refine touch_mk ?_ ⟨rfl, rfl, fun _ => rfl, fun _ => rfl, fun _ => rfl, fun _ => rfl, fun _ => rfl, fun _ => rfl, fun _ => rfl, fun _ => rfl, fun _ => rfl, fun _ => rfl, fun _ => rfl, fun _ => rfl, fun _ => rfl, fun _ => rfl, fun _ => rfl, fun _ => rfl, fun _ => rfl, fun _ => rfl, fun _ => rfl, off_of_on h_pow, fun _ => rfl, fun _ => rfl, fun _ => rfl, fun _ => rfl, fun _ => rfl, fun _ => rfl, fun _ => rfl, fun _ => rfl, fun _ => rfl, fun _ => rfl, fun _ => rfl⟩)
    | with_reducible refine finishRise_touch h_pow h_traffic h_ev h_outbox ?_
    | with_reducible refine raise_touch h_traffic h_ev h_outbox ?_
    | with_reducible refine switchPoint_touch h_pow h_traffic h_ev h_outbox ?_
    | with_reducible refine touch_ite (fun _ => ?_) (fun _ => ?_)

theorem thermalTile_touch {throttle : Int} {s : State} {t : Nat} (h_tiles : W.tiles = true) (h_pow : W.pow = true) (h_traffic : W.traffic = true) (h_ev : W.ev = true) (h_outbox : W.outbox = true) (hs : ChangesOnly W s₀ s) :
    ChangesOnly W s₀ (thermalTile throttle s t) := by
  unfold thermalTile
  repeat' first
    | with_reducible assumption
    | with_reducible refine throttle_touch h_pow ?_
    | with_reducible refine modTile_touch h_tiles ?_
    | with_reducible refine raiseOnce_touch h_traffic h_ev h_outbox ?_
    | with_reducible refine touch_ite (fun _ => ?_) (fun _ => ?_)

theorem droopReport_touch {s : State} (h_traffic : W.traffic = true) (h_ev : W.ev = true) (h_outbox : W.outbox = true) (hs : ChangesOnly W s₀ s) (die : Nat) :
    ChangesOnly W s₀ (droopReport s die) := by
  unfold droopReport
  dsimp only
  split
  · exact raise_touch h_traffic h_ev h_outbox hs
  · exact hs

theorem droopTick_touch {s : State} (h_tiles : W.tiles = true) (h_pow : W.pow = true) (h_traffic : W.traffic = true) (h_ev : W.ev = true) (h_outbox : W.outbox = true) (hs : ChangesOnly W s₀ s) :
    ChangesOnly W s₀ (droopTick s) := by
  unfold droopTick
  repeat' first
    | with_reducible assumption
    | fail_if_no_progress (with_reducible refine touch_mk ?_ ⟨rfl, rfl, fun _ => rfl, fun _ => rfl, fun _ => rfl, fun _ => rfl, fun _ => rfl, fun _ => rfl, off_of_on h_tiles, fun _ => rfl, fun _ => rfl, fun _ => rfl, fun _ => rfl, fun _ => rfl, fun _ => rfl, fun _ => rfl, fun _ => rfl, fun _ => rfl, fun _ => rfl, fun _ => rfl, fun _ => rfl, off_of_on h_pow, fun _ => rfl, fun _ => rfl, fun _ => rfl, fun _ => rfl, fun _ => rfl, fun _ => rfl, fun _ => rfl, fun _ => rfl, fun _ => rfl, fun _ => rfl, fun _ => rfl⟩)
    | with_reducible refine droopReport_touch h_traffic h_ev h_outbox ?_ _
    | with_reducible refine touch_foldl ?_ (fun _ _ _ => ?_)
    | with_reducible refine touch_ite (fun _ => ?_) (fun _ => ?_)

theorem powerTick_touch {s : State} {n : Nat} {phase : Nat} {energy : List (Nat × Nat)} {railOff : List DieId} (h_frame : W.frame = true) (h_tiles : W.tiles = true) (h_pow : W.pow = true) (h_traffic : W.traffic = true) (h_ev : W.ev = true) (h_outbox : W.outbox = true) (hs : ChangesOnly W s₀ s) :
    ChangesOnly W s₀ (powerTick s n phase energy railOff) := by
  unfold powerTick
  repeat' first
    | with_reducible assumption
    | fail_if_no_progress (with_reducible refine touch_mk ?_ ⟨rfl, rfl, fun _ => rfl, fun _ => rfl, fun _ => rfl, fun _ => rfl, off_of_on h_frame, fun _ => rfl, fun _ => rfl, fun _ => rfl, fun _ => rfl, fun _ => rfl, fun _ => rfl, fun _ => rfl, fun _ => rfl, fun _ => rfl, fun _ => rfl, fun _ => rfl, fun _ => rfl, fun _ => rfl, fun _ => rfl, off_of_on h_pow, fun _ => rfl, fun _ => rfl, fun _ => rfl, fun _ => rfl, fun _ => rfl, fun _ => rfl, fun _ => rfl, fun _ => rfl, fun _ => rfl, fun _ => rfl, fun _ => rfl⟩)
    | with_reducible refine capTake_touch h_pow ?_
    | with_reducible refine droopTick_touch h_tiles h_pow h_traffic h_ev h_outbox ?_
    | with_reducible refine dieTick_touch h_pow h_traffic h_ev h_outbox ?_
    | with_reducible refine raiseOnce_touch h_traffic h_ev h_outbox ?_
    | with_reducible refine thermalTile_touch h_tiles h_pow h_traffic h_ev h_outbox ?_
    | with_reducible refine touch_foldl ?_ (fun _ _ _ => ?_)
    | with_reducible refine touch_ite (fun _ => ?_) (fun _ => ?_)

theorem modFilter_touch {s : State} {slot : Nat} {f : FilterState → FilterState} (h_aom : W.aom = true) (hs : ChangesOnly W s₀ s) :
    ChangesOnly W s₀ (modFilter s slot f) := by
  unfold modFilter
  repeat' first
    | with_reducible assumption
    | fail_if_no_progress (with_reducible refine touch_mk ?_ ⟨rfl, rfl, fun _ => rfl, fun _ => rfl, fun _ => rfl, fun _ => rfl, fun _ => rfl, fun _ => rfl, fun _ => rfl, fun _ => rfl, fun _ => rfl, fun _ => rfl, fun _ => rfl, fun _ => rfl, fun _ => rfl, fun _ => rfl, fun _ => rfl, fun _ => rfl, fun _ => rfl, fun _ => rfl, fun _ => rfl, fun _ => rfl, off_of_on h_aom, fun _ => rfl, fun _ => rfl, fun _ => rfl, fun _ => rfl, fun _ => rfl, fun _ => rfl, fun _ => rfl, fun _ => rfl, fun _ => rfl, fun _ => rfl⟩)

theorem aomNext_touch {s : State} (h_aom : W.aom = true) (hs : ChangesOnly W s₀ s) :
    ChangesOnly W s₀ (aomNext s) := by
  unfold aomNext
  repeat' first
    | with_reducible assumption
    | fail_if_no_progress (with_reducible refine touch_mk ?_ ⟨rfl, rfl, fun _ => rfl, fun _ => rfl, fun _ => rfl, fun _ => rfl, fun _ => rfl, fun _ => rfl, fun _ => rfl, fun _ => rfl, fun _ => rfl, fun _ => rfl, fun _ => rfl, fun _ => rfl, fun _ => rfl, fun _ => rfl, fun _ => rfl, fun _ => rfl, fun _ => rfl, fun _ => rfl, fun _ => rfl, fun _ => rfl, off_of_on h_aom, fun _ => rfl, fun _ => rfl, fun _ => rfl, fun _ => rfl, fun _ => rfl, fun _ => rfl, fun _ => rfl, fun _ => rfl, fun _ => rfl, fun _ => rfl⟩)

theorem aomLd_touch {s : State} {i : Nat} (h_aom : W.aom = true) (hs : ChangesOnly W s₀ s) :
    ChangesOnly W s₀ (aomLd s i) := by
  unfold aomLd
  repeat' first
    | with_reducible assumption
    | fail_if_no_progress (with_reducible refine touch_mk ?_ ⟨rfl, rfl, fun _ => rfl, fun _ => rfl, fun _ => rfl, fun _ => rfl, fun _ => rfl, fun _ => rfl, fun _ => rfl, fun _ => rfl, fun _ => rfl, fun _ => rfl, fun _ => rfl, fun _ => rfl, fun _ => rfl, fun _ => rfl, fun _ => rfl, fun _ => rfl, fun _ => rfl, fun _ => rfl, fun _ => rfl, fun _ => rfl, off_of_on h_aom, fun _ => rfl, fun _ => rfl, fun _ => rfl, fun _ => rfl, fun _ => rfl, fun _ => rfl, fun _ => rfl, fun _ => rfl, fun _ => rfl, fun _ => rfl⟩)
    | with_reducible refine aomNext_touch h_aom ?_
    | split

theorem aomMean_touch {s : State} {n : Nat} (h_aom : W.aom = true) (hs : ChangesOnly W s₀ s) :
    ChangesOnly W s₀ (aomMean s n) := by
  unfold aomMean
  repeat' first
    | with_reducible assumption
    | fail_if_no_progress (with_reducible refine touch_mk ?_ ⟨rfl, rfl, fun _ => rfl, fun _ => rfl, fun _ => rfl, fun _ => rfl, fun _ => rfl, fun _ => rfl, fun _ => rfl, fun _ => rfl, fun _ => rfl, fun _ => rfl, fun _ => rfl, fun _ => rfl, fun _ => rfl, fun _ => rfl, fun _ => rfl, fun _ => rfl, fun _ => rfl, fun _ => rfl, fun _ => rfl, fun _ => rfl, off_of_on h_aom, fun _ => rfl, fun _ => rfl, fun _ => rfl, fun _ => rfl, fun _ => rfl, fun _ => rfl, fun _ => rfl, fun _ => rfl, fun _ => rfl, fun _ => rfl⟩)
    | with_reducible refine modFilter_touch h_aom ?_
    | with_reducible refine aomNext_touch h_aom ?_

theorem aomScale_touch {s : State} (h_aom : W.aom = true) (hs : ChangesOnly W s₀ s) :
    ChangesOnly W s₀ (aomScale s) := by
  unfold aomScale
  repeat' first
    | with_reducible assumption
    | fail_if_no_progress (with_reducible refine touch_mk ?_ ⟨rfl, rfl, fun _ => rfl, fun _ => rfl, fun _ => rfl, fun _ => rfl, fun _ => rfl, fun _ => rfl, fun _ => rfl, fun _ => rfl, fun _ => rfl, fun _ => rfl, fun _ => rfl, fun _ => rfl, fun _ => rfl, fun _ => rfl, fun _ => rfl, fun _ => rfl, fun _ => rfl, fun _ => rfl, fun _ => rfl, fun _ => rfl, off_of_on h_aom, fun _ => rfl, fun _ => rfl, fun _ => rfl, fun _ => rfl, fun _ => rfl, fun _ => rfl, fun _ => rfl, fun _ => rfl, fun _ => rfl, fun _ => rfl⟩)
    | with_reducible refine aomNext_touch h_aom ?_

theorem aomGt_touch {s : State} {k : Nat} (h_aom : W.aom = true) (hs : ChangesOnly W s₀ s) :
    ChangesOnly W s₀ (aomGt s k) := by
  unfold aomGt
  repeat' first
    | with_reducible assumption
    | fail_if_no_progress (with_reducible refine touch_mk ?_ ⟨rfl, rfl, fun _ => rfl, fun _ => rfl, fun _ => rfl, fun _ => rfl, fun _ => rfl, fun _ => rfl, fun _ => rfl, fun _ => rfl, fun _ => rfl, fun _ => rfl, fun _ => rfl, fun _ => rfl, fun _ => rfl, fun _ => rfl, fun _ => rfl, fun _ => rfl, fun _ => rfl, fun _ => rfl, fun _ => rfl, fun _ => rfl, off_of_on h_aom, fun _ => rfl, fun _ => rfl, fun _ => rfl, fun _ => rfl, fun _ => rfl, fun _ => rfl, fun _ => rfl, fun _ => rfl, fun _ => rfl, fun _ => rfl⟩)
    | with_reducible refine aomNext_touch h_aom ?_
    | with_reducible refine touch_ite (fun _ => ?_) (fun _ => ?_)

theorem aomLt_touch {s : State} {k : Nat} (h_aom : W.aom = true) (hs : ChangesOnly W s₀ s) :
    ChangesOnly W s₀ (aomLt s k) := by
  unfold aomLt
  repeat' first
    | with_reducible assumption
    | fail_if_no_progress (with_reducible refine touch_mk ?_ ⟨rfl, rfl, fun _ => rfl, fun _ => rfl, fun _ => rfl, fun _ => rfl, fun _ => rfl, fun _ => rfl, fun _ => rfl, fun _ => rfl, fun _ => rfl, fun _ => rfl, fun _ => rfl, fun _ => rfl, fun _ => rfl, fun _ => rfl, fun _ => rfl, fun _ => rfl, fun _ => rfl, fun _ => rfl, fun _ => rfl, fun _ => rfl, off_of_on h_aom, fun _ => rfl, fun _ => rfl, fun _ => rfl, fun _ => rfl, fun _ => rfl, fun _ => rfl, fun _ => rfl, fun _ => rfl, fun _ => rfl, fun _ => rfl⟩)
    | with_reducible refine aomNext_touch h_aom ?_
    | with_reducible refine touch_ite (fun _ => ?_) (fun _ => ?_)

theorem aomOutside_touch {s : State} {k : Nat} (h_aom : W.aom = true) (hs : ChangesOnly W s₀ s) :
    ChangesOnly W s₀ (aomOutside s k) := by
  unfold aomOutside
  repeat' first
    | with_reducible assumption
    | fail_if_no_progress (with_reducible refine touch_mk ?_ ⟨rfl, rfl, fun _ => rfl, fun _ => rfl, fun _ => rfl, fun _ => rfl, fun _ => rfl, fun _ => rfl, fun _ => rfl, fun _ => rfl, fun _ => rfl, fun _ => rfl, fun _ => rfl, fun _ => rfl, fun _ => rfl, fun _ => rfl, fun _ => rfl, fun _ => rfl, fun _ => rfl, fun _ => rfl, fun _ => rfl, fun _ => rfl, off_of_on h_aom, fun _ => rfl, fun _ => rfl, fun _ => rfl, fun _ => rfl, fun _ => rfl, fun _ => rfl, fun _ => rfl, fun _ => rfl, fun _ => rfl, fun _ => rfl⟩)
    | with_reducible refine aomNext_touch h_aom ?_
    | with_reducible refine touch_ite (fun _ => ?_) (fun _ => ?_)

theorem aomRun_touch {s : State} {n : Nat} (h_aom : W.aom = true) (hs : ChangesOnly W s₀ s) :
    ChangesOnly W s₀ (aomRun s n) := by
  unfold aomRun
  repeat' first
    | with_reducible assumption
    | fail_if_no_progress (with_reducible refine touch_mk ?_ ⟨rfl, rfl, fun _ => rfl, fun _ => rfl, fun _ => rfl, fun _ => rfl, fun _ => rfl, fun _ => rfl, fun _ => rfl, fun _ => rfl, fun _ => rfl, fun _ => rfl, fun _ => rfl, fun _ => rfl, fun _ => rfl, fun _ => rfl, fun _ => rfl, fun _ => rfl, fun _ => rfl, fun _ => rfl, fun _ => rfl, fun _ => rfl, off_of_on h_aom, fun _ => rfl, fun _ => rfl, fun _ => rfl, fun _ => rfl, fun _ => rfl, fun _ => rfl, fun _ => rfl, fun _ => rfl, fun _ => rfl, fun _ => rfl⟩)
    | with_reducible refine modFilter_touch h_aom ?_
    | with_reducible refine aomNext_touch h_aom ?_

theorem aomAndSaved_touch {s : State} (h_aom : W.aom = true) (hs : ChangesOnly W s₀ s) :
    ChangesOnly W s₀ (aomAndSaved s) := by
  unfold aomAndSaved
  repeat' first
    | with_reducible assumption
    | fail_if_no_progress (with_reducible refine touch_mk ?_ ⟨rfl, rfl, fun _ => rfl, fun _ => rfl, fun _ => rfl, fun _ => rfl, fun _ => rfl, fun _ => rfl, fun _ => rfl, fun _ => rfl, fun _ => rfl, fun _ => rfl, fun _ => rfl, fun _ => rfl, fun _ => rfl, fun _ => rfl, fun _ => rfl, fun _ => rfl, fun _ => rfl, fun _ => rfl, fun _ => rfl, fun _ => rfl, off_of_on h_aom, fun _ => rfl, fun _ => rfl, fun _ => rfl, fun _ => rfl, fun _ => rfl, fun _ => rfl, fun _ => rfl, fun _ => rfl, fun _ => rfl, fun _ => rfl⟩)
    | with_reducible refine aomNext_touch h_aom ?_

theorem aomOrSaved_touch {s : State} (h_aom : W.aom = true) (hs : ChangesOnly W s₀ s) :
    ChangesOnly W s₀ (aomOrSaved s) := by
  unfold aomOrSaved
  repeat' first
    | with_reducible assumption
    | fail_if_no_progress (with_reducible refine touch_mk ?_ ⟨rfl, rfl, fun _ => rfl, fun _ => rfl, fun _ => rfl, fun _ => rfl, fun _ => rfl, fun _ => rfl, fun _ => rfl, fun _ => rfl, fun _ => rfl, fun _ => rfl, fun _ => rfl, fun _ => rfl, fun _ => rfl, fun _ => rfl, fun _ => rfl, fun _ => rfl, fun _ => rfl, fun _ => rfl, fun _ => rfl, fun _ => rfl, off_of_on h_aom, fun _ => rfl, fun _ => rfl, fun _ => rfl, fun _ => rfl, fun _ => rfl, fun _ => rfl, fun _ => rfl, fun _ => rfl, fun _ => rfl, fun _ => rfl⟩)
    | with_reducible refine aomNext_touch h_aom ?_

theorem aomSave_touch {s : State} (h_aom : W.aom = true) (hs : ChangesOnly W s₀ s) :
    ChangesOnly W s₀ (aomSave s) := by
  unfold aomSave
  repeat' first
    | with_reducible assumption
    | with_reducible refine aomNext_touch h_aom ?_
    | with_reducible refine modFilter_touch h_aom ?_

theorem execLd_touch {i : Fin 4096} {s : State} (h_aom : W.aom = true) (hs : ChangesOnly W s₀ s) :
    TouchR W s₀ (execLd i s) := by
  unfold execLd
  repeat' first
    | with_reducible assumption
    | with_reducible refine touchR_next ?_
    | with_reducible refine aomLd_touch h_aom ?_

theorem execMean_touch {n : Fin 4096} {s : State} (h_aom : W.aom = true) (hs : ChangesOnly W s₀ s) :
    TouchR W s₀ (execMean n s) := by
  unfold execMean
  repeat' first
    | with_reducible assumption
    | with_reducible refine touchR_next ?_
    | with_reducible refine aomMean_touch h_aom ?_

theorem execScale_touch {s : State} (h_aom : W.aom = true) (hs : ChangesOnly W s₀ s) :
    TouchR W s₀ (execScale s) := by
  unfold execScale
  repeat' first
    | with_reducible assumption
    | with_reducible refine touchR_next ?_
    | with_reducible refine aomScale_touch h_aom ?_

theorem execGt_touch {k : Fin 4096} {s : State} (h_aom : W.aom = true) (hs : ChangesOnly W s₀ s) :
    TouchR W s₀ (execGt k s) := by
  unfold execGt
  repeat' first
    | with_reducible assumption
    | with_reducible refine touchR_next ?_
    | with_reducible refine aomGt_touch h_aom ?_

theorem execLt_touch {k : Fin 4096} {s : State} (h_aom : W.aom = true) (hs : ChangesOnly W s₀ s) :
    TouchR W s₀ (execLt k s) := by
  unfold execLt
  repeat' first
    | with_reducible assumption
    | with_reducible refine touchR_next ?_
    | with_reducible refine aomLt_touch h_aom ?_

theorem execOutside_touch {k : Fin 4096} {s : State} (h_aom : W.aom = true) (hs : ChangesOnly W s₀ s) :
    TouchR W s₀ (execOutside k s) := by
  unfold execOutside
  repeat' first
    | with_reducible assumption
    | with_reducible refine touchR_next ?_
    | with_reducible refine aomOutside_touch h_aom ?_

theorem execRun_touch {n : Fin 4096} {s : State} (h_aom : W.aom = true) (hs : ChangesOnly W s₀ s) :
    TouchR W s₀ (execRun n s) := by
  unfold execRun
  repeat' first
    | with_reducible assumption
    | with_reducible refine touchR_next ?_
    | with_reducible refine aomRun_touch h_aom ?_

theorem execAomAnd_touch {s : State} (h_aom : W.aom = true) (hs : ChangesOnly W s₀ s) :
    TouchR W s₀ (execAomAnd s) := by
  unfold execAomAnd
  repeat' first
    | with_reducible assumption
    | with_reducible refine touchR_next ?_
    | with_reducible refine aomAndSaved_touch h_aom ?_

theorem execAomOr_touch {s : State} (h_aom : W.aom = true) (hs : ChangesOnly W s₀ s) :
    TouchR W s₀ (execAomOr s) := by
  unfold execAomOr
  repeat' first
    | with_reducible assumption
    | with_reducible refine touchR_next ?_
    | with_reducible refine aomOrSaved_touch h_aom ?_

theorem execSave_touch {s : State} (h_aom : W.aom = true) (hs : ChangesOnly W s₀ s) :
    TouchR W s₀ (execSave s) := by
  unfold execSave
  repeat' first
    | with_reducible assumption
    | with_reducible refine touchR_next ?_
    | with_reducible refine aomSave_touch h_aom ?_

theorem aomInstr_touch {s : State} {x : Nat × Nat} (h_aom : W.aom = true) (hs : ChangesOnly W s₀ s) :
    ChangesOnly W s₀ (aomInstr s x) := by
  unfold aomInstr
  repeat' first
    | with_reducible assumption
    | with_reducible refine aomLd_touch h_aom ?_
    | with_reducible refine aomMean_touch h_aom ?_
    | with_reducible refine aomScale_touch h_aom ?_
    | with_reducible refine aomGt_touch h_aom ?_
    | with_reducible refine aomLt_touch h_aom ?_
    | with_reducible refine aomOutside_touch h_aom ?_
    | with_reducible refine aomRun_touch h_aom ?_
    | with_reducible refine aomAndSaved_touch h_aom ?_
    | with_reducible refine aomOrSaved_touch h_aom ?_
    | with_reducible refine aomSave_touch h_aom ?_
    | with_reducible refine aomNext_touch h_aom ?_
    | split

theorem shed_touch {s : State} (h_pow : W.pow = true) (h_pin : W.pin = true) (hs : ChangesOnly W s₀ s) :
    ChangesOnly W s₀ (shed s) := by
  unfold shed
  repeat' first
    | with_reducible assumption
    | fail_if_no_progress (with_reducible refine touch_mk ?_ ⟨rfl, rfl, fun _ => rfl, fun _ => rfl, fun _ => rfl, fun _ => rfl, fun _ => rfl, fun _ => rfl, fun _ => rfl, fun _ => rfl, fun _ => rfl, fun _ => rfl, fun _ => rfl, fun _ => rfl, fun _ => rfl, fun _ => rfl, fun _ => rfl, fun _ => rfl, fun _ => rfl, fun _ => rfl, fun _ => rfl, off_of_on h_pow, fun _ => rfl, fun _ => rfl, fun _ => rfl, off_of_on h_pin, fun _ => rfl, fun _ => rfl, fun _ => rfl, fun _ => rfl, fun _ => rfl, fun _ => rfl, fun _ => rfl⟩)

theorem expelByAom_touch {s : State} (h_sync : W.sync = true) (hs : ChangesOnly W s₀ s) :
    ChangesOnly W s₀ (expelByAom s) := by
  unfold expelByAom
  repeat' first
    | with_reducible assumption
    | fail_if_no_progress (with_reducible refine touch_mk ?_ ⟨rfl, rfl, fun _ => rfl, fun _ => rfl, fun _ => rfl, fun _ => rfl, fun _ => rfl, fun _ => rfl, fun _ => rfl, fun _ => rfl, fun _ => rfl, fun _ => rfl, fun _ => rfl, fun _ => rfl, fun _ => rfl, fun _ => rfl, fun _ => rfl, fun _ => rfl, off_of_on h_sync, fun _ => rfl, fun _ => rfl, fun _ => rfl, fun _ => rfl, fun _ => rfl, fun _ => rfl, fun _ => rfl, fun _ => rfl, fun _ => rfl, fun _ => rfl, fun _ => rfl, fun _ => rfl, fun _ => rfl, fun _ => rfl⟩)
    | with_reducible refine relay_touch h_sync ?_
    | with_reducible refine noteExpel_touch h_sync ?_
    | with_reducible refine touch_ite (fun _ => ?_) (fun _ => ?_)
    | split

theorem powerDown_touch {s : State} (h_sync : W.sync = true) (h_pow : W.pow = true) (h_pin : W.pin = true) (hs : ChangesOnly W s₀ s) :
    ChangesOnly W s₀ (powerDown s) := by
  unfold powerDown
  repeat' first
    | with_reducible assumption
    | fail_if_no_progress (with_reducible refine touch_mk ?_ ⟨rfl, rfl, fun _ => rfl, fun _ => rfl, fun _ => rfl, fun _ => rfl, fun _ => rfl, fun _ => rfl, fun _ => rfl, fun _ => rfl, fun _ => rfl, fun _ => rfl, fun _ => rfl, fun _ => rfl, fun _ => rfl, fun _ => rfl, fun _ => rfl, fun _ => rfl, fun _ => rfl, fun _ => rfl, fun _ => rfl, fun _ => rfl, fun _ => rfl, fun _ => rfl, fun _ => rfl, off_of_on h_pin, fun _ => rfl, fun _ => rfl, fun _ => rfl, fun _ => rfl, fun _ => rfl, fun _ => rfl, fun _ => rfl⟩)
    | with_reducible refine shed_touch h_pow h_pin ?_
    | with_reducible refine expelByAom_touch h_sync ?_
    | with_reducible refine touch_ite (fun _ => ?_) (fun _ => ?_)

theorem removeRails_touch {s : State} (h_runs : W.runs = true) (h_frame : W.frame = true) (h_tiles : W.tiles = true) (h_arrays : W.arrays = true) (h_ops : W.ops = true) (h_hbm : W.hbm = true) (h_tileMem : W.tileMem = true) (h_upd : W.upd = true) (h_wire : W.wire = true) (h_plan : W.plan = true) (h_lakes : W.lakes = true) (h_pin : W.pin = true) (hs : ChangesOnly W s₀ s) :
    ChangesOnly W s₀ (removeRails s) := by
  unfold removeRails
  repeat' first
    | with_reducible assumption
    | fail_if_no_progress (with_reducible refine touch_mk ?_ ⟨rfl, rfl, fun _ => rfl, fun _ => rfl, fun _ => rfl, fun _ => rfl, fun _ => rfl, fun _ => rfl, fun _ => rfl, fun _ => rfl, fun _ => rfl, fun _ => rfl, fun _ => rfl, fun _ => rfl, fun _ => rfl, fun _ => rfl, fun _ => rfl, off_of_on h_wire, fun _ => rfl, fun _ => rfl, fun _ => rfl, fun _ => rfl, fun _ => rfl, fun _ => rfl, fun _ => rfl, off_of_on h_pin, fun _ => rfl, fun _ => rfl, fun _ => rfl, fun _ => rfl, fun _ => rfl, fun _ => rfl, fun _ => rfl⟩)
    | with_reducible refine haltNow_touch h_runs h_frame h_tiles h_arrays h_ops h_hbm h_tileMem h_upd h_plan h_lakes ?_
    | with_reducible refine touch_ite (fun _ => ?_) (fun _ => ?_)

theorem execPowerDownSequence_touch {s : State} (h_runs : W.runs = true) (h_frame : W.frame = true) (h_tiles : W.tiles = true) (h_arrays : W.arrays = true) (h_ops : W.ops = true) (h_hbm : W.hbm = true) (h_tileMem : W.tileMem = true) (h_upd : W.upd = true) (h_wire : W.wire = true) (h_plan : W.plan = true) (h_lakes : W.lakes = true) (h_pin : W.pin = true) (hs : ChangesOnly W s₀ s) :
    TouchR W s₀ (execPowerDownSequence s) := by
  unfold execPowerDownSequence
  repeat' first
    | with_reducible assumption
    | with_reducible refine touchR_next ?_
    | with_reducible refine removeRails_touch h_runs h_frame h_tiles h_arrays h_ops h_hbm h_tileMem h_upd h_wire h_plan h_lakes h_pin ?_
    | with_reducible refine touch_ite (fun _ => ?_) (fun _ => ?_)

theorem throttle_touch {s : State} {slot : Nat} {w : BitVec 1024} (h_pow : W.pow = true) (hs : ChangesOnly W s₀ s) :
    ChangesOnly W s₀ (throttle s slot w) := by
  unfold throttle
  repeat' first
    | with_reducible assumption
    | fail_if_no_progress (with_reducible refine touch_mk ?_ ⟨rfl, rfl, fun _ => rfl, fun _ => rfl, fun _ => rfl, fun _ => rfl, fun _ => rfl, fun _ => rfl, fun _ => rfl, fun _ => rfl, fun _ => rfl, fun _ => rfl, fun _ => rfl, fun _ => rfl, fun _ => rfl, fun _ => rfl, fun _ => rfl, fun _ => rfl, fun _ => rfl, fun _ => rfl, fun _ => rfl, off_of_on h_pow, fun _ => rfl, fun _ => rfl, fun _ => rfl, fun _ => rfl, fun _ => rfl, fun _ => rfl, fun _ => rfl, fun _ => rfl, fun _ => rfl, fun _ => rfl, fun _ => rfl⟩)
    | with_reducible refine touch_foldl ?_ (fun _ _ _ => ?_)

theorem watchdogExpiry_touch {s : State} (h_runs : W.runs = true) (h_sync : W.sync = true) (h_traffic : W.traffic = true) (h_pin : W.pin = true) (h_ev : W.ev = true) (h_outbox : W.outbox = true) (hs : ChangesOnly W s₀ s) :
    ChangesOnly W s₀ (watchdogExpiry s) := by
  unfold watchdogExpiry
  repeat' first
    | with_reducible assumption
    | fail_if_no_progress (with_reducible refine touch_mk ?_ ⟨rfl, rfl, fun _ => rfl, fun _ => rfl, fun _ => rfl, fun _ => rfl, fun _ => rfl, fun _ => rfl, fun _ => rfl, fun _ => rfl, fun _ => rfl, fun _ => rfl, fun _ => rfl, fun _ => rfl, fun _ => rfl, fun _ => rfl, fun _ => rfl, fun _ => rfl, fun _ => rfl, fun _ => rfl, fun _ => rfl, fun _ => rfl, fun _ => rfl, fun _ => rfl, fun _ => rfl, off_of_on h_pin, fun _ => rfl, fun _ => rfl, fun _ => rfl, fun _ => rfl, fun _ => rfl, fun _ => rfl, fun _ => rfl⟩)
    | with_reducible refine takeL3_touch h_runs h_sync h_traffic h_ev h_outbox ?_

theorem fireFilter_touch {s : State} {slot : Nat} {w : BitVec 1024} (h_runs : W.runs = true) (h_sync : W.sync = true) (h_pow : W.pow = true) (h_traffic : W.traffic = true) (h_pin : W.pin = true) (h_ev : W.ev = true) (h_outbox : W.outbox = true) (hs : ChangesOnly W s₀ s) :
    ChangesOnly W s₀ (fireFilter s slot w) := by
  unfold fireFilter
  repeat' first
    | with_reducible assumption
    | with_reducible refine watchdogExpiry_touch h_runs h_sync h_traffic h_pin h_ev h_outbox ?_
    | with_reducible refine raise_touch h_traffic h_ev h_outbox ?_
    | with_reducible refine throttle_touch h_pow ?_
    | with_reducible refine shed_touch h_pow h_pin ?_
    | with_reducible refine powerDown_touch h_sync h_pow h_pin ?_
    | with_reducible refine touch_ite (fun _ => ?_) (fun _ => ?_)
    | split

theorem runFilter_touch {s : State} {slot : Nat} {w : BitVec 1024} (h_runs : W.runs = true) (h_sync : W.sync = true) (h_pow : W.pow = true) (h_aom : W.aom = true) (h_traffic : W.traffic = true) (h_pin : W.pin = true) (h_ev : W.ev = true) (h_outbox : W.outbox = true) (hs : ChangesOnly W s₀ s) :
    ChangesOnly W s₀ (runFilter s slot w) := by
  unfold runFilter
  repeat' first
    | with_reducible assumption
    | fail_if_no_progress (with_reducible refine touch_mk ?_ ⟨rfl, rfl, fun _ => rfl, fun _ => rfl, fun _ => rfl, fun _ => rfl, fun _ => rfl, fun _ => rfl, fun _ => rfl, fun _ => rfl, fun _ => rfl, fun _ => rfl, fun _ => rfl, fun _ => rfl, fun _ => rfl, fun _ => rfl, fun _ => rfl, fun _ => rfl, fun _ => rfl, fun _ => rfl, fun _ => rfl, fun _ => rfl, off_of_on h_aom, fun _ => rfl, fun _ => rfl, fun _ => rfl, fun _ => rfl, fun _ => rfl, fun _ => rfl, fun _ => rfl, fun _ => rfl, fun _ => rfl, fun _ => rfl⟩)
    | with_reducible refine modFilter_touch h_aom ?_
    | with_reducible refine aomInstr_touch h_aom ?_
    | with_reducible refine fireFilter_touch h_runs h_sync h_pow h_traffic h_pin h_ev h_outbox ?_
    | with_reducible refine throttle_touch h_pow ?_
    | with_reducible refine touch_foldl ?_ (fun _ _ _ => ?_)
    | with_reducible refine touch_ite (fun _ => ?_) (fun _ => ?_)

theorem execAomThrottleExpiry_touch {slot : Fin 33} {s : State} (h_pow : W.pow = true) (hs : ChangesOnly W s₀ s) :
    TouchR W s₀ (execAomThrottleExpiry slot s) := by
  unfold execAomThrottleExpiry
  repeat' first
    | with_reducible assumption
    | fail_if_no_progress (with_reducible refine touch_mk ?_ ⟨rfl, rfl, fun _ => rfl, fun _ => rfl, fun _ => rfl, fun _ => rfl, fun _ => rfl, fun _ => rfl, fun _ => rfl, fun _ => rfl, fun _ => rfl, fun _ => rfl, fun _ => rfl, fun _ => rfl, fun _ => rfl, fun _ => rfl, fun _ => rfl, fun _ => rfl, fun _ => rfl, fun _ => rfl, fun _ => rfl, off_of_on h_pow, fun _ => rfl, fun _ => rfl, fun _ => rfl, fun _ => rfl, fun _ => rfl, fun _ => rfl, fun _ => rfl, fun _ => rfl, fun _ => rfl, fun _ => rfl, fun _ => rfl⟩)
    | with_reducible refine touchR_next ?_
    | with_reducible refine touch_ite (fun _ => ?_) (fun _ => ?_)

theorem latch_touch {s : State} {p : Nat} {bit : Nat} (h_pin : W.pin = true) (hs : ChangesOnly W s₀ s) :
    ChangesOnly W s₀ (latch s p bit) := by
  unfold latch
  repeat' first
    | with_reducible assumption
    | fail_if_no_progress (with_reducible refine touch_mk ?_ ⟨rfl, rfl, fun _ => rfl, fun _ => rfl, fun _ => rfl, fun _ => rfl, fun _ => rfl, fun _ => rfl, fun _ => rfl, fun _ => rfl, fun _ => rfl, fun _ => rfl, fun _ => rfl, fun _ => rfl, fun _ => rfl, fun _ => rfl, fun _ => rfl, fun _ => rfl, fun _ => rfl, fun _ => rfl, fun _ => rfl, fun _ => rfl, fun _ => rfl, fun _ => rfl, fun _ => rfl, off_of_on h_pin, fun _ => rfl, fun _ => rfl, fun _ => rfl, fun _ => rfl, fun _ => rfl, fun _ => rfl, fun _ => rfl⟩)

theorem pageSample_touch {s : State} {p : Nat} (h_pin : W.pin = true) (hs : ChangesOnly W s₀ s) :
    ChangesOnly W s₀ (pageSample s p) := by
  unfold pageSample
  repeat' first
    | with_reducible assumption
    | fail_if_no_progress (with_reducible refine touch_mk ?_ ⟨rfl, rfl, fun _ => rfl, fun _ => rfl, fun _ => rfl, fun _ => rfl, fun _ => rfl, fun _ => rfl, fun _ => rfl, fun _ => rfl, fun _ => rfl, fun _ => rfl, fun _ => rfl, fun _ => rfl, fun _ => rfl, fun _ => rfl, fun _ => rfl, fun _ => rfl, fun _ => rfl, fun _ => rfl, fun _ => rfl, fun _ => rfl, fun _ => rfl, fun _ => rfl, fun _ => rfl, off_of_on h_pin, fun _ => rfl, fun _ => rfl, fun _ => rfl, fun _ => rfl, fun _ => rfl, fun _ => rfl, fun _ => rfl⟩)
    | with_reducible refine latch_touch h_pin ?_
    | with_reducible refine touch_foldl ?_ (fun _ _ _ => ?_)
    | with_reducible refine touch_ite (fun _ => ?_) (fun _ => ?_)

theorem pagesMean_touch {s : State} (h_pin : W.pin = true) (hs : ChangesOnly W s₀ s) :
    ChangesOnly W s₀ (pagesMean s) := by
  unfold pagesMean
  repeat' first
    | with_reducible assumption
    | fail_if_no_progress (with_reducible refine touch_mk ?_ ⟨rfl, rfl, fun _ => rfl, fun _ => rfl, fun _ => rfl, fun _ => rfl, fun _ => rfl, fun _ => rfl, fun _ => rfl, fun _ => rfl, fun _ => rfl, fun _ => rfl, fun _ => rfl, fun _ => rfl, fun _ => rfl, fun _ => rfl, fun _ => rfl, fun _ => rfl, fun _ => rfl, fun _ => rfl, fun _ => rfl, fun _ => rfl, fun _ => rfl, fun _ => rfl, fun _ => rfl, off_of_on h_pin, fun _ => rfl, fun _ => rfl, fun _ => rfl, fun _ => rfl, fun _ => rfl, fun _ => rfl, fun _ => rfl⟩)
    | with_reducible refine latch_touch h_pin ?_
    | with_reducible refine touch_foldl ?_ (fun _ _ _ => ?_)
    | with_reducible refine touch_ite (fun _ => ?_) (fun _ => ?_)

theorem takeSamples_touch {s : State} {inputs : List (Nat × Rat)} (h_aom : W.aom = true) (h_pin : W.pin = true) (hs : ChangesOnly W s₀ s) :
    ChangesOnly W s₀ (takeSamples s inputs) := by
  unfold takeSamples
  repeat' first
    | with_reducible assumption
    | fail_if_no_progress (with_reducible refine touch_mk ?_ ⟨rfl, rfl, fun _ => rfl, fun _ => rfl, fun _ => rfl, fun _ => rfl, fun _ => rfl, fun _ => rfl, fun _ => rfl, fun _ => rfl, fun _ => rfl, fun _ => rfl, fun _ => rfl, fun _ => rfl, fun _ => rfl, fun _ => rfl, fun _ => rfl, fun _ => rfl, fun _ => rfl, fun _ => rfl, fun _ => rfl, fun _ => rfl, off_of_on h_aom, fun _ => rfl, fun _ => rfl, off_of_on h_pin, fun _ => rfl, fun _ => rfl, fun _ => rfl, fun _ => rfl, fun _ => rfl, fun _ => rfl, fun _ => rfl⟩)
    | with_reducible refine pageSample_touch h_pin ?_
    | with_reducible refine pagesMean_touch h_pin ?_
    | with_reducible refine touch_foldl ?_ (fun _ _ _ => ?_)
    | with_reducible refine touch_ite (fun _ => ?_) (fun _ => ?_)

theorem execAomSample_touch {inputs : List (Nat × Rat)} {cyc : Nat} {s : State} (h_cycle : W.cycle = true) (h_runs : W.runs = true) (h_sync : W.sync = true) (h_pow : W.pow = true) (h_aom : W.aom = true) (h_traffic : W.traffic = true) (h_pin : W.pin = true) (h_ev : W.ev = true) (h_outbox : W.outbox = true) (hs : ChangesOnly W s₀ s) :
    TouchR W s₀ (execAomSample inputs cyc s) := by
  unfold execAomSample
  repeat' first
    | with_reducible assumption
    | with_reducible refine touchR_next ?_
    | with_reducible refine takeSamples_touch h_aom h_pin ?_
    | with_reducible refine atCycle_touch h_cycle ?_
    | with_reducible refine runFilter_touch h_runs h_sync h_pow h_aom h_traffic h_pin h_ev h_outbox ?_
    | with_reducible refine touch_foldl ?_ (fun _ _ _ => ?_)

theorem execEometHeartbeat_touch {s : State} (h_pin : W.pin = true) (hs : ChangesOnly W s₀ s) :
    TouchR W s₀ (execEometHeartbeat s) := by
  unfold execEometHeartbeat
  repeat' first
    | with_reducible assumption
    | fail_if_no_progress (with_reducible refine touch_mk ?_ ⟨rfl, rfl, fun _ => rfl, fun _ => rfl, fun _ => rfl, fun _ => rfl, fun _ => rfl, fun _ => rfl, fun _ => rfl, fun _ => rfl, fun _ => rfl, fun _ => rfl, fun _ => rfl, fun _ => rfl, fun _ => rfl, fun _ => rfl, fun _ => rfl, fun _ => rfl, fun _ => rfl, fun _ => rfl, fun _ => rfl, fun _ => rfl, fun _ => rfl, fun _ => rfl, fun _ => rfl, off_of_on h_pin, fun _ => rfl, fun _ => rfl, fun _ => rfl, fun _ => rfl, fun _ => rfl, fun _ => rfl, fun _ => rfl⟩)
    | with_reducible refine touchR_next ?_

theorem filtersTick_touch {s : State} (h_aom : W.aom = true) (hs : ChangesOnly W s₀ s) :
    ChangesOnly W s₀ (filtersTick s) := by
  unfold filtersTick
  repeat' first
    | with_reducible assumption
    | fail_if_no_progress (with_reducible refine touch_mk ?_ ⟨rfl, rfl, fun _ => rfl, fun _ => rfl, fun _ => rfl, fun _ => rfl, fun _ => rfl, fun _ => rfl, fun _ => rfl, fun _ => rfl, fun _ => rfl, fun _ => rfl, fun _ => rfl, fun _ => rfl, fun _ => rfl, fun _ => rfl, fun _ => rfl, fun _ => rfl, fun _ => rfl, fun _ => rfl, fun _ => rfl, fun _ => rfl, off_of_on h_aom, fun _ => rfl, fun _ => rfl, fun _ => rfl, fun _ => rfl, fun _ => rfl, fun _ => rfl, fun _ => rfl, fun _ => rfl, fun _ => rfl, fun _ => rfl⟩)

theorem overflowEvent_touch {old : Table Nat} {s : State} {block : Nat} (h_traffic : W.traffic = true) (h_ev : W.ev = true) (h_outbox : W.outbox = true) (hs : ChangesOnly W s₀ s) :
    ChangesOnly W s₀ (overflowEvent old s block) := by
  unfold overflowEvent
  repeat' first
    | with_reducible assumption
    | with_reducible refine raise_touch h_traffic h_ev h_outbox ?_
    | with_reducible refine touch_ite (fun _ => ?_) (fun _ => ?_)

theorem countTick_touch {s : State} {phase : Nat} {activity : List (Nat × Nat)} (h_traffic : W.traffic = true) (h_ev : W.ev = true) (h_outbox : W.outbox = true) (hs : ChangesOnly W s₀ s) :
    ChangesOnly W s₀ (countTick s phase activity) := by
  unfold countTick
  repeat' first
    | with_reducible assumption
    | fail_if_no_progress (with_reducible refine touch_mk ?_ ⟨rfl, rfl, fun _ => rfl, fun _ => rfl, fun _ => rfl, fun _ => rfl, fun _ => rfl, fun _ => rfl, fun _ => rfl, fun _ => rfl, fun _ => rfl, fun _ => rfl, fun _ => rfl, fun _ => rfl, fun _ => rfl, fun _ => rfl, fun _ => rfl, fun _ => rfl, fun _ => rfl, fun _ => rfl, fun _ => rfl, fun _ => rfl, fun _ => rfl, off_of_on h_traffic, fun _ => rfl, fun _ => rfl, fun _ => rfl, fun _ => rfl, fun _ => rfl, fun _ => rfl, fun _ => rfl, fun _ => rfl, fun _ => rfl⟩)
    | with_reducible refine overflowEvent_touch h_traffic h_ev h_outbox ?_
    | with_reducible refine touch_foldl ?_ (fun _ _ _ => ?_)

theorem portsTick_touch {s : State} (h_traffic : W.traffic = true) (hs : ChangesOnly W s₀ s) :
    ChangesOnly W s₀ (portsTick s) := by
  unfold portsTick
  repeat' first
    | with_reducible assumption
    | fail_if_no_progress (with_reducible refine touch_mk ?_ ⟨rfl, rfl, fun _ => rfl, fun _ => rfl, fun _ => rfl, fun _ => rfl, fun _ => rfl, fun _ => rfl, fun _ => rfl, fun _ => rfl, fun _ => rfl, fun _ => rfl, fun _ => rfl, fun _ => rfl, fun _ => rfl, fun _ => rfl, fun _ => rfl, fun _ => rfl, fun _ => rfl, fun _ => rfl, fun _ => rfl, fun _ => rfl, fun _ => rfl, off_of_on h_traffic, fun _ => rfl, fun _ => rfl, fun _ => rfl, fun _ => rfl, fun _ => rfl, fun _ => rfl, fun _ => rfl, fun _ => rfl, fun _ => rfl⟩)

theorem windowTick_touch {s : State} (h_traffic : W.traffic = true) (h_cnt : W.cnt = true) (hs : ChangesOnly W s₀ s) :
    ChangesOnly W s₀ (windowTick s) := by
  unfold windowTick
  repeat' first
    | with_reducible assumption
    | fail_if_no_progress (with_reducible refine touch_mk ?_ ⟨rfl, rfl, fun _ => rfl, fun _ => rfl, fun _ => rfl, fun _ => rfl, fun _ => rfl, fun _ => rfl, fun _ => rfl, fun _ => rfl, fun _ => rfl, fun _ => rfl, fun _ => rfl, fun _ => rfl, fun _ => rfl, fun _ => rfl, fun _ => rfl, fun _ => rfl, fun _ => rfl, fun _ => rfl, fun _ => rfl, fun _ => rfl, fun _ => rfl, off_of_on h_traffic, off_of_on h_cnt, fun _ => rfl, fun _ => rfl, fun _ => rfl, fun _ => rfl, fun _ => rfl, fun _ => rfl, fun _ => rfl, fun _ => rfl⟩)
    | with_reducible refine touch_ite (fun _ => ?_) (fun _ => ?_)

theorem latchSnapshot_touch {s : State} {n : Nat} (h_cnt : W.cnt = true) (hs : ChangesOnly W s₀ s) :
    ChangesOnly W s₀ (latchSnapshot s n) := by
  unfold latchSnapshot
  repeat' first
    | with_reducible assumption
    | fail_if_no_progress (with_reducible refine touch_mk ?_ ⟨rfl, rfl, fun _ => rfl, fun _ => rfl, fun _ => rfl, fun _ => rfl, fun _ => rfl, fun _ => rfl, fun _ => rfl, fun _ => rfl, fun _ => rfl, fun _ => rfl, fun _ => rfl, fun _ => rfl, fun _ => rfl, fun _ => rfl, fun _ => rfl, fun _ => rfl, fun _ => rfl, fun _ => rfl, fun _ => rfl, fun _ => rfl, fun _ => rfl, fun _ => rfl, off_of_on h_cnt, fun _ => rfl, fun _ => rfl, fun _ => rfl, fun _ => rfl, fun _ => rfl, fun _ => rfl, fun _ => rfl, fun _ => rfl⟩)

theorem configTick_touch {s : State} {t : Nat} (h_traffic : W.traffic = true) (h_cnt : W.cnt = true) (hs : ChangesOnly W s₀ s) :
    ChangesOnly W s₀ (configTick s t) := by
  unfold configTick
  repeat' first
    | with_reducible assumption
    | fail_if_no_progress (with_reducible refine touch_mk ?_ ⟨rfl, rfl, fun _ => rfl, fun _ => rfl, fun _ => rfl, fun _ => rfl, fun _ => rfl, fun _ => rfl, fun _ => rfl, fun _ => rfl, fun _ => rfl, fun _ => rfl, fun _ => rfl, fun _ => rfl, fun _ => rfl, fun _ => rfl, fun _ => rfl, fun _ => rfl, fun _ => rfl, fun _ => rfl, fun _ => rfl, fun _ => rfl, fun _ => rfl, off_of_on h_traffic, off_of_on h_cnt, fun _ => rfl, fun _ => rfl, fun _ => rfl, fun _ => rfl, fun _ => rfl, fun _ => rfl, fun _ => rfl, fun _ => rfl⟩)

theorem writeHost_touch {s : State} {a : Nat} {bytes : List Byte} (h_host : W.host = true) (hs : ChangesOnly W s₀ s) :
    ChangesOnly W s₀ (writeHost s a bytes) := by
  unfold writeHost
  repeat' first
    | with_reducible assumption
    | fail_if_no_progress (with_reducible refine touch_mk ?_ ⟨rfl, rfl, fun _ => rfl, fun _ => rfl, fun _ => rfl, fun _ => rfl, fun _ => rfl, fun _ => rfl, fun _ => rfl, fun _ => rfl, fun _ => rfl, fun _ => rfl, fun _ => rfl, fun _ => rfl, off_of_on h_host, fun _ => rfl, fun _ => rfl, fun _ => rfl, fun _ => rfl, fun _ => rfl, fun _ => rfl, fun _ => rfl, fun _ => rfl, fun _ => rfl, fun _ => rfl, fun _ => rfl, fun _ => rfl, fun _ => rfl, fun _ => rfl, fun _ => rfl, fun _ => rfl, fun _ => rfl, fun _ => rfl⟩)

theorem dropEvent_touch {s : State} (h_traffic : W.traffic = true) (h_cnt : W.cnt = true) (h_ev : W.ev = true) (h_outbox : W.outbox = true) (hs : ChangesOnly W s₀ s) :
    ChangesOnly W s₀ (dropEvent s) := by
  unfold dropEvent
  repeat' first
    | with_reducible assumption
    | fail_if_no_progress (with_reducible refine touch_mk ?_ ⟨rfl, rfl, fun _ => rfl, fun _ => rfl, fun _ => rfl, fun _ => rfl, fun _ => rfl, fun _ => rfl, fun _ => rfl, fun _ => rfl, fun _ => rfl, fun _ => rfl, fun _ => rfl, fun _ => rfl, fun _ => rfl, fun _ => rfl, fun _ => rfl, fun _ => rfl, fun _ => rfl, fun _ => rfl, fun _ => rfl, fun _ => rfl, fun _ => rfl, fun _ => rfl, off_of_on h_cnt, fun _ => rfl, fun _ => rfl, fun _ => rfl, fun _ => rfl, fun _ => rfl, fun _ => rfl, fun _ => rfl, fun _ => rfl⟩)
    | with_reducible refine raiseOnce_touch h_traffic h_ev h_outbox ?_
    | with_reducible refine touch_ite (fun _ => ?_) (fun _ => ?_)

theorem execDumpRecordWrite_touch {delivered : Bool} {s : State} (h_host : W.host = true) (h_traffic : W.traffic = true) (h_cnt : W.cnt = true) (h_ev : W.ev = true) (h_outbox : W.outbox = true) (hs : ChangesOnly W s₀ s) :
    TouchR W s₀ (execDumpRecordWrite delivered s) := by
  unfold execDumpRecordWrite
  repeat' first
    | with_reducible assumption
    | fail_if_no_progress (with_reducible refine touch_mk ?_ ⟨rfl, rfl, fun _ => rfl, fun _ => rfl, fun _ => rfl, fun _ => rfl, fun _ => rfl, fun _ => rfl, fun _ => rfl, fun _ => rfl, fun _ => rfl, fun _ => rfl, fun _ => rfl, fun _ => rfl, fun _ => rfl, fun _ => rfl, fun _ => rfl, fun _ => rfl, fun _ => rfl, fun _ => rfl, fun _ => rfl, fun _ => rfl, fun _ => rfl, fun _ => rfl, off_of_on h_cnt, fun _ => rfl, fun _ => rfl, fun _ => rfl, fun _ => rfl, fun _ => rfl, fun _ => rfl, fun _ => rfl, fun _ => rfl⟩)
    | with_reducible refine touchR_next ?_
    | with_reducible refine writeHost_touch h_host ?_
    | with_reducible refine dropEvent_touch h_traffic h_cnt h_ev h_outbox ?_
    | with_reducible refine touch_ite (fun _ => ?_) (fun _ => ?_)
    | split

theorem execSnapshotComplete_touch {s : State} (h_cnt : W.cnt = true) (hs : ChangesOnly W s₀ s) :
    TouchR W s₀ (execSnapshotComplete s) := by
  unfold execSnapshotComplete
  repeat' first
    | with_reducible assumption
    | fail_if_no_progress (with_reducible refine touch_mk ?_ ⟨rfl, rfl, fun _ => rfl, fun _ => rfl, fun _ => rfl, fun _ => rfl, fun _ => rfl, fun _ => rfl, fun _ => rfl, fun _ => rfl, fun _ => rfl, fun _ => rfl, fun _ => rfl, fun _ => rfl, fun _ => rfl, fun _ => rfl, fun _ => rfl, fun _ => rfl, fun _ => rfl, fun _ => rfl, fun _ => rfl, fun _ => rfl, fun _ => rfl, fun _ => rfl, off_of_on h_cnt, fun _ => rfl, fun _ => rfl, fun _ => rfl, fun _ => rfl, fun _ => rfl, fun _ => rfl, fun _ => rfl, fun _ => rfl⟩)
    | with_reducible refine touchR_next ?_

theorem execCounterConfig_touch {r : Req} {kind : Byte} {first : Half} {count : Half} {words : List Half} {s : State} (h_wire : W.wire = true) (h_traffic : W.traffic = true) (h_cnt : W.cnt = true) (h_ev : W.ev = true) (h_outbox : W.outbox = true) (h_mail : W.mail = true) (hs : ChangesOnly W s₀ s) :
    TouchR W s₀ (execCounterConfig r kind first count words s) := by
  unfold execCounterConfig
  repeat' first
    | with_reducible assumption
    | fail_if_no_progress (with_reducible refine touch_mk ?_ ⟨rfl, rfl, fun _ => rfl, fun _ => rfl, fun _ => rfl, fun _ => rfl, fun _ => rfl, fun _ => rfl, fun _ => rfl, fun _ => rfl, fun _ => rfl, fun _ => rfl, fun _ => rfl, fun _ => rfl, fun _ => rfl, fun _ => rfl, fun _ => rfl, fun _ => rfl, fun _ => rfl, fun _ => rfl, fun _ => rfl, fun _ => rfl, fun _ => rfl, fun _ => rfl, off_of_on h_cnt, fun _ => rfl, fun _ => rfl, fun _ => rfl, fun _ => rfl, fun _ => rfl, fun _ => rfl, fun _ => rfl, fun _ => rfl⟩)
    | with_reducible refine touchR_next ?_
    | with_reducible refine serve_touch h_wire h_traffic h_outbox h_mail ?_ (fun _ _ => ?_)
    | with_reducible refine refuse_touch h_wire h_traffic h_outbox h_mail ?_
    | with_reducible refine settled_touch h_wire h_traffic h_ev h_outbox h_mail ?_
    | with_reducible refine touch_ite (fun _ => ?_) (fun _ => ?_)

theorem execCounterRead_touch {r : Req} {kind : Byte} {first : Half} {count : Half} {s : State} (h_wire : W.wire = true) (h_traffic : W.traffic = true) (h_outbox : W.outbox = true) (h_mail : W.mail = true) (hs : ChangesOnly W s₀ s) :
    TouchR W s₀ (execCounterRead r kind first count s) := by
  unfold execCounterRead
  repeat' first
    | with_reducible assumption
    | with_reducible refine touchR_next ?_
    | with_reducible refine serve_touch h_wire h_traffic h_outbox h_mail ?_ (fun _ _ => ?_)
    | with_reducible refine answer_touch h_wire h_traffic h_outbox h_mail ?_
    | with_reducible refine refuse_touch h_wire h_traffic h_outbox h_mail ?_
    | with_reducible refine touch_ite (fun _ => ?_) (fun _ => ?_)

theorem execCounterClear_touch {r : Req} {kind : Byte} {first : Half} {count : Half} {mask : Byte} {s : State} (h_wire : W.wire = true) (h_traffic : W.traffic = true) (h_cnt : W.cnt = true) (h_ev : W.ev = true) (h_outbox : W.outbox = true) (h_mail : W.mail = true) (hs : ChangesOnly W s₀ s) :
    TouchR W s₀ (execCounterClear r kind first count mask s) := by
  unfold execCounterClear
  repeat' first
    | with_reducible assumption
    | fail_if_no_progress (with_reducible refine touch_mk ?_ ⟨rfl, rfl, fun _ => rfl, fun _ => rfl, fun _ => rfl, fun _ => rfl, fun _ => rfl, fun _ => rfl, fun _ => rfl, fun _ => rfl, fun _ => rfl, fun _ => rfl, fun _ => rfl, fun _ => rfl, fun _ => rfl, fun _ => rfl, fun _ => rfl, fun _ => rfl, fun _ => rfl, fun _ => rfl, fun _ => rfl, fun _ => rfl, fun _ => rfl, fun _ => rfl, off_of_on h_cnt, fun _ => rfl, fun _ => rfl, fun _ => rfl, fun _ => rfl, fun _ => rfl, fun _ => rfl, fun _ => rfl, fun _ => rfl⟩)
    | with_reducible refine touchR_next ?_
    | with_reducible refine serve_touch h_wire h_traffic h_outbox h_mail ?_ (fun _ _ => ?_)
    | with_reducible refine settled_touch h_wire h_traffic h_ev h_outbox h_mail ?_
    | with_reducible refine refuse_touch h_wire h_traffic h_outbox h_mail ?_
    | with_reducible refine touch_ite (fun _ => ?_) (fun _ => ?_)

theorem execDumpRegister_touch {r : Req} {host : DWord} {length : DWord} {s : State} (h_wire : W.wire = true) (h_traffic : W.traffic = true) (h_cnt : W.cnt = true) (h_ev : W.ev = true) (h_outbox : W.outbox = true) (h_mail : W.mail = true) (hs : ChangesOnly W s₀ s) :
    TouchR W s₀ (execDumpRegister r host length s) := by
  unfold execDumpRegister
  repeat' first
    | with_reducible assumption
    | fail_if_no_progress (with_reducible refine touch_mk ?_ ⟨rfl, rfl, fun _ => rfl, fun _ => rfl, fun _ => rfl, fun _ => rfl, fun _ => rfl, fun _ => rfl, fun _ => rfl, fun _ => rfl, fun _ => rfl, fun _ => rfl, fun _ => rfl, fun _ => rfl, fun _ => rfl, fun _ => rfl, fun _ => rfl, fun _ => rfl, fun _ => rfl, fun _ => rfl, fun _ => rfl, fun _ => rfl, fun _ => rfl, fun _ => rfl, off_of_on h_cnt, fun _ => rfl, fun _ => rfl, fun _ => rfl, fun _ => rfl, fun _ => rfl, fun _ => rfl, fun _ => rfl, fun _ => rfl⟩)
    | with_reducible refine touchR_next ?_
    | with_reducible refine serve_touch h_wire h_traffic h_outbox h_mail ?_ (fun _ _ => ?_)
    | with_reducible refine refuse_touch h_wire h_traffic h_outbox h_mail ?_
    | with_reducible refine settled_touch h_wire h_traffic h_ev h_outbox h_mail ?_
    | with_reducible refine touch_ite (fun _ => ?_) (fun _ => ?_)

theorem execDumpRelease_touch {r : Req} {s : State} (h_wire : W.wire = true) (h_traffic : W.traffic = true) (h_cnt : W.cnt = true) (h_ev : W.ev = true) (h_outbox : W.outbox = true) (h_mail : W.mail = true) (hs : ChangesOnly W s₀ s) :
    TouchR W s₀ (execDumpRelease r s) := by
  unfold execDumpRelease
  repeat' first
    | with_reducible assumption
    | fail_if_no_progress (with_reducible refine touch_mk ?_ ⟨rfl, rfl, fun _ => rfl, fun _ => rfl, fun _ => rfl, fun _ => rfl, fun _ => rfl, fun _ => rfl, fun _ => rfl, fun _ => rfl, fun _ => rfl, fun _ => rfl, fun _ => rfl, fun _ => rfl, fun _ => rfl, fun _ => rfl, fun _ => rfl, fun _ => rfl, fun _ => rfl, fun _ => rfl, fun _ => rfl, fun _ => rfl, fun _ => rfl, fun _ => rfl, off_of_on h_cnt, fun _ => rfl, fun _ => rfl, fun _ => rfl, fun _ => rfl, fun _ => rfl, fun _ => rfl, fun _ => rfl, fun _ => rfl⟩)
    | with_reducible refine touchR_next ?_
    | with_reducible refine serve_touch h_wire h_traffic h_outbox h_mail ?_ (fun _ _ => ?_)
    | with_reducible refine settled_touch h_wire h_traffic h_ev h_outbox h_mail ?_

theorem execBandwidthRead_touch {r : Req} {first : Byte} {count : Byte} {s : State} (h_wire : W.wire = true) (h_traffic : W.traffic = true) (h_outbox : W.outbox = true) (h_mail : W.mail = true) (hs : ChangesOnly W s₀ s) :
    TouchR W s₀ (execBandwidthRead r first count s) := by
  unfold execBandwidthRead
  repeat' first
    | with_reducible assumption
    | with_reducible refine touchR_next ?_
    | with_reducible refine serve_touch h_wire h_traffic h_outbox h_mail ?_ (fun _ _ => ?_)
    | with_reducible refine answer_touch h_wire h_traffic h_outbox h_mail ?_
    | with_reducible refine refuse_touch h_wire h_traffic h_outbox h_mail ?_
    | with_reducible refine touch_ite (fun _ => ?_) (fun _ => ?_)

theorem execDumpStatus_touch {r : Req} {s : State} (h_wire : W.wire = true) (h_traffic : W.traffic = true) (h_outbox : W.outbox = true) (h_mail : W.mail = true) (hs : ChangesOnly W s₀ s) :
    TouchR W s₀ (execDumpStatus r s) := by
  unfold execDumpStatus
  repeat' first
    | with_reducible assumption
    | with_reducible refine touchR_next ?_
    | with_reducible refine serve_touch h_wire h_traffic h_outbox h_mail ?_ (fun _ _ => ?_)
    | with_reducible refine answer_touch h_wire h_traffic h_outbox h_mail ?_
    | split

theorem execEventRaise_touch {code : Half} {unit : UnitRef} {level : Fin 8} {ps : List DWord} {charge : Option (Fin 8 × Bool × Bool)} {s : State} (h_traffic : W.traffic = true) (h_ev : W.ev = true) (h_hl : W.hl = true) (h_outbox : W.outbox = true) (hs : ChangesOnly W s₀ s) :
    TouchR W s₀ (execEventRaise code unit level ps charge s) := by
  unfold execEventRaise
  repeat' first
    | with_reducible assumption
    | with_reducible refine touchR_next ?_
    | with_reducible refine raise_touch h_traffic h_ev h_outbox ?_
    | with_reducible refine charge_touch h_traffic h_ev h_hl h_outbox ?_
    | split

theorem execEventResend_touch {s : State} (h_traffic : W.traffic = true) (h_outbox : W.outbox = true) (hs : ChangesOnly W s₀ s) :
    TouchR W s₀ (execEventResend s) := by
  unfold execEventResend
  repeat' first
    | with_reducible assumption
    | with_reducible refine touchR_next ?_
    | with_reducible refine sendEvents_touch h_traffic h_outbox ?_
    | with_reducible refine touch_foldl ?_ (fun _ _ _ => ?_)

theorem suppressionEvent_touch {s : State} {x : Nat × Nat} (h_traffic : W.traffic = true) (h_ev : W.ev = true) (h_outbox : W.outbox = true) (hs : ChangesOnly W s₀ s) :
    ChangesOnly W s₀ (suppressionEvent s x) := by
  unfold suppressionEvent
  repeat' first
    | with_reducible assumption
    | with_reducible refine storeEvent_touch h_traffic h_ev h_outbox ?_

theorem execEventSuppressionEnd_touch {s : State} (h_traffic : W.traffic = true) (h_ev : W.ev = true) (h_hl : W.hl = true) (h_outbox : W.outbox = true) (hs : ChangesOnly W s₀ s) :
    TouchR W s₀ (execEventSuppressionEnd s) := by
  unfold execEventSuppressionEnd
  repeat' first
    | with_reducible assumption
    | fail_if_no_progress (with_reducible refine touch_mk ?_ ⟨rfl, rfl, fun _ => rfl, fun _ => rfl, fun _ => rfl, fun _ => rfl, fun _ => rfl, fun _ => rfl, fun _ => rfl, fun _ => rfl, fun _ => rfl, fun _ => rfl, fun _ => rfl, fun _ => rfl, fun _ => rfl, fun _ => rfl, fun _ => rfl, fun _ => rfl, fun _ => rfl, fun _ => rfl, fun _ => rfl, fun _ => rfl, fun _ => rfl, fun _ => rfl, fun _ => rfl, fun _ => rfl, fun _ => rfl, off_of_on h_ev, off_of_on h_hl, fun _ => rfl, fun _ => rfl, fun _ => rfl, fun _ => rfl⟩)
    | with_reducible refine touchR_next ?_
    | with_reducible refine suppressionEvent_touch h_traffic h_ev h_outbox ?_
    | with_reducible refine touch_foldl ?_ (fun _ _ _ => ?_)

theorem saveIntervals_touch {s : State} (h_arrays : W.arrays = true) (hs : ChangesOnly W s₀ s) :
    ChangesOnly W s₀ (saveIntervals s) := by
  unfold saveIntervals
  repeat' first
    | with_reducible assumption
    | fail_if_no_progress (with_reducible refine touch_mk ?_ ⟨rfl, rfl, fun _ => rfl, fun _ => rfl, fun _ => rfl, fun _ => rfl, fun _ => rfl, fun _ => rfl, fun _ => rfl, off_of_on h_arrays, fun _ => rfl, fun _ => rfl, fun _ => rfl, fun _ => rfl, fun _ => rfl, fun _ => rfl, fun _ => rfl, fun _ => rfl, fun _ => rfl, fun _ => rfl, fun _ => rfl, fun _ => rfl, fun _ => rfl, fun _ => rfl, fun _ => rfl, fun _ => rfl, fun _ => rfl, fun _ => rfl, fun _ => rfl, fun _ => rfl, fun _ => rfl, fun _ => rfl, fun _ => rfl⟩)

theorem norFails_touch {s : State} (h_traffic : W.traffic = true) (h_ev : W.ev = true) (h_hl : W.hl = true) (h_outbox : W.outbox = true) (hs : ChangesOnly W s₀ s) :
    ChangesOnly W s₀ (norFails s) := by
  unfold norFails
  repeat' first
    | with_reducible assumption
    | fail_if_no_progress (with_reducible refine touch_mk ?_ ⟨rfl, rfl, fun _ => rfl, fun _ => rfl, fun _ => rfl, fun _ => rfl, fun _ => rfl, fun _ => rfl, fun _ => rfl, fun _ => rfl, fun _ => rfl, fun _ => rfl, fun _ => rfl, fun _ => rfl, fun _ => rfl, fun _ => rfl, fun _ => rfl, fun _ => rfl, fun _ => rfl, fun _ => rfl, fun _ => rfl, fun _ => rfl, fun _ => rfl, fun _ => rfl, fun _ => rfl, fun _ => rfl, fun _ => rfl, fun _ => rfl, off_of_on h_hl, fun _ => rfl, fun _ => rfl, fun _ => rfl, fun _ => rfl⟩)
    | with_reducible refine raise_touch h_traffic h_ev h_outbox ?_
    | with_reducible refine touch_ite (fun _ => ?_) (fun _ => ?_)

theorem norWritten_touch {s : State} (h_hl : W.hl = true) (hs : ChangesOnly W s₀ s) :
    ChangesOnly W s₀ (norWritten s) := by
  unfold norWritten
  repeat' first
    | with_reducible assumption
    | fail_if_no_progress (with_reducible refine touch_mk ?_ ⟨rfl, rfl, fun _ => rfl, fun _ => rfl, fun _ => rfl, fun _ => rfl, fun _ => rfl, fun _ => rfl, fun _ => rfl, fun _ => rfl, fun _ => rfl, fun _ => rfl, fun _ => rfl, fun _ => rfl, fun _ => rfl, fun _ => rfl, fun _ => rfl, fun _ => rfl, fun _ => rfl, fun _ => rfl, fun _ => rfl, fun _ => rfl, fun _ => rfl, fun _ => rfl, fun _ => rfl, fun _ => rfl, fun _ => rfl, fun _ => rfl, off_of_on h_hl, fun _ => rfl, fun _ => rfl, fun _ => rfl, fun _ => rfl⟩)

theorem execHealthFold_touch {norFails : Bool} {s : State} (h_arrays : W.arrays = true) (h_traffic : W.traffic = true) (h_ev : W.ev = true) (h_hl : W.hl = true) (h_outbox : W.outbox = true) (hs : ChangesOnly W s₀ s) :
    TouchR W s₀ (execHealthFold norFails s) := by
  unfold execHealthFold
  repeat' first
    | with_reducible assumption
    | with_reducible refine touchR_next ?_
    | with_reducible refine norFails_touch h_traffic h_ev h_hl h_outbox ?_
    | with_reducible refine norWritten_touch h_hl ?_
    | with_reducible refine saveIntervals_touch h_arrays ?_
    | with_reducible refine touch_ite (fun _ => ?_) (fun _ => ?_)

theorem norTick_touch {s : State} {fails : Bool} (h_traffic : W.traffic = true) (h_ev : W.ev = true) (h_hl : W.hl = true) (h_outbox : W.outbox = true) (hs : ChangesOnly W s₀ s) :
    ChangesOnly W s₀ (norTick s fails) := by
  unfold norTick
  repeat' first
    | with_reducible assumption
    | with_reducible refine norFails_touch h_traffic h_ev h_hl h_outbox ?_
    | with_reducible refine norWritten_touch h_hl ?_
    | with_reducible refine touch_ite (fun _ => ?_) (fun _ => ?_)

theorem disagree_touch {s : State} {u : UnitRef} (h_traffic : W.traffic = true) (h_ev : W.ev = true) (h_hl : W.hl = true) (h_outbox : W.outbox = true) (hs : ChangesOnly W s₀ s) :
    ChangesOnly W s₀ (disagree s u) := by
  unfold disagree
  repeat' first
    | with_reducible assumption
    | fail_if_no_progress (with_reducible refine touch_mk ?_ ⟨rfl, rfl, fun _ => rfl, fun _ => rfl, fun _ => rfl, fun _ => rfl, fun _ => rfl, fun _ => rfl, fun _ => rfl, fun _ => rfl, fun _ => rfl, fun _ => rfl, fun _ => rfl, fun _ => rfl, fun _ => rfl, fun _ => rfl, fun _ => rfl, fun _ => rfl, fun _ => rfl, fun _ => rfl, fun _ => rfl, fun _ => rfl, fun _ => rfl, fun _ => rfl, fun _ => rfl, fun _ => rfl, fun _ => rfl, fun _ => rfl, off_of_on h_hl, fun _ => rfl, fun _ => rfl, fun _ => rfl, fun _ => rfl⟩)
    | with_reducible refine raise_touch h_traffic h_ev h_outbox ?_
    | with_reducible refine touch_ite (fun _ => ?_) (fun _ => ?_)

theorem takeLive_touch {s : State} {u : UnitRef} (h_traffic : W.traffic = true) (h_ev : W.ev = true) (h_hl : W.hl = true) (h_outbox : W.outbox = true) (hs : ChangesOnly W s₀ s) :
    ChangesOnly W s₀ (takeLive s u) := by
  unfold takeLive
  repeat' first
    | with_reducible assumption
    | with_reducible refine setUnitState_touch h_hl ?_
    | with_reducible refine disagree_touch h_traffic h_ev h_hl h_outbox ?_
    | with_reducible refine touch_ite (fun _ => ?_) (fun _ => ?_)

theorem restrictUsed_touch {s : State} {u : UnitRef} (h_arrays : W.arrays = true) (h_traffic : W.traffic = true) (h_ev : W.ev = true) (h_hl : W.hl = true) (h_outbox : W.outbox = true) (hs : ChangesOnly W s₀ s) :
    ChangesOnly W s₀ (restrictUsed s u) := by
  unfold restrictUsed
  repeat' first
    | with_reducible assumption
    | fail_if_no_progress (with_reducible refine touch_mk ?_ ⟨rfl, rfl, fun _ => rfl, fun _ => rfl, fun _ => rfl, fun _ => rfl, fun _ => rfl, fun _ => rfl, fun _ => rfl, fun _ => rfl, fun _ => rfl, fun _ => rfl, fun _ => rfl, fun _ => rfl, fun _ => rfl, fun _ => rfl, fun _ => rfl, fun _ => rfl, fun _ => rfl, fun _ => rfl, fun _ => rfl, fun _ => rfl, fun _ => rfl, fun _ => rfl, fun _ => rfl, fun _ => rfl, fun _ => rfl, fun _ => rfl, off_of_on h_hl, fun _ => rfl, fun _ => rfl, fun _ => rfl, fun _ => rfl⟩)
    | with_reducible refine disagree_touch h_traffic h_ev h_hl h_outbox ?_
    | with_reducible refine modArr_touch h_arrays ?_
    | with_reducible refine touch_ite (fun _ => ?_) (fun _ => ?_)

theorem compareTick_touch {s : State} (h_arrays : W.arrays = true) (h_traffic : W.traffic = true) (h_ev : W.ev = true) (h_hl : W.hl = true) (h_outbox : W.outbox = true) (hs : ChangesOnly W s₀ s) :
    ChangesOnly W s₀ (compareTick s) := by
  unfold compareTick
  repeat' first
    | with_reducible assumption
    | with_reducible refine takeLive_touch h_traffic h_ev h_hl h_outbox ?_
    | with_reducible refine restrictUsed_touch h_arrays h_traffic h_ev h_hl h_outbox ?_
    | with_reducible refine touch_foldl ?_ (fun _ _ _ => ?_)
    | with_reducible refine touch_ite (fun _ => ?_) (fun _ => ?_)
    | split
    | (dsimp only; split)

theorem execHealthRead_touch {r : Req} {kind : Byte} {first : Half} {count : Half} {s : State} (h_wire : W.wire = true) (h_traffic : W.traffic = true) (h_outbox : W.outbox = true) (h_mail : W.mail = true) (hs : ChangesOnly W s₀ s) :
    TouchR W s₀ (execHealthRead r kind first count s) := by
  unfold execHealthRead
  repeat' first
    | with_reducible assumption
    | with_reducible refine touchR_next ?_
    | with_reducible refine serve_touch h_wire h_traffic h_outbox h_mail ?_ (fun _ _ => ?_)
    | with_reducible refine answer_touch h_wire h_traffic h_outbox h_mail ?_
    | with_reducible refine refuse_touch h_wire h_traffic h_outbox h_mail ?_
    | with_reducible refine touch_ite (fun _ => ?_) (fun _ => ?_)

theorem execHealthLog_touch {r : Req} {first : Word} {count : Word} {host : DWord} {s : State} (h_wire : W.wire = true) (h_traffic : W.traffic = true) (h_outbox : W.outbox = true) (h_mail : W.mail = true) (hs : ChangesOnly W s₀ s) :
    TouchR W s₀ (execHealthLog r first count host s) := by
  unfold execHealthLog
  repeat' first
    | with_reducible assumption
    | with_reducible refine touchR_next ?_
    | with_reducible refine serveC_touch h_wire h_traffic h_outbox h_mail ?_ (fun _ _ => ?_)
    | with_reducible refine refuse_touch h_wire h_traffic h_outbox h_mail ?_
    | with_reducible refine accept_touch h_wire h_traffic h_outbox h_mail ?_
    | with_reducible refine touch_ite (fun _ => ?_) (fun _ => ?_)

theorem execHealthLogDone_touch {r : Req} {s : State} (h_host : W.host = true) (h_wire : W.wire = true) (h_traffic : W.traffic = true) (h_outbox : W.outbox = true) (h_mail : W.mail = true) (hs : ChangesOnly W s₀ s) :
    TouchR W s₀ (execHealthLogDone r s) := by
  unfold execHealthLogDone
  repeat' first
    | with_reducible assumption
    | with_reducible refine touchR_next ?_
    | with_reducible refine writeHost_touch h_host ?_
    | with_reducible refine closeCommand_touch h_mail ?_
    | with_reducible refine respond_touch h_wire h_traffic h_outbox h_mail ?_
    | split

theorem marginFailure_touch {s : State} {t : Nat} {u : UnitRef} {item : Nat} {pattern : Nat} (h_tiles : W.tiles = true) (hs : ChangesOnly W s₀ s) :
    ChangesOnly W s₀ (marginFailure s t u item pattern) := by
  unfold marginFailure
  repeat' first
    | with_reducible assumption
    | with_reducible refine modTile_touch h_tiles ?_

theorem repeatPassed_touch {s : State} {u : UnitRef} (h_traffic : W.traffic = true) (h_ev : W.ev = true) (h_hl : W.hl = true) (h_outbox : W.outbox = true) (hs : ChangesOnly W s₀ s) :
    ChangesOnly W s₀ (repeatPassed s u) := by
  unfold repeatPassed
  repeat' first
    | with_reducible assumption
    | with_reducible refine modHealth_touch h_hl ?_
    | with_reducible refine charge_touch h_traffic h_ev h_hl h_outbox ?_
    | with_reducible refine raise_touch h_traffic h_ev h_outbox ?_

theorem repeatFailed_touch {s : State} {u : UnitRef} (h_traffic : W.traffic = true) (h_ev : W.ev = true) (h_hl : W.hl = true) (h_outbox : W.outbox = true) (hs : ChangesOnly W s₀ s) :
    ChangesOnly W s₀ (repeatFailed s u) := by
  unfold repeatFailed
  repeat' first
    | with_reducible assumption
    | with_reducible refine charge_touch h_traffic h_ev h_hl h_outbox ?_
    | with_reducible refine raise_touch h_traffic h_ev h_outbox ?_

theorem runRepeat_touch {s : State} {t : Nat} {x : TestRepeat} {pass : Bool} (h_tiles : W.tiles = true) (h_traffic : W.traffic = true) (h_ev : W.ev = true) (h_hl : W.hl = true) (h_outbox : W.outbox = true) (hs : ChangesOnly W s₀ s) :
    ChangesOnly W s₀ (runRepeat s t x pass) := by
  unfold runRepeat
  repeat' first
    | with_reducible assumption
    | with_reducible refine modTile_touch h_tiles ?_
    | with_reducible refine repeatPassed_touch h_traffic h_ev h_hl h_outbox ?_
    | with_reducible refine repeatFailed_touch h_traffic h_ev h_hl h_outbox ?_
    | with_reducible refine touch_ite (fun _ => ?_) (fun _ => ?_)

theorem testReadback_touch {s : State} {k : Nat} {q : Nat} {reads : List CellRead} (h_arrays : W.arrays = true) (h_cells : W.cells = true) (hs : ChangesOnly W s₀ s) :
    ChangesOnly W s₀ (testReadback s k q reads) := by
  unfold testReadback
  repeat' first
    | with_reducible assumption
    | with_reducible refine applyReads_touch h_cells ?_
    | with_reducible refine modArr_touch h_arrays ?_

theorem runItems_touch {s : State} {t : Nat} {v : Nat} {arrayPass : Bool} {enginePass : Bool} {reads : List CellRead} (h_tiles : W.tiles = true) (h_arrays : W.arrays = true) (h_cells : W.cells = true) (hs : ChangesOnly W s₀ s) :
    ChangesOnly W s₀ (runItems s t v arrayPass enginePass reads) := by
  unfold runItems
  repeat' first
    | with_reducible assumption
    | with_reducible refine testReadback_touch h_arrays h_cells ?_
    | with_reducible refine marginFailure_touch h_tiles ?_
    | with_reducible refine touch_ite (fun _ => ?_) (fun _ => ?_)

theorem runQuarantined_touch {s : State} {t : Nat} {v : Nat} {arrayPass : Bool} {reads : List CellRead} (h_tiles : W.tiles = true) (h_arrays : W.arrays = true) (h_cells : W.cells = true) (hs : ChangesOnly W s₀ s) :
    ChangesOnly W s₀ (runQuarantined s t v arrayPass reads) := by
  unfold runQuarantined
  repeat' first
    | with_reducible assumption
    | with_reducible refine testReadback_touch h_arrays h_cells ?_
    | with_reducible refine modArr_touch h_arrays ?_
    | with_reducible refine marginFailure_touch h_tiles ?_
    | with_reducible refine touch_ite (fun _ => ?_) (fun _ => ?_)
    | split

theorem skipTest_touch {s : State} {t : Nat} (h_tiles : W.tiles = true) (h_hl : W.hl = true) (hs : ChangesOnly W s₀ s) :
    ChangesOnly W s₀ (skipTest s t) := by
  unfold skipTest
  repeat' first
    | with_reducible assumption
    | with_reducible refine modHealth_touch h_hl ?_
    | with_reducible refine modTile_touch h_tiles ?_

theorem execTestSlotRun_touch {arrayPass : Bool} {enginePass : Bool} {reads : List CellRead} {s : State} (h_tiles : W.tiles = true) (h_arrays : W.arrays = true) (h_cells : W.cells = true) (h_traffic : W.traffic = true) (h_ev : W.ev = true) (h_hl : W.hl = true) (h_outbox : W.outbox = true) (hs : ChangesOnly W s₀ s) :
    TouchR W s₀ (execTestSlotRun arrayPass enginePass reads s) := by
  unfold execTestSlotRun
  repeat' first
    | with_reducible assumption
    | with_reducible refine touchR_next ?_
    | with_reducible refine skipTest_touch h_tiles h_hl ?_
    | with_reducible refine runRepeat_touch h_tiles h_traffic h_ev h_hl h_outbox ?_
    | with_reducible refine runItems_touch h_tiles h_arrays h_cells ?_
    | with_reducible refine runQuarantined_touch h_tiles h_arrays h_cells ?_
    | with_reducible refine touch_ite (fun _ => ?_) (fun _ => ?_)
    | split

theorem cleanVisit_touch {t : List UnitRef} {s : State} {u : UnitRef} (h_hl : W.hl = true) (hs : ChangesOnly W s₀ s) :
    ChangesOnly W s₀ (cleanVisit t s u) := by
  unfold cleanVisit
  repeat' first
    | with_reducible assumption
    | with_reducible refine modHealth_touch h_hl ?_
    | with_reducible refine touch_ite (fun _ => ?_) (fun _ => ?_)

theorem endVisit_touch {s : State} {t : Nat} (h_tiles : W.tiles = true) (h_traffic : W.traffic = true) (h_ev : W.ev = true) (h_hl : W.hl = true) (h_outbox : W.outbox = true) (hs : ChangesOnly W s₀ s) :
    ChangesOnly W s₀ (endVisit s t) := by
  unfold endVisit
  repeat' first
    | with_reducible assumption
    | with_reducible refine repeatPassed_touch h_traffic h_ev h_hl h_outbox ?_
    | with_reducible refine cleanVisit_touch h_hl ?_
    | with_reducible refine modTile_touch h_tiles ?_
    | with_reducible refine touch_foldl ?_ (fun _ _ _ => ?_)

theorem visitTick_touch {s : State} {t : Nat} (h_tiles : W.tiles = true) (h_traffic : W.traffic = true) (h_ev : W.ev = true) (h_hl : W.hl = true) (h_outbox : W.outbox = true) (hs : ChangesOnly W s₀ s) :
    ChangesOnly W s₀ (visitTick s t) := by
  unfold visitTick
  repeat' first
    | with_reducible assumption
    | with_reducible refine endVisit_touch h_tiles h_traffic h_ev h_hl h_outbox ?_
    | with_reducible refine touch_ite (fun _ => ?_) (fun _ => ?_)

theorem execSelftest_touch {r : Req} {s : State} (h_wire : W.wire = true) (h_traffic : W.traffic = true) (h_pin : W.pin = true) (h_outbox : W.outbox = true) (h_mail : W.mail = true) (hs : ChangesOnly W s₀ s) :
    TouchR W s₀ (execSelftest r s) := by
  unfold execSelftest
  repeat' first
    | with_reducible assumption
    | with_reducible refine touchR_next ?_
    | with_reducible refine serveC_touch h_wire h_traffic h_outbox h_mail ?_ (fun _ _ => ?_)
    | with_reducible refine refuse_touch h_wire h_traffic h_outbox h_mail ?_
    | with_reducible refine recoverySelftest_touch h_pin ?_
    | with_reducible refine accept_touch h_wire h_traffic h_outbox h_mail ?_
    | with_reducible refine touch_ite (fun _ => ?_) (fun _ => ?_)

theorem selftestNominal_touch {s : State} {u : UnitRef} (h_traffic : W.traffic = true) (h_pin : W.pin = true) (h_ev : W.ev = true) (h_hl : W.hl = true) (h_outbox : W.outbox = true) (hs : ChangesOnly W s₀ s) :
    ChangesOnly W s₀ (selftestNominal s u) := by
  unfold selftestNominal
  repeat' first
    | with_reducible assumption
    | fail_if_no_progress (with_reducible refine touch_mk ?_ ⟨rfl, rfl, fun _ => rfl, fun _ => rfl, fun _ => rfl, fun _ => rfl, fun _ => rfl, fun _ => rfl, fun _ => rfl, fun _ => rfl, fun _ => rfl, fun _ => rfl, fun _ => rfl, fun _ => rfl, fun _ => rfl, fun _ => rfl, fun _ => rfl, fun _ => rfl, fun _ => rfl, fun _ => rfl, fun _ => rfl, fun _ => rfl, fun _ => rfl, fun _ => rfl, fun _ => rfl, off_of_on h_pin, fun _ => rfl, fun _ => rfl, fun _ => rfl, fun _ => rfl, fun _ => rfl, fun _ => rfl, fun _ => rfl⟩)
    | with_reducible refine charge_touch h_traffic h_ev h_hl h_outbox ?_
    | with_reducible refine raise_touch h_traffic h_ev h_outbox ?_

theorem selftestMargin_touch {s : State} {u : UnitRef} (h_traffic : W.traffic = true) (h_pin : W.pin = true) (h_ev : W.ev = true) (h_hl : W.hl = true) (h_outbox : W.outbox = true) (hs : ChangesOnly W s₀ s) :
    ChangesOnly W s₀ (selftestMargin s u) := by
  unfold selftestMargin
  repeat' first
    | with_reducible assumption
    | fail_if_no_progress (with_reducible refine touch_mk ?_ ⟨rfl, rfl, fun _ => rfl, fun _ => rfl, fun _ => rfl, fun _ => rfl, fun _ => rfl, fun _ => rfl, fun _ => rfl, fun _ => rfl, fun _ => rfl, fun _ => rfl, fun _ => rfl, fun _ => rfl, fun _ => rfl, fun _ => rfl, fun _ => rfl, fun _ => rfl, fun _ => rfl, fun _ => rfl, fun _ => rfl, fun _ => rfl, fun _ => rfl, fun _ => rfl, fun _ => rfl, off_of_on h_pin, fun _ => rfl, fun _ => rfl, fun _ => rfl, fun _ => rfl, fun _ => rfl, fun _ => rfl, fun _ => rfl⟩)
    | with_reducible refine modHealth_touch h_hl ?_
    | with_reducible refine charge_touch h_traffic h_ev h_hl h_outbox ?_

theorem selftestMemories_touch {s : State} {t : Nat} (h_hbm : W.hbm = true) (h_tileMem : W.tileMem = true) (h_lakes : W.lakes = true) (hs : ChangesOnly W s₀ s) :
    ChangesOnly W s₀ (selftestMemories s t) := by
  unfold selftestMemories
  repeat' first
    | with_reducible assumption
    | fail_if_no_progress (with_reducible refine touch_mk ?_ ⟨rfl, rfl, fun _ => rfl, fun _ => rfl, fun _ => rfl, fun _ => rfl, fun _ => rfl, fun _ => rfl, fun _ => rfl, fun _ => rfl, fun _ => rfl, fun _ => rfl, off_of_on h_hbm, off_of_on h_tileMem, fun _ => rfl, fun _ => rfl, fun _ => rfl, fun _ => rfl, fun _ => rfl, fun _ => rfl, off_of_on h_lakes, fun _ => rfl, fun _ => rfl, fun _ => rfl, fun _ => rfl, fun _ => rfl, fun _ => rfl, fun _ => rfl, fun _ => rfl, fun _ => rfl, fun _ => rfl, fun _ => rfl, fun _ => rfl⟩)

theorem execSelftestTile_touch {nominalFails : List UnitRef} {marginFails : List UnitRef} {s : State} (h_free : W.free = true) (h_runs : W.runs = true) (h_arrays : W.arrays = true) (h_hbm : W.hbm = true) (h_tileMem : W.tileMem = true) (h_lakes : W.lakes = true) (h_traffic : W.traffic = true) (h_pin : W.pin = true) (h_ev : W.ev = true) (h_hl : W.hl = true) (h_outbox : W.outbox = true) (hs : ChangesOnly W s₀ s) :
    TouchR W s₀ (execSelftestTile nominalFails marginFails s) := by
  unfold execSelftestTile
  repeat' first
    | with_reducible assumption
    | fail_if_no_progress (with_reducible refine touch_mk ?_ ⟨rfl, rfl, fun _ => rfl, fun _ => rfl, fun _ => rfl, fun _ => rfl, fun _ => rfl, fun _ => rfl, fun _ => rfl, fun _ => rfl, fun _ => rfl, fun _ => rfl, fun _ => rfl, fun _ => rfl, fun _ => rfl, fun _ => rfl, fun _ => rfl, fun _ => rfl, fun _ => rfl, fun _ => rfl, fun _ => rfl, fun _ => rfl, fun _ => rfl, fun _ => rfl, fun _ => rfl, off_of_on h_pin, fun _ => rfl, fun _ => rfl, fun _ => rfl, fun _ => rfl, fun _ => rfl, fun _ => rfl, fun _ => rfl⟩)
    | with_reducible refine touchR_next ?_
    | with_reducible refine selftestMemories_touch h_hbm h_tileMem h_lakes ?_
    | with_reducible refine selftestNominal_touch h_traffic h_pin h_ev h_hl h_outbox ?_
    | with_reducible refine selftestMargin_touch h_traffic h_pin h_ev h_hl h_outbox ?_
    | with_reducible refine modHealth_touch h_hl ?_
    | with_reducible refine calibrate_touch h_free h_runs h_arrays h_traffic h_ev h_hl h_outbox ?_
    | with_reducible refine touch_foldl ?_ (fun _ _ _ => ?_)
    | with_reducible refine touch_ite (fun _ => ?_) (fun _ => ?_)
    | with_reducible refine touchR_ite (fun _ => ?_) (fun _ => ?_)

theorem execSelftestDone_touch {s : State} (h_runs : W.runs = true) (h_holds : W.holds = true) (h_frame : W.frame = true) (h_led : W.led = true) (h_arrays : W.arrays = true) (h_hbm : W.hbm = true) (h_wire : W.wire = true) (h_sync : W.sync = true) (h_plan : W.plan = true) (h_traffic : W.traffic = true) (h_pin : W.pin = true) (h_ctx : W.ctx = true) (h_ev : W.ev = true) (h_hl : W.hl = true) (h_outbox : W.outbox = true) (h_mail : W.mail = true) (hs : ChangesOnly W s₀ s) :
    TouchR W s₀ (execSelftestDone s) := by
  unfold execSelftestDone
  repeat' first
    | with_reducible assumption
    | fail_if_no_progress (with_reducible refine touch_mk ?_ ⟨rfl, rfl, fun _ => rfl, fun _ => rfl, fun _ => rfl, fun _ => rfl, fun _ => rfl, fun _ => rfl, fun _ => rfl, fun _ => rfl, fun _ => rfl, fun _ => rfl, fun _ => rfl, fun _ => rfl, fun _ => rfl, fun _ => rfl, fun _ => rfl, fun _ => rfl, fun _ => rfl, fun _ => rfl, fun _ => rfl, fun _ => rfl, fun _ => rfl, fun _ => rfl, fun _ => rfl, off_of_on h_pin, fun _ => rfl, fun _ => rfl, fun _ => rfl, fun _ => rfl, fun _ => rfl, fun _ => rfl, fun _ => rfl⟩)
    | with_reducible refine touchR_next ?_
    | with_reducible refine respond_touch h_wire h_traffic h_outbox h_mail ?_
    | with_reducible refine changeEvent_touch h_traffic h_ev h_outbox ?_
    | with_reducible refine closeCommand_touch h_mail ?_
    | with_reducible refine resumeLoad_touch h_runs h_holds h_frame h_led h_arrays h_hbm h_wire h_sync h_plan h_traffic h_ctx h_ev h_hl h_outbox h_mail ?_
    | with_reducible refine touch_ite (fun _ => ?_) (fun _ => ?_)
    | split

theorem restart_touch {clean : Bool} {s : State} (h_free : W.free = true) (h_cycle : W.cycle = true) (h_runs : W.runs = true) (h_holds : W.holds = true) (h_frame : W.frame = true) (h_led : W.led = true) (h_tiles : W.tiles = true) (h_arrays : W.arrays = true) (h_cells : W.cells = true) (h_ops : W.ops = true) (h_hbm : W.hbm = true) (h_tileMem : W.tileMem = true) (h_host : W.host = true) (h_upd : W.upd = true) (h_num : W.num = true) (h_wire : W.wire = true) (h_sync : W.sync = true) (h_plan : W.plan = true) (h_lakes : W.lakes = true) (h_pow : W.pow = true) (h_aom : W.aom = true) (h_traffic : W.traffic = true) (h_cnt : W.cnt = true) (h_pin : W.pin = true) (h_ctx : W.ctx = true) (h_ev : W.ev = true) (h_hl : W.hl = true) (h_outbox : W.outbox = true) (h_mail : W.mail = true) (h_settings : W.settings = true) (h_keys : W.keys = true) (hs : ChangesOnly W s₀ s) :
    ChangesOnly W s₀ (restart clean s) := by
  unfold restart
  repeat' first
    | with_reducible assumption
    | fail_if_no_progress (with_reducible refine touch_mk ?_ ⟨rfl, rfl, off_of_on h_free, off_of_on h_cycle, off_of_on h_runs, off_of_on h_holds, off_of_on h_frame, off_of_on h_led, off_of_on h_tiles, off_of_on h_arrays, off_of_on h_cells, off_of_on h_ops, off_of_on h_hbm, off_of_on h_tileMem, off_of_on h_host, off_of_on h_upd, off_of_on h_num, off_of_on h_wire, off_of_on h_sync, off_of_on h_plan, off_of_on h_lakes, off_of_on h_pow, off_of_on h_aom, off_of_on h_traffic, off_of_on h_cnt, off_of_on h_pin, off_of_on h_ctx, off_of_on h_ev, off_of_on h_hl, off_of_on h_outbox, off_of_on h_mail, off_of_on h_settings, off_of_on h_keys⟩)

theorem coldReset_touch {clean : Bool} {s : State} (h_free : W.free = true) (h_cycle : W.cycle = true) (h_runs : W.runs = true) (h_holds : W.holds = true) (h_frame : W.frame = true) (h_led : W.led = true) (h_tiles : W.tiles = true) (h_arrays : W.arrays = true) (h_cells : W.cells = true) (h_ops : W.ops = true) (h_hbm : W.hbm = true) (h_tileMem : W.tileMem = true) (h_host : W.host = true) (h_upd : W.upd = true) (h_num : W.num = true) (h_wire : W.wire = true) (h_sync : W.sync = true) (h_plan : W.plan = true) (h_lakes : W.lakes = true) (h_pow : W.pow = true) (h_aom : W.aom = true) (h_traffic : W.traffic = true) (h_cnt : W.cnt = true) (h_pin : W.pin = true) (h_ctx : W.ctx = true) (h_ev : W.ev = true) (h_hl : W.hl = true) (h_outbox : W.outbox = true) (h_mail : W.mail = true) (h_settings : W.settings = true) (h_keys : W.keys = true) (hs : ChangesOnly W s₀ s) :
    ChangesOnly W s₀ (coldReset clean s) := by
  unfold coldReset
  repeat' first
    | with_reducible assumption
    | fail_if_no_progress (with_reducible refine touch_mk ?_ ⟨rfl, rfl, off_of_on h_free, off_of_on h_cycle, off_of_on h_runs, off_of_on h_holds, off_of_on h_frame, off_of_on h_led, off_of_on h_tiles, off_of_on h_arrays, off_of_on h_cells, off_of_on h_ops, off_of_on h_hbm, off_of_on h_tileMem, off_of_on h_host, off_of_on h_upd, off_of_on h_num, off_of_on h_wire, off_of_on h_sync, off_of_on h_plan, off_of_on h_lakes, off_of_on h_pow, off_of_on h_aom, off_of_on h_traffic, off_of_on h_cnt, off_of_on h_pin, off_of_on h_ctx, off_of_on h_ev, off_of_on h_hl, off_of_on h_outbox, off_of_on h_mail, off_of_on h_settings, off_of_on h_keys⟩)
    | with_reducible refine resetSettings_touch h_settings ?_
    | with_reducible refine restart_touch h_free h_cycle h_runs h_holds h_frame h_led h_tiles h_arrays h_cells h_ops h_hbm h_tileMem h_host h_upd h_num h_wire h_sync h_plan h_lakes h_pow h_aom h_traffic h_cnt h_pin h_ctx h_ev h_hl h_outbox h_mail h_settings h_keys ?_

theorem powerOnReset_touch {s : State} (h_free : W.free = true) (h_cycle : W.cycle = true) (h_runs : W.runs = true) (h_holds : W.holds = true) (h_frame : W.frame = true) (h_led : W.led = true) (h_tiles : W.tiles = true) (h_arrays : W.arrays = true) (h_cells : W.cells = true) (h_ops : W.ops = true) (h_hbm : W.hbm = true) (h_tileMem : W.tileMem = true) (h_host : W.host = true) (h_upd : W.upd = true) (h_num : W.num = true) (h_wire : W.wire = true) (h_sync : W.sync = true) (h_plan : W.plan = true) (h_lakes : W.lakes = true) (h_pow : W.pow = true) (h_aom : W.aom = true) (h_traffic : W.traffic = true) (h_cnt : W.cnt = true) (h_pin : W.pin = true) (h_ctx : W.ctx = true) (h_ev : W.ev = true) (h_hl : W.hl = true) (h_outbox : W.outbox = true) (h_mail : W.mail = true) (h_settings : W.settings = true) (h_keys : W.keys = true) (hs : ChangesOnly W s₀ s) :
    ChangesOnly W s₀ (powerOnReset s) := by
  unfold powerOnReset
  repeat' first
    | with_reducible assumption
    | fail_if_no_progress (with_reducible refine touch_mk ?_ ⟨rfl, rfl, off_of_on h_free, off_of_on h_cycle, off_of_on h_runs, off_of_on h_holds, off_of_on h_frame, off_of_on h_led, off_of_on h_tiles, off_of_on h_arrays, off_of_on h_cells, off_of_on h_ops, off_of_on h_hbm, off_of_on h_tileMem, off_of_on h_host, off_of_on h_upd, off_of_on h_num, off_of_on h_wire, off_of_on h_sync, off_of_on h_plan, off_of_on h_lakes, off_of_on h_pow, off_of_on h_aom, off_of_on h_traffic, off_of_on h_cnt, off_of_on h_pin, off_of_on h_ctx, off_of_on h_ev, off_of_on h_hl, off_of_on h_outbox, off_of_on h_mail, off_of_on h_settings, off_of_on h_keys⟩)
    | with_reducible refine coldReset_touch h_free h_cycle h_runs h_holds h_frame h_led h_tiles h_arrays h_cells h_ops h_hbm h_tileMem h_host h_upd h_num h_wire h_sync h_plan h_lakes h_pow h_aom h_traffic h_cnt h_pin h_ctx h_ev h_hl h_outbox h_mail h_settings h_keys ?_

theorem enterStage3_touch {s : State} (h_tileMem : W.tileMem = true) (h_lakes : W.lakes = true) (h_pin : W.pin = true) (hs : ChangesOnly W s₀ s) :
    ChangesOnly W s₀ (enterStage3 s) := by
  unfold enterStage3
  repeat' first
    | with_reducible assumption
    | fail_if_no_progress (with_reducible refine touch_mk ?_ ⟨rfl, rfl, fun _ => rfl, fun _ => rfl, fun _ => rfl, fun _ => rfl, fun _ => rfl, fun _ => rfl, fun _ => rfl, fun _ => rfl, fun _ => rfl, fun _ => rfl, fun _ => rfl, off_of_on h_tileMem, fun _ => rfl, fun _ => rfl, fun _ => rfl, fun _ => rfl, fun _ => rfl, fun _ => rfl, off_of_on h_lakes, fun _ => rfl, fun _ => rfl, fun _ => rfl, fun _ => rfl, off_of_on h_pin, fun _ => rfl, fun _ => rfl, fun _ => rfl, fun _ => rfl, fun _ => rfl, fun _ => rfl, fun _ => rfl⟩)

theorem warmReset_touch {s : State} (h_free : W.free = true) (h_cycle : W.cycle = true) (h_runs : W.runs = true) (h_holds : W.holds = true) (h_frame : W.frame = true) (h_led : W.led = true) (h_tiles : W.tiles = true) (h_arrays : W.arrays = true) (h_cells : W.cells = true) (h_ops : W.ops = true) (h_hbm : W.hbm = true) (h_tileMem : W.tileMem = true) (h_host : W.host = true) (h_upd : W.upd = true) (h_num : W.num = true) (h_wire : W.wire = true) (h_sync : W.sync = true) (h_plan : W.plan = true) (h_lakes : W.lakes = true) (h_pow : W.pow = true) (h_aom : W.aom = true) (h_traffic : W.traffic = true) (h_cnt : W.cnt = true) (h_pin : W.pin = true) (h_ctx : W.ctx = true) (h_ev : W.ev = true) (h_hl : W.hl = true) (h_outbox : W.outbox = true) (h_mail : W.mail = true) (h_settings : W.settings = true) (h_keys : W.keys = true) (hs : ChangesOnly W s₀ s) :
    ChangesOnly W s₀ (warmReset s) := by
  unfold warmReset
  repeat' first
    | with_reducible assumption
    | fail_if_no_progress (with_reducible refine touch_mk ?_ ⟨rfl, rfl, off_of_on h_free, off_of_on h_cycle, off_of_on h_runs, off_of_on h_holds, off_of_on h_frame, off_of_on h_led, off_of_on h_tiles, off_of_on h_arrays, off_of_on h_cells, off_of_on h_ops, off_of_on h_hbm, off_of_on h_tileMem, off_of_on h_host, off_of_on h_upd, off_of_on h_num, off_of_on h_wire, off_of_on h_sync, off_of_on h_plan, off_of_on h_lakes, off_of_on h_pow, off_of_on h_aom, off_of_on h_traffic, off_of_on h_cnt, off_of_on h_pin, off_of_on h_ctx, off_of_on h_ev, off_of_on h_hl, off_of_on h_outbox, off_of_on h_mail, off_of_on h_settings, off_of_on h_keys⟩)
    | with_reducible refine resetSettings_touch h_settings ?_
    | with_reducible refine restart_touch h_free h_cycle h_runs h_holds h_frame h_led h_tiles h_arrays h_cells h_ops h_hbm h_tileMem h_host h_upd h_num h_wire h_sync h_plan h_lakes h_pow h_aom h_traffic h_cnt h_pin h_ctx h_ev h_hl h_outbox h_mail h_settings h_keys ?_
    | with_reducible refine enterStage3_touch h_tileMem h_lakes h_pin ?_
    | with_reducible refine touch_ite (fun _ => ?_) (fun _ => ?_)

theorem orderlyStop_touch {s : State} (h_arrays : W.arrays = true) (h_hl : W.hl = true) (hs : ChangesOnly W s₀ s) :
    ChangesOnly W s₀ (orderlyStop s) := by
  unfold orderlyStop
  repeat' first
    | with_reducible assumption
    | with_reducible refine norWritten_touch h_hl ?_
    | with_reducible refine saveWear_touch h_arrays ?_

theorem execPowerOn_touch {s : State} (h_free : W.free = true) (h_cycle : W.cycle = true) (h_runs : W.runs = true) (h_holds : W.holds = true) (h_frame : W.frame = true) (h_led : W.led = true) (h_tiles : W.tiles = true) (h_arrays : W.arrays = true) (h_cells : W.cells = true) (h_ops : W.ops = true) (h_hbm : W.hbm = true) (h_tileMem : W.tileMem = true) (h_host : W.host = true) (h_upd : W.upd = true) (h_num : W.num = true) (h_wire : W.wire = true) (h_sync : W.sync = true) (h_plan : W.plan = true) (h_lakes : W.lakes = true) (h_pow : W.pow = true) (h_aom : W.aom = true) (h_traffic : W.traffic = true) (h_cnt : W.cnt = true) (h_pin : W.pin = true) (h_ctx : W.ctx = true) (h_ev : W.ev = true) (h_hl : W.hl = true) (h_outbox : W.outbox = true) (h_mail : W.mail = true) (h_settings : W.settings = true) (h_keys : W.keys = true) (hs : ChangesOnly W s₀ s) :
    TouchR W s₀ (execPowerOn s) := by
  unfold execPowerOn
  repeat' first
    | with_reducible assumption
    | with_reducible refine touchR_next ?_
    | with_reducible refine powerOnReset_touch h_free h_cycle h_runs h_holds h_frame h_led h_tiles h_arrays h_cells h_ops h_hbm h_tileMem h_host h_upd h_num h_wire h_sync h_plan h_lakes h_pow h_aom h_traffic h_cnt h_pin h_ctx h_ev h_hl h_outbox h_mail h_settings h_keys ?_

theorem trySlot_touch {s : State} {slot : Bool} (h_traffic : W.traffic = true) (h_pin : W.pin = true) (h_ev : W.ev = true) (h_outbox : W.outbox = true) (h_keys : W.keys = true) (hs : ChangesOnly W s₀ s) :
    ChangesOnly W s₀ (trySlot s slot).1 := by
  unfold trySlot
  repeat' first
    | with_reducible assumption
    | fail_if_no_progress (with_reducible refine touch_mk ?_ ⟨rfl, rfl, fun _ => rfl, fun _ => rfl, fun _ => rfl, fun _ => rfl, fun _ => rfl, fun _ => rfl, fun _ => rfl, fun _ => rfl, fun _ => rfl, fun _ => rfl, fun _ => rfl, fun _ => rfl, fun _ => rfl, fun _ => rfl, fun _ => rfl, fun _ => rfl, fun _ => rfl, fun _ => rfl, fun _ => rfl, fun _ => rfl, fun _ => rfl, fun _ => rfl, fun _ => rfl, off_of_on h_pin, fun _ => rfl, fun _ => rfl, fun _ => rfl, fun _ => rfl, fun _ => rfl, fun _ => rfl, off_of_on h_keys⟩)
    | with_reducible refine raise_touch h_traffic h_ev h_outbox ?_
    | with_reducible refine touch_ite (fun _ => ?_) (fun _ => ?_)
    | split

theorem execFirmwareVerify_touch {s : State} (h_traffic : W.traffic = true) (h_pin : W.pin = true) (h_ev : W.ev = true) (h_outbox : W.outbox = true) (h_keys : W.keys = true) (hs : ChangesOnly W s₀ s) :
    TouchR W s₀ (execFirmwareVerify s) := by
  unfold execFirmwareVerify
  repeat' first
    | with_reducible assumption
    | fail_if_no_progress (with_reducible refine touch_mk ?_ ⟨rfl, rfl, fun _ => rfl, fun _ => rfl, fun _ => rfl, fun _ => rfl, fun _ => rfl, fun _ => rfl, fun _ => rfl, fun _ => rfl, fun _ => rfl, fun _ => rfl, fun _ => rfl, fun _ => rfl, fun _ => rfl, fun _ => rfl, fun _ => rfl, fun _ => rfl, fun _ => rfl, fun _ => rfl, fun _ => rfl, fun _ => rfl, fun _ => rfl, fun _ => rfl, fun _ => rfl, off_of_on h_pin, fun _ => rfl, fun _ => rfl, fun _ => rfl, fun _ => rfl, fun _ => rfl, fun _ => rfl, fun _ => rfl⟩)
    | with_reducible refine touchR_next ?_
    | with_reducible refine trySlot_touch h_traffic h_pin h_ev h_outbox h_keys ?_
    | with_reducible refine raise_touch h_traffic h_ev h_outbox ?_
    | with_reducible refine touch_ite (fun _ => ?_) (fun _ => ?_)
    | with_reducible refine touchR_ite (fun _ => ?_) (fun _ => ?_)

theorem execEometStart_touch {s : State} (h_aom : W.aom = true) (h_pin : W.pin = true) (hs : ChangesOnly W s₀ s) :
    TouchR W s₀ (execEometStart s) := by
  unfold execEometStart
  repeat' first
    | with_reducible assumption
    | fail_if_no_progress (with_reducible refine touch_mk ?_ ⟨rfl, rfl, fun _ => rfl, fun _ => rfl, fun _ => rfl, fun _ => rfl, fun _ => rfl, fun _ => rfl, fun _ => rfl, fun _ => rfl, fun _ => rfl, fun _ => rfl, fun _ => rfl, fun _ => rfl, fun _ => rfl, fun _ => rfl, fun _ => rfl, fun _ => rfl, fun _ => rfl, fun _ => rfl, fun _ => rfl, fun _ => rfl, off_of_on h_aom, fun _ => rfl, fun _ => rfl, off_of_on h_pin, fun _ => rfl, fun _ => rfl, fun _ => rfl, fun _ => rfl, fun _ => rfl, fun _ => rfl, fun _ => rfl⟩)
    | with_reducible refine touchR_next ?_
    | with_reducible refine touch_ite (fun _ => ?_) (fun _ => ?_)
    | with_reducible refine touchR_ite (fun _ => ?_) (fun _ => ?_)

theorem execRailGroupEnable_touch {g : RailGroup} {s : State} (h_pin : W.pin = true) (hs : ChangesOnly W s₀ s) :
    TouchR W s₀ (execRailGroupEnable g s) := by
  unfold execRailGroupEnable
  repeat' first
    | with_reducible assumption
    | fail_if_no_progress (with_reducible refine touch_mk ?_ ⟨rfl, rfl, fun _ => rfl, fun _ => rfl, fun _ => rfl, fun _ => rfl, fun _ => rfl, fun _ => rfl, fun _ => rfl, fun _ => rfl, fun _ => rfl, fun _ => rfl, fun _ => rfl, fun _ => rfl, fun _ => rfl, fun _ => rfl, fun _ => rfl, fun _ => rfl, fun _ => rfl, fun _ => rfl, fun _ => rfl, fun _ => rfl, fun _ => rfl, fun _ => rfl, fun _ => rfl, off_of_on h_pin, fun _ => rfl, fun _ => rfl, fun _ => rfl, fun _ => rfl, fun _ => rfl, fun _ => rfl, fun _ => rfl⟩)
    | with_reducible refine touchR_next ?_
    | with_reducible refine touch_ite (fun _ => ?_) (fun _ => ?_)

theorem execPowerGoodAssert_touch {g : RailGroup} {s : State} (h_tileMem : W.tileMem = true) (h_lakes : W.lakes = true) (h_pin : W.pin = true) (hs : ChangesOnly W s₀ s) :
    TouchR W s₀ (execPowerGoodAssert g s) := by
  unfold execPowerGoodAssert
  repeat' first
    | with_reducible assumption
    | fail_if_no_progress (with_reducible refine touch_mk ?_ ⟨rfl, rfl, fun _ => rfl, fun _ => rfl, fun _ => rfl, fun _ => rfl, fun _ => rfl, fun _ => rfl, fun _ => rfl, fun _ => rfl, fun _ => rfl, fun _ => rfl, fun _ => rfl, fun _ => rfl, fun _ => rfl, fun _ => rfl, fun _ => rfl, fun _ => rfl, fun _ => rfl, fun _ => rfl, fun _ => rfl, fun _ => rfl, fun _ => rfl, fun _ => rfl, fun _ => rfl, off_of_on h_pin, fun _ => rfl, fun _ => rfl, fun _ => rfl, fun _ => rfl, fun _ => rfl, fun _ => rfl, fun _ => rfl⟩)
    | with_reducible refine touchR_next ?_
    | with_reducible refine enterStage3_touch h_tileMem h_lakes h_pin ?_
    | with_reducible refine touch_ite (fun _ => ?_) (fun _ => ?_)
    | with_reducible refine touchR_ite (fun _ => ?_) (fun _ => ?_)

theorem execPowerGoodTimeout_touch {g : RailGroup} {s : State} (h_runs : W.runs = true) (h_frame : W.frame = true) (h_tiles : W.tiles = true) (h_arrays : W.arrays = true) (h_ops : W.ops = true) (h_hbm : W.hbm = true) (h_tileMem : W.tileMem = true) (h_upd : W.upd = true) (h_wire : W.wire = true) (h_plan : W.plan = true) (h_lakes : W.lakes = true) (h_traffic : W.traffic = true) (h_pin : W.pin = true) (h_ev : W.ev = true) (h_outbox : W.outbox = true) (hs : ChangesOnly W s₀ s) :
    TouchR W s₀ (execPowerGoodTimeout g s) := by
  unfold execPowerGoodTimeout
  repeat' first
    | with_reducible assumption
    | fail_if_no_progress (with_reducible refine touch_mk ?_ ⟨rfl, rfl, fun _ => rfl, fun _ => rfl, fun _ => rfl, fun _ => rfl, fun _ => rfl, fun _ => rfl, fun _ => rfl, fun _ => rfl, fun _ => rfl, fun _ => rfl, fun _ => rfl, fun _ => rfl, fun _ => rfl, fun _ => rfl, fun _ => rfl, fun _ => rfl, fun _ => rfl, fun _ => rfl, fun _ => rfl, fun _ => rfl, fun _ => rfl, fun _ => rfl, fun _ => rfl, off_of_on h_pin, fun _ => rfl, fun _ => rfl, fun _ => rfl, fun _ => rfl, fun _ => rfl, fun _ => rfl, fun _ => rfl⟩)
    | with_reducible refine touchR_next ?_
    | exact touchR_fault
    | with_reducible refine removeRails_touch h_runs h_frame h_tiles h_arrays h_ops h_hbm h_tileMem h_upd h_wire h_plan h_lakes h_pin ?_
    | with_reducible refine raise_touch h_traffic h_ev h_outbox ?_
    | with_reducible refine touch_ite (fun _ => ?_) (fun _ => ?_)
    | with_reducible refine touchR_ite (fun _ => ?_) (fun _ => ?_)

theorem execPowerGoodLoss_touch {g : RailGroup} {cyc : Nat} {s : State} (h_cycle : W.cycle = true) (h_sync : W.sync = true) (h_pow : W.pow = true) (h_traffic : W.traffic = true) (h_pin : W.pin = true) (h_ev : W.ev = true) (h_outbox : W.outbox = true) (hs : ChangesOnly W s₀ s) :
    TouchR W s₀ (execPowerGoodLoss g cyc s) := by
  unfold execPowerGoodLoss
  repeat' first
    | with_reducible assumption
    | fail_if_no_progress (with_reducible refine touch_mk ?_ ⟨rfl, rfl, fun _ => rfl, fun _ => rfl, fun _ => rfl, fun _ => rfl, fun _ => rfl, fun _ => rfl, fun _ => rfl, fun _ => rfl, fun _ => rfl, fun _ => rfl, fun _ => rfl, fun _ => rfl, fun _ => rfl, fun _ => rfl, fun _ => rfl, fun _ => rfl, fun _ => rfl, fun _ => rfl, fun _ => rfl, fun _ => rfl, fun _ => rfl, fun _ => rfl, fun _ => rfl, off_of_on h_pin, fun _ => rfl, fun _ => rfl, fun _ => rfl, fun _ => rfl, fun _ => rfl, fun _ => rfl, fun _ => rfl⟩)
    | with_reducible refine touchR_next ?_
    | exact touchR_fault
    | with_reducible refine atCycle_touch h_cycle ?_
    | with_reducible refine latch_touch h_pin ?_
    | with_reducible refine powerDown_touch h_sync h_pow h_pin ?_
    | with_reducible refine raise_touch h_traffic h_ev h_outbox ?_
    | with_reducible refine touch_foldl ?_ (fun _ _ _ => ?_)
    | with_reducible refine touch_ite (fun _ => ?_) (fun _ => ?_)
    | with_reducible refine touchR_ite (fun _ => ?_) (fun _ => ?_)

theorem execPgAonLoss_touch {s : State} (h_free : W.free = true) (h_cycle : W.cycle = true) (h_runs : W.runs = true) (h_holds : W.holds = true) (h_frame : W.frame = true) (h_led : W.led = true) (h_tiles : W.tiles = true) (h_arrays : W.arrays = true) (h_cells : W.cells = true) (h_ops : W.ops = true) (h_hbm : W.hbm = true) (h_tileMem : W.tileMem = true) (h_host : W.host = true) (h_upd : W.upd = true) (h_num : W.num = true) (h_wire : W.wire = true) (h_sync : W.sync = true) (h_plan : W.plan = true) (h_lakes : W.lakes = true) (h_pow : W.pow = true) (h_aom : W.aom = true) (h_traffic : W.traffic = true) (h_cnt : W.cnt = true) (h_pin : W.pin = true) (h_ctx : W.ctx = true) (h_ev : W.ev = true) (h_hl : W.hl = true) (h_outbox : W.outbox = true) (h_mail : W.mail = true) (h_settings : W.settings = true) (h_keys : W.keys = true) (hs : ChangesOnly W s₀ s) :
    TouchR W s₀ (execPgAonLoss s) := by
  unfold execPgAonLoss
  repeat' first
    | with_reducible assumption
    | fail_if_no_progress (with_reducible refine touch_mk ?_ ⟨rfl, rfl, fun _ => rfl, fun _ => rfl, fun _ => rfl, fun _ => rfl, fun _ => rfl, fun _ => rfl, fun _ => rfl, fun _ => rfl, fun _ => rfl, fun _ => rfl, fun _ => rfl, fun _ => rfl, fun _ => rfl, fun _ => rfl, fun _ => rfl, fun _ => rfl, fun _ => rfl, fun _ => rfl, fun _ => rfl, fun _ => rfl, fun _ => rfl, fun _ => rfl, fun _ => rfl, off_of_on h_pin, fun _ => rfl, fun _ => rfl, fun _ => rfl, fun _ => rfl, fun _ => rfl, fun _ => rfl, fun _ => rfl⟩)
    | with_reducible refine touchR_next ?_
    | with_reducible refine restart_touch h_free h_cycle h_runs h_holds h_frame h_led h_tiles h_arrays h_cells h_ops h_hbm h_tileMem h_host h_upd h_num h_wire h_sync h_plan h_lakes h_pow h_aom h_traffic h_cnt h_pin h_ctx h_ev h_hl h_outbox h_mail h_settings h_keys ?_

theorem execHbmTraining_touch {s : State} (h_pin : W.pin = true) (hs : ChangesOnly W s₀ s) :
    TouchR W s₀ (execHbmTraining s) := by
  unfold execHbmTraining
  repeat' first
    | with_reducible assumption
    | fail_if_no_progress (with_reducible refine touch_mk ?_ ⟨rfl, rfl, fun _ => rfl, fun _ => rfl, fun _ => rfl, fun _ => rfl, fun _ => rfl, fun _ => rfl, fun _ => rfl, fun _ => rfl, fun _ => rfl, fun _ => rfl, fun _ => rfl, fun _ => rfl, fun _ => rfl, fun _ => rfl, fun _ => rfl, fun _ => rfl, fun _ => rfl, fun _ => rfl, fun _ => rfl, fun _ => rfl, fun _ => rfl, fun _ => rfl, fun _ => rfl, off_of_on h_pin, fun _ => rfl, fun _ => rfl, fun _ => rfl, fun _ => rfl, fun _ => rfl, fun _ => rfl, fun _ => rfl⟩)
    | with_reducible refine touchR_next ?_
    | with_reducible refine touch_ite (fun _ => ?_) (fun _ => ?_)
    | with_reducible refine touchR_ite (fun _ => ?_) (fun _ => ?_)

theorem otpEntry_touch {s : State} (h_traffic : W.traffic = true) (h_ev : W.ev = true) (h_hl : W.hl = true) (h_outbox : W.outbox = true) (hs : ChangesOnly W s₀ s) :
    ChangesOnly W s₀ (otpEntry s) := by
  unfold otpEntry
  repeat' first
    | with_reducible assumption
    | with_reducible refine charge_touch h_traffic h_ev h_hl h_outbox ?_
    | with_reducible refine touch_ite (fun _ => ?_) (fun _ => ?_)

theorem execBootComplete_touch {s : State} (h_frame : W.frame = true) (h_traffic : W.traffic = true) (h_pin : W.pin = true) (h_ev : W.ev = true) (h_hl : W.hl = true) (h_outbox : W.outbox = true) (h_keys : W.keys = true) (hs : ChangesOnly W s₀ s) :
    TouchR W s₀ (execBootComplete s) := by
  unfold execBootComplete
  repeat' first
    | with_reducible assumption
    | fail_if_no_progress (with_reducible refine touch_mk ?_ ⟨rfl, rfl, fun _ => rfl, fun _ => rfl, fun _ => rfl, fun _ => rfl, off_of_on h_frame, fun _ => rfl, fun _ => rfl, fun _ => rfl, fun _ => rfl, fun _ => rfl, fun _ => rfl, fun _ => rfl, fun _ => rfl, fun _ => rfl, fun _ => rfl, fun _ => rfl, fun _ => rfl, fun _ => rfl, fun _ => rfl, fun _ => rfl, fun _ => rfl, fun _ => rfl, fun _ => rfl, off_of_on h_pin, fun _ => rfl, fun _ => rfl, fun _ => rfl, fun _ => rfl, fun _ => rfl, fun _ => rfl, off_of_on h_keys⟩)
    | with_reducible refine touchR_next ?_
    | with_reducible refine otpEntry_touch h_traffic h_ev h_hl h_outbox ?_
    | with_reducible refine raise_touch h_traffic h_ev h_outbox ?_
    | with_reducible refine touch_ite (fun _ => ?_) (fun _ => ?_)
    | with_reducible refine touchR_ite (fun _ => ?_) (fun _ => ?_)

theorem execSysRstNLow_touch {cyc : Nat} {s : State} (h_cycle : W.cycle = true) (h_runs : W.runs = true) (h_frame : W.frame = true) (h_tiles : W.tiles = true) (h_arrays : W.arrays = true) (h_ops : W.ops = true) (h_hbm : W.hbm = true) (h_tileMem : W.tileMem = true) (h_upd : W.upd = true) (h_wire : W.wire = true) (h_sync : W.sync = true) (h_plan : W.plan = true) (h_lakes : W.lakes = true) (h_pin : W.pin = true) (hs : ChangesOnly W s₀ s) :
    TouchR W s₀ (execSysRstNLow cyc s) := by
  unfold execSysRstNLow
  repeat' first
    | with_reducible assumption
    | fail_if_no_progress (with_reducible refine touch_mk ?_ ⟨rfl, rfl, fun _ => rfl, fun _ => rfl, fun _ => rfl, fun _ => rfl, fun _ => rfl, fun _ => rfl, fun _ => rfl, fun _ => rfl, fun _ => rfl, fun _ => rfl, fun _ => rfl, fun _ => rfl, fun _ => rfl, fun _ => rfl, fun _ => rfl, fun _ => rfl, fun _ => rfl, fun _ => rfl, fun _ => rfl, fun _ => rfl, fun _ => rfl, fun _ => rfl, fun _ => rfl, off_of_on h_pin, fun _ => rfl, fun _ => rfl, fun _ => rfl, fun _ => rfl, fun _ => rfl, fun _ => rfl, fun _ => rfl⟩)
    | with_reducible refine touchR_next ?_
    | with_reducible refine atCycle_touch h_cycle ?_
    | with_reducible refine expelByAom_touch h_sync ?_
    | with_reducible refine removeRails_touch h_runs h_frame h_tiles h_arrays h_ops h_hbm h_tileMem h_upd h_wire h_plan h_lakes h_pin ?_
    | with_reducible refine touch_ite (fun _ => ?_) (fun _ => ?_)

theorem execSysRstNRise_touch {s : State} (h_free : W.free = true) (h_cycle : W.cycle = true) (h_runs : W.runs = true) (h_holds : W.holds = true) (h_frame : W.frame = true) (h_led : W.led = true) (h_tiles : W.tiles = true) (h_arrays : W.arrays = true) (h_cells : W.cells = true) (h_ops : W.ops = true) (h_hbm : W.hbm = true) (h_tileMem : W.tileMem = true) (h_host : W.host = true) (h_upd : W.upd = true) (h_num : W.num = true) (h_wire : W.wire = true) (h_sync : W.sync = true) (h_plan : W.plan = true) (h_lakes : W.lakes = true) (h_pow : W.pow = true) (h_aom : W.aom = true) (h_traffic : W.traffic = true) (h_cnt : W.cnt = true) (h_pin : W.pin = true) (h_ctx : W.ctx = true) (h_ev : W.ev = true) (h_hl : W.hl = true) (h_outbox : W.outbox = true) (h_mail : W.mail = true) (h_settings : W.settings = true) (h_keys : W.keys = true) (hs : ChangesOnly W s₀ s) :
    TouchR W s₀ (execSysRstNRise s) := by
  unfold execSysRstNRise
  repeat' first
    | with_reducible assumption
    | fail_if_no_progress (with_reducible refine touch_mk ?_ ⟨rfl, rfl, fun _ => rfl, fun _ => rfl, fun _ => rfl, fun _ => rfl, fun _ => rfl, fun _ => rfl, fun _ => rfl, fun _ => rfl, fun _ => rfl, fun _ => rfl, fun _ => rfl, fun _ => rfl, fun _ => rfl, fun _ => rfl, fun _ => rfl, fun _ => rfl, fun _ => rfl, fun _ => rfl, fun _ => rfl, fun _ => rfl, fun _ => rfl, fun _ => rfl, fun _ => rfl, off_of_on h_pin, fun _ => rfl, fun _ => rfl, fun _ => rfl, fun _ => rfl, fun _ => rfl, fun _ => rfl, fun _ => rfl⟩)
    | with_reducible refine touchR_next ?_
    | with_reducible refine coldReset_touch h_free h_cycle h_runs h_holds h_frame h_led h_tiles h_arrays h_cells h_ops h_hbm h_tileMem h_host h_upd h_num h_wire h_sync h_plan h_lakes h_pow h_aom h_traffic h_cnt h_pin h_ctx h_ev h_hl h_outbox h_mail h_settings h_keys ?_
    | with_reducible refine touch_ite (fun _ => ?_) (fun _ => ?_)
    | with_reducible refine touchR_ite (fun _ => ?_) (fun _ => ?_)

theorem execThermalTrip_touch {die : Fin 6} {cyc : Nat} {s : State} (h_cycle : W.cycle = true) (h_sync : W.sync = true) (h_pow : W.pow = true) (h_traffic : W.traffic = true) (h_pin : W.pin = true) (h_ev : W.ev = true) (h_outbox : W.outbox = true) (hs : ChangesOnly W s₀ s) :
    TouchR W s₀ (execThermalTrip die cyc s) := by
  unfold execThermalTrip
  repeat' first
    | with_reducible assumption
    | fail_if_no_progress (with_reducible refine touch_mk ?_ ⟨rfl, rfl, fun _ => rfl, fun _ => rfl, fun _ => rfl, fun _ => rfl, fun _ => rfl, fun _ => rfl, fun _ => rfl, fun _ => rfl, fun _ => rfl, fun _ => rfl, fun _ => rfl, fun _ => rfl, fun _ => rfl, fun _ => rfl, fun _ => rfl, fun _ => rfl, fun _ => rfl, fun _ => rfl, fun _ => rfl, fun _ => rfl, fun _ => rfl, fun _ => rfl, fun _ => rfl, off_of_on h_pin, fun _ => rfl, fun _ => rfl, fun _ => rfl, fun _ => rfl, fun _ => rfl, fun _ => rfl, fun _ => rfl⟩)
    | with_reducible refine touchR_next ?_
    | with_reducible refine powerDown_touch h_sync h_pow h_pin ?_
    | with_reducible refine raise_touch h_traffic h_ev h_outbox ?_
    | with_reducible refine atCycle_touch h_cycle ?_

theorem execRefclkLoss_touch {cyc : Nat} {s : State} (h_cycle : W.cycle = true) (h_sync : W.sync = true) (h_pow : W.pow = true) (h_traffic : W.traffic = true) (h_pin : W.pin = true) (h_ev : W.ev = true) (h_outbox : W.outbox = true) (hs : ChangesOnly W s₀ s) :
    TouchR W s₀ (execRefclkLoss cyc s) := by
  unfold execRefclkLoss
  repeat' first
    | with_reducible assumption
    | fail_if_no_progress (with_reducible refine touch_mk ?_ ⟨rfl, rfl, fun _ => rfl, fun _ => rfl, fun _ => rfl, fun _ => rfl, fun _ => rfl, fun _ => rfl, fun _ => rfl, fun _ => rfl, fun _ => rfl, fun _ => rfl, fun _ => rfl, fun _ => rfl, fun _ => rfl, fun _ => rfl, fun _ => rfl, fun _ => rfl, fun _ => rfl, fun _ => rfl, fun _ => rfl, fun _ => rfl, fun _ => rfl, fun _ => rfl, fun _ => rfl, off_of_on h_pin, fun _ => rfl, fun _ => rfl, fun _ => rfl, fun _ => rfl, fun _ => rfl, fun _ => rfl, fun _ => rfl⟩)
    | with_reducible refine touchR_next ?_
    | with_reducible refine powerDown_touch h_sync h_pow h_pin ?_
    | with_reducible refine raise_touch h_traffic h_ev h_outbox ?_
    | with_reducible refine atCycle_touch h_cycle ?_

theorem execLinkrefLoss_touch {s : State} (h_wire : W.wire = true) (h_pin : W.pin = true) (hs : ChangesOnly W s₀ s) :
    TouchR W s₀ (execLinkrefLoss s) := by
  unfold execLinkrefLoss
  repeat' first
    | with_reducible assumption
    | fail_if_no_progress (with_reducible refine touch_mk ?_ ⟨rfl, rfl, fun _ => rfl, fun _ => rfl, fun _ => rfl, fun _ => rfl, fun _ => rfl, fun _ => rfl, fun _ => rfl, fun _ => rfl, fun _ => rfl, fun _ => rfl, fun _ => rfl, fun _ => rfl, fun _ => rfl, fun _ => rfl, fun _ => rfl, fun _ => rfl, fun _ => rfl, fun _ => rfl, fun _ => rfl, fun _ => rfl, fun _ => rfl, fun _ => rfl, fun _ => rfl, off_of_on h_pin, fun _ => rfl, fun _ => rfl, fun _ => rfl, fun _ => rfl, fun _ => rfl, fun _ => rfl, fun _ => rfl⟩)
    | with_reducible refine touchR_next ?_
    | with_reducible refine linkDown_touch h_wire ?_
    | with_reducible refine touch_foldl ?_ (fun _ _ _ => ?_)

theorem restartEomet_touch {s : State} (h_plan : W.plan = true) (h_traffic : W.traffic = true) (h_pin : W.pin = true) (h_ctx : W.ctx = true) (h_ev : W.ev = true) (h_outbox : W.outbox = true) (h_mail : W.mail = true) (h_settings : W.settings = true) (hs : ChangesOnly W s₀ s) :
    ChangesOnly W s₀ (restartEomet s) := by
  unfold restartEomet
  repeat' first
    | with_reducible assumption
    | fail_if_no_progress (with_reducible refine touch_mk ?_ ⟨rfl, rfl, fun _ => rfl, fun _ => rfl, fun _ => rfl, fun _ => rfl, fun _ => rfl, fun _ => rfl, fun _ => rfl, fun _ => rfl, fun _ => rfl, fun _ => rfl, fun _ => rfl, fun _ => rfl, fun _ => rfl, fun _ => rfl, fun _ => rfl, fun _ => rfl, fun _ => rfl, off_of_on h_plan, fun _ => rfl, fun _ => rfl, fun _ => rfl, fun _ => rfl, fun _ => rfl, off_of_on h_pin, off_of_on h_ctx, fun _ => rfl, fun _ => rfl, fun _ => rfl, off_of_on h_mail, off_of_on h_settings, fun _ => rfl⟩)
    | with_reducible refine raise_touch h_traffic h_ev h_outbox ?_

theorem execEometRestart_touch {s : State} (h_plan : W.plan = true) (h_traffic : W.traffic = true) (h_pin : W.pin = true) (h_ctx : W.ctx = true) (h_ev : W.ev = true) (h_outbox : W.outbox = true) (h_mail : W.mail = true) (h_settings : W.settings = true) (hs : ChangesOnly W s₀ s) :
    TouchR W s₀ (execEometRestart s) := by
  unfold execEometRestart
  repeat' first
    | with_reducible assumption
    | with_reducible refine touchR_next ?_
    | with_reducible refine restartEomet_touch h_plan h_traffic h_pin h_ctx h_ev h_outbox h_mail h_settings ?_
    | with_reducible refine touch_ite (fun _ => ?_) (fun _ => ?_)
    | with_reducible refine touchR_ite (fun _ => ?_) (fun _ => ?_)

theorem admitRequest_touch {s : State} {r : Req} {h : List Byte} (h_wire : W.wire = true) (h_traffic : W.traffic = true) (h_outbox : W.outbox = true) (h_mail : W.mail = true) (hs : ChangesOnly W s₀ s) :
    ChangesOnly W s₀ (admitRequest s r h) := by
  unfold admitRequest
  repeat' first
    | with_reducible assumption
    | with_reducible refine active_touch h_traffic ?_
    | with_reducible refine refuse_touch h_wire h_traffic h_outbox h_mail ?_
    | split
    | (dsimp only; split)

theorem ringDoorbell_touch {s : State} {slot : Nat} (h_wire : W.wire = true) (h_traffic : W.traffic = true) (h_ev : W.ev = true) (h_outbox : W.outbox = true) (h_mail : W.mail = true) (hs : ChangesOnly W s₀ s) :
    ChangesOnly W s₀ (ringDoorbell s slot) := by
  unfold ringDoorbell
  repeat' first
    | with_reducible assumption
    | fail_if_no_progress (with_reducible refine touch_mk ?_ ⟨rfl, rfl, fun _ => rfl, fun _ => rfl, fun _ => rfl, fun _ => rfl, fun _ => rfl, fun _ => rfl, fun _ => rfl, fun _ => rfl, fun _ => rfl, fun _ => rfl, fun _ => rfl, fun _ => rfl, fun _ => rfl, fun _ => rfl, fun _ => rfl, fun _ => rfl, fun _ => rfl, fun _ => rfl, fun _ => rfl, fun _ => rfl, fun _ => rfl, fun _ => rfl, fun _ => rfl, fun _ => rfl, fun _ => rfl, fun _ => rfl, fun _ => rfl, fun _ => rfl, off_of_on h_mail, fun _ => rfl, fun _ => rfl⟩)
    | with_reducible refine raise_touch h_traffic h_ev h_outbox ?_
    | with_reducible refine admitRequest_touch h_wire h_traffic h_outbox h_mail ?_
    | with_reducible refine touch_ite (fun _ => ?_) (fun _ => ?_)

theorem execDoorbell_touch {slot : Fin 16} {s : State} (h_wire : W.wire = true) (h_traffic : W.traffic = true) (h_pin : W.pin = true) (h_ev : W.ev = true) (h_outbox : W.outbox = true) (h_mail : W.mail = true) (hs : ChangesOnly W s₀ s) :
    TouchR W s₀ (execDoorbell slot s) := by
  unfold execDoorbell
  repeat' first
    | with_reducible assumption
    | fail_if_no_progress (with_reducible refine touch_mk ?_ ⟨rfl, rfl, fun _ => rfl, fun _ => rfl, fun _ => rfl, fun _ => rfl, fun _ => rfl, fun _ => rfl, fun _ => rfl, fun _ => rfl, fun _ => rfl, fun _ => rfl, fun _ => rfl, fun _ => rfl, fun _ => rfl, fun _ => rfl, fun _ => rfl, fun _ => rfl, fun _ => rfl, fun _ => rfl, fun _ => rfl, fun _ => rfl, fun _ => rfl, fun _ => rfl, fun _ => rfl, off_of_on h_pin, fun _ => rfl, fun _ => rfl, fun _ => rfl, fun _ => rfl, fun _ => rfl, fun _ => rfl, fun _ => rfl⟩)
    | with_reducible refine touchR_next ?_
    | with_reducible refine ringDoorbell_touch h_wire h_traffic h_ev h_outbox h_mail ?_

theorem putBar_touch {s : State} {off : Nat} {b : Byte} (h_mail : W.mail = true) (hs : ChangesOnly W s₀ s) :
    ChangesOnly W s₀ (putBar s off b) := by
  unfold putBar
  repeat' first
    | with_reducible assumption
    | fail_if_no_progress (with_reducible refine touch_mk ?_ ⟨rfl, rfl, fun _ => rfl, fun _ => rfl, fun _ => rfl, fun _ => rfl, fun _ => rfl, fun _ => rfl, fun _ => rfl, fun _ => rfl, fun _ => rfl, fun _ => rfl, fun _ => rfl, fun _ => rfl, fun _ => rfl, fun _ => rfl, fun _ => rfl, fun _ => rfl, fun _ => rfl, fun _ => rfl, fun _ => rfl, fun _ => rfl, fun _ => rfl, fun _ => rfl, fun _ => rfl, fun _ => rfl, fun _ => rfl, fun _ => rfl, fun _ => rfl, fun _ => rfl, off_of_on h_mail, fun _ => rfl, fun _ => rfl⟩)
    | with_reducible refine touch_ite (fun _ => ?_) (fun _ => ?_)

theorem execRegisterWrite_touch {off : BitVec 24} {data : List Byte} {s : State} (h_wire : W.wire = true) (h_traffic : W.traffic = true) (h_pin : W.pin = true) (h_ev : W.ev = true) (h_outbox : W.outbox = true) (h_mail : W.mail = true) (hs : ChangesOnly W s₀ s) :
    TouchR W s₀ (execRegisterWrite off data s) := by
  unfold execRegisterWrite
  repeat' first
    | with_reducible assumption
    | fail_if_no_progress (with_reducible refine touch_mk ?_ ⟨rfl, rfl, fun _ => rfl, fun _ => rfl, fun _ => rfl, fun _ => rfl, fun _ => rfl, fun _ => rfl, fun _ => rfl, fun _ => rfl, fun _ => rfl, fun _ => rfl, fun _ => rfl, fun _ => rfl, fun _ => rfl, fun _ => rfl, fun _ => rfl, fun _ => rfl, fun _ => rfl, fun _ => rfl, fun _ => rfl, fun _ => rfl, fun _ => rfl, fun _ => rfl, fun _ => rfl, off_of_on h_pin, fun _ => rfl, fun _ => rfl, fun _ => rfl, fun _ => rfl, fun _ => rfl, fun _ => rfl, fun _ => rfl⟩)
    | with_reducible refine touchR_next ?_
    | with_reducible refine putBar_touch h_mail ?_
    | with_reducible refine ringDoorbell_touch h_wire h_traffic h_ev h_outbox h_mail ?_
    | with_reducible refine touch_foldl ?_ (fun _ _ _ => ?_)

theorem authFailed_touch {s : State} (h_traffic : W.traffic = true) (h_ev : W.ev = true) (h_outbox : W.outbox = true) (h_mail : W.mail = true) (hs : ChangesOnly W s₀ s) :
    ChangesOnly W s₀ (authFailed s) := by
  unfold authFailed
  repeat' first
    | with_reducible assumption
    | fail_if_no_progress (with_reducible refine touch_mk ?_ ⟨rfl, rfl, fun _ => rfl, fun _ => rfl, fun _ => rfl, fun _ => rfl, fun _ => rfl, fun _ => rfl, fun _ => rfl, fun _ => rfl, fun _ => rfl, fun _ => rfl, fun _ => rfl, fun _ => rfl, fun _ => rfl, fun _ => rfl, fun _ => rfl, fun _ => rfl, fun _ => rfl, fun _ => rfl, fun _ => rfl, fun _ => rfl, fun _ => rfl, fun _ => rfl, fun _ => rfl, fun _ => rfl, fun _ => rfl, fun _ => rfl, fun _ => rfl, fun _ => rfl, off_of_on h_mail, fun _ => rfl, fun _ => rfl⟩)
    | with_reducible refine raise_touch h_traffic h_ev h_outbox ?_
    | with_reducible refine touch_ite (fun _ => ?_) (fun _ => ?_)

theorem mgmtRequest_touch {s : State} {addr : Word} {udp : Half} {seq : Word} {msg : List Byte} (h_wire : W.wire = true) (h_traffic : W.traffic = true) (h_outbox : W.outbox = true) (h_mail : W.mail = true) (hs : ChangesOnly W s₀ s) :
    ChangesOnly W s₀ (mgmtRequest s addr udp seq msg) := by
  unfold mgmtRequest
  repeat' first
    | with_reducible assumption
    | with_reducible refine sendFragments_touch h_traffic h_outbox ?_
    | with_reducible refine refuse_touch h_wire h_traffic h_outbox h_mail ?_
    | with_reducible refine admitRequest_touch h_wire h_traffic h_outbox h_mail ?_
    | with_reducible refine setSource_touch h_mail ?_
    | with_reducible refine touch_foldl ?_ (fun _ _ _ => ?_)
    | with_reducible refine touch_ite (fun _ => ?_) (fun _ => ?_)
    | split
    | (dsimp only; split)

theorem takeFragment_touch {s : State} {addr : Word} {udp : Half} {seq : Word} {frag : Nat} {payload : List Byte} (h_wire : W.wire = true) (h_traffic : W.traffic = true) (h_outbox : W.outbox = true) (h_mail : W.mail = true) (hs : ChangesOnly W s₀ s) :
    ChangesOnly W s₀ (takeFragment s addr udp seq frag payload) := by
  unfold takeFragment
  repeat' first
    | with_reducible assumption
    | fail_if_no_progress (with_reducible refine touch_mk ?_ ⟨rfl, rfl, fun _ => rfl, fun _ => rfl, fun _ => rfl, fun _ => rfl, fun _ => rfl, fun _ => rfl, fun _ => rfl, fun _ => rfl, fun _ => rfl, fun _ => rfl, fun _ => rfl, fun _ => rfl, fun _ => rfl, fun _ => rfl, fun _ => rfl, fun _ => rfl, fun _ => rfl, fun _ => rfl, fun _ => rfl, fun _ => rfl, fun _ => rfl, fun _ => rfl, fun _ => rfl, fun _ => rfl, fun _ => rfl, fun _ => rfl, fun _ => rfl, fun _ => rfl, off_of_on h_mail, fun _ => rfl, fun _ => rfl⟩)
    | with_reducible refine mgmtRequest_touch h_wire h_traffic h_outbox h_mail ?_
    | with_reducible refine touch_ite (fun _ => ?_) (fun _ => ?_)

theorem execMgmtDatagram_touch {addr : Word} {udp : Half} {bytes : List Byte} {s : State} (h_wire : W.wire = true) (h_traffic : W.traffic = true) (h_ev : W.ev = true) (h_outbox : W.outbox = true) (h_mail : W.mail = true) (hs : ChangesOnly W s₀ s) :
    TouchR W s₀ (execMgmtDatagram addr udp bytes s) := by
  unfold execMgmtDatagram
  repeat' first
    | with_reducible assumption
    | with_reducible refine touchR_next ?_
    | with_reducible refine portBytes_touch h_traffic ?_
    | with_reducible refine authFailed_touch h_traffic h_ev h_outbox h_mail ?_
    | with_reducible refine takeFragment_touch h_wire h_traffic h_outbox h_mail ?_
    | with_reducible refine touch_ite (fun _ => ?_) (fun _ => ?_)
    | with_reducible refine touchR_ite (fun _ => ?_) (fun _ => ?_)

theorem execReassemblyTimeout_touch {addr : Word} {udp : Half} {seq : Word} {s : State} (h_mail : W.mail = true) (hs : ChangesOnly W s₀ s) :
    TouchR W s₀ (execReassemblyTimeout addr udp seq s) := by
  unfold execReassemblyTimeout
  repeat' first
    | with_reducible assumption
    | fail_if_no_progress (with_reducible refine touch_mk ?_ ⟨rfl, rfl, fun _ => rfl, fun _ => rfl, fun _ => rfl, fun _ => rfl, fun _ => rfl, fun _ => rfl, fun _ => rfl, fun _ => rfl, fun _ => rfl, fun _ => rfl, fun _ => rfl, fun _ => rfl, fun _ => rfl, fun _ => rfl, fun _ => rfl, fun _ => rfl, fun _ => rfl, fun _ => rfl, fun _ => rfl, fun _ => rfl, fun _ => rfl, fun _ => rfl, fun _ => rfl, fun _ => rfl, fun _ => rfl, fun _ => rfl, fun _ => rfl, fun _ => rfl, off_of_on h_mail, fun _ => rfl, fun _ => rfl⟩)
    | with_reducible refine touchR_next ?_

theorem execPeerRequest_touch {rank : Rank} {bytes : List Byte} {s : State} (h_wire : W.wire = true) (h_traffic : W.traffic = true) (h_outbox : W.outbox = true) (h_mail : W.mail = true) (hs : ChangesOnly W s₀ s) :
    TouchR W s₀ (execPeerRequest rank bytes s) := by
  unfold execPeerRequest
  repeat' first
    | with_reducible assumption
    | fail_if_no_progress (with_reducible refine touch_mk ?_ ⟨rfl, rfl, fun _ => rfl, fun _ => rfl, fun _ => rfl, fun _ => rfl, fun _ => rfl, fun _ => rfl, fun _ => rfl, fun _ => rfl, fun _ => rfl, fun _ => rfl, fun _ => rfl, fun _ => rfl, fun _ => rfl, fun _ => rfl, fun _ => rfl, fun _ => rfl, fun _ => rfl, fun _ => rfl, fun _ => rfl, fun _ => rfl, fun _ => rfl, fun _ => rfl, fun _ => rfl, fun _ => rfl, fun _ => rfl, fun _ => rfl, fun _ => rfl, fun _ => rfl, off_of_on h_mail, fun _ => rfl, fun _ => rfl⟩)
    | with_reducible refine touchR_next ?_
    | with_reducible refine refuse_touch h_wire h_traffic h_outbox h_mail ?_
    | with_reducible refine admitRequest_touch h_wire h_traffic h_outbox h_mail ?_
    | with_reducible refine touch_ite (fun _ => ?_) (fun _ => ?_)
    | with_reducible refine touchR_ite (fun _ => ?_) (fun _ => ?_)

theorem execArpRequest_touch {mac : BitVec 48} {ip : Word} {target : Word} {s : State} (h_outbox : W.outbox = true) (hs : ChangesOnly W s₀ s) :
    TouchR W s₀ (execArpRequest mac ip target s) := by
  unfold execArpRequest
  repeat' first
    | with_reducible assumption
    | fail_if_no_progress (with_reducible refine touch_mk ?_ ⟨rfl, rfl, fun _ => rfl, fun _ => rfl, fun _ => rfl, fun _ => rfl, fun _ => rfl, fun _ => rfl, fun _ => rfl, fun _ => rfl, fun _ => rfl, fun _ => rfl, fun _ => rfl, fun _ => rfl, fun _ => rfl, fun _ => rfl, fun _ => rfl, fun _ => rfl, fun _ => rfl, fun _ => rfl, fun _ => rfl, fun _ => rfl, fun _ => rfl, fun _ => rfl, fun _ => rfl, fun _ => rfl, fun _ => rfl, fun _ => rfl, fun _ => rfl, off_of_on h_outbox, fun _ => rfl, fun _ => rfl, fun _ => rfl⟩)
    | with_reducible refine touchR_next ?_
    | with_reducible refine touch_ite (fun _ => ?_) (fun _ => ?_)

theorem execIcmpEchoRequest_touch {addr : Word} {payload : List Byte} {s : State} (h_outbox : W.outbox = true) (hs : ChangesOnly W s₀ s) :
    TouchR W s₀ (execIcmpEchoRequest addr payload s) := by
  unfold execIcmpEchoRequest
  repeat' first
    | with_reducible assumption
    | fail_if_no_progress (with_reducible refine touch_mk ?_ ⟨rfl, rfl, fun _ => rfl, fun _ => rfl, fun _ => rfl, fun _ => rfl, fun _ => rfl, fun _ => rfl, fun _ => rfl, fun _ => rfl, fun _ => rfl, fun _ => rfl, fun _ => rfl, fun _ => rfl, fun _ => rfl, fun _ => rfl, fun _ => rfl, fun _ => rfl, fun _ => rfl, fun _ => rfl, fun _ => rfl, fun _ => rfl, fun _ => rfl, fun _ => rfl, fun _ => rfl, fun _ => rfl, fun _ => rfl, fun _ => rfl, fun _ => rfl, off_of_on h_outbox, fun _ => rfl, fun _ => rfl, fun _ => rfl⟩)
    | with_reducible refine touchR_next ?_
    | with_reducible refine touch_ite (fun _ => ?_) (fun _ => ?_)

theorem dropHost_touch {s : State} (h_plan : W.plan = true) (h_traffic : W.traffic = true) (h_ctx : W.ctx = true) (h_ev : W.ev = true) (h_outbox : W.outbox = true) (h_mail : W.mail = true) (h_settings : W.settings = true) (hs : ChangesOnly W s₀ s) :
    ChangesOnly W s₀ (dropHost s) := by
  unfold dropHost
  repeat' first
    | with_reducible assumption
    | fail_if_no_progress (with_reducible refine touch_mk ?_ ⟨rfl, rfl, fun _ => rfl, fun _ => rfl, fun _ => rfl, fun _ => rfl, fun _ => rfl, fun _ => rfl, fun _ => rfl, fun _ => rfl, fun _ => rfl, fun _ => rfl, fun _ => rfl, fun _ => rfl, fun _ => rfl, fun _ => rfl, fun _ => rfl, fun _ => rfl, fun _ => rfl, off_of_on h_plan, fun _ => rfl, fun _ => rfl, fun _ => rfl, fun _ => rfl, fun _ => rfl, fun _ => rfl, off_of_on h_ctx, fun _ => rfl, fun _ => rfl, fun _ => rfl, off_of_on h_mail, off_of_on h_settings, fun _ => rfl⟩)
    | with_reducible refine rollbackHost_touch h_traffic h_ev h_outbox h_settings ?_

theorem hostLinkDown_touch {s : State} (h_runs : W.runs = true) (h_sync : W.sync = true) (h_plan : W.plan = true) (h_traffic : W.traffic = true) (h_pin : W.pin = true) (h_ctx : W.ctx = true) (h_ev : W.ev = true) (h_outbox : W.outbox = true) (h_mail : W.mail = true) (h_settings : W.settings = true) (hs : ChangesOnly W s₀ s) :
    ChangesOnly W s₀ (hostLinkDown s) := by
  unfold hostLinkDown
  repeat' first
    | with_reducible assumption
    | fail_if_no_progress (with_reducible refine touch_mk ?_ ⟨rfl, rfl, fun _ => rfl, fun _ => rfl, fun _ => rfl, fun _ => rfl, fun _ => rfl, fun _ => rfl, fun _ => rfl, fun _ => rfl, fun _ => rfl, fun _ => rfl, fun _ => rfl, fun _ => rfl, fun _ => rfl, fun _ => rfl, fun _ => rfl, fun _ => rfl, fun _ => rfl, fun _ => rfl, fun _ => rfl, fun _ => rfl, fun _ => rfl, fun _ => rfl, fun _ => rfl, off_of_on h_pin, fun _ => rfl, fun _ => rfl, fun _ => rfl, fun _ => rfl, fun _ => rfl, fun _ => rfl, fun _ => rfl⟩)
    | with_reducible refine dropHost_touch h_plan h_traffic h_ctx h_ev h_outbox h_mail h_settings ?_
    | with_reducible refine takeL3_touch h_runs h_sync h_traffic h_ev h_outbox ?_
    | with_reducible refine touch_ite (fun _ => ?_) (fun _ => ?_)

theorem execFunctionLevelReset_touch {cyc : Nat} {s : State} (h_cycle : W.cycle = true) (h_runs : W.runs = true) (h_sync : W.sync = true) (h_plan : W.plan = true) (h_traffic : W.traffic = true) (h_cnt : W.cnt = true) (h_ctx : W.ctx = true) (h_ev : W.ev = true) (h_outbox : W.outbox = true) (h_mail : W.mail = true) (h_settings : W.settings = true) (hs : ChangesOnly W s₀ s) :
    TouchR W s₀ (execFunctionLevelReset cyc s) := by
  unfold execFunctionLevelReset
  repeat' first
    | with_reducible assumption
    | fail_if_no_progress (with_reducible refine touch_mk ?_ ⟨rfl, rfl, fun _ => rfl, fun _ => rfl, fun _ => rfl, fun _ => rfl, fun _ => rfl, fun _ => rfl, fun _ => rfl, fun _ => rfl, fun _ => rfl, fun _ => rfl, fun _ => rfl, fun _ => rfl, fun _ => rfl, fun _ => rfl, fun _ => rfl, fun _ => rfl, fun _ => rfl, fun _ => rfl, fun _ => rfl, fun _ => rfl, fun _ => rfl, fun _ => rfl, off_of_on h_cnt, fun _ => rfl, fun _ => rfl, fun _ => rfl, fun _ => rfl, fun _ => rfl, fun _ => rfl, fun _ => rfl, fun _ => rfl⟩)
    | with_reducible refine touchR_next ?_
    | with_reducible refine dropHost_touch h_plan h_traffic h_ctx h_ev h_outbox h_mail h_settings ?_
    | with_reducible refine atCycle_touch h_cycle ?_
    | with_reducible refine takeL3_touch h_runs h_sync h_traffic h_ev h_outbox ?_
    | with_reducible refine touch_ite (fun _ => ?_) (fun _ => ?_)

theorem execPcieLinkDown_touch {cyc : Nat} {s : State} (h_cycle : W.cycle = true) (h_runs : W.runs = true) (h_sync : W.sync = true) (h_plan : W.plan = true) (h_traffic : W.traffic = true) (h_pin : W.pin = true) (h_ctx : W.ctx = true) (h_ev : W.ev = true) (h_outbox : W.outbox = true) (h_mail : W.mail = true) (h_settings : W.settings = true) (hs : ChangesOnly W s₀ s) :
    TouchR W s₀ (execPcieLinkDown cyc s) := by
  unfold execPcieLinkDown
  repeat' first
    | with_reducible assumption
    | with_reducible refine touchR_next ?_
    | with_reducible refine hostLinkDown_touch h_runs h_sync h_plan h_traffic h_pin h_ctx h_ev h_outbox h_mail h_settings ?_
    | with_reducible refine atCycle_touch h_cycle ?_

theorem execD3hotEntry_touch {cyc : Nat} {s : State} (h_cycle : W.cycle = true) (h_runs : W.runs = true) (h_sync : W.sync = true) (h_plan : W.plan = true) (h_traffic : W.traffic = true) (h_pin : W.pin = true) (h_ctx : W.ctx = true) (h_ev : W.ev = true) (h_outbox : W.outbox = true) (h_mail : W.mail = true) (h_settings : W.settings = true) (hs : ChangesOnly W s₀ s) :
    TouchR W s₀ (execD3hotEntry cyc s) := by
  unfold execD3hotEntry
  repeat' first
    | with_reducible assumption
    | with_reducible refine touchR_next ?_
    | with_reducible refine hostLinkDown_touch h_runs h_sync h_plan h_traffic h_pin h_ctx h_ev h_outbox h_mail h_settings ?_
    | with_reducible refine atCycle_touch h_cycle ?_

theorem execPerstNLow_touch {cyc : Nat} {s : State} (h_cycle : W.cycle = true) (h_runs : W.runs = true) (h_sync : W.sync = true) (h_plan : W.plan = true) (h_traffic : W.traffic = true) (h_pin : W.pin = true) (h_ctx : W.ctx = true) (h_ev : W.ev = true) (h_outbox : W.outbox = true) (h_mail : W.mail = true) (h_settings : W.settings = true) (hs : ChangesOnly W s₀ s) :
    TouchR W s₀ (execPerstNLow cyc s) := by
  unfold execPerstNLow
  repeat' first
    | with_reducible assumption
    | fail_if_no_progress (with_reducible refine touch_mk ?_ ⟨rfl, rfl, fun _ => rfl, fun _ => rfl, fun _ => rfl, fun _ => rfl, fun _ => rfl, fun _ => rfl, fun _ => rfl, fun _ => rfl, fun _ => rfl, fun _ => rfl, fun _ => rfl, fun _ => rfl, fun _ => rfl, fun _ => rfl, fun _ => rfl, fun _ => rfl, fun _ => rfl, fun _ => rfl, fun _ => rfl, fun _ => rfl, fun _ => rfl, fun _ => rfl, fun _ => rfl, off_of_on h_pin, fun _ => rfl, fun _ => rfl, fun _ => rfl, fun _ => rfl, fun _ => rfl, fun _ => rfl, fun _ => rfl⟩)
    | with_reducible refine touchR_next ?_
    | with_reducible refine atCycle_touch h_cycle ?_
    | with_reducible refine hostLinkDown_touch h_runs h_sync h_plan h_traffic h_pin h_ctx h_ev h_outbox h_mail h_settings ?_

theorem execPerstNRise_touch {s : State} (h_pin : W.pin = true) (hs : ChangesOnly W s₀ s) :
    TouchR W s₀ (execPerstNRise s) := by
  unfold execPerstNRise
  repeat' first
    | with_reducible assumption
    | fail_if_no_progress (with_reducible refine touch_mk ?_ ⟨rfl, rfl, fun _ => rfl, fun _ => rfl, fun _ => rfl, fun _ => rfl, fun _ => rfl, fun _ => rfl, fun _ => rfl, fun _ => rfl, fun _ => rfl, fun _ => rfl, fun _ => rfl, fun _ => rfl, fun _ => rfl, fun _ => rfl, fun _ => rfl, fun _ => rfl, fun _ => rfl, fun _ => rfl, fun _ => rfl, fun _ => rfl, fun _ => rfl, fun _ => rfl, fun _ => rfl, off_of_on h_pin, fun _ => rfl, fun _ => rfl, fun _ => rfl, fun _ => rfl, fun _ => rfl, fun _ => rfl, fun _ => rfl⟩)
    | with_reducible refine touchR_next ?_

theorem correctableError_touch {s : State} (h_traffic : W.traffic = true) (h_pin : W.pin = true) (h_ev : W.ev = true) (h_outbox : W.outbox = true) (hs : ChangesOnly W s₀ s) :
    ChangesOnly W s₀ (correctableError s) := by
  unfold correctableError
  repeat' first
    | with_reducible assumption
    | fail_if_no_progress (with_reducible refine touch_mk ?_ ⟨rfl, rfl, fun _ => rfl, fun _ => rfl, fun _ => rfl, fun _ => rfl, fun _ => rfl, fun _ => rfl, fun _ => rfl, fun _ => rfl, fun _ => rfl, fun _ => rfl, fun _ => rfl, fun _ => rfl, fun _ => rfl, fun _ => rfl, fun _ => rfl, fun _ => rfl, fun _ => rfl, fun _ => rfl, fun _ => rfl, fun _ => rfl, fun _ => rfl, fun _ => rfl, fun _ => rfl, off_of_on h_pin, fun _ => rfl, fun _ => rfl, fun _ => rfl, fun _ => rfl, fun _ => rfl, fun _ => rfl, fun _ => rfl⟩)
    | with_reducible refine raiseOnce_touch h_traffic h_ev h_outbox ?_
    | with_reducible refine touch_ite (fun _ => ?_) (fun _ => ?_)

theorem execPcieError_touch {e : PcieErr} {cyc : Nat} {s : State} (h_cycle : W.cycle = true) (h_runs : W.runs = true) (h_sync : W.sync = true) (h_plan : W.plan = true) (h_traffic : W.traffic = true) (h_pin : W.pin = true) (h_ctx : W.ctx = true) (h_ev : W.ev = true) (h_outbox : W.outbox = true) (h_mail : W.mail = true) (h_settings : W.settings = true) (hs : ChangesOnly W s₀ s) :
    TouchR W s₀ (execPcieError e cyc s) := by
  unfold execPcieError
  repeat' first
    | with_reducible assumption
    | fail_if_no_progress (with_reducible refine touch_mk ?_ ⟨rfl, rfl, fun _ => rfl, fun _ => rfl, fun _ => rfl, fun _ => rfl, fun _ => rfl, fun _ => rfl, fun _ => rfl, fun _ => rfl, fun _ => rfl, fun _ => rfl, fun _ => rfl, fun _ => rfl, fun _ => rfl, fun _ => rfl, fun _ => rfl, fun _ => rfl, fun _ => rfl, fun _ => rfl, fun _ => rfl, fun _ => rfl, fun _ => rfl, fun _ => rfl, fun _ => rfl, off_of_on h_pin, fun _ => rfl, fun _ => rfl, fun _ => rfl, fun _ => rfl, fun _ => rfl, fun _ => rfl, fun _ => rfl⟩)
    | with_reducible refine touchR_next ?_
    | with_reducible refine atCycle_touch h_cycle ?_
    | with_reducible refine correctableError_touch h_traffic h_pin h_ev h_outbox ?_
    | with_reducible refine raise_touch h_traffic h_ev h_outbox ?_
    | with_reducible refine hostLinkDown_touch h_runs h_sync h_plan h_traffic h_pin h_ctx h_ev h_outbox h_mail h_settings ?_
    | with_reducible refine touch_ite (fun _ => ?_) (fun _ => ?_)
    | split

theorem smbusReply_touch {s : State} {x : Option (List Byte)} (h_pin : W.pin = true) (hs : ChangesOnly W s₀ s) :
    ChangesOnly W s₀ (smbusReply s x) := by
  unfold smbusReply
  repeat' first
    | with_reducible assumption
    | fail_if_no_progress (with_reducible refine touch_mk ?_ ⟨rfl, rfl, fun _ => rfl, fun _ => rfl, fun _ => rfl, fun _ => rfl, fun _ => rfl, fun _ => rfl, fun _ => rfl, fun _ => rfl, fun _ => rfl, fun _ => rfl, fun _ => rfl, fun _ => rfl, fun _ => rfl, fun _ => rfl, fun _ => rfl, fun _ => rfl, fun _ => rfl, fun _ => rfl, fun _ => rfl, fun _ => rfl, fun _ => rfl, fun _ => rfl, fun _ => rfl, off_of_on h_pin, fun _ => rfl, fun _ => rfl, fun _ => rfl, fun _ => rfl, fun _ => rfl, fun _ => rfl, fun _ => rfl⟩)

theorem smbusBad_touch {s : State} (h_pin : W.pin = true) (hs : ChangesOnly W s₀ s) :
    ChangesOnly W s₀ (smbusBad s) := by
  unfold smbusBad
  repeat' first
    | with_reducible assumption
    | with_reducible refine smbusReply_touch h_pin ?_
    | with_reducible refine latch_touch h_pin ?_

theorem smbusRead_touch {s : State} {f : Nat → List Byte} (h_pin : W.pin = true) (hs : ChangesOnly W s₀ s) :
    ChangesOnly W s₀ (smbusRead s f) := by
  unfold smbusRead
  repeat' first
    | with_reducible assumption
    | with_reducible refine smbusReply_touch h_pin ?_
    | with_reducible refine touch_ite (fun _ => ?_) (fun _ => ?_)

theorem execPage_touch {p : Byte} {pecOk : Bool} {s : State} (h_pin : W.pin = true) (hs : ChangesOnly W s₀ s) :
    TouchR W s₀ (execPage p pecOk s) := by
  unfold execPage
  repeat' first
    | with_reducible assumption
    | fail_if_no_progress (with_reducible refine touch_mk ?_ ⟨rfl, rfl, fun _ => rfl, fun _ => rfl, fun _ => rfl, fun _ => rfl, fun _ => rfl, fun _ => rfl, fun _ => rfl, fun _ => rfl, fun _ => rfl, fun _ => rfl, fun _ => rfl, fun _ => rfl, fun _ => rfl, fun _ => rfl, fun _ => rfl, fun _ => rfl, fun _ => rfl, fun _ => rfl, fun _ => rfl, fun _ => rfl, fun _ => rfl, fun _ => rfl, fun _ => rfl, off_of_on h_pin, fun _ => rfl, fun _ => rfl, fun _ => rfl, fun _ => rfl, fun _ => rfl, fun _ => rfl, fun _ => rfl⟩)
    | with_reducible refine touchR_next ?_
    | with_reducible refine smbusReply_touch h_pin ?_
    | with_reducible refine smbusBad_touch h_pin ?_
    | with_reducible refine touch_ite (fun _ => ?_) (fun _ => ?_)

theorem execClearFaults_touch {pecOk : Bool} {s : State} (h_pin : W.pin = true) (hs : ChangesOnly W s₀ s) :
    TouchR W s₀ (execClearFaults pecOk s) := by
  unfold execClearFaults
  repeat' first
    | with_reducible assumption
    | fail_if_no_progress (with_reducible refine touch_mk ?_ ⟨rfl, rfl, fun _ => rfl, fun _ => rfl, fun _ => rfl, fun _ => rfl, fun _ => rfl, fun _ => rfl, fun _ => rfl, fun _ => rfl, fun _ => rfl, fun _ => rfl, fun _ => rfl, fun _ => rfl, fun _ => rfl, fun _ => rfl, fun _ => rfl, fun _ => rfl, fun _ => rfl, fun _ => rfl, fun _ => rfl, fun _ => rfl, fun _ => rfl, fun _ => rfl, fun _ => rfl, off_of_on h_pin, fun _ => rfl, fun _ => rfl, fun _ => rfl, fun _ => rfl, fun _ => rfl, fun _ => rfl, fun _ => rfl⟩)
    | with_reducible refine touchR_next ?_
    | with_reducible refine smbusReply_touch h_pin ?_
    | with_reducible refine smbusBad_touch h_pin ?_
    | with_reducible refine touch_ite (fun _ => ?_) (fun _ => ?_)

theorem execVoutMode_touch {s : State} (h_pin : W.pin = true) (hs : ChangesOnly W s₀ s) :
    TouchR W s₀ (execVoutMode s) := by
  unfold execVoutMode
  repeat' first
    | with_reducible assumption
    | with_reducible refine touchR_next ?_
    | with_reducible refine smbusReply_touch h_pin ?_

theorem execStatusWord_touch {s : State} (h_pin : W.pin = true) (hs : ChangesOnly W s₀ s) :
    TouchR W s₀ (execStatusWord s) := by
  unfold execStatusWord
  repeat' first
    | with_reducible assumption
    | with_reducible refine touchR_next ?_
    | with_reducible refine smbusRead_touch h_pin ?_

theorem execReadVout_touch {s : State} (h_pin : W.pin = true) (hs : ChangesOnly W s₀ s) :
    TouchR W s₀ (execReadVout s) := by
  unfold execReadVout
  repeat' first
    | with_reducible assumption
    | with_reducible refine touchR_next ?_
    | with_reducible refine smbusRead_touch h_pin ?_

theorem execReadIout_touch {s : State} (h_pin : W.pin = true) (hs : ChangesOnly W s₀ s) :
    TouchR W s₀ (execReadIout s) := by
  unfold execReadIout
  repeat' first
    | with_reducible assumption
    | with_reducible refine touchR_next ?_
    | with_reducible refine smbusRead_touch h_pin ?_

theorem execReadPout_touch {s : State} (h_pin : W.pin = true) (hs : ChangesOnly W s₀ s) :
    TouchR W s₀ (execReadPout s) := by
  unfold execReadPout
  repeat' first
    | with_reducible assumption
    | with_reducible refine touchR_next ?_
    | with_reducible refine smbusRead_touch h_pin ?_

theorem execReadTemperature1_touch {s : State} (h_pin : W.pin = true) (hs : ChangesOnly W s₀ s) :
    TouchR W s₀ (execReadTemperature1 s) := by
  unfold execReadTemperature1
  repeat' first
    | with_reducible assumption
    | with_reducible refine touchR_next ?_
    | with_reducible refine smbusRead_touch h_pin ?_

theorem execReadTemperature2_touch {s : State} (h_pin : W.pin = true) (hs : ChangesOnly W s₀ s) :
    TouchR W s₀ (execReadTemperature2 s) := by
  unfold execReadTemperature2
  repeat' first
    | with_reducible assumption
    | with_reducible refine touchR_next ?_
    | with_reducible refine smbusRead_touch h_pin ?_

theorem execPmbusRevision_touch {s : State} (h_pin : W.pin = true) (hs : ChangesOnly W s₀ s) :
    TouchR W s₀ (execPmbusRevision s) := by
  unfold execPmbusRevision
  repeat' first
    | with_reducible assumption
    | with_reducible refine touchR_next ?_
    | with_reducible refine smbusReply_touch h_pin ?_

theorem execSmbusUnknownCommand_touch {_code : Byte} {s : State} (h_pin : W.pin = true) (hs : ChangesOnly W s₀ s) :
    TouchR W s₀ (execSmbusUnknownCommand _code s) := by
  unfold execSmbusUnknownCommand
  repeat' first
    | with_reducible assumption
    | with_reducible refine touchR_next ?_
    | with_reducible refine smbusReply_touch h_pin ?_

theorem execAlertResponseAddress_touch {s : State} (h_pin : W.pin = true) (hs : ChangesOnly W s₀ s) :
    TouchR W s₀ (execAlertResponseAddress s) := by
  unfold execAlertResponseAddress
  repeat' first
    | with_reducible assumption
    | with_reducible refine touchR_next ?_
    | with_reducible refine smbusReply_touch h_pin ?_

theorem execJtagTestInstruction_touch {s : State} (h_pin : W.pin = true) (hs : ChangesOnly W s₀ s) :
    TouchR W s₀ (execJtagTestInstruction s) := by
  unfold execJtagTestInstruction
  repeat' first
    | with_reducible assumption
    | fail_if_no_progress (with_reducible refine touch_mk ?_ ⟨rfl, rfl, fun _ => rfl, fun _ => rfl, fun _ => rfl, fun _ => rfl, fun _ => rfl, fun _ => rfl, fun _ => rfl, fun _ => rfl, fun _ => rfl, fun _ => rfl, fun _ => rfl, fun _ => rfl, fun _ => rfl, fun _ => rfl, fun _ => rfl, fun _ => rfl, fun _ => rfl, fun _ => rfl, fun _ => rfl, fun _ => rfl, fun _ => rfl, fun _ => rfl, fun _ => rfl, off_of_on h_pin, fun _ => rfl, fun _ => rfl, fun _ => rfl, fun _ => rfl, fun _ => rfl, fun _ => rfl, fun _ => rfl⟩)
    | with_reducible refine touchR_next ?_

theorem execIdentity_touch {r : Req} {s : State} (h_wire : W.wire = true) (h_traffic : W.traffic = true) (h_outbox : W.outbox = true) (h_mail : W.mail = true) (hs : ChangesOnly W s₀ s) :
    TouchR W s₀ (execIdentity r s) := by
  unfold execIdentity
  repeat' first
    | with_reducible assumption
    | with_reducible refine touchR_next ?_
    | with_reducible refine serve_touch h_wire h_traffic h_outbox h_mail ?_ (fun _ _ => ?_)
    | with_reducible refine answer_touch h_wire h_traffic h_outbox h_mail ?_

theorem execRunStatus_touch {r : Req} {s : State} (h_wire : W.wire = true) (h_traffic : W.traffic = true) (h_outbox : W.outbox = true) (h_mail : W.mail = true) (hs : ChangesOnly W s₀ s) :
    TouchR W s₀ (execRunStatus r s) := by
  unfold execRunStatus
  repeat' first
    | with_reducible assumption
    | with_reducible refine touchR_next ?_
    | with_reducible refine serve_touch h_wire h_traffic h_outbox h_mail ?_ (fun _ _ => ?_)
    | with_reducible refine answer_touch h_wire h_traffic h_outbox h_mail ?_

theorem execEventRead_touch {r : Req} {first : Word} {count : Half} {s : State} (h_wire : W.wire = true) (h_traffic : W.traffic = true) (h_outbox : W.outbox = true) (h_mail : W.mail = true) (hs : ChangesOnly W s₀ s) :
    TouchR W s₀ (execEventRead r first count s) := by
  unfold execEventRead
  repeat' first
    | with_reducible assumption
    | with_reducible refine touchR_next ?_
    | with_reducible refine serve_touch h_wire h_traffic h_outbox h_mail ?_ (fun _ _ => ?_)
    | with_reducible refine answer_touch h_wire h_traffic h_outbox h_mail ?_
    | with_reducible refine refuse_touch h_wire h_traffic h_outbox h_mail ?_
    | with_reducible refine touch_ite (fun _ => ?_) (fun _ => ?_)

theorem ackEvents_touch {s : State} {seq : Word} (h_traffic : W.traffic = true) (h_ev : W.ev = true) (h_outbox : W.outbox = true) (hs : ChangesOnly W s₀ s) :
    ChangesOnly W s₀ (ackEvents s seq) := by
  unfold ackEvents
  repeat' first
    | with_reducible assumption
    | fail_if_no_progress (with_reducible refine touch_mk ?_ ⟨rfl, rfl, fun _ => rfl, fun _ => rfl, fun _ => rfl, fun _ => rfl, fun _ => rfl, fun _ => rfl, fun _ => rfl, fun _ => rfl, fun _ => rfl, fun _ => rfl, fun _ => rfl, fun _ => rfl, fun _ => rfl, fun _ => rfl, fun _ => rfl, fun _ => rfl, fun _ => rfl, fun _ => rfl, fun _ => rfl, fun _ => rfl, fun _ => rfl, fun _ => rfl, fun _ => rfl, fun _ => rfl, fun _ => rfl, off_of_on h_ev, fun _ => rfl, fun _ => rfl, fun _ => rfl, fun _ => rfl, fun _ => rfl⟩)
    | with_reducible refine raise_touch h_traffic h_ev h_outbox ?_
    | split
    | (dsimp only; split)

theorem execEventAck_touch {r : Req} {seq : Word} {s : State} (h_wire : W.wire = true) (h_traffic : W.traffic = true) (h_ev : W.ev = true) (h_outbox : W.outbox = true) (h_mail : W.mail = true) (hs : ChangesOnly W s₀ s) :
    TouchR W s₀ (execEventAck r seq s) := by
  unfold execEventAck
  repeat' first
    | with_reducible assumption
    | with_reducible refine touchR_next ?_
    | with_reducible refine serve_touch h_wire h_traffic h_outbox h_mail ?_ (fun _ _ => ?_)
    | with_reducible refine acknowledged_touch h_wire h_traffic h_outbox h_mail ?_
    | with_reducible refine ackEvents_touch h_traffic h_ev h_outbox ?_
    | with_reducible refine refuse_touch h_wire h_traffic h_outbox h_mail ?_
    | with_reducible refine touch_ite (fun _ => ?_) (fun _ => ?_)

theorem execArrayStatus_touch {r : Req} {tile : TileId} {mask : Half} {s : State} (h_wire : W.wire = true) (h_traffic : W.traffic = true) (h_outbox : W.outbox = true) (h_mail : W.mail = true) (hs : ChangesOnly W s₀ s) :
    TouchR W s₀ (execArrayStatus r tile mask s) := by
  unfold execArrayStatus
  repeat' first
    | with_reducible assumption
    | with_reducible refine touchR_next ?_
    | with_reducible refine serve_touch h_wire h_traffic h_outbox h_mail ?_ (fun _ _ => ?_)
    | with_reducible refine answer_touch h_wire h_traffic h_outbox h_mail ?_

theorem execLedgerHead_touch {r : Req} {s : State} (h_wire : W.wire = true) (h_traffic : W.traffic = true) (h_outbox : W.outbox = true) (h_mail : W.mail = true) (hs : ChangesOnly W s₀ s) :
    TouchR W s₀ (execLedgerHead r s) := by
  unfold execLedgerHead
  repeat' first
    | with_reducible assumption
    | with_reducible refine touchR_next ?_
    | with_reducible refine serve_touch h_wire h_traffic h_outbox h_mail ?_ (fun _ _ => ?_)
    | with_reducible refine answer_touch h_wire h_traffic h_outbox h_mail ?_

theorem execMemoryStatus_touch {r : Req} {st : Byte} {s : State} (h_wire : W.wire = true) (h_traffic : W.traffic = true) (h_outbox : W.outbox = true) (h_mail : W.mail = true) (hs : ChangesOnly W s₀ s) :
    TouchR W s₀ (execMemoryStatus r st s) := by
  unfold execMemoryStatus
  repeat' first
    | with_reducible assumption
    | with_reducible refine touchR_next ?_
    | with_reducible refine serve_touch h_wire h_traffic h_outbox h_mail ?_ (fun _ _ => ?_)
    | with_reducible refine answer_touch h_wire h_traffic h_outbox h_mail ?_
    | with_reducible refine refuse_touch h_wire h_traffic h_outbox h_mail ?_
    | with_reducible refine touch_ite (fun _ => ?_) (fun _ => ?_)

theorem execNumericsState_touch {r : Req} {part : Byte} {first : Word} {count : Half} {s : State} (h_wire : W.wire = true) (h_traffic : W.traffic = true) (h_outbox : W.outbox = true) (h_mail : W.mail = true) (hs : ChangesOnly W s₀ s) :
    TouchR W s₀ (execNumericsState r part first count s) := by
  unfold execNumericsState
  repeat' first
    | with_reducible assumption
    | with_reducible refine touchR_next ?_
    | with_reducible refine serve_touch h_wire h_traffic h_outbox h_mail ?_ (fun _ _ => ?_)
    | with_reducible refine answer_touch h_wire h_traffic h_outbox h_mail ?_
    | with_reducible refine refuse_touch h_wire h_traffic h_outbox h_mail ?_
    | with_reducible refine touch_ite (fun _ => ?_) (fun _ => ?_)

theorem execLinkStatus_touch {r : Req} {mask : DWord} {s : State} (h_wire : W.wire = true) (h_traffic : W.traffic = true) (h_outbox : W.outbox = true) (h_mail : W.mail = true) (hs : ChangesOnly W s₀ s) :
    TouchR W s₀ (execLinkStatus r mask s) := by
  unfold execLinkStatus
  repeat' first
    | with_reducible assumption
    | with_reducible refine touchR_next ?_
    | with_reducible refine serve_touch h_wire h_traffic h_outbox h_mail ?_ (fun _ _ => ?_)
    | with_reducible refine answer_touch h_wire h_traffic h_outbox h_mail ?_
    | with_reducible refine refuse_touch h_wire h_traffic h_outbox h_mail ?_
    | with_reducible refine touch_ite (fun _ => ?_) (fun _ => ?_)

theorem execQueueStatus_touch {r : Req} {lake : Half} {s : State} (h_wire : W.wire = true) (h_traffic : W.traffic = true) (h_outbox : W.outbox = true) (h_mail : W.mail = true) (hs : ChangesOnly W s₀ s) :
    TouchR W s₀ (execQueueStatus r lake s) := by
  unfold execQueueStatus
  repeat' first
    | with_reducible assumption
    | with_reducible refine touchR_next ?_
    | with_reducible refine serve_touch h_wire h_traffic h_outbox h_mail ?_ (fun _ _ => ?_)
    | with_reducible refine answer_touch h_wire h_traffic h_outbox h_mail ?_
    | with_reducible refine refuse_touch h_wire h_traffic h_outbox h_mail ?_
    | with_reducible refine touch_ite (fun _ => ?_) (fun _ => ?_)

theorem execPowerStatus_touch {r : Req} {kind : Byte} {index : Half} {s : State} (h_wire : W.wire = true) (h_traffic : W.traffic = true) (h_outbox : W.outbox = true) (h_mail : W.mail = true) (hs : ChangesOnly W s₀ s) :
    TouchR W s₀ (execPowerStatus r kind index s) := by
  unfold execPowerStatus
  repeat' first
    | with_reducible assumption
    | with_reducible refine touchR_next ?_
    | with_reducible refine serve_touch h_wire h_traffic h_outbox h_mail ?_ (fun _ _ => ?_)
    | with_reducible refine answer_touch h_wire h_traffic h_outbox h_mail ?_
    | with_reducible refine refuse_touch h_wire h_traffic h_outbox h_mail ?_
    | split

theorem execAomFilterRead_touch {r : Req} {slot : Byte} {s : State} (h_wire : W.wire = true) (h_traffic : W.traffic = true) (h_outbox : W.outbox = true) (h_mail : W.mail = true) (hs : ChangesOnly W s₀ s) :
    TouchR W s₀ (execAomFilterRead r slot s) := by
  unfold execAomFilterRead
  repeat' first
    | with_reducible assumption
    | with_reducible refine touchR_next ?_
    | with_reducible refine serve_touch h_wire h_traffic h_outbox h_mail ?_ (fun _ _ => ?_)
    | with_reducible refine answer_touch h_wire h_traffic h_outbox h_mail ?_
    | with_reducible refine refuse_touch h_wire h_traffic h_outbox h_mail ?_
    | with_reducible refine touch_ite (fun _ => ?_) (fun _ => ?_)

theorem execStopAtPosition_touch {r : Req} {pos : Word} {s : State} (h_frame : W.frame = true) (h_wire : W.wire = true) (h_traffic : W.traffic = true) (h_ev : W.ev = true) (h_outbox : W.outbox = true) (h_mail : W.mail = true) (hs : ChangesOnly W s₀ s) :
    TouchR W s₀ (execStopAtPosition r pos s) := by
  unfold execStopAtPosition
  repeat' first
    | with_reducible assumption
    | fail_if_no_progress (with_reducible refine touch_mk ?_ ⟨rfl, rfl, fun _ => rfl, fun _ => rfl, fun _ => rfl, fun _ => rfl, off_of_on h_frame, fun _ => rfl, fun _ => rfl, fun _ => rfl, fun _ => rfl, fun _ => rfl, fun _ => rfl, fun _ => rfl, fun _ => rfl, fun _ => rfl, fun _ => rfl, fun _ => rfl, fun _ => rfl, fun _ => rfl, fun _ => rfl, fun _ => rfl, fun _ => rfl, fun _ => rfl, fun _ => rfl, fun _ => rfl, fun _ => rfl, fun _ => rfl, fun _ => rfl, fun _ => rfl, fun _ => rfl, fun _ => rfl, fun _ => rfl⟩)
    | with_reducible refine touchR_next ?_
    | with_reducible refine serve_touch h_wire h_traffic h_outbox h_mail ?_ (fun _ _ => ?_)
    | with_reducible refine settled_touch h_wire h_traffic h_ev h_outbox h_mail ?_
    | with_reducible refine refuse_touch h_wire h_traffic h_outbox h_mail ?_
    | with_reducible refine touch_ite (fun _ => ?_) (fun _ => ?_)

theorem execStopNow_touch {r : Req} {cyc : Nat} {s : State} (h_cycle : W.cycle = true) (h_runs : W.runs = true) (h_wire : W.wire = true) (h_sync : W.sync = true) (h_traffic : W.traffic = true) (h_ev : W.ev = true) (h_outbox : W.outbox = true) (h_mail : W.mail = true) (hs : ChangesOnly W s₀ s) :
    TouchR W s₀ (execStopNow r cyc s) := by
  unfold execStopNow
  repeat' first
    | with_reducible assumption
    | with_reducible refine touchR_next ?_
    | with_reducible refine serve_touch h_wire h_traffic h_outbox h_mail ?_ (fun _ _ => ?_)
    | with_reducible refine atCycle_touch h_cycle ?_
    | with_reducible refine settled_touch h_wire h_traffic h_ev h_outbox h_mail ?_
    | with_reducible refine takeL3_touch h_runs h_sync h_traffic h_ev h_outbox ?_
    | with_reducible refine refuse_touch h_wire h_traffic h_outbox h_mail ?_
    | with_reducible refine touch_ite (fun _ => ?_) (fun _ => ?_)

theorem resetAnswer_touch {s : State} {r : Req} {opcode : Nat} (h_wire : W.wire = true) (h_traffic : W.traffic = true) (h_ev : W.ev = true) (h_outbox : W.outbox = true) (h_mail : W.mail = true) (hs : ChangesOnly W s₀ s) :
    ChangesOnly W s₀ (resetAnswer s r opcode) := by
  unfold resetAnswer
  repeat' first
    | with_reducible assumption
    | with_reducible refine answer_touch h_wire h_traffic h_outbox h_mail ?_
    | with_reducible refine changeEvent_touch h_traffic h_ev h_outbox ?_

theorem execResetWarm_touch {r : Req} {s : State} (h_free : W.free = true) (h_cycle : W.cycle = true) (h_runs : W.runs = true) (h_holds : W.holds = true) (h_frame : W.frame = true) (h_led : W.led = true) (h_tiles : W.tiles = true) (h_arrays : W.arrays = true) (h_cells : W.cells = true) (h_ops : W.ops = true) (h_hbm : W.hbm = true) (h_tileMem : W.tileMem = true) (h_host : W.host = true) (h_upd : W.upd = true) (h_num : W.num = true) (h_wire : W.wire = true) (h_sync : W.sync = true) (h_plan : W.plan = true) (h_lakes : W.lakes = true) (h_pow : W.pow = true) (h_aom : W.aom = true) (h_traffic : W.traffic = true) (h_cnt : W.cnt = true) (h_pin : W.pin = true) (h_ctx : W.ctx = true) (h_ev : W.ev = true) (h_hl : W.hl = true) (h_outbox : W.outbox = true) (h_mail : W.mail = true) (h_settings : W.settings = true) (h_keys : W.keys = true) (hs : ChangesOnly W s₀ s) :
    TouchR W s₀ (execResetWarm r s) := by
  unfold execResetWarm
  repeat' first
    | with_reducible assumption
    | with_reducible refine touchR_next ?_
    | with_reducible refine serve_touch h_wire h_traffic h_outbox h_mail ?_ (fun _ _ => ?_)
    | with_reducible refine refuse_touch h_wire h_traffic h_outbox h_mail ?_
    | with_reducible refine warmReset_touch h_free h_cycle h_runs h_holds h_frame h_led h_tiles h_arrays h_cells h_ops h_hbm h_tileMem h_host h_upd h_num h_wire h_sync h_plan h_lakes h_pow h_aom h_traffic h_cnt h_pin h_ctx h_ev h_hl h_outbox h_mail h_settings h_keys ?_
    | with_reducible refine orderlyStop_touch h_arrays h_hl ?_
    | with_reducible refine resetAnswer_touch h_wire h_traffic h_ev h_outbox h_mail ?_
    | with_reducible refine touch_ite (fun _ => ?_) (fun _ => ?_)

theorem execResetPowerCycle_touch {r : Req} {s : State} (h_free : W.free = true) (h_cycle : W.cycle = true) (h_runs : W.runs = true) (h_holds : W.holds = true) (h_frame : W.frame = true) (h_led : W.led = true) (h_tiles : W.tiles = true) (h_arrays : W.arrays = true) (h_cells : W.cells = true) (h_ops : W.ops = true) (h_hbm : W.hbm = true) (h_tileMem : W.tileMem = true) (h_host : W.host = true) (h_upd : W.upd = true) (h_num : W.num = true) (h_wire : W.wire = true) (h_sync : W.sync = true) (h_plan : W.plan = true) (h_lakes : W.lakes = true) (h_pow : W.pow = true) (h_aom : W.aom = true) (h_traffic : W.traffic = true) (h_cnt : W.cnt = true) (h_pin : W.pin = true) (h_ctx : W.ctx = true) (h_ev : W.ev = true) (h_hl : W.hl = true) (h_outbox : W.outbox = true) (h_mail : W.mail = true) (h_settings : W.settings = true) (h_keys : W.keys = true) (hs : ChangesOnly W s₀ s) :
    TouchR W s₀ (execResetPowerCycle r s) := by
  unfold execResetPowerCycle
  repeat' first
    | with_reducible assumption
    | with_reducible refine touchR_next ?_
    | with_reducible refine serve_touch h_wire h_traffic h_outbox h_mail ?_ (fun _ _ => ?_)
    | with_reducible refine refuse_touch h_wire h_traffic h_outbox h_mail ?_
    | with_reducible refine coldReset_touch h_free h_cycle h_runs h_holds h_frame h_led h_tiles h_arrays h_cells h_ops h_hbm h_tileMem h_host h_upd h_num h_wire h_sync h_plan h_lakes h_pow h_aom h_traffic h_cnt h_pin h_ctx h_ev h_hl h_outbox h_mail h_settings h_keys ?_
    | with_reducible refine orderlyStop_touch h_arrays h_hl ?_
    | with_reducible refine resetAnswer_touch h_wire h_traffic h_ev h_outbox h_mail ?_
    | with_reducible refine touch_ite (fun _ => ?_) (fun _ => ?_)

theorem execLedgerExport_touch {r : Req} {frame : BitVec 48} {count : Word} {host : DWord} {s : State} (h_wire : W.wire = true) (h_traffic : W.traffic = true) (h_outbox : W.outbox = true) (h_mail : W.mail = true) (hs : ChangesOnly W s₀ s) :
    TouchR W s₀ (execLedgerExport r frame count host s) := by
  unfold execLedgerExport
  repeat' first
    | with_reducible assumption
    | with_reducible refine touchR_next ?_
    | with_reducible refine serveC_touch h_wire h_traffic h_outbox h_mail ?_ (fun _ _ => ?_)
    | with_reducible refine accept_touch h_wire h_traffic h_outbox h_mail ?_
    | with_reducible refine refuse_touch h_wire h_traffic h_outbox h_mail ?_
    | with_reducible refine touch_ite (fun _ => ?_) (fun _ => ?_)

theorem exportRecords_touch {s : State} {first : Nat} {count : Nat} {host : Nat} (h_host : W.host = true) (hs : ChangesOnly W s₀ s) :
    ChangesOnly W s₀ (exportRecords s first count host) := by
  unfold exportRecords
  repeat' first
    | with_reducible assumption
    | with_reducible refine writeHost_touch h_host ?_
    | with_reducible refine touch_foldl ?_ (fun _ _ _ => ?_)
    | split

theorem execLedgerExportDone_touch {r : Req} {s : State} (h_host : W.host = true) (h_wire : W.wire = true) (h_traffic : W.traffic = true) (h_outbox : W.outbox = true) (h_mail : W.mail = true) (hs : ChangesOnly W s₀ s) :
    TouchR W s₀ (execLedgerExportDone r s) := by
  unfold execLedgerExportDone
  repeat' first
    | with_reducible assumption
    | with_reducible refine touchR_next ?_
    | with_reducible refine exportRecords_touch h_host ?_
    | with_reducible refine closeCommand_touch h_mail ?_
    | with_reducible refine respond_touch h_wire h_traffic h_outbox h_mail ?_
    | split

theorem execOffloadRegister_touch {r : Req} {host : DWord} {length : DWord} {s : State} (h_wire : W.wire = true) (h_traffic : W.traffic = true) (h_ctx : W.ctx = true) (h_ev : W.ev = true) (h_outbox : W.outbox = true) (h_mail : W.mail = true) (hs : ChangesOnly W s₀ s) :
    TouchR W s₀ (execOffloadRegister r host length s) := by
  unfold execOffloadRegister
  repeat' first
    | with_reducible assumption
    | fail_if_no_progress (with_reducible refine touch_mk ?_ ⟨rfl, rfl, fun _ => rfl, fun _ => rfl, fun _ => rfl, fun _ => rfl, fun _ => rfl, fun _ => rfl, fun _ => rfl, fun _ => rfl, fun _ => rfl, fun _ => rfl, fun _ => rfl, fun _ => rfl, fun _ => rfl, fun _ => rfl, fun _ => rfl, fun _ => rfl, fun _ => rfl, fun _ => rfl, fun _ => rfl, fun _ => rfl, fun _ => rfl, fun _ => rfl, fun _ => rfl, fun _ => rfl, off_of_on h_ctx, fun _ => rfl, fun _ => rfl, fun _ => rfl, fun _ => rfl, fun _ => rfl, fun _ => rfl⟩)
    | with_reducible refine touchR_next ?_
    | with_reducible refine serve_touch h_wire h_traffic h_outbox h_mail ?_ (fun _ _ => ?_)
    | with_reducible refine refuse_touch h_wire h_traffic h_outbox h_mail ?_
    | with_reducible refine settled_touch h_wire h_traffic h_ev h_outbox h_mail ?_
    | with_reducible refine touch_ite (fun _ => ?_) (fun _ => ?_)

theorem execOffloadRelease_touch {r : Req} {s : State} (h_wire : W.wire = true) (h_traffic : W.traffic = true) (h_ctx : W.ctx = true) (h_ev : W.ev = true) (h_outbox : W.outbox = true) (h_mail : W.mail = true) (hs : ChangesOnly W s₀ s) :
    TouchR W s₀ (execOffloadRelease r s) := by
  unfold execOffloadRelease
  repeat' first
    | with_reducible assumption
    | fail_if_no_progress (with_reducible refine touch_mk ?_ ⟨rfl, rfl, fun _ => rfl, fun _ => rfl, fun _ => rfl, fun _ => rfl, fun _ => rfl, fun _ => rfl, fun _ => rfl, fun _ => rfl, fun _ => rfl, fun _ => rfl, fun _ => rfl, fun _ => rfl, fun _ => rfl, fun _ => rfl, fun _ => rfl, fun _ => rfl, fun _ => rfl, fun _ => rfl, fun _ => rfl, fun _ => rfl, fun _ => rfl, fun _ => rfl, fun _ => rfl, fun _ => rfl, off_of_on h_ctx, fun _ => rfl, fun _ => rfl, fun _ => rfl, fun _ => rfl, fun _ => rfl, fun _ => rfl⟩)
    | with_reducible refine touchR_next ?_
    | with_reducible refine serve_touch h_wire h_traffic h_outbox h_mail ?_ (fun _ _ => ?_)
    | with_reducible refine refuse_touch h_wire h_traffic h_outbox h_mail ?_
    | with_reducible refine settled_touch h_wire h_traffic h_ev h_outbox h_mail ?_
    | with_reducible refine touch_ite (fun _ => ?_) (fun _ => ?_)

theorem acceptTransfer_touch {s : State} {r : Req} {dir : Nat} {device : Nat} {host : Nat} {length : Nat} (h_wire : W.wire = true) (h_traffic : W.traffic = true) (h_outbox : W.outbox = true) (h_mail : W.mail = true) (hs : ChangesOnly W s₀ s) :
    ChangesOnly W s₀ (acceptTransfer s r dir device host length) := by
  unfold acceptTransfer
  repeat' first
    | with_reducible assumption
    | with_reducible refine accept_touch h_wire h_traffic h_outbox h_mail ?_
    | with_reducible refine refuse_touch h_wire h_traffic h_outbox h_mail ?_
    | with_reducible refine touch_ite (fun _ => ?_) (fun _ => ?_)

theorem execHostTransferToHost_touch {r : Req} {device : DWord} {host : DWord} {length : DWord} {s : State} (h_wire : W.wire = true) (h_traffic : W.traffic = true) (h_outbox : W.outbox = true) (h_mail : W.mail = true) (hs : ChangesOnly W s₀ s) :
    TouchR W s₀ (execHostTransferToHost r device host length s) := by
  unfold execHostTransferToHost
  repeat' first
    | with_reducible assumption
    | with_reducible refine touchR_next ?_
    | with_reducible refine serveC_touch h_wire h_traffic h_outbox h_mail ?_ (fun _ _ => ?_)
    | with_reducible refine acceptTransfer_touch h_wire h_traffic h_outbox h_mail ?_

theorem execHostTransferToDevice_touch {r : Req} {device : DWord} {host : DWord} {length : DWord} {s : State} (h_wire : W.wire = true) (h_traffic : W.traffic = true) (h_outbox : W.outbox = true) (h_mail : W.mail = true) (hs : ChangesOnly W s₀ s) :
    TouchR W s₀ (execHostTransferToDevice r device host length s) := by
  unfold execHostTransferToDevice
  repeat' first
    | with_reducible assumption
    | with_reducible refine touchR_next ?_
    | with_reducible refine serveC_touch h_wire h_traffic h_outbox h_mail ?_ (fun _ _ => ?_)
    | with_reducible refine acceptTransfer_touch h_wire h_traffic h_outbox h_mail ?_

theorem hostIn_touch {s : State} {n : Nat} (h_traffic : W.traffic = true) (hs : ChangesOnly W s₀ s) :
    ChangesOnly W s₀ (hostIn s n) := by
  unfold hostIn
  repeat' first
    | with_reducible assumption
    | with_reducible refine portBytes_touch h_traffic ?_
    | with_reducible refine active_touch h_traffic ?_

theorem hostOut_touch {s : State} {n : Nat} (h_traffic : W.traffic = true) (hs : ChangesOnly W s₀ s) :
    ChangesOnly W s₀ (hostOut s n) := by
  unfold hostOut
  repeat' first
    | with_reducible assumption
    | with_reducible refine portBytes_touch h_traffic ?_
    | with_reducible refine active_touch h_traffic ?_

theorem execHostTransferDone_touch {r : Req} {poisoned : Bool} {s : State} (h_host : W.host = true) (h_wire : W.wire = true) (h_traffic : W.traffic = true) (h_outbox : W.outbox = true) (h_mail : W.mail = true) (hs : ChangesOnly W s₀ s) :
    TouchR W s₀ (execHostTransferDone r poisoned s) := by
  unfold execHostTransferDone
  repeat' first
    | with_reducible assumption
    | fail_if_no_progress (with_reducible refine touch_mk ?_ ⟨rfl, rfl, fun _ => rfl, fun _ => rfl, fun _ => rfl, fun _ => rfl, fun _ => rfl, fun _ => rfl, fun _ => rfl, fun _ => rfl, fun _ => rfl, fun _ => rfl, fun _ => rfl, fun _ => rfl, off_of_on h_host, fun _ => rfl, fun _ => rfl, fun _ => rfl, fun _ => rfl, fun _ => rfl, fun _ => rfl, fun _ => rfl, fun _ => rfl, fun _ => rfl, fun _ => rfl, fun _ => rfl, fun _ => rfl, fun _ => rfl, fun _ => rfl, fun _ => rfl, fun _ => rfl, fun _ => rfl, fun _ => rfl⟩)
    | with_reducible refine touchR_next ?_
    | with_reducible refine hostOut_touch h_traffic ?_
    | with_reducible refine writeHost_touch h_host ?_
    | with_reducible refine closeCommand_touch h_mail ?_
    | with_reducible refine respond_touch h_wire h_traffic h_outbox h_mail ?_
    | with_reducible refine hostIn_touch h_traffic ?_
    | with_reducible refine touch_ite (fun _ => ?_) (fun _ => ?_)
    | split

theorem landLine_touch {w : HostWrite} {s : State} {line : Nat} (h_hbm : W.hbm = true) (h_traffic : W.traffic = true) (hs : ChangesOnly W s₀ s) :
    ChangesOnly W s₀ (landLine w s line) := by
  unfold landLine
  repeat' first
    | with_reducible assumption
    | with_reducible refine writeHbm_touch h_hbm h_traffic ?_

theorem landWrite_touch {s : State} {w : HostWrite} (h_hbm : W.hbm = true) (h_wire : W.wire = true) (h_traffic : W.traffic = true) (h_ev : W.ev = true) (h_outbox : W.outbox = true) (h_mail : W.mail = true) (hs : ChangesOnly W s₀ s) :
    ChangesOnly W s₀ (landWrite s w) := by
  unfold landWrite
  repeat' first
    | with_reducible assumption
    | with_reducible refine raise_touch h_traffic h_ev h_outbox ?_
    | with_reducible refine landLine_touch h_hbm h_traffic ?_
    | with_reducible refine respond_touch h_wire h_traffic h_outbox h_mail ?_
    | with_reducible refine changeEvent_touch h_traffic h_ev h_outbox ?_
    | with_reducible refine closeCommand_touch h_mail ?_
    | with_reducible refine touch_foldl ?_ (fun _ _ _ => ?_)
    | with_reducible refine touch_ite (fun _ => ?_) (fun _ => ?_)
    | split
    | (dsimp only; split)

theorem landedTick_touch {s : State} (h_hbm : W.hbm = true) (h_host : W.host = true) (h_wire : W.wire = true) (h_traffic : W.traffic = true) (h_ev : W.ev = true) (h_outbox : W.outbox = true) (h_mail : W.mail = true) (hs : ChangesOnly W s₀ s) :
    ChangesOnly W s₀ (landedTick s) := by
  unfold landedTick
  repeat' first
    | with_reducible assumption
    | fail_if_no_progress (with_reducible refine touch_mk ?_ ⟨rfl, rfl, fun _ => rfl, fun _ => rfl, fun _ => rfl, fun _ => rfl, fun _ => rfl, fun _ => rfl, fun _ => rfl, fun _ => rfl, fun _ => rfl, fun _ => rfl, off_of_on h_hbm, fun _ => rfl, off_of_on h_host, fun _ => rfl, fun _ => rfl, fun _ => rfl, fun _ => rfl, fun _ => rfl, fun _ => rfl, fun _ => rfl, fun _ => rfl, fun _ => rfl, fun _ => rfl, fun _ => rfl, fun _ => rfl, fun _ => rfl, fun _ => rfl, fun _ => rfl, fun _ => rfl, fun _ => rfl, fun _ => rfl⟩)
    | with_reducible refine landWrite_touch h_hbm h_wire h_traffic h_ev h_outbox h_mail ?_
    | with_reducible refine touch_foldl ?_ (fun _ _ _ => ?_)

theorem execAomFilterLoad_touch {r : Req} {filter : BitVec 1024} {s : State} (h_wire : W.wire = true) (h_aom : W.aom = true) (h_traffic : W.traffic = true) (h_ev : W.ev = true) (h_outbox : W.outbox = true) (h_mail : W.mail = true) (hs : ChangesOnly W s₀ s) :
    TouchR W s₀ (execAomFilterLoad r filter s) := by
  unfold execAomFilterLoad
  repeat' first
    | with_reducible assumption
    | fail_if_no_progress (with_reducible refine touch_mk ?_ ⟨rfl, rfl, fun _ => rfl, fun _ => rfl, fun _ => rfl, fun _ => rfl, fun _ => rfl, fun _ => rfl, fun _ => rfl, fun _ => rfl, fun _ => rfl, fun _ => rfl, fun _ => rfl, fun _ => rfl, fun _ => rfl, fun _ => rfl, fun _ => rfl, fun _ => rfl, fun _ => rfl, fun _ => rfl, fun _ => rfl, fun _ => rfl, off_of_on h_aom, fun _ => rfl, fun _ => rfl, fun _ => rfl, fun _ => rfl, fun _ => rfl, fun _ => rfl, fun _ => rfl, fun _ => rfl, fun _ => rfl, fun _ => rfl⟩)
    | with_reducible refine touchR_next ?_
    | with_reducible refine serve_touch h_wire h_traffic h_outbox h_mail ?_ (fun _ _ => ?_)
    | with_reducible refine refuse_touch h_wire h_traffic h_outbox h_mail ?_
    | with_reducible refine settled_touch h_wire h_traffic h_ev h_outbox h_mail ?_
    | with_reducible refine touch_ite (fun _ => ?_) (fun _ => ?_)

theorem execAomFilterRemove_touch {r : Req} {slot : Byte} {s : State} (h_wire : W.wire = true) (h_aom : W.aom = true) (h_traffic : W.traffic = true) (h_ev : W.ev = true) (h_outbox : W.outbox = true) (h_mail : W.mail = true) (hs : ChangesOnly W s₀ s) :
    TouchR W s₀ (execAomFilterRemove r slot s) := by
  unfold execAomFilterRemove
  repeat' first
    | with_reducible assumption
    | fail_if_no_progress (with_reducible refine touch_mk ?_ ⟨rfl, rfl, fun _ => rfl, fun _ => rfl, fun _ => rfl, fun _ => rfl, fun _ => rfl, fun _ => rfl, fun _ => rfl, fun _ => rfl, fun _ => rfl, fun _ => rfl, fun _ => rfl, fun _ => rfl, fun _ => rfl, fun _ => rfl, fun _ => rfl, fun _ => rfl, fun _ => rfl, fun _ => rfl, fun _ => rfl, fun _ => rfl, off_of_on h_aom, fun _ => rfl, fun _ => rfl, fun _ => rfl, fun _ => rfl, fun _ => rfl, fun _ => rfl, fun _ => rfl, fun _ => rfl, fun _ => rfl, fun _ => rfl⟩)
    | with_reducible refine touchR_next ?_
    | with_reducible refine serve_touch h_wire h_traffic h_outbox h_mail ?_ (fun _ _ => ?_)
    | with_reducible refine refuse_touch h_wire h_traffic h_outbox h_mail ?_
    | with_reducible refine settled_touch h_wire h_traffic h_ev h_outbox h_mail ?_
    | with_reducible refine touch_ite (fun _ => ?_) (fun _ => ?_)

theorem modEntryBytes_touch {s : State} {n : Nat} {f : List Byte → List Byte} (h_hbm : W.hbm = true) (h_traffic : W.traffic = true) (hs : ChangesOnly W s₀ s) :
    ChangesOnly W s₀ (modEntryBytes s n f) := by
  unfold modEntryBytes
  repeat' first
    | with_reducible assumption
    | fail_if_no_progress (with_reducible refine touch_mk ?_ ⟨rfl, rfl, fun _ => rfl, fun _ => rfl, fun _ => rfl, fun _ => rfl, fun _ => rfl, fun _ => rfl, fun _ => rfl, fun _ => rfl, fun _ => rfl, fun _ => rfl, off_of_on h_hbm, fun _ => rfl, fun _ => rfl, fun _ => rfl, fun _ => rfl, fun _ => rfl, fun _ => rfl, fun _ => rfl, fun _ => rfl, fun _ => rfl, fun _ => rfl, fun _ => rfl, fun _ => rfl, fun _ => rfl, fun _ => rfl, fun _ => rfl, fun _ => rfl, fun _ => rfl, fun _ => rfl, fun _ => rfl, fun _ => rfl⟩)
    | with_reducible refine writeHbm_touch h_hbm h_traffic ?_

theorem onContext_touch {s : State} {r : Req} {opcode : Nat} {n : Nat} {f : State → State} (h_wire : W.wire = true) (h_traffic : W.traffic = true) (h_outbox : W.outbox = true) (h_mail : W.mail = true) (hs : ChangesOnly W s₀ s)
    (hsf : ∀ s, ChangesOnly W s₀ s → ChangesOnly W s₀ (f s)) :
    ChangesOnly W s₀ (onContext s r opcode n f) := by
  unfold onContext
  repeat' first
    | with_reducible assumption
    | with_reducible refine hsf _ ?_
    | with_reducible refine refuse_touch h_wire h_traffic h_outbox h_mail ?_
    | with_reducible refine touch_ite (fun _ => ?_) (fun _ => ?_)

theorem addOrder_touch {s : State} {o : CtxOrder} (h_ctx : W.ctx = true) (hs : ChangesOnly W s₀ s) :
    ChangesOnly W s₀ (addOrder s o) := by
  unfold addOrder
  repeat' first
    | with_reducible assumption
    | fail_if_no_progress (with_reducible refine touch_mk ?_ ⟨rfl, rfl, fun _ => rfl, fun _ => rfl, fun _ => rfl, fun _ => rfl, fun _ => rfl, fun _ => rfl, fun _ => rfl, fun _ => rfl, fun _ => rfl, fun _ => rfl, fun _ => rfl, fun _ => rfl, fun _ => rfl, fun _ => rfl, fun _ => rfl, fun _ => rfl, fun _ => rfl, fun _ => rfl, fun _ => rfl, fun _ => rfl, fun _ => rfl, fun _ => rfl, fun _ => rfl, fun _ => rfl, off_of_on h_ctx, fun _ => rfl, fun _ => rfl, fun _ => rfl, fun _ => rfl, fun _ => rfl, fun _ => rfl⟩)

theorem execContextLoad_touch {r : Req} {context : Word} {host : DWord} {promptLen : Word} {word8 : DWord} {word18 : DWord} {s : State} (h_wire : W.wire = true) (h_traffic : W.traffic = true) (h_outbox : W.outbox = true) (h_mail : W.mail = true) (hs : ChangesOnly W s₀ s) :
    TouchR W s₀ (execContextLoad r context host promptLen word8 word18 s) := by
  unfold execContextLoad
  repeat' first
    | with_reducible assumption
    | with_reducible refine touchR_next ?_
    | with_reducible refine serveC_touch h_wire h_traffic h_outbox h_mail ?_ (fun _ _ => ?_)
    | with_reducible refine onContext_touch h_wire h_traffic h_outbox h_mail ?_ (fun _ _ => ?_)
    | with_reducible refine refuse_touch h_wire h_traffic h_outbox h_mail ?_
    | with_reducible refine accept_touch h_wire h_traffic h_outbox h_mail ?_
    | with_reducible refine touch_ite (fun _ => ?_) (fun _ => ?_)

theorem execContextLoadDone_touch {r : Req} {s : State} (h_traffic : W.traffic = true) (h_ctx : W.ctx = true) (hs : ChangesOnly W s₀ s) :
    TouchR W s₀ (execContextLoadDone r s) := by
  unfold execContextLoadDone
  repeat' first
    | with_reducible assumption
    | with_reducible refine touchR_next ?_
    | with_reducible refine addOrder_touch h_ctx ?_
    | with_reducible refine hostIn_touch h_traffic ?_
    | with_reducible refine touch_ite (fun _ => ?_) (fun _ => ?_)
    | split

theorem execContextRead_touch {r : Req} {first : Word} {count : Half} {s : State} (h_wire : W.wire = true) (h_traffic : W.traffic = true) (h_outbox : W.outbox = true) (h_mail : W.mail = true) (hs : ChangesOnly W s₀ s) :
    TouchR W s₀ (execContextRead r first count s) := by
  unfold execContextRead
  repeat' first
    | with_reducible assumption
    | with_reducible refine touchR_next ?_
    | with_reducible refine serve_touch h_wire h_traffic h_outbox h_mail ?_ (fun _ _ => ?_)
    | with_reducible refine onContext_touch h_wire h_traffic h_outbox h_mail ?_ (fun _ _ => ?_)
    | with_reducible refine answer_touch h_wire h_traffic h_outbox h_mail ?_
    | with_reducible refine refuse_touch h_wire h_traffic h_outbox h_mail ?_
    | with_reducible refine touch_ite (fun _ => ?_) (fun _ => ?_)

theorem execContextWrite_touch {r : Req} {context : Word} {word8 : DWord} {word18 : DWord} {s : State} (h_wire : W.wire = true) (h_traffic : W.traffic = true) (h_ctx : W.ctx = true) (h_outbox : W.outbox = true) (h_mail : W.mail = true) (hs : ChangesOnly W s₀ s) :
    TouchR W s₀ (execContextWrite r context word8 word18 s) := by
  unfold execContextWrite
  repeat' first
    | with_reducible assumption
    | with_reducible refine touchR_next ?_
    | with_reducible refine serve_touch h_wire h_traffic h_outbox h_mail ?_ (fun _ _ => ?_)
    | with_reducible refine onContext_touch h_wire h_traffic h_outbox h_mail ?_ (fun _ _ => ?_)
    | with_reducible refine refuse_touch h_wire h_traffic h_outbox h_mail ?_
    | with_reducible refine addOrder_touch h_ctx ?_
    | with_reducible refine touch_ite (fun _ => ?_) (fun _ => ?_)

theorem execContextStop_touch {r : Req} {context : Word} {s : State} (h_wire : W.wire = true) (h_traffic : W.traffic = true) (h_ctx : W.ctx = true) (h_outbox : W.outbox = true) (h_mail : W.mail = true) (hs : ChangesOnly W s₀ s) :
    TouchR W s₀ (execContextStop r context s) := by
  unfold execContextStop
  repeat' first
    | with_reducible assumption
    | with_reducible refine touchR_next ?_
    | with_reducible refine serve_touch h_wire h_traffic h_outbox h_mail ?_ (fun _ _ => ?_)
    | with_reducible refine onContext_touch h_wire h_traffic h_outbox h_mail ?_ (fun _ _ => ?_)
    | with_reducible refine addOrder_touch h_ctx ?_
    | with_reducible refine refuse_touch h_wire h_traffic h_outbox h_mail ?_
    | with_reducible refine touch_ite (fun _ => ?_) (fun _ => ?_)

theorem execContextRelease_touch {r : Req} {context : Word} {s : State} (h_wire : W.wire = true) (h_traffic : W.traffic = true) (h_ctx : W.ctx = true) (h_outbox : W.outbox = true) (h_mail : W.mail = true) (hs : ChangesOnly W s₀ s) :
    TouchR W s₀ (execContextRelease r context s) := by
  unfold execContextRelease
  repeat' first
    | with_reducible assumption
    | with_reducible refine touchR_next ?_
    | with_reducible refine serve_touch h_wire h_traffic h_outbox h_mail ?_ (fun _ _ => ?_)
    | with_reducible refine onContext_touch h_wire h_traffic h_outbox h_mail ?_ (fun _ _ => ?_)
    | with_reducible refine refuse_touch h_wire h_traffic h_outbox h_mail ?_
    | with_reducible refine addOrder_touch h_ctx ?_
    | with_reducible refine touch_ite (fun _ => ?_) (fun _ => ?_)

theorem execContextTokens_touch {r : Req} {context : Word} {first : Word} {count : Word} {host : DWord} {s : State} (h_wire : W.wire = true) (h_traffic : W.traffic = true) (h_outbox : W.outbox = true) (h_mail : W.mail = true) (hs : ChangesOnly W s₀ s) :
    TouchR W s₀ (execContextTokens r context first count host s) := by
  unfold execContextTokens
  repeat' first
    | with_reducible assumption
    | with_reducible refine touchR_next ?_
    | with_reducible refine serveC_touch h_wire h_traffic h_outbox h_mail ?_ (fun _ _ => ?_)
    | with_reducible refine onContext_touch h_wire h_traffic h_outbox h_mail ?_ (fun _ _ => ?_)
    | with_reducible refine refuse_touch h_wire h_traffic h_outbox h_mail ?_
    | with_reducible refine accept_touch h_wire h_traffic h_outbox h_mail ?_
    | with_reducible refine touch_ite (fun _ => ?_) (fun _ => ?_)

theorem copyTokens_touch {s : State} {n : Nat} {first : Nat} {count : Nat} {host : Nat} (h_host : W.host = true) (hs : ChangesOnly W s₀ s) :
    ChangesOnly W s₀ (copyTokens s n first count host) := by
  unfold copyTokens
  repeat' first
    | with_reducible assumption
    | with_reducible refine writeHost_touch h_host ?_
    | with_reducible refine touch_foldl ?_ (fun _ _ _ => ?_)
    | split

theorem execContextTokensDone_touch {r : Req} {s : State} (h_host : W.host = true) (h_wire : W.wire = true) (h_traffic : W.traffic = true) (h_outbox : W.outbox = true) (h_mail : W.mail = true) (hs : ChangesOnly W s₀ s) :
    TouchR W s₀ (execContextTokensDone r s) := by
  unfold execContextTokensDone
  repeat' first
    | with_reducible assumption
    | with_reducible refine touchR_next ?_
    | with_reducible refine hostOut_touch h_traffic ?_
    | with_reducible refine copyTokens_touch h_host ?_
    | with_reducible refine closeCommand_touch h_mail ?_
    | with_reducible refine respond_touch h_wire h_traffic h_outbox h_mail ?_
    | split

theorem putPrompt_touch {n : Nat} {o : Option State} {x : Nat × Nat} (h_hbm : W.hbm = true) (h_traffic : W.traffic = true) (h_ctx : W.ctx = true) (hs : ∀ s, o = some s → ChangesOnly W s₀ s) :
    ∀ s, putPrompt n o x = some s → ChangesOnly W s₀ s := by
  intro s h
  simp only [putPrompt, Option.map_eq_some_iff, Option.bind_eq_some_iff] at h
  obtain ⟨u, ⟨a, ha, b, hb, hu⟩, rfl⟩ := h
  have k := ensureKv_touch h_hbm h_traffic h_ctx (ensureToken_touch h_hbm h_traffic h_ctx (hs a ha) _ hb) _ hu
  split
  · exact writeHbm_touch h_hbm h_traffic k
  · exact k

theorem loadContext_touch {s : State} {o : CtxOrder} (h_hbm : W.hbm = true) (h_traffic : W.traffic = true) (h_ctx : W.ctx = true) (hs : ChangesOnly W s₀ s) : ∀ t, loadContext s o = some t → ChangesOnly W s₀ t := by
  intro t h
  simp only [loadContext, Option.bind_eq_some_iff] at h
  obtain ⟨x, hx, y, hy, ht⟩ := h
  have k : ChangesOnly W s₀ (if ctxState s o.context = 0 then s else releaseHeld s o.context) :=
    touch_ite (fun _ => hs) (fun _ => releaseHeld_touch h_ctx hs)
  have k := modEntryBytes_touch h_hbm h_traffic (n := o.context) (f := loadedEntry o x.2 y.2) (takePage_touch h_hbm h_traffic h_ctx (takePage_touch h_hbm h_traffic h_ctx k _ hx) _ hy)
  have key : ∀ (l : List (Nat × Nat)) (p : Option State), (∀ s, p = some s → ChangesOnly W s₀ s) →
      ∀ s, l.foldl (putPrompt o.context) p = some s → ChangesOnly W s₀ s := by
    intro l
    induction l with
    | nil => exact fun _ h => h
    | cons a l ih => exact fun p h => ih _ (putPrompt_touch h_hbm h_traffic h_ctx h)
  exact key _ _ (fun s e => by cases e; exact k) _ ht

theorem orderEffect_touch {s : State} {o : CtxOrder} (h_hbm : W.hbm = true) (h_traffic : W.traffic = true) (h_ctx : W.ctx = true) (hs : ChangesOnly W s₀ s) : ∀ t, orderEffect s o = some t → ChangesOnly W s₀ t := by
  intro t h
  simp only [orderEffect] at h
  split at h
  · exact loadContext_touch h_hbm h_traffic h_ctx hs _ h
  · cases h; exact modEntryBytes_touch h_hbm h_traffic hs
  · split at h <;> cases h
    · exact modEntryBytes_touch h_hbm h_traffic hs
    · exact hs
  · cases h; exact modEntryBytes_touch h_hbm h_traffic (releaseHeld_touch h_ctx hs)

theorem orderAnswer_touch {s : State} {o : CtxOrder} {ok : Bool} (h_wire : W.wire = true) (h_traffic : W.traffic = true) (h_ev : W.ev = true) (h_outbox : W.outbox = true) (h_mail : W.mail = true) (hs : ChangesOnly W s₀ s) :
    ChangesOnly W s₀ (orderAnswer s o ok) := by
  unfold orderAnswer
  repeat' first
    | with_reducible assumption
    | fail_if_no_progress (with_reducible refine touch_mk ?_ ⟨rfl, rfl, fun _ => rfl, fun _ => rfl, fun _ => rfl, fun _ => rfl, fun _ => rfl, fun _ => rfl, fun _ => rfl, fun _ => rfl, fun _ => rfl, fun _ => rfl, fun _ => rfl, fun _ => rfl, fun _ => rfl, fun _ => rfl, fun _ => rfl, fun _ => rfl, fun _ => rfl, fun _ => rfl, fun _ => rfl, fun _ => rfl, fun _ => rfl, fun _ => rfl, fun _ => rfl, fun _ => rfl, fun _ => rfl, fun _ => rfl, fun _ => rfl, fun _ => rfl, off_of_on h_mail, fun _ => rfl, fun _ => rfl⟩)
    | with_reducible refine settled_touch h_wire h_traffic h_ev h_outbox h_mail ?_
    | with_reducible refine respond_touch h_wire h_traffic h_outbox h_mail ?_
    | with_reducible refine touch_ite (fun _ => ?_) (fun _ => ?_)
    | split

theorem contextsTick_touch {s : State} (h_hbm : W.hbm = true) (h_wire : W.wire = true) (h_traffic : W.traffic = true) (h_ctx : W.ctx = true) (h_ev : W.ev = true) (h_outbox : W.outbox = true) (h_mail : W.mail = true) (hs : ChangesOnly W s₀ s) :
    ChangesOnly W s₀ (contextsTick s) := by
  unfold contextsTick
  repeat' first
    | with_reducible assumption
    | fail_if_no_progress (with_reducible refine touch_mk ?_ ⟨rfl, rfl, fun _ => rfl, fun _ => rfl, fun _ => rfl, fun _ => rfl, fun _ => rfl, fun _ => rfl, fun _ => rfl, fun _ => rfl, fun _ => rfl, fun _ => rfl, fun _ => rfl, fun _ => rfl, fun _ => rfl, fun _ => rfl, fun _ => rfl, fun _ => rfl, fun _ => rfl, fun _ => rfl, fun _ => rfl, fun _ => rfl, fun _ => rfl, fun _ => rfl, fun _ => rfl, fun _ => rfl, off_of_on h_ctx, fun _ => rfl, fun _ => rfl, fun _ => rfl, fun _ => rfl, fun _ => rfl, fun _ => rfl⟩)
    | exact orderEffect_touch h_hbm h_traffic h_ctx ‹_› _ ‹_›
    | with_reducible refine orderAnswer_touch h_wire h_traffic h_ev h_outbox h_mail ?_
    | with_reducible refine touch_foldl ?_ (fun _ _ _ => ?_)
    | split

theorem execFwStage_touch {r : Req} {host : DWord} {length : Word} {s : State} (h_wire : W.wire = true) (h_traffic : W.traffic = true) (h_outbox : W.outbox = true) (h_mail : W.mail = true) (hs : ChangesOnly W s₀ s) :
    TouchR W s₀ (execFwStage r host length s) := by
  unfold execFwStage
  repeat' first
    | with_reducible assumption
    | with_reducible refine touchR_next ?_
    | with_reducible refine serveC_touch h_wire h_traffic h_outbox h_mail ?_ (fun _ _ => ?_)
    | with_reducible refine accept_touch h_wire h_traffic h_outbox h_mail ?_
    | with_reducible refine refuse_touch h_wire h_traffic h_outbox h_mail ?_
    | with_reducible refine touch_ite (fun _ => ?_) (fun _ => ?_)

theorem execFwStageDone_touch {r : Req} {s : State} (h_wire : W.wire = true) (h_traffic : W.traffic = true) (h_ev : W.ev = true) (h_outbox : W.outbox = true) (h_mail : W.mail = true) (h_keys : W.keys = true) (hs : ChangesOnly W s₀ s) :
    TouchR W s₀ (execFwStageDone r s) := by
  unfold execFwStageDone
  repeat' first
    | with_reducible assumption
    | fail_if_no_progress (with_reducible refine touch_mk ?_ ⟨rfl, rfl, fun _ => rfl, fun _ => rfl, fun _ => rfl, fun _ => rfl, fun _ => rfl, fun _ => rfl, fun _ => rfl, fun _ => rfl, fun _ => rfl, fun _ => rfl, fun _ => rfl, fun _ => rfl, fun _ => rfl, fun _ => rfl, fun _ => rfl, fun _ => rfl, fun _ => rfl, fun _ => rfl, fun _ => rfl, fun _ => rfl, fun _ => rfl, fun _ => rfl, fun _ => rfl, fun _ => rfl, fun _ => rfl, fun _ => rfl, fun _ => rfl, fun _ => rfl, fun _ => rfl, fun _ => rfl, off_of_on h_keys⟩)
    | with_reducible refine touchR_next ?_
    | with_reducible refine hostIn_touch h_traffic ?_
    | with_reducible refine closeCommand_touch h_mail ?_
    | with_reducible refine respond_touch h_wire h_traffic h_outbox h_mail ?_
    | with_reducible refine changeEvent_touch h_traffic h_ev h_outbox ?_
    | with_reducible refine raise_touch h_traffic h_ev h_outbox ?_
    | with_reducible refine touch_ite (fun _ => ?_) (fun _ => ?_)
    | split

theorem execFwActivate_touch {r : Req} {slot : Byte} {s : State} (h_free : W.free = true) (h_cycle : W.cycle = true) (h_runs : W.runs = true) (h_holds : W.holds = true) (h_frame : W.frame = true) (h_led : W.led = true) (h_tiles : W.tiles = true) (h_arrays : W.arrays = true) (h_cells : W.cells = true) (h_ops : W.ops = true) (h_hbm : W.hbm = true) (h_tileMem : W.tileMem = true) (h_host : W.host = true) (h_upd : W.upd = true) (h_num : W.num = true) (h_wire : W.wire = true) (h_sync : W.sync = true) (h_plan : W.plan = true) (h_lakes : W.lakes = true) (h_pow : W.pow = true) (h_aom : W.aom = true) (h_traffic : W.traffic = true) (h_cnt : W.cnt = true) (h_pin : W.pin = true) (h_ctx : W.ctx = true) (h_ev : W.ev = true) (h_hl : W.hl = true) (h_outbox : W.outbox = true) (h_mail : W.mail = true) (h_settings : W.settings = true) (h_keys : W.keys = true) (hs : ChangesOnly W s₀ s) :
    TouchR W s₀ (execFwActivate r slot s) := by
  unfold execFwActivate
  repeat' first
    | with_reducible assumption
    | fail_if_no_progress (with_reducible refine touch_mk ?_ ⟨rfl, rfl, fun _ => rfl, fun _ => rfl, fun _ => rfl, fun _ => rfl, fun _ => rfl, fun _ => rfl, fun _ => rfl, fun _ => rfl, fun _ => rfl, fun _ => rfl, fun _ => rfl, fun _ => rfl, fun _ => rfl, fun _ => rfl, fun _ => rfl, fun _ => rfl, fun _ => rfl, fun _ => rfl, fun _ => rfl, fun _ => rfl, fun _ => rfl, fun _ => rfl, fun _ => rfl, fun _ => rfl, fun _ => rfl, fun _ => rfl, fun _ => rfl, fun _ => rfl, fun _ => rfl, fun _ => rfl, off_of_on h_keys⟩)
    | with_reducible refine touchR_next ?_
    | with_reducible refine serve_touch h_wire h_traffic h_outbox h_mail ?_ (fun _ _ => ?_)
    | with_reducible refine refuse_touch h_wire h_traffic h_outbox h_mail ?_
    | with_reducible refine settled_touch h_wire h_traffic h_ev h_outbox h_mail ?_
    | with_reducible refine draw_touch h_free ?_
    | with_reducible refine coldReset_touch h_free h_cycle h_runs h_holds h_frame h_led h_tiles h_arrays h_cells h_ops h_hbm h_tileMem h_host h_upd h_num h_wire h_sync h_plan h_lakes h_pow h_aom h_traffic h_cnt h_pin h_ctx h_ev h_hl h_outbox h_mail h_settings h_keys ?_
    | with_reducible refine orderlyStop_touch h_arrays h_hl ?_
    | with_reducible refine touch_ite (fun _ => ?_) (fun _ => ?_)

theorem blowFuse_touch {s : State} (h_traffic : W.traffic = true) (h_ev : W.ev = true) (h_outbox : W.outbox = true) (h_keys : W.keys = true) (hs : ChangesOnly W s₀ s) :
    ChangesOnly W s₀ (blowFuse s) := by
  unfold blowFuse
  repeat' first
    | with_reducible assumption
    | fail_if_no_progress (with_reducible refine touch_mk ?_ ⟨rfl, rfl, fun _ => rfl, fun _ => rfl, fun _ => rfl, fun _ => rfl, fun _ => rfl, fun _ => rfl, fun _ => rfl, fun _ => rfl, fun _ => rfl, fun _ => rfl, fun _ => rfl, fun _ => rfl, fun _ => rfl, fun _ => rfl, fun _ => rfl, fun _ => rfl, fun _ => rfl, fun _ => rfl, fun _ => rfl, fun _ => rfl, fun _ => rfl, fun _ => rfl, fun _ => rfl, fun _ => rfl, fun _ => rfl, fun _ => rfl, fun _ => rfl, fun _ => rfl, fun _ => rfl, fun _ => rfl, off_of_on h_keys⟩)
    | with_reducible refine raise_touch h_traffic h_ev h_outbox ?_

theorem execAttest_touch {r : Req} {nonce : BitVec 256} {s : State} (h_wire : W.wire = true) (h_traffic : W.traffic = true) (h_ev : W.ev = true) (h_outbox : W.outbox = true) (h_mail : W.mail = true) (h_keys : W.keys = true) (hs : ChangesOnly W s₀ s) :
    TouchR W s₀ (execAttest r nonce s) := by
  unfold execAttest
  repeat' first
    | with_reducible assumption
    | fail_if_no_progress (with_reducible refine touch_mk ?_ ⟨rfl, rfl, fun _ => rfl, fun _ => rfl, fun _ => rfl, fun _ => rfl, fun _ => rfl, fun _ => rfl, fun _ => rfl, fun _ => rfl, fun _ => rfl, fun _ => rfl, fun _ => rfl, fun _ => rfl, fun _ => rfl, fun _ => rfl, fun _ => rfl, fun _ => rfl, fun _ => rfl, fun _ => rfl, fun _ => rfl, fun _ => rfl, fun _ => rfl, fun _ => rfl, fun _ => rfl, fun _ => rfl, fun _ => rfl, fun _ => rfl, fun _ => rfl, fun _ => rfl, fun _ => rfl, fun _ => rfl, off_of_on h_keys⟩)
    | with_reducible refine touchR_next ?_
    | with_reducible refine serve_touch h_wire h_traffic h_outbox h_mail ?_ (fun _ _ => ?_)
    | with_reducible refine refuse_touch h_wire h_traffic h_outbox h_mail ?_
    | with_reducible refine raise_touch h_traffic h_ev h_outbox ?_
    | with_reducible refine blowFuse_touch h_traffic h_ev h_outbox h_keys ?_
    | with_reducible refine answer_touch h_wire h_traffic h_outbox h_mail ?_
    | with_reducible refine touch_ite (fun _ => ?_) (fun _ => ?_)

theorem execAttestTokenRefill_touch {s : State} (h_keys : W.keys = true) (hs : ChangesOnly W s₀ s) :
    TouchR W s₀ (execAttestTokenRefill s) := by
  unfold execAttestTokenRefill
  repeat' first
    | with_reducible assumption
    | fail_if_no_progress (with_reducible refine touch_mk ?_ ⟨rfl, rfl, fun _ => rfl, fun _ => rfl, fun _ => rfl, fun _ => rfl, fun _ => rfl, fun _ => rfl, fun _ => rfl, fun _ => rfl, fun _ => rfl, fun _ => rfl, fun _ => rfl, fun _ => rfl, fun _ => rfl, fun _ => rfl, fun _ => rfl, fun _ => rfl, fun _ => rfl, fun _ => rfl, fun _ => rfl, fun _ => rfl, fun _ => rfl, fun _ => rfl, fun _ => rfl, fun _ => rfl, fun _ => rfl, fun _ => rfl, fun _ => rfl, fun _ => rfl, fun _ => rfl, fun _ => rfl, off_of_on h_keys⟩)
    | with_reducible refine touchR_next ?_

theorem execIdentityCert_touch {r : Req} {s : State} (h_wire : W.wire = true) (h_traffic : W.traffic = true) (h_outbox : W.outbox = true) (h_mail : W.mail = true) (hs : ChangesOnly W s₀ s) :
    TouchR W s₀ (execIdentityCert r s) := by
  unfold execIdentityCert
  repeat' first
    | with_reducible assumption
    | with_reducible refine touchR_next ?_
    | with_reducible refine serve_touch h_wire h_traffic h_outbox h_mail ?_ (fun _ _ => ?_)
    | with_reducible refine answer_touch h_wire h_traffic h_outbox h_mail ?_

theorem execOwnerKeySet_touch {r : Req} {record : List Byte} {s : State} (h_wire : W.wire = true) (h_traffic : W.traffic = true) (h_ev : W.ev = true) (h_outbox : W.outbox = true) (h_mail : W.mail = true) (h_keys : W.keys = true) (hs : ChangesOnly W s₀ s) :
    TouchR W s₀ (execOwnerKeySet r record s) := by
  unfold execOwnerKeySet
  repeat' first
    | with_reducible assumption
    | fail_if_no_progress (with_reducible refine touch_mk ?_ ⟨rfl, rfl, fun _ => rfl, fun _ => rfl, fun _ => rfl, fun _ => rfl, fun _ => rfl, fun _ => rfl, fun _ => rfl, fun _ => rfl, fun _ => rfl, fun _ => rfl, fun _ => rfl, fun _ => rfl, fun _ => rfl, fun _ => rfl, fun _ => rfl, fun _ => rfl, fun _ => rfl, fun _ => rfl, fun _ => rfl, fun _ => rfl, fun _ => rfl, fun _ => rfl, fun _ => rfl, fun _ => rfl, fun _ => rfl, fun _ => rfl, fun _ => rfl, fun _ => rfl, fun _ => rfl, fun _ => rfl, off_of_on h_keys⟩)
    | with_reducible refine touchR_next ?_
    | with_reducible refine serve_touch h_wire h_traffic h_outbox h_mail ?_ (fun _ _ => ?_)
    | with_reducible refine refuse_touch h_wire h_traffic h_outbox h_mail ?_
    | with_reducible refine raise_touch h_traffic h_ev h_outbox ?_
    | with_reducible refine settled_touch h_wire h_traffic h_ev h_outbox h_mail ?_
    | with_reducible refine touch_ite (fun _ => ?_) (fun _ => ?_)

theorem execMgmtKeySet_touch {r : Req} {key : BitVec 256} {s : State} (h_wire : W.wire = true) (h_traffic : W.traffic = true) (h_ev : W.ev = true) (h_outbox : W.outbox = true) (h_mail : W.mail = true) (h_keys : W.keys = true) (hs : ChangesOnly W s₀ s) :
    TouchR W s₀ (execMgmtKeySet r key s) := by
  unfold execMgmtKeySet
  repeat' first
    | with_reducible assumption
    | fail_if_no_progress (with_reducible refine touch_mk ?_ ⟨rfl, rfl, fun _ => rfl, fun _ => rfl, fun _ => rfl, fun _ => rfl, fun _ => rfl, fun _ => rfl, fun _ => rfl, fun _ => rfl, fun _ => rfl, fun _ => rfl, fun _ => rfl, fun _ => rfl, fun _ => rfl, fun _ => rfl, fun _ => rfl, fun _ => rfl, fun _ => rfl, fun _ => rfl, fun _ => rfl, fun _ => rfl, fun _ => rfl, fun _ => rfl, fun _ => rfl, fun _ => rfl, fun _ => rfl, fun _ => rfl, fun _ => rfl, fun _ => rfl, fun _ => rfl, fun _ => rfl, off_of_on h_keys⟩)
    | with_reducible refine touchR_next ?_
    | with_reducible refine serve_touch h_wire h_traffic h_outbox h_mail ?_ (fun _ _ => ?_)
    | with_reducible refine settled_touch h_wire h_traffic h_ev h_outbox h_mail ?_

theorem endFrame_touch {s : State} (h_frame : W.frame = true) (hs : ChangesOnly W s₀ s) :
    ChangesOnly W s₀ (endFrame s) := by
  unfold endFrame
  repeat' first
    | with_reducible assumption
    | fail_if_no_progress (with_reducible refine touch_mk ?_ ⟨rfl, rfl, fun _ => rfl, fun _ => rfl, fun _ => rfl, fun _ => rfl, off_of_on h_frame, fun _ => rfl, fun _ => rfl, fun _ => rfl, fun _ => rfl, fun _ => rfl, fun _ => rfl, fun _ => rfl, fun _ => rfl, fun _ => rfl, fun _ => rfl, fun _ => rfl, fun _ => rfl, fun _ => rfl, fun _ => rfl, fun _ => rfl, fun _ => rfl, fun _ => rfl, fun _ => rfl, fun _ => rfl, fun _ => rfl, fun _ => rfl, fun _ => rfl, fun _ => rfl, fun _ => rfl, fun _ => rfl, fun _ => rfl⟩)

theorem advanceCounter_touch {s : State} (h_cycle : W.cycle = true) (h_frame : W.frame = true) (hs : ChangesOnly W s₀ s) :
    ChangesOnly W s₀ (advanceCounter s) := by
  unfold advanceCounter
  repeat' first
    | with_reducible assumption
    | fail_if_no_progress (with_reducible refine touch_mk ?_ ⟨rfl, rfl, fun _ => rfl, off_of_on h_cycle, fun _ => rfl, fun _ => rfl, off_of_on h_frame, fun _ => rfl, fun _ => rfl, fun _ => rfl, fun _ => rfl, fun _ => rfl, fun _ => rfl, fun _ => rfl, fun _ => rfl, fun _ => rfl, fun _ => rfl, fun _ => rfl, fun _ => rfl, fun _ => rfl, fun _ => rfl, fun _ => rfl, fun _ => rfl, fun _ => rfl, fun _ => rfl, fun _ => rfl, fun _ => rfl, fun _ => rfl, fun _ => rfl, fun _ => rfl, fun _ => rfl, fun _ => rfl, fun _ => rfl⟩)

theorem telemetryTick_touch {s : State} {n : Nat} {phase : Nat} {i : TickInputs} (h_wire : W.wire = true) (h_traffic : W.traffic = true) (h_cnt : W.cnt = true) (h_ev : W.ev = true) (h_outbox : W.outbox = true) (h_mail : W.mail = true) (h_settings : W.settings = true) (hs : ChangesOnly W s₀ s) :
    ChangesOnly W s₀ (telemetryTick s n phase i) := by
  unfold telemetryTick
  repeat' first
    | with_reducible assumption
    | with_reducible refine addEnergy_touch h_traffic ?_
    | with_reducible refine portsTick_touch h_traffic ?_
    | with_reducible refine countTick_touch h_traffic h_ev h_outbox ?_
    | with_reducible refine windowTick_touch h_traffic h_cnt ?_
    | with_reducible refine settingsTick_touch h_wire h_traffic h_ev h_outbox h_mail h_settings ?_
    | with_reducible refine configTick_touch h_traffic h_cnt ?_
    | with_reducible refine latchSnapshot_touch h_cnt ?_

theorem tempTile_touch {s : State} {x : TileId × Int} (h_tiles : W.tiles = true) (hs : ChangesOnly W s₀ s) :
    ChangesOnly W s₀ (tempTile s x) := by
  unfold tempTile
  repeat' first
    | with_reducible assumption
    | with_reducible refine modTile_touch h_tiles ?_

theorem tempTick_touch {s : State} {temps : List (TileId × Int)} (h_tiles : W.tiles = true) (h_traffic : W.traffic = true) (h_ev : W.ev = true) (h_outbox : W.outbox = true) (hs : ChangesOnly W s₀ s) :
    ChangesOnly W s₀ (tempTick s temps) := by
  unfold tempTick
  repeat' first
    | with_reducible assumption
    | with_reducible refine tempTile_touch h_tiles ?_
    | with_reducible refine raise_touch h_traffic h_ev h_outbox ?_
    | with_reducible refine touch_foldl ?_ (fun _ _ _ => ?_)

theorem expelledTick_touch {s : State} (h_runs : W.runs = true) (h_frame : W.frame = true) (h_tiles : W.tiles = true) (h_arrays : W.arrays = true) (h_ops : W.ops = true) (h_hbm : W.hbm = true) (h_tileMem : W.tileMem = true) (h_upd : W.upd = true) (h_wire : W.wire = true) (h_plan : W.plan = true) (h_lakes : W.lakes = true) (h_pin : W.pin = true) (hs : ChangesOnly W s₀ s) :
    ChangesOnly W s₀ (expelledTick s) := by
  unfold expelledTick
  repeat' first
    | with_reducible assumption
    | fail_if_no_progress (with_reducible refine touch_mk ?_ ⟨rfl, rfl, fun _ => rfl, fun _ => rfl, fun _ => rfl, fun _ => rfl, fun _ => rfl, fun _ => rfl, fun _ => rfl, fun _ => rfl, fun _ => rfl, fun _ => rfl, fun _ => rfl, fun _ => rfl, fun _ => rfl, fun _ => rfl, fun _ => rfl, fun _ => rfl, fun _ => rfl, fun _ => rfl, fun _ => rfl, fun _ => rfl, fun _ => rfl, fun _ => rfl, fun _ => rfl, off_of_on h_pin, fun _ => rfl, fun _ => rfl, fun _ => rfl, fun _ => rfl, fun _ => rfl, fun _ => rfl, fun _ => rfl⟩)
    | with_reducible refine removeRails_touch h_runs h_frame h_tiles h_arrays h_ops h_hbm h_tileMem h_upd h_wire h_plan h_lakes h_pin ?_
    | with_reducible refine touch_ite (fun _ => ?_) (fun _ => ?_)

theorem arraysTick_touch {s : State} {t : Nat} (h_arrays : W.arrays = true) (hs : ChangesOnly W s₀ s) :
    ChangesOnly W s₀ (arraysTick s t) := by
  unfold arraysTick
  repeat' first
    | with_reducible assumption
    | with_reducible refine arrayTick_touch h_arrays ?_
    | with_reducible refine touch_foldl ?_ (fun _ _ _ => ?_)

theorem validTick_touch {s : State} {t : Nat} (h_arrays : W.arrays = true) (hs : ChangesOnly W s₀ s) :
    ChangesOnly W s₀ (validTick s t) := by
  unfold validTick
  repeat' first
    | with_reducible assumption
    | with_reducible refine arrayTick_touch h_arrays ?_
    | with_reducible refine touch_foldl ?_ (fun _ _ _ => ?_)

theorem tilesTick_touch {s : State} (h_tiles : W.tiles = true) (hs : ChangesOnly W s₀ s) :
    ChangesOnly W s₀ (tilesTick s) := by
  unfold tilesTick
  repeat' first
    | with_reducible assumption
    | fail_if_no_progress (with_reducible refine touch_mk ?_ ⟨rfl, rfl, fun _ => rfl, fun _ => rfl, fun _ => rfl, fun _ => rfl, fun _ => rfl, fun _ => rfl, off_of_on h_tiles, fun _ => rfl, fun _ => rfl, fun _ => rfl, fun _ => rfl, fun _ => rfl, fun _ => rfl, fun _ => rfl, fun _ => rfl, fun _ => rfl, fun _ => rfl, fun _ => rfl, fun _ => rfl, fun _ => rfl, fun _ => rfl, fun _ => rfl, fun _ => rfl, fun _ => rfl, fun _ => rfl, fun _ => rfl, fun _ => rfl, fun _ => rfl, fun _ => rfl, fun _ => rfl, fun _ => rfl⟩)

theorem timerTick_touch {s : State} (h_sync : W.sync = true) (h_traffic : W.traffic = true) (h_ev : W.ev = true) (h_outbox : W.outbox = true) (hs : ChangesOnly W s₀ s) :
    ChangesOnly W s₀ (timerTick s) := by
  unfold timerTick
  repeat' first
    | with_reducible assumption
    | fail_if_no_progress (with_reducible refine touch_mk ?_ ⟨rfl, rfl, fun _ => rfl, fun _ => rfl, fun _ => rfl, fun _ => rfl, fun _ => rfl, fun _ => rfl, fun _ => rfl, fun _ => rfl, fun _ => rfl, fun _ => rfl, fun _ => rfl, fun _ => rfl, fun _ => rfl, fun _ => rfl, fun _ => rfl, fun _ => rfl, off_of_on h_sync, fun _ => rfl, fun _ => rfl, fun _ => rfl, fun _ => rfl, fun _ => rfl, fun _ => rfl, fun _ => rfl, fun _ => rfl, fun _ => rfl, fun _ => rfl, fun _ => rfl, fun _ => rfl, fun _ => rfl, fun _ => rfl⟩)
    | with_reducible refine raise_touch h_traffic h_ev h_outbox ?_
    | with_reducible refine touch_ite (fun _ => ?_) (fun _ => ?_)
    | split

theorem frameTick_touch {s : State} {i : TickInputs} (h_cycle : W.cycle = true) (h_runs : W.runs = true) (h_holds : W.holds = true) (h_frame : W.frame = true) (h_led : W.led = true) (h_tiles : W.tiles = true) (h_arrays : W.arrays = true) (h_ops : W.ops = true) (h_hbm : W.hbm = true) (h_tileMem : W.tileMem = true) (h_host : W.host = true) (h_upd : W.upd = true) (h_num : W.num = true) (h_wire : W.wire = true) (h_sync : W.sync = true) (h_plan : W.plan = true) (h_lakes : W.lakes = true) (h_pow : W.pow = true) (h_aom : W.aom = true) (h_traffic : W.traffic = true) (h_cnt : W.cnt = true) (h_pin : W.pin = true) (h_ctx : W.ctx = true) (h_ev : W.ev = true) (h_hl : W.hl = true) (h_outbox : W.outbox = true) (h_mail : W.mail = true) (h_settings : W.settings = true) (hs : ChangesOnly W s₀ s) :
    ChangesOnly W s₀ (frameTick s i) := by
  unfold frameTick
  repeat' first
    | with_reducible assumption
    | with_reducible refine advanceCounter_touch h_cycle h_frame ?_
    | with_reducible refine endFrame_touch h_frame ?_
    | with_reducible refine telemetryTick_touch h_wire h_traffic h_cnt h_ev h_outbox h_mail h_settings ?_
    | with_reducible refine filtersTick_touch h_aom ?_
    | with_reducible refine timerTick_touch h_sync h_traffic h_ev h_outbox ?_
    | with_reducible refine tempTick_touch h_tiles h_traffic h_ev h_outbox ?_
    | with_reducible refine contextsTick_touch h_hbm h_wire h_traffic h_ctx h_ev h_outbox h_mail ?_
    | with_reducible refine landedTick_touch h_hbm h_host h_wire h_traffic h_ev h_outbox h_mail ?_
    | with_reducible refine expelledTick_touch h_runs h_frame h_tiles h_arrays h_ops h_hbm h_tileMem h_upd h_wire h_plan h_lakes h_pin ?_
    | with_reducible refine expelTick_touch h_runs h_frame h_tiles h_arrays h_ops h_hbm h_tileMem h_upd h_num h_wire h_sync h_plan h_lakes h_traffic h_pin h_ev h_outbox ?_
    | with_reducible refine spanTick_touch h_frame h_plan ?_
    | with_reducible refine mordantTick_touch h_tiles h_arrays h_tileMem h_plan h_traffic h_ev h_outbox ?_
    | with_reducible refine tilesTick_touch h_tiles ?_
    | with_reducible refine visitTick_touch h_tiles h_traffic h_ev h_hl h_outbox ?_
    | with_reducible refine arraysTick_touch h_arrays ?_
    | with_reducible refine validTick_touch h_arrays ?_
    | with_reducible refine planTick_touch h_runs h_holds h_frame h_led h_tiles h_arrays h_ops h_hbm h_tileMem h_upd h_num h_wire h_sync h_plan h_lakes h_traffic h_ctx h_ev h_hl h_outbox h_mail h_settings ?_
    | with_reducible refine powerTick_touch h_frame h_tiles h_pow h_traffic h_ev h_outbox ?_
    | with_reducible refine lakesTick_touch h_runs h_sync h_lakes h_traffic h_ev h_hl h_outbox ?_
    | with_reducible refine linksTick_touch h_wire h_traffic h_ev h_outbox ?_
    | with_reducible refine rewritePage_touch h_frame ?_
    | with_reducible refine compareTick_touch h_arrays h_traffic h_ev h_hl h_outbox ?_
    | with_reducible refine norTick_touch h_traffic h_ev h_hl h_outbox ?_

theorem execFrameTick_touch {i : TickInputs} {s : State} (h_cycle : W.cycle = true) (h_runs : W.runs = true) (h_holds : W.holds = true) (h_frame : W.frame = true) (h_led : W.led = true) (h_tiles : W.tiles = true) (h_arrays : W.arrays = true) (h_ops : W.ops = true) (h_hbm : W.hbm = true) (h_tileMem : W.tileMem = true) (h_host : W.host = true) (h_upd : W.upd = true) (h_num : W.num = true) (h_wire : W.wire = true) (h_sync : W.sync = true) (h_plan : W.plan = true) (h_lakes : W.lakes = true) (h_pow : W.pow = true) (h_aom : W.aom = true) (h_traffic : W.traffic = true) (h_cnt : W.cnt = true) (h_pin : W.pin = true) (h_ctx : W.ctx = true) (h_ev : W.ev = true) (h_hl : W.hl = true) (h_outbox : W.outbox = true) (h_mail : W.mail = true) (h_settings : W.settings = true) (hs : ChangesOnly W s₀ s) :
    TouchR W s₀ (execFrameTick i s) := by
  unfold execFrameTick
  repeat' first
    | with_reducible assumption
    | with_reducible refine touchR_next ?_
    | with_reducible refine frameTick_touch h_cycle h_runs h_holds h_frame h_led h_tiles h_arrays h_ops h_hbm h_tileMem h_host h_upd h_num h_wire h_sync h_plan h_lakes h_pow h_aom h_traffic h_cnt h_pin h_ctx h_ev h_hl h_outbox h_mail h_settings ?_
    | with_reducible refine touch_ite (fun _ => ?_) (fun _ => ?_)

end Sys2Proof.Machine
end

