-- ==== Sys2Proof/Laws/Exec.lean ====
section
/-!
SUPPORT. Sys2Proof/Laws/Exec.lean: for every command, which of the guarded parts of the state it may change; every command keeps the
others, the queue, the identity and the invariant.
-/
namespace Sys2Proof.Machine
open Sys2Proof

/-- The guarded parts that a command may change. -/
def allowedBy : Instr → Allowed
  | .frameTick _ =>
    { counter := true, ledger := true, versions := true }
  | .commitPoint =>
    { committed := true, ledger := true, pos := true }
  | .ledgerRecordWrite _ _ | .planLoadNow _ _ _ _ | .planLoadAtBoundary _ _ _ _ | .selftestDone =>
    { ledger := true }
  | .vectorReadbackSlot _ _ _ | .programmingSlot _ _ _ _ | .testSlotRun _ _ _ =>
    { cells := true }
  | .memberAligned _ =>
    { counter := true }
  | .planStart =>
    { pos := true }
  | .preparationComplete =>
    { cells := true, versions := true }
  | .eventSuppressionEnd =>
    { time := true }
  | .dumpRecordWrite _ | .dumpRegister _ _ _ | .dumpRelease _ | .functionLevelReset _ =>
    { dump := true }
  | .resetWarm _ | .resetPowerCycle _ | .powerOn | .pgAonLoss | .sysRstNRise =>
    { counter := true, committed := true, time := true, offload := true, ledger := true, dump := true, pos := true, versions := true }
  | .offloadRegister _ _ _ | .offloadRelease _ =>
    { offload := true }
  | .fwStageDone _ =>
    { image := true }
  | .fwActivate _ _ =>
    { counter := true, committed := true, image := true, time := true, offload := true, ledger := true, dump := true, pos := true, versions := true }
  | .ownerKeySet _ _ =>
    { owner := true }
  | .mgmtKeySet _ _ =>
    { mgmt := true }
  | _ => {}

/-- What a command's next state keeps. -/
theorem exec_steady (c : Instr) (s : State) : SteadyR (allowedBy c) s (exec c s) := by
  cases c with
  | frameTick inputs => exact execFrameTick_steady rfl rfl rfl (Steady.refl s)
  | tickLoss cyc => exact execTickLoss_steady (Steady.refl s)
  | commitPoint => exact execCommitPoint_steady rfl rfl rfl (Steady.refl s)
  | ledgerRecordWrite readBackOk cyc => exact execLedgerRecordWrite_steady rfl (Steady.refl s)
  | operationIssue op cyc => exact execOperationIssue_steady (Steady.refl s)
  | mvm op vec cyc => exact execMvm_steady (Steady.refl s)
  | mvmResult tile arr slots cyc => exact execMvmResult_steady (Steady.refl s)
  | splitRerun tile arr cyc => exact execSplitRerun_steady (Steady.refl s)
  | outputConversion tile group vec => exact execOutputConversion_steady (Steady.refl s)
  | prismArbitration tile res cyc => exact execPrismArbitration_steady (Steady.refl s)
  | eventQueueEntry tile e cyc => exact execEventQueueEntry_steady (Steady.refl s)
  | checkDeadlineExpiry tile op cyc => exact execCheckDeadlineExpiry_steady (Steady.refl s)
  | vectorReadbackSlot tile arr reads => exact execVectorReadbackSlot_steady rfl (Steady.refl s)
  | matrix op res cyc => exact execMatrix_steady (Steady.refl s)
  | vector op res cyc => exact execVector_steady (Steady.refl s)
  | dma op cyc => exact execDma_steady (Steady.refl s)
  | program op cyc => exact execProgram_steady (Steady.refl s)
  | attend op res cyc => exact execAttend_steady (Steady.refl s)
  | sample op res cyc => exact execSample_steady (Steady.refl s)
  | quantise op res cyc => exact execQuantise_steady (Steady.refl s)
  | compress op res cyc => exact execCompress_steady (Steady.refl s)
  | join op cyc => exact execJoin_steady (Steady.refl s)
  | programmingSlot tile arr meas cyc => exact execProgrammingSlot_steady rfl (Steady.refl s)
  | programmingSpanStart => exact execProgrammingSpanStart_steady (Steady.refl s)
  | calibration tile arr => exact execCalibration_steady (Steady.refl s)
  | testSlotRun arrayPass enginePass reads => exact execTestSlotRun_steady rfl (Steady.refl s)
  | updateChunkComplete st en cyc => exact execUpdateChunkComplete_steady (Steady.refl s)
  | updateScan => exact execUpdateScan_steady (Steady.refl s)
  | updateRedo => exact execUpdateRedo_steady (Steady.refl s)
  | nop st en => exact execNop_steady (Steady.refl s)
  | lds st en d stream cyc => exact execLds_steady (Steady.refl s)
  | sts st en stream a => exact execSts_steady (Steady.refl s)
  | mov st en d a => exact execMov_steady (Steady.refl s)
  | add st en d a b res => exact execAdd_steady (Steady.refl s)
  | sub st en d a b res => exact execSub_steady (Steady.refl s)
  | mul st en d a b res => exact execMul_steady (Steady.refl s)
  | fma st en d a b c res => exact execFma_steady (Steady.refl s)
  | div st en d a b res => exact execDiv_steady (Steady.refl s)
  | sqrt st en d a => exact execSqrt_steady (Steady.refl s)
  | rsqrt st en d a => exact execRsqrt_steady (Steady.refl s)
  | exp st en d a => exact execExp_steady (Steady.refl s)
  | ln st en d a => exact execLn_steady (Steady.refl s)
  | max st en d a b => exact execMax_steady (Steady.refl s)
  | min st en d a b => exact execMin_steady (Steady.refl s)
  | abs st en d a => exact execAbs_steady (Steady.refl s)
  | sel st en d a b c => exact execSel_steady (Steady.refl s)
  | cmplt st en d a b => exact execCmplt_steady (Steady.refl s)
  | red st en slot a => exact execRed_steady (Steady.refl s)
  | hbmRead st off errs cyc => exact execHbmRead_steady (Steady.refl s)
  | hbmWrite st off data poisoned cyc => exact execHbmWrite_steady (Steady.refl s)
  | scrubRead st errs => exact execScrubRead_steady (Steady.refl s)
  | itemEnqueue lake cls kind port words poison rest => exact execItemEnqueue_steady (Steady.refl s)
  | itemDequeue lake cls flips tagFlips compute cyc => exact execItemDequeue_steady (Steady.refl s)
  | creditBorrow lake cls port => exact execCreditBorrow_steady (Steady.refl s)
  | flitReceive link time retry poison payload outcome cyc => exact execFlitReceive_steady (Steady.refl s)
  | controlFlit link time w outcome cyc => exact execControlFlit_steady (Steady.refl s)
  | slotEntryTransmit dir time => exact execSlotEntryTransmit_steady (Steady.refl s)
  | retryTimeout dir member time previous => exact execRetryTimeout_steady (Steady.refl s)
  | laneFailure link lane cyc => exact execLaneFailure_steady (Steady.refl s)
  | laneDegradeRetrain link failed => exact execLaneDegradeRetrain_steady (Steady.refl s)
  | echoMeasurement link token => exact execEchoMeasurement_steady (Steady.refl s)
  | eyeMeasurement link lane height width ser admission => exact execEyeMeasurement_steady (Steady.refl s)
  | c0Message link m => exact execC0Message_steady (link := link) (Steady.refl s)
  | syncTick link frame departure aligned arrival => exact execSyncTick_steady (frame := frame) (aligned := aligned) (Steady.refl s)
  | memberAligned frame => exact execMemberAligned_steady rfl (Steady.refl s)
  | echoReq link token turnaround => exact execEchoReq_steady (Steady.refl s)
  | echoReply link token turnaround roundTrip => exact execEchoReply_steady (Steady.refl s)
  | hold link origin frame cause cyc => exact execHold_steady (Steady.refl s)
  | late link origin frame unit cyc => exact execLate_steady (Steady.refl s)
  | stretch link origin frame pos => exact execStretch_steady (Steady.refl s)
  | updateDone link origin frame version attempt skipped => exact execUpdateDone_steady (Steady.refl s)
  | complete link origin frame attempt whole cyc => exact execComplete_steady (Steady.refl s)
  | prepared link origin planId => exact execPrepared_steady (Steady.refl s)
  | syncStart link origin frame planId => exact execSyncStart_steady (Steady.refl s)
  | syncAbort link origin planId reason => exact execSyncAbort_steady (Steady.refl s)
  | expel link origin frame rank cyc => exact execExpel_steady (Steady.refl s)
  | planStart => exact execPlanStart_steady rfl (Steady.refl s)
  | preparationComplete => exact execPreparationComplete_steady rfl rfl (Steady.refl s)
  | planLoadTimeout => exact execPlanLoadTimeout_steady (Steady.refl s)
  | scaleObservation rank planFrame index maxIn maxAll overflow quantised => exact execScaleObservation_steady (Steady.refl s)
  | mirrorRecord record => exact execMirrorRecord_steady (Steady.refl s)
  | mirrorTally cyc => exact execMirrorTally_steady (Steady.refl s)
  | prefetchCompletion block bytes completed cyc => exact execPrefetchCompletion_steady (Steady.refl s)
  | prefetchTimeout block cyc => exact execPrefetchTimeout_steady (Steady.refl s)
  | offloadWrite op block cyc => exact execOffloadWrite_steady (Steady.refl s)
  | droop tile => exact execDroop_steady (Steady.refl s)
  | droopHoldExpiry tile => exact execDroopHoldExpiry_steady (Steady.refl s)
  | droopDecayStep tile => exact execDroopDecayStep_steady (Steady.refl s)
  | peakSample core0 core1 core2 core3 other => exact execPeakSample_steady (Steady.refl s)
  | aomSample inputs cyc => exact execAomSample_steady (Steady.refl s)
  | ld k => exact execLd_steady (Steady.refl s)
  | mean n => exact execMean_steady (Steady.refl s)
  | scale => exact execScale_steady (Steady.refl s)
  | gt k => exact execGt_steady (Steady.refl s)
  | lt k => exact execLt_steady (Steady.refl s)
  | outside k => exact execOutside_steady (Steady.refl s)
  | run n => exact execRun_steady (Steady.refl s)
  | aomAnd => exact execAomAnd_steady (Steady.refl s)
  | aomOr => exact execAomOr_steady (Steady.refl s)
  | save => exact execSave_steady (Steady.refl s)
  | aomThrottleExpiry slot => exact execAomThrottleExpiry_steady (Steady.refl s)
  | powerDownSequence => exact execPowerDownSequence_steady (Steady.refl s)
  | eometHeartbeat => exact execEometHeartbeat_steady (Steady.refl s)
  | eometRestart => exact execEometRestart_steady (Steady.refl s)
  | doorbell slot => exact execDoorbell_steady (Steady.refl s)
  | registerWrite off data => exact execRegisterWrite_steady (Steady.refl s)
  | mgmtDatagram addr udp bytes => exact execMgmtDatagram_steady (Steady.refl s)
  | reassemblyTimeout addr udp seq => exact execReassemblyTimeout_steady (Steady.refl s)
  | peerRequest rank bytes => exact execPeerRequest_steady (Steady.refl s)
  | eventRaise code unit level ps charge => exact execEventRaise_steady (Steady.refl s)
  | eventResend => exact execEventResend_steady (Steady.refl s)
  | eventSuppressionEnd => exact execEventSuppressionEnd_steady rfl (Steady.refl s)
  | healthFold norFails => exact execHealthFold_steady (Steady.refl s)
  | txnTimeout id => exact execTxnTimeout_steady (Steady.refl s)
  | attestTokenRefill => exact execAttestTokenRefill_steady (Steady.refl s)
  | snapshotComplete => exact execSnapshotComplete_steady (Steady.refl s)
  | dumpRecordWrite delivered => exact execDumpRecordWrite_steady rfl (Steady.refl s)
  | identity r => exact execIdentity_steady (Steady.refl s)
  | runStatus r => exact execRunStatus_steady (Steady.refl s)
  | stopAtPosition r pos => exact execStopAtPosition_steady (Steady.refl s)
  | stopNow r cyc => exact execStopNow_steady (Steady.refl s)
  | resetWarm r => exact execResetWarm_steady rfl rfl rfl rfl rfl rfl rfl rfl (Steady.refl s)
  | resetPowerCycle r => exact execResetPowerCycle_steady rfl rfl rfl rfl rfl rfl rfl rfl (Steady.refl s)
  | eventRead r first count => exact execEventRead_steady (Steady.refl s)
  | eventAck r seq => exact execEventAck_steady (Steady.refl s)
  | settingGet r ids => exact execSettingGet_steady (Steady.refl s)
  | settingSet r id value => exact execSettingSet_steady (Steady.refl s)
  | txnBegin r => exact execTxnBegin_steady (Steady.refl s)
  | txnStage r txn pairs => exact execTxnStage_steady (Steady.refl s)
  | txnCommit r txn target => exact execTxnCommit_steady (Steady.refl s)
  | txnRollback r txn => exact execTxnRollback_steady (Steady.refl s)
  | txnStatus r txn => exact execTxnStatus_steady (Steady.refl s)
  | arrayStatus r tile mask => exact execArrayStatus_steady (Steady.refl s)
  | ledgerHead r => exact execLedgerHead_steady (Steady.refl s)
  | ledgerExport r frame count host => exact execLedgerExport_steady (Steady.refl s)
  | ledgerExportDone r => exact execLedgerExportDone_steady (Steady.refl s)
  | offloadRegister r host length => exact execOffloadRegister_steady rfl (Steady.refl s)
  | offloadRelease r => exact execOffloadRelease_steady rfl (Steady.refl s)
  | hostTransferToHost r device host length => exact execHostTransferToHost_steady (Steady.refl s)
  | hostTransferToDevice r device host length => exact execHostTransferToDevice_steady (Steady.refl s)
  | hostTransferDone r poisoned => exact execHostTransferDone_steady (Steady.refl s)
  | memoryStatus r st => exact execMemoryStatus_steady (Steady.refl s)
  | numericsState r part first count => exact execNumericsState_steady (Steady.refl s)
  | contextLoad r context host promptLen word8 word18 => exact execContextLoad_steady (Steady.refl s)
  | contextLoadDone r => exact execContextLoadDone_steady (Steady.refl s)
  | contextRead r first count => exact execContextRead_steady (Steady.refl s)
  | contextWrite r context word8 word18 => exact execContextWrite_steady (Steady.refl s)
  | contextStop r context => exact execContextStop_steady (Steady.refl s)
  | contextRelease r context => exact execContextRelease_steady (Steady.refl s)
  | contextTokens r context first count host => exact execContextTokens_steady (Steady.refl s)
  | contextTokensDone r => exact execContextTokensDone_steady (Steady.refl s)
  | linkStatus r mask => exact execLinkStatus_steady (Steady.refl s)
  | queueStatus r lake => exact execQueueStatus_steady (Steady.refl s)
  | powerStatus r kind index => exact execPowerStatus_steady (Steady.refl s)
  | aomFilterRead r slot => exact execAomFilterRead_steady (Steady.refl s)
  | aomFilterLoad r filter => exact execAomFilterLoad_steady (Steady.refl s)
  | aomFilterRemove r slot => exact execAomFilterRemove_steady (Steady.refl s)
  | fwStage r host length => exact execFwStage_steady (Steady.refl s)
  | fwStageDone r => exact execFwStageDone_steady rfl (Steady.refl s)
  | fwActivate r slot => exact execFwActivate_steady rfl rfl rfl rfl rfl rfl rfl rfl rfl (Steady.refl s)
  | attest r nonce => exact execAttest_steady (Steady.refl s)
  | identityCert r => exact execIdentityCert_steady (Steady.refl s)
  | ownerKeySet r record => exact execOwnerKeySet_steady rfl (Steady.refl s)
  | mgmtKeySet r key => exact execMgmtKeySet_steady rfl (Steady.refl s)
  | planLoadNow r host length image => exact execPlanLoadNow_steady rfl (Steady.refl s)
  | planLoadAtBoundary r host length image => exact execPlanLoadAtBoundary_steady rfl (Steady.refl s)
  | planDiscard r => exact execPlanDiscard_steady (Steady.refl s)
  | planStatus r => exact execPlanStatus_steady (Steady.refl s)
  | healthRead r kind first count => exact execHealthRead_steady (Steady.refl s)
  | healthLog r first count host => exact execHealthLog_steady (Steady.refl s)
  | healthLogDone r => exact execHealthLogDone_steady (Steady.refl s)
  | selftest r => exact execSelftest_steady (Steady.refl s)
  | selftestTile nominalFails marginFails => exact execSelftestTile_steady (Steady.refl s)
  | selftestDone => exact execSelftestDone_steady rfl (Steady.refl s)
  | counterConfig r kind first count words => exact execCounterConfig_steady (Steady.refl s)
  | counterRead r kind first count => exact execCounterRead_steady (Steady.refl s)
  | counterClear r kind first count mask => exact execCounterClear_steady (Steady.refl s)
  | dumpRegister r host length => exact execDumpRegister_steady rfl (Steady.refl s)
  | dumpRelease r => exact execDumpRelease_steady rfl (Steady.refl s)
  | bandwidthRead r first count => exact execBandwidthRead_steady (Steady.refl s)
  | dumpStatus r => exact execDumpStatus_steady (Steady.refl s)
  | functionLevelReset cyc => exact execFunctionLevelReset_steady rfl (Steady.refl s)
  | pcieLinkDown cyc => exact execPcieLinkDown_steady (Steady.refl s)
  | d3hotEntry cyc => exact execD3hotEntry_steady (Steady.refl s)
  | pcieError e cyc => exact execPcieError_steady (Steady.refl s)
  | powerOn => exact execPowerOn_steady rfl rfl rfl rfl rfl rfl rfl rfl (Steady.refl s)
  | firmwareVerify => exact execFirmwareVerify_steady (Steady.refl s)
  | eometStart => exact execEometStart_steady (Steady.refl s)
  | railGroupEnable g => exact execRailGroupEnable_steady (Steady.refl s)
  | powerGoodAssert g => exact execPowerGoodAssert_steady (Steady.refl s)
  | powerGoodTimeout g => exact execPowerGoodTimeout_steady (Steady.refl s)
  | powerGoodLoss g cyc => exact execPowerGoodLoss_steady (Steady.refl s)
  | pgAonLoss => exact execPgAonLoss_steady rfl rfl rfl rfl rfl rfl rfl rfl (Steady.refl s)
  | hbmTraining => exact execHbmTraining_steady (Steady.refl s)
  | laneTraining down => exact execLaneTraining_steady (Steady.refl s)
  | bootComplete => exact execBootComplete_steady (Steady.refl s)
  | sysRstNLow cyc => exact execSysRstNLow_steady (Steady.refl s)
  | sysRstNRise => exact execSysRstNRise_steady rfl rfl rfl rfl rfl rfl rfl rfl (Steady.refl s)
  | perstNLow cyc => exact execPerstNLow_steady (Steady.refl s)
  | perstNRise => exact execPerstNRise_steady (Steady.refl s)
  | thermalTrip die cyc => exact execThermalTrip_steady (Steady.refl s)
  | refclkLoss cyc => exact execRefclkLoss_steady (Steady.refl s)
  | linkrefLoss => exact execLinkrefLoss_steady (Steady.refl s)
  | page p pecOk => exact execPage_steady (Steady.refl s)
  | clearFaults pecOk => exact execClearFaults_steady (Steady.refl s)
  | voutMode => exact execVoutMode_steady (Steady.refl s)
  | statusWord => exact execStatusWord_steady (Steady.refl s)
  | readVout => exact execReadVout_steady (Steady.refl s)
  | readIout => exact execReadIout_steady (Steady.refl s)
  | readPout => exact execReadPout_steady (Steady.refl s)
  | readTemperature1 => exact execReadTemperature1_steady (Steady.refl s)
  | readTemperature2 => exact execReadTemperature2_steady (Steady.refl s)
  | pmbusRevision => exact execPmbusRevision_steady (Steady.refl s)
  | smbusUnknownCommand code => exact execSmbusUnknownCommand_steady (_code := code) (Steady.refl s)
  | jtagTestInstruction => exact execJtagTestInstruction_steady (Steady.refl s)
  | arpRequest mac ip target => exact execArpRequest_steady (Steady.refl s)
  | icmpEchoRequest addr payload => exact execIcmpEchoRequest_steady (Steady.refl s)
  | alertResponseAddress => exact execAlertResponseAddress_steady (Steady.refl s)

/-- Every command keeps the queue, the identity, the invariant, and what is one-way. -/
theorem exec_keeps (c : Instr) (s t : State) (h : exec c s = .next t) : Keeps s t := (exec_steady c s t h).toKeeps

/-- What a command may change. -/
theorem exec_changes (c : Instr) (s : State) : TouchR (mayChange c) s (exec c s) := by
  cases c with
  | frameTick inputs => exact execFrameTick_touch rfl rfl rfl rfl rfl rfl rfl rfl rfl rfl rfl rfl rfl rfl rfl rfl rfl rfl rfl rfl rfl rfl rfl rfl rfl rfl rfl rfl (ChangesOnly.refl s)
  | tickLoss cyc => exact execTickLoss_touch rfl rfl rfl rfl rfl rfl (ChangesOnly.refl s)
  | commitPoint => exact execCommitPoint_touch rfl rfl rfl rfl rfl rfl rfl rfl rfl rfl rfl rfl rfl rfl rfl rfl rfl rfl rfl (ChangesOnly.refl s)
  | ledgerRecordWrite readBackOk cyc => exact execLedgerRecordWrite_touch rfl rfl rfl rfl rfl rfl rfl rfl rfl (ChangesOnly.refl s)
  | operationIssue op cyc => exact execOperationIssue_touch rfl rfl (ChangesOnly.refl s)
  | mvm op vec cyc => exact execMvm_touch rfl rfl rfl rfl rfl rfl rfl rfl rfl rfl rfl rfl rfl rfl rfl (ChangesOnly.refl s)
  | mvmResult tile arr slots cyc => exact execMvmResult_touch rfl rfl rfl rfl rfl rfl rfl rfl rfl rfl rfl rfl rfl rfl (ChangesOnly.refl s)
  | splitRerun tile arr cyc => exact execSplitRerun_touch rfl rfl rfl rfl rfl rfl rfl rfl rfl rfl rfl rfl rfl (ChangesOnly.refl s)
  | outputConversion tile group vec => exact execOutputConversion_touch rfl rfl rfl rfl rfl rfl rfl (ChangesOnly.refl s)
  | prismArbitration tile res cyc => exact execPrismArbitration_touch rfl rfl rfl rfl rfl rfl rfl rfl rfl rfl rfl rfl rfl (ChangesOnly.refl s)
  | eventQueueEntry tile e cyc => exact execEventQueueEntry_touch rfl rfl rfl rfl rfl rfl rfl rfl rfl rfl rfl rfl rfl (ChangesOnly.refl s)
  | checkDeadlineExpiry tile op cyc => exact execCheckDeadlineExpiry_touch rfl rfl rfl rfl rfl rfl rfl rfl rfl rfl rfl rfl rfl (ChangesOnly.refl s)
  | vectorReadbackSlot tile arr reads => exact execVectorReadbackSlot_touch rfl rfl rfl rfl rfl rfl (ChangesOnly.refl s)
  | matrix op res cyc => exact execMatrix_touch rfl rfl rfl rfl rfl rfl rfl rfl rfl rfl rfl rfl rfl rfl (ChangesOnly.refl s)
  | vector op res cyc => exact execVector_touch rfl rfl rfl rfl rfl rfl rfl rfl rfl rfl rfl rfl rfl rfl (ChangesOnly.refl s)
  | dma op cyc => exact execDma_touch rfl rfl rfl rfl rfl rfl rfl rfl rfl rfl rfl rfl rfl rfl (ChangesOnly.refl s)
  | program op cyc => exact execProgram_touch rfl rfl rfl (ChangesOnly.refl s)
  | attend op res cyc => exact execAttend_touch rfl rfl rfl rfl rfl rfl rfl rfl rfl rfl rfl rfl rfl rfl (ChangesOnly.refl s)
  | sample op res cyc => exact execSample_touch rfl rfl rfl rfl rfl rfl rfl rfl rfl rfl rfl rfl rfl (ChangesOnly.refl s)
  | quantise op res cyc => exact execQuantise_touch rfl rfl rfl rfl rfl rfl rfl rfl rfl rfl rfl rfl rfl rfl rfl (ChangesOnly.refl s)
  | compress op res cyc => exact execCompress_touch rfl rfl rfl rfl rfl rfl rfl rfl rfl rfl rfl rfl rfl rfl (ChangesOnly.refl s)
  | join op cyc => exact execJoin_touch rfl rfl (ChangesOnly.refl s)
  | programmingSlot tile arr meas cyc => exact execProgrammingSlot_touch rfl rfl rfl rfl rfl rfl rfl rfl rfl (ChangesOnly.refl s)
  | programmingSpanStart => exact execProgrammingSpanStart_touch rfl rfl rfl rfl rfl (ChangesOnly.refl s)
  | calibration tile arr => exact execCalibration_touch rfl rfl rfl rfl rfl rfl rfl (ChangesOnly.refl s)
  | testSlotRun arrayPass enginePass reads => exact execTestSlotRun_touch rfl rfl rfl rfl rfl rfl rfl (ChangesOnly.refl s)
  | updateChunkComplete st en cyc => exact execUpdateChunkComplete_touch rfl rfl rfl rfl rfl rfl (ChangesOnly.refl s)
  | updateScan => exact execUpdateScan_touch rfl rfl rfl rfl rfl rfl rfl rfl rfl rfl rfl (ChangesOnly.refl s)
  | updateRedo => exact execUpdateRedo_touch rfl rfl rfl rfl rfl rfl rfl rfl rfl rfl rfl rfl (ChangesOnly.refl s)
  | nop st en => exact execNop_touch rfl rfl rfl rfl rfl rfl rfl rfl rfl rfl rfl (ChangesOnly.refl s)
  | lds st en d stream cyc => exact execLds_touch rfl rfl rfl rfl rfl rfl rfl rfl rfl rfl rfl rfl rfl rfl (ChangesOnly.refl s)
  | sts st en stream a => exact execSts_touch rfl rfl rfl rfl rfl rfl rfl rfl rfl rfl rfl (ChangesOnly.refl s)
  | mov st en d a => exact execMov_touch rfl rfl rfl rfl rfl rfl rfl rfl rfl rfl rfl (ChangesOnly.refl s)
  | add st en d a b res => exact execAdd_touch rfl rfl rfl rfl rfl rfl rfl rfl rfl rfl rfl (ChangesOnly.refl s)
  | sub st en d a b res => exact execSub_touch rfl rfl rfl rfl rfl rfl rfl rfl rfl rfl rfl (ChangesOnly.refl s)
  | mul st en d a b res => exact execMul_touch rfl rfl rfl rfl rfl rfl rfl rfl rfl rfl rfl (ChangesOnly.refl s)
  | fma st en d a b c res => exact execFma_touch rfl rfl rfl rfl rfl rfl rfl rfl rfl rfl rfl (ChangesOnly.refl s)
  | div st en d a b res => exact execDiv_touch rfl rfl rfl rfl rfl rfl rfl rfl rfl rfl rfl (ChangesOnly.refl s)
  | sqrt st en d a => exact execSqrt_touch rfl rfl rfl rfl rfl rfl rfl rfl rfl rfl rfl (ChangesOnly.refl s)
  | rsqrt st en d a => exact execRsqrt_touch rfl rfl rfl rfl rfl rfl rfl rfl rfl rfl rfl (ChangesOnly.refl s)
  | exp st en d a => exact execExp_touch rfl rfl rfl rfl rfl rfl rfl rfl rfl rfl rfl (ChangesOnly.refl s)
  | ln st en d a => exact execLn_touch rfl rfl rfl rfl rfl rfl rfl rfl rfl rfl rfl (ChangesOnly.refl s)
  | max st en d a b => exact execMax_touch rfl rfl rfl rfl rfl rfl rfl rfl rfl rfl rfl (ChangesOnly.refl s)
  | min st en d a b => exact execMin_touch rfl rfl rfl rfl rfl rfl rfl rfl rfl rfl rfl (ChangesOnly.refl s)
  | abs st en d a => exact execAbs_touch rfl rfl rfl rfl rfl rfl rfl rfl rfl rfl rfl (ChangesOnly.refl s)
  | sel st en d a b c => exact execSel_touch rfl rfl rfl rfl rfl rfl rfl rfl rfl rfl rfl (ChangesOnly.refl s)
  | cmplt st en d a b => exact execCmplt_touch rfl rfl rfl rfl rfl rfl rfl rfl rfl rfl rfl (ChangesOnly.refl s)
  | red st en slot a => exact execRed_touch rfl rfl rfl rfl rfl rfl rfl rfl rfl rfl rfl (ChangesOnly.refl s)
  | hbmRead st off errs cyc => exact execHbmRead_touch rfl rfl rfl rfl rfl rfl rfl (ChangesOnly.refl s)
  | hbmWrite st off data poisoned cyc => exact execHbmWrite_touch rfl rfl rfl rfl rfl rfl rfl rfl rfl rfl rfl rfl (ChangesOnly.refl s)
  | scrubRead st errs => exact execScrubRead_touch rfl rfl rfl rfl rfl rfl (ChangesOnly.refl s)
  | itemEnqueue lake cls kind port words poison rest => exact execItemEnqueue_touch rfl (ChangesOnly.refl s)
  | itemDequeue lake cls flips tagFlips compute cyc => exact execItemDequeue_touch rfl rfl rfl rfl rfl rfl rfl rfl rfl rfl rfl rfl rfl rfl (ChangesOnly.refl s)
  | creditBorrow lake cls port => exact execCreditBorrow_touch rfl (ChangesOnly.refl s)
  | flitReceive link time retry poison payload outcome cyc => exact execFlitReceive_touch rfl rfl rfl rfl rfl rfl rfl rfl rfl rfl rfl rfl (ChangesOnly.refl s)
  | controlFlit link time w outcome cyc => exact execControlFlit_touch rfl rfl rfl rfl rfl rfl rfl rfl rfl rfl rfl rfl rfl rfl rfl rfl (ChangesOnly.refl s)
  | slotEntryTransmit dir time => exact execSlotEntryTransmit_touch rfl rfl rfl rfl rfl (ChangesOnly.refl s)
  | retryTimeout dir member time previous => exact execRetryTimeout_touch rfl (ChangesOnly.refl s)
  | laneFailure link lane cyc => exact execLaneFailure_touch rfl rfl rfl rfl rfl rfl (ChangesOnly.refl s)
  | laneDegradeRetrain link failed => exact execLaneDegradeRetrain_touch rfl rfl rfl rfl (ChangesOnly.refl s)
  | echoMeasurement link token => exact execEchoMeasurement_touch rfl rfl (ChangesOnly.refl s)
  | eyeMeasurement link lane height width ser admission => exact execEyeMeasurement_touch rfl rfl rfl rfl rfl (ChangesOnly.refl s)
  | c0Message link m => exact execC0Message_touch (link := link) rfl (ChangesOnly.refl s)
  | syncTick link frame departure aligned arrival => exact execSyncTick_touch (frame := frame) (aligned := aligned) rfl (ChangesOnly.refl s)
  | memberAligned frame => exact execMemberAligned_touch rfl rfl (ChangesOnly.refl s)
  | echoReq link token turnaround => exact execEchoReq_touch rfl (ChangesOnly.refl s)
  | echoReply link token turnaround roundTrip => exact execEchoReply_touch rfl rfl rfl rfl (ChangesOnly.refl s)
  | hold link origin frame cause cyc => exact execHold_touch rfl rfl rfl rfl rfl rfl rfl rfl rfl rfl rfl rfl (ChangesOnly.refl s)
  | late link origin frame unit cyc => exact execLate_touch rfl rfl rfl rfl rfl rfl rfl rfl rfl rfl rfl rfl (ChangesOnly.refl s)
  | stretch link origin frame pos => exact execStretch_touch rfl rfl rfl rfl rfl rfl rfl rfl rfl rfl rfl (ChangesOnly.refl s)
  | updateDone link origin frame version attempt skipped => exact execUpdateDone_touch rfl rfl rfl rfl rfl rfl rfl rfl rfl rfl rfl (ChangesOnly.refl s)
  | complete link origin frame attempt whole cyc => exact execComplete_touch rfl rfl rfl rfl rfl rfl rfl rfl rfl rfl rfl rfl (ChangesOnly.refl s)
  | prepared link origin planId => exact execPrepared_touch rfl rfl rfl rfl rfl rfl rfl rfl rfl rfl rfl (ChangesOnly.refl s)
  | syncStart link origin frame planId => exact execSyncStart_touch rfl rfl rfl rfl rfl rfl rfl rfl rfl rfl rfl (ChangesOnly.refl s)
  | syncAbort link origin planId reason => exact execSyncAbort_touch rfl rfl rfl rfl rfl rfl rfl rfl rfl rfl rfl (ChangesOnly.refl s)
  | expel link origin frame rank cyc => exact execExpel_touch rfl rfl rfl rfl rfl rfl rfl rfl rfl rfl rfl rfl (ChangesOnly.refl s)
  | planStart => exact execPlanStart_touch rfl rfl rfl rfl rfl rfl rfl rfl rfl rfl rfl rfl rfl rfl rfl rfl (ChangesOnly.refl s)
  | preparationComplete => exact execPreparationComplete_touch rfl rfl rfl rfl rfl rfl rfl rfl rfl rfl rfl rfl rfl (ChangesOnly.refl s)
  | planLoadTimeout => exact execPlanLoadTimeout_touch rfl rfl rfl rfl rfl rfl rfl (ChangesOnly.refl s)
  | scaleObservation rank planFrame index maxIn maxAll overflow quantised => exact execScaleObservation_touch rfl rfl rfl rfl (ChangesOnly.refl s)
  | mirrorRecord record => exact execMirrorRecord_touch rfl (ChangesOnly.refl s)
  | mirrorTally cyc => exact execMirrorTally_touch rfl rfl rfl rfl rfl rfl (ChangesOnly.refl s)
  | prefetchCompletion block bytes completed cyc => exact execPrefetchCompletion_touch rfl rfl rfl rfl rfl rfl rfl rfl (ChangesOnly.refl s)
  | prefetchTimeout block cyc => exact execPrefetchTimeout_touch rfl rfl rfl rfl rfl rfl rfl (ChangesOnly.refl s)
  | offloadWrite op block cyc => exact execOffloadWrite_touch rfl rfl rfl rfl rfl (ChangesOnly.refl s)
  | droop tile => exact execDroop_touch rfl rfl (ChangesOnly.refl s)
  | droopHoldExpiry tile => exact execDroopHoldExpiry_touch rfl (ChangesOnly.refl s)
  | droopDecayStep tile => exact execDroopDecayStep_touch rfl (ChangesOnly.refl s)
  | peakSample core0 core1 core2 core3 other => exact execPeakSample_touch rfl rfl rfl rfl (ChangesOnly.refl s)
  | aomSample inputs cyc => exact execAomSample_touch rfl rfl rfl rfl rfl rfl rfl rfl rfl (ChangesOnly.refl s)
  | ld k => exact execLd_touch rfl (ChangesOnly.refl s)
  | mean n => exact execMean_touch rfl (ChangesOnly.refl s)
  | scale => exact execScale_touch rfl (ChangesOnly.refl s)
  | gt k => exact execGt_touch rfl (ChangesOnly.refl s)
  | lt k => exact execLt_touch rfl (ChangesOnly.refl s)
  | outside k => exact execOutside_touch rfl (ChangesOnly.refl s)
  | run n => exact execRun_touch rfl (ChangesOnly.refl s)
  | aomAnd => exact execAomAnd_touch rfl (ChangesOnly.refl s)
  | aomOr => exact execAomOr_touch rfl (ChangesOnly.refl s)
  | save => exact execSave_touch rfl (ChangesOnly.refl s)
  | aomThrottleExpiry slot => exact execAomThrottleExpiry_touch rfl (ChangesOnly.refl s)
  | powerDownSequence => exact execPowerDownSequence_touch rfl rfl rfl rfl rfl rfl rfl rfl rfl rfl rfl rfl (ChangesOnly.refl s)
  | eometHeartbeat => exact execEometHeartbeat_touch rfl (ChangesOnly.refl s)
  | eometRestart => exact execEometRestart_touch rfl rfl rfl rfl rfl rfl rfl rfl (ChangesOnly.refl s)
  | doorbell slot => exact execDoorbell_touch rfl rfl rfl rfl rfl rfl (ChangesOnly.refl s)
  | registerWrite off data => exact execRegisterWrite_touch rfl rfl rfl rfl rfl rfl (ChangesOnly.refl s)
  | mgmtDatagram addr udp bytes => exact execMgmtDatagram_touch rfl rfl rfl rfl rfl (ChangesOnly.refl s)
  | reassemblyTimeout addr udp seq => exact execReassemblyTimeout_touch rfl (ChangesOnly.refl s)
  | peerRequest rank bytes => exact execPeerRequest_touch rfl rfl rfl rfl (ChangesOnly.refl s)
  | eventRaise code unit level ps charge => exact execEventRaise_touch rfl rfl rfl rfl (ChangesOnly.refl s)
  | eventResend => exact execEventResend_touch rfl rfl (ChangesOnly.refl s)
  | eventSuppressionEnd => exact execEventSuppressionEnd_touch rfl rfl rfl rfl (ChangesOnly.refl s)
  | healthFold norFails => exact execHealthFold_touch rfl rfl rfl rfl rfl (ChangesOnly.refl s)
  | txnTimeout id => exact execTxnTimeout_touch rfl rfl rfl rfl (ChangesOnly.refl s)
  | attestTokenRefill => exact execAttestTokenRefill_touch rfl (ChangesOnly.refl s)
  | snapshotComplete => exact execSnapshotComplete_touch rfl (ChangesOnly.refl s)
  | dumpRecordWrite delivered => exact execDumpRecordWrite_touch rfl rfl rfl rfl rfl (ChangesOnly.refl s)
  | identity r => exact execIdentity_touch rfl rfl rfl rfl (ChangesOnly.refl s)
  | runStatus r => exact execRunStatus_touch rfl rfl rfl rfl (ChangesOnly.refl s)
  | stopAtPosition r pos => exact execStopAtPosition_touch rfl rfl rfl rfl rfl rfl (ChangesOnly.refl s)
  | stopNow r cyc => exact execStopNow_touch rfl rfl rfl rfl rfl rfl rfl rfl (ChangesOnly.refl s)
  | resetWarm r => exact execResetWarm_touch rfl rfl rfl rfl rfl rfl rfl rfl rfl rfl rfl rfl rfl rfl rfl rfl rfl rfl rfl rfl rfl rfl rfl rfl rfl rfl rfl rfl rfl rfl rfl (ChangesOnly.refl s)
  | resetPowerCycle r => exact execResetPowerCycle_touch rfl rfl rfl rfl rfl rfl rfl rfl rfl rfl rfl rfl rfl rfl rfl rfl rfl rfl rfl rfl rfl rfl rfl rfl rfl rfl rfl rfl rfl rfl rfl (ChangesOnly.refl s)
  | eventRead r first count => exact execEventRead_touch rfl rfl rfl rfl (ChangesOnly.refl s)
  | eventAck r seq => exact execEventAck_touch rfl rfl rfl rfl rfl (ChangesOnly.refl s)
  | settingGet r ids => exact execSettingGet_touch rfl rfl rfl rfl (ChangesOnly.refl s)
  | settingSet r id value => exact execSettingSet_touch rfl rfl rfl rfl rfl (ChangesOnly.refl s)
  | txnBegin r => exact execTxnBegin_touch rfl rfl rfl rfl rfl (ChangesOnly.refl s)
  | txnStage r txn pairs => exact execTxnStage_touch rfl rfl rfl rfl rfl (ChangesOnly.refl s)
  | txnCommit r txn target => exact execTxnCommit_touch rfl rfl rfl rfl rfl (ChangesOnly.refl s)
  | txnRollback r txn => exact execTxnRollback_touch rfl rfl rfl rfl rfl (ChangesOnly.refl s)
  | txnStatus r txn => exact execTxnStatus_touch rfl rfl rfl rfl (ChangesOnly.refl s)
  | arrayStatus r tile mask => exact execArrayStatus_touch rfl rfl rfl rfl (ChangesOnly.refl s)
  | ledgerHead r => exact execLedgerHead_touch rfl rfl rfl rfl (ChangesOnly.refl s)
  | ledgerExport r frame count host => exact execLedgerExport_touch rfl rfl rfl rfl (ChangesOnly.refl s)
  | ledgerExportDone r => exact execLedgerExportDone_touch rfl rfl rfl rfl rfl (ChangesOnly.refl s)
  | offloadRegister r host length => exact execOffloadRegister_touch rfl rfl rfl rfl rfl rfl (ChangesOnly.refl s)
  | offloadRelease r => exact execOffloadRelease_touch rfl rfl rfl rfl rfl rfl (ChangesOnly.refl s)
  | hostTransferToHost r device host length => exact execHostTransferToHost_touch rfl rfl rfl rfl (ChangesOnly.refl s)
  | hostTransferToDevice r device host length => exact execHostTransferToDevice_touch rfl rfl rfl rfl (ChangesOnly.refl s)
  | hostTransferDone r poisoned => exact execHostTransferDone_touch rfl rfl rfl rfl rfl (ChangesOnly.refl s)
  | memoryStatus r st => exact execMemoryStatus_touch rfl rfl rfl rfl (ChangesOnly.refl s)
  | numericsState r part first count => exact execNumericsState_touch rfl rfl rfl rfl (ChangesOnly.refl s)
  | contextLoad r context host promptLen word8 word18 => exact execContextLoad_touch rfl rfl rfl rfl (ChangesOnly.refl s)
  | contextLoadDone r => exact execContextLoadDone_touch rfl rfl (ChangesOnly.refl s)
  | contextRead r first count => exact execContextRead_touch rfl rfl rfl rfl (ChangesOnly.refl s)
  | contextWrite r context word8 word18 => exact execContextWrite_touch rfl rfl rfl rfl rfl (ChangesOnly.refl s)
  | contextStop r context => exact execContextStop_touch rfl rfl rfl rfl rfl (ChangesOnly.refl s)
  | contextRelease r context => exact execContextRelease_touch rfl rfl rfl rfl rfl (ChangesOnly.refl s)
  | contextTokens r context first count host => exact execContextTokens_touch rfl rfl rfl rfl (ChangesOnly.refl s)
  | contextTokensDone r => exact execContextTokensDone_touch rfl rfl rfl rfl rfl (ChangesOnly.refl s)
  | linkStatus r mask => exact execLinkStatus_touch rfl rfl rfl rfl (ChangesOnly.refl s)
  | queueStatus r lake => exact execQueueStatus_touch rfl rfl rfl rfl (ChangesOnly.refl s)
  | powerStatus r kind index => exact execPowerStatus_touch rfl rfl rfl rfl (ChangesOnly.refl s)
  | aomFilterRead r slot => exact execAomFilterRead_touch rfl rfl rfl rfl (ChangesOnly.refl s)
  | aomFilterLoad r filter => exact execAomFilterLoad_touch rfl rfl rfl rfl rfl rfl (ChangesOnly.refl s)
  | aomFilterRemove r slot => exact execAomFilterRemove_touch rfl rfl rfl rfl rfl rfl (ChangesOnly.refl s)
  | fwStage r host length => exact execFwStage_touch rfl rfl rfl rfl (ChangesOnly.refl s)
  | fwStageDone r => exact execFwStageDone_touch rfl rfl rfl rfl rfl rfl (ChangesOnly.refl s)
  | fwActivate r slot => exact execFwActivate_touch rfl rfl rfl rfl rfl rfl rfl rfl rfl rfl rfl rfl rfl rfl rfl rfl rfl rfl rfl rfl rfl rfl rfl rfl rfl rfl rfl rfl rfl rfl rfl (ChangesOnly.refl s)
  | attest r nonce => exact execAttest_touch rfl rfl rfl rfl rfl rfl (ChangesOnly.refl s)
  | identityCert r => exact execIdentityCert_touch rfl rfl rfl rfl (ChangesOnly.refl s)
  | ownerKeySet r record => exact execOwnerKeySet_touch rfl rfl rfl rfl rfl rfl (ChangesOnly.refl s)
  | mgmtKeySet r key => exact execMgmtKeySet_touch rfl rfl rfl rfl rfl rfl (ChangesOnly.refl s)
  | planLoadNow r host length image => exact execPlanLoadNow_touch rfl rfl rfl rfl rfl rfl rfl rfl rfl rfl rfl rfl rfl rfl rfl (ChangesOnly.refl s)
  | planLoadAtBoundary r host length image => exact execPlanLoadAtBoundary_touch rfl rfl rfl rfl rfl rfl rfl rfl rfl rfl rfl rfl rfl rfl rfl (ChangesOnly.refl s)
  | planDiscard r => exact execPlanDiscard_touch rfl rfl rfl rfl rfl rfl (ChangesOnly.refl s)
  | planStatus r => exact execPlanStatus_touch rfl rfl rfl rfl (ChangesOnly.refl s)
  | healthRead r kind first count => exact execHealthRead_touch rfl rfl rfl rfl (ChangesOnly.refl s)
  | healthLog r first count host => exact execHealthLog_touch rfl rfl rfl rfl (ChangesOnly.refl s)
  | healthLogDone r => exact execHealthLogDone_touch rfl rfl rfl rfl rfl (ChangesOnly.refl s)
  | selftest r => exact execSelftest_touch rfl rfl rfl rfl rfl (ChangesOnly.refl s)
  | selftestTile nominalFails marginFails => exact execSelftestTile_touch rfl rfl rfl rfl rfl rfl rfl rfl rfl rfl rfl (ChangesOnly.refl s)
  | selftestDone => exact execSelftestDone_touch rfl rfl rfl rfl rfl rfl rfl rfl rfl rfl rfl rfl rfl rfl rfl rfl (ChangesOnly.refl s)
  | counterConfig r kind first count words => exact execCounterConfig_touch rfl rfl rfl rfl rfl rfl (ChangesOnly.refl s)
  | counterRead r kind first count => exact execCounterRead_touch rfl rfl rfl rfl (ChangesOnly.refl s)
  | counterClear r kind first count mask => exact execCounterClear_touch rfl rfl rfl rfl rfl rfl (ChangesOnly.refl s)
  | dumpRegister r host length => exact execDumpRegister_touch rfl rfl rfl rfl rfl rfl (ChangesOnly.refl s)
  | dumpRelease r => exact execDumpRelease_touch rfl rfl rfl rfl rfl rfl (ChangesOnly.refl s)
  | bandwidthRead r first count => exact execBandwidthRead_touch rfl rfl rfl rfl (ChangesOnly.refl s)
  | dumpStatus r => exact execDumpStatus_touch rfl rfl rfl rfl (ChangesOnly.refl s)
  | functionLevelReset cyc => exact execFunctionLevelReset_touch rfl rfl rfl rfl rfl rfl rfl rfl rfl rfl rfl (ChangesOnly.refl s)
  | pcieLinkDown cyc => exact execPcieLinkDown_touch rfl rfl rfl rfl rfl rfl rfl rfl rfl rfl rfl (ChangesOnly.refl s)
  | d3hotEntry cyc => exact execD3hotEntry_touch rfl rfl rfl rfl rfl rfl rfl rfl rfl rfl rfl (ChangesOnly.refl s)
  | pcieError e cyc => exact execPcieError_touch rfl rfl rfl rfl rfl rfl rfl rfl rfl rfl rfl (ChangesOnly.refl s)
  | powerOn => exact execPowerOn_touch rfl rfl rfl rfl rfl rfl rfl rfl rfl rfl rfl rfl rfl rfl rfl rfl rfl rfl rfl rfl rfl rfl rfl rfl rfl rfl rfl rfl rfl rfl rfl (ChangesOnly.refl s)
  | firmwareVerify => exact execFirmwareVerify_touch rfl rfl rfl rfl rfl (ChangesOnly.refl s)
  | eometStart => exact execEometStart_touch rfl rfl (ChangesOnly.refl s)
  | railGroupEnable g => exact execRailGroupEnable_touch rfl (ChangesOnly.refl s)
  | powerGoodAssert g => exact execPowerGoodAssert_touch rfl rfl rfl (ChangesOnly.refl s)
  | powerGoodTimeout g => exact execPowerGoodTimeout_touch rfl rfl rfl rfl rfl rfl rfl rfl rfl rfl rfl rfl rfl rfl rfl (ChangesOnly.refl s)
  | powerGoodLoss g cyc => exact execPowerGoodLoss_touch rfl rfl rfl rfl rfl rfl rfl (ChangesOnly.refl s)
  | pgAonLoss => exact execPgAonLoss_touch rfl rfl rfl rfl rfl rfl rfl rfl rfl rfl rfl rfl rfl rfl rfl rfl rfl rfl rfl rfl rfl rfl rfl rfl rfl rfl rfl rfl rfl rfl rfl (ChangesOnly.refl s)
  | hbmTraining => exact execHbmTraining_touch rfl (ChangesOnly.refl s)
  | laneTraining down => exact execLaneTraining_touch rfl rfl (ChangesOnly.refl s)
  | bootComplete => exact execBootComplete_touch rfl rfl rfl rfl rfl rfl rfl (ChangesOnly.refl s)
  | sysRstNLow cyc => exact execSysRstNLow_touch rfl rfl rfl rfl rfl rfl rfl rfl rfl rfl rfl rfl rfl rfl (ChangesOnly.refl s)
  | sysRstNRise => exact execSysRstNRise_touch rfl rfl rfl rfl rfl rfl rfl rfl rfl rfl rfl rfl rfl rfl rfl rfl rfl rfl rfl rfl rfl rfl rfl rfl rfl rfl rfl rfl rfl rfl rfl (ChangesOnly.refl s)
  | perstNLow cyc => exact execPerstNLow_touch rfl rfl rfl rfl rfl rfl rfl rfl rfl rfl rfl (ChangesOnly.refl s)
  | perstNRise => exact execPerstNRise_touch rfl (ChangesOnly.refl s)
  | thermalTrip die cyc => exact execThermalTrip_touch rfl rfl rfl rfl rfl rfl rfl (ChangesOnly.refl s)
  | refclkLoss cyc => exact execRefclkLoss_touch rfl rfl rfl rfl rfl rfl rfl (ChangesOnly.refl s)
  | linkrefLoss => exact execLinkrefLoss_touch rfl rfl (ChangesOnly.refl s)
  | page p pecOk => exact execPage_touch rfl (ChangesOnly.refl s)
  | clearFaults pecOk => exact execClearFaults_touch rfl (ChangesOnly.refl s)
  | voutMode => exact execVoutMode_touch rfl (ChangesOnly.refl s)
  | statusWord => exact execStatusWord_touch rfl (ChangesOnly.refl s)
  | readVout => exact execReadVout_touch rfl (ChangesOnly.refl s)
  | readIout => exact execReadIout_touch rfl (ChangesOnly.refl s)
  | readPout => exact execReadPout_touch rfl (ChangesOnly.refl s)
  | readTemperature1 => exact execReadTemperature1_touch rfl (ChangesOnly.refl s)
  | readTemperature2 => exact execReadTemperature2_touch rfl (ChangesOnly.refl s)
  | pmbusRevision => exact execPmbusRevision_touch rfl (ChangesOnly.refl s)
  | smbusUnknownCommand code => exact execSmbusUnknownCommand_touch (_code := code) rfl (ChangesOnly.refl s)
  | jtagTestInstruction => exact execJtagTestInstruction_touch rfl (ChangesOnly.refl s)
  | arpRequest mac ip target => exact execArpRequest_touch rfl (ChangesOnly.refl s)
  | icmpEchoRequest addr payload => exact execIcmpEchoRequest_touch rfl (ChangesOnly.refl s)
  | alertResponseAddress => exact execAlertResponseAddress_touch rfl (ChangesOnly.refl s)

end Sys2Proof.Machine
end

