-- ==== Sys2Proof/Laws/State.lean ====
section
/-!
SUPPORT. Sys2Proof/Laws/State.lean: what each of the shared updates of the state leaves of it, one lemma per field and update, so
that no proof has to unfold an update; the frame of raising an event; and reading back what an update has set.
-/
namespace Sys2Proof.Machine
open Sys2Proof

@[simp] theorem atCycle_pending (s : State) (n : Nat) : (atCycle s n).pending = s.pending := rfl
@[simp] theorem atCycle_free (s : State) (n : Nat) : (atCycle s n).free = s.free := rfl
@[simp] theorem atCycle_id (s : State) (n : Nat) : (atCycle s n).id = s.id := rfl
@[simp] theorem atCycle_led (s : State) (n : Nat) : (atCycle s n).led = s.led := rfl
@[simp] theorem atCycle_tiles (s : State) (n : Nat) : (atCycle s n).tiles = s.tiles := rfl
@[simp] theorem atCycle_arrays (s : State) (n : Nat) : (atCycle s n).arrays = s.arrays := rfl
@[simp] theorem atCycle_cells (s : State) (n : Nat) : (atCycle s n).cells = s.cells := rfl
@[simp] theorem atCycle_ops (s : State) (n : Nat) : (atCycle s n).ops = s.ops := rfl
@[simp] theorem atCycle_mem (s : State) (n : Nat) : (atCycle s n).mem = s.mem := rfl
@[simp] theorem atCycle_upd (s : State) (n : Nat) : (atCycle s n).upd = s.upd := rfl
@[simp] theorem atCycle_num (s : State) (n : Nat) : (atCycle s n).num = s.num := rfl
@[simp] theorem atCycle_link (s : State) (n : Nat) : (atCycle s n).link = s.link := rfl
@[simp] theorem atCycle_plan (s : State) (n : Nat) : (atCycle s n).plan = s.plan := rfl
@[simp] theorem atCycle_lakes (s : State) (n : Nat) : (atCycle s n).lakes = s.lakes := rfl
@[simp] theorem atCycle_pow (s : State) (n : Nat) : (atCycle s n).pow = s.pow := rfl
@[simp] theorem atCycle_aom (s : State) (n : Nat) : (atCycle s n).aom = s.aom := rfl
@[simp] theorem atCycle_cnt (s : State) (n : Nat) : (atCycle s n).cnt = s.cnt := rfl
@[simp] theorem atCycle_pin (s : State) (n : Nat) : (atCycle s n).pin = s.pin := rfl
@[simp] theorem atCycle_ctx (s : State) (n : Nat) : (atCycle s n).ctx = s.ctx := rfl
@[simp] theorem atCycle_ev (s : State) (n : Nat) : (atCycle s n).ev = s.ev := rfl
@[simp] theorem atCycle_hl (s : State) (n : Nat) : (atCycle s n).hl = s.hl := rfl
@[simp] theorem atCycle_eo (s : State) (n : Nat) : (atCycle s n).eo = s.eo := rfl
@[simp] theorem draw_pending (s : State) : (draw s).pending = s.pending := rfl
@[simp] theorem draw_id (s : State) : (draw s).id = s.id := rfl
@[simp] theorem draw_fr (s : State) : (draw s).fr = s.fr := rfl
@[simp] theorem draw_led (s : State) : (draw s).led = s.led := rfl
@[simp] theorem draw_tiles (s : State) : (draw s).tiles = s.tiles := rfl
@[simp] theorem draw_arrays (s : State) : (draw s).arrays = s.arrays := rfl
@[simp] theorem draw_cells (s : State) : (draw s).cells = s.cells := rfl
@[simp] theorem draw_ops (s : State) : (draw s).ops = s.ops := rfl
@[simp] theorem draw_mem (s : State) : (draw s).mem = s.mem := rfl
@[simp] theorem draw_upd (s : State) : (draw s).upd = s.upd := rfl
@[simp] theorem draw_num (s : State) : (draw s).num = s.num := rfl
@[simp] theorem draw_link (s : State) : (draw s).link = s.link := rfl
@[simp] theorem draw_plan (s : State) : (draw s).plan = s.plan := rfl
@[simp] theorem draw_lakes (s : State) : (draw s).lakes = s.lakes := rfl
@[simp] theorem draw_pow (s : State) : (draw s).pow = s.pow := rfl
@[simp] theorem draw_aom (s : State) : (draw s).aom = s.aom := rfl
@[simp] theorem draw_cnt (s : State) : (draw s).cnt = s.cnt := rfl
@[simp] theorem draw_pin (s : State) : (draw s).pin = s.pin := rfl
@[simp] theorem draw_ctx (s : State) : (draw s).ctx = s.ctx := rfl
@[simp] theorem draw_ev (s : State) : (draw s).ev = s.ev := rfl
@[simp] theorem draw_hl (s : State) : (draw s).hl = s.hl := rfl
@[simp] theorem draw_eo (s : State) : (draw s).eo = s.eo := rfl
@[simp] theorem modTile_pending (s : State) (t : Nat) (f : TileState → TileState) : (modTile s t f).pending = s.pending := rfl
@[simp] theorem modTile_free (s : State) (t : Nat) (f : TileState → TileState) : (modTile s t f).free = s.free := rfl
@[simp] theorem modTile_id (s : State) (t : Nat) (f : TileState → TileState) : (modTile s t f).id = s.id := rfl
@[simp] theorem modTile_fr (s : State) (t : Nat) (f : TileState → TileState) : (modTile s t f).fr = s.fr := rfl
@[simp] theorem modTile_led (s : State) (t : Nat) (f : TileState → TileState) : (modTile s t f).led = s.led := rfl
@[simp] theorem modTile_arrays (s : State) (t : Nat) (f : TileState → TileState) : (modTile s t f).arrays = s.arrays := rfl
@[simp] theorem modTile_cells (s : State) (t : Nat) (f : TileState → TileState) : (modTile s t f).cells = s.cells := rfl
@[simp] theorem modTile_ops (s : State) (t : Nat) (f : TileState → TileState) : (modTile s t f).ops = s.ops := rfl
@[simp] theorem modTile_mem (s : State) (t : Nat) (f : TileState → TileState) : (modTile s t f).mem = s.mem := rfl
@[simp] theorem modTile_upd (s : State) (t : Nat) (f : TileState → TileState) : (modTile s t f).upd = s.upd := rfl
@[simp] theorem modTile_num (s : State) (t : Nat) (f : TileState → TileState) : (modTile s t f).num = s.num := rfl
@[simp] theorem modTile_link (s : State) (t : Nat) (f : TileState → TileState) : (modTile s t f).link = s.link := rfl
@[simp] theorem modTile_plan (s : State) (t : Nat) (f : TileState → TileState) : (modTile s t f).plan = s.plan := rfl
@[simp] theorem modTile_lakes (s : State) (t : Nat) (f : TileState → TileState) : (modTile s t f).lakes = s.lakes := rfl
@[simp] theorem modTile_pow (s : State) (t : Nat) (f : TileState → TileState) : (modTile s t f).pow = s.pow := rfl
@[simp] theorem modTile_aom (s : State) (t : Nat) (f : TileState → TileState) : (modTile s t f).aom = s.aom := rfl
@[simp] theorem modTile_cnt (s : State) (t : Nat) (f : TileState → TileState) : (modTile s t f).cnt = s.cnt := rfl
@[simp] theorem modTile_pin (s : State) (t : Nat) (f : TileState → TileState) : (modTile s t f).pin = s.pin := rfl
@[simp] theorem modTile_ctx (s : State) (t : Nat) (f : TileState → TileState) : (modTile s t f).ctx = s.ctx := rfl
@[simp] theorem modTile_ev (s : State) (t : Nat) (f : TileState → TileState) : (modTile s t f).ev = s.ev := rfl
@[simp] theorem modTile_hl (s : State) (t : Nat) (f : TileState → TileState) : (modTile s t f).hl = s.hl := rfl
@[simp] theorem modTile_eo (s : State) (t : Nat) (f : TileState → TileState) : (modTile s t f).eo = s.eo := rfl
@[simp] theorem modArr_pending (s : State) (k : Nat) (f : ArrayState → ArrayState) : (modArr s k f).pending = s.pending := rfl
@[simp] theorem modArr_free (s : State) (k : Nat) (f : ArrayState → ArrayState) : (modArr s k f).free = s.free := rfl
@[simp] theorem modArr_id (s : State) (k : Nat) (f : ArrayState → ArrayState) : (modArr s k f).id = s.id := rfl
@[simp] theorem modArr_fr (s : State) (k : Nat) (f : ArrayState → ArrayState) : (modArr s k f).fr = s.fr := rfl
@[simp] theorem modArr_led (s : State) (k : Nat) (f : ArrayState → ArrayState) : (modArr s k f).led = s.led := rfl
@[simp] theorem modArr_tiles (s : State) (k : Nat) (f : ArrayState → ArrayState) : (modArr s k f).tiles = s.tiles := rfl
@[simp] theorem modArr_cells (s : State) (k : Nat) (f : ArrayState → ArrayState) : (modArr s k f).cells = s.cells := rfl
@[simp] theorem modArr_ops (s : State) (k : Nat) (f : ArrayState → ArrayState) : (modArr s k f).ops = s.ops := rfl
@[simp] theorem modArr_mem (s : State) (k : Nat) (f : ArrayState → ArrayState) : (modArr s k f).mem = s.mem := rfl
@[simp] theorem modArr_upd (s : State) (k : Nat) (f : ArrayState → ArrayState) : (modArr s k f).upd = s.upd := rfl
@[simp] theorem modArr_num (s : State) (k : Nat) (f : ArrayState → ArrayState) : (modArr s k f).num = s.num := rfl
@[simp] theorem modArr_link (s : State) (k : Nat) (f : ArrayState → ArrayState) : (modArr s k f).link = s.link := rfl
@[simp] theorem modArr_plan (s : State) (k : Nat) (f : ArrayState → ArrayState) : (modArr s k f).plan = s.plan := rfl
@[simp] theorem modArr_lakes (s : State) (k : Nat) (f : ArrayState → ArrayState) : (modArr s k f).lakes = s.lakes := rfl
@[simp] theorem modArr_pow (s : State) (k : Nat) (f : ArrayState → ArrayState) : (modArr s k f).pow = s.pow := rfl
@[simp] theorem modArr_aom (s : State) (k : Nat) (f : ArrayState → ArrayState) : (modArr s k f).aom = s.aom := rfl
@[simp] theorem modArr_cnt (s : State) (k : Nat) (f : ArrayState → ArrayState) : (modArr s k f).cnt = s.cnt := rfl
@[simp] theorem modArr_pin (s : State) (k : Nat) (f : ArrayState → ArrayState) : (modArr s k f).pin = s.pin := rfl
@[simp] theorem modArr_ctx (s : State) (k : Nat) (f : ArrayState → ArrayState) : (modArr s k f).ctx = s.ctx := rfl
@[simp] theorem modArr_ev (s : State) (k : Nat) (f : ArrayState → ArrayState) : (modArr s k f).ev = s.ev := rfl
@[simp] theorem modArr_hl (s : State) (k : Nat) (f : ArrayState → ArrayState) : (modArr s k f).hl = s.hl := rfl
@[simp] theorem modArr_eo (s : State) (k : Nat) (f : ArrayState → ArrayState) : (modArr s k f).eo = s.eo := rfl
@[simp] theorem modLink_pending (s : State) (l : Nat) (f : LinkState → LinkState) : (modLink s l f).pending = s.pending := rfl
@[simp] theorem modLink_free (s : State) (l : Nat) (f : LinkState → LinkState) : (modLink s l f).free = s.free := rfl
@[simp] theorem modLink_id (s : State) (l : Nat) (f : LinkState → LinkState) : (modLink s l f).id = s.id := rfl
@[simp] theorem modLink_fr (s : State) (l : Nat) (f : LinkState → LinkState) : (modLink s l f).fr = s.fr := rfl
@[simp] theorem modLink_led (s : State) (l : Nat) (f : LinkState → LinkState) : (modLink s l f).led = s.led := rfl
@[simp] theorem modLink_tiles (s : State) (l : Nat) (f : LinkState → LinkState) : (modLink s l f).tiles = s.tiles := rfl
@[simp] theorem modLink_arrays (s : State) (l : Nat) (f : LinkState → LinkState) : (modLink s l f).arrays = s.arrays := rfl
@[simp] theorem modLink_cells (s : State) (l : Nat) (f : LinkState → LinkState) : (modLink s l f).cells = s.cells := rfl
@[simp] theorem modLink_ops (s : State) (l : Nat) (f : LinkState → LinkState) : (modLink s l f).ops = s.ops := rfl
@[simp] theorem modLink_mem (s : State) (l : Nat) (f : LinkState → LinkState) : (modLink s l f).mem = s.mem := rfl
@[simp] theorem modLink_upd (s : State) (l : Nat) (f : LinkState → LinkState) : (modLink s l f).upd = s.upd := rfl
@[simp] theorem modLink_num (s : State) (l : Nat) (f : LinkState → LinkState) : (modLink s l f).num = s.num := rfl
@[simp] theorem modLink_plan (s : State) (l : Nat) (f : LinkState → LinkState) : (modLink s l f).plan = s.plan := rfl
@[simp] theorem modLink_lakes (s : State) (l : Nat) (f : LinkState → LinkState) : (modLink s l f).lakes = s.lakes := rfl
@[simp] theorem modLink_pow (s : State) (l : Nat) (f : LinkState → LinkState) : (modLink s l f).pow = s.pow := rfl
@[simp] theorem modLink_aom (s : State) (l : Nat) (f : LinkState → LinkState) : (modLink s l f).aom = s.aom := rfl
@[simp] theorem modLink_cnt (s : State) (l : Nat) (f : LinkState → LinkState) : (modLink s l f).cnt = s.cnt := rfl
@[simp] theorem modLink_pin (s : State) (l : Nat) (f : LinkState → LinkState) : (modLink s l f).pin = s.pin := rfl
@[simp] theorem modLink_ctx (s : State) (l : Nat) (f : LinkState → LinkState) : (modLink s l f).ctx = s.ctx := rfl
@[simp] theorem modLink_ev (s : State) (l : Nat) (f : LinkState → LinkState) : (modLink s l f).ev = s.ev := rfl
@[simp] theorem modLink_hl (s : State) (l : Nat) (f : LinkState → LinkState) : (modLink s l f).hl = s.hl := rfl
@[simp] theorem modLink_eo (s : State) (l : Nat) (f : LinkState → LinkState) : (modLink s l f).eo = s.eo := rfl
@[simp] theorem modGroup_pending (s : State) (d : Nat) (f : GroupState → GroupState) : (modGroup s d f).pending = s.pending := rfl
@[simp] theorem modGroup_free (s : State) (d : Nat) (f : GroupState → GroupState) : (modGroup s d f).free = s.free := rfl
@[simp] theorem modGroup_id (s : State) (d : Nat) (f : GroupState → GroupState) : (modGroup s d f).id = s.id := rfl
@[simp] theorem modGroup_fr (s : State) (d : Nat) (f : GroupState → GroupState) : (modGroup s d f).fr = s.fr := rfl
@[simp] theorem modGroup_led (s : State) (d : Nat) (f : GroupState → GroupState) : (modGroup s d f).led = s.led := rfl
@[simp] theorem modGroup_tiles (s : State) (d : Nat) (f : GroupState → GroupState) : (modGroup s d f).tiles = s.tiles := rfl
@[simp] theorem modGroup_arrays (s : State) (d : Nat) (f : GroupState → GroupState) : (modGroup s d f).arrays = s.arrays := rfl
@[simp] theorem modGroup_cells (s : State) (d : Nat) (f : GroupState → GroupState) : (modGroup s d f).cells = s.cells := rfl
@[simp] theorem modGroup_ops (s : State) (d : Nat) (f : GroupState → GroupState) : (modGroup s d f).ops = s.ops := rfl
@[simp] theorem modGroup_mem (s : State) (d : Nat) (f : GroupState → GroupState) : (modGroup s d f).mem = s.mem := rfl
@[simp] theorem modGroup_upd (s : State) (d : Nat) (f : GroupState → GroupState) : (modGroup s d f).upd = s.upd := rfl
@[simp] theorem modGroup_num (s : State) (d : Nat) (f : GroupState → GroupState) : (modGroup s d f).num = s.num := rfl
@[simp] theorem modGroup_plan (s : State) (d : Nat) (f : GroupState → GroupState) : (modGroup s d f).plan = s.plan := rfl
@[simp] theorem modGroup_lakes (s : State) (d : Nat) (f : GroupState → GroupState) : (modGroup s d f).lakes = s.lakes := rfl
@[simp] theorem modGroup_pow (s : State) (d : Nat) (f : GroupState → GroupState) : (modGroup s d f).pow = s.pow := rfl
@[simp] theorem modGroup_aom (s : State) (d : Nat) (f : GroupState → GroupState) : (modGroup s d f).aom = s.aom := rfl
@[simp] theorem modGroup_cnt (s : State) (d : Nat) (f : GroupState → GroupState) : (modGroup s d f).cnt = s.cnt := rfl
@[simp] theorem modGroup_pin (s : State) (d : Nat) (f : GroupState → GroupState) : (modGroup s d f).pin = s.pin := rfl
@[simp] theorem modGroup_ctx (s : State) (d : Nat) (f : GroupState → GroupState) : (modGroup s d f).ctx = s.ctx := rfl
@[simp] theorem modGroup_ev (s : State) (d : Nat) (f : GroupState → GroupState) : (modGroup s d f).ev = s.ev := rfl
@[simp] theorem modGroup_hl (s : State) (d : Nat) (f : GroupState → GroupState) : (modGroup s d f).hl = s.hl := rfl
@[simp] theorem modGroup_eo (s : State) (d : Nat) (f : GroupState → GroupState) : (modGroup s d f).eo = s.eo := rfl
@[simp] theorem modStack_pending (s : State) (k : Nat) (f : StackCounts → StackCounts) : (modStack s k f).pending = s.pending := rfl
@[simp] theorem modStack_free (s : State) (k : Nat) (f : StackCounts → StackCounts) : (modStack s k f).free = s.free := rfl
@[simp] theorem modStack_id (s : State) (k : Nat) (f : StackCounts → StackCounts) : (modStack s k f).id = s.id := rfl
@[simp] theorem modStack_fr (s : State) (k : Nat) (f : StackCounts → StackCounts) : (modStack s k f).fr = s.fr := rfl
@[simp] theorem modStack_led (s : State) (k : Nat) (f : StackCounts → StackCounts) : (modStack s k f).led = s.led := rfl
@[simp] theorem modStack_tiles (s : State) (k : Nat) (f : StackCounts → StackCounts) : (modStack s k f).tiles = s.tiles := rfl
@[simp] theorem modStack_arrays (s : State) (k : Nat) (f : StackCounts → StackCounts) : (modStack s k f).arrays = s.arrays := rfl
@[simp] theorem modStack_cells (s : State) (k : Nat) (f : StackCounts → StackCounts) : (modStack s k f).cells = s.cells := rfl
@[simp] theorem modStack_ops (s : State) (k : Nat) (f : StackCounts → StackCounts) : (modStack s k f).ops = s.ops := rfl
@[simp] theorem modStack_upd (s : State) (k : Nat) (f : StackCounts → StackCounts) : (modStack s k f).upd = s.upd := rfl
@[simp] theorem modStack_num (s : State) (k : Nat) (f : StackCounts → StackCounts) : (modStack s k f).num = s.num := rfl
@[simp] theorem modStack_link (s : State) (k : Nat) (f : StackCounts → StackCounts) : (modStack s k f).link = s.link := rfl
@[simp] theorem modStack_plan (s : State) (k : Nat) (f : StackCounts → StackCounts) : (modStack s k f).plan = s.plan := rfl
@[simp] theorem modStack_lakes (s : State) (k : Nat) (f : StackCounts → StackCounts) : (modStack s k f).lakes = s.lakes := rfl
@[simp] theorem modStack_pow (s : State) (k : Nat) (f : StackCounts → StackCounts) : (modStack s k f).pow = s.pow := rfl
@[simp] theorem modStack_aom (s : State) (k : Nat) (f : StackCounts → StackCounts) : (modStack s k f).aom = s.aom := rfl
@[simp] theorem modStack_cnt (s : State) (k : Nat) (f : StackCounts → StackCounts) : (modStack s k f).cnt = s.cnt := rfl
@[simp] theorem modStack_pin (s : State) (k : Nat) (f : StackCounts → StackCounts) : (modStack s k f).pin = s.pin := rfl
@[simp] theorem modStack_ctx (s : State) (k : Nat) (f : StackCounts → StackCounts) : (modStack s k f).ctx = s.ctx := rfl
@[simp] theorem modStack_ev (s : State) (k : Nat) (f : StackCounts → StackCounts) : (modStack s k f).ev = s.ev := rfl
@[simp] theorem modStack_hl (s : State) (k : Nat) (f : StackCounts → StackCounts) : (modStack s k f).hl = s.hl := rfl
@[simp] theorem modStack_eo (s : State) (k : Nat) (f : StackCounts → StackCounts) : (modStack s k f).eo = s.eo := rfl
@[simp] theorem modEngine_pending (s : State) (k : Nat) (f : UpdEngine → UpdEngine) : (modEngine s k f).pending = s.pending := rfl
@[simp] theorem modEngine_free (s : State) (k : Nat) (f : UpdEngine → UpdEngine) : (modEngine s k f).free = s.free := rfl
@[simp] theorem modEngine_id (s : State) (k : Nat) (f : UpdEngine → UpdEngine) : (modEngine s k f).id = s.id := rfl
@[simp] theorem modEngine_fr (s : State) (k : Nat) (f : UpdEngine → UpdEngine) : (modEngine s k f).fr = s.fr := rfl
@[simp] theorem modEngine_led (s : State) (k : Nat) (f : UpdEngine → UpdEngine) : (modEngine s k f).led = s.led := rfl
@[simp] theorem modEngine_tiles (s : State) (k : Nat) (f : UpdEngine → UpdEngine) : (modEngine s k f).tiles = s.tiles := rfl
@[simp] theorem modEngine_arrays (s : State) (k : Nat) (f : UpdEngine → UpdEngine) : (modEngine s k f).arrays = s.arrays := rfl
@[simp] theorem modEngine_cells (s : State) (k : Nat) (f : UpdEngine → UpdEngine) : (modEngine s k f).cells = s.cells := rfl
@[simp] theorem modEngine_ops (s : State) (k : Nat) (f : UpdEngine → UpdEngine) : (modEngine s k f).ops = s.ops := rfl
@[simp] theorem modEngine_mem (s : State) (k : Nat) (f : UpdEngine → UpdEngine) : (modEngine s k f).mem = s.mem := rfl
@[simp] theorem modEngine_num (s : State) (k : Nat) (f : UpdEngine → UpdEngine) : (modEngine s k f).num = s.num := rfl
@[simp] theorem modEngine_link (s : State) (k : Nat) (f : UpdEngine → UpdEngine) : (modEngine s k f).link = s.link := rfl
@[simp] theorem modEngine_plan (s : State) (k : Nat) (f : UpdEngine → UpdEngine) : (modEngine s k f).plan = s.plan := rfl
@[simp] theorem modEngine_lakes (s : State) (k : Nat) (f : UpdEngine → UpdEngine) : (modEngine s k f).lakes = s.lakes := rfl
@[simp] theorem modEngine_pow (s : State) (k : Nat) (f : UpdEngine → UpdEngine) : (modEngine s k f).pow = s.pow := rfl
@[simp] theorem modEngine_aom (s : State) (k : Nat) (f : UpdEngine → UpdEngine) : (modEngine s k f).aom = s.aom := rfl
@[simp] theorem modEngine_cnt (s : State) (k : Nat) (f : UpdEngine → UpdEngine) : (modEngine s k f).cnt = s.cnt := rfl
@[simp] theorem modEngine_pin (s : State) (k : Nat) (f : UpdEngine → UpdEngine) : (modEngine s k f).pin = s.pin := rfl
@[simp] theorem modEngine_ctx (s : State) (k : Nat) (f : UpdEngine → UpdEngine) : (modEngine s k f).ctx = s.ctx := rfl
@[simp] theorem modEngine_ev (s : State) (k : Nat) (f : UpdEngine → UpdEngine) : (modEngine s k f).ev = s.ev := rfl
@[simp] theorem modEngine_hl (s : State) (k : Nat) (f : UpdEngine → UpdEngine) : (modEngine s k f).hl = s.hl := rfl
@[simp] theorem modEngine_eo (s : State) (k : Nat) (f : UpdEngine → UpdEngine) : (modEngine s k f).eo = s.eo := rfl
@[simp] theorem active_pending (s : State) (b c n : Nat) : (active s b c n).pending = s.pending := rfl
@[simp] theorem active_free (s : State) (b c n : Nat) : (active s b c n).free = s.free := rfl
@[simp] theorem active_id (s : State) (b c n : Nat) : (active s b c n).id = s.id := rfl
@[simp] theorem active_fr (s : State) (b c n : Nat) : (active s b c n).fr = s.fr := rfl
@[simp] theorem active_led (s : State) (b c n : Nat) : (active s b c n).led = s.led := rfl
@[simp] theorem active_tiles (s : State) (b c n : Nat) : (active s b c n).tiles = s.tiles := rfl
@[simp] theorem active_arrays (s : State) (b c n : Nat) : (active s b c n).arrays = s.arrays := rfl
@[simp] theorem active_cells (s : State) (b c n : Nat) : (active s b c n).cells = s.cells := rfl
@[simp] theorem active_ops (s : State) (b c n : Nat) : (active s b c n).ops = s.ops := rfl
@[simp] theorem active_mem (s : State) (b c n : Nat) : (active s b c n).mem = s.mem := rfl
@[simp] theorem active_upd (s : State) (b c n : Nat) : (active s b c n).upd = s.upd := rfl
@[simp] theorem active_num (s : State) (b c n : Nat) : (active s b c n).num = s.num := rfl
@[simp] theorem active_link (s : State) (b c n : Nat) : (active s b c n).link = s.link := rfl
@[simp] theorem active_plan (s : State) (b c n : Nat) : (active s b c n).plan = s.plan := rfl
@[simp] theorem active_lakes (s : State) (b c n : Nat) : (active s b c n).lakes = s.lakes := rfl
@[simp] theorem active_pow (s : State) (b c n : Nat) : (active s b c n).pow = s.pow := rfl
@[simp] theorem active_aom (s : State) (b c n : Nat) : (active s b c n).aom = s.aom := rfl
@[simp] theorem active_pin (s : State) (b c n : Nat) : (active s b c n).pin = s.pin := rfl
@[simp] theorem active_ctx (s : State) (b c n : Nat) : (active s b c n).ctx = s.ctx := rfl
@[simp] theorem active_ev (s : State) (b c n : Nat) : (active s b c n).ev = s.ev := rfl
@[simp] theorem active_hl (s : State) (b c n : Nat) : (active s b c n).hl = s.hl := rfl
@[simp] theorem active_eo (s : State) (b c n : Nat) : (active s b c n).eo = s.eo := rfl
@[simp] theorem portBytes_pending (s : State) (p n : Nat) : (portBytes s p n).pending = s.pending := rfl
@[simp] theorem portBytes_free (s : State) (p n : Nat) : (portBytes s p n).free = s.free := rfl
@[simp] theorem portBytes_id (s : State) (p n : Nat) : (portBytes s p n).id = s.id := rfl
@[simp] theorem portBytes_fr (s : State) (p n : Nat) : (portBytes s p n).fr = s.fr := rfl
@[simp] theorem portBytes_led (s : State) (p n : Nat) : (portBytes s p n).led = s.led := rfl
@[simp] theorem portBytes_tiles (s : State) (p n : Nat) : (portBytes s p n).tiles = s.tiles := rfl
@[simp] theorem portBytes_arrays (s : State) (p n : Nat) : (portBytes s p n).arrays = s.arrays := rfl
@[simp] theorem portBytes_cells (s : State) (p n : Nat) : (portBytes s p n).cells = s.cells := rfl
@[simp] theorem portBytes_ops (s : State) (p n : Nat) : (portBytes s p n).ops = s.ops := rfl
@[simp] theorem portBytes_mem (s : State) (p n : Nat) : (portBytes s p n).mem = s.mem := rfl
@[simp] theorem portBytes_upd (s : State) (p n : Nat) : (portBytes s p n).upd = s.upd := rfl
@[simp] theorem portBytes_num (s : State) (p n : Nat) : (portBytes s p n).num = s.num := rfl
@[simp] theorem portBytes_link (s : State) (p n : Nat) : (portBytes s p n).link = s.link := rfl
@[simp] theorem portBytes_plan (s : State) (p n : Nat) : (portBytes s p n).plan = s.plan := rfl
@[simp] theorem portBytes_lakes (s : State) (p n : Nat) : (portBytes s p n).lakes = s.lakes := rfl
@[simp] theorem portBytes_pow (s : State) (p n : Nat) : (portBytes s p n).pow = s.pow := rfl
@[simp] theorem portBytes_aom (s : State) (p n : Nat) : (portBytes s p n).aom = s.aom := rfl
@[simp] theorem portBytes_pin (s : State) (p n : Nat) : (portBytes s p n).pin = s.pin := rfl
@[simp] theorem portBytes_ctx (s : State) (p n : Nat) : (portBytes s p n).ctx = s.ctx := rfl
@[simp] theorem portBytes_ev (s : State) (p n : Nat) : (portBytes s p n).ev = s.ev := rfl
@[simp] theorem portBytes_hl (s : State) (p n : Nat) : (portBytes s p n).hl = s.hl := rfl
@[simp] theorem portBytes_eo (s : State) (p n : Nat) : (portBytes s p n).eo = s.eo := rfl
@[simp] theorem modGen_pending (s : State) (g : Nat) (f : PlanFrame → PlanFrame) : (modGen s g f).pending = s.pending := rfl
@[simp] theorem modGen_free (s : State) (g : Nat) (f : PlanFrame → PlanFrame) : (modGen s g f).free = s.free := rfl
@[simp] theorem modGen_id (s : State) (g : Nat) (f : PlanFrame → PlanFrame) : (modGen s g f).id = s.id := rfl
@[simp] theorem modGen_led (s : State) (g : Nat) (f : PlanFrame → PlanFrame) : (modGen s g f).led = s.led := rfl
@[simp] theorem modGen_tiles (s : State) (g : Nat) (f : PlanFrame → PlanFrame) : (modGen s g f).tiles = s.tiles := rfl
@[simp] theorem modGen_arrays (s : State) (g : Nat) (f : PlanFrame → PlanFrame) : (modGen s g f).arrays = s.arrays := rfl
@[simp] theorem modGen_cells (s : State) (g : Nat) (f : PlanFrame → PlanFrame) : (modGen s g f).cells = s.cells := rfl
@[simp] theorem modGen_ops (s : State) (g : Nat) (f : PlanFrame → PlanFrame) : (modGen s g f).ops = s.ops := rfl
@[simp] theorem modGen_mem (s : State) (g : Nat) (f : PlanFrame → PlanFrame) : (modGen s g f).mem = s.mem := rfl
@[simp] theorem modGen_upd (s : State) (g : Nat) (f : PlanFrame → PlanFrame) : (modGen s g f).upd = s.upd := rfl
@[simp] theorem modGen_num (s : State) (g : Nat) (f : PlanFrame → PlanFrame) : (modGen s g f).num = s.num := rfl
@[simp] theorem modGen_link (s : State) (g : Nat) (f : PlanFrame → PlanFrame) : (modGen s g f).link = s.link := rfl
@[simp] theorem modGen_plan (s : State) (g : Nat) (f : PlanFrame → PlanFrame) : (modGen s g f).plan = s.plan := rfl
@[simp] theorem modGen_lakes (s : State) (g : Nat) (f : PlanFrame → PlanFrame) : (modGen s g f).lakes = s.lakes := rfl
@[simp] theorem modGen_pow (s : State) (g : Nat) (f : PlanFrame → PlanFrame) : (modGen s g f).pow = s.pow := rfl
@[simp] theorem modGen_aom (s : State) (g : Nat) (f : PlanFrame → PlanFrame) : (modGen s g f).aom = s.aom := rfl
@[simp] theorem modGen_cnt (s : State) (g : Nat) (f : PlanFrame → PlanFrame) : (modGen s g f).cnt = s.cnt := rfl
@[simp] theorem modGen_pin (s : State) (g : Nat) (f : PlanFrame → PlanFrame) : (modGen s g f).pin = s.pin := rfl
@[simp] theorem modGen_ctx (s : State) (g : Nat) (f : PlanFrame → PlanFrame) : (modGen s g f).ctx = s.ctx := rfl
@[simp] theorem modGen_ev (s : State) (g : Nat) (f : PlanFrame → PlanFrame) : (modGen s g f).ev = s.ev := rfl
@[simp] theorem modGen_hl (s : State) (g : Nat) (f : PlanFrame → PlanFrame) : (modGen s g f).hl = s.hl := rfl
@[simp] theorem modGen_eo (s : State) (g : Nat) (f : PlanFrame → PlanFrame) : (modGen s g f).eo = s.eo := rfl
@[simp] theorem modHealth_pending (s : State) (u : UnitRef) (f : HealthRec → HealthRec) : (modHealth s u f).pending = s.pending := rfl
@[simp] theorem modHealth_free (s : State) (u : UnitRef) (f : HealthRec → HealthRec) : (modHealth s u f).free = s.free := rfl
@[simp] theorem modHealth_id (s : State) (u : UnitRef) (f : HealthRec → HealthRec) : (modHealth s u f).id = s.id := rfl
@[simp] theorem modHealth_fr (s : State) (u : UnitRef) (f : HealthRec → HealthRec) : (modHealth s u f).fr = s.fr := rfl
@[simp] theorem modHealth_led (s : State) (u : UnitRef) (f : HealthRec → HealthRec) : (modHealth s u f).led = s.led := rfl
@[simp] theorem modHealth_tiles (s : State) (u : UnitRef) (f : HealthRec → HealthRec) : (modHealth s u f).tiles = s.tiles := rfl
@[simp] theorem modHealth_arrays (s : State) (u : UnitRef) (f : HealthRec → HealthRec) : (modHealth s u f).arrays = s.arrays := rfl
@[simp] theorem modHealth_cells (s : State) (u : UnitRef) (f : HealthRec → HealthRec) : (modHealth s u f).cells = s.cells := rfl
@[simp] theorem modHealth_ops (s : State) (u : UnitRef) (f : HealthRec → HealthRec) : (modHealth s u f).ops = s.ops := rfl
@[simp] theorem modHealth_mem (s : State) (u : UnitRef) (f : HealthRec → HealthRec) : (modHealth s u f).mem = s.mem := rfl
@[simp] theorem modHealth_upd (s : State) (u : UnitRef) (f : HealthRec → HealthRec) : (modHealth s u f).upd = s.upd := rfl
@[simp] theorem modHealth_num (s : State) (u : UnitRef) (f : HealthRec → HealthRec) : (modHealth s u f).num = s.num := rfl
@[simp] theorem modHealth_link (s : State) (u : UnitRef) (f : HealthRec → HealthRec) : (modHealth s u f).link = s.link := rfl
@[simp] theorem modHealth_plan (s : State) (u : UnitRef) (f : HealthRec → HealthRec) : (modHealth s u f).plan = s.plan := rfl
@[simp] theorem modHealth_lakes (s : State) (u : UnitRef) (f : HealthRec → HealthRec) : (modHealth s u f).lakes = s.lakes := rfl
@[simp] theorem modHealth_pow (s : State) (u : UnitRef) (f : HealthRec → HealthRec) : (modHealth s u f).pow = s.pow := rfl
@[simp] theorem modHealth_aom (s : State) (u : UnitRef) (f : HealthRec → HealthRec) : (modHealth s u f).aom = s.aom := rfl
@[simp] theorem modHealth_cnt (s : State) (u : UnitRef) (f : HealthRec → HealthRec) : (modHealth s u f).cnt = s.cnt := rfl
@[simp] theorem modHealth_pin (s : State) (u : UnitRef) (f : HealthRec → HealthRec) : (modHealth s u f).pin = s.pin := rfl
@[simp] theorem modHealth_ctx (s : State) (u : UnitRef) (f : HealthRec → HealthRec) : (modHealth s u f).ctx = s.ctx := rfl
@[simp] theorem modHealth_ev (s : State) (u : UnitRef) (f : HealthRec → HealthRec) : (modHealth s u f).ev = s.ev := rfl
@[simp] theorem modHealth_eo (s : State) (u : UnitRef) (f : HealthRec → HealthRec) : (modHealth s u f).eo = s.eo := rfl
@[simp] theorem relay_pending (s : State) (e : SyncEvent) (ls : List Nat) : (relay s e ls).pending = s.pending := rfl
@[simp] theorem relay_free (s : State) (e : SyncEvent) (ls : List Nat) : (relay s e ls).free = s.free := rfl
@[simp] theorem relay_id (s : State) (e : SyncEvent) (ls : List Nat) : (relay s e ls).id = s.id := rfl
@[simp] theorem relay_fr (s : State) (e : SyncEvent) (ls : List Nat) : (relay s e ls).fr = s.fr := rfl
@[simp] theorem relay_led (s : State) (e : SyncEvent) (ls : List Nat) : (relay s e ls).led = s.led := rfl
@[simp] theorem relay_tiles (s : State) (e : SyncEvent) (ls : List Nat) : (relay s e ls).tiles = s.tiles := rfl
@[simp] theorem relay_arrays (s : State) (e : SyncEvent) (ls : List Nat) : (relay s e ls).arrays = s.arrays := rfl
@[simp] theorem relay_cells (s : State) (e : SyncEvent) (ls : List Nat) : (relay s e ls).cells = s.cells := rfl
@[simp] theorem relay_ops (s : State) (e : SyncEvent) (ls : List Nat) : (relay s e ls).ops = s.ops := rfl
@[simp] theorem relay_mem (s : State) (e : SyncEvent) (ls : List Nat) : (relay s e ls).mem = s.mem := rfl
@[simp] theorem relay_upd (s : State) (e : SyncEvent) (ls : List Nat) : (relay s e ls).upd = s.upd := rfl
@[simp] theorem relay_num (s : State) (e : SyncEvent) (ls : List Nat) : (relay s e ls).num = s.num := rfl
@[simp] theorem relay_plan (s : State) (e : SyncEvent) (ls : List Nat) : (relay s e ls).plan = s.plan := rfl
@[simp] theorem relay_lakes (s : State) (e : SyncEvent) (ls : List Nat) : (relay s e ls).lakes = s.lakes := rfl
@[simp] theorem relay_pow (s : State) (e : SyncEvent) (ls : List Nat) : (relay s e ls).pow = s.pow := rfl
@[simp] theorem relay_aom (s : State) (e : SyncEvent) (ls : List Nat) : (relay s e ls).aom = s.aom := rfl
@[simp] theorem relay_cnt (s : State) (e : SyncEvent) (ls : List Nat) : (relay s e ls).cnt = s.cnt := rfl
@[simp] theorem relay_pin (s : State) (e : SyncEvent) (ls : List Nat) : (relay s e ls).pin = s.pin := rfl
@[simp] theorem relay_ctx (s : State) (e : SyncEvent) (ls : List Nat) : (relay s e ls).ctx = s.ctx := rfl
@[simp] theorem relay_ev (s : State) (e : SyncEvent) (ls : List Nat) : (relay s e ls).ev = s.ev := rfl
@[simp] theorem relay_hl (s : State) (e : SyncEvent) (ls : List Nat) : (relay s e ls).hl = s.hl := rfl
@[simp] theorem relay_eo (s : State) (e : SyncEvent) (ls : List Nat) : (relay s e ls).eo = s.eo := rfl
@[simp] theorem countCorrected_pending (s : State) : (countCorrected s).pending = s.pending := rfl
@[simp] theorem countCorrected_free (s : State) : (countCorrected s).free = s.free := rfl
@[simp] theorem countCorrected_id (s : State) : (countCorrected s).id = s.id := rfl
@[simp] theorem countCorrected_led (s : State) : (countCorrected s).led = s.led := rfl
@[simp] theorem countCorrected_tiles (s : State) : (countCorrected s).tiles = s.tiles := rfl
@[simp] theorem countCorrected_arrays (s : State) : (countCorrected s).arrays = s.arrays := rfl
@[simp] theorem countCorrected_cells (s : State) : (countCorrected s).cells = s.cells := rfl
@[simp] theorem countCorrected_ops (s : State) : (countCorrected s).ops = s.ops := rfl
@[simp] theorem countCorrected_mem (s : State) : (countCorrected s).mem = s.mem := rfl
@[simp] theorem countCorrected_upd (s : State) : (countCorrected s).upd = s.upd := rfl
@[simp] theorem countCorrected_num (s : State) : (countCorrected s).num = s.num := rfl
@[simp] theorem countCorrected_link (s : State) : (countCorrected s).link = s.link := rfl
@[simp] theorem countCorrected_plan (s : State) : (countCorrected s).plan = s.plan := rfl
@[simp] theorem countCorrected_lakes (s : State) : (countCorrected s).lakes = s.lakes := rfl
@[simp] theorem countCorrected_pow (s : State) : (countCorrected s).pow = s.pow := rfl
@[simp] theorem countCorrected_aom (s : State) : (countCorrected s).aom = s.aom := rfl
@[simp] theorem countCorrected_cnt (s : State) : (countCorrected s).cnt = s.cnt := rfl
@[simp] theorem countCorrected_pin (s : State) : (countCorrected s).pin = s.pin := rfl
@[simp] theorem countCorrected_ctx (s : State) : (countCorrected s).ctx = s.ctx := rfl
@[simp] theorem countCorrected_ev (s : State) : (countCorrected s).ev = s.ev := rfl
@[simp] theorem countCorrected_hl (s : State) : (countCorrected s).hl = s.hl := rfl
@[simp] theorem countCorrected_eo (s : State) : (countCorrected s).eo = s.eo := rfl
@[simp] theorem atCycle_fr_counter (s : State) (n : Nat) : (atCycle s n).fr.counter = s.fr.counter := rfl
@[simp] theorem atCycle_fr_pos (s : State) (n : Nat) : (atCycle s n).fr.pos = s.fr.pos := rfl
@[simp] theorem atCycle_fr_step (s : State) (n : Nat) : (atCycle s n).fr.step = s.fr.step := rfl
@[simp] theorem atCycle_fr_run (s : State) (n : Nat) : (atCycle s n).fr.run = s.fr.run := rfl
@[simp] theorem atCycle_fr_late (s : State) (n : Nat) : (atCycle s n).fr.late = s.fr.late := rfl
@[simp] theorem atCycle_fr_degraded (s : State) (n : Nat) : (atCycle s n).fr.degraded = s.fr.degraded := rfl
@[simp] theorem atCycle_fr_fixedFreq (s : State) (n : Nat) : (atCycle s n).fr.fixedFreq = s.fr.fixedFreq := rfl
@[simp] theorem atCycle_fr_boost (s : State) (n : Nat) : (atCycle s n).fr.boost = s.fr.boost := rfl
@[simp] theorem atCycle_fr_ended (s : State) (n : Nat) : (atCycle s n).fr.ended = s.fr.ended := rfl
@[simp] theorem atCycle_fr_committed (s : State) (n : Nat) : (atCycle s n).fr.committed = s.fr.committed := rfl
@[simp] theorem atCycle_fr_live (s : State) (n : Nat) : (atCycle s n).fr.live = s.fr.live := rfl
@[simp] theorem atCycle_fr_master (s : State) (n : Nat) : (atCycle s n).fr.master = s.fr.master := rfl
@[simp] theorem atCycle_fr_page (s : State) (n : Nat) : (atCycle s n).fr.page = s.fr.page := rfl
@[simp] theorem atCycle_fr_running (s : State) (n : Nat) : (atCycle s n).fr.running = s.fr.running := rfl
@[simp] theorem atCycle_fr_closed (s : State) (n : Nat) : (atCycle s n).fr.closed = s.fr.closed := rfl
@[simp] theorem atCycle_fr_nextGen (s : State) (n : Nat) : (atCycle s n).fr.nextGen = s.fr.nextGen := rfl
@[simp] theorem atCycle_fr_holdTargets (s : State) (n : Nat) : (atCycle s n).fr.holdTargets = s.fr.holdTargets := rfl
@[simp] theorem atCycle_fr_holdFrame (s : State) (n : Nat) : (atCycle s n).fr.holdFrame = s.fr.holdFrame := rfl
@[simp] theorem atCycle_fr_holdHist (s : State) (n : Nat) : (atCycle s n).fr.holdHist = s.fr.holdHist := rfl
@[simp] theorem atCycle_fr_lateHist (s : State) (n : Nat) : (atCycle s n).fr.lateHist = s.fr.lateHist := rfl
@[simp] theorem atCycle_fr_stretchAsked (s : State) (n : Nat) : (atCycle s n).fr.stretchAsked = s.fr.stretchAsked := rfl
@[simp] theorem atCycle_fr_stretchSince (s : State) (n : Nat) : (atCycle s n).fr.stretchSince = s.fr.stretchSince := rfl
@[simp] theorem atCycle_fr_stretchShift (s : State) (n : Nat) : (atCycle s n).fr.stretchShift = s.fr.stretchShift := rfl
@[simp] theorem atCycle_fr_failures (s : State) (n : Nat) : (atCycle s n).fr.failures = s.fr.failures := rfl
@[simp] theorem atCycle_fr_stopAt (s : State) (n : Nat) : (atCycle s n).fr.stopAt = s.fr.stopAt := rfl
@[simp] theorem atCycle_fr_cycle (s : State) (n : Nat) : (atCycle s n).fr.cycle = n := rfl

/-- A tile reads back as changed. -/
theorem tileOf_modTile (s : State) (t : Nat) (f : TileState → TileState) : tileOf (modTile s t f) t = f (tileOf s t) := tget_tmod_same _ _ _ _
/-- An array reads back as changed. -/
theorem arrOf_modArr (s : State) (k : Nat) (f : ArrayState → ArrayState) : arrOf (modArr s k f) k = f (arrOf s k) := tget_tmod_same _ _ _ _
/-- A link reads back as changed. -/
theorem linkOf_modLink (s : State) (l : Nat) (f : LinkState → LinkState) : linkOf (modLink s l f) l = f (linkOf s l) := tget_tmod_same _ _ _ _
/-- A link group reads back as changed. -/
theorem groupOf_modGroup (s : State) (d : Nat) (f : GroupState → GroupState) : groupOf (modGroup s d f) d = f (groupOf s d) := tget_tmod_same _ _ _ _
/-- An engine reads back as changed. -/
theorem engineOf_modEngine (s : State) (k : Nat) (f : UpdEngine → UpdEngine) : engineOf (modEngine s k f) k = f (engineOf s k) := tget_tmod_same _ _ _ _

theorem sendEvents_frame (s : State) (l : List EventRec) :
    sendEvents s l = { s with eo := (sendEvents s l).eo, cnt := (sendEvents s l).cnt } := by
  cases l <;> rfl

theorem msiEvent_frame (s : State) : msiEvent s = { s with ev := (msiEvent s).ev, eo := (msiEvent s).eo } := by
  unfold msiEvent; extract_lets; split <;> rfl

theorem storeEvent_frame (s : State) (e : EventRec) :
    storeEvent s e = { s with ev := (storeEvent s e).ev, eo := (storeEvent s e).eo, cnt := (storeEvent s e).cnt } := by
  unfold storeEvent; extract_lets ring out lostNow lost s'
  rw [msiEvent_frame, sendEvents_frame]

/-- Raising an event changes the event ring, the messages of Eomet and the port counts, and nothing else. -/
theorem raise_frame (s : State) (code : Nat) (u : UnitRef) (level : Nat) (ps : List Nat) :
    raise s code u level ps = { s with ev := (raise s code u level ps).ev, eo := (raise s code u level ps).eo, cnt := (raise s code u level ps).cnt } := by
  unfold raise
  split
  · rw [storeEvent_frame]
  · rfl

@[simp] theorem raise_pending (s : State) (c : Nat) (u : UnitRef) (l : Nat) (ps : List Nat) : (raise s c u l ps).pending = s.pending := by rw [raise_frame]
@[simp] theorem raise_free (s : State) (c : Nat) (u : UnitRef) (l : Nat) (ps : List Nat) : (raise s c u l ps).free = s.free := by rw [raise_frame]
@[simp] theorem raise_id (s : State) (c : Nat) (u : UnitRef) (l : Nat) (ps : List Nat) : (raise s c u l ps).id = s.id := by rw [raise_frame]
@[simp] theorem raise_fr (s : State) (c : Nat) (u : UnitRef) (l : Nat) (ps : List Nat) : (raise s c u l ps).fr = s.fr := by rw [raise_frame]
@[simp] theorem raise_led (s : State) (c : Nat) (u : UnitRef) (l : Nat) (ps : List Nat) : (raise s c u l ps).led = s.led := by rw [raise_frame]
@[simp] theorem raise_tiles (s : State) (c : Nat) (u : UnitRef) (l : Nat) (ps : List Nat) : (raise s c u l ps).tiles = s.tiles := by rw [raise_frame]
@[simp] theorem raise_arrays (s : State) (c : Nat) (u : UnitRef) (l : Nat) (ps : List Nat) : (raise s c u l ps).arrays = s.arrays := by rw [raise_frame]
@[simp] theorem raise_cells (s : State) (c : Nat) (u : UnitRef) (l : Nat) (ps : List Nat) : (raise s c u l ps).cells = s.cells := by rw [raise_frame]
@[simp] theorem raise_ops (s : State) (c : Nat) (u : UnitRef) (l : Nat) (ps : List Nat) : (raise s c u l ps).ops = s.ops := by rw [raise_frame]
@[simp] theorem raise_mem (s : State) (c : Nat) (u : UnitRef) (l : Nat) (ps : List Nat) : (raise s c u l ps).mem = s.mem := by rw [raise_frame]
@[simp] theorem raise_upd (s : State) (c : Nat) (u : UnitRef) (l : Nat) (ps : List Nat) : (raise s c u l ps).upd = s.upd := by rw [raise_frame]
@[simp] theorem raise_num (s : State) (c : Nat) (u : UnitRef) (l : Nat) (ps : List Nat) : (raise s c u l ps).num = s.num := by rw [raise_frame]
@[simp] theorem raise_link (s : State) (c : Nat) (u : UnitRef) (l : Nat) (ps : List Nat) : (raise s c u l ps).link = s.link := by rw [raise_frame]
@[simp] theorem raise_plan (s : State) (c : Nat) (u : UnitRef) (l : Nat) (ps : List Nat) : (raise s c u l ps).plan = s.plan := by rw [raise_frame]
@[simp] theorem raise_lakes (s : State) (c : Nat) (u : UnitRef) (l : Nat) (ps : List Nat) : (raise s c u l ps).lakes = s.lakes := by rw [raise_frame]
@[simp] theorem raise_pow (s : State) (c : Nat) (u : UnitRef) (l : Nat) (ps : List Nat) : (raise s c u l ps).pow = s.pow := by rw [raise_frame]
@[simp] theorem raise_aom (s : State) (c : Nat) (u : UnitRef) (l : Nat) (ps : List Nat) : (raise s c u l ps).aom = s.aom := by rw [raise_frame]
@[simp] theorem raise_pin (s : State) (c : Nat) (u : UnitRef) (l : Nat) (ps : List Nat) : (raise s c u l ps).pin = s.pin := by rw [raise_frame]
@[simp] theorem raise_ctx (s : State) (c : Nat) (u : UnitRef) (l : Nat) (ps : List Nat) : (raise s c u l ps).ctx = s.ctx := by rw [raise_frame]
@[simp] theorem raise_hl (s : State) (c : Nat) (u : UnitRef) (l : Nat) (ps : List Nat) : (raise s c u l ps).hl = s.hl := by rw [raise_frame]

end Sys2Proof.Machine
end

