-- ==== Sys2Proof/Laws/Memory.lean ====
section
/-!
SUPPORT. Sys2Proof/Laws/Memory.lean: what the accesses to HBM and tile memory change, and what is read back after a write.
-/
namespace Sys2Proof.Machine
open Sys2Proof

theorem linesOf_whole {a : Nat} (h : a % 64 = 0) : linesOf a 64 = [a] := by
  unfold linesOf unitsOf
  have h1 : (a + 64 + 64 - 1) / 64 - a / 64 = 1 := by omega
  have h2 : 64 * (a / 64 + 0) = a := by omega
  rw [if_neg (by decide), h1]
  simp [List.range_succ]
  omega

theorem mergeUnit_whole {old bytes : List Byte} {a : Nat} (h : bytes.length = 64) : mergeUnit old 64 a a bytes = bytes := by
  unfold mergeUnit
  apply List.ext_getElem
  · simp [h]
  · intro i h1 h2
    simp only [List.getElem_map, List.getElem_range]
    simp at h1
    rw [if_pos ⟨by omega, by omega⟩]
    have : a + i - a = i := by omega
    rw [this, List.getD_eq_getElem _ _ h2]

/-- A write to HBM changes HBM and the counters of its traffic, and nothing else. -/
theorem writeHbm_changes (s : State) (m : WriteMode) (a : Nat) (b : List Byte) (p : Nat → Option (Nat × Nat)) :
    ChangesOnly { hbm := true, traffic := true } s (writeHbm s m a b p) := writeHbm_touch rfl rfl (ChangesOnly.refl s)

/-- A write to tile memory changes tile memory, and nothing else. -/
theorem writeTile_changes (s : State) (g : Option Nat) (t o : Nat) (b : List Byte) (p : Nat → Option (Nat × Nat)) :
    ChangesOnly { tileMem := true } s (writeTile s g t o b p) := writeTile_touch rfl (ChangesOnly.refl s)

/-! ### What is read back -/

/-- Every address of a range lies in one of the range's units. -/
theorem unitsOf_covers {u a n x : Nat} (hu : 0 < u) (h1 : a ≤ x) (h2 : x < a + n) : ∃ l ∈ unitsOf u a n, l ≤ x ∧ x < l + u := by
  refine ⟨u * (x / u), ?_, Nat.mul_div_le x u, Nat.lt_mul_div_succ x hu⟩
  unfold unitsOf
  rw [if_neg (by omega)]
  refine List.mem_map.mpr ⟨x / u - a / u, List.mem_range.mpr ?_, ?_⟩
  · have e : (a + n + u - 1) / u = (a + n - 1) / u + 1 := by
      rw [show a + n + u - 1 = (a + n - 1) + u by omega, Nat.add_div_right _ hu]
    have m1 : a / u ≤ x / u := Nat.div_le_div_right h1
    have m2 : x / u ≤ (a + n - 1) / u := Nat.div_le_div_right (by omega)
    omega
  · have m1 : a / u ≤ x / u := Nat.div_le_div_right h1
    rw [Nat.add_sub_cancel' m1]

/-- A byte after the merged unit at l has been written. -/
theorem tget_mergeUnit (m : Table Byte) (u l a : Nat) (bytes : List Byte) (x : Nat) :
    tget 0 (writeBytes m l (mergeUnit (readBytes m l u) u l a bytes)) x =
      if (l ≤ x ∧ x < l + u) ∧ a ≤ x ∧ x < a + bytes.length then bytes.getD (x - a) 0 else tget 0 m x := by
  have hl : (mergeUnit (readBytes m l u) u l a bytes).length = u := by simp [mergeUnit]
  by_cases hx : l ≤ x ∧ x < l + u
  · obtain ⟨k, rfl⟩ := Nat.exists_eq_add_of_le hx.1
    have hk : k < u := by omega
    rw [tget_writeBytes_inside (by omega : k < (mergeUnit (readBytes m l u) u l a bytes).length)]
    simp only [mergeUnit, List.getElem_map, List.getElem_range, hx, true_and]
    split
    · rfl
    · have : (readBytes m l u).getD k 0 = tget 0 m (l + k) := by
        rw [List.getD_eq_getElem _ _ (by simpa [readBytes] using hk)]
        simp [readBytes]
      exact this
  · rw [tget_writeBytes_other (by rw [hl]; omega), if_neg (fun h => hx h.1)]

theorem writeRow_byte (s : State) (g : Option Nat) (l a : Nat) (bytes : List Byte) (p : Option (Nat × Nat)) (x : Nat) :
    tget 0 (writeRow s g l a bytes p).mem.tile x =
      if (l ≤ x ∧ x < l + 32) ∧ a ≤ x ∧ x < a + bytes.length then bytes.getD (x - a) 0 else tget 0 s.mem.tile x := by
  have key : (writeRow s g l a bytes p).mem.tile = writeBytes s.mem.tile l (mergeUnit (readBytes s.mem.tile l 32) 32 l a bytes) := by
    unfold writeRow saveRow
    cases g <;> cases p <;> dsimp only <;> (repeat' split) <;> rfl
  rw [key, tget_mergeUnit]

/-- What a write to tile memory leaves in every byte: the written bytes in the range, and every other byte as it was. -/
theorem writeTile_byte (s : State) (g : Option Nat) (t off : Nat) (bytes : List Byte) (p : Nat → Option (Nat × Nat)) (x : Nat) :
    tget 0 (writeTile s g t off bytes p).mem.tile x =
      if tileKey t off ≤ x ∧ x < tileKey t off + bytes.length then bytes.getD (x - tileKey t off) 0 else tget 0 s.mem.tile x := by
  have fold : ∀ (ls : List Nat) (s : State),
      tget 0 (ls.foldl (fun s l => writeRow s g l (tileKey t off) bytes (p l)) s).mem.tile x =
        if (∃ l ∈ ls, l ≤ x ∧ x < l + 32) ∧ tileKey t off ≤ x ∧ x < tileKey t off + bytes.length
        then bytes.getD (x - tileKey t off) 0 else tget 0 s.mem.tile x := by
    intro ls
    induction ls with
    | nil => intro s; simp
    | cons l ls ih =>
      intro s
      rw [List.foldl_cons, ih, writeRow_byte]
      by_cases hr : tileKey t off ≤ x ∧ x < tileKey t off + bytes.length <;>
        by_cases h1 : ∃ l ∈ ls, l ≤ x ∧ x < l + 32 <;> by_cases h2 : l ≤ x ∧ x < l + 32 <;> simp [hr, h1, h2]
  unfold writeTile
  rw [fold]
  by_cases hr : tileKey t off ≤ x ∧ x < tileKey t off + bytes.length
  · rw [if_pos ⟨unitsOf_covers (by decide) hr.1 hr.2, hr⟩, if_pos hr]
  · rw [if_neg (fun h => hr h.2), if_neg hr]

/-- A read of tile memory after a write to the same place gives the bytes written. -/
theorem tileBytes_writeTile (s : State) (g : Option Nat) (t off : Nat) (bytes : List Byte) (p : Nat → Option (Nat × Nat)) :
    tileBytes (writeTile s g t off bytes p) t off bytes.length = bytes := by
  refine List.ext_getElem (by simp [tileBytes, readBytes]) (fun k h1 h2 => ?_)
  simp only [tileBytes, readBytes, List.getElem_map, List.getElem_range]
  rw [writeTile_byte, if_pos ⟨by omega, by omega⟩, Nat.add_sub_cancel_left, List.getD_eq_getElem _ _ h2]

theorem saveLine_hbm (s : State) (g l : Nat) : (saveLine s g l).mem.hbm = s.mem.hbm ∧ (saveLine s g l).mem.hbmPoison = s.mem.hbmPoison := by
  unfold saveLine modStack active
  dsimp only
  split <;> exact ⟨rfl, rfl⟩

theorem writeLine_clean (s : State) (m : WriteMode) (l a : Nat) (bytes : List Byte) (h : s.mem.hbmPoison = []) :
    (writeLine s m l a bytes none).mem.hbmPoison = [] ∧
    (writeLine s m l a bytes none).mem.hbm = writeBytes s.mem.hbm l (mergeUnit (readBytes s.mem.hbm l 64) 64 l a bytes) := by
  have key : ∀ u : State, u.mem.hbm = s.mem.hbm → u.mem.hbmPoison = [] →
      (if (hbmMark u l).isSome && !(covers 64 l a bytes.length) then u
        else putLine u l (mergeUnit (hbmBytes u l 64) 64 l a bytes) none).mem.hbmPoison = [] ∧
      (if (hbmMark u l).isSome && !(covers 64 l a bytes.length) then u
        else putLine u l (mergeUnit (hbmBytes u l 64) 64 l a bytes) none).mem.hbm =
        writeBytes s.mem.hbm l (mergeUnit (readBytes s.mem.hbm l 64) 64 l a bytes) := by
    intro u h1 h2
    have e : hbmMark u l = none := by unfold hbmMark; rw [h2]; rfl
    rw [e]
    simp only [Option.isSome_none, Bool.false_and, Bool.false_eq_true, if_false, putLine, setMark, hbmBytes, h1, h2]
    exact ⟨rfl, trivial⟩
  have read : ∀ u : State, ∀ k n, (stackRead u k n).mem = u.mem := fun _ _ _ => rfl
  have written : ∀ u : State, ∀ k n, (stackWritten u k n).mem = u.mem := fun _ _ _ => rfl
  have act : ∀ u : State, ∀ b k n, (active u b k n).mem = u.mem := fun _ _ _ _ => rfl
  have mode : ∀ (v : State), v.mem.hbm = s.mem.hbm → v.mem.hbmPoison = [] →
      ∀ c : Bool, (if c then stackWritten v (devStack l) 64
        else active (stackRead (stackWritten v (devStack l) 64) (devStack l) 64) (blockBase (devStack l)) 3 1).mem.hbm = s.mem.hbm ∧
      (if c then stackWritten v (devStack l) 64
        else active (stackRead (stackWritten v (devStack l) 64) (devStack l) 64) (blockBase (devStack l)) 3 1).mem.hbmPoison = [] := by
    intro v h1 h2 c
    cases c
    · simp only [Bool.false_eq_true, if_false, act, read, written]; exact ⟨h1, h2⟩
    · simp only [if_true, written]; exact ⟨h1, h2⟩
  cases m with
  | plain =>
    have k := mode s rfl h (covers 64 l a bytes.length)
    exact key _ k.1 k.2
  | journaled g =>
    have k := mode { saveLine s g l with mem.planWrote := l :: (saveLine s g l).mem.planWrote } (saveLine_hbm s g l).1
      ((saveLine_hbm s g l).2.trans h) (covers 64 l a bytes.length)
    exact key _ k.1 k.2

/-- What a write of unpoisoned data to unpoisoned HBM leaves in every byte. -/
theorem writeHbm_byte (s : State) (m : WriteMode) (a : Nat) (bytes : List Byte) (h : s.mem.hbmPoison = []) (x : Nat) :
    (writeHbm s m a bytes noPoison).mem.hbmPoison = [] ∧
    tget 0 (writeHbm s m a bytes noPoison).mem.hbm x =
      if a ≤ x ∧ x < a + bytes.length then bytes.getD (x - a) 0 else tget 0 s.mem.hbm x := by
  have fold : ∀ (ls : List Nat) (s : State), s.mem.hbmPoison = [] →
      (ls.foldl (fun s l => writeLine s m l a bytes none) s).mem.hbmPoison = [] ∧
      tget 0 (ls.foldl (fun s l => writeLine s m l a bytes none) s).mem.hbm x =
        if (∃ l ∈ ls, l ≤ x ∧ x < l + 64) ∧ a ≤ x ∧ x < a + bytes.length then bytes.getD (x - a) 0 else tget 0 s.mem.hbm x := by
    intro ls
    induction ls with
    | nil => intro s h; exact ⟨h, by simp⟩
    | cons l ls ih =>
      intro s h
      have c := writeLine_clean s m l a bytes h
      rw [List.foldl_cons]
      refine ⟨(ih _ c.1).1, ?_⟩
      rw [(ih _ c.1).2]
      have e : tget 0 (writeLine s m l a bytes none).mem.hbm x =
          if (l ≤ x ∧ x < l + 64) ∧ a ≤ x ∧ x < a + bytes.length then bytes.getD (x - a) 0 else tget 0 s.mem.hbm x := by
        rw [c.2, tget_mergeUnit]
      rw [e]
      by_cases hr : a ≤ x ∧ x < a + bytes.length <;>
        by_cases h1 : ∃ l ∈ ls, l ≤ x ∧ x < l + 64 <;> by_cases h2 : l ≤ x ∧ x < l + 64 <;> simp [hr, h1, h2]
  unfold writeHbm noPoison
  refine ⟨(fold _ s h).1, ?_⟩
  rw [(fold _ s h).2]
  by_cases hr : a ≤ x ∧ x < a + bytes.length
  · rw [if_pos ⟨unitsOf_covers (by decide) hr.1 hr.2, hr⟩, if_pos hr]
  · rw [if_neg (fun h => hr h.2), if_neg hr]

/-- A read of HBM after a write of unpoisoned data to unpoisoned memory gives the bytes written. -/
theorem hbmBytes_writeHbm (s : State) (m : WriteMode) (a : Nat) (bytes : List Byte) (h : s.mem.hbmPoison = []) :
    hbmBytes (writeHbm s m a bytes noPoison) a bytes.length = bytes := by
  refine List.ext_getElem (by simp [hbmBytes, readBytes]) (fun k h1 h2 => ?_)
  simp only [hbmBytes, readBytes, List.getElem_map, List.getElem_range]
  rw [(writeHbm_byte s m a bytes h _).2, if_pos ⟨by omega, by omega⟩, Nat.add_sub_cancel_left, List.getD_eq_getElem _ _ h2]

end Sys2Proof.Machine
end

