-- ==== Sys2Proof/Tests/Slice0.lean ====
section
/-!
SUPPORT. Sys2Proof/Tests/Slice0.lean: the well-formedness smoke test, the worked examples of the spec, a few commands on small
states, and for every statement with hypotheses a state and operands that meet them.
-/
set_option Elab.async false

open Sys2Proof Sys2Proof.Machine
namespace Sys2Proof.Tests

/-! ### Ill-formed commands are refused by WellFormed -/

theorem test_wf_cycle : ¬ WellFormed (.tickLoss 120012) ∧ WellFormed (.tickLoss 120011) := by decide
theorem test_wf_temperature : ¬ WellFormed (.frameTick ⟨[(0, 32768)], [], [], [], false⟩) ∧ WellFormed (.frameTick ⟨[(0, -32768)], [], [], [], false⟩) := by decide
theorem test_wf_hbm_line : ¬ WellFormed (.hbmWrite 0 0 [0] false 0) ∧ WellFormed (.hbmWrite 0 0 (List.replicate 64 0) false 0) := by decide
theorem test_wf_item : ¬ WellFormed (.itemEnqueue 0 0 0 0 [5] [1] false) ∧ WellFormed (.itemEnqueue 0 0 0 0 [5] [0] false) := by decide
theorem test_wf_item_length : ¬ WellFormed (.itemEnqueue 0 0 0 0 (List.replicate 1025 0) [] false) := by
  simp only [WellFormed, Instr.wf, List.length_replicate]; decide
theorem test_wf_flit : ¬ WellFormed (.flitReceive 0 0 false 0 [] .clean 0) := by decide
theorem test_wf_view : ¬ WellFormed (.controlFlit 0 0 ⟨0, false, true, [], [2], [], [], [], none⟩ .clean 0) := by decide
theorem test_wf_retries :
    ¬ WellFormed (.controlFlit 0 0 ⟨0, false, true, [], List.replicate 8 2, List.replicate 22 (0, 0, false), [], [], none⟩ .clean 0) := by decide
theorem test_wf_message (k : C0Kind) : ¬ WellFormed (.c0Message 0 ⟨0, 1, k, List.replicate 385 0⟩) := by
  simp only [WellFormed, Instr.wf, messageOk, List.length_replicate]; decide
theorem test_wf_prefetch : ¬ WellFormed (.prefetchCompletion 0 [] true 0) ∧ WellFormed (.prefetchCompletion 0 [] false 0) := by decide
theorem test_wf_input : ¬ WellFormed (.aomSample [(2048, 1)] 0) ∧ WellFormed (.aomSample [(2047, 1)] 0) := by decide
theorem test_wf_register : ¬ WellFormed (.registerWrite 0 (List.replicate 257 0)) := by
  simp only [WellFormed, Instr.wf, List.length_replicate]; decide
theorem test_wf_datagram : ¬ WellFormed (.mgmtDatagram 0 0 (List.replicate 1433 0)) := by
  simp only [WellFormed, Instr.wf, List.length_replicate]; decide
theorem test_wf_peer : ¬ WellFormed (.peerRequest 0 (List.replicate 32769 0)) := by
  simp only [WellFormed, Instr.wf, List.length_replicate]; decide
theorem test_wf_event : ¬ WellFormed (.eventRaise 0x0101 ⟨6, 0⟩ 0 [1, 2, 3, 4, 5] none) ∧ ¬ WellFormed (.eventRaise 0x0101 ⟨2, 256⟩ 0 [] none) := by decide
theorem test_wf_settings : ¬ WellFormed (.settingGet ⟨.host 0, 0, 0⟩ []) ∧ WellFormed (.settingGet ⟨.host 0, 0, 0⟩ [0x00060101]) := by decide
theorem test_wf_stage : ¬ WellFormed (.txnStage ⟨.host 0, 0, 0⟩ 1 []) := by decide
theorem test_wf_owner : ¬ WellFormed (.ownerKeySet ⟨.host 0, 0, 0⟩ []) := by decide
theorem test_wf_selftest : ¬ WellFormed (.selftestTile [⟨7, 0⟩] []) := by decide
theorem test_wf_counters : ¬ WellFormed (.counterConfig ⟨.host 0, 0, 0⟩ 0 0 0 [1]) ∧ WellFormed (.counterConfig ⟨.host 0, 0, 0⟩ 0 0 0 [1, 2, 3, 4]) := by decide
theorem test_wf_echo : ¬ WellFormed (.icmpEchoRequest 0 (List.replicate 1473 0)) := by
  simp only [WellFormed, Instr.wf, List.length_replicate]; decide

/-! ### Worked examples of the spec -/

/-- R63: the digits of 7 and −8 in W4, and of 127, −128 and 45 in W8, copies included. -/
theorem test_digits : canonDigits 2 7 = [2, 2, -1] ∧ canonDigits 2 (-8) = [-2, -2, 0] ∧ canonDigits 3 127 = [2, 2, 2, 0, 0, 0, -1] ∧
    canonDigits 3 (-128) = [-2, -2, -2, 0, 0, 0, 0] ∧ canonDigits 3 45 = [1, 1, 1, -1, -1, -1, 1] := by decide
/-- R57: the four examples with s = 1/32. -/
theorem test_quantise : quantElem (1 / 32) (.fin (11 / 5)) = .byte 70 ∧ quantElem (1 / 32) (.fin (-103 / 100)) = .byte (-33) ∧
    quantElem (1 / 32) (.fin (5 / 64)) = .byte 2 ∧ quantElem (1 / 32) (.fin (21 / 5)) = .outlier 134 false := by decide +kernel
/-- R59: the phases of 0x46 and 0xDF. -/
theorem test_phases : laneHigh 70 = 4 ∧ laneLow 70 = 6 ∧ laneHigh (-33) = -3 ∧ laneLow (-33) = 15 := by decide
/-- R86: the codes of the worked MVM, and the upset of the worked example of R121. -/
theorem test_phase_values : phaseValue 45 257 16589 3 = 11 ∧ phaseValue 45 257 16302 (-2) = 11 ∧ phaseValue 45 258 16302 (-2) = 23 ∧
    phaseValue 45 256 16451 1 = 0 ∧ phaseValue 45 253 16451 1 = -34 ∧ phaseValue 45 289 16589 3 = 376 := by decide +kernel
/-- R64: the recombination of the worked MVM. -/
theorem test_recombine : recombine 2 [187, 199, -34] = 738 := by decide
/-- R90: the conversion of the worked MVM. -/
theorem test_conversion : toF32 .odd (.fin (470 / 2048)) = 0x3E6B0000 ∧ toBf16 .nearestEven (.fin (470 / 2048)) = 0x3E6B := by decide +kernel
/-- R68: the worked dot product, before and after its conversion. -/
def dotExample : List FVal := [0x3F80, 0x3D80, 0x3800, 0x3080].map ofBf16
theorem test_dot : toF32 .odd (dotF32 dotExample dotExample .zero) = 0x3F808001 ∧ toBf16 .nearestEven (dotF32 dotExample dotExample .zero) = 0x3F81 := by
  decide +kernel
/-- R77: the same product in Heritage mode. -/
theorem test_heritage : toF32 .odd (dotHeritage dotExample dotExample .zero) = 0x3F808000 ∧
    toBf16 .nearestEven (dotHeritage dotExample dotExample .zero) = 0x3F80 := by decide +kernel
/-- R153: the weight over five versions, with s = 2⁻⁶ and h = 4. -/
theorem test_hysteresis : quantWeight (.fin (-5 / 128)) 0x3C800000 (-2) 2 4 false = -2 ∧ quantWeight (.fin (-11 / 256)) 0x3C800000 (-2) 2 4 false = -2 ∧
    quantWeight (.fin (-3 / 64)) 0x3C800000 (-2) 2 4 false = -3 ∧ quantWeight (.fin (-11 / 256)) 0x3C800000 (-3) 2 4 false = -3 := by decide +kernel
/-- R492: filter 1 is LD 512; GT 0; RUN 3, with c0 = 105.0 and action shed. -/
theorem test_filter_1 : ftCount (tget 0 defaultFilters 1) = 3 ∧ ftAction (tget 0 defaultFilters 1) = 3 ∧
    ftConst (tget 0 defaultFilters 1) 0 = toF32 .nearestEven (.fin 105) ∧
    (List.range 3).map (ftInstr (tget 0 defaultFilters 1)) = [(1, 512), (4, 0), (7, 3)] := by decide +kernel

/-! ### Commands on small states -/

/-- The fields of the state a command answers. -/
def after {α : Type} (c : Instr) (s : State) (f : State → α) : Option α := match exec c s with
  | .next t => some (f t)
  | _ => none
/-- R40: STATUS_SEQ rises by two at a tick; R30: the counter by one. -/
theorem test_tick : after (.frameTick ⟨[], [], [], [], false⟩) State.reset (fun t => (t.fr.page.seq, now t)) = some (2, 1) := by decide +kernel
/-- R276: a stack of 24 GiB has no codeword at its end. -/
theorem test_unmapped : (match exec (.hbmRead 0 (BitVec.ofNat 36 (2 ^ 36 - 64)) [] 0) State.reset with
    | .fault (.unmapped _) => true
    | _ => false) = true := by decide +kernel
/-- R537: VOUT_MODE and PMBUS_REVISION. -/
theorem test_smbus : after .voutMode State.reset (fun t => t.pin.reply) = some (some [0x14]) ∧
    after .pmbusRevision State.reset (fun t => t.pin.reply) = some (some [0x33]) := by decide
/-- R529: the loss of PG_AON takes every enable down, and raises nothing. -/
theorem test_pg_aon : after .pgAonLoss { State.reset with pin.enables := [.io], pin.goods := [.io] } (fun t => (t.pin.enables, t.pin.goods, t.ev.ring.length)) =
    some ([], [], 0) := by decide
/-- R445: a droop takes the limiter of its tile to level 8. -/
theorem test_droop : after (.droop 5) State.reset (fun t => ((tileOf t 5).droop, (tileOf t 6).droop)) = some (8, 0) := by decide
/-- A word spells no command (no row of the table has bits). -/
theorem test_words (nbits w : Nat) : decodeTableWord nbits w = none ∧ State.reset.withFetchWord nbits w = State.reset := ⟨rfl, rfl⟩

/-! ### Witnesses: states and operands that meet the hypotheses of the statements -/

/-- A descriptor of a class with package index 7, of tile 0 and array 0, with its operand words and its last word. -/
def descOf4 (cls d4 d5 d6 d7 : DWord) : Desc := { d0 := cls + 7 * 2 ^ 32, d1 := 0, d2 := 0, d3 := 0, d4 := d4, d5 := d5, d6 := d6, d7 := d7 }
/-- A state in which a plan frame runs with that descriptor in its template and in flight; the package holds rank 0. -/
def running (d : Desc) : State :=
  { State.reset with
    plan.loaded := some { PlanImage.empty with
      ranks := [0], blocks := [⟨[⟨[], [d]⟩], [], [], [], [], []⟩] },
    plan.rank := some 0,
    fr.running := some { newRun 1 0 0 0 0 0 0 0 with inflight := [{ op := 7, cycle := 0, vectors := 0, checks := 0 }] } }
/-- A run of a vector in which no row is driven. -/
def quietRun (rerun : Bool) : MvmRun :=
  { gen := 0, op := 7, vec := 0, tile := 0, array := 0, cycle := 0, lanes := [], split := false, high := false, rerun := rerun, draw := 0 }

/-- A host request. -/
def hostReq : Req := ⟨.host 3, 7, 0⟩
/-- A state in which Eomet serves requests, with a plan that names a context table. -/
def served : State :=
  { State.reset with pin.stage := 6, plan.loaded := some { PlanImage.empty with regions := [3 * 2 ^ 8] } }
theorem witness_stepIdles : State.reset.pending = [] := rfl

theorem witness_queue : step { State.reset with pending := [.identity ⟨.host 0, 0, 0⟩, .sysRstNRise] } ≠ .refused (.notModelled "x") := by
  intro h; cases h

theorem witness_inv : Inv State.reset :=
  ⟨rfl, rfl, rfl, rfl, Nat.zero_le _, Nat.le_refl _, Nat.zero_le _, Nat.zero_le _, Nat.zero_le _⟩

theorem witness_leaf : Inv State.reset ∧ exec .pmbusRevision State.reset ≠ .fault (.unmapped 0) :=
  ⟨⟨rfl, rfl, rfl, rfl, Nat.zero_le _, Nat.le_refl _, Nat.zero_le _, Nat.zero_le _, Nat.zero_le _⟩, by intro h; cases h⟩

theorem witness_otp : ∃ t, exec .voutMode { State.reset with pin.otpHot := true } = .next t := ⟨_, rfl⟩

theorem witness_counter : ∃ t, exec .commitPoint State.reset = .next t := ⟨_, rfl⟩

theorem witness_committed : (∃ t, exec .updateScan State.reset = .next t) ∧ ∃ t, exec .planStart State.reset = .next t := ⟨⟨_, rfl⟩, ⟨_, rfl⟩⟩

theorem witness_versions : ∃ t, exec .commitPoint State.reset = .next t := ⟨_, rfl⟩

theorem witness_elements : ∃ t, exec .programmingSpanStart State.reset = .next t := ⟨_, rfl⟩

theorem witness_keys : ∃ t, exec .powerOn State.reset = .next t := ⟨_, rfl⟩

theorem witness_rings : ∃ t, exec (.clearFaults true) State.reset = .next t := ⟨_, rfl⟩

theorem witness_frame : ∃ t, exec .statusWord State.reset = .next t := ⟨_, rfl⟩

theorem witness_tick : State.reset.pin.pgAon = true ∧ { State.reset with pin.pgAon := false }.pin.pgAon = false := ⟨rfl, rfl⟩

theorem witness_commits : ∃ (s : State) (p : PlanImage) (f : PlanFrame),
    s.plan.loaded = some p ∧ s.fr.closed = some f ∧ f.failures = [] ∧ unsettled s f.gen = [] :=
  ⟨{ State.reset with plan.loaded := some PlanImage.empty, fr.closed := some (newRun 1 0 0 0 0 0 0 0) }, _, _, rfl, rfl, rfl, rfl⟩
theorem witness_commit_fails : ∃ (s : State) (f : PlanFrame), s.fr.closed = some f ∧ f.failures ≠ [] :=
  ⟨{ State.reset with fr.closed := some { newRun 1 0 0 0 0 0 0 0 with failures := [⟨0x0205, unitPackage, 0⟩] } }, _, rfl, by decide⟩
theorem witness_commit_unsettled : ∃ (s : State) (f : PlanFrame), s.fr.closed = some f ∧ unsettled s f.gen ≠ [] :=
  ⟨{ State.reset with
      fr.closed := some (newRun 1 0 0 0 0 0 0 0),
      tiles := [(3, { TileState.fresh with queue := [⟨1, 0, 0, 3, 0, [], 0, 0, 0, 0, [], [], false, false, 0⟩] })] }, _, rfl, by decide⟩

theorem witness_tickLoss : ∃ s : State, s.plan.rank = some 5 ∧ s.fr.running = some (newRun 1 0 0 0 0 0 0 0) :=
  ⟨{ State.reset with plan.rank := some 5, fr.running := some (newRun 1 0 0 0 0 0 0 0) }, rfl, rfl⟩
theorem witness_tickLoss_free : State.reset.plan.rank = none := rfl

theorem witness_ledger : ∃ (s : State) (r : RecordData) (p : PlanImage) (ring : Nat × Nat),
    s.led.ready = some r ∧ s.plan.loaded = some p ∧ ledgerRing p = some ring := by
  obtain ⟨ring, h⟩ := Option.isSome_iff_exists.mp (show (ledgerRing { PlanImage.empty with regions := [8192 * 2 ^ 64 + 256] }).isSome = true by decide +kernel)
  exact ⟨{ State.reset with
      plan.loaded := some { PlanImage.empty with regions := [8192 * 2 ^ 64 + 256] },
      led.ready := some ⟨5, 0, 0, 7, false, none, 0, [], 0, 0, false, false, [], false, [], [], none⟩ },
      ⟨5, 0, 0, 7, false, none, 0, [], 0, 0, false, false, [], false, [], [], none⟩, { PlanImage.empty with regions := [8192 * 2 ^ 64 + 256] }, ring, rfl, rfl, h⟩

theorem witness_issue : ∃ (s : State) (f : PlanFrame) (t : Template) (d : Desc), s.fr.running = some f ∧ runningDesc s 7 = some (t, d) ∧
    opReady (atCycle s 0) f t d = true ∧ lowerReady (atCycle s 0) f t d = false ∧ limiterLevel s (dsTile d) < 16 :=
  ⟨{ running (descOf4 1 0 0 0 0) with fr.running := some (newRun 1 0 0 0 0 0 0 0) }, _, _, _, rfl, rfl, by decide +kernel⟩
theorem witness_noIssue : ∃ (s : State) (f : PlanFrame) (t : Template) (d : Desc), s.fr.running = some f ∧ runningDesc s 7 = some (t, d) ∧
    16 ≤ limiterLevel s (dsTile d) :=
  ⟨{ running (descOf4 1 0 0 0 0) with pow.capLevel := 16 }, _, _, _, rfl, rfl, by decide +kernel⟩

theorem witness_mvm_bypass : ∃ (s : State) (f : PlanFrame) (t : Template) (d : Desc) (x : InFlight),
    s.fr.running = some f ∧ runningDesc s 7 = some (t, d) ∧ f.inflight.find? (fun x => x.op == 7) = some x ∧
    dsClass d = 1 ∧ dsReference d = false ∧ x.vectors = 0 ∧ 0 < mvVectors d ∧ limiterLevel s (dsTile d) < 16 ∧
    (arrOf s (16 * dsTile d + dsArray d)).quarantined = false ∧ (f.fallback.contains (mvLayer d) && !dsSplit d) = false ∧
    (recordAt s (placeOf s t f d d.d5) 0).1.entries = [] ∧ s.mem.hbmPoison = [] ∧ s.mem.tilePoison = [] ∧
    ((placeBytes s ((placeOf s t f d d.d4).plus (512 * 0)) 512).map BitVec.toInt).all (fun y => y == 0) = true := by
  refine ⟨running (descOf4 1 0 0 0 (1 * 2 ^ 51)), _, _, _, _, rfl, rfl, rfl, ?_⟩
  decide +kernel
theorem witness_mvm_runs : ∃ (s : State) (f : PlanFrame) (t : Template) (d : Desc) (x : InFlight),
    s.fr.running = some f ∧ runningDesc s 7 = some (t, d) ∧ f.inflight.find? (fun x => x.op == 7) = some x ∧
    dsClass d = 1 ∧ dsReference d = false ∧ x.vectors = 0 ∧ 0 < mvVectors d ∧ limiterLevel s (dsTile d) < 16 ∧
    (arrOf s (16 * dsTile d + dsArray d)).quarantined = false ∧ (f.fallback.contains (mvLayer d) && !dsSplit d) = false ∧
    (recordAt s (placeOf s t f d d.d5) 0).1.entries = [] ∧ s.mem.hbmPoison = [] ∧ s.mem.tilePoison = [] ∧
    ((placeBytes s ((placeOf s t f d d.d4).plus (512 * 0)) 512).map BitVec.toInt).all (fun y => y == 0) = false := by
  refine ⟨{ running (descOf4 1 (1 * 2 ^ 44) 0 0 (1 * 2 ^ 51)) with mem.tile := [(0, 5)] }, _, _, _, _, rfl, rfl, rfl, ?_⟩
  decide +kernel

theorem witness_mvmResult : ∃ (s : State) (m : MvmRun), nextRun s 0 0 false = some m ∧ m.split = false ∧
    (runPhases s m false).all (fun v => !v.2) = true ∧
    (loupeReport (addDrift s m) (16 * m.tile + m.array) m.lanes ((runPhases s m false).map Prod.fst) false false).causes = [] ∧
    (arrOf s (16 * m.tile + m.array)).alwaysPrism = false := by
  refine ⟨{ State.reset with ops.mvms := [quietRun false] }, quietRun false, rfl, rfl, ?_, ?_, rfl⟩ <;> decide +kernel

theorem witness_rerun : ∃ (s : State) (m : MvmRun), nextRun s 0 0 true = some m ∧
    (loupeReport s (16 * m.tile + m.array) m.lanes ((runPhases s m true).map Prod.fst) true ((runPhases s m true).any Prod.snd)).causes = [] ∧
    (arrOf s (16 * m.tile + m.array)).alwaysPrism = false := by
  refine ⟨{ State.reset with ops.mvms := [quietRun true] }, quietRun true, rfl, ?_, rfl⟩; decide +kernel
theorem witness_conversion : ∃ (s : State) (o : GroupOut),
    s.ops.outs.find? (fun o => sameOut o (runningGen s) 3 0 && o.home == 2) = some o ∧
    o.arrived = o.contributors ∧ o.reported = o.contributors ∧ o.converted = false :=
  ⟨{ State.reset with ops.outs := [⟨0, 3, 0, 2, 64, 1, 1, 1, [5, -5], 0x3F800000, [0x3F800000, 0x3F800000], 1, 2, [], false, false⟩] }, _, rfl, rfl, rfl, rfl⟩

theorem witness_prism : ∃ (s : State) (q : Suspect) (rest : List Suspect), (tileOf s 3).queue = q :: rest ∧ q.tile = 3 ∧
    outsideBound s q (List.zipWith (fun y x => y - x)
      (recombineAll (arrFmt s (16 * q.tile + q.array)) (q.phases.map (fun p => 16 * p.1 + p.2))) (exactY s (16 * q.tile + q.array) q.lanes)) = [] :=
  ⟨{ State.reset with tiles := [(3, { TileState.fresh with queue := [⟨1, 0, 0, 3, 0, [1], 0, 0, 0, 0, [], [], false, false, 0⟩] })] }, _, [], rfl, rfl,
    by decide +kernel⟩
theorem witness_readback : ∃ s : State, (arrOf s (arrKey 3 2)).regen = some 5 :=
  ⟨{ State.reset with arrays := [(50, { ArrayState.fresh with regen := some 5 })] }, rfl⟩

theorem witness_failed : ∃ (s : State) (f : PlanFrame), s.fr.running = some f ∧ s.fr.late = false ∧ (tileOf s 3).queue.length < 8 ∧
    inFlight f 7 = true :=
  ⟨running (descOf4 1 0 0 0 0), _, rfl, rfl, by decide, rfl⟩
theorem witness_overflow : ∃ (s : State) (f : PlanFrame), s.fr.running = some f ∧ s.fr.late = false ∧ 8 ≤ (tileOf s 3).queue.length ∧
    s.plan.rank = some 0 :=
  ⟨{ running (descOf4 1 0 0 0 0) with tiles := [(3, { TileState.fresh with
      queue := List.replicate 8 ⟨1, 0, 0, 3, 0, [1], 0, 0, 0, 0, [], [], false, false, 0⟩ })] }, _, rfl, rfl, by decide, rfl⟩

theorem witness_engines : ∀ c ∈ [2, 3, 4, 5, 6, 7, 8, 9, 10], ∃ (s : State) (f : PlanFrame) (t : Template) (d : Desc),
    s.fr.running = some f ∧ runningDesc s 7 = some (t, d) ∧ inFlight f 7 = true ∧ dsClass d = c ∧ s.mem.hbmPoison = [] ∧
    s.mem.tilePoison = [] := by
  intro c hc
  refine ⟨running (descOf4 (BitVec.ofNat 64 c) 0 0 0 0), _, ⟨[], [descOf4 (BitVec.ofNat 64 c) 0 0 0 0]⟩, descOf4 (BitVec.ofNat 64 c) 0 0 0 0, rfl, ?_, ?_, ?_, rfl, rfl⟩ <;>
    (simp only [List.mem_cons, List.not_mem_nil, or_false] at hc; rcases hc with rfl | rfl | rfl | rfl | rfl | rfl | rfl | rfl | rfl <;> decide +kernel)

theorem witness_results : ∀ c ∈ [3, 4, 6, 9], ∃ (s : State) (f : PlanFrame) (t : Template) (d : Desc),
    s.fr.running = some f ∧ runningDesc s 7 = some (t, d) ∧ inFlight f 7 = true ∧ dsClass d = c ∧ s.mem.hbmPoison = [] ∧
    s.mem.tilePoison = [] ∧ placeOf s t f d d.d5 = .tile 0 64 ∧ placeOf s t f d d.d6 = .tile 0 64 ∧
    oprSpace d.d4 ≠ 4 ∧ oprSpace d.d5 ≠ 4 ∧ dmTranspose d = false := by
  intro c hc
  refine ⟨running (descOf4 (BitVec.ofNat 64 c) (2 ^ 44) (2 ^ 44 + 64) (2 ^ 44 + 64) 0), _, ⟨[], [descOf4 (BitVec.ofNat 64 c) (2 ^ 44) (2 ^ 44 + 64) (2 ^ 44 + 64) 0]⟩,
    descOf4 (BitVec.ofNat 64 c) (2 ^ 44) (2 ^ 44 + 64) (2 ^ 44 + 64) 0, rfl, ?_⟩
  simp only [List.mem_cons, List.not_mem_nil, or_false] at hc; rcases hc with rfl | rfl | rfl | rfl <;> decide +kernel

theorem witness_slot : ∃ (s : State) (job : RowJob), (arrOf s (arrKey 1 2)).job = some job ∧ job.reading = false ∧
    (arrOf s (arrKey 1 2)).quarantined = false ∧ s.pow.shed = false ∧ job.elements ≠ [] :=
  ⟨{ State.reset with arrays := [(18, { ArrayState.fresh with
      job := some (RowJob.mk 4 false false 1 [] [ElementWork.mk 3 0 2 0 0 0 true false] false 20 9000 false 0) })] }, _, rfl, rfl, rfl, rfl, by decide⟩
theorem witness_slot_off : ∃ s : State, (arrOf s (arrKey 1 2)).quarantined = true :=
  ⟨{ State.reset with arrays := [(18, { ArrayState.fresh with quarantined := true })] }, rfl⟩

theorem witness_span : ∃ (s : State) (v : Nat), s.plan.spanVersion = some v ∧ s.plan.spanScan ≠ 0 ∧ mapArrays s = [0] := by
  refine ⟨{ State.reset with
    plan.spanVersion := some 3, plan.spanScan := 1, plan.rank := some 0,
    plan.loaded := some { PlanImage.empty with ranks := [0], blocks := [⟨[], [], [0], [], [], []⟩] } }, 3, rfl, by decide, ?_⟩
  decide

theorem witness_test : ∃ s : State, testTile s = some 0 ∧ testRuns s 0 = true ∧ (tileOf s 0).repeats = [] ∧ visitFrame s ≤ 1007 :=
  ⟨{ State.reset with fr.run := .running }, rfl, rfl, rfl, by decide⟩
theorem witness_test_repeat : ∃ (s : State) (x : TestRepeat), testTile s = some 0 ∧ testRuns s 0 = true ∧ (tileOf s 0).repeats = [x] :=
  ⟨{ State.reset with fr.run := .running, tiles := [(0, { TileState.fresh with repeats := [⟨unitTile 0, 3, 4⟩] })] }, _, rfl, rfl, rfl⟩
theorem witness_test_skip : ∃ s : State, testTile s = some 0 ∧ testRuns s 0 = false :=
  ⟨{ State.reset with fr.run := .running, fr.late := true, fr.running := some (newRun 1 0 0 0 0 0 0 0) }, rfl, rfl⟩

theorem witness_engine : ∃ (s : State) (p : PlanImage) (w : EngineWork), s.plan.loaded = some p ∧ (engineOf s (engineNo 2 3)).work = some w ∧
    chunkDone p w = false ∧ w.pc + 1 < (if w.inBody then (passOf (programOf p (workGroup p w)) w.pass).2.length
                else (passOf (programOf p (workGroup p w)) w.pass).1.length) := by
  refine ⟨{ State.reset with
      plan.loaded := some { PlanImage.empty with update := { PlanImage.empty.update with programs := [⟨[], [0, 0, 0], [], [], []⟩] } },
      upd.engines := [(19, { UpdEngine.idle with work := some ⟨0, 1, false, 0, 3, 0⟩ })] }, _, _, rfl, rfl, ?_⟩
  decide +kernel

theorem witness_body : ∃ (s : State) (p : PlanImage) (w : EngineWork) (e : BitVec 512), s.plan.loaded = some p ∧
    (engineOf s (engineNo 2 3)).work = some w ∧ chunkDone p w = false ∧ w.inBody = true ∧
    w.pc + 1 < (passOf (programOf p (workGroup p w)) w.pass).2.length ∧ s.mem.hbmPoison = [] ∧ workGroup p w = e ∧ w.pass = 1 ∧
    streamSize e 0 ≠ 0 ∧ (workElements p w).length = 64 ∧ (p.regions[gpBankRegion e]?).isSome = true ∧
    maskBit s p e 0 0 = true ∧ (streamAddr p e 0 0 ((workElements p w).headD 0)).isSome = true :=
  ⟨{ State.reset with
      plan.loaded := some { PlanImage.empty with regions := [0], update := { PlanImage.empty.update with
        groups := [1000000 * 2 ^ 64], programs := [⟨[], [], [0, 0, 0], [], []⟩] } },
      upd.engines := [(19, { UpdEngine.idle with work := some ⟨0, 1, true, 0, 3, 0⟩ })] }, _, ⟨0, 1, true, 0, 3, 0⟩, 1000000 * 2 ^ 64,
    rfl, rfl, by decide +kernel, rfl, by decide +kernel, rfl, by decide +kernel, rfl, by decide +kernel, by decide +kernel, by decide +kernel,
    by decide +kernel, by decide +kernel⟩

theorem witness_scan : ∃ (s : State) (p : PlanImage), s.plan.loaded = some p ∧ s.mem.hbmPoison = [] ∧ s.upd.scanned = false ∧
    { s with upd.scanned := true }.upd.scanned = true :=
  ⟨{ State.reset with plan.loaded := some PlanImage.empty }, _, rfl, rfl, rfl, rfl⟩
theorem witness_redo : ∃ (s : State) (p : PlanImage), s.plan.loaded = some p ∧ s.mem.hbmPoison = [] ∧ s.upd.abandoned = true ∧ s.upd.redo = true :=
  ⟨{ State.reset with plan.loaded := some PlanImage.empty, upd.abandoned := true, upd.redo := true }, _, rfl, rfl, rfl, rfl⟩
theorem witness_chunk : ∃ (s : State) (p : PlanImage) (w : EngineWork), s.plan.loaded = some p ∧ s.mem.hbmPoison = [] ∧
    (engineOf s (engineNo 2 3)).work = some w ∧ chunkDone p w = true ∧ w.pass = lastPass (programOf p (workGroup p w)) :=
  ⟨{ State.reset with
      plan.loaded := some { PlanImage.empty with update := { PlanImage.empty.update with programs := [⟨[], [], [], [], []⟩] } },
      upd.engines := [(19, { UpdEngine.idle with work := some ⟨0, 1, true, 0, 3, 0⟩ })] }, _, ⟨0, 1, true, 0, 3, 0⟩, rfl, rfl, rfl, by decide +kernel, by decide +kernel⟩

theorem witness_hbmRead : hbmMapped State.reset (2 * 2 ^ 36 + (5 : BitVec 36).toNat) = true ∧ hbmMark State.reset (2 * 2 ^ 36 + (5 : BitVec 36).toNat) = none ∧
    hbmMapped State.reset (2 * 2 ^ 36 + (0xFFFFFFFFF : BitVec 36).toNat) = false := by decide +kernel
theorem witness_uncorrectable : decodeSyndrome (errorSyndrome [(0, 1), (10, 2), (20, 3), (25, 4), (30, 5)]) = .uncorrectable := by decide +kernel

theorem witness_hbmWrite : (linesOf (2 * 2 ^ 36 + (64 : BitVec 36).toNat) (List.replicate 64 (7 : Byte)).length).find? (fun l => !(hbmMapped State.reset l)) = none ∧
    (2 * 2 ^ 36 + (64 : BitVec 36).toNat) % 64 = 0 ∧ State.reset.mem.hbmPoison = [] := by decide +kernel
theorem witness_hbmWrite_frame : ∃ (s : State) (f : PlanFrame), s.fr.running = some f ∧ unjournaledAt s (2 * 2 ^ 36 + 64) = false ∧
    s.mem.hbmJournal.any (fun x => x.gen == f.gen && x.addr == 2 * 2 ^ 36 + 64) = false ∧
    (linesOf (2 * 2 ^ 36 + 64) 64).find? (fun l => !(hbmMapped s l)) = none :=
  ⟨running (descOf4 1 0 0 0 0), _, rfl, by decide, rfl, by decide +kernel⟩
theorem witness_hbmWrite_unmapped : ((linesOf (2 * 2 ^ 36 + (0xFFFFFFFC0 : BitVec 36).toNat) (List.replicate 64 (7 : Byte)).length).find? (fun l => !(hbmMapped State.reset l))).isSome = true := by decide +kernel

theorem witness_enqueue : holdsCredits State.reset 3 1 0 (itemCells [5, 6]) = true := by decide +kernel
theorem witness_enqueue_waits : holdsCredits State.reset 3 0 5 (itemCells (List.replicate 17 5)) = false := by decide +kernel
theorem witness_dequeue : ∃ (s : State) (it : LakeItem), headItem (lakeOf s 3) 1 = some it ∧ outputReady (lakeOf s 3) 1 = true :=
  ⟨putItem State.reset 3 1 2 0 [5, 6] [] false, ⟨1, 2, [0], 0, 0⟩, by decide +kernel, by decide +kernel⟩
theorem witness_dequeue_empty : headItem (lakeOf State.reset 3) 1 = none := rfl
theorem witness_borrow : canBorrow State.reset 3 1 = true := by decide +kernel
theorem witness_borrow_waits : ∃ s : State, canBorrow s 3 1 = false :=
  ⟨{ State.reset with lakes := [(3, { LakeState.fresh with lent := [(1, 1024)] })] }, by decide +kernel⟩

theorem witness_flood : State.reset.link.seen.contains (SyncKind.hold, 3, 9) = false ∧ targetPassed State.reset (syncEvent .hold 3 9 0) = false ∧
    (({ State.reset with link.seen := [(.hold, 3, 9)] } : State).link.seen.contains (SyncKind.hold, 3, 9) = true) := by decide

theorem witness_echoReply : ∃ s : State, (7 : Half).toNat ∈ (linkOf s 3).echoes :=
  ⟨{ State.reset with link.links := [(3, { LinkState.fresh with echoes := [7] })] }, by decide⟩
theorem witness_syncTick : ∃ s : State, s.link.parent = some (3 : LinkId).val :=
  ⟨{ State.reset with link.parent := some 3 }, rfl⟩
theorem witness_aligned : ∃ s : State, s.plan.stage = .preparing ∧ 16 ≤ s.link.alignedCount ∧ s.link.aligned = false :=
  ⟨{ State.reset with plan.stage := .preparing, link.alignedCount := 16 }, rfl, Nat.le_refl _, rfl⟩
theorem witness_c0 : ∃ s : State, s.plan.rank = some (5 : Rank).val := ⟨{ State.reset with plan.rank := some 5 }, rfl⟩

/-- A slot entry of kind 1 with one flit of 64 bytes from tile 0, bound for offset 64 of tile 0. -/
def slotEntry : BitVec 256 := 1 + 64 * 2 ^ 64 + 2 ^ 44 * 2 ^ 96 + (2 ^ 44 + 64) * 2 ^ 160
/-- A package of a torus of two in X whose plan sends that entry both ways, with its first frame running. -/
def linked : State :=
  { State.reset with
    plan.loaded := some { PlanImage.empty with
      header := [0, 0, 0, 2 * 2 ^ 16 + 2 ^ 21 + 2 ^ 26],
      ranks := [0, 1 + 2 ^ 16], blocks := [⟨[⟨[], []⟩], [], [], [], [], [[slotEntry], [slotEntry]]⟩],
      sequence := [2 ^ 32] },
    plan.rank := some 0,
    fr.running := some (newRun 1 0 0 0 0 0 0 0),
    link.links := [(0, { LinkState.fresh with width := 2 })] }
theorem witness_receive : ∃ (s : State) (list : List (BitVec 256)) (tp : Template) (e : BitVec 256),
    slotPos s = some 0 ∧ rxListAt s (linkDir 0) 0 = some (list, tp, 0) ∧
    nextFlit list (groupOf s (linkDir 0)).rxEntry (groupOf s (linkDir 0)).rxFlit 5 true = some (0, 0, e) ∧
    creditFor s 0 = true ∧ (slotPlace s (slKind e) false tp 0 (slDest e)).plus (640 * 0) = .tile 0 64 ∧
    min 640 (slBytes e - 640 * 0) ≤ (List.replicate 64 (7 : Byte)).length :=
  ⟨linked, [slotEntry], ⟨[], []⟩, slotEntry, by decide +kernel⟩
theorem witness_controlFlit : ∃ (w : ControlWords) (s : State) (r : FlitRec), w.retries = [] ∧ w.events = [] ∧ w.discovery = none ∧
    (∀ v ∈ w.view, v ≠ 0) ∧ (groupOf s (linkDir 0)).buffer.Nodup ∧ r ∈ (groupOf s (linkDir 0)).buffer ∧ r.member = linkMember 0 ∧
    (w.nacks.any (fun n => n.1 == r.time && (if n.2 then now s - 1 else now s) == r.frame)) = false ∧ w.ackValid = true ∧
    (r.frame = (if w.ackPrev then now s - 1 else now s) ∧ r.time ≤ w.ackHigh) :=
  ⟨⟨9, false, true, [], [2, 2, 2, 2, 2, 2, 2, 2], [], [], [], none⟩,
    { linked with link.groups := [(0, { GroupState.fresh with buffer := [⟨0, 5, 0, 0, 5, 0, 0, 0, 0⟩] })] }, ⟨0, 5, 0, 0, 5, 0, 0, 0, 0⟩, by decide +kernel⟩
theorem witness_control : hasPosition linked (linkAt 0 0) 32 = true := by decide +kernel
theorem witness_transmit : ∃ (s : State) (e : BitVec 256) (list : List (BitVec 256)) (tp : Template),
    hasPosition s (linkAt 0 0) 1 = true ∧ (∀ k : Fin 8, k < 0 → hasPosition s (linkAt 0 k) 1 = false) ∧
    (groupOf s 0).listed.find? (fun r => r.member == (0 : Fin 8).val) = none ∧ slotsRun s = true ∧
    nextFlit (txList s 0) (groupOf s 0).txEntry (groupOf s 0).txFlit 1 s.fr.late = some (0, 0, e) ∧ slKind e ≠ 3 ∧
    (groupOf s 0).buffer.length < 8192 ∧ s.plan.rank = some 0 ∧ slotPos s = some 0 ∧ slotListAt s 0 0 0 = some (list, tp, 0) :=
  ⟨linked, slotEntry, [slotEntry], ⟨[], []⟩, by decide +kernel⟩
theorem witness_timeout : ∃ (s : State) (r : FlitRec), (groupOf s 0).buffer.find? (fun r => r.member == (0 : Fin 8).val && r.time == (5 : Fin 15620).val &&
    r.frame == (if false then now s - 1 else now s)) = some r ∧ r.tries < 3 :=
  ⟨{ linked with link.groups := [(0, { GroupState.fresh with buffer := [⟨0, 5, 0, 0, 5, 0, 0, 0, 0⟩] })] }, ⟨0, 5, 0, 0, 5, 0, 0, 0, 0⟩, by decide +kernel⟩
theorem witness_timeout_abandons : ∃ (s : State) (r : FlitRec), (groupOf s 0).buffer.find? (fun r => r.member == (0 : Fin 8).val && r.time == (5 : Fin 15620).val &&
    r.frame == (if false then now s - 1 else now s)) = some r ∧ 3 ≤ r.tries :=
  ⟨{ linked with link.groups := [(0, { GroupState.fresh with buffer := [⟨0, 5, 0, 0, 5, 0, 0, 0, 3⟩] })] }, ⟨0, 5, 0, 0, 5, 0, 0, 0, 3⟩, by decide +kernel⟩

theorem witness_laneFails : (linkOf State.reset 3).failed.getLsbD (2 : Fin 4) = false := by decide
/-- A state whose link 3 is down with lanes failed and its test behind it. -/
def tested (f : BitVec 4) : State := { State.reset with fr.counter := 9, link.links := [(3, { LinkState.fresh with failed := f, testTick := some 7 })] }
theorem witness_retrain : ∀ f ∈ [(0 : BitVec 4), 1, 5], (linkOf (tested f) 3).testTick = some 7 ∧ 7 + 1 ≤ now (tested f) ∧
    (tested f).pin.linkref = true := by decide
theorem witness_retrain_low : ((((linkOf (tested 4) 3).failed ||| 0).getLsbD 0) || (((linkOf (tested 4) 3).failed ||| 0).getLsbD 1)) = false := by decide
theorem witness_retrain_high : ((((linkOf (tested 1) 3).failed ||| 0).getLsbD 0) || (((linkOf (tested 1) 3).failed ||| 0).getLsbD 1)) = true ∧
    ((((linkOf (tested 1) 3).failed ||| 0).getLsbD 2) || (((linkOf (tested 1) 3).failed ||| 0).getLsbD 3)) = false := by decide
theorem witness_retrain_none : ((((linkOf (tested 5) 3).failed ||| 0).getLsbD 0) || (((linkOf (tested 5) 3).failed ||| 0).getLsbD 1)) = true ∧
    ((((linkOf (tested 5) 3).failed ||| 0).getLsbD 2) || (((linkOf (tested 5) 3).failed ||| 0).getLsbD 3)) = true := by decide
theorem witness_eye_fails : laneFailed { height := 79, width := 300, ser := 0, badRun := 0 } = true := by decide +kernel
theorem witness_eye_kept : laneFailed { height := 160, width := 160, ser := 0, badRun := 0 } = false ∧
    laneSound { height := 160, width := 160, ser := 0, badRun := 0 } = true := by decide +kernel
theorem witness_admission : ∃ s : State, s.pin.linkref = true ∧ (linkOf s 3).miscabled = false ∧ (linkOf s 3).width ≠ 2 ∧
    (∀ i : Fin 4, laneAdmitted (tget LaneState.zero (tmod LaneState.zero (linkOf s 3).lanes 1 (fun a =>
      { a with height := 160, width := 160, ser := 0 })) i) = true) :=
  ⟨{ State.reset with link.links := [(3, { LinkState.fresh with
      lanes := [(0, ⟨160, 160, 0, 0⟩), (1, ⟨9, 9, 0, 0⟩), (2, ⟨160, 160, 0, 0⟩), (3, ⟨160, 160, 0, 0⟩)] })] }, by decide +kernel⟩
theorem witness_training : ({ State.reset with pin.stage := 4 } : State).pin.stage = 4 := rfl

theorem witness_admitted : ∀ op ∈ [0x0101, 0x0102, 0x0105, 0x0107, 0x0201, 0x0202, 0x0304, 0x0401, 0x0411, 0x0501, 0x0502, 0x0601, 0x0602, 0x0704, 0x0803,
    0x0901, 0x0A02, 0x0A06, 0x0A07], Admitted served hostReq op := by
  intro op _
  exact ⟨Or.inl (by decide), rfl, rfl⟩
theorem witness_fits : (settingRow 0x00020101).isSome = true ∧ (numericsPart served 2).1 = 256 ∧ (powerBlock (shadowOf served) 2 5).isSome = true ∧
    blocksExist 1 3 2 = true ∧ 0 + 2 ≤ unitCount 1 := by decide +kernel
theorem witness_contexts : hasContexts served = true := by decide +kernel

/-- A state that serves requests, with transaction 5 of the host open. -/
def inTxn : State :=
  { served with eo.txns := [(5, ⟨.host, .opened, [(0x00020101, 70)], 0, false, none⟩)], eo.nextTxn := 6 }
theorem witness_setting : stageFault 0x00040104 2 = none ∧ settingIsLive inTxn 0x00040104 = false ∧ holderOf inTxn 0x00040104 = none ∧
    openTxns inTxn < 4 := by decide +kernel
theorem witness_txn_admitted : ∀ op ∈ [0x0108, 0x0109, 0x010A, 0x010B, 0x010C, 0x010D], Admitted inTxn hostReq op := by
  intro op _
  exact ⟨Or.inl (by decide), rfl, rfl⟩
theorem witness_txn : ∃ t, txnOf inTxn (5 : Word).toNat = some t ∧ t.phase = .opened ∧ t.owner = portOwner hostReq.port ∧
    pairsFault inTxn (5 : Word).toNat [(0x00060101, 900)] = none ∧ (pairTable t.pairs [(0x00060101, 900)]).length ≤ 256 :=
  ⟨_, rfl, rfl, rfl, by decide +kernel, by decide +kernel⟩
theorem witness_commit : canOpen inTxn 0x010B = true ∧ nextTick inTxn < (9 : BitVec 48).toNat ∧ (9 : BitVec 48).toNat ≤ now inTxn + 2 ^ 24 := by decide +kernel

theorem witness_ctx_admitted : ∀ op ∈ [0x0410, 0x0412, 0x0413, 0x0414, 0x0415], Admitted served hostReq op := by
  intro op _; exact ⟨Or.inl (by decide), rfl, rfl⟩
/-- A context's entry: state 1 (ready) or 2 (generating), with a length of 9. -/
def withContext (st : Byte) : State := { served with mem.hbm := [(0, st), (1, 9)] }
theorem witness_ctx_idle : hasContexts (withContext 1) = true ∧ canOpen (withContext 1) 0x0410 = true ∧ wordsOk 5 0 = true ∧
    contextLive (withContext 1) (0 : Word).toNat = false ∧ ctxState (withContext 1) (0 : Word).toNat ≠ 0 ∧ canOpen (withContext 1) 0x0415 = true ∧
    (2 : Word).toNat + (3 : Word).toNat ≤ wordAt (entryBytes (withContext 1) (0 : Word).toNat) 0 / 2 ^ 8 % 2 ^ 21 := by decide +kernel
theorem witness_ctx_live : contextLive (withContext 2) (0 : Word).toNat = true := by decide +kernel
theorem witness_ctx_done : ∃ (s : State) (c : OpenCommand), openCommand s hostReq 0x0410 = some c ∧
    s.ctx.orders.any (fun x => x.opcode == 0x0410 && x.req == some hostReq) = false :=
  ⟨{ served with eo.opened := [⟨0x0410, hostReq, [0, 64, 2, 5, 0]⟩] }, _, rfl, rfl⟩
theorem witness_ctx_tokens : ∃ (s : State) (c : OpenCommand), openCommand s hostReq 0x0415 = some c :=
  ⟨{ served with eo.opened := [⟨0x0415, hostReq, [0, 2, 3, 64]⟩] }, _, rfl⟩

/-- A state that serves requests, whose plan has a ledger ring and whose latest record is of counter frame 4. -/
def withLedger : State :=
  { served with
    plan.loaded := some { PlanImage.empty with regions := [1 * 2 ^ 8 + 65536 * 2 ^ 64] }, led.first := some 0, led.latest := some 4 }
theorem witness_exports : recordsExist withLedger (2 : BitVec 48).toNat (3 : Word).toNat = true ∧ canOpen withLedger 0x0203 = true ∧
    hbmUsable withLedger (0 : DWord).toNat (128 : DWord).toNat = true ∧ canOpen withLedger 0x0303 = true ∧ canOpen withLedger 0x0902 = true := by decide +kernel
theorem witness_exports_admitted : ∀ op ∈ [0x0203, 0x0303, 0x0902], Admitted withLedger hostReq op := by
  intro op _; exact ⟨Or.inl (by decide), rfl, rfl⟩
theorem witness_exports_done : ∀ op ∈ [0x0203, 0x0303, 0x0902], ∃ (s : State) (c : OpenCommand), openCommand s hostReq op = some c ∧
    (s.plan.loaded.bind ledgerRing).isSome = true ∧ c.args.getD 0 0 = 0 := by
  intro op h
  refine ⟨{ withLedger with eo.opened := [⟨op, hostReq, [0, 64, 128, 2]⟩] }, ⟨op, hostReq, [0, 64, 128, 2]⟩, ?_,
    (by decide +kernel : (withLedger.plan.loaded.bind ledgerRing).isSome = true), rfl⟩
  simp only [List.mem_cons, List.not_mem_nil, or_false] at h; rcases h with rfl | rfl | rfl <;> rfl
theorem witness_transfer_in : ∃ (s : State) (c : OpenCommand), openCommand s hostReq 0x0303 = some c ∧ c.args.getD 0 0 ≠ 0 :=
  ⟨{ withLedger with eo.opened := [⟨0x0303, hostReq, [1, 64, 128, 64]⟩] }, _, rfl, by decide⟩

theorem witness_reg_admitted : ∀ op ∈ [0x0301, 0x0302, 0x0A04, 0x0A05, 0x0A01, 0x0A03, 0x0603, 0x0604, 0x0106], Admitted served hostReq op := by
  intro op _; exact ⟨Or.inl (by decide), rfl, rfl⟩
theorem witness_reg : placesHostDma served = false ∧ planRuns served = false ∧ 64 + 2 * dumpSize (dumpSections served) ≤ (4194304 : DWord).toNat := by
  decide +kernel
theorem witness_config : (List.replicate (counterCount (blockOf 1 0)) (0 : Half)).length = counterCount (blockOf 1 0) ∧ blocksExist 1 3 2 = true ∧
    (List.replicate (counterCount (blockOf 1 0)) (0 : Half)).all (configOk 1) = true := by decide +kernel
/-- A filter of slot 9 that counts an event, action 1, without instructions. -/
def someFilter : BitVec 1024 := 9 + 2 ^ 8 + 0x620 * 2 ^ 32 + 3 * 2 ^ 540
theorem witness_filter : ∃ w : BitVec 1024, bitsOf w 5 0 ∉ protectedSlots ∧ 1 ≤ bitsOf w 5 0 ∧ bitsOf w 5 0 ≤ 32 ∧ filterOk w = true ∧
    otherInstrs served (bitsOf w 5 0) + ftCount w ≤ 256 := ⟨someFilter, by decide +kernel⟩
theorem witness_filter_slot : (9 : Byte).toNat ∉ protectedSlots := by decide
theorem witness_ack : ∃ s : State, (3 : Word).toNat < s.ev.nextSeq.toNat := ⟨{ served with ev.nextSeq := 9 }, by decide⟩

theorem witness_keys_admitted : ∀ op ∈ [0x0701, 0x0702, 0x0703, 0x0705, 0x0706], Admitted served hostReq op := by
  intro op _; exact ⟨Or.inl (by decide), rfl, rfl⟩
theorem witness_key_images : canOpen served 0x0701 = true ∧ 4096 ≤ (8388608 : Word).toNat ∧ (8388608 : Word).toNat ≤ 8388608 ∧ planRuns served = false ∧
    (1 : Byte).toNat ≤ 1 ∧ served.eo.tokens ≠ 0 ∧ needsFuse served = true ∧ served.eo.leafFuses < 16384 ∧ (List.replicate 8192 (0 : Byte)).length = 8192 :=
  ⟨rfl, by decide, by decide, rfl, by decide, by decide, rfl, by decide, List.length_replicate⟩
theorem witness_fw_done : ∃ (s : State) (c : OpenCommand), openCommand s hostReq 0x0701 = some c :=
  ⟨{ served with eo.opened := [⟨0x0701, hostReq, [64, 4096]⟩] }, _, rfl⟩

theorem witness_load : Admitted served hostReq 0x0801 ∧ canOpen served 0x0801 = true ∧ served.pin.selftest = false ∧ planLoaded served = false ∧
    Admitted served hostReq 0x0802 := ⟨⟨Or.inl (by decide), rfl, rfl⟩, rfl, rfl, rfl, ⟨Or.inl (by decide), rfl, rfl⟩⟩
theorem witness_load_stage : ∃ (s : State) (p : PlanImage), s.plan.loaded = some p ∧ s.plan.stage = .preparing :=
  ⟨{ served with plan.stage := .preparing }, _, rfl, rfl⟩
theorem witness_load_discard : ∃ (s : State) (q : PlanImage), Admitted s hostReq 0x0802 ∧ s.plan.staged = some q :=
  ⟨{ served with plan.staged := some PlanImage.empty }, _, ⟨Or.inl (by decide), rfl, rfl⟩, rfl⟩
theorem witness_start : ∃ (s : State) (p : PlanImage), s.plan.loaded = some p ∧ s.plan.stage = .starting ∧ s.plan.startFrame = some (now s) ∧
    seqAt p 0 = some (0, 0) :=
  ⟨{ served with plan.loaded := some { PlanImage.empty with sequence := [2 ^ 32] }, plan.stage := .starting, plan.startFrame := some 0 }, _,
   rfl, rfl, rfl, by decide⟩

/-- A prefetch of block 0 into tile 0's memory, or into HBM. -/
def aPrefetch (hbm re : Bool) : Prefetch := { slot := 0, toHbm := hbm, dest := 0, tensor := 0, step := 0, reread := re }
theorem bytesLE_cons (k n : Nat) : bytesLE (k + 1) n = BitVec.ofNat 8 n :: bytesLE k (n / 256) := by
  unfold bytesLE
  rw [List.range_succ_eq_map, List.map_cons, List.map_map]
  congr 1
  · simp
  · refine List.map_congr_left (fun i _ => ?_)
    show BitVec.ofNat 8 (n / 256 ^ (i + 1)) = BitVec.ofNat 8 (n / 256 / 256 ^ i)
    rw [Nat.pow_succ, Nat.div_div_eq_div_mul, Nat.mul_comm]
theorem natLE_bytesLE (k : Nat) : ∀ n, n < 256 ^ k → natLE (bytesLE k n) = n := by
  induction k with
  | zero => intro n h; rw [Nat.pow_zero] at h; rw [show n = 0 by omega]; rfl
  | succ k ih =>
    intro n h
    have e := ih (n / 256) (by rw [Nat.div_lt_iff_lt_mul (by decide)]; rw [Nat.pow_succ] at h; omega)
    rw [bytesLE_cons]
    show (BitVec.ofNat 8 n).toNat + 256 * natLE (bytesLE k (n / 256)) = n
    rw [e, BitVec.toNat_ofNat]
    omega
theorem witness_block (s : State) (h : s.plan.rank = some 0) (b : Bool) (d : List Byte) (hd : d.length = 4096) :
    ∃ bytes, blockPasses s (aPrefetch b false) bytes = true := by
  refine ⟨blockBytes d (List.replicate 56 0), ?_⟩
  unfold blockBytes blockPasses blockData blockSize
  have hl : (d ++ List.replicate 56 0).length = 4152 := by rw [List.length_append, hd, List.length_replicate]
  generalize hx : crc64 (d ++ List.replicate 56 0) = c
  have hc : (bytesLE 8 c.toNat).length = 8 := by unfold bytesLE; rw [List.length_map, List.length_range]
  have l1 : (d ++ List.replicate 56 0 ++ bytesLE 8 c.toNat).drop 4152 = bytesLE 8 c.toNat := by rw [← hl]; exact List.drop_left
  have l2 : (d ++ List.replicate 56 0 ++ bytesLE 8 c.toNat).take 4152 = d ++ List.replicate 56 0 := by rw [← hl]; exact List.take_left
  have l3 : ((d ++ List.replicate 56 0 ++ bytesLE 8 c.toNat).drop 4096).take 56 = List.replicate 56 0 := by
    rw [List.append_assoc, ← hd, List.drop_left]; exact List.take_left' (List.length_replicate ..)
  rw [l1, l2, hx]
  dsimp only
  rw [l3, natLE_bytesLE 8 _ c.isLt, show rankField s = 0 by unfold rankField; rw [h]; rfl, List.length_append, hl, hc]
  cases b <;> simp only [decide_true, Bool.and_true] <;> rfl
theorem witness_prefetch : ∃ s : State, prefetchOf s 0 = some (aPrefetch false false) ∧ s.plan.rank = some 0 :=
  ⟨{ State.reset with plan.rank := some 0, ctx.prefetches := [aPrefetch false false] }, by decide, rfl⟩
theorem witness_prefetch_hbm : ∃ s : State, prefetchOf s 0 = some (aPrefetch true true) ∧ blockPasses s (aPrefetch true true) [] = false ∧
    s.mem.hbmPoison = [] := ⟨{ State.reset with ctx.prefetches := [aPrefetch true true] }, by decide, by decide +kernel, rfl⟩
theorem witness_observation : (5 : Rank).val ∉ State.reset.link.expelled ∧ sharedWhole State.reset 0 0 = true := ⟨by decide, by decide +kernel⟩
/-- An observation of this package, which holds rank 0 of a plan that shares no scale. -/
theorem witness_shared : ∃ (s : State) (own : SharedObs), sharedWhole s 3 5 = true ∧ own ∈ sharedObs s 3 5 ∧ own.rank = s.plan.rank.getD 0 :=
  ⟨{ served with num.sharedIn := [⟨0, false, 5, 3, ⟨1, 2, false, true⟩⟩] }, ⟨0, false, 5, 3, ⟨1, 2, false, true⟩⟩, by decide +kernel, by decide +kernel, rfl⟩
theorem witness_offload : ∃ (s : State) (op : Fin 1048576) (f : PlanFrame) (t : Template) (d : Desc), s.fr.running = some f ∧
    runningDesc s op = some (t, d) ∧ s.ctx.offload = some (64, 4160) ∧ (inFlight f op || isCompleted f op) = true ∧ dsClass d = 4 ∧
    oprSpace d.d5 = 4 ∧ f.replay = false ∧ firstBlock t f d.d5 ≤ 0 ∧ 0 < firstBlock t f d.d5 + blockCount d :=
  ⟨{ running (descOf4 4 0 (4 * 2 ^ 44) 0 4096) with ctx.offload := some (64, 4160) }, 7, _, _, _, rfl, rfl, rfl, by decide +kernel, by decide +kernel,
   by decide +kernel, rfl, by decide +kernel, by decide +kernel⟩

theorem witness_droop_low : ∃ s : State, (tileOf s (3 : TileId)).droopLow = true :=
  ⟨modTile State.reset 3 (fun x => { x with droopLow := true }), by decide +kernel⟩
theorem witness_droop_recovered : (tileOf State.reset (3 : TileId)).droopLow = false ∧ (filterState State.reset (5 : Fin 33)).last = false := by
  decide +kernel
theorem witness_power_down : ∃ s : State, s.pin.poweringDown = true := ⟨{ State.reset with pin.poweringDown := true }, rfl⟩

theorem witness_ld : ldInputs State.reset ((280 : Fin 4096) : Nat) ≠ [] := by decide +kernel
/-- A program without LD. -/
theorem witness_program : ∀ x ∈ (List.range (ftCount (0 : BitVec 1024))).map (ftInstr 0), x.1 = 1 → ldInputs State.reset x.2 ≠ [] := by decide +kernel
/-- A filter of slot 9 whose program is OR, with action 2 on die 1, 3 or 4. -/
def orFilter (action : Nat) : BitVec 1024 := filterWord 9 action 5 false 2 0x0620 0 [] [aomWord 9 0]
/-- A state whose filter 9 keeps a true saved bit, and was last false. -/
def savedTrue : State := { State.reset with aom.filters := [(9, { FilterState.fresh with saved := true })] }
theorem witness_fires : ∀ a ∈ [2, 3, 4],
    (((List.range (ftCount (orFilter a))).map (ftInstr (orFilter a))).foldl aomInstr { savedTrue with aom.cur := 9, aom.pc := 0 }).aom.cond = true ∧
    (filterState (((List.range (ftCount (orFilter a))).map (ftInstr (orFilter a))).foldl aomInstr { savedTrue with aom.cur := 9, aom.pc := 0 }) 9).last = false ∧
    ftAction (orFilter a) = a ∧ ftBySource (orFilter a) = false ∧ (ftDies (orFilter a)).testBit 1 = true ∧ savedTrue.pin.poweringDown = false := by
  decide +kernel

theorem witness_event : tget 0 State.reset.ev.counts (0x0401 : Half).toNat < 64 := by decide
theorem witness_limited : ∃ s : State, 64 ≤ tget 0 s.ev.counts (0x0401 : Half).toNat ∧ (0x0401 : Half) ≠ 0x0122 :=
  ⟨{ State.reset with ev.counts := [(0x0401, 64)] }, by decide, by decide⟩
theorem witness_ring : State.reset.ev.ring.length ≤ 8192 := by decide
theorem witness_watchdog : ∃ s : State, s.pin.watchdog = true ∧ s.pin.restartDue = false := ⟨{ State.reset with pin.watchdog := true }, rfl, rfl⟩
theorem witness_dump : ∃ (s : State) (r : DumpRing) (x : Snapshot), s.cnt.ring = some r ∧ s.cnt.shadow = some x ∧ dumpDue s x.frame = true ∧
    x.complete = true ∧ s.pin.pcieUp = true :=
  ⟨{ State.reset with
      cnt.ring := some ⟨0, 65536, 0, 0, 0, 128, 0⟩, cnt.shadow := some ⟨2 ^ 20 - 1, State.reset.cnt.tele, [], [], [], [], true⟩ },
    _, _, rfl, rfl, by decide +kernel, rfl, rfl⟩

/-- The 32 bytes of a request message of opcode 0x0101, tag 7, with no body, and of an unknown opcode. -/
def identityMsg : List Byte := [1, 1, 0, 0, 7] ++ List.replicate 27 0
/-- A datagram that carries it whole, as request 5, or as the first fragment of several. -/
def identityDatagram (frag : Byte) : List Byte :=
  [0x5A, 0x4B, 0x4D, 0x50, 0x01, 0x01, frag, 0, 5, 0, 0, 0, 32, 0, 0, 0] ++ List.replicate 16 0 ++ identityMsg
theorem witness_slot_free : (slotOf served (3 : Fin 16)).openReq = none ∧ served.eo.opened.any (fun c => c.req.port == .host 3) = false ∧
    lengthFits (headerOpcode (readBytes served.eo.buffers (0x10000 * (3 : Fin 16).val) 32)) 0 = none ∧
    refusal served ⟨.host 3, 0, 0⟩ 0 = none := by decide +kernel
theorem witness_slot_request : ∃ s : State, (2 ≤ s.pin.stage ∨ s.pin.recovery = true) ∧ (slotOf s (0 : Fin 16)).openReq = none ∧
    lengthFits (headerOpcode (readBytes s.eo.buffers 0 32)) (headerLength (readBytes s.eo.buffers 0 32)) = some true :=
  ⟨{ served with eo.buffers := [(0, 1), (1, 1)] }, Or.inl (by decide), rfl, by decide +kernel⟩
theorem witness_slot_busy : ∃ s : State, (slotOf s (0 : Fin 16)).openReq.isSome = true :=
  ⟨{ served with eo.slots := [(0, ⟨some 1, 0, none⟩)] }, by decide⟩
theorem witness_offsets : (0x30004 : BitVec 24).toNat = 0x20000 + 0x10000 * (1 : Fin 16).val + 4 ∧ (0x10008 : BitVec 24).toNat = 0x10000 + 8 * (1 : Fin 16).val := by
  decide
theorem witness_datagram : isRequest (identityDatagram 64) = true ∧ 32 ≤ ((identityDatagram 64).drop 32).length ∧
    natLE (((identityDatagram 64).drop 6).take 1) = 64 ∧ natLE (((identityDatagram 64).drop 8).take 4) = (5 : Word).toNat ∧
    authField served ((identityDatagram 64).take 16 ++ (identityDatagram 64).drop 32) = ((identityDatagram 64).drop 16).take 16 ∧
    reassemblyOf served 1 2 5 = ⟨1, 2, 5, [], none⟩ ∧ (sourceOf served 1 2).answered = [] ∧ 5 ∉ (sourceOf served 1 2).opened ∧
    (served.eo.sources.map (fun x => x.opened.length)).foldl (· + ·) 0 < 32 ∧
    refusal served ⟨.mgmt 1 2, headerTag identityMsg, 5⟩ (headerOpcode identityMsg) = none ∧
    lengthFits (headerOpcode identityMsg) (headerLength identityMsg) = some true := by decide +kernel
theorem witness_fragment : isRequest (identityDatagram 0) = true ∧ natLE (((identityDatagram 0).drop 6).take 1) < 64 ∧
    natLE (((identityDatagram 0).drop 8).take 4) = (5 : Word).toNat ∧
    authField served ((identityDatagram 0).take 16 ++ (identityDatagram 0).drop 32) = ((identityDatagram 0).drop 16).take 16 ∧
    (reassemblyOf served 1 2 5).last = none ∧ isRequest [] = false := by decide +kernel
theorem witness_peer : ∃ s : State, (2 ≤ s.pin.stage ∨ s.pin.recovery = true) ∧ tget 0 s.eo.peerOpen 4 < 8 ∧
    refusal s ⟨.peer 4, headerTag identityMsg, 0⟩ (headerOpcode identityMsg) = none ∧ 32 ≤ identityMsg.length :=
  ⟨{ served with plan.rank := some 0 }, Or.inl (by decide), by decide, by decide +kernel, by decide⟩
theorem witness_peer_busy : ∃ s : State, 8 ≤ tget 0 s.eo.peerOpen 4 := ⟨{ served with eo.peerOpen := [(4, 8)] }, by decide⟩

theorem witness_selftest_start : Admitted served hostReq 0x0903 ∧ canOpen served 0x0903 = true ∧ planRuns served = false ∧ served.pin.selftest = false :=
  ⟨⟨Or.inl (by decide), rfl, rfl⟩, rfl, rfl, rfl⟩
theorem witness_selftest_tile : ∃ s : State, s.pin.selftest = true ∧ s.pin.selftestTile < 256 :=
  ⟨{ served with pin.selftest := true, pin.selftestTile := 255 }, rfl, by decide⟩
theorem witness_selftest_done : ∃ (s : State) (c : OpenCommand), s.pin.selftest = true ∧ s.pin.selftestTile = 256 ∧ s.plan.staged = none ∧
    openOnce s 0x0903 = some c :=
  ⟨{ served with pin.selftest := true, pin.selftestTile := 256, eo.opened := [⟨0x0903, hostReq, []⟩] }, _, rfl, rfl, rfl, rfl⟩

/-- A state in which a plan of 9 frames runs at position 0, with rank 5. -/
def runningPlan : State :=
  { served with plan.loaded := some { PlanImage.empty with header := [0, 9 * 2 ^ 32, 9, 9, 9, 9, 9, 9], sequence := [9 * 2 ^ 32] }, plan.rank := some 5, fr.run := .running,
                fr.running := some (newRun 1 0 0 0 0 0 0 0) }
theorem witness_stop : Admitted runningPlan hostReq 0x0103 ∧ planRuns runningPlan = true ∧ firstUnbegun runningPlan ≤ (3 : Word).toNat ∧
    (3 : Word).toNat < loadedFrames runningPlan := by
  exact ⟨⟨Or.inl (by decide), rfl, rfl⟩, rfl, by decide, by decide +kernel⟩
theorem witness_reset : Admitted served hostReq 0x0104 ∧ planRuns served = false := ⟨⟨Or.inl (by decide), rfl, rfl⟩, rfl⟩

/-- A state whose plan copies from the off-load buffer and runs, with rank 0. -/
def hostDmaPlan : State := { running (descOf4 4 (4 * 2 ^ 44) 0 0 4096) with fr.run := .running, plan.rank := some 0 }
theorem witness_dma : placesHostDma hostDmaPlan = true ∧ tget 0 hostDmaPlan.ev.counts 0x0121 < 64 ∧ hostDmaPlan.plan.rank = some 0 ∧
    hostDmaPlan.fr.running.isSome = true := by decide +kernel
theorem witness_no_dma : placesHostDma State.reset = false := by decide

theorem witness_host_txn : ∃ (s : State) (t : Txn), txnOf s 3 = some t ∧ t.owner = .host ∧ t.phase = .opened :=
  ⟨{ hostDmaPlan with eo.txns := [(3, ⟨.host, .opened, [], 0, false, none⟩)] }, _, rfl, rfl, rfl⟩

theorem witness_verify : ∃ s : State, s.pin.stage = 0 ∧ s.pin.pgAon = true ∧ s.pin.recovery = false := ⟨State.reset, rfl, rfl, rfl⟩
theorem witness_stages : ∃ s : State, s.pin.stage = 1 := ⟨{ served with pin.stage := 1 }, rfl⟩
theorem witness_stage3 : ∃ s : State, s.pin.stage = 3 := ⟨{ served with pin.stage := 3 }, rfl⟩
theorem witness_stage5 : ∃ s : State, s.pin.stage = 5 := ⟨{ served with pin.stage := 5 }, rfl⟩
theorem witness_enable : ∃ s : State, mayEnable s .io = true := ⟨{ served with pin.stage := 2 }, by decide +kernel⟩
theorem witness_good : ∃ s : State, s.pin.enables.contains RailGroup.io = true ∧ s.pin.goods.contains RailGroup.io = false :=
  ⟨{ served with pin.enables := [.io] }, rfl, rfl⟩
theorem witness_loss : ∃ s : State, s.pin.goods.contains RailGroup.io = true ∧ s.pin.poweringDown = false :=
  ⟨{ served with pin.goods := [.io] }, rfl, rfl⟩

theorem witness_sys_rise : ∃ s : State, s.pin.sysRst = true := ⟨{ served with pin.sysRst := true }, rfl⟩
theorem witness_pins : planRuns hostDmaPlan = true ∧ hostDmaPlan.plan.rank = some 0 ∧ placesHostDma hostDmaPlan = true ∧
    hostDmaPlan.pin.poweringDown = false ∧ tget 0 hostDmaPlan.ev.counts 0x0618 < 64 := by decide +kernel

theorem witness_pages : ((13 : Byte).toNat < 14 ∨ (13 : Byte) = 0xFF) ∧ ((0xFF : Byte).toNat < 14 ∨ (0xFF : Byte) = 0xFF) ∧ served.pin.page < 14 ∧
    eometServes served = true := by decide
theorem witness_page_13 : ∃ s : State, s.pin.page < 14 ∧ ¬ s.pin.page < 12 ∧ s.pin.page ≠ 0xFF := ⟨{ served with pin.page := 13 }, by decide⟩
theorem witness_page_all : ∃ s : State, s.pin.page = 0xFF := ⟨{ served with pin.page := 255 }, rfl⟩

theorem witness_min_byte : ∃ (s : State) (f : PlanFrame) (t : Template) (d : Desc) (x : InFlight),
    s.fr.running = some f ∧ runningDesc s 7 = some (t, d) ∧ f.inflight.find? (fun x => x.op == 7) = some x ∧
    dsClass d = 1 ∧ dsReference d = false ∧ x.vectors = 0 ∧ 0 < mvVectors d ∧ limiterLevel s (dsTile d) < 16 ∧
    (arrOf s (16 * dsTile d + dsArray d)).quarantined = false ∧ (f.fallback.contains (mvLayer d) && !dsSplit d) = false ∧
    (recordAt s (placeOf s t f d d.d5) 0).1.entries = [] ∧ s.mem.hbmPoison = [] ∧ s.mem.tilePoison = [] ∧
    (placeBytes s ((placeOf s t f d d.d4).plus (512 * 0)) 512)[511]? = some 0x80 := by
  refine ⟨{ running (descOf4 1 (1 * 2 ^ 44) 0 0 (1 * 2 ^ 51)) with mem.tile := [(511, 0x80)] }, _, _, _, _, rfl, rfl, rfl, ?_⟩
  decide +kernel

end Sys2Proof.Tests
end

section
/-!
PROOFS. The frame of every command, the tick and the commit point: what moves the counter, FRAME_COMMITTED and the plan position.
-/
namespace Sys2Proof.Machine
open Sys2Proof

/-! ### The frame of every command -/

/-- Settles O2: a step of an empty queue takes no command. -/
theorem stepIdlesOnEmptyQueue : Obligations.StepIdlesOnEmptyQueue := by
  intro s h
  unfold step
  rw [h]

/-- Of the commands that do not restart the package, two may change the frame counter. -/
theorem allowedBy_counter {c : Instr} (htick : ∀ i, c ≠ .frameTick i) (hjoin : ∀ f, c ≠ .memberAligned f)
    (hrun : restarts c = false) : (allowedBy c).counter = false := by
  cases c with
  | frameTick i => exact absurd rfl (htick i)
  | memberAligned f => exact absurd rfl (hjoin f)
  | powerOn | pgAonLoss | sysRstNRise | resetWarm | resetPowerCycle | fwActivate => exact Bool.noConfusion hrun
  | _ => rfl

/-- Of the commands that do not restart the package, COMMIT_POINT alone may change FRAME_COMMITTED. -/
theorem allowedBy_committed {c : Instr} (hrun : restarts c = false) (hcommit : c ≠ .commitPoint) :
    (allowedBy c).committed = false := by
  cases c with
  | commitPoint => exact absurd rfl hcommit
  | powerOn | pgAonLoss | sysRstNRise | resetWarm | resetPowerCycle | fwActivate => exact Bool.noConfusion hrun
  | _ => rfl

/-- Of the commands that do not restart the package, COMMIT_POINT and PLAN_START may change the plan position. -/
theorem allowedBy_pos {c : Instr} (hrun : restarts c = false) (hcommit : c ≠ .commitPoint) (hstart : c ≠ .planStart) :
    (allowedBy c).pos = false := by
  cases c with
  | commitPoint => exact absurd rfl hcommit
  | planStart => exact absurd rfl hstart
  | powerOn | pgAonLoss | sysRstNRise | resetWarm | resetPowerCycle | fwActivate => exact Bool.noConfusion hrun
  | _ => rfl

/-- Settles O8: every command is steady but for what `allowedBy` names, and that is the counter for the excepted commands only. -/
theorem counterMovesOnlyAtTicks : Obligations.CounterMovesOnlyAtTicks :=
  fun c s t h htick hjoin hrun => (exec_steady c s t h).counter (allowedBy_counter htick hjoin hrun)

/-- Settles O9: as O8, with FRAME_COMMITTED and the plan position for the counter. -/
theorem onlyCommitsAdvanceThePlan : Obligations.OnlyCommitsAdvanceThePlan :=
  fun c s t h hrun hcommit =>
    ⟨(exec_steady c s t h).committed (allowedBy_committed hrun hcommit),
     fun hstart => (exec_steady c s t h).pos (allowedBy_pos hrun hcommit hstart)⟩

/-- Settles O14: `exec_changes` says it of each command in turn. -/
theorem everyCommandChangesOnlyItsParts : Obligations.EveryCommandChangesOnlyItsParts :=
  fun c s t h => exec_changes c s t h

/-! ### FRAME_TICK -/

theorem advanceCounter_counter (s : State) : (advanceCounter s).fr.counter = s.fr.counter + 1 := rfl

/-- The status page agrees with the state in which it is written. -/
theorem pageAgrees_rewritePage (s : State) : PageAgrees (rewritePage s) := ⟨rfl, rfl, rfl, rfl⟩

/-- Once the counter has advanced, the rest of the tick may change the ledger's head and the versions, and no other guarded part. -/
theorem frameTick_after_advance (s : State) (i : TickInputs) :
    Steady { ledger := true, versions := true } (advanceCounter (endFrame s)) (frameTick s i) :=
  rewritePage_steady <| compareTick_steady <| norTick_steady <|
  powerTick_steady <| lakesTick_steady <| linksTick_steady <|
  validTick_steady <| planTick_steady rfl rfl <|
  tilesTick_steady <| visitTick_steady <| arraysTick_steady <|
  spanTick_steady rfl <| mordantTick_steady <|
  expelledTick_steady <| expelTick_steady <|
  contextsTick_steady <| landedTick_steady <|
  filtersTick_steady <| timerTick_steady <| tempTick_steady <|
  telemetryTick_steady <| Steady.refl _

/-- Settles O15: the counter's advance is the tick's first act, nothing after it moves the counter, and its last act writes the
page. -/
theorem tickAdvancesTheCounter : Obligations.TickAdvancesTheCounter := by
  intro i s
  constructor
  · intro hpower
    refine ⟨frameTick s i, ?_, ?_, pageAgrees_rewritePage _⟩
    · show execFrameTick i s = _
      rw [execFrameTick, if_pos hpower]
    · rw [(frameTick_after_advance s i).counter rfl, advanceCounter_counter]
      rfl
  · intro hpower
    show execFrameTick i s = _
    rw [execFrameTick, if_neg (by rw [hpower]; exact Bool.false_ne_true)]

/-! ### COMMIT_POINT -/

/-- The state in which COMMIT_POINT judges the closed frame: gradients are counted and switches are logged. -/
def judgedState (s : State) : State := logSwitches (takeGradients { s with fr.cycle := 2400 })

/-- COMMIT_POINT after its judgement: reports and records leave, a staged plan may start, and the page is written. -/
def finishCommit (s : State) (p : PlanImage) : State :=
  let s := sendRecords (abandonedPoint s p)
  let starts := planRuns s && s.fr.running.isNone && s.fr.closed.isNone && s.plan.staged.isSome && boundaryAt p s.fr.pos.toNat &&
    decide (s.fr.pos.toNat < planFrames p)
  rewritePage (if starts then startStaged s else s)

theorem commitPoint_eq (s : State) : commitPoint s =
    match (judgedState s).plan.loaded with
    | none => rewritePage (judgedState s)
    | some p => finishCommit (match (judgedState s).fr.closed with
        | some f => judgeClosed (judgedState s) p f
        | none => judgedState s) p := by
  unfold commitPoint judgedState finishCommit
  rfl

theorem judgedState_steady (s : State) : Steady {} s (judgedState s) :=
  logSwitches_steady <| takeGradients_steady <| steady_mk (Steady.refl s) rfl rfl

theorem finishCommit_steady (s : State) (p : PlanImage) : Steady { ledger := true } s (finishCommit s p) := by
  unfold finishCommit
  have sent : Steady { ledger := true } s (sendRecords (abandonedPoint s p)) :=
    sendRecords_steady <| abandonedPoint_steady <| Steady.refl s
  exact rewritePage_steady <| steady_ite (fun _ => startStaged_steady rfl sent) (fun _ => sent)

/-- What a function leaves of the closed frame, where it may not change the runs. -/
theorem ChangesOnly.closed {W : Parts} {s t : State} (h : ChangesOnly W s t) (hruns : W.runs = false) : t.fr.closed = s.fr.closed :=
  congrArg (fun x => x.2.1) (h.runs hruns)

theorem logSwitches_changes (s : State) : ChangesOnly { hbm := true, plan := true, traffic := true } s (logSwitches s) :=
  logSwitches_touch rfl rfl rfl (ChangesOnly.refl s)

theorem writeHbm_loaded (s : State) (m : WriteMode) (a : Nat) (b : List Byte) (q : Nat → Option (Nat × Nat)) :
    (writeHbm s m a b q).plan.loaded = s.plan.loaded := congrArg PlanState.loaded ((writeHbm_changes s m a b q).plan rfl)

theorem foldl_loaded {β : Type} {g : State → β → State} (hg : ∀ s x, (g s x).plan.loaded = s.plan.loaded) (l : List β) (s : State) :
    (l.foldl g s).plan.loaded = s.plan.loaded := by
  induction l generalizing s with
  | nil => rfl
  | cons x l ih => exact (ih (g s x)).trans (hg s x)

/-- Logging the switches moves the log's offset and empties the list of what waits; the plan stays. -/
theorem logSwitches_loaded (s : State) : (logSwitches s).plan.loaded = s.plan.loaded := by
  have offset : ∀ (u : State) (n : Nat), ({ u with plan.logOffset := n } : State).plan.loaded = u.plan.loaded := fun _ _ => rfl
  have logged : ∀ u : State, ({ u with plan.logPending := [] } : State).plan.loaded = u.plan.loaded := fun _ => rfl
  have choice : ∀ {c : Prop} [Decidable c] {a b u : State}, a.plan.loaded = u.plan.loaded → b.plan.loaded = u.plan.loaded →
      (if c then a else b).plan.loaded = u.plan.loaded := fun ha hb => by split <;> assumption
  unfold logSwitches
  split
  · exact logged s
  · refine (logged _).trans (foldl_loaded (fun v x => ?_) _ _)
    refine choice ?_ rfl
    exact (offset _ _).trans (writeHbm_loaded v _ _ _ _)

theorem judgedState_loaded (s : State) : (judgedState s).plan.loaded = s.plan.loaded := logSwitches_loaded _

theorem judgedState_closed (s : State) :
    (judgedState s).fr.closed = s.fr.closed.map (fun f => { f with gradients := [] }) := (logSwitches_changes _).closed rfl

theorem judgedState_unsettled (s : State) (gen : Nat) : unsettled (judgedState s) gen = unsettled s gen := by
  unfold unsettled
  rw [show (judgedState s).tiles = s.tiles from (logSwitches_changes _).tiles rfl]

/-- A closed frame without a failure and without an unsettled suspect commits. -/
theorem judgeClosed_of_passed {s : State} {p : PlanImage} {f : PlanFrame} (hclosed : s.fr.closed = some f)
    (hpassed : f.failures = []) (hsettled : unsettled s f.gen = []) : judgeClosed s p f = commitClosed s p f := by
  simp only [judgeClosed, hsettled, List.foldl_nil, hclosed, hpassed, List.isEmpty_nil, if_true]

theorem commitClosed_committed (s : State) (p : PlanImage) (f : PlanFrame) :
    (commitClosed s p f).fr.committed = BitVec.ofNat 48 (now s - 1) ∧
    (commitClosed s p f).fr.pos = BitVec.ofNat 32 (f.index + 1) := by
  have work : ∀ x : Option RecordData, Steady {} s (dropWork (commitNumerics ((tkeys s.arrays).foldl (fun u k => commitDrift u f.gen k)
      (dropGen { s with led.ready := x } f.gen)) f) f.gen) := fun x =>
    dropWork_steady <| commitNumerics_steady <|
    steady_foldl (dropGen_steady (steady_mk (Steady.refl s) rfl rfl)) (fun _ _ h => commitDrift_steady h)
  have hnow : ∀ {u : State}, Steady {} s u → now u = now s := fun h => congrArg BitVec.toNat (h.counter rfl)
  have sent : ∀ (c : Prop) [Decidable c] (v : State), Steady {} v (if c then finishUpdate v p else v) := fun c _ v =>
    steady_ite (fun _ => finishUpdate_steady (Steady.refl v)) (fun _ => Steady.refl v)
  unfold commitClosed
  exact ⟨((sent _ _).committed rfl).trans (by rw [← hnow (work _)]; rfl), (sent _ _).pos rfl⟩

/-- An unsettled suspect's failure is noted in the closed frame of its run. -/
theorem failUnsettled_closed {s : State} {gen : Nat} {q : Suspect} {g : PlanFrame} (hclosed : s.fr.closed = some g)
    (hgen : g.gen = gen) :
    ∃ g', (failUnsettled s gen q).fr.closed = some g' ∧ g'.gen = gen ∧ g'.failures ≠ [] := by
  simp [failUnsettled, noteLevel, modGen, modCounts, hclosed, hgen]

/-- After every unsettled suspect has failed its run, the closed frame lists a failure if it did before or if there was one. -/
theorem closed_after_unsettled (qs : List Suspect) : ∀ {s : State} {gen : Nat} {g : PlanFrame}, s.fr.closed = some g → g.gen = gen →
    (g.failures ≠ [] ∨ qs ≠ []) →
    ∃ g', (qs.foldl (fun s q => failUnsettled s gen q) s).fr.closed = some g' ∧ g'.failures ≠ [] := by
  induction qs with
  | nil => exact fun hclosed _ h => ⟨_, hclosed, h.resolve_right (fun h => h rfl)⟩
  | cons q qs ih =>
    intro s gen g hclosed hgen _
    obtain ⟨g', hclosed', hgen', hfailed⟩ := failUnsettled_closed (q := q) hclosed hgen
    exact ih hclosed' hgen' (Or.inl hfailed)

/-- A closed frame with a failure or an unsettled suspect does not commit, so that no guarded part changes. -/
theorem judgeClosed_steady_of_failed {s : State} {p : PlanImage} {f : PlanFrame} (hclosed : s.fr.closed = some f)
    (hfailed : f.failures ≠ [] ∨ unsettled s f.gen ≠ []) : Steady {} s (judgeClosed s p f) := by
  obtain ⟨g, hg, hfailures⟩ := closed_after_unsettled (unsettled s f.gen) hclosed rfl hfailed
  have noted : Steady {} s ((unsettled s f.gen).foldl (fun s q => failUnsettled s f.gen q) s) :=
    steady_foldl (Steady.refl s) (fun _ _ h => failUnsettled_steady h)
  simp only [judgeClosed, hg, List.isEmpty_iff, hfailures, if_false]
  exact failClosed_steady noted

theorem finishCommit_keeps (s : State) (p : PlanImage) :
    (finishCommit s p).fr.committed = s.fr.committed ∧ (finishCommit s p).fr.pos = s.fr.pos :=
  ⟨(finishCommit_steady s p).committed rfl, (finishCommit_steady s p).pos rfl⟩

theorem commitPoint_commits {s : State} {p : PlanImage} {f : PlanFrame} (hloaded : s.plan.loaded = some p)
    (hclosed : s.fr.closed = some f) (hpassed : f.failures = []) (hsettled : unsettled s f.gen = []) :
    (commitPoint s).fr.committed = BitVec.ofNat 48 (now s - 1) ∧ (commitPoint s).fr.pos = BitVec.ofNat 32 (f.index + 1) := by
  have hnow : now (judgedState s) = now s := congrArg BitVec.toNat ((judgedState_steady s).counter rfl)
  have hc : (judgedState s).fr.closed = some { f with gradients := [] } := by rw [judgedState_closed, hclosed]; rfl
  have hu : unsettled (judgedState s) f.gen = [] := by rw [judgedState_unsettled, hsettled]
  rw [commitPoint_eq, judgedState_loaded, hloaded, hc]
  dsimp only
  rw [judgeClosed_of_passed hc hpassed hu, (finishCommit_keeps _ _).1, (finishCommit_keeps _ _).2, ← hnow]
  exact commitClosed_committed _ _ _

theorem commitPoint_stays {s : State} (h : s.fr.closed = none ∨ s.plan.loaded = none ∨
    ∃ f, s.fr.closed = some f ∧ (f.failures ≠ [] ∨ unsettled s f.gen ≠ [])) :
    (commitPoint s).fr.committed = s.fr.committed ∧ (commitPoint s).fr.pos = s.fr.pos := by
  have keeps : ∀ {u : State}, Steady {} (judgedState s) u → u.fr.committed = s.fr.committed ∧ u.fr.pos = s.fr.pos := fun hu =>
    ⟨(hu.committed rfl).trans ((judgedState_steady s).committed rfl), (hu.pos rfl).trans ((judgedState_steady s).pos rfl)⟩
  rw [commitPoint_eq, judgedState_loaded]
  cases hl : s.plan.loaded with
  | none => exact keeps (rewritePage_steady (Steady.refl _))
  | some p =>
    dsimp only
    rw [(finishCommit_keeps _ _).1, (finishCommit_keeps _ _).2]
    refine keeps ?_
    rw [judgedState_closed]
    rcases h with hnone | hnone | ⟨f, hclosed, hfailed⟩
    · rw [hnone]
      exact Steady.refl _
    · rw [hl] at hnone
      cases hnone
    · rw [hclosed]
      refine judgeClosed_steady_of_failed (by rw [judgedState_closed, hclosed]; rfl) ?_
      rw [judgedState_unsettled]
      exact hfailed

theorem commitPoint_page (s : State) : PageAgrees (commitPoint s) := by
  rw [commitPoint_eq]
  split
  · exact pageAgrees_rewritePage _
  · exact pageAgrees_rewritePage _

/-- Settles O16: the judgement alone can move FRAME_COMMITTED and the position, and it does so for a frame that passed. -/
theorem commitPointDecides : Obligations.CommitPointDecides := fun s =>
  ⟨commitPoint s, rfl, commitPoint_page s, fun _ _ hloaded hclosed hpassed hsettled =>
    commitPoint_commits hloaded hclosed hpassed hsettled, commitPoint_stays⟩

end Sys2Proof.Machine
end

section
/-!
PROOFS. What a response leaves on its port, and the commands that answer from the state or move data to host memory.
-/
namespace Sys2Proof.Machine
open Sys2Proof

/-! ### Responses -/

theorem sourceOf_port (s : State) (addr : Word) (udp : Half) : (sourceOf s addr udp).addr = addr ∧ (sourceOf s addr udp).udp = udp := by
  unfold sourceOf
  cases h : s.eo.sources.find? (fun m => m.addr == addr && m.udp == udp) with
  | none => exact ⟨rfl, rfl⟩
  | some m => simpa using List.find?_some h

/-- A source that has just been set is the first of those kept. -/
theorem mem_sources_setSource (s : State) (m : MgmtSource) : m ∈ (setSource s m).eo.sources := by
  simp [setSource]

/-- A final response on the management port is kept for its source. -/
theorem respondMgmt_answered (s : State) (addr : Word) (udp : Half) (seq : Word) {x : Response} (hfinal : x.final = true) :
    ∃ m ∈ (respondMgmt s addr udp seq x).eo.sources, m.addr = addr ∧ m.udp = udp ∧ (seq, x) ∈ m.answered := by
  rw [respondMgmt, if_pos hfinal]
  generalize sendFragments s addr udp seq (responseBytes x) = u
  obtain ⟨haddr, hudp⟩ := sourceOf_port u addr udp
  exact ⟨_, mem_sources_setSource u _, haddr, hudp, List.mem_cons_self ..⟩

theorem respondPeer_messages (s : State) (rank : Rank) (x : Response) :
    (respondPeer s rank x).link.messages = s.link.messages ++ (pieces 384 128 (responseBytes x)).map (fun b =>
      { source := Fin.ofNat 1024 (s.plan.rank.getD 0), dest := rank, kind := .response, bytes := b }) := by
  unfold respondPeer
  cases x.final <;> rfl

/-- A final response stands on the request's port, whichever port that is. -/
theorem answered_respond (s : State) (r : Req) (opcode : Nat) (st : Status) (digest body : List Byte) :
    Answered (respond s r opcode st true digest body) r ⟨opcode, st, r.tag, true, now s, digest, body⟩ := by
  obtain ⟨port, tag, seq⟩ := r
  cases port with
  | host slot => simp [Answered, respond, respondHost, raiseMsi, slotOf]
  | mgmt addr udp =>
    simp only [Answered, respond]
    exact respondMgmt_answered s addr udp seq rfl
  | peer rank =>
    simp only [Answered, respond, respondPeer_messages]
    exact fun b hb => ⟨_, List.mem_append_right _ (List.mem_map_of_mem hb), rfl, rfl, rfl⟩

theorem respond_changes (s : State) (r : Req) (opcode : Nat) (st : Status) (final : Bool) (digest body : List Byte) :
    ChangesOnly { wire := true, traffic := true, outbox := true, mail := true } s (respond s r opcode st final digest body) :=
  respond_touch rfl rfl rfl rfl (ChangesOnly.refl s)

theorem respond_host (s : State) (r : Req) (opcode : Nat) (st : Status) (final : Bool) (digest body : List Byte) (a n : Nat) :
    hostBytes (respond s r opcode st final digest body) a n = hostBytes s a n := by
  have same := congrArg Prod.fst ((respond_changes s r opcode st final digest body).host rfl)
  exact congrArg (fun m => readBytes m a n) same

/-- What a function leaves of the mailboxes, where it may not change them. -/
theorem ChangesOnly.mailboxes {W : Parts} {s t : State} (h : ChangesOnly W s t) (hmail : W.mail = false) :
    t.eo.slots = s.eo.slots ∧ t.eo.ignoredDoorbells = s.eo.ignoredDoorbells ∧ t.eo.opened = s.eo.opened ∧
    t.eo.sources = s.eo.sources ∧ t.eo.reassembly = s.eo.reassembly := by
  have k := h.mail hmail
  simp only [Prod.mk.injEq] at k
  obtain ⟨_, hslots, hignored, hopened, _, hsources, hparts, _⟩ := k
  exact ⟨hslots, hignored, hopened, hsources, hparts⟩

theorem sendFragments_opened (s : State) (addr : Word) (udp : Half) (seq : Word) (msg : List Byte) :
    (sendFragments s addr udp seq msg).eo.opened = s.eo.opened := by
  have sent : ChangesOnly { traffic := true, outbox := true } s (sendFragments s addr udp seq msg) :=
    sendFragments_touch rfl rfl (ChangesOnly.refl s)
  exact (sent.mailboxes rfl).2.2.1

theorem respondMgmt_opened (s : State) (addr : Word) (udp : Half) (seq : Word) (x : Response) :
    (respondMgmt s addr udp seq x).eo.opened = s.eo.opened := by
  rw [← sendFragments_opened s addr udp seq (responseBytes x), respondMgmt]
  generalize sendFragments s addr udp seq (responseBytes x) = u
  cases x.final <;> rfl

theorem respondPeer_opened (s : State) (rank : Rank) (x : Response) : (respondPeer s rank x).eo.opened = s.eo.opened := by
  unfold respondPeer
  cases x.final <;> rfl

/-- No response opens or closes a class C command. -/
theorem respond_opened (s : State) (r : Req) (opcode : Nat) (st : Status) (final : Bool) (digest body : List Byte) :
    (respond s r opcode st final digest body).eo.opened = s.eo.opened := by
  obtain ⟨port, tag, seq⟩ := r
  cases port with
  | host slot => rfl
  | mgmt addr udp => exact respondMgmt_opened ..
  | peer rank => exact respondPeer_opened ..

/-! ### Admission -/

/-- Eomet serves from boot stage 2 on, and in recovery. -/
theorem not_unserved {s : State} (h : 2 ≤ s.pin.stage ∨ s.pin.recovery = true) : ¬ (s.pin.stage < 2 ∧ (!s.pin.recovery) = true) := by
  rintro ⟨hstage, hrec⟩
  rcases h with h | h
  · omega
  · rw [h] at hrec
    cases hrec

theorem serve_of_admitted {s : State} {r : Req} {opcode : Nat} (h : Admitted s r opcode) (f : State → State) :
    serve s r opcode f = f s := by
  obtain ⟨hserves, hheld, hrefusal⟩ := h
  have served : ¬ ((s.pin.stage < 2 ∧ (!s.pin.recovery) = true) ∨ slotHeld s r = true) := by
    rw [hheld]
    exact not_or.mpr ⟨not_unserved hserves, Bool.false_ne_true⟩
  rw [serve, if_neg served, hrefusal]

theorem serveC_of_admitted {s : State} {r : Req} {opcode : Nat} (h : Admitted s r opcode) (hopen : canOpen s opcode = true)
    (f : State → State) : serveC s r opcode f = f s := by
  rw [serveC, serve_of_admitted h]
  exact if_pos hopen

/-- An admitted command that serves its request with an answer leaves that answer on the port. -/
theorem runs_query {c : Instr} {s : State} {r : Req} {opcode : Nat} {f : State → State} {body : List Byte}
    (hexec : exec c s = .next (serve s r opcode f)) (hadmitted : Admitted s r opcode) (hanswer : f s = answer s r opcode body) :
    Runs c s (fun u => Answered u r (okResponse s r opcode [] body)) := by
  refine ⟨_, hexec, ?_⟩
  rw [serve_of_admitted hadmitted, hanswer]
  exact answered_respond s r opcode .ok [] body

theorem runs_settingGet {r : Req} {ids : List Word} {s : State} (hadmitted : Admitted s r 0x0107)
    (hfits : (0 < ids.length ∧ ids.length ≤ 1024) ∧ ∀ i ∈ ids, (settingRow i.toNat).isSome = true) :
    Runs (.settingGet r ids) s (fun u => Answered u r (okResponse s r 0x0107 [] (ids.flatMap (fun i => settingBytes s i.toNat)))) := by
  obtain ⟨⟨hsome, hmost⟩, hrows⟩ := hfits
  have known : ¬ (ids.any (fun i => (settingRow i.toNat).isNone) = true) := by
    simpa [Option.isNone_iff_eq_none, ← Option.isSome_iff_ne_none] using hrows
  exact runs_query rfl hadmitted ((if_neg (by omega)).trans (if_neg known))

theorem runs_contextRead {r : Req} {first : Word} {count : Half} {s : State} (hadmitted : Admitted s r 0x0411)
    (hfits : hasContexts s = true ∧ 1 ≤ count.toNat ∧ count.toNat ≤ 500 ∧ first.toNat + count.toNat ≤ 262144) :
    Runs (.contextRead r first count) s (fun u => Answered u r (okResponse s r 0x0411 []
      ((List.range count.toNat).flatMap (fun i => entryBytes s (first.toNat + i))))) := by
  obtain ⟨hctx, hsome, hmost, hend⟩ := hfits
  have inside : ¬ contextCount ≤ first.toNat := by
    show ¬ 262144 ≤ first.toNat
    omega
  have present : ¬ ((!hasContexts s) = true) := by rw [hctx]; exact Bool.false_ne_true
  exact runs_query rfl hadmitted ((if_neg present).trans ((if_neg inside).trans (if_pos ⟨hsome, hmost, hend⟩)))

theorem runs_powerStatus {r : Req} {kind : Byte} {index : Half} {body : List Byte} {s : State} (hadmitted : Admitted s r 0x0601)
    (hblock : powerBlock (shadowOf s) kind.toNat index.toNat = some body) :
    Runs (.powerStatus r kind index) s (fun u => Answered u r (okResponse s r 0x0601 [] body)) :=
  runs_query rfl hadmitted (by rw [hblock])

theorem runs_dumpStatus {r : Req} {s : State} (hadmitted : Admitted s r 0x0A07) :
    Runs (.dumpStatus r) s (fun u => Answered u r (okResponse s r 0x0A07 []
      ((s.cnt.ring.map (fun g => bufferBytes g.addr g.length ++ ringHeader g)).getD (List.replicate 80 0)))) :=
  runs_query rfl hadmitted (by cases s.cnt.ring <;> rfl)

/-- Settles O41: each query's meaning is `serve` of an answer, given where its operands are in range. -/
theorem queriesAnswerFromTheState : Obligations.QueriesAnswerFromTheState := by
  intro r tile mask first16 count lake idx ids first st kind first8 count8 slot lmask s c opcode fits body hrow hfits hadm
  simp only [List.mem_cons, List.not_mem_nil, or_false, Prod.mk.injEq] at hrow
  rcases hrow with ⟨rfl, rfl, rfl, rfl⟩ | ⟨rfl, rfl, rfl, rfl⟩ | ⟨rfl, rfl, rfl, rfl⟩ | ⟨rfl, rfl, rfl, rfl⟩ | ⟨rfl, rfl, rfl, rfl⟩ |
    ⟨rfl, rfl, rfl, rfl⟩ | ⟨rfl, rfl, rfl, rfl⟩ | ⟨rfl, rfl, rfl, rfl⟩ | ⟨rfl, rfl, rfl, rfl⟩ | ⟨rfl, rfl, rfl, rfl⟩ |
    ⟨rfl, rfl, rfl, rfl⟩ | ⟨rfl, rfl, rfl, -⟩ | ⟨rfl, rfl, rfl, rfl⟩ | ⟨rfl, rfl, rfl, rfl⟩ | ⟨rfl, rfl, rfl, rfl⟩ |
    ⟨rfl, rfl, rfl, rfl⟩ | ⟨rfl, rfl, rfl, rfl⟩ | ⟨rfl, rfl, rfl, rfl⟩ | ⟨rfl, rfl, rfl, rfl⟩
  case _ => exact runs_query rfl hadm rfl                                    -- IDENTITY
  case _ => exact runs_query rfl hadm rfl                                    -- RUN_STATUS
  case _ => exact runs_query rfl hadm (if_pos hfits)                         -- EVENT_READ
  case _ => exact runs_settingGet hadm hfits                                 -- SETTING_GET
  case _ => exact runs_query rfl hadm rfl                                    -- ARRAY_STATUS
  case _ => exact runs_query rfl hadm rfl                                    -- LEDGER_HEAD
  case _ => exact runs_query rfl hadm (if_pos hfits)                         -- MEMORY_STATUS
  case _ => exact runs_query rfl hadm (if_pos hfits)                         -- NUMERICS_STATE
  case _ => exact runs_contextRead hadm hfits                                -- CONTEXT_READ
  case _ => exact runs_query rfl hadm (if_pos hfits)                         -- LINK_STATUS
  case _ => exact runs_query rfl hadm (if_pos hfits)                         -- QUEUE_STATUS
  case _ => exact runs_powerStatus hadm hfits                                -- POWER_STATUS
  case _ => exact runs_query rfl hadm (if_pos hfits)                         -- AOM_FILTER_READ
  case _ => exact runs_query rfl hadm rfl                                    -- IDENTITY_CERT
  case _ => exact runs_query rfl hadm rfl                                    -- PLAN_STATUS
  case _ => exact runs_query rfl hadm (if_pos hfits)                         -- HEALTH_READ
  case _ => exact runs_query rfl hadm (if_pos hfits)                         -- COUNTER_READ
  case _ => exact runs_query rfl hadm (if_pos hfits)                         -- BANDWIDTH_READ
  case _ => exact runs_dumpStatus hadm                                       -- DUMP_STATUS

/-! ### Class C commands: opening -/

theorem accept_opened (s : State) (r : Req) (opcode : Nat) (args : List Nat) (digest : List Byte) :
    (accept s r opcode args digest).eo.opened = s.eo.opened ++ [{ opcode := opcode, req := r, args := args }] := respond_opened ..

/-- An admitted class C command that accepts its request, with room for it, opens with its operands. -/
theorem runs_accepted {c : Instr} {s : State} {r : Req} {opcode : Nat} {f : State → State} {args : List Nat} {digest : List Byte}
    (hexec : exec c s = .next (serveC s r opcode f)) (hadmitted : Admitted s r opcode) (hopen : canOpen s opcode = true)
    (haccept : f s = accept s r opcode args digest) :
    Runs c s (fun u => u.eo.opened = s.eo.opened ++ [{ opcode := opcode, req := r, args := args }]) := by
  refine ⟨_, hexec, ?_⟩
  rw [serveC_of_admitted hadmitted hopen, haccept]
  exact accept_opened s r opcode args digest

/-! ### Host memory -/

theorem hostBytes_writeHost (s : State) (a : Nat) (bytes : List Byte) : hostBytes (writeHost s a bytes) a bytes.length = bytes :=
  readBytes_writeBytes s.mem.host a bytes

/-- What host DMA reads of device memory does not depend on host memory. -/
theorem committedBytes_writeHost (s : State) (a n b : Nat) (bytes : List Byte) :
    committedBytes (writeHost s b bytes) a n = committedBytes s a n := rfl

theorem committedBytes_length_le (s : State) (a n : Nat) : (committedBytes s a n).length ≤ n := List.length_take_le ..

/-- The records that LEDGER_EXPORT moves, in host memory, for a ring. -/
def exportRing (ring : Nat × Nat) (first host count : Nat) (s : State) : State :=
  (List.range count).foldl (fun s i => writeHost s (host + 8192 * i) (committedBytes s (recordAddr ring (first + i)) 8192)) s

theorem exportRecords_eq {s : State} {ring : Nat × Nat} (h : s.plan.loaded.bind ledgerRing = some ring) (first count host : Nat) :
    exportRecords s first count host = exportRing ring first host count s := by
  unfold exportRecords
  rw [h]
  rfl

theorem exportRing_succ (ring : Nat × Nat) (first host count : Nat) (s : State) :
    exportRing ring first host (count + 1) s = writeHost (exportRing ring first host count s) (host + 8192 * count)
      (committedBytes (exportRing ring first host count s) (recordAddr ring (first + count)) 8192) := by
  simp only [exportRing, List.range_succ, List.foldl_append, List.foldl_cons, List.foldl_nil]

/-- Moving the records writes host memory and nothing else. -/
theorem exportRing_frame (ring : Nat × Nat) (first host count : Nat) (s : State) :
    ∃ m, exportRing ring first host count s = { s with mem.host := m } := by
  induction count with
  | zero => exact ⟨s.mem.host, rfl⟩
  | succ n ih =>
    obtain ⟨m, hm⟩ := ih
    rw [exportRing_succ, hm]
    exact ⟨_, rfl⟩

/-- The records lie 8,192 bytes apart, so that each stays as written. -/
theorem hostBytes_exportRing (ring : Nat × Nat) (first host count : Nat) (s : State) {i : Nat} (hi : i < count) :
    let d := committedBytes s (recordAddr ring (first + i)) 8192
    hostBytes (exportRing ring first host count s) (host + 8192 * i) d.length = d := by
  intro d
  have hd : d.length ≤ 8192 := committedBytes_length_le ..
  induction count with
  | zero => omega
  | succ n ih =>
    obtain ⟨m, hm⟩ := exportRing_frame ring first host n s
    have same : committedBytes (exportRing ring first host n s) (recordAddr ring (first + n)) 8192 =
        committedBytes s (recordAddr ring (first + n)) 8192 := by rw [hm]; rfl
    rw [exportRing_succ, same]
    rcases Nat.lt_succ_iff_lt_or_eq.mp hi with hlt | rfl
    · exact (readBytes_writeBytes_other (Or.inl (by omega))).trans (ih hlt)
    · exact hostBytes_writeHost ..

/-! ### Class C commands: their data -/

theorem runs_exportDone {r : Req} {s : State} {c : OpenCommand} {ring : Nat × Nat} (hopen : openCommand s r 0x0203 = some c)
    (hring : s.plan.loaded.bind ledgerRing = some ring) :
    Runs (.ledgerExportDone r) s (fun u =>
      u.eo.opened = s.eo.opened.erase c ∧ Answered u r (okResponse s r 0x0203 [] (bytesLE 4 (c.args.getD 1 0))) ∧
      ∀ i < c.args.getD 1 0, let d := committedBytes s (recordAddr ring (c.args.getD 0 0 + i)) 8192
        hostBytes u (c.args.getD 2 0 + 8192 * i) d.length = d) := by
  have hexec : exec (.ledgerExportDone r) s = .next (respond
      (exportRing ring (c.args.getD 0 0) (c.args.getD 2 0) (c.args.getD 1 0) (closeCommand s c)) r 0x0203 .ok true []
      (bytesLE 4 (c.args.getD 1 0))) := by
    show execLedgerExportDone r s = _
    rw [execLedgerExportDone, hopen]
    rw [← exportRecords_eq (s := closeCommand s c) hring]
  obtain ⟨m, hm⟩ := exportRing_frame ring (c.args.getD 0 0) (c.args.getD 2 0) (c.args.getD 1 0) (closeCommand s c)
  refine ⟨_, hexec, ?_, ?_, fun i hi => ?_⟩
  · rw [respond_opened, hm]
    rfl
  · have hnow : now (exportRing ring (c.args.getD 0 0) (c.args.getD 2 0) (c.args.getD 1 0) (closeCommand s c)) = now s := by
      rw [hm]
      rfl
    rw [okResponse, ← hnow]
    exact answered_respond ..
  · exact (respond_host ..).trans (hostBytes_exportRing ring _ _ _ (closeCommand s c) hi)

theorem runs_transferDone {r : Req} {s : State} {c : OpenCommand} (poisoned : Bool) (hopen : openCommand s r 0x0303 = some c) :
    Runs (.hostTransferDone r poisoned) s (fun u =>
      (c.args.getD 0 0 = 0 → u.eo.opened = s.eo.opened.erase c ∧
        Answered u r (okResponse s r 0x0303 [] (bytesLE 8 (c.args.getD 3 0))) ∧
        let d := committedBytes s (c.args.getD 1 0) (c.args.getD 3 0)
        hostBytes u (c.args.getD 2 0) d.length = d) ∧
      (c.args.getD 0 0 ≠ 0 → u.eo.opened = s.eo.opened ∧ u.mem.landed = s.mem.landed ++
        [{ addr := c.args.getD 1 0, data := hostBytes s (c.args.getD 2 0) (c.args.getD 3 0), poisoned := poisoned, req := r }])) := by
  unfold Runs
  show ∃ t, execHostTransferDone r poisoned s = .next t ∧ _
  rw [execHostTransferDone, hopen]
  dsimp only
  split
  case isTrue hread =>
    refine ⟨_, rfl, fun _ => ⟨?_, answered_respond .., ?_⟩, fun h => absurd hread h⟩
    · rw [respond_opened]
      rfl
    · exact (respond_host ..).trans (hostBytes_writeHost (closeCommand s c) _ _)
  case isFalse hwrite => exact ⟨_, rfl, fun h => absurd h hwrite, fun _ => ⟨rfl, rfl⟩⟩

theorem runs_healthLogDone {r : Req} {s : State} {c : OpenCommand} (hopen : openCommand s r 0x0902 = some c) :
    Runs (.healthLogDone r) s (fun u =>
      let es := (s.hl.log.drop (c.args.getD 0 0)).take (c.args.getD 1 0)
      u.eo.opened = s.eo.opened.erase c ∧ Answered u r (okResponse s r 0x0902 [] (bytesLE 4 es.length)) ∧
      hostBytes u (c.args.getD 2 0) (es.flatMap logBytes).length = es.flatMap logBytes) := by
  unfold Runs
  show ∃ t, execHealthLogDone r s = .next t ∧ _
  rw [execHealthLogDone, hopen]
  refine ⟨_, rfl, ?_, answered_respond .., ?_⟩
  · rw [respond_opened]
    rfl
  · rw [respond_host]
    exact hostBytes_writeHost (closeCommand s c) _ _

/-- Settles O44: three requests open with their operands, and their completions move the data. -/
theorem exportsAndTransfersReachHostMemory : Obligations.ExportsAndTransfersReachHostMemory := by
  intro r frame count first host device length s
  refine ⟨?_, ?_, ?_, fun c ring => runs_exportDone, fun c poisoned => runs_transferDone poisoned, fun c => runs_healthLogDone⟩
  · exact fun hadm hopen hlow hhigh hexist => runs_accepted rfl hadm hopen (if_pos ⟨hlow, hhigh, hexist⟩)
  · exact fun hadm hopen hlen hwhole husable =>
      ⟨runs_accepted rfl hadm hopen (if_pos ⟨hlen, hwhole, husable⟩), runs_accepted rfl hadm hopen (if_pos ⟨hlen, hwhole, husable⟩)⟩
  · exact fun hadm hopen hcount => runs_accepted rfl hadm hopen (if_neg hcount)

end Sys2Proof.Machine
end

section
/-!
PROOFS. How requests arrive: by doorbell, register write, datagram and peer message.
-/
namespace Sys2Proof.Machine
open Sys2Proof

/-! ### Admitting a request -/

/-- A request of a known opcode, a fitting length and no refusal is left to its command; it only counts as activity. -/
theorem admitRequest_of_fits (s : State) (r : Req) (h : List Byte) (hrefusal : refusal s r (headerOpcode h) = none)
    (hfits : lengthFits (headerOpcode h) (headerLength h) = some true) : admitRequest s r h = active s (blockIo 0) 3 1 := by
  have counted : refusal (active s (blockIo 0) 3 1) r (headerOpcode h) = none := hrefusal
  simp only [admitRequest, counted, hfits]

theorem admitRequest_of_unknown (s : State) (r : Req) (h : List Byte) (hrefusal : refusal s r (headerOpcode h) = none)
    (hunknown : lengthFits (headerOpcode h) (headerLength h) = none) :
    admitRequest s r h = refuse (active s (blockIo 0) 3 1) r (headerOpcode h) .badOpcode := by
  have counted : refusal (active s (blockIo 0) 3 1) r (headerOpcode h) = none := hrefusal
  simp only [admitRequest, counted, hunknown]

theorem eometServes_of {s : State} (h : 2 ≤ s.pin.stage ∨ s.pin.recovery = true) : eometServes s = true := by
  simpa [eometServes] using h

/-! ### Doorbells -/

/-- A slot with the opcode of the request that its doorbell has rung for. -/
def openSlot (s : State) (slot opcode : Nat) : State :=
  { s with eo.slots := tmod HostSlot.closed s.eo.slots slot (fun x => { x with openReq := some opcode }) }

theorem refusal_openSlot (s : State) (slot opcode n : Nat) (r : Req) : refusal (openSlot s slot opcode) r n = refusal s r n := rfl

theorem slotOf_openSlot (s : State) (slot opcode : Nat) :
    slotOf (openSlot s slot opcode) slot = { slotOf s slot with openReq := some opcode } := by
  simp [slotOf, openSlot]

theorem slotOf_respondHost (s : State) (slot : Nat) (x : Response) : slotOf (respondHost s slot x) slot =
    { openReq := if x.final then none else some x.opcode, done := (slotOf s slot).done + 1, response := some x } := by
  simp [slotOf, respondHost, raiseMsi]

/-- A doorbell of a free slot opens the request in its buffer and admits it. -/
theorem ringDoorbell_of_free {s : State} {slot : Fin 16} {h : List Byte} (hbuffer : readBytes s.eo.buffers (0x10000 * slot.val) 32 = h)
    (hserves : 2 ≤ s.pin.stage ∨ s.pin.recovery = true) (hslot : (slotOf s slot).openReq = none)
    (hheld : s.eo.opened.any (fun c => c.req.port == .host slot) = false) :
    ringDoorbell s slot =
      admitRequest (openSlot s slot (headerOpcode h)) { port := .host slot, tag := headerTag h, seq := 0 } h := by
  have hfin : Fin.ofNat 16 slot.val = slot := by simp
  have free : ¬ ((slotOf s slot).openReq.isSome = true ∨ slotHeld s { port := .host slot, tag := 0, seq := 0 } = true) := by
    rw [hslot, show slotHeld s { port := .host slot, tag := 0, seq := 0 } = false from hheld]
    decide
  simp only [ringDoorbell, bufferBase, eometServes_of hserves, hfin, if_neg free, hbuffer]
  rfl

theorem ringDoorbell_of_open {s : State} {slot : Fin 16} (hserves : 2 ≤ s.pin.stage ∨ s.pin.recovery = true)
    (hopen : (slotOf s slot).openReq.isSome = true) :
    ringDoorbell s slot = raise { s with eo.ignoredDoorbells := s.eo.ignoredDoorbells + 1 } 0x0109 unitNone noLevel [slot.val] := by
  rw [ringDoorbell, eometServes_of hserves, if_neg (by decide), if_pos (Or.inl hopen)]

theorem ringDoorbell_fits {s : State} {slot : Fin 16} {h : List Byte} (hbuffer : readBytes s.eo.buffers (0x10000 * slot.val) 32 = h)
    (hserves : 2 ≤ s.pin.stage ∨ s.pin.recovery = true) (hslot : (slotOf s slot).openReq = none)
    (hheld : s.eo.opened.any (fun c => c.req.port == .host slot) = false)
    (hrefusal : refusal s { port := .host slot, tag := headerTag h, seq := 0 } (headerOpcode h) = none)
    (hfits : lengthFits (headerOpcode h) (headerLength h) = some true) :
    (slotOf (ringDoorbell s slot) slot).openReq = some (headerOpcode h) ∧ (ringDoorbell s slot).pin = s.pin ∧
    (ringDoorbell s slot).eo.opened = s.eo.opened := by
  rw [ringDoorbell_of_free hbuffer hserves hslot hheld,
    admitRequest_of_fits (openSlot s slot (headerOpcode h)) _ h ((refusal_openSlot ..).trans hrefusal) hfits]
  exact ⟨congrArg HostSlot.openReq (slotOf_openSlot ..), rfl, rfl⟩

theorem ringDoorbell_unknown {s : State} {slot : Fin 16} {h : List Byte} (hbuffer : readBytes s.eo.buffers (0x10000 * slot.val) 32 = h)
    (hserves : 2 ≤ s.pin.stage ∨ s.pin.recovery = true) (hslot : (slotOf s slot).openReq = none)
    (hheld : s.eo.opened.any (fun c => c.req.port == .host slot) = false)
    (hrefusal : refusal s { port := .host slot, tag := headerTag h, seq := 0 } (headerOpcode h) = none)
    (hunknown : lengthFits (headerOpcode h) (headerLength h) = none) :
    slotOf (ringDoorbell s slot) slot =
      ⟨none, (slotOf s slot).done + 1, some ⟨headerOpcode h, .badOpcode, headerTag h, true, now s, [], []⟩⟩ := by
  rw [ringDoorbell_of_free hbuffer hserves hslot hheld,
    admitRequest_of_unknown (openSlot s slot (headerOpcode h)) _ h ((refusal_openSlot ..).trans hrefusal) hunknown]
  refine (slotOf_respondHost ..).trans ?_
  rw [show slotOf (active (openSlot s slot (headerOpcode h)) (blockIo 0) 3 1) slot = slotOf (openSlot s slot (headerOpcode h)) slot
    from rfl, slotOf_openSlot]
  rfl

theorem ringDoorbell_open {s : State} {slot : Fin 16} (hserves : 2 ≤ s.pin.stage ∨ s.pin.recovery = true)
    (hopen : (slotOf s slot).openReq.isSome = true) :
    (ringDoorbell s slot).eo.ignoredDoorbells = s.eo.ignoredDoorbells + 1 ∧ (ringDoorbell s slot).eo.slots = s.eo.slots := by
  rw [ringDoorbell_of_open hserves hopen]
  have raised : ∀ u : State, ChangesOnly { traffic := true, ev := true, outbox := true } u (raise u 0x0109 unitNone noLevel [slot.val]) :=
    fun u => raise_touch rfl rfl rfl (ChangesOnly.refl u)
  obtain ⟨hslots, hignored, _⟩ := (raised { s with eo.ignoredDoorbells := s.eo.ignoredDoorbells + 1 }).mailboxes rfl
  exact ⟨hignored, hslots⟩

/-! ### Register writes -/

/-- The state with other bytes in the buffers of the host slots. -/
def withBuffers (s : State) (m : Table Byte) : State := { s with eo.buffers := m }

/-- A byte within a slot's request half goes into its buffer. -/
theorem putBar_request {s : State} {slot o off : Nat} (hslot : slot < 16) (ho : o < 0x8000) (hoff : off = 0x20000 + 0x10000 * slot + o)
    (b : Byte) : putBar s off b = withBuffers s (tset 0 s.eo.buffers (0x10000 * slot + o) b) := by
  rw [putBar, if_pos (by omega), show off - 0x20000 = 0x10000 * slot + o by omega]
  rfl

/-- A byte below the buffers reaches none. -/
theorem putBar_below {s : State} {off : Nat} (h : off < 0x20000) (b : Byte) : putBar s off b = s := by
  rw [putBar, if_neg (by omega)]

/-- Bytes within a slot's request half, from the k-th on, go into its buffer in order. -/
theorem foldl_putBar_request {slot off o : Nat} (hslot : slot < 16) (hoff : off = 0x20000 + 0x10000 * slot + o) (data : List Byte) :
    ∀ {k : Nat} {s : State}, o + k + data.length ≤ 0x8000 →
    (data.zipIdx k).foldl (fun s x => putBar s (off + x.2) x.1) s =
      withBuffers s (writeBytes s.eo.buffers (0x10000 * slot + (o + k)) data) := by
  induction data with
  | nil => exact fun _ => rfl
  | cons b data ih =>
    intro k s h
    rw [List.length_cons] at h
    rw [List.zipIdx_cons, List.foldl_cons, putBar_request (o := o + k) hslot (by omega) (by dsimp only; omega), ih (by omega)]
    rfl

theorem foldl_putBar_below {off : Nat} (data : List Byte) : ∀ {k : Nat} {s : State}, off + k + data.length ≤ 0x20000 →
    (data.zipIdx k).foldl (fun s x => putBar s (off + x.2) x.1) s = s := by
  induction data with
  | nil => exact fun _ => rfl
  | cons b data ih =>
    intro k s h
    rw [List.length_cons] at h
    rw [List.zipIdx_cons, List.foldl_cons, putBar_below (by dsimp only; omega), ih (by omega)]

/-- A write above the doorbells rings none. -/
theorem rungSlots_above {off n : Nat} (h : 0x20000 ≤ off) : rungSlots off n = [] := by
  refine List.filter_eq_nil_iff.mpr (fun k hk => ?_)
  have := List.mem_range.mp hk
  simp
  omega

/-- A write of 8 bytes to a doorbell rings that one. -/
theorem rungSlots_doorbell (slot : Fin 16) : rungSlots (0x10000 + 8 * slot.val) 8 = [slot.val] := by
  revert slot
  decide

theorem registerWrite_request {slot : Fin 16} {off : BitVec 24} {data : List Byte} {o : Nat} (s : State) (hlen : o + data.length ≤ 0x8000)
    (hoff : off.toNat = 0x20000 + 0x10000 * slot.val + o) : exec (.registerWrite off data) s =
      .next { s with pin.pcieUp := true, eo.buffers := writeBytes s.eo.buffers (0x10000 * slot.val + o) data } := by
  have stored := foldl_putBar_request (k := 0) (s := { s with pin.pcieUp := true }) slot.isLt hoff data hlen
  show execRegisterWrite off data s = _
  rw [execRegisterWrite, rungSlots_above (by omega)]
  exact congrArg Host.Outcome.next stored

theorem registerWrite_doorbell {slot : Fin 16} {off : BitVec 24} {data : List Byte} (s : State)
    (hoff : off.toNat = 0x10000 + 8 * slot.val) (hlen : data.length = 8) :
    exec (.registerWrite off data) s = exec (.doorbell slot) s := by
  have hslot := slot.isLt
  have unstored := foldl_putBar_below (off := off.toNat) (k := 0) (s := { s with pin.pcieUp := true }) data (by omega)
  show execRegisterWrite off data s = _
  rw [execRegisterWrite, hlen, hoff, rungSlots_doorbell, ← hoff]
  exact congrArg (fun u => Host.Outcome.next (ringDoorbell u slot)) unstored

/-! ### Datagrams -/

/-- A served datagram counts at its port; one that is a request with the right auth field is taken as a fragment. -/
theorem mgmtDatagram_request {s : State} {addr : Word} {udp : Half} {seq : Word} {bytes : List Byte}
    (hserves : 2 ≤ s.pin.stage ∨ s.pin.recovery = true) (hrequest : isRequest bytes = true)
    (hseq : natLE ((bytes.drop 8).take 4) = seq.toNat)
    (hauth : authField s (bytes.take 16 ++ bytes.drop 32) = (bytes.drop 16).take 16) :
    exec (.mgmtDatagram addr udp bytes) s =
      .next (takeFragment (portBytes s 126 bytes.length) addr udp seq (natLE ((bytes.drop 6).take 1)) (bytes.drop 32)) := by
  have counted : (authField (portBytes s 126 bytes.length) (bytes.take 16 ++ bytes.drop 32) != (bytes.drop 16).take 16) = false := by
    rw [show authField (portBytes s 126 bytes.length) = authField s from rfl, hauth, bne_self_eq_false]
  show execMgmtDatagram addr udp bytes s = _
  simp only [execMgmtDatagram, if_neg (not_unserved hserves), hrequest, counted, hseq, BitVec.ofNat_toNat, BitVec.setWidth_eq,
    Bool.not_true, Bool.false_eq_true, if_false]

theorem mgmtDatagram_other {s : State} {bytes : List Byte} (addr : Word) (udp : Half)
    (hserves : 2 ≤ s.pin.stage ∨ s.pin.recovery = true) (hrequest : isRequest bytes = false) :
    exec (.mgmtDatagram addr udp bytes) s = .next (portBytes s 126 bytes.length) := by
  show execMgmtDatagram addr udp bytes s = _
  simp only [execMgmtDatagram, if_neg (not_unserved hserves), hrequest, Bool.not_false, if_true]

/-- The state with other requests being reassembled. -/
def withParts (s : State) (l : List Reassembly) : State := { s with eo.reassembly := l }

/-- The only fragment of a request: nothing waits, and this one is both the first and the last. -/
theorem takeFragment_only {s : State} {addr : Word} {udp : Half} {seq : Word} {msg : List Byte}
    (hnone : reassemblyOf s addr udp seq = ⟨addr, udp, seq, [], none⟩) (hshort : 32 ≤ msg.length) (hlong : msg.length ≤ 32768) :
    takeFragment s addr udp seq 64 msg = mgmtRequest (withParts s (otherParts s addr udp seq)) addr udp seq msg := by
  have final : (64 : Nat).testBit 6 = true := by decide
  have whole : (List.range (0 + 1)).all (fun i => (tfind (tput ([] : Table (List Byte)) 0 msg) i).isSome) = true := rfl
  have one : (tput ([] : Table (List Byte)) 0 msg).flatMap Prod.snd = msg := List.append_nil msg
  simp only [takeFragment, hnone, final, if_true, Nat.mod_self, whole, one, hshort, hlong, and_self, withParts]

/-- A fragment of several, while the last has not arrived: it is kept with the others. -/
theorem takeFragment_part {s : State} {addr : Word} {udp : Half} {seq : Word} {frag : Nat} {payload : List Byte} (hfrag : frag < 64)
    (hlast : (reassemblyOf s addr udp seq).last = none) :
    takeFragment s addr udp seq frag payload = { s with eo.reassembly := otherParts s addr udp seq ++
      [{ reassemblyOf s addr udp seq with parts := tput (reassemblyOf s addr udp seq).parts frag payload }] } := by
  have more : frag.testBit 6 = false := Nat.testBit_lt_two_pow hfrag
  simp only [takeFragment, more, Bool.false_eq_true, if_false, hlast, Nat.mod_eq_of_lt hfrag]

/-- A source with one more request open under its number. -/
def openRequest (s : State) (addr : Word) (udp : Half) (seq : Word) : State :=
  setSource s { sourceOf s addr udp with opened := seq :: (sourceOf s addr udp).opened }

theorem sourceOf_setSource (s : State) {m : MgmtSource} {addr : Word} {udp : Half} (haddr : m.addr = addr) (hudp : m.udp = udp) :
    sourceOf (setSource s m) addr udp = m := by
  simp [sourceOf, setSource, haddr, hudp]

theorem mem_opened_openRequest (s : State) (addr : Word) (udp : Half) (seq : Word) :
    seq ∈ (sourceOf (openRequest s addr udp seq) addr udp).opened := by
  obtain ⟨haddr, hudp⟩ := sourceOf_port s addr udp
  rw [openRequest, sourceOf_setSource s (addr := addr) (udp := udp)]
  · exact List.mem_cons_self ..
  · exact haddr
  · exact hudp

/-- A new request of a source, with room for another: it is open under its number, and admitted. -/
theorem mgmtRequest_new (s : State) {addr : Word} {udp : Half} {seq : Word} (msg : List Byte)
    (hanswered : (sourceOf s addr udp).answered = []) (hnew : seq ∉ (sourceOf s addr udp).opened)
    (hroom : (s.eo.sources.map (fun x => x.opened.length)).foldl (· + ·) 0 < 32) :
    mgmtRequest s addr udp seq msg =
      admitRequest (openRequest s addr udp seq) { port := .mgmt addr udp, tag := headerTag msg, seq := seq } msg := by
  have unopened : (sourceOf s addr udp).opened.contains seq = false := by simpa using hnew
  simp only [mgmtRequest, hanswered, List.find?_nil, unopened, List.isEmpty_nil, Bool.not_true, Bool.false_and, Bool.false_eq_true,
    if_false, if_neg (Nat.not_le.mpr hroom), openRequest]

/-- The only fragment of a new request that fits: the request is open, nothing of it waits, and it counts as activity. -/
theorem takeFragment_new {s : State} {addr : Word} {udp : Half} {seq : Word} {msg : List Byte}
    (hshort : 32 ≤ msg.length) (hlong : msg.length ≤ 32768) (hnone : reassemblyOf s addr udp seq = ⟨addr, udp, seq, [], none⟩)
    (hanswered : (sourceOf s addr udp).answered = []) (hnew : seq ∉ (sourceOf s addr udp).opened)
    (hroom : (s.eo.sources.map (fun x => x.opened.length)).foldl (· + ·) 0 < 32)
    (hrefusal : refusal s { port := .mgmt addr udp, tag := headerTag msg, seq := seq } (headerOpcode msg) = none)
    (hfits : lengthFits (headerOpcode msg) (headerLength msg) = some true) :
    takeFragment s addr udp seq 64 msg =
      active (openRequest (withParts s (otherParts s addr udp seq)) addr udp seq) (blockIo 0) 3 1 :=
  calc takeFragment s addr udp seq 64 msg
    _ = mgmtRequest (withParts s (otherParts s addr udp seq)) addr udp seq msg := takeFragment_only hnone hshort hlong
    _ = admitRequest (openRequest (withParts s (otherParts s addr udp seq)) addr udp seq) _ msg :=
      mgmtRequest_new _ msg hanswered hnew hroom
    _ = _ := admitRequest_of_fits _ _ msg hrefusal hfits

theorem isRequest_length {bytes : List Byte} (h : isRequest bytes = true) : (bytes.drop 32).length ≤ 1400 := by
  simp only [isRequest, Bool.and_eq_true, decide_eq_true_eq] at h
  exact h.2

/-! ### Peers -/

/-- The state with one more request of a rank open. -/
def openPeer (s : State) (rank : Rank) : State := { s with eo.peerOpen := tmod 0 s.eo.peerOpen rank.val (· + 1) }

theorem refusal_openPeer (s : State) (rank : Rank) (r : Req) (n : Nat) : refusal (openPeer s rank) r n = refusal s r n := rfl

/-- A served message of a peer: one more of its rank is open, and it is admitted or told to wait. -/
theorem peerRequest_served {s : State} (rank : Rank) {bytes : List Byte} (hserves : 2 ≤ s.pin.stage ∨ s.pin.recovery = true)
    (hshort : 32 ≤ bytes.length) (hlong : bytes.length ≤ 32768) :
    exec (.peerRequest rank bytes) s =
      let r : Req := { port := .peer rank, tag := headerTag bytes, seq := 0 }
      .next (if 8 ≤ tget 0 s.eo.peerOpen rank.val then refuse (openPeer s rank) r (headerOpcode bytes) .busy
        else admitRequest (openPeer s rank) r bytes) := by
  have inside : ¬ (s.pin.stage < 2 ∧ (!s.pin.recovery) = true ∨ bytes.length < 32 ∨ 32768 < bytes.length) :=
    not_or.mpr ⟨not_unserved hserves, by omega⟩
  show execPeerRequest rank bytes s = _
  simp only [execPeerRequest, if_neg inside, decide_eq_true_eq, openPeer]

theorem runs_peer_fits {s : State} {rank : Rank} {bytes : List Byte} (hserves : 2 ≤ s.pin.stage ∨ s.pin.recovery = true)
    (hshort : 32 ≤ bytes.length) (hlong : bytes.length ≤ 32768) (hroom : tget 0 s.eo.peerOpen rank.val < 8)
    (hrefusal : refusal s { port := .peer rank, tag := headerTag bytes, seq := 0 } (headerOpcode bytes) = none)
    (hfits : lengthFits (headerOpcode bytes) (headerLength bytes) = some true) :
    Runs (.peerRequest rank bytes) s (fun u => tget 0 u.eo.peerOpen rank.val = tget 0 s.eo.peerOpen rank.val + 1 ∧
      u.link.messages = s.link.messages) := by
  refine ⟨_, peerRequest_served rank hserves hshort hlong, ?_⟩
  rw [if_neg (Nat.not_le.mpr hroom),
    admitRequest_of_fits (openPeer s rank) _ bytes ((refusal_openPeer ..).trans hrefusal) hfits]
  exact ⟨tget_tmod_same 0 s.eo.peerOpen rank.val (· + 1), rfl⟩

theorem runs_peer_busy {s : State} {rank : Rank} {bytes : List Byte} (hserves : 2 ≤ s.pin.stage ∨ s.pin.recovery = true)
    (hshort : 32 ≤ bytes.length) (hlong : bytes.length ≤ 32768) (hfull : 8 ≤ tget 0 s.eo.peerOpen rank.val) :
    Runs (.peerRequest rank bytes) s (fun u => Answered u { port := .peer rank, tag := headerTag bytes, seq := 0 }
      ⟨headerOpcode bytes, .busy, headerTag bytes, true, now s, [], []⟩) := by
  refine ⟨_, peerRequest_served rank hserves hshort hlong, ?_⟩
  rw [if_pos hfull]
  exact answered_respond ..

/-- Settles O52: each clause is the lemma of its port. -/
theorem requestsArriveOnTheirPorts : Obligations.RequestsArriveOnTheirPorts := by
  intro slot off data bytes addr udp seq rank s h op free hostReq peerReq single msg mgmtReq
  refine ⟨fun hserves ⟨hslot, hheld⟩ => ⟨fun hrefusal hfits => ?doorbellFits, fun hrefusal hunknown => ?doorbellUnknown⟩,
    fun hserves hopen => ?doorbellOpen, fun o hlen hoff => registerWrite_request s hlen hoff,
    fun hoff hlen => registerWrite_doorbell s hoff hlen, fun hstage hrec => ?datagramEarly,
    fun hserves => ⟨mgmtDatagram_other addr udp hserves, ?datagramWhole, ?datagramPart⟩, rfl,
    fun hserves hshort hlong => ⟨?peerFits, ?peerBusy⟩⟩
  case doorbellFits =>
    obtain ⟨hopened, hpin, hclass⟩ :=
      ringDoorbell_fits (s := { s with pin.pcieUp := true }) (h := h) rfl hserves hslot hheld hrefusal hfits
    exact ⟨_, rfl, hopened, congrArg PinState.pcieUp hpin, hclass⟩
  case doorbellUnknown =>
    have closed := ringDoorbell_unknown (s := { s with pin.pcieUp := true }) (h := h) rfl hserves hslot hheld hrefusal hunknown
    exact ⟨_, rfl, congrArg HostSlot.openReq closed, congrArg HostSlot.done closed, congrArg HostSlot.response closed⟩
  case doorbellOpen => exact ⟨_, rfl, ringDoorbell_open (s := { s with pin.pcieUp := true }) hserves hopen⟩
  case datagramEarly =>
    show execMgmtDatagram addr udp bytes s = _
    rw [execMgmtDatagram, if_pos ⟨hstage, by rw [hrec]; rfl⟩]
  case datagramWhole =>
    intro hrequest ⟨hmsg, hfrag, hseq, hauth⟩ hnone hanswered hnew hroom hrefusal hfits
    have hlong : (bytes.drop 32).length ≤ 32768 := (isRequest_length hrequest).trans (by decide)
    have taken := takeFragment_new (s := portBytes s 126 bytes.length) hmsg hlong hnone hanswered hnew hroom hrefusal hfits
    refine ⟨_, mgmtDatagram_request hserves hrequest hseq hauth, ?_⟩
    rw [hfrag, taken]
    exact ⟨mem_opened_openRequest .., rfl⟩
  case datagramPart =>
    intro hrequest hfrag hseq hauth hlast
    have taken := takeFragment_part (s := portBytes s 126 bytes.length) (payload := bytes.drop 32) hfrag hlast
    exact ⟨_, mgmtDatagram_request hserves hrequest hseq hauth, congrArg (fun u => u.eo.reassembly) taken⟩
  case peerFits => exact fun hroom hrefusal hfits => runs_peer_fits hserves hshort hlong hroom hrefusal hfits
  case peerBusy => exact fun hfull => runs_peer_busy hserves hshort hlong hfull

end Sys2Proof.Machine
end

section
/-!
PROOFS. What moves an element's level; the byte 0x80 in the quantiser and in the arrays (R58).
-/
namespace Sys2Proof.Machine
open Sys2Proof

/-! ### The element levels -/

/-- Four commands may change the element levels: the array's programming, readback and test slots, and a plan's preparation. -/
theorem allowedBy_cells {c : Instr} (hprogram : ∀ a b m y, c ≠ .programmingSlot a b m y)
    (hreadback : ∀ a b r, c ≠ .vectorReadbackSlot a b r) (htest : ∀ a b r, c ≠ .testSlotRun a b r)
    (hprepare : c ≠ .preparationComplete) : (allowedBy c).cells = false := by
  cases c with
  | programmingSlot a b m y => exact absurd rfl (hprogram a b m y)
  | vectorReadbackSlot a b r => exact absurd rfl (hreadback a b r)
  | testSlotRun a b r => exact absurd rfl (htest a b r)
  | preparationComplete => exact absurd rfl hprepare
  | _ => rfl

/-- Settles O11: every command is steady but for what `allowedBy` names, and that is the levels for the excepted commands only. -/
theorem elementsMoveOnlyUnderProgramming : Obligations.ElementsMoveOnlyUnderProgramming :=
  fun c s t h hprogram hreadback htest hprepare =>
    (exec_steady c s t h).cells (allowedBy_cells hprogram hreadback htest hprepare)

/-! ### The quantiser's byte -/

/-- The byte 0x80 is −128 in two's complement, and no integer within ±127 is congruent to −128 modulo 256. -/
theorem ofInt_ne_minByte {q : Int} (h : q.natAbs ≤ 127) : BitVec.ofInt 8 q ≠ 0x80 := by
  intro e
  have value : (BitVec.ofInt 8 q).toInt = -128 := by rw [e]; decide
  rw [BitVec.toInt_ofInt, Int.bmod_def] at value
  omega

/-- The quantiser makes a byte of an element only within ±127. -/
theorem natAbs_of_quantElem_byte {scale : Rat} {x : FVal} {q : Int} (h : quantElem scale x = .byte q) : q.natAbs ≤ 127 := by
  unfold quantElem at h
  split at h
  · dsimp only at h
    split at h
    · cases h; assumption
    · split at h <;> cases h
  · cases h

theorem laneByte_quantElem_ne (draw i : Nat) (scale : Rat) (x : FVal) : laneByte draw i (quantElem scale x) ≠ 0x80 := by
  cases hq : quantElem scale x with
  | byte q => exact ofInt_ne_minByte (natAbs_of_quantElem_byte hq)
  | outlier q clamped =>
    simp only [laneByte]
    split
    · decide
    · assumption
  | bad => exact (by decide : (0 : Byte) ≠ 0x80)

/-! ### What the issue of a vector keeps -/

/-- The event state, the arrays and the runs in flight are the same: what the issue of a vector keeps until it adds its own run. -/
structure KeepsRuns (s t : State) : Prop where
  ev : t.ev = s.ev
  arrays : t.arrays = s.arrays
  mvms : t.ops.mvms = s.ops.mvms

namespace KeepsRuns

variable {s v : State}

theorem refl (s : State) : KeepsRuns s s := ⟨rfl, rfl, rfl⟩

theorem trans {u : State} (h : KeepsRuns s v) (k : KeepsRuns v u) : KeepsRuns s u :=
  ⟨k.ev.trans h.ev, k.arrays.trans h.arrays, k.mvms.trans h.mvms⟩

theorem arrOf_eq (h : KeepsRuns s v) (k : Nat) : arrOf v k = arrOf s k := by rw [arrOf, h.arrays]; rfl

theorem active (h : KeepsRuns s v) (b c n : Nat) : KeepsRuns s (active v b c n) := ⟨h.ev, h.arrays, h.mvms⟩
theorem modTile (h : KeepsRuns s v) (t : Nat) (f : TileState → TileState) : KeepsRuns s (modTile v t f) :=
  ⟨h.ev, h.arrays, h.mvms⟩
theorem tally (h : KeepsRuns s v) (gen t : Nat) (f : TileCounts → TileCounts) : KeepsRuns s (tally v gen t f) :=
  ⟨h.ev, h.arrays, h.mvms⟩
theorem addSums (h : KeepsRuns s v) (gen group vec : Nat) (ys : List Int) : KeepsRuns s (addSums v gen group vec ys) :=
  ⟨h.ev, h.arrays, h.mvms⟩
theorem vectorIssued (h : KeepsRuns s v) (gen op checks : Nat) : KeepsRuns s (vectorIssued v gen op checks) :=
  ⟨h.ev, h.arrays, h.mvms⟩

theorem noteShares (h : KeepsRuns s v) (gen tensor n zeros sat nf : Nat) :
    KeepsRuns s (noteShares v gen tensor n zeros sat nf) := by
  unfold Machine.noteShares
  split
  · exact ⟨h.ev, h.arrays, h.mvms⟩
  · exact h

theorem ensureOut (h : KeepsRuns s v) (f : PlanFrame) (t : Template) (d : Desc) (vec : Nat) (scale : Word) :
    KeepsRuns s (ensureOut v f t d vec scale) := by
  unfold Machine.ensureOut
  split
  · exact h
  · exact ⟨h.ev, h.arrays, h.mvms⟩

theorem crossing (h : KeepsRuns s v) (a b n : Nat) : KeepsRuns s (crossing v a b n) := by
  unfold Machine.crossing
  split
  · exact h
  · exact ⟨h.ev, h.arrays, h.mvms⟩

theorem markConsumed (h : KeepsRuns s v) (u off n : Nat) : KeepsRuns s (markConsumed v u off n) :=
  ⟨h.ev, h.arrays, h.mvms⟩
theorem stackRead (h : KeepsRuns s v) (k n : Nat) : KeepsRuns s (stackRead v k n) := ⟨h.ev, h.arrays, h.mvms⟩

theorem countRead (h : KeepsRuns s v) (t : Nat) (p : Place) (n : Nat) : KeepsRuns s (countRead v t p n) := by
  cases p with
  | tile u off => exact crossing (active (markConsumed h u off n) (blockTile u) 15 n) ..
  | hbm a => exact crossing (stackRead h ..) ..
  | none => exact h

end KeepsRuns

/-- With no poison in memory no place is marked. -/
theorem placeMarks_of_clean {s : State} (hhbm : s.mem.hbmPoison = []) (htile : s.mem.tilePoison = []) (p : Place) (n : Nat) :
    placeMarks s p n = [] := by
  cases p with
  | tile t off => simp [placeMarks, tileMarks, tileMark, htile, tfind]
  | hbm a => simp [placeMarks, hbmMarks, hbmMark, hhbm, tfind]
  | none => rfl

/-- Operands read from memory without poison consume nothing: only traffic is counted, and outputs are marked as read. -/
theorem useOperands_keepsRuns {s : State} (hhbm : s.mem.hbmPoison = []) (htile : s.mem.tilePoison = []) (gen t op : Nat)
    (ins : List (Place × Nat)) : KeepsRuns s (useOperands s gen t op ins (.none, 0)) := by
  have reads : ∀ (l : List (Place × Nat)) {v : State}, KeepsRuns s v →
      KeepsRuns s (l.foldl (fun v x => countRead v t x.1 x.2) v) := by
    intro l
    induction l with
    | nil => exact fun h => h
    | cons x l ih => exact fun h => ih (h.countRead t x.1 x.2)
  have unmarked : ins.flatMap (fun x => placeMarks s x.1 x.2) = [] := by simp [placeMarks_of_clean hhbm htile]
  simp only [useOperands, unmarked]
  exact reads ins (.refl s)

theorem tryFinishMvm_keepsRuns (s : State) (op : Nat) : KeepsRuns s (tryFinishMvm s op) := by
  have h : ChangesOnly { runs := true } s (tryFinishMvm s op) := tryFinishMvm_touch rfl (ChangesOnly.refl s)
  exact ⟨h.ev rfl, h.arrays rfl, by rw [h.ops rfl]⟩

/-! ### An operand byte of 0x80 -/

/-- The lanes of a vector without outliers are its A8 values. -/
theorem passLanes_of_no_outliers (a8 : List Int) : passLanes a8 [] [] false false = a8 := List.zipIdx_map_fst 0 a8

/-- A vector without outliers and without a granted fall-back issues in one pass, which applies its A8 values as they are. -/
theorem issueAnalogue_of_no_outliers (s : State) (f : PlanFrame) (t : Template) (d : Desc) (vec : Nat) (a8 : List Int)
    {rec : OutRecord} (hentries : rec.entries = []) (hgranted : (f.fallback.contains (mvLayer d) && !dsSplit d) = false) :
    ∃ v, KeepsRuns s v ∧ issueAnalogue s f t d vec a8 rec = tryFinishMvm (runPass v f d vec a8 false) (dsIndex d) := by
  unfold issueAnalogue
  simp only [hentries, hgranted, List.take_nil, List.drop_nil, List.filter_nil, List.any_nil, List.isEmpty_nil, if_true,
    Bool.false_eq_true, if_false, passLanes_of_no_outliers]
  refine ⟨_, ?_, rfl⟩
  exact KeepsRuns.refl s |>.ensureOut .. |>.addSums .. |>.modTile .. |>.active .. |>.tally .. |>.noteShares .. |>.vectorIssued ..

/-- A pass that drives a row of an array in service adds one run with the pass's lanes, and raises nothing. -/
theorem runPass_of_driven (s : State) (f : PlanFrame) (d : Desc) (vec : Nat) {lanes : List Int} (high : Bool)
    (hdriven : lanes.all (fun x => x == 0) = false) (hserves : (arrOf s (16 * dsTile d + dsArray d)).quarantined = false) :
    (runPass s f d vec lanes high).ev = s.ev ∧
      ∃ m, (runPass s f d vec lanes high).ops.mvms = s.ops.mvms ++ [m] ∧ m.lanes = lanes := by
  unfold runPass
  simp only [hdriven, hserves, Bool.false_eq_true, if_false]
  exact ⟨rfl, _, rfl, rfl⟩

/-- The cycle that a command carries is not read with an outlier list. -/
theorem recordAt_atCycle (s : State) (cyc : Nat) (p : Place) (v : Nat) : recordAt (atCycle s cyc) p v = recordAt s p v := by
  induction v with
  | zero => rfl
  | succ v ih => simp only [recordAt, ih]; rfl

/-- A byte 0x80 is the lane value −128, and so drives its row. -/
theorem lanes_of_minByte {bytes : List Byte} {j : Nat} (h : bytes[j]? = some 0x80) :
    (bytes.map (fun b => b.toInt))[j]? = some (-128) ∧ (bytes.map (fun b => b.toInt)).all (fun a => a == 0) = false := by
  have applied : (bytes.map (fun b => b.toInt))[j]? = some (-128) := by
    rw [List.getElem?_map, h]
    rfl
  exact ⟨applied, List.all_eq_false.mpr ⟨-128, List.mem_of_getElem? applied, by decide⟩⟩

/-- An analogue vector that is next in its operation, has no outliers and reads no poison: its run carries its A8 values. -/
theorem issueVector_adds_run {s : State} {op vec : Nat} {f : PlanFrame} {t : Template} {d : Desc} {x : InFlight} {bytes : List Byte}
    (hrun : s.fr.running = some f) (hdesc : runningDesc s op = some (t, d)) (hflight : f.inflight.find? (fun x => x.op == op) = some x)
    (hissues : dsClass d = 1 ∧ x.vectors = vec ∧ vec < mvVectors d ∧ limiterLevel s (dsTile d) < 16)
    (hanalogue : dsReference d = false) (hserves : (arrOf s (16 * dsTile d + dsArray d)).quarantined = false)
    (hgranted : (f.fallback.contains (mvLayer d) && !dsSplit d) = false)
    (hentries : (recordAt s (placeOf s t f d d.d5) vec).1.entries = [])
    (hhbm : s.mem.hbmPoison = []) (htile : s.mem.tilePoison = [])
    (hbytes : placeBytes s ((placeOf s t f d d.d4).plus (512 * vec)) 512 = bytes)
    (hdriven : (bytes.map (fun b => b.toInt)).all (fun a => a == 0) = false) :
    (issueVector s op vec).ev = s.ev ∧
      ∃ m, (issueVector s op vec).ops.mvms = s.ops.mvms ++ [m] ∧ m.lanes = bytes.map (fun b => b.toInt) := by
  unfold issueVector
  simp only [hrun, hdesc, hflight, if_pos hissues, hanalogue, Bool.false_eq_true, if_false, hbytes]
  obtain ⟨v, prepared, issued⟩ := issueAnalogue_of_no_outliers
    (useOperands s f.gen (dsTile d) op [((placeOf s t f d d.d4).plus (512 * vec), 512),
      ((recordAt s (placeOf s t f d d.d5) vec).2, (recordAt s (placeOf s t f d d.d5) vec).1.size)] (.none, 0))
    f t d vec (bytes.map (fun b => b.toInt)) hentries hgranted
  have keeps := (useOperands_keepsRuns hhbm htile ..).trans prepared
  obtain ⟨quiet, m, added, lanes⟩ := runPass_of_driven v f d vec false hdriven ((congrArg _ (keeps.arrOf_eq _)).trans hserves)
  have done := tryFinishMvm_keepsRuns (runPass v f d vec (bytes.map (fun b => b.toInt)) false) (dsIndex d)
  rw [issued]
  exact ⟨done.ev.trans (quiet.trans keeps.ev), m, by rw [done.mvms, added, keeps.mvms], lanes⟩

/-- Settles O60: the quantiser's half is `laneByte_quantElem_ne`; the lane at 0x80 drives its row, so the vector adds a run. -/
theorem theByte0x80IsNeverMadeAndIsApplied : Obligations.TheByte0x80IsNeverMadeAndIsApplied := by
  refine ⟨laneByte_quantElem_ne, ?_⟩
  intro op vec cyc s f t d x j hrun hdesc hflight hclass hanalogue hnext hmore hlimiter hserves hgranted hentries hhbm htile hbyte
  have hentries : (recordAt (atCycle s cyc) (placeOf s t f d d.d5) vec).1.entries = [] := by rw [recordAt_atCycle, hentries]
  obtain ⟨applied, driven⟩ := lanes_of_minByte hbyte
  obtain ⟨quiet, m, added, lanes⟩ := issueVector_adds_run (s := atCycle s cyc) hrun hdesc hflight ⟨hclass, hnext, hmore, hlimiter⟩
    hanalogue hserves hgranted hentries hhbm htile rfl driven
  exact ⟨_, rfl, quiet, m, added, -128, by rw [lanes]; exact applied, rfl, by decide, by decide⟩

end Sys2Proof.Machine
end

section
/-!
PROOFS. What an MVM vector adds to the runs of its array (R80, R91), what a granted rerun leaves of them (R93), and what an output
conversion leaves in tile memory (R125).
-/
namespace Sys2Proof.Machine
open Sys2Proof

/-! ### The passes of a vector -/

/-- The run that a driven pass of a vector starts on its array: in the running cycle, with the next draw of free values. -/
def passRun (s : State) (f : PlanFrame) (d : Desc) (vec : Nat) (lanes : List Int) (high : Bool) : MvmRun :=
  { gen := f.gen, op := dsIndex d, vec := vec, tile := dsTile d, array := dsArray d, cycle := s.fr.cycle, lanes := lanes,
    split := dsSplit d, high := high, rerun := false, draw := s.free }

/-- A pass without a driven row bypasses the array: no run, and no draw (R91). -/
theorem runPass_of_undriven (s : State) (f : PlanFrame) (d : Desc) (vec : Nat) {lanes : List Int} (high : Bool)
    (hzero : lanes.all (fun x => x == 0) = true) :
    (runPass s f d vec lanes high).ops.mvms = s.ops.mvms ∧ (runPass s f d vec lanes high).free = s.free := by
  unfold runPass
  rw [if_pos hzero]
  exact ⟨rfl, rfl⟩

/-- A pass that drives a row of an array in service takes one draw and adds exactly its run. -/
theorem runPass_adds_passRun (s : State) (f : PlanFrame) (d : Desc) (vec : Nat) {lanes : List Int} (high : Bool)
    (hdriven : lanes.all (fun x => x == 0) = false) (hserves : (arrOf s (16 * dsTile d + dsArray d)).quarantined = false) :
    (runPass s f d vec lanes high).free = s.free + 1 ∧
      (runPass s f d vec lanes high).ops.mvms = s.ops.mvms ++ [passRun s f d vec lanes high] := by
  unfold runPass
  simp only [hdriven, hserves, Bool.false_eq_true, if_false]
  exact ⟨rfl, rfl⟩

/-! ### The issue of a vector -/

/-- The parts that the issue of a vector may change before its pass: neither the draws nor the cycle is among them. -/
def issueParts : Parts :=
  { runs := true, tiles := true, arrays := true, ops := true, hbm := true, tileMem := true, upd := true, num := true, sync := true,
    traffic := true, ev := true, hl := true, outbox := true }

/-- A vector without outliers and without a granted fall-back issues in one pass. What comes before the pass keeps the runs, as
`issueAnalogue_of_no_outliers` says, and the draws and the cycle besides. -/
theorem issueAnalogue_single_pass {s₀ s : State} (keeps : KeepsRuns s₀ s) (quiet : ChangesOnly issueParts s₀ s) (f : PlanFrame)
    (t : Template) (d : Desc) (vec : Nat) (a8 : List Int) {rec : OutRecord} (hentries : rec.entries = [])
    (hgranted : (f.fallback.contains (mvLayer d) && !dsSplit d) = false) :
    ∃ v, KeepsRuns s₀ v ∧ ChangesOnly issueParts s₀ v ∧
      issueAnalogue s f t d vec a8 rec = tryFinishMvm (runPass v f d vec a8 false) (dsIndex d) := by
  unfold issueAnalogue
  simp only [hentries, hgranted, List.take_nil, List.drop_nil, List.filter_nil, List.any_nil, List.isEmpty_nil, if_true,
    Bool.false_eq_true, if_false, passLanes_of_no_outliers]
  refine ⟨_, ?_, ?_, rfl⟩
  · exact keeps |>.ensureOut .. |>.addSums .. |>.modTile .. |>.active .. |>.tally .. |>.noteShares .. |>.vectorIssued ..
  · exact quiet |> ensureOut_touch rfl |> addSums_touch rfl |> modTile_touch rfl |> active_touch rfl |> tally_touch rfl
      |> noteShares_touch rfl rfl |> vectorIssued_touch rfl

/-- An analogue vector that is next in its operation, has no outliers and reads no poison issues in one pass over its input bytes. -/
theorem issueVector_single_pass {s : State} {op vec : Nat} {f : PlanFrame} {t : Template} {d : Desc} {x : InFlight}
    (hrun : s.fr.running = some f) (hdesc : runningDesc s op = some (t, d)) (hflight : f.inflight.find? (fun x => x.op == op) = some x)
    (hissues : dsClass d = 1 ∧ x.vectors = vec ∧ vec < mvVectors d ∧ limiterLevel s (dsTile d) < 16)
    (hanalogue : dsReference d = false) (hgranted : (f.fallback.contains (mvLayer d) && !dsSplit d) = false)
    (hentries : (recordAt s (placeOf s t f d d.d5) vec).1.entries = [])
    (hhbm : s.mem.hbmPoison = []) (htile : s.mem.tilePoison = []) :
    ∃ v, KeepsRuns s v ∧ ChangesOnly issueParts s v ∧
      issueVector s op vec = tryFinishMvm (runPass v f d vec
        ((placeBytes s ((placeOf s t f d d.d4).plus (512 * vec)) 512).map BitVec.toInt) false) (dsIndex d) := by
  unfold issueVector
  simp only [hrun, hdesc, hflight, if_pos hissues, hanalogue, Bool.false_eq_true, if_false]
  exact issueAnalogue_single_pass (useOperands_keepsRuns hhbm htile ..)
    (useOperands_touch rfl rfl rfl rfl rfl rfl rfl rfl rfl rfl rfl rfl (.refl s)) f t d vec _ hentries hgranted

theorem tryFinishMvm_free (s : State) (op : Nat) : (tryFinishMvm s op).free = s.free :=
  (tryFinishMvm_touch (W := { runs := true }) rfl (ChangesOnly.refl s)).free rfl

/-- Settles O20: the vector issues in one pass, which bypasses the array where every byte is 0 and adds its run otherwise. -/
theorem mvmRunsItsArray : Obligations.MvmRunsItsArray := by
  intro op vec cyc s f t d x hrun hdesc hflight hclass hanalogue hnext hmore hlimiter hserves hgranted hentries hhbm htile
  have hentries : (recordAt (atCycle s cyc) (placeOf s t f d d.d5) vec).1.entries = [] := by rw [recordAt_atCycle, hentries]
  obtain ⟨v, keeps, quiet, issued⟩ := issueVector_single_pass (s := atCycle s cyc) hrun hdesc hflight
    ⟨hclass, hnext, hmore, hlimiter⟩ hanalogue hgranted hentries hhbm htile
  have drawn : v.free = s.free := quiet.free rfl
  have timed : v.fr.cycle = cyc := quiet.cycle rfl
  have listed : v.ops.mvms = s.ops.mvms := keeps.mvms
  refine ⟨_, rfl, ?_⟩
  dsimp only
  rw [issued, (tryFinishMvm_keepsRuns ..).mvms, tryFinishMvm_free]
  split
  case isTrue hzero =>
    obtain ⟨same, undrawn⟩ := runPass_of_undriven v f d vec false hzero
    exact ⟨same.trans listed, undrawn.trans drawn⟩
  case isFalse hdriven =>
    obtain ⟨draws, adds⟩ := runPass_adds_passRun v f d vec false (Bool.eq_false_of_not_eq_true hdriven)
      ((congrArg _ (keeps.arrOf_eq _)).trans hserves)
    refine ⟨draws.trans (congrArg (· + 1) drawn), adds.trans ?_⟩
    rw [listed, passRun, timed, drawn]

/-! ### A granted rerun -/

/-- A report without a cause, on an array whose MVMs get no verdict each, is a check that has reported. -/
theorem takeReport_of_no_cause {s : State} {m : MvmRun} {r : LoupeReport} (phases : List (Int × Int)) (split : Bool)
    (hcauses : r.causes = []) (hprism : (arrOf s (16 * m.tile + m.array)).alwaysPrism = false) :
    takeReport s m r phases split = checkReported s m.gen m.op := by
  simp [takeReport, hcauses, hprism]

/-- The delivery of a run changes outputs only, so Loupe reports on the run as it would before it. -/
theorem loupeReport_deliverRun (s : State) (m : MvmRun) (out : List (Int × Int)) (k : Nat) (lanes : List Int)
    (phases : List (Int × Int)) (split rail : Bool) :
    loupeReport (deliverRun (dropRun s m) m out) k lanes phases split rail = loupeReport s k lanes phases split rail := rfl

/-- The result of a split run without a cause takes that run off the list, and no other. -/
theorem splitResult_mvms {s : State} {m : MvmRun}
    (hcauses : (loupeReport s (16 * m.tile + m.array) m.lanes ((runPhases s m true).map Prod.fst) true
      ((runPhases s m true).any Prod.snd)).causes = [])
    (hprism : (arrOf s (16 * m.tile + m.array)).alwaysPrism = false) :
    (splitResult s m).ops.mvms = s.ops.mvms.filter (fun x => !(x == m)) := by
  unfold splitResult
  have serves : (arrOf (deliverRun (dropRun s m) m ((runPhases s m true).map Prod.fst)) (16 * m.tile + m.array)).alwaysPrism = false :=
    hprism
  simp only [loupeReport_deliverRun]
  rw [takeReport_of_no_cause _ _ hcauses serves,
    (checkReported_touch (W := { runs := true }) rfl (ChangesOnly.refl _)).ops rfl]
  rfl

/-- SPLIT_RERUN of a granted rerun without a cause takes it off the list: the traffic that it counts bears on no result. -/
theorem runs_splitRerun {tile : TileId} {arr : ArrIdx} {s : State} {m : MvmRun} (cyc : Nat) (hnext : nextRun s tile arr true = some m)
    (hcauses : (loupeReport s (16 * m.tile + m.array) m.lanes ((runPhases s m true).map Prod.fst) true
      ((runPhases s m true).any Prod.snd)).causes = [])
    (hprism : (arrOf s (16 * m.tile + m.array)).alwaysPrism = false) :
    Runs (.splitRerun tile arr cyc) s (fun u => u.ops.mvms = s.ops.mvms.filter (fun x => !(x == m))) := by
  have found : nextRun (atCycle s cyc) tile arr true = some m := hnext
  refine ⟨_, rfl, ?_⟩
  rw [found]
  exact splitResult_mvms (s := active (atCycle s cyc) (blockTile tile) 1 4) hcauses hprism

/-! ### Output conversion -/

/-- A BF16 value takes two bytes. -/
theorem length_floatBytes_bf16 (xs : List FVal) : (floatBytes true xs).length = 2 * xs.length := by
  induction xs with
  | nil => rfl
  | cons x xs ih =>
    have step : (floatBytes true (x :: xs)).length = 2 + (floatBytes true xs).length := by
      simp [floatBytes, bytesLE]
    rw [step, ih, List.length_cons]
    omega

theorem length_outputValues (o : GroupOut) : (outputValues o).length = o.sums.length := by
  simp [outputValues]

/-- An output vector that is written reads back at its place in its home tile. -/
theorem tileBytes_writeOutput (s : State) (o : GroupOut) :
    tileBytes (writeOutput s o) o.home o.addr (2 * o.sums.length) = floatBytes true (outputValues o) := by
  have size : 2 * o.sums.length = (floatBytes true (outputValues o)).length := by
    rw [length_floatBytes_bf16, length_outputValues]
  rw [size]
  exact tileBytes_writeTile s (some o.gen) o.home o.addr _ noPoison

/-- The parts that a conversion may change beside the output's own bytes: tile memory is not among them. -/
def reportParts : Parts := { runs := true, ops := true, num := true, traffic := true, ev := true, outbox := true }

/-- After the write of its output, a conversion only reports on it and completes its operations. -/
theorem convertOutput_after_write (s : State) (o : GroupOut) :
    ∃ v, ChangesOnly reportParts (writeOutput v o) (convertOutput s o) := by
  unfold convertOutput
  exact ⟨_, touch_foldl (ChangesOnly.refl _ |> noteNonFiniteRow_touch rfl rfl rfl rfl |> noteShares_touch rfl rfl
    |> noteFloats_touch rfl rfl |> modOut_touch rfl) (fun _ _ h => tryFinishMvm_touch rfl h)⟩

theorem tileBytes_of_changesOnly {W : Parts} {s v : State} (h : ChangesOnly W s v) (hW : W.tileMem = false) (t off n : Nat) :
    tileBytes v t off n = tileBytes s t off n := by
  have same : v.mem.tile = s.mem.tile := congrArg Prod.fst (h.tileMem hW)
  rw [tileBytes, same]
  rfl

theorem tileBytes_convertOutput (s : State) (o : GroupOut) :
    tileBytes (convertOutput s o) o.home o.addr (2 * o.sums.length) = floatBytes true (outputValues o) := by
  obtain ⟨v, reports⟩ := convertOutput_after_write s o
  rw [tileBytes_of_changesOnly reports rfl, tileBytes_writeOutput]

/-- Settles O22: the rerun's half is `splitResult_mvms`; the conversion writes the output, and nothing after it writes tile memory. -/
theorem rerunsAndConversionsComplete : Obligations.RerunsAndConversionsComplete := by
  refine ⟨fun tile arr cyc s m => runs_splitRerun cyc, ?_⟩
  intro tile group vec s o hfound harrived hreported hconverted
  refine ⟨_, rfl, ?_⟩
  rw [hfound]
  dsimp only
  rw [if_pos ⟨harrived, hreported, hconverted⟩]
  exact tileBytes_convertOutput s o

end Sys2Proof.Machine
end

section
/-!
PROOFS. Checking and arbitration: who moves the ledger's head and the rings (R144, R215), the ledger's chain (R144 to R149), Prism's
checker-wrong verdict and the read-back (R129 to R132), and what a failed check adds to its plan frame (R128, R133, R140).
-/
namespace Sys2Proof.Machine
open Sys2Proof

/-! ### The ledger's head and the rings -/

/-- Without a restart the ledger's head moves where a record is written and where a plan is taken or dropped. -/
theorem allowedBy_ledger {c : Instr} (hrun : restarts c = false) (hwrite : ∀ b y, c ≠ .ledgerRecordWrite b y)
    (hcommit : c ≠ .commitPoint) (htick : ∀ i, c ≠ .frameTick i) (hnow : ∀ r h l p, c ≠ .planLoadNow r h l p)
    (hboundary : ∀ r h l p, c ≠ .planLoadAtBoundary r h l p) (hselftest : c ≠ .selftestDone) : (allowedBy c).ledger = false := by
  cases c with
  | ledgerRecordWrite b y => exact absurd rfl (hwrite b y)
  | commitPoint => exact absurd rfl hcommit
  | frameTick i => exact absurd rfl (htick i)
  | planLoadNow r h l p => exact absurd rfl (hnow r h l p)
  | planLoadAtBoundary r h l p => exact absurd rfl (hboundary r h l p)
  | selftestDone => exact absurd rfl hselftest
  | powerOn | pgAonLoss | sysRstNRise | resetWarm | resetPowerCycle | fwActivate => exact Bool.noConfusion hrun
  | _ => rfl

/-- Without a restart the registration of the off-load buffer moves only at its two commands. -/
theorem allowedBy_offload {c : Instr} (hrun : restarts c = false) (hregister : ∀ r h l, c ≠ .offloadRegister r h l)
    (hrelease : ∀ r, c ≠ .offloadRelease r) : (allowedBy c).offload = false := by
  cases c with
  | offloadRegister r h l => exact absurd rfl (hregister r h l)
  | offloadRelease r => exact absurd rfl (hrelease r)
  | powerOn | pgAonLoss | sysRstNRise | resetWarm | resetPowerCycle | fwActivate => exact Bool.noConfusion hrun
  | _ => rfl

/-- Without a restart the dump ring moves at its three commands and at a function-level reset. -/
theorem allowedBy_dump {c : Instr} (hrun : restarts c = false) (hwrite : ∀ d, c ≠ .dumpRecordWrite d)
    (hregister : ∀ r h l, c ≠ .dumpRegister r h l) (hrelease : ∀ r, c ≠ .dumpRelease r)
    (hreset : ∀ y, c ≠ .functionLevelReset y) : (allowedBy c).dump = false := by
  cases c with
  | dumpRecordWrite d => exact absurd rfl (hwrite d)
  | dumpRegister r h l => exact absurd rfl (hregister r h l)
  | dumpRelease r => exact absurd rfl (hrelease r)
  | functionLevelReset y => exact absurd rfl (hreset y)
  | powerOn | pgAonLoss | sysRstNRise | resetWarm | resetPowerCycle | fwActivate => exact Bool.noConfusion hrun
  | _ => rfl

/-- Without a restart health time moves only at the model's second. -/
theorem allowedBy_time {c : Instr} (hrun : restarts c = false) (hsecond : c ≠ .eventSuppressionEnd) :
    (allowedBy c).time = false := by
  cases c with
  | eventSuppressionEnd => exact absurd rfl hsecond
  | powerOn | pgAonLoss | sysRstNRise | resetWarm | resetPowerCycle | fwActivate => exact Bool.noConfusion hrun
  | _ => rfl

/-- Settles O13: every command is steady but for what `allowedBy` names, and that is each register for the excepted commands only. -/
theorem ledgerAndRingsChangeOnlyByTheirCommands : Obligations.LedgerAndRingsChangeOnlyByTheirCommands := by
  intro c s t h hrun
  have steady : Steady (allowedBy c) s t := exec_steady c s t h
  refine ⟨fun hwrite hcommit htick hnow hboundary hselftest => ?_,
    fun hregister hrelease => steady.offload (allowedBy_offload hrun hregister hrelease),
    fun hwrite hregister hrelease hreset => steady.dump (allowedBy_dump hrun hwrite hregister hrelease hreset),
    fun hsecond => steady.time (allowedBy_time hrun hsecond)⟩
  exact Prod.mk.inj (steady.ledger (allowedBy_ledger hrun hwrite hcommit htick hnow hboundary hselftest))

/-! ### The ledger's chain -/

/-- A record that reads back is written whole and becomes the head; no record waits any more. -/
theorem writeRecord_of_readBack {p : PlanImage} {ring : Nat × Nat} (hring : ledgerRing p = some ring) (s : State) (r : RecordData) :
    writeRecord s p r true =
      { writeHbm s .plain (recordAddr ring r.frame) (recordBody s r ++ sha256 (recordBody s r)) noPoison with
        led.ready := none, led.latest := some r.frame, led.digest := sha256 (recordBody s r) } := by
  unfold writeRecord
  rw [hring]
  rfl

theorem ChangesOnly.withLedger {W : Parts} {s₀ s : State} (h : ChangesOnly W s₀ s) (hled : W.led = true) (l : LedgerState) :
    ChangesOnly W s₀ { s with led := l } :=
  h.trans { ChangesOnly.refl (W := W) s with led := off_of_on hled }

/-- Settles O18: the write of the record leaves the ledger alone, and the ledger then takes the record as its head. -/
theorem ledgerRecordsFormOneChain : Obligations.LedgerRecordsFormOneChain := by
  intro cyc s r p ring hready hloaded hring
  have hexec : exec (.ledgerRecordWrite true cyc) s = .next (writeRecord (atCycle s cyc) p r true) := by
    simp only [exec, execLedgerRecordWrite, atCycle_led, atCycle_plan, hready, hloaded]
  refine ⟨_, hexec, ?_⟩
  rw [writeRecord_of_readBack hring]
  have body : recordBody (atCycle s cyc) r = recordBody s r := rfl
  rw [body]
  generalize recordBody s r ++ sha256 (recordBody s r) = bytes
  refine ⟨?_, ChangesOnly.refl s |> atCycle_touch rfl |> writeHbm_touch rfl rfl |> (ChangesOnly.withLedger · rfl _)⟩
  have unwritten := (writeHbm_changes (atCycle s cyc) .plain (recordAddr ring r.frame) bytes noPoison).led rfl
  simp only [unwritten, atCycle_led]

/-! ### Prism's verdict -/

/-- The errors of a suspect's weight columns: what its array gave less the exact products (R129). -/
def prismErrors (s : State) (q : Suspect) : List Int :=
  List.zipWith (fun y x => y - x)
    (recombineAll (arrFmt s (16 * q.tile + q.array)) (q.phases.map (fun p => 16 * p.1 + p.2))) (exactY s (16 * q.tile + q.array) q.lanes)

theorem startReadback_regen (s : State) (k : Nat) : (arrOf (startReadback s k) k).regen = some 0 := by
  rw [startReadback, arrOf_modArr]

/-- Stage 2 of a regeneration starts at slot 0, whether or not the array was already regenerating. -/
theorem regenerate_regen (s : State) (k : Nat) : (arrOf (regenerate s k) k).regen = some 0 := by
  unfold regenerate
  split <;> exact startReadback_regen ..

/-- A checker-wrong verdict counts and notes the suspect, regenerates the array's vectors and raises EV-0201 (R130). -/
theorem prismVerdict_of_checkerWrong {s : State} {q : Suspect} (h : outsideBound s q (prismErrors s q) = []) :
    ∃ v, ChangesOnly { runs := true, ops := true } s v ∧
      prismVerdict s q = raise (regenerate v (16 * q.tile + q.array)) 0x0201 (unitArray (16 * q.tile + q.array)) 0 [] := by
  unfold prismVerdict
  extract_lets k u fmt ystar ys errs bad causes g settled sat counted noted
  have unanimous : bad.isEmpty = true := List.isEmpty_iff.mpr h
  rw [if_pos unanimous]
  exact ⟨noted, ChangesOnly.refl s |> modOut_touch rfl |> tally_touch rfl |> noteExc_touch rfl, rfl⟩

theorem settleHead_of_cons {s : State} {tile : Nat} {q : Suspect} {rest : List Suspect} (h : (tileOf s tile).queue = q :: rest) :
    settleHead s tile none = prismVerdict (modTile s tile (fun t => { t with queue := rest })) q := by
  unfold settleHead
  rw [h]

/-- Before its last slot, a read-back slot advances to the next. -/
theorem readbackSlot_regen {slot : Nat} (h : slot < 127) (s : State) (k : Nat) (reads : List CellRead) :
    (arrOf (readbackSlot s k slot reads) k).regen = some (slot + 1) := by
  unfold readbackSlot
  extract_lets
  rw [if_pos (by omega), arrOf_modArr]

/-- Taking the suspect from its queue moves nothing that its verdict reads. -/
theorem outsideBound_modTile (s : State) (tile : Nat) (f : TileState → TileState) (q : Suspect) :
    outsideBound (modTile s tile f) q (prismErrors (modTile s tile f) q) = outsideBound s q (prismErrors s q) := rfl

/-- A checker-wrong verdict takes its suspect from the queue and starts stage 2 of its array's regeneration. -/
theorem settleHead_of_checkerWrong {s : State} {tile : Nat} {q : Suspect} {rest : List Suspect}
    (hqueue : (tileOf s tile).queue = q :: rest) (h : outsideBound s q (prismErrors s q) = []) :
    (tileOf (settleHead s tile none) tile).queue = rest ∧
    (arrOf (settleHead s tile none) (16 * q.tile + q.array)).regen = some 0 := by
  obtain ⟨v, noted, hverdict⟩ := prismVerdict_of_checkerWrong
    ((outsideBound_modTile s tile (fun t => { t with queue := rest }) q).trans h)
  rw [settleHead_of_cons hqueue, hverdict]
  constructor
  · have regenerated : ChangesOnly { arrays := true } v (regenerate v (16 * q.tile + q.array)) :=
      regenerate_touch rfl (ChangesOnly.refl v)
    rw [tileOf, raise_tiles, regenerated.tiles rfl, noted.tiles rfl, ← tileOf, tileOf_modTile]
  · rw [arrOf, raise_arrays, ← arrOf, regenerate_regen]

/-- Settles O23: the verdict's half is `settleHead_of_checkerWrong`, the read-back's `readbackSlot_regen`. -/
theorem prismSettlesTheOldestSuspect : Obligations.PrismSettlesTheOldestSuspect := by
  refine ⟨fun tile cyc s q rest hqueue _ hbound =>
    ⟨_, rfl, settleHead_of_checkerWrong (s := atCycle s cyc) hqueue hbound⟩, fun tile arr reads s slot hregen hslot => ⟨_, rfl, ?_⟩⟩
  dsimp only
  rw [hregen]
  exact readbackSlot_regen hslot ..

/-! ### Failed checks -/

/-- A charge to a unit moves neither the frame timebase nor the links. -/
theorem charge_keeps (s : State) (u : UnitRef) (kind : Nat) (counted nominal : Bool) (code : Nat) :
    (charge s u kind counted nominal code).fr = s.fr ∧ (charge s u kind counted nominal code).link = s.link := by
  unfold charge
  extract_lets
  split
  · exact ⟨raise_fr .., raise_link ..⟩
  · exact ⟨rfl, rfl⟩

/-- The plan frame of a run is running and not late, in a given cycle and with given failures. -/
structure FailedSoFar (gen cyc : Nat) (fs : List FailedCheck) (s : State) : Prop where
  late : s.fr.late = false
  cycle : s.fr.cycle = cyc
  running : ∃ f, s.fr.running = some f ∧ f.gen = gen ∧ f.failures = fs

namespace FailedSoFar

variable {gen cyc : Nat} {fs : List FailedCheck} {s t : State}

theorem of_fr (h : FailedSoFar gen cyc fs s) (e : t.fr = s.fr) : FailedSoFar gen cyc fs t :=
  ⟨e ▸ h.late, e ▸ h.cycle, e ▸ h.running⟩

/-- A change to the run's plan frame that keeps the run's number gives the failures that it gives. -/
theorem modGen (h : FailedSoFar gen cyc fs s) {f : PlanFrame → PlanFrame} {fs' : List FailedCheck} (hgen : ∀ p, (f p).gen = p.gen)
    (hfailures : ∀ p, p.failures = fs → (f p).failures = fs') : FailedSoFar gen cyc fs' (modGen s gen f) := by
  obtain ⟨p, hrunning, hp, hfs⟩ := h.running
  refine ⟨h.late, h.cycle, f p, ?_, (hgen p).trans hp, hfailures p hfs⟩
  simp [Machine.modGen, hrunning, hp]

theorem tally (h : FailedSoFar gen cyc fs s) (t : Nat) (f : TileCounts → TileCounts) : FailedSoFar gen cyc fs (tally s gen t f) :=
  h.modGen (fun _ => rfl) (fun _ k => k)

theorem noteLevel (h : FailedSoFar gen cyc fs s) (tile : Option Nat) (level : Nat) :
    FailedSoFar gen cyc fs (noteLevel s gen tile level) := by
  cases tile with
  | none => exact h.modGen (fun _ => rfl) (fun _ k => k)
  | some t => exact h.modGen (fun _ => rfl) (fun _ k => k)

theorem addExc (h : FailedSoFar gen cyc fs s) (e : ExcEntry) : FailedSoFar gen cyc fs (addExc s gen e) :=
  h.modGen (fun p => by split <;> rfl) (fun p k => by split <;> exact k)

theorem noteExc (h : FailedSoFar gen cyc fs s) (tile : Option Nat) (e : ExcEntry) : FailedSoFar gen cyc fs (noteExc s gen tile e) :=
  (h.addExc e).noteLevel tile e.level

/-- A failed check of a frame that is not late adds its failure at the running cycle, and restarts nothing (R133, R138). -/
theorem failCheck (h : FailedSoFar gen cyc fs s) (code : Nat) (u : UnitRef) :
    FailedSoFar gen cyc (fs ++ [{ code := code, unit := u, cycle := cyc }]) (failCheck s gen code u) := by
  have added : FailedSoFar gen cyc (fs ++ [{ code := code, unit := u, cycle := cyc }])
      (Machine.modGen s gen (fun p => { p with failures := p.failures ++ [{ code := code, unit := u, cycle := s.fr.cycle }] })) :=
    h.modGen (fun _ => rfl) (fun p k => by simp [k, h.cycle])
  obtain ⟨p, hrunning, -⟩ := added.running
  unfold Machine.failCheck
  extract_lets v
  rw [hrunning]
  dsimp only
  rwa [if_neg (fun late => Bool.noConfusion (added.late.symm.trans late.2.1))]

theorem residueMismatch (h : FailedSoFar gen cyc fs s) (t engine op : Nat) (r : ResidueErr) :
    FailedSoFar gen cyc (fs ++ [{ code := 0x0230, unit := unitTile t, cycle := cyc }]) (residueMismatch s gen t engine op r) :=
  (((h.tally ..).noteExc ..).failCheck ..).of_fr ((charge_keeps ..).1.trans (raise_fr ..))

/-- What a frame's failures come to under a settlement that a tile's queue has room for. -/
theorem enterQueue {settle : State → State} {fs' : List FailedCheck} (h : FailedSoFar gen cyc fs s) {t : Nat}
    (hroom : (tileOf s t).queue.length < 8) (kind op : Nat)
    (hsettle : ∀ v, FailedSoFar gen cyc fs v → FailedSoFar gen cyc fs' (settle v)) :
    FailedSoFar gen cyc fs' (enterQueue s gen t kind op settle) := by
  unfold Machine.enterQueue
  extract_lets
  rw [if_neg (by omega)]
  exact hsettle _ (h.tally ..)

theorem failures (h : FailedSoFar gen cyc fs s) : ∃ f, s.fr.running = some f ∧ f.failures = fs := by
  obtain ⟨f, hrunning, -, hfs⟩ := h.running
  exact ⟨f, hrunning, hfs⟩

end FailedSoFar

/-! ### The event queue's overflow -/

theorem expelFrame_eq_or (s : State) : expelFrame s = now s ∨ expelFrame s = now s + 1 := ite_eq_or_eq ..

/-- EXPEL of a rank stands for the tick after the frame it names. -/
theorem floodExpel_expels (s : State) (rank : Nat) : (expelFrame s + 1, rank) ∈ (floodExpel s rank).link.expelTargets := by
  unfold floodExpel
  extract_lets f v
  dsimp only
  split
  case isTrue h => exact List.contains_iff_mem.mp h
  case isFalse => exact List.mem_append_right _ (List.mem_singleton_self _)

theorem takeL3_expels {s : State} {rank : Nat} (hrank : s.plan.rank = some rank) (code : Nat) (u : UnitRef) (ps : List Nat) :
    (expelFrame s + 1, rank) ∈ (takeL3 s code u ps).link.expelTargets := by
  unfold takeL3
  extract_lets raised fr levelled announced
  have hplan : announced.plan.rank = some rank := by
    rw [raise_plan, raise_plan, hrank]
  have hframe : expelFrame announced = expelFrame s := by
    simp only [expelFrame, now, announced, levelled, fr, raised, raise_fr]
  rw [hplan, ← hframe]
  exact floodExpel_expels ..

theorem queueOverflow_expels {s : State} {rank : Nat} (hrank : s.plan.rank = some rank) (gen t kind op : Nat) :
    (expelFrame s + 1, rank) ∈ (queueOverflow s gen t kind op).link.expelTargets := by
  unfold queueOverflow
  extract_lets u v
  rw [(charge_keeps ..).2]
  exact takeL3_expels (s := v) hrank ..

/-- An entry that finds its queue full overflows it, whatever its kind. -/
theorem exec_eventQueueEntry_of_full {tile : TileId} {s : State} (hfull : 8 ≤ (tileOf s tile).queue.length) (e : QueueEvent) (cyc : Nat) :
    ∃ kind op, exec (.eventQueueEntry tile e cyc) s =
      .next (queueOverflow (atCycle s cyc) (runningGen (atCycle s cyc)) tile kind op) := by
  have full : ∀ (kind op : Nat) (settle : State → State), enterQueue (atCycle s cyc) (runningGen (atCycle s cyc)) tile kind op settle =
      queueOverflow (atCycle s cyc) (runningGen (atCycle s cyc)) tile kind op := fun _ _ _ => if_pos hfull
  cases e with
  | residue engine op r => exact ⟨3, op, congrArg _ (full ..)⟩
  | poison origin rest op addr number => exact ⟨4, op, congrArg _ (full ..)⟩
  | deadline op => exact ⟨0, op, congrArg _ (full ..)⟩

/-- Settles O24: with room in the queue the check's settlement adds one failure; without, the overflow expels the package. -/
theorem failedChecksFailTheFrame : Obligations.FailedChecksFailTheFrame := by
  intro tile cyc s f hrunning hlate
  have start : FailedSoFar f.gen cyc f.failures (atCycle s cyc) := ⟨hlate, rfl, f, hrunning, rfl, rfl⟩
  have hgen : runningGen (atCycle s cyc) = f.gen := by rw [runningGen, atCycle_fr_running, hrunning]; rfl
  refine ⟨fun hroom => ⟨fun engine op r hengine => ⟨_, rfl, ?_⟩, fun op hflight => ⟨_, rfl, ?_⟩⟩, ?_⟩
  · rw [hgen]
    dsimp only
    refine (start.enterQueue hroom 3 op (fun v h => ?_)).failures
    rw [if_neg hengine]
    exact h.residueMismatch ..
  · rw [atCycle_fr_running, hrunning]
    dsimp only
    rw [if_pos hflight]
    exact (start.enterQueue hroom 0 op (fun v h => (h.failCheck ..).noteLevel ..)).failures
  · intro hfull e rank hrank
    obtain ⟨kind, op, hexec⟩ := exec_eventQueueEntry_of_full hfull e cyc
    refine ⟨_, hexec, ?_⟩
    have expelled := queueOverflow_expels (s := atCycle s cyc) hrank (runningGen (atCycle s cyc)) tile kind op
    rcases expelFrame_eq_or (atCycle s cyc) with hframe | hframe <;> rw [hframe] at expelled
    · exact .inl expelled
    · exact .inr expelled

end Sys2Proof.Machine
end

section
/-!
PROOFS. Programming the arrays: a slot's pulses (R158, R163) and a span's scan (R169); calibrating them (R185 to R187).
-/
namespace Sys2Proof.Machine
open Sys2Proof

theorem arrOf_atCycle (s : State) (n k : Nat) : arrOf (atCycle s n) k = arrOf s k := rfl

theorem arrOf_modArr_other (s : State) {j k : Nat} (f : ArrayState → ArrayState) (h : j ≠ k) : arrOf (modArr s k f) j = arrOf s j :=
  tget_tmod_other ArrayState.fresh s.arrays f h

/-! ### A slot of pulses -/

/-- The elements of a row that a slot pulses: the first 128 that are unfinished. -/
def slotElements (job : RowJob) : List ElementWork := (job.elements.filter (fun w => !w.done)).take 128

/-- Whether two element works are of one element. -/
def sameElement (w x : ElementWork) : Bool := x.col == w.col && x.element == w.element

/-- The energy of an element's next pulse in pJ: a RESET's or a SET's. -/
def pulseEnergy (w : ElementWork) : Nat := if w.above then 60 else 30

/-- A pulse counts on its own element. -/
theorem pulseElement_counts (a : ArrayState) (w : ElementWork) (meas : List CellMeasure) :
    (pulseElement a w meas).1.col = w.col ∧ (pulseElement a w meas).1.element = w.element ∧
    (pulseElement a w meas).1.total = w.total + 1 := by
  unfold pulseElement
  extract_lets
  split <;> exact ⟨rfl, rfl, rfl⟩

theorem pulseElement_energy (a : ArrayState) (w : ElementWork) (meas : List CellMeasure) :
    (pulseElement a w meas).2.2 = pulseEnergy w := by
  unfold pulseElement
  extract_lets
  split <;> rfl

/-- An element of the row after the slot: the result of its own pulse, where it took one. -/
def afterSlot (a : ArrayState) (meas : List CellMeasure) (todo : List ElementWork) (w : ElementWork) : ElementWork :=
  match (todo.map (fun x => pulseElement a x meas)).find? (fun r => r.1.col == w.col && r.1.element == w.element) with
  | some r => r.1
  | none => w

/-- The pulse found for an element is that of the first work on it. -/
theorem find_pulsed (a : ArrayState) (meas : List CellMeasure) (todo : List ElementWork) (w : ElementWork) :
    (todo.map (fun x => pulseElement a x meas)).find? (fun r => r.1.col == w.col && r.1.element == w.element) =
      (todo.find? (sameElement w)).map (fun x => pulseElement a x meas) := by
  have same : ((fun r : ElementWork × Nat × Nat => r.1.col == w.col && r.1.element == w.element) ∘ fun x => pulseElement a x meas) =
      sameElement w := by
    funext x
    obtain ⟨hcol, helement, -⟩ := pulseElement_counts a x meas
    simp only [Function.comp_apply, hcol, helement, sameElement]
  rw [List.find?_map, same]

/-- After a slot each element stands where it stood, with one more pulse if it was among those pulsed. -/
theorem afterSlot_counts (a : ArrayState) (meas : List CellMeasure) (todo : List ElementWork) (w : ElementWork) :
    ((afterSlot a meas todo w).col, (afterSlot a meas todo w).element, (afterSlot a meas todo w).total) =
      (w.col, w.element, if todo.any (sameElement w) then ((todo.find? (sameElement w)).map ElementWork.total).getD 0 + 1 else w.total) := by
  rw [afterSlot, find_pulsed]
  cases hfind : todo.find? (sameElement w) with
  | none =>
    have unpulsed : todo.any (sameElement w) = false := by simpa using hfind
    rw [unpulsed]
    rfl
  | some x =>
    have pulsed : todo.any (sameElement w) = true :=
      List.any_eq_true.mpr ⟨x, List.mem_of_find?_eq_some hfind, List.find?_some hfind⟩
    have found := List.find?_some hfind
    simp only [sameElement, Bool.and_eq_true, beq_iff_eq] at found
    obtain ⟨hcol, helement, htotal⟩ := pulseElement_counts a x meas
    simp only [pulsed, Option.map_some, if_true, Option.getD_some, hcol, helement, htotal, found]

/-- The energy of a slot's pulses. -/
theorem foldl_pulseEnergy (a : ArrayState) (meas : List CellMeasure) (todo : List ElementWork) :
    (todo.map (fun w => pulseElement a w meas)).foldl (fun acc r => acc + r.2.2) 0 = todo.foldl (fun e w => e + pulseEnergy w) 0 := by
  simp only [List.foldl_map, pulseElement_energy]

/-- Giving levels to some elements leaves every other element's level. -/
theorem foldl_setLevel_other (k row key : Nat) (l : List (ElementWork × Nat × Nat)) (s : State)
    (h : ∀ r ∈ l, cellKey k row r.1.col r.1.element ≠ key) :
    tget 0 (l.foldl (fun s r => setLevel s k row r.1.col r.1.element r.2.1) s).cells key = tget 0 s.cells key := by
  induction l generalizing s with
  | nil => rfl
  | cons r l ih =>
    obtain ⟨hfirst, hrest⟩ := List.forall_mem_cons.mp h
    exact (ih _ hrest).trans (tget_tset_other 0 s.cells r.2.1 hfirst.symm)

/-- What a slot makes of a row's job: its pulses counted, and a slot and their energy taken from the reservation. -/
def pulsedJob (a : ArrayState) (meas : List CellMeasure) (job : RowJob) : RowJob :=
  { job with
    elements := job.elements.map (afterSlot a meas (slotElements job)),
    reading := (job.elements.map (afterSlot a meas (slotElements job))).all (fun w => w.done),
    slotsLeft := job.slotsLeft - 1, energyLeft := job.energyLeft - (slotElements job).foldl (fun e w => e + pulseEnergy w) 0 }

theorem pulseSlot_job (s : State) (k : Nat) (job : RowJob) (meas : List CellMeasure) :
    (arrOf (pulseSlot s k job meas) k).job = some (pulsedJob (arrOf s k) meas job) := by
  unfold pulseSlot
  extract_lets a todo res pulsed upd els spent top after counted
  rw [arrOf_modArr]
  have hspent : spent = (slotElements job).foldl (fun e w => e + pulseEnergy w) 0 := foldl_pulseEnergy a meas todo
  simp only [after, hspent]
  rfl

theorem pulseSlot_cells_other (s : State) (k key : Nat) (job : RowJob) (meas : List CellMeasure)
    (h : ∀ w ∈ slotElements job, cellKey k job.row w.col w.element ≠ key) :
    tget 0 (pulseSlot s k job meas).cells key = tget 0 s.cells key := by
  refine foldl_setLevel_other k job.row key _ s (fun r hr => ?_)
  obtain ⟨w, hw, rfl⟩ := List.mem_map.mp hr
  obtain ⟨hcol, helement, -⟩ := pulseElement_counts (arrOf s k) w meas
  rw [hcol, helement]
  exact h w hw

/-- With a row in work that is not to be read, a slot pulses it. -/
theorem programmingSlotOn_of_job {s : State} {k : Nat} {job : RowJob} (hjob : (arrOf s k).job = some job)
    (hreading : job.reading = false) (meas : List CellMeasure) : programmingSlotOn s k meas = pulseSlot s k job meas := by
  simp only [programmingSlotOn, hjob, hreading, Bool.false_eq_true, if_false]

/-- Settles O27: the slot is `pulseSlot` on the row in work, whose job and cells its lemmas give. -/
theorem programmingSlotsPulseOneRow : Obligations.ProgrammingSlotsPulseOneRow := by
  intro tile arr meas cyc s
  refine ⟨fun job hjob hreading hquarantined hshed => ?_, fun hidle => ?_⟩
  · have powered : ¬ ((arrOf (atCycle s cyc) (arrKey tile arr)).quarantined || (atCycle s cyc).pow.shed) = true := by
      rw [arrOf_atCycle, atCycle_pow, hquarantined, hshed]
      decide
    refine ⟨pulseSlot (atCycle s cyc) (arrKey tile arr) job meas, ?_, ⟨_, pulseSlot_job .., rfl, rfl, rfl, ?_⟩, fun key hkey => ?_⟩
    · show execProgrammingSlot tile arr meas cyc s = _
      rw [execProgrammingSlot, if_neg powered, programmingSlotOn_of_job (s := atCycle s cyc) hjob hreading]
    · simp only [pulsedJob, List.map_map]
      exact List.map_congr_left (fun w _ => afterSlot_counts _ meas (slotElements job) w)
    · exact pulseSlot_cells_other (atCycle s cyc) _ key job meas hkey
  · have idle : ((arrOf (atCycle s cyc) (arrKey tile arr)).quarantined || (atCycle s cyc).pow.shed) = true := by
      simpa [arrOf_atCycle] using hidle
    show execProgrammingSlot tile arr meas cyc s = _
    rw [execProgrammingSlot, if_pos idle]
    rfl

/-! ### The scan of a span -/

/-- What a scan reads is the same in both states: the plan, the memories, the settings, and each array's pinned weights; so are the
element levels and the frame timebase. -/
structure SameToScan (s u : State) : Prop where
  plan : u.plan = s.plan
  mem : u.mem = s.mem
  live : u.eo.live = s.eo.live
  cells : u.cells = s.cells
  fr : u.fr = s.fr
  pins : ∀ k, (arrOf u k).pins = (arrOf s k).pins ∧ (arrOf u k).retryPins = (arrOf s k).retryPins

namespace SameToScan

variable {s u : State}

theorem refl (s : State) : SameToScan s s := ⟨rfl, rfl, rfl, rfl, rfl, fun _ => ⟨rfl, rfl⟩⟩

theorem trans {v : State} (h : SameToScan s u) (k : SameToScan u v) : SameToScan s v :=
  ⟨k.plan.trans h.plan, k.mem.trans h.mem, k.live.trans h.live, k.cells.trans h.cells, k.fr.trans h.fr,
   fun a => ⟨(k.pins a).1.trans (h.pins a).1, (k.pins a).2.trans (h.pins a).2⟩⟩

theorem myBlock (h : SameToScan s u) : myBlock u = myBlock s := by simp only [Machine.myBlock, h.plan]

theorem arrFmt (h : SameToScan s u) (k : Nat) : arrFmt u k = arrFmt s k := by
  simp only [Machine.arrFmt, Machine.mapEntry, h.myBlock]

theorem imageRow (h : SameToScan s u) (k row : Nat) : imageRow u k row = imageRow s k row := by
  simp only [Machine.imageRow, Machine.imageOff, Machine.imageBase, tileBytes, h.arrFmt, h.myBlock, h.mem]

theorem masterAt (h : SameToScan s u) (version : Nat) (e : BitVec 256) (row col : Nat) :
    masterAt u version e row col = masterAt s version e row col := by
  simp only [Machine.masterAt, masterOf, hbmBytes, h.plan, h.mem]

theorem hysteresis (h : SameToScan s u) : hysteresis u = hysteresis s := by
  simp only [Machine.hysteresis, setting, h.live]

theorem rowTargets (h : SameToScan s u) (k row version : Nat) (first : Bool) :
    rowTargets u k row version first = rowTargets s k row version first := by
  obtain ⟨hpins, hretry⟩ := h.pins k
  simp only [Machine.rowTargets, Machine.mapEntry, h.arrFmt, h.imageRow, h.myBlock, h.masterAt, h.hysteresis, hpins, hretry]

end SameToScan

/-- The rows of an array whose integers under a version differ from the image. -/
def changedRows (s : State) (version k : Nat) : List Nat :=
  (List.range 512).filter (fun r => rowTargets s k r version false != imageRow s k r)

theorem SameToScan.changedRows {s u : State} (h : SameToScan s u) (version k : Nat) : changedRows u version k = changedRows s version k := by
  simp only [Machine.changedRows, h.rowTargets, h.imageRow]

/-- An array as its scan leaves it. -/
def scannedArray (rows : List Nat) (clip : Nat) (a : ArrayState) : ArrayState := { a with pendingRows := rows, clipped := clip }

/-- A scan changes its own array, and raises an event where it finds clipped weights. -/
theorem scanArray_arrays (s : State) (version k : Nat) : ∃ clip,
    (scanArray s version k).arrays = (modArr s k (scannedArray (changedRows s version k) clip)).arrays := by
  unfold scanArray
  extract_lets rows clip v
  refine ⟨clip, ?_⟩
  split
  · rfl
  · exact raise_arrays ..

theorem scanArray_keeps (s : State) (version k : Nat) :
    (scanArray s version k).mem = s.mem ∧ (scanArray s version k).fr = s.fr := by
  unfold scanArray
  extract_lets rows clip v
  split
  · exact ⟨rfl, rfl⟩
  · exact ⟨raise_mem .., raise_fr ..⟩

theorem scanArray_pendingRows (s : State) (version k : Nat) :
    (arrOf (scanArray s version k) k).pendingRows = changedRows s version k := by
  obtain ⟨clip, harrays⟩ := scanArray_arrays s version k
  rw [arrOf, harrays, ← arrOf, arrOf_modArr, scannedArray]

theorem scanArray_other (s : State) (version : Nat) {j k : Nat} (h : j ≠ k) : arrOf (scanArray s version k) j = arrOf s j := by
  obtain ⟨clip, harrays⟩ := scanArray_arrays s version k
  rw [arrOf, harrays, ← arrOf, arrOf_modArr_other s _ h]

theorem ChangesOnly.live {W : Parts} {s t : State} (h : ChangesOnly W s t) (hsettings : W.settings = false) :
    t.eo.live = s.eo.live := congrArg Prod.fst (h.settings hsettings)

theorem scanArray_same (s : State) (version k : Nat) : SameToScan s (scanArray s version k) := by
  have scanned : ChangesOnly { arrays := true, traffic := true, ev := true, outbox := true } s (scanArray s version k) :=
    scanArray_touch rfl rfl rfl rfl (ChangesOnly.refl s)
  have pins : ∀ j, (arrOf (scanArray s version k) j).pins = (arrOf s j).pins ∧
      (arrOf (scanArray s version k) j).retryPins = (arrOf s j).retryPins := fun j => by
    by_cases hj : j = k
    · obtain ⟨clip, harrays⟩ := scanArray_arrays s version k
      rw [arrOf, harrays, ← arrOf, hj, arrOf_modArr]
      exact ⟨rfl, rfl⟩
    · rw [scanArray_other s version hj]
      exact ⟨rfl, rfl⟩
  obtain ⟨hmem, hfr⟩ := scanArray_keeps s version k
  exact ⟨scanned.plan rfl, hmem, scanned.live rfl, scanned.cells rfl, hfr, pins⟩

/-- The scans of several arrays: each finds what it would have found first, so an array scanned twice is as if scanned once. -/
theorem scanArrays_pendingRows (version : Nat) (ks : List Nat) (s : State) :
    SameToScan s (ks.foldl (fun s k => scanArray s version k) s) ∧
    ∀ k, k ∈ ks ∨ (arrOf s k).pendingRows = changedRows s version k →
      (arrOf (ks.foldl (fun s k => scanArray s version k) s) k).pendingRows = changedRows s version k := by
  induction ks generalizing s with
  | nil => exact ⟨SameToScan.refl s, fun k h => h.resolve_left List.not_mem_nil⟩
  | cons j ks ih =>
    have first : SameToScan s (scanArray s version j) := scanArray_same s version j
    obtain ⟨rest, found⟩ := ih (scanArray s version j)
    rw [List.foldl_cons]
    refine ⟨first.trans rest, fun k hk => ?_⟩
    rw [← first.changedRows]
    refine found k ?_
    rw [first.changedRows]
    by_cases hkj : k = j
    · rw [hkj]
      exact .inr (scanArray_pendingRows s version j)
    · rw [scanArray_other s version hkj]
      exact hk.imp_left (fun hmem => (List.mem_cons.mp hmem).resolve_left hkj)

/-- Settles O28: the scan of the map's arrays, by `scanArrays_pendingRows`. -/
theorem spansMarkChangedRows : Obligations.SpansMarkChangedRows := by
  intro s v hspan hscan
  obtain ⟨same, found⟩ := scanArrays_pendingRows v (mapArrays s) s
  refine ⟨{ (mapArrays s).foldl (fun s k => scanArray s v k) s with plan.spanScan := 0 }, ?_, rfl, fun k hk => found k (.inl hk),
    same.cells, same.mem, same.fr⟩
  show execProgrammingSpanStart s = _
  rw [execProgrammingSpanStart, hspan]
  dsimp only
  rw [if_neg hscan]

/-! ### Calibration -/

theorem charge_arrays_free (s : State) (u : UnitRef) (kind : Nat) (counted nominal : Bool) (code : Nat) :
    (charge s u kind counted nominal code).arrays = s.arrays ∧ (charge s u kind counted nominal code).free = s.free := by
  have charged : ChangesOnly { traffic := true, ev := true, hl := true, outbox := true } s (charge s u kind counted nominal code) :=
    charge_touch rfl rfl rfl rfl (ChangesOnly.refl s)
  exact ⟨charged.arrays rfl, charged.free rfl⟩

/-- A quarantine under L2 leaves of the arrays and of the draws what taking the array out of service leaves. -/
theorem quarantineL2_arrays_free (s : State) (k code : Nat) :
    (quarantineL2 s k code).arrays = (quarantineArray s k).arrays ∧ (quarantineL2 s k code).free = s.free :=
  ⟨raise_arrays .., raise_free ..⟩

/-- Whether a calibration is accepted: every column's two runs agree, and the quality figure is at most 1.25 (R186). -/
def calAccepted (s : State) (k : Nat) : Bool :=
  let samples := (List.range 520).map (fun c => calSamples s k c)
  samples.all repeatAgrees && decide (qualitySquared s k samples (calFits s k samples) ≤ mkRat 25 16)

/-- An accepted calibration stages its fit and changes nothing else but the draws and its own array. -/
theorem calibrate_of_accepted {s : State} {k : Nat} (h : calAccepted s k = true) :
    (calibrate s k).free = s.free + 128 ∧ (arrOf (calibrate s k) k).calNext.isSome = true ∧
    (arrOf (calibrate s k) k).calPending = false ∧ (arrOf (calibrate s k) k).calFails = 0 := by
  unfold calibrate
  extract_lets samples fits q2 accepted v a res
  have taken : accepted = true := h
  rw [if_pos taken, arrOf_modArr]
  exact ⟨rfl, rfl, rfl, rfl⟩

theorem calibrate_of_rejected {s : State} {k : Nat} (h : calAccepted s k = false) :
    calibrate s k = calFailed { s with free := s.free + 128 } k := by
  unfold calibrate
  extract_lets samples fits q2 accepted v a res
  have failed : accepted = false := h
  rw [failed]
  exact if_neg Bool.false_ne_true

/-- An array after one more failed calibration, before what the second in a row brings. -/
def failedOnce (a : ArrayState) : ArrayState :=
  { a with calPlaced := false, calPending := true, calFails := a.calFails + 1, attempts := satTo 255 (a.attempts + 1) }

theorem calFailed_eq (s : State) (k : Nat) : calFailed s k = if (arrOf s k).calFails < 1 then modArr s k failedOnce
    else charge (quarantineL2 (modArr s k failedOnce) k 0x0265) (unitArray k) 4 true false 0x0265 := by
  have counted : (arrOf (modArr s k failedOnce) k).calFails = (arrOf s k).calFails + 1 := by rw [arrOf_modArr]; rfl
  show (if (arrOf (modArr s k failedOnce) k).calFails < 2 then _ else _) = _
  exact if_congr (by omega) rfl rfl

/-- A failed calibration draws nothing more, stays pending and is counted; the second in a row takes the array out of service (R187). -/
theorem calFailed_counts (s : State) (k : Nat) :
    (calFailed s k).free = s.free ∧ (arrOf (calFailed s k) k).calPending = true ∧
    (arrOf (calFailed s k) k).calFails = (arrOf s k).calFails + 1 ∧
    (1 ≤ (arrOf s k).calFails → (arrOf (calFailed s k) k).quarantined = true ∧ (arrOf (calFailed s k) k).calValid = false) := by
  rw [calFailed_eq]
  split
  case isTrue hfirst =>
    rw [arrOf_modArr]
    exact ⟨rfl, rfl, rfl, fun hsecond => absurd hfirst (Nat.not_lt.mpr hsecond)⟩
  case isFalse =>
    obtain ⟨harrays, hfree⟩ := charge_arrays_free (quarantineL2 (modArr s k failedOnce) k 0x0265) (unitArray k) 4 true false 0x0265
    obtain ⟨harrays', hfree'⟩ := quarantineL2_arrays_free (modArr s k failedOnce) k 0x0265
    rw [arrOf, harrays, harrays', ← arrOf, quarantineArray, arrOf_modArr, arrOf_modArr]
    exact ⟨hfree.trans hfree', rfl, rfl, fun _ => ⟨rfl, rfl⟩⟩

/-- Settles O29: an accepted fit by `calibrate_of_accepted`, a failed one by `calFailed_counts`. -/
theorem calibrationsAreAcceptedOrRepeated : Obligations.CalibrationsAreAcceptedOrRepeated := by
  intro tile arr s
  refine ⟨calibrate s (arrKey tile arr), rfl, ?_⟩
  generalize arrKey tile arr = k
  show (calibrate s k).free = s.free + 128 ∧ (calAccepted s k = true → _) ∧ (calAccepted s k = false → _)
  cases h : calAccepted s k with
  | true =>
    obtain ⟨hfree, hfit⟩ := calibrate_of_accepted h
    exact ⟨hfree, fun _ => hfit, fun hfailed => Bool.noConfusion hfailed⟩
  | false =>
    obtain ⟨hfree, hrepeated⟩ := calFailed_counts { s with free := s.free + 128 } k
    rw [calibrate_of_rejected h]
    exact ⟨hfree, fun haccepted => Bool.noConfusion haccepted, fun _ => hrepeated⟩

end Sys2Proof.Machine
end

section
/-!
PROOFS. A plan's life: it is loaded or staged, discarded or abandoned, prepared, and started (R269, R270, R273).
-/
namespace Sys2Proof.Machine
open Sys2Proof

/-! ### What a function leaves alone, where it may not change it -/

section
variable {W : Parts} {s t : State}

theorem ChangesOnly.now (h : ChangesOnly W s t) (hframe : W.frame = false) : now t = now s :=
  congrArg (fun x => x.1.toNat) (h.frame hframe)

/-- The plan position and the run state. -/
theorem ChangesOnly.position (h : ChangesOnly W s t) (hframe : W.frame = false) : t.fr.pos = s.fr.pos ∧ t.fr.run = s.fr.run := by
  have k := h.frame hframe
  simp only [Prod.mk.injEq] at k
  obtain ⟨_, hpos, _, hrun, _⟩ := k
  exact ⟨hpos, hrun⟩

/-- The version counters. -/
theorem ChangesOnly.versions (h : ChangesOnly W s t) (hframe : W.frame = false) : t.fr.master = s.fr.master ∧ t.fr.live = s.fr.live := by
  have k := h.frame hframe
  simp only [Prod.mk.injEq] at k
  obtain ⟨_, _, _, _, _, _, _, _, _, _, hlive, hmaster, _⟩ := k
  exact ⟨hmaster, hlive⟩

theorem ChangesOnly.running (h : ChangesOnly W s t) (hruns : W.runs = false) : t.fr.running = s.fr.running :=
  congrArg Prod.fst (h.runs hruns)

theorem ChangesOnly.forward (h : ChangesOnly W s t) (hsync : W.sync = false) : t.link.forward = s.link.forward :=
  congrArg (fun x => x.2.1) (h.sync hsync)

theorem ChangesOnly.ownerKey (h : ChangesOnly W s t) (hkeys : W.keys = false) : t.eo.ownerKey = s.eo.ownerKey :=
  congrArg Prod.fst (h.keys hkeys)

theorem ChangesOnly.hostMemory (h : ChangesOnly W s t) (hhost : W.host = false) : t.mem.host = s.mem.host :=
  congrArg Prod.fst (h.host hhost)

end

/-! ### The end of a load's request -/

theorem endLoad_changes (s : State) (st : Status) (digest body : List Byte) :
    ChangesOnly { wire := true, plan := true, traffic := true, ev := true, outbox := true, mail := true } s (endLoad s st digest body) :=
  endLoad_touch rfl rfl rfl rfl rfl rfl (ChangesOnly.refl s)

/-- The plan's state with another request that is owed its final response. -/
def withLoadReq (x : PlanState) (req : Option Req) : PlanState := { x with loadReq := req }

/-- Of the plan's state, the end of a load takes the request that was owed. -/
theorem endLoad_plan (s : State) (st : Status) (digest body : List Byte) :
    (endLoad s st digest body).plan = withLoadReq s.plan none := by
  unfold endLoad
  cases hreq : s.plan.loadReq with
  | none =>
    show s.plan = withLoadReq s.plan none
    rw [← hreq]
    rfl
  | some r =>
    dsimp only
    split
    · rw [(respond_changes ..).plan rfl, changeEvent, raise_plan]
      rfl
    · rw [(respond_changes ..).plan rfl]
      rfl

/-- A load that fails answers the request that is owed. -/
theorem endLoad_answered {s : State} {r : Req} {st : Status} (hreq : s.plan.loadReq = some r) (hst : st ≠ .ok) (digest body : List Byte) :
    Answered (endLoad s st digest body) r ⟨0x0801, st, r.tag, true, now s, [], body⟩ := by
  unfold endLoad
  rw [hreq]
  dsimp only
  rw [if_neg hst]
  exact answered_respond ..

/-! ### PLAN_LOAD -/

/-- The owner's key accepts the image. -/
def SignedLoad (s : State) (host length : Nat) : Prop :=
  ∃ key, s.eo.ownerKey = some key ∧ imageAccepted s key 2 host length = true

/-- A load's request as accepted: it is owed its final response. -/
def acceptedLoad (s : State) (r : Req) (atBoundary : Bool) (host length : Nat) : State :=
  { accept s r 0x0801 [bitNat atBoundary, host, length, 0] (readback 0x0801 r.tag (imageManifest s host length)) with plan.loadReq := some r }

/-- The final response to a load whose image is not accepted (R269, R482). -/
def unsignedResponse (s : State) (r : Req) : Response :=
  { opcode := 0x0801, status := .signature, tag := r.tag, final := true, frame := now s, digest := [], body := loadBody 1 0 0 0 }

theorem unsignedResponse_congr {s t : State} (h : now t = now s) (r : Req) : unsignedResponse t r = unsignedResponse s r := by
  simp only [unsignedResponse, h]

theorem now_raise (s : State) (code : Nat) (u : UnitRef) (level : Nat) (ps : List Nat) : now (raise s code u level ps) = now s := by
  simp only [now, raise_fr]

theorem accept_changes (s : State) (r : Req) (opcode : Nat) (args : List Nat) (digest : List Byte) :
    ChangesOnly { wire := true, traffic := true, outbox := true, mail := true } s (accept s r opcode args digest) :=
  accept_touch rfl rfl rfl rfl (ChangesOnly.refl s)

theorem acceptedLoad_plan (s : State) (r : Req) (b : Bool) (host length : Nat) :
    (acceptedLoad s r b host length).plan = withLoadReq s.plan (some r) := by
  rw [acceptedLoad, (accept_changes ..).plan rfl]
  rfl

theorem acceptedLoad_changes (s : State) (r : Req) (b : Bool) (host length : Nat) :
    ChangesOnly { wire := true, plan := true, traffic := true, outbox := true, mail := true } s (acceptedLoad s r b host length) := by
  have accepted : ChangesOnly { wire := true, plan := true, traffic := true, outbox := true, mail := true } s
      (accept s r 0x0801 [bitNat b, host, length, 0] (readback 0x0801 r.tag (imageManifest s host length))) :=
    accept_touch rfl rfl rfl rfl (ChangesOnly.refl s)
  exact accepted.trans { ChangesOnly.refl _ with plan := off_of_on rfl }

theorem retireDue_changes (s : State) :
    ChangesOnly { arrays := true, traffic := true, ev := true, hl := true, outbox := true } s (retireDue s) :=
  retireDue_touch rfl rfl rfl rfl rfl (ChangesOnly.refl s)

theorem imageManifest_congr {s t : State} (h : t.mem.host = s.mem.host) (host length : Nat) :
    imageManifest t host length = imageManifest s host length := by simp only [imageManifest, hostBytes, h]

/-- Accepting a load moves nothing that the image's verification reads. -/
theorem signedLoad_acceptedLoad (s : State) (r : Req) (b : Bool) (host length : Nat) :
    SignedLoad (acceptedLoad s r b host length) host length ↔ SignedLoad s host length := by
  have accepted := acceptedLoad_changes s r b host length
  simp only [SignedLoad, imageAccepted, imageManifest, imageSignature, hostBytes, accepted.ownerKey rfl, accepted.hostMemory rfl]

/-- Outside a self-test an admitted load is verified at once, unless it is for now and a plan is loaded (R269, R273). -/
theorem serveC_loadPlan {s : State} {r : Req} {b : Bool} (hadmitted : Admitted s r 0x0801) (hopen : canOpen s 0x0801 = true)
    (hselftest : s.pin.selftest = false) (hfree : (!b && planLoaded s) = false) (host length : Nat) (p : PlanImage) :
    serveC s r 0x0801 (fun s => loadPlan s r b host length p) = verifyLoad (acceptedLoad s r b host length) p b host length := by
  have untested : (acceptedLoad s r b host length).pin.selftest = false := by
    rw [(acceptedLoad_changes ..).pin rfl, hselftest]
  rw [serveC_of_admitted hadmitted hopen, loadPlan, hfree, if_neg Bool.false_ne_true, hselftest]
  exact if_neg (fun h => Bool.noConfusion (untested.symm.trans h))

theorem verifyLoad_of_unsigned {s : State} {host length : Nat} (h : ¬ SignedLoad s host length) (p : PlanImage) (b : Bool) :
    verifyLoad s p b host length =
      refusePlan (raise s 0x0702 unitPackage noLevel []) p b { reason := 1, template := 0, index := 0 } := by
  unfold verifyLoad
  extract_lets signed
  have unsigned : signed = false := by
    simp only [signed]
    cases hkey : s.eo.ownerKey with
    | none => rfl
    | some key => exact Bool.eq_false_iff.mpr (fun haccepted => h ⟨key, hkey, haccepted⟩)
  rw [unsigned]
  rfl

/-- An accepted image whose checks pass is staged, or it is the plan that prepares. -/
theorem verifyLoad_of_signed {s : State} {host length : Nat} {p : PlanImage} (h : SignedLoad s host length)
    (hchecked : checkPlan (retireDue s) p = none) (b : Bool) :
    verifyLoad s p b host length =
      if b then { retireDue s with plan.staged := some p, plan.stagedManifest := imageManifest s host length }
      else adoptPlan (retireDue s) p (imageManifest s host length) (imageRank s p) := by
  obtain ⟨key, hkey, haccepted⟩ := h
  have due := retireDue_changes s
  have rank : imageRank (retireDue s) p = imageRank s p := by rw [imageRank, due.id, ← imageRank]
  unfold verifyLoad
  rw [hkey]
  dsimp only
  rw [haccepted, hchecked]
  dsimp only
  rw [imageManifest_congr (due.hostMemory rfl), rank]
  rfl

/-- A refusal for the signature keeps the plans, and answers the request that was owed. -/
theorem refusePlan_signature {s : State} {r : Req} (hreq : s.plan.loadReq = some r) (p : PlanImage) (b : Bool) :
    (refusePlan s p b { reason := 1, template := 0, index := 0 }).plan = withLoadReq s.plan none ∧
    Answered (refusePlan s p b { reason := 1, template := 0, index := 0 }) r (unsignedResponse s r) := by
  unfold refusePlan
  extract_lets raised ended
  have plan : ended.plan = withLoadReq s.plan none := by
    simp only [ended, endLoad_plan, raised, raise_plan]
  have answered : Answered ended r (unsignedResponse s r) := by
    have owed : raised.plan.loadReq = some r := by rw [raise_plan, hreq]
    rw [← unsignedResponse_congr (now_raise ..) r]
    exact endLoad_answered owed (by decide) [] (loadBody 1 0 0 0)
  clear_value ended
  cases b with
  | true => exact ⟨plan, answered⟩
  | false => exact ⟨plan, answered⟩

/-- A load whose image no owner's key accepts changes neither plan and is answered SIGNATURE. -/
theorem verifyLoad_unsigned {s : State} {host length : Nat} (h : ¬ SignedLoad s host length) (r : Req) (p : PlanImage) (b : Bool) :
    (verifyLoad (acceptedLoad s r b host length) p b host length).plan = withLoadReq s.plan none ∧
    Answered (verifyLoad (acceptedLoad s r b host length) p b host length) r (unsignedResponse s r) := by
  have accepted := acceptedLoad_changes s r b host length
  have owed : (raise (acceptedLoad s r b host length) 0x0702 unitPackage noLevel []).plan = withLoadReq s.plan (some r) := by
    rw [raise_plan, acceptedLoad_plan]
  have same : now (raise (acceptedLoad s r b host length) 0x0702 unitPackage noLevel []) = now s :=
    (now_raise ..).trans (accepted.now rfl)
  rw [verifyLoad_of_unsigned (fun hsigned => h ((signedLoad_acceptedLoad ..).mp hsigned)), ← unsignedResponse_congr same r]
  obtain ⟨plan, answered⟩ := refusePlan_signature (congrArg PlanState.loadReq owed) p b
  exact ⟨plan.trans (by rw [owed]; rfl), answered⟩

/-- A load for now (R269, R270). -/
theorem runs_planLoadNow {r : Req} {host length : DWord} {image : PlanImage} {s : State} (hadmitted : Admitted s r 0x0801)
    (hopen : canOpen s 0x0801 = true) (hselftest : s.pin.selftest = false) (hfree : planLoaded s = false) :
    Runs (.planLoadNow r host length image) s (fun u =>
      (SignedLoad s host.toNat length.toNat → checkPlan (retireDue (acceptedLoad s r false host.toNat length.toNat)) image = none →
        u.plan.loaded = some image ∧ u.plan.stage = .preparing ∧ u.plan.rank = some (imageRank s image) ∧
        u.plan.manifest = imageManifest s host.toNat length.toNat ∧ u.plan.loadReq = some r) ∧
      (¬ SignedLoad s host.toNat length.toNat →
        u.plan.loaded = s.plan.loaded ∧ u.plan.stage = s.plan.stage ∧ u.plan.loadReq = none ∧ Answered u r (unsignedResponse s r))) := by
  have hexec : exec (.planLoadNow r host length image) s = .next
      (verifyLoad (acceptedLoad s r false host.toNat length.toNat) image false host.toNat length.toNat) :=
    congrArg Host.Outcome.next (serveC_loadPlan hadmitted hopen hselftest (by rw [hfree]; rfl) host.toNat length.toNat image)
  have accepted := acceptedLoad_changes s r false host.toNat length.toNat
  refine ⟨_, hexec, fun hsigned hchecked => ?_, fun hunsigned => ?_⟩
  · have rank : imageRank (acceptedLoad s r false host.toNat length.toNat) image = imageRank s image := by
      rw [imageRank, accepted.id, ← imageRank]
    have owed : (retireDue (acceptedLoad s r false host.toNat length.toNat)).plan.loadReq = some r := by
      rw [(retireDue_changes _).plan rfl, acceptedLoad_plan]
      rfl
    rw [verifyLoad_of_signed ((signedLoad_acceptedLoad ..).mpr hsigned) hchecked, if_neg Bool.false_ne_true, rank,
      imageManifest_congr (accepted.hostMemory rfl)]
    exact ⟨rfl, rfl, rfl, rfl, owed⟩
  · obtain ⟨plan, answered⟩ := verifyLoad_unsigned hunsigned r image false
    rw [plan]
    exact ⟨rfl, rfl, rfl, answered⟩

/-- A load for the boundary (R273). -/
theorem runs_planLoadAtBoundary {r : Req} {host length : DWord} {image : PlanImage} {s : State} (hadmitted : Admitted s r 0x0801)
    (hopen : canOpen s 0x0801 = true) (hselftest : s.pin.selftest = false) :
    Runs (.planLoadAtBoundary r host length image) s (fun u =>
      (SignedLoad s host.toNat length.toNat → checkPlan (retireDue (acceptedLoad s r true host.toNat length.toNat)) image = none →
        u.plan.staged = some image ∧ u.plan.loaded = s.plan.loaded ∧
        u.plan.stagedManifest = imageManifest s host.toNat length.toNat ∧ u.plan.loadReq = some r) ∧
      (¬ SignedLoad s host.toNat length.toNat →
        u.plan.staged = s.plan.staged ∧ u.plan.loadReq = none ∧ Answered u r (unsignedResponse s r))) := by
  have hexec : exec (.planLoadAtBoundary r host length image) s = .next
      (verifyLoad (acceptedLoad s r true host.toNat length.toNat) image true host.toNat length.toNat) :=
    congrArg Host.Outcome.next (serveC_loadPlan hadmitted hopen hselftest rfl host.toNat length.toNat image)
  have accepted := acceptedLoad_changes s r true host.toNat length.toNat
  refine ⟨_, hexec, fun hsigned hchecked => ?_, fun hunsigned => ?_⟩
  · have due : (retireDue (acceptedLoad s r true host.toNat length.toNat)).plan = withLoadReq s.plan (some r) := by
      rw [(retireDue_changes _).plan rfl, acceptedLoad_plan]
    rw [verifyLoad_of_signed ((signedLoad_acceptedLoad ..).mpr hsigned) hchecked, if_pos rfl,
      imageManifest_congr (accepted.hostMemory rfl)]
    have loaded := congrArg PlanState.loaded due
    have owed := congrArg PlanState.loadReq due
    exact ⟨rfl, loaded, rfl, owed⟩
  · obtain ⟨plan, answered⟩ := verifyLoad_unsigned hunsigned r image true
    rw [plan]
    exact ⟨rfl, rfl, answered⟩

/-! ### PLAN_DISCARD and PLAN_LOAD_TIMEOUT -/

/-- The state with no plan staged. -/
def withoutStaged (s : State) : State := { s with plan.staged := none, plan.stagedManifest := [] }

theorem runs_planDiscard {r : Req} {s : State} {q : PlanImage} (hadmitted : Admitted s r 0x0802) (hstaged : s.plan.staged = some q) :
    Runs (.planDiscard r) s (fun u =>
      u.plan.staged = none ∧ u.plan.stagedManifest = [] ∧ u.plan.loadReq = none ∧ u.plan.loaded = s.plan.loaded ∧
      Answered u r (okResponse s r 0x0802 [] [])) := by
  generalize hended : endLoad s .failed [] (loadBody 0 0 0 0) = ended
  have hexec : exec (.planDiscard r) s = .next (answer (withoutStaged ended) r 0x0802 []) := by
    show execPlanDiscard r s = _
    rw [execPlanDiscard, serve_of_admitted hadmitted, hstaged, ← hended]
    rfl
  have hnow : now (withoutStaged ended) = now s := hended ▸ (endLoad_changes s .failed [] (loadBody 0 0 0 0)).now rfl
  have hplan : ended.plan = withLoadReq s.plan none := hended ▸ endLoad_plan ..
  refine ⟨_, hexec, ?_⟩
  dsimp only
  rw [answer, (respond_changes ..).plan rfl, withoutStaged, hplan]
  refine ⟨rfl, rfl, rfl, rfl, ?_⟩
  rw [okResponse, ← hnow]
  exact answered_respond ..

/-- An abandoned load: no plan is loaded, and no request is owed. -/
theorem abandonLoad_loadReq (s : State) (reason : Nat) : (abandonLoad s reason).plan.loadReq = none := by
  unfold abandonLoad
  extract_lets u v
  exact congrArg PlanState.loadReq (endLoad_plan ..)

theorem runs_planLoadTimeout {s : State} {p : PlanImage} (hloaded : s.plan.loaded = some p)
    (hstage : s.plan.stage = .preparing ∨ s.plan.stage = .prepared) : Runs .planLoadTimeout s (fun u =>
      u.plan.loaded = none ∧ u.plan.rank = none ∧ u.plan.stage = .idle ∧ u.plan.startFrame = none ∧ u.plan.loadReq = none ∧
      u.link.forward = s.link.forward ++
        [⟨{ kind := .abort, origin := imageRank s p, frame := 0, payload := (planId p).toNat + 255 * 2 ^ 32 }, liveLinks s⟩]) := by
  have hexec : exec .planLoadTimeout s = .next (abandonLoad (floodAbort s p 0xFF) 0) := by
    show execPlanLoadTimeout s = _
    rw [execPlanLoadTimeout, hloaded]
    exact if_pos hstage
  have abandoned : ChangesOnly { wire := true, plan := true, traffic := true, ev := true, outbox := true, mail := true }
      (floodAbort s p 0xFF) (abandonLoad (floodAbort s p 0xFF) 0) :=
    abandonLoad_touch rfl rfl rfl rfl rfl rfl (ChangesOnly.refl _)
  exact ⟨_, hexec, rfl, rfl, rfl, rfl, abandonLoad_loadReq .., abandoned.forward rfl⟩

/-! ### PREPARATION_COMPLETE -/

theorem flood_keeps (s : State) (k : SyncKind) (frame payload : Nat) :
    (flood s k frame payload).plan = s.plan ∧ (flood s k frame payload).fr = s.fr := by
  unfold flood
  extract_lets
  split <;> exact ⟨rfl, rfl⟩

/-- A flooded event is marked as seen, and whatever was stays so. -/
theorem mem_seen_flood (s : State) (k : SyncKind) (frame payload : Nat) :
    (k, s.plan.rank.getD 0, frame) ∈ (flood s k frame payload).link.seen ∧
    ∀ x ∈ s.link.seen, x ∈ (flood s k frame payload).link.seen := by
  unfold flood
  extract_lets origin
  split
  case isTrue h => exact ⟨List.contains_iff_mem.mp h, fun _ hx => hx⟩
  case isFalse => exact ⟨List.mem_cons_self .., fun _ hx => List.mem_cons_of_mem _ hx⟩

/-- The state with a rank's report of its preparation counted. -/
def countPrepared (s : State) (rank : Nat) : State :=
  { s with plan.prepared := if s.plan.prepared.contains rank then s.plan.prepared else s.plan.prepared ++ [rank] }

theorem mem_prepared_countPrepared (s : State) (rank : Nat) : rank ∈ (countPrepared s rank).plan.prepared := by
  dsimp only [countPrepared]
  split
  case isTrue h => exact List.contains_iff_mem.mp h
  case isFalse => exact List.mem_append_right _ (List.mem_singleton_self _)

/-- A report is counted; where it completes the job's, rank 0 floods START, and the package is to start. -/
theorem notePrepared_cases (s : State) (rank : Nat) :
    notePrepared s rank = countPrepared s rank ∨
    ∃ payload, notePrepared s rank =
      noteStart (flood (countPrepared s rank) .start (now s + 64) payload) (now s + 64) :=
  (ite_eq_or_eq ..).symm.imp_right (fun h => ⟨_, h⟩)

theorem noteStart_of_prepared {s : State} (h : s.plan.stage = .prepared) (frame : Nat) :
    noteStart s frame = { s with plan.startFrame := some frame, plan.stage := .starting } := if_pos h

/-- A prepared package counts its own report, and is prepared or to start (R270). -/
theorem notePrepared_prepared {s : State} (hstage : s.plan.stage = .prepared) (rank : Nat) :
    (notePrepared s rank).plan.stage ∈ [LoadStage.prepared, LoadStage.starting] ∧ rank ∈ (notePrepared s rank).plan.prepared ∧
    (notePrepared s rank).plan.rank = s.plan.rank ∧ (notePrepared s rank).fr = s.fr ∧
    ∀ x ∈ s.link.seen, x ∈ (notePrepared s rank).link.seen := by
  have counted := mem_prepared_countPrepared s rank
  rcases notePrepared_cases s rank with hsame | ⟨payload, hstarts⟩
  · rw [hsame]
    exact ⟨hstage ▸ List.mem_cons_self .., counted, rfl, rfl, fun _ hx => hx⟩
  · obtain ⟨hplan, hfr⟩ := flood_keeps (countPrepared s rank) .start (now s + 64) payload
    have seen := (mem_seen_flood (countPrepared s rank) .start (now s + 64) payload).2
    rw [hstarts, noteStart_of_prepared (by rw [hplan]; exact hstage)]
    dsimp only
    rw [hplan]
    exact ⟨List.mem_cons_of_mem _ (List.mem_singleton_self _), counted, rfl, hfr, seen⟩

/-- The package as prepared: banks copied, counters at 0, every array of the map programmed and calibrated. -/
def preparedArrays (s : State) (p : PlanImage) : State :=
  let v := { copyBanks s p with fr.master := 0, fr.live := 0 }
  (mapArrays v).foldl prepareArray v

/-- The preparation leaves the plan's state, and the version counters at 0. -/
theorem preparedArrays_keeps (s : State) (p : PlanImage) :
    (preparedArrays s p).plan = s.plan ∧ (preparedArrays s p).fr.master = 0 ∧ (preparedArrays s p).fr.live = 0 := by
  unfold preparedArrays
  generalize hv : ({ copyBanks s p with fr.master := 0, fr.live := 0 } : State) = v
  have copied : (copyBanks s p).plan = s.plan :=
    (copyBanks_touch (W := { hbm := true, traffic := true }) rfl rfl (ChangesOnly.refl s)).plan rfl
  obtain ⟨hplan, hmaster, hlive⟩ : v.plan = s.plan ∧ v.fr.master = 0 ∧ v.fr.live = 0 := hv ▸ ⟨copied, rfl, rfl⟩
  have prepared : ChangesOnly
      { free := true, runs := true, arrays := true, cells := true, tileMem := true, traffic := true, ev := true, hl := true, outbox := true }
      v ((mapArrays v).foldl prepareArray v) :=
    touch_foldl (ChangesOnly.refl v) (fun _ _ h => prepareArray_touch rfl rfl rfl rfl rfl rfl rfl rfl rfl h)
  obtain ⟨hmaster', hlive'⟩ := prepared.versions rfl
  exact ⟨(prepared.plan rfl).trans hplan, hmaster'.trans hmaster, hlive'.trans hlive⟩

/-- The prepared package with PREPARED flooded. -/
def toldPrepared (s : State) (p : PlanImage) : State :=
  let v := preparedArrays s p
  flood { v with plan.stage := .prepared } .prepared 0 (planIdField v).toNat

theorem exec_preparationComplete {s : State} {p : PlanImage} (hloaded : s.plan.loaded = some p) (hstage : s.plan.stage = .preparing) :
    exec .preparationComplete s = .next (notePrepared (toldPrepared s p) ((toldPrepared s p).plan.rank.getD 0)) := by
  show execPreparationComplete s = _
  rw [execPreparationComplete, hloaded]
  exact if_pos hstage

theorem toldPrepared_prepared (s : State) (p : PlanImage) :
    (toldPrepared s p).plan.stage = .prepared ∧ (toldPrepared s p).fr.master = 0 ∧ (toldPrepared s p).fr.live = 0 ∧
    (SyncKind.prepared, s.plan.rank.getD 0, 0) ∈ (toldPrepared s p).link.seen := by
  obtain ⟨hplan, hmaster, hlive⟩ := preparedArrays_keeps s p
  unfold toldPrepared
  extract_lets v
  have seen := (mem_seen_flood { v with plan.stage := .prepared } .prepared 0 (planIdField v).toNat).1
  obtain ⟨hfloodPlan, hfloodFr⟩ := flood_keeps { v with plan.stage := .prepared } .prepared 0 (planIdField v).toNat
  rw [hfloodPlan, hfloodFr]
  have rank : v.plan.rank = s.plan.rank := congrArg PlanState.rank hplan
  exact ⟨rfl, hmaster, hlive, rank ▸ seen⟩

theorem runs_preparationComplete {s : State} {p : PlanImage} (hloaded : s.plan.loaded = some p) (hstage : s.plan.stage = .preparing) :
    Runs .preparationComplete s (fun u =>
      u.plan.stage ∈ [LoadStage.prepared, LoadStage.starting] ∧ u.plan.rank.getD 0 ∈ u.plan.prepared ∧ u.fr.master = 0 ∧ u.fr.live = 0 ∧
      (SyncKind.prepared, s.plan.rank.getD 0, 0) ∈ u.link.seen) := by
  obtain ⟨hprepared, hmaster, hlive, htold⟩ := toldPrepared_prepared s p
  obtain ⟨stage, reported, rank, fr, seen⟩ := notePrepared_prepared hprepared ((toldPrepared s p).plan.rank.getD 0)
  refine ⟨_, exec_preparationComplete hloaded hstage, stage, ?_, ?_, ?_, seen _ htold⟩
  · rwa [rank]
  · rw [fr, hmaster]
  · rw [fr, hlive]

/-! ### PLAN_START -/

theorem assertStretch_position (s : State) (pos : Nat) :
    (assertStretch s pos).fr.pos = s.fr.pos ∧ (assertStretch s pos).fr.run = s.fr.run := by
  unfold assertStretch
  split
  · exact ⟨rfl, rfl⟩
  · dsimp only
    rw [(flood_keeps ..).2]
    dsimp only
    rw [raise_fr]
    exact (monitorRecord_touch (W := { num := true }) rfl (ChangesOnly.refl s)).position rfl

/-- Granting fall-back moves neither the plan position nor the run state. -/
theorem grantFallback_position (s : State) (t : Template) (pos : Nat) :
    (grantFallback s t pos).1.fr.pos = s.fr.pos ∧ (grantFallback s t pos).1.fr.run = s.fr.run := by
  unfold grantFallback
  extract_lets req auto granted refused num counted
  split
  · exact ⟨rfl, rfl⟩
  · dsimp only
    split
    · obtain ⟨hpos, hrun⟩ := assertStretch_position
        (raise { counted with num.refusedRuns := counted.num.refusedRuns + 1 } 0x0420 unitPackage noLevel []) pos
      rw [hpos, hrun, raise_fr]
      exact ⟨rfl, rfl⟩
    · rw [raise_fr]
      exact ⟨rfl, rfl⟩

/-- A fresh run of a plan position, begun in the counter frame of a state. -/
def FreshRun (s : State) (idx k i : Nat) (f : PlanFrame) : Prop :=
  f.index = idx ∧ f.entry = k ∧ f.iteration = i ∧ f.started = now s ∧ f.replay = false

/-- In u a fresh run of a plan position is the running plan frame; the plan position and the run state are as in s. -/
def BegunIn (s u : State) (idx k i : Nat) : Prop :=
  (u.fr.pos = s.fr.pos ∧ u.fr.run = s.fr.run) ∧ ∃ f, u.fr.running = some f ∧ FreshRun s idx k i f

/-- Beginning a plan position makes a fresh run of it the running plan frame. -/
theorem beginFrame_begins {s : State} {p : PlanImage} {idx k i : Nat} (hloaded : s.plan.loaded = some p) (hseq : seqAt p idx = some (k, i))
    (again : Bool) : BegunIn s (beginFrame s idx again) idx k i := by
  unfold beginFrame
  split
  case h_1 hnone => cases hloaded.symm.trans hnone
  case h_2 q hq =>
    cases hloaded.symm.trans hq
    split
    case h_1 hnone => cases hseq.symm.trans hnone
    case h_2 k' i' hseq' =>
      cases hseq.symm.trans hseq'
      extract_lets e step g f fr entered scaled snapped upd num learning slotted fr'
      have fresh : FreshRun s idx k i f := ⟨rfl, rfl, rfl, rfl, rfl⟩
      have position : slotted.fr.pos = s.fr.pos ∧ slotted.fr.run = s.fr.run := by
        have kept : ChangesOnly { upd := true, num := true } entered snapped :=
          touch_ite (fun _ => takeSnapshot_touch rfl (scalesTick_touch rfl (ChangesOnly.refl _)))
            (fun _ => scalesTick_touch rfl (ChangesOnly.refl _))
        have learned : learning.fr = snapped.fr := by
          dsimp only [learning]
          split <;> rfl
        have started : slotted.fr = learning.fr := by
          dsimp only [slotted]
          split <;> rfl
        rw [started, learned]
        exact kept.position rfl
      clear_value slotted f
      split
      case h_1 => exact ⟨position, f, rfl, fresh⟩
      case h_2 t _ =>
        extract_lets placed
        have place : placed.fr.pos = s.fr.pos ∧ placed.fr.run = s.fr.run := by
          obtain ⟨hpos, hrun⟩ := (placeCalibrations_touch (W := { arrays := true }) (t := some t) rfl (ChangesOnly.refl slotted)).position rfl
          exact ⟨hpos.trans position.1, hrun.trans position.2⟩
        obtain ⟨hpos, hrun⟩ := grantFallback_position placed t idx
        clear_value placed
        generalize grantFallback placed t idx = grant at hpos hrun ⊢
        obtain ⟨v, granted⟩ := grant
        have ticked := grantTick_touch (W := { hbm := true, traffic := true, ctx := true, ev := true, outbox := true })
          (t := t) rfl rfl rfl rfl rfl (ChangesOnly.refl { v with fr.running := some { f with fallback := granted } })
        obtain ⟨hpos', hrun'⟩ := ticked.position rfl
        exact ⟨⟨hpos'.trans (hpos.trans place.1), hrun'.trans (hrun.trans place.2)⟩, _, ticked.running rfl, fresh⟩

theorem beginFrame_plan (s : State) (idx : Nat) (again : Bool) : (beginFrame s idx again).plan = s.plan :=
  (beginFrame_touch (W := { Parts.all with plan := false }) rfl rfl rfl rfl rfl rfl rfl rfl rfl rfl rfl rfl (ChangesOnly.refl s)).plan rfl

/-- The state in which a plan's first frame begins: it stands at position 0 and runs, and its load's request is answered. -/
structure ReadyToBegin (s v : State) : Prop where
  plan : v.plan = withLoadReq { s.plan with stage := .idle, stoppedClean := false } none
  pos : v.fr.pos = 0
  run : v.fr.run = .running
  now : now v = now s

/-- Starting a plan is beginning its position 0, the settings taken, the scales and the Lakes started, and the load's end told. -/
theorem startPlan_begins (s : State) (p : PlanImage) : ∃ v, ReadyToBegin s v ∧ startPlan s p = beginFrame v 0 false := by
  unfold startPlan
  extract_lets set fr num plan started scaled tree link lakes ended
  refine ⟨ended, ?_, rfl⟩
  have settings : ChangesOnly { traffic := true, ev := true, outbox := true, settings := true } s set :=
    planSettings_touch rfl rfl rfl rfl (ChangesOnly.refl s)
  have scales : ChangesOnly { num := true, traffic := true, ev := true, outbox := true } started scaled :=
    touch_ite (fun _ => carryOver_touch rfl (ChangesOnly.refl _)) (fun _ => startCold_touch rfl rfl rfl rfl (ChangesOnly.refl _))
  have told := endLoad_changes lakes .ok lakes.plan.manifest (loadBody 0 0 0 (now lakes))
  obtain ⟨hpos, hrun⟩ := told.position rfl
  obtain ⟨hpos', hrun'⟩ := scales.position rfl
  have hplan : lakes.plan = { s.plan with stage := .idle, stoppedClean := false } := by
    refine (scales.plan rfl).trans ?_
    rw [← settings.plan rfl]
  exact ⟨hplan ▸ endLoad_plan .., hpos.trans hpos', hrun.trans hrun', (told.now rfl).trans ((scales.now rfl).trans (settings.now rfl))⟩

theorem runs_planStart {s : State} {p : PlanImage} {k i : Nat} (hloaded : s.plan.loaded = some p) (hstage : s.plan.stage = .starting)
    (hframe : s.plan.startFrame = some (now s)) (hseq : seqAt p 0 = some (k, i)) :
    Runs .planStart s (fun u => u.plan.stage = .idle ∧ u.fr.run = .running ∧ u.fr.pos = 0 ∧ u.plan.loadReq = none ∧
      ∃ f, u.fr.running = some f ∧ f.index = 0 ∧ f.entry = k ∧ f.iteration = i ∧ f.started = now s ∧ f.replay = false) := by
  have hexec : exec .planStart s = .next (rewritePage (startPlan s p)) := by
    show execPlanStart s = _
    rw [execPlanStart, hloaded]
    exact if_pos ⟨hstage, hframe⟩
  obtain ⟨v, ⟨hplan, hpos, hrun, hnow⟩, hbegins⟩ := startPlan_begins s p
  have loaded : v.plan.loaded = some p := by
    rw [hplan]
    exact hloaded
  obtain ⟨⟨hpos', hrun'⟩, f, hrunning, hindex, hentry, hiteration, hstarted, hreplay⟩ := beginFrame_begins loaded hseq false
  have plan : (startPlan s p).plan = withLoadReq { s.plan with stage := .idle, stoppedClean := false } none := by
    rw [hbegins, beginFrame_plan, hplan]
  have stage := congrArg PlanState.stage plan
  have owed := congrArg PlanState.loadReq plan
  rw [← hbegins] at hpos' hrun' hrunning
  exact ⟨_, hexec, stage, hrun'.trans hrun, hpos'.trans hpos, owed, f, hrunning, hindex, hentry, hiteration, hstarted.trans hnow, hreplay⟩

/-- Settles O47: one lemma for each of the six commands. -/
theorem plansLoadPrepareAndStart : Obligations.PlansLoadPrepareAndStart := by
  intro r host length image s
  exact ⟨fun hadmitted hopen hselftest =>
      ⟨fun hfree => runs_planLoadNow hadmitted hopen hselftest hfree, runs_planLoadAtBoundary hadmitted hopen hselftest⟩,
    fun _ => runs_planDiscard, fun _ => runs_planLoadTimeout, fun _ => runs_preparationComplete, fun _ _ _ => runs_planStart⟩

end Sys2Proof.Machine
end

section
/-!
PROOFS. A link-down of the PCIe endpoint: what it drops (R470), and its escalation while a plan places host DMA (R222).
-/
namespace Sys2Proof.Machine
open Sys2Proof

/-! ### Events that are stored -/

theorem sendEvents_ev (s : State) (l : List EventRec) : (sendEvents s l).ev = s.ev := by rw [sendEvents_frame]

theorem msiEvent_ring (s : State) : (msiEvent s).ev.ring = s.ev.ring := by
  unfold msiEvent
  extract_lets due
  split <;> rfl

theorem msiEvent_counts (s : State) : (msiEvent s).ev.counts = s.ev.counts := by
  unfold msiEvent
  extract_lets due
  split <;> rfl

/-- A record is stored behind those that the ring of 8,192 still has room for (R407). -/
theorem storeEvent_ring (s : State) (e : EventRec) :
    (storeEvent s e).ev.ring = s.ev.ring.drop (s.ev.ring.length + 1 - 8192) ++ [e] := by
  have room : s.ev.ring.length + 1 - 8192 ≤ s.ev.ring.length := by omega
  simp only [storeEvent, msiEvent_ring, sendEvents_ev, List.length_append, List.length_singleton,
    List.drop_append_of_le_length room]

theorem storeEvent_counts (s : State) (e : EventRec) : (storeEvent s e).ev.counts = s.ev.counts := by
  simp only [storeEvent, msiEvent_counts, sendEvents_ev]

/-- An event of which fewer than 64 were in the second is stored, and is the ring's latest (R407, R408). -/
theorem raise_ring {s : State} {code : Nat} (h : tget 0 s.ev.counts code < 64) (u : UnitRef) (level : Nat) (ps : List Nat) :
    ∃ l, (raise s code u level ps).ev.ring = l ++ [eventRecord s code u level 0 ps] := by
  rw [raise, if_pos (.inl h), storeEvent_ring]
  exact ⟨_, rfl⟩

/-- The ring's latest record is not the one that leaves it when another event is raised. -/
theorem mem_ring_raise {s : State} {l : List EventRec} {e : EventRec} (h : s.ev.ring = l ++ [e]) (code : Nat) (u : UnitRef) (level : Nat)
    (ps : List Nat) : e ∈ (raise s code u level ps).ev.ring := by
  have last : e ∈ s.ev.ring.drop (s.ev.ring.length + 1 - 8192) := by
    rw [h, List.drop_append_of_le_length (by rw [List.length_append, List.length_singleton]; omega)]
    exact List.mem_append_right _ (List.mem_singleton_self e)
  unfold raise
  split
  · rw [storeEvent_ring]
    exact List.mem_append_left _ last
  · rw [h]
    exact List.mem_append_right _ (List.mem_singleton_self e)

/-- Raising an event counts it under its own code only. -/
theorem counts_raise_other (s : State) {code c : Nat} (h : c ≠ code) (u : UnitRef) (level : Nat) (ps : List Nat) :
    tget 0 (raise s code u level ps).ev.counts c = tget 0 s.ev.counts c := by
  unfold raise
  split
  · rw [storeEvent_counts]
    exact tget_tmod_other 0 s.ev.counts (· + 1) h
  · rfl

/-! ### Escalation to L3 -/

theorem floodExpel_changes (s : State) (rank : Nat) : ChangesOnly { sync := true } s (floodExpel s rank) :=
  floodExpel_touch rfl (ChangesOnly.refl s)

/-- An escalation's event is stored, and stays in the ring beside EV-0250. -/
theorem takeL3_stores {s : State} {code : Nat} (h : tget 0 s.ev.counts code < 64) (u : UnitRef) (ps : List Nat) :
    eventRecord s code u 3 0 ps ∈ (takeL3 s code u ps).ev.ring := by
  unfold takeL3
  extract_lets raised fr levelled announced
  obtain ⟨l, hring⟩ : ∃ l, levelled.ev.ring = l ++ [eventRecord s code u 3 0 ps] := raise_ring h u 3 ps
  have stored := mem_ring_raise hring 0x0250 unitPackage 3 []
  split
  · rw [(floodExpel_changes ..).ev rfl]
    exact stored
  · exact stored

theorem takeL3_running (s : State) (code : Nat) (u : UnitRef) (ps : List Nat) :
    (takeL3 s code u ps).fr.running = s.fr.running.map (fun p => { p with level := max p.level 3 }) := by
  unfold takeL3
  extract_lets raised fr levelled announced
  have hrunning : announced.fr.running = s.fr.running.map (fun p => { p with level := max p.level 3 }) := by
    simp only [announced, levelled, raised, raise_fr]
  split
  · rw [(floodExpel_changes ..).running rfl, hrunning]
  · exact hrunning

theorem takeL3_changes (s : State) (code : Nat) (u : UnitRef) (ps : List Nat) :
    ChangesOnly { runs := true, sync := true, traffic := true, ev := true, outbox := true } s (takeL3 s code u ps) :=
  takeL3_touch rfl rfl rfl rfl rfl (ChangesOnly.refl s)

/-! ### What a link-down drops -/

theorem rollbackHost_changes (s : State) :
    ChangesOnly { traffic := true, ev := true, outbox := true, settings := true } s (rollbackHost s) :=
  rollbackHost_touch rfl rfl rfl rfl (ChangesOnly.refl s)

/-- The rollback of a transaction raises no event but EV-0108. -/
theorem counts_rollbackTxn (s : State) (id : Nat) {c : Nat} (h : c ≠ 0x0108) :
    tget 0 (rollbackTxn s id).ev.counts c = tget 0 s.ev.counts c := by
  unfold rollbackTxn
  cases txnOf s id with
  | none => rfl
  | some t =>
    dsimp only
    split
    · exact counts_raise_other (dropTxn s id t) h ..
    · rfl

theorem counts_rollbackHost (s : State) {c : Nat} (h : c ≠ 0x0108) : tget 0 (rollbackHost s).ev.counts c = tget 0 s.ev.counts c := by
  have each : ∀ (l : List (Nat × Txn)) (s : State),
      tget 0 (l.foldl (fun s x => rollbackTxn s x.1) s).ev.counts c = tget 0 s.ev.counts c := by
    intro l
    induction l with
    | nil => exact fun _ => rfl
    | cons x l ih => exact fun s => (ih _).trans (counts_rollbackTxn s x.1 h)
  exact each _ s

theorem dropHost_changes (s : State) :
    ChangesOnly { plan := true, traffic := true, ctx := true, ev := true, outbox := true, mail := true, settings := true } s (dropHost s) :=
  dropHost_touch rfl rfl rfl rfl rfl rfl rfl (ChangesOnly.refl s)

/-- Of the plan's state, a link-down drops only what is owed to the host. -/
theorem dropHost_plan (s : State) : ∃ req, (dropHost s).plan = withLoadReq s.plan req :=
  ⟨_, congrArg (withLoadReq · _) ((rollbackHost_changes s).plan rfl)⟩

theorem counts_dropHost (s : State) {c : Nat} (h : c ≠ 0x0108) : tget 0 (dropHost s).ev.counts c = tget 0 s.ev.counts c :=
  counts_rollbackHost s h

/-- Whether a loaded plan places host DMA depends on nothing that a link-down drops. -/
theorem placesHostDma_dropHost (s : State) : placesHostDma (dropHost s) = placesHostDma s := by
  obtain ⟨req, hplan⟩ := dropHost_plan s
  have dropped := dropHost_changes s
  simp only [placesHostDma, planLoaded, planRuns, myBlock, hplan, (dropped.position rfl).2, dropped.closed rfl, withLoadReq]

/-- The host's side after a link-down, before any escalation. -/
def linkLost (s : State) (cyc : Nat) : State := dropHost { atCycle s cyc with pin.pcieUp := false }

theorem exec_pcieLinkDown (s : State) (cyc : Nat) : exec (.pcieLinkDown cyc) s =
    .next (if placesHostDma s = true then takeL3 (linkLost s cyc) 0x0121 unitPackage [] else linkLost s cyc) := by
  have places : placesHostDma (linkLost s cyc) = placesHostDma s := placesHostDma_dropHost _
  show Host.Outcome.next (if placesHostDma (linkLost s cyc) = true then _ else _) = _
  rw [places]
  rfl

/-- Settles O55: the link-down keeps the plan, the frames and the count of EV-0121, and the escalation is `takeL3` of that state. -/
theorem linkDownEscalates : Obligations.LinkDownEscalates := by
  intro cyc s
  have dropped := dropHost_changes { atCycle s cyc with pin.pcieUp := false }
  have hpin : (linkLost s cyc).pin.pcieUp = false := congrArg PinState.pcieUp (dropped.pin rfl)
  have hnow : now (linkLost s cyc) = now s := dropped.now rfl
  refine ⟨_, exec_pcieLinkDown s cyc, ?_, fun hplaces => ⟨fun hcount => ?_, fun f hrunning => ?_, fun r hrank => ?_⟩⟩
  · split
    · rw [(takeL3_changes ..).pin rfl, hpin]
    · exact hpin
  all_goals rw [if_pos hplaces]
  · have few : tget 0 (linkLost s cyc).ev.counts 0x0121 < 64 := by
      rw [linkLost, counts_dropHost _ (by decide)]
      exact hcount
    exact ⟨_, takeL3_stores few unitPackage [], rfl, rfl, rfl, hnow⟩
  · refine ⟨{ f with level := max f.level 3 }, ?_, Nat.le_max_right ..⟩
    rw [takeL3_running, linkLost, dropped.running rfl]
    exact congrArg _ hrunning
  · obtain ⟨req, hplan⟩ := dropHost_plan { atCycle s cyc with pin.pcieUp := false }
    have rank : (linkLost s cyc).plan.rank = some r := by rw [linkLost, hplan]; exact hrank
    have expels := takeL3_expels rank 0x0121 unitPackage []
    have hcycle : (linkLost s cyc).fr.cycle = cyc := dropped.cycle rfl
    have hframe : expelFrame (linkLost s cyc) + 1 = if cyc + 19200 ≤ 120000 then now s + 1 else now s + 2 := by
      rw [expelFrame, hnow, hcycle]
      split <;> rfl
    rwa [hframe] at expels

end Sys2Proof.Machine
end

section
/-!
PROOFS. The host's commands on generation contexts: what opens, what waits for the tick as an order (R227), and the token record's way
to host memory (R229).
-/
namespace Sys2Proof.Machine
open Sys2Proof

/-! ### Orders of the next tick -/

/-- Under a plan with a context table, a command on one of its contexts is left to its own checks. -/
theorem onContext_of_held {s : State} {n : Nat} (hheld : hasContexts s = true) (hn : n < 262144) (r : Req) (opcode : Nat)
    (f : State → State) : onContext s r opcode n f = f s := by
  have inside : ¬ contextCount ≤ n := Nat.not_le.mpr hn
  simp only [onContext, hheld, Bool.not_true, Bool.false_eq_true, if_false, if_neg inside]

/-- An admitted command that becomes an order waits behind the orders that came before it. -/
theorem runs_ordered {c : Instr} {s : State} {r : Req} {opcode : Nat} {f : State → State} {o : CtxOrder}
    (hexec : exec c s = .next (serve s r opcode f)) (hadmitted : Admitted s r opcode) (horder : f s = addOrder s o) :
    Runs c s (fun u => u.ctx.orders = s.ctx.orders ++ [o]) := by
  refine ⟨_, hexec, ?_⟩
  rw [serve_of_admitted hadmitted, horder]
  rfl

section
variable {r : Req} {context : Word} {s : State} (hheld : hasContexts s = true) (hn : context.toNat < 262144)
include hheld hn

theorem runs_contextLoad {host word8 word18 : DWord} {promptLen : Word} (hadmitted : Admitted s r 0x0410) (hopen : canOpen s 0x0410 = true)
    (hlen : promptLen.toNat ≤ 1048576) (hwords : wordsOk word8 word18 = true) (hlive : contextLive s context.toNat = false) :
    Runs (.contextLoad r context host promptLen word8 word18) s (fun u => u.eo.opened = s.eo.opened ++
      [{ opcode := 0x0410, req := r, args := [context.toNat, host.toNat, promptLen.toNat, word8.toNat, word18.toNat] }]) := by
  have inRange : ¬ (1048576 < promptLen.toNat ∨ (!wordsOk word8 word18) = true) := by rw [hwords]; simpa using hlen
  have idle : ¬ contextLive s context.toNat = true := by rw [hlive]; exact Bool.false_ne_true
  exact runs_accepted rfl hadmitted hopen ((onContext_of_held hheld hn ..).trans ((if_neg inRange).trans (if_neg idle)))

theorem runs_contextWrite {word8 word18 : DWord} (hadmitted : Admitted s r 0x0412) (hwords : wordsOk word8 word18 = true)
    (hlive : contextLive s context.toNat = false) : Runs (.contextWrite r context word8 word18) s (fun u => u.ctx.orders = s.ctx.orders ++
      [{ opcode := 0x0412, context := context.toNat, req := some r, tokens := [], word8 := word8, word18 := word18 }]) := by
  refine runs_ordered rfl hadmitted ((onContext_of_held hheld hn ..).trans ?_)
  simp only [hwords, hlive, Bool.not_true, Bool.false_eq_true, if_false]
  rfl

theorem runs_contextStop (hadmitted : Admitted s r 0x0413) (hlive : contextLive s context.toNat = true) :
    Runs (.contextStop r context) s (fun u => u.ctx.orders = s.ctx.orders ++
      [{ opcode := 0x0413, context := context.toNat, req := some r, tokens := [], word8 := 0, word18 := 0 }]) :=
  runs_ordered rfl hadmitted ((onContext_of_held hheld hn ..).trans (if_pos hlive))

theorem runs_contextRelease (hadmitted : Admitted s r 0x0414) (hlive : contextLive s context.toNat = false)
    (hused : ctxState s context.toNat ≠ 0) : Runs (.contextRelease r context) s (fun u => u.ctx.orders = s.ctx.orders ++
      [{ opcode := 0x0414, context := context.toNat, req := some r, tokens := [], word8 := 0, word18 := 0 }]) := by
  refine runs_ordered rfl hadmitted ((onContext_of_held hheld hn ..).trans ?_)
  simp only [hlive, Bool.false_eq_true, if_false, if_neg hused]
  rfl

theorem runs_contextTokens {first count : Word} {host : DWord} (hadmitted : Admitted s r 0x0415) (hopen : canOpen s 0x0415 = true)
    (hused : ctxState s context.toNat ≠ 0) (hsome : 1 ≤ count.toNat)
    (hend : first.toNat + count.toNat ≤ wordAt (entryBytes s context.toNat) 0 / 2 ^ 8 % 2 ^ 21) :
    Runs (.contextTokens r context first count host) s (fun u => u.eo.opened = s.eo.opened ++
      [{ opcode := 0x0415, req := r, args := [context.toNat, first.toNat, count.toNat, host.toNat] }]) :=
  runs_accepted rfl hadmitted hopen ((onContext_of_held hheld hn ..).trans ((if_neg hused).trans (if_pos ⟨hsome, hend⟩)))

end

/-- The prompt's arrival makes the load an order, unless it already is one. -/
theorem runs_contextLoadDone {r : Req} {s : State} {c : OpenCommand} (hopen : openCommand s r 0x0410 = some c)
    (hnew : s.ctx.orders.any (fun x => x.opcode == 0x0410 && x.req == some r) = false) :
    Runs (.contextLoadDone r) s (fun u => u.ctx.orders = s.ctx.orders ++
      [{ opcode := 0x0410, context := c.args.getD 0 0, req := some r,
         tokens := (List.range (c.args.getD 2 0)).map (fun i => readLE s.mem.host (c.args.getD 1 0 + 4 * i) 4),
         word8 := BitVec.ofNat 64 (c.args.getD 3 0), word18 := BitVec.ofNat 64 (c.args.getD 4 0) }]) := by
  unfold Runs
  show ∃ t, execContextLoadDone r s = .next t ∧ _
  rw [execContextLoadDone, hopen]
  dsimp only
  rw [hnew]
  exact ⟨_, rfl, rfl⟩

/-! ### The token record's way to host memory -/

/-- One position of the record: its 16 bytes go to the host where its page is held. -/
def copyToken (s : State) (n pos host : Nat) : State :=
  match tokenAddr s n pos with
  | some a => writeHost s host (committedBytes s a 16)
  | none => s

theorem copyTokens_succ (s : State) (n first count host : Nat) : copyTokens s n first (count + 1) host =
    copyToken (copyTokens s n first count host) n (first + count) (host + 16 * count) := by
  unfold copyTokens
  rw [List.range_succ, List.foldl_append]
  rfl

/-- The state with other host memory. -/
def withHost (s : State) (m : Table Byte) : State := { s with mem.host := m }

/-- The record of a context, and what host DMA reads of it, do not depend on host memory. -/
theorem copyToken_withHost (s : State) (m : Table Byte) (n pos host : Nat) : copyToken (withHost s m) n pos host =
    withHost s (match tokenAddr s n pos with
      | some a => writeBytes m host (committedBytes s a 16)
      | none => m) := by
  unfold copyToken
  rw [show tokenAddr (withHost s m) n pos = tokenAddr s n pos from rfl]
  cases tokenAddr s n pos <;> rfl

/-- Moving the record writes host memory and nothing else. -/
theorem copyTokens_frame (s : State) (n first count host : Nat) : ∃ m, copyTokens s n first count host = withHost s m := by
  induction count with
  | zero => exact ⟨s.mem.host, rfl⟩
  | succ k ih =>
    obtain ⟨m, hm⟩ := ih
    rw [copyTokens_succ, hm, copyToken_withHost]
    exact ⟨_, rfl⟩

/-- The entries lie 16 bytes apart, so that each stays as written. -/
theorem hostBytes_copyTokens (s : State) (n first count host : Nat) {i a : Nat} (hi : i < count)
    (ha : tokenAddr s n (first + i) = some a) :
    hostBytes (copyTokens s n first count host) (host + 16 * i) (committedBytes s a 16).length = committedBytes s a 16 := by
  have short : (committedBytes s a 16).length ≤ 16 := committedBytes_length_le ..
  induction count with
  | zero => omega
  | succ k ih =>
    obtain ⟨m, hm⟩ := copyTokens_frame s n first k host
    rw [copyTokens_succ, hm, copyToken_withHost]
    rcases Nat.lt_succ_iff_lt_or_eq.mp hi with hlt | rfl
    · have kept := ih hlt
      rw [hm] at kept
      cases tokenAddr s n (first + k) with
      | none => exact kept
      | some b => exact (readBytes_writeBytes_other (Or.inl (by omega))).trans kept
    · rw [ha]
      exact readBytes_writeBytes ..

theorem runs_contextTokensDone {r : Req} {s : State} {c : OpenCommand} (hopen : openCommand s r 0x0415 = some c) :
    Runs (.contextTokensDone r) s (fun u => u.eo.opened = s.eo.opened.erase c ∧
      Answered u r (okResponse s r 0x0415 [] (bytesLE 4 (c.args.getD 2 0))) ∧
      ∀ i < c.args.getD 2 0, ∀ a, tokenAddr s (c.args.getD 0 0) (c.args.getD 1 0 + i) = some a →
        hostBytes u (c.args.getD 3 0 + 16 * i) (committedBytes s a 16).length = committedBytes s a 16) := by
  unfold Runs
  show ∃ t, execContextTokensDone r s = .next t ∧ _
  rw [execContextTokensDone, hopen]
  dsimp only
  obtain ⟨m, hm⟩ := copyTokens_frame (closeCommand s c) (c.args.getD 0 0) (c.args.getD 1 0) (c.args.getD 2 0) (c.args.getD 3 0)
  refine ⟨_, rfl, ?_, ?_, fun i hi a ha => (respond_host ..).trans (hostBytes_copyTokens (closeCommand s c) _ _ _ _ hi ha)⟩
  · rw [respond_opened, hm]
    rfl
  · rw [hm]
    exact answered_respond ..

/-- Settles O43: one lemma for each of the commands, by whether it opens, waits as an order or moves the record. -/
theorem contextCommandsWaitForTheTick : Obligations.ContextCommandsWaitForTheTick := by
  intro r context promptLen first count host word8 word18 s
  exact ⟨fun hheld hn => ⟨runs_contextLoad hheld hn, runs_contextWrite hheld hn, runs_contextStop hheld hn, runs_contextRelease hheld hn,
    runs_contextTokens hheld hn⟩, fun _ => runs_contextLoadDone, fun _ => runs_contextTokensDone⟩

end Sys2Proof.Machine
end

section
/-!
PROOFS. What the host registers, configures, loads and acknowledges, and the answers with their readback digests (R478, R479).
-/
namespace Sys2Proof.Machine
open Sys2Proof

/-! ### Answers with a readback digest -/

/-- The parts that the answer to a change of state adds to: its event and its response. -/
def answerParts : Parts := { wire := true, traffic := true, ev := true, outbox := true, mail := true }

theorem settled_changes (s : State) (r : Req) (opcode : Nat) (state body : List Byte) :
    ChangesOnly answerParts s (settled s r opcode state body) :=
  settled_touch rfl rfl rfl rfl rfl (ChangesOnly.refl s)

/-- The event of a change leaves the counter frame that the response names. -/
theorem answered_settled (s : State) (r : Req) (opcode : Nat) (state body : List Byte) :
    Answered (settled s r opcode state body) r (okResponse s r opcode (readback opcode r.tag state) body) := by
  have hnow : now (changeEvent s r opcode) = now s := now_raise ..
  rw [okResponse, ← hnow]
  exact answered_respond ..

/-- An admitted command that settles on a state: that state stands but for the answer's traces, and the answer is on the port. -/
theorem runs_settled {c : Instr} {s v : State} {r : Req} {opcode : Nat} {f : State → State} {state body : List Byte}
    (hexec : exec c s = .next (serve s r opcode f)) (hadmitted : Admitted s r opcode) (hsettles : f s = settled v r opcode state body)
    (hnow : now v = now s) {p : State → Prop}
    (hp : ∀ u, ChangesOnly answerParts v u → p u) :
    Runs c s (fun u => p u ∧ Answered u r (okResponse s r opcode (readback opcode r.tag state) body)) := by
  refine ⟨_, hexec, ?_⟩
  rw [serve_of_admitted hadmitted, hsettles, okResponse, ← hnow]
  exact ⟨hp _ (settled_changes ..), answered_settled ..⟩

/-- The same of the state alone, whatever the answer's digest and body are. -/
theorem runs_staged {c : Instr} {s : State} {r : Req} {opcode : Nat} {f : State → State} {p : State → Prop}
    (hexec : exec c s = .next (serve s r opcode f)) (hadmitted : Admitted s r opcode)
    (hsettles : ∃ v state body, f s = settled v r opcode state body ∧
      ∀ u, ChangesOnly answerParts v u → p u) : Runs c s p := by
  obtain ⟨v, state, body, hf, hp⟩ := hsettles
  refine ⟨_, hexec, ?_⟩
  rw [serve_of_admitted hadmitted, hf]
  exact hp _ (settled_changes ..)

theorem ChangesOnly.staged {W : Parts} {s t : State} (h : ChangesOnly W s t) (hcnt : W.cnt = false) :
    t.cnt.stagedConfig = s.cnt.stagedConfig ∧ t.cnt.stagedClear = s.cnt.stagedClear ∧ t.cnt.ring = s.cnt.ring := by
  have k := h.cnt hcnt
  simp only [Prod.mk.injEq] at k
  obtain ⟨hconfig, hclear, _, hring, _⟩ := k
  exact ⟨hconfig, hclear, hring⟩

/-! ### Buffers -/

section
variable {r : Req} {s : State}

theorem runs_offloadRegister {host length : DWord} (hadmitted : Admitted s r 0x0301) (hfree : placesHostDma s = false)
    (haligned : host.toNat % 64 = 0) (hsome : 0 < length.toNat) (hwhole : length.toNat % 4160 = 0) :
    Runs (.offloadRegister r host length) s (fun u => u.ctx.offload = some (host.toNat, length.toNat) ∧
      Answered u r (okResponse s r 0x0301 (readback 0x0301 r.tag (bufferBytes host.toNat length.toNat)) [])) := by
  have unplaced : ¬ placesHostDma s = true := by rw [hfree]; exact Bool.false_ne_true
  refine runs_settled (v := { s with ctx.offload := some (host.toNat, length.toNat) }) rfl hadmitted ?_ rfl ?_
  · exact (if_neg unplaced).trans (if_pos ⟨haligned, hsome, hwhole⟩)
  · exact fun _ h => congrArg CtxState.offload (h.ctx rfl)

theorem runs_offloadRelease (hadmitted : Admitted s r 0x0302) (hidle : planRuns s = false) :
    Runs (.offloadRelease r) s (fun u => u.ctx.offload = none ∧
      Answered u r (okResponse s r 0x0302 (readback 0x0302 r.tag (bufferBytes 0 0)) [])) := by
  have idle : ¬ planRuns s = true := by rw [hidle]; exact Bool.false_ne_true
  exact runs_settled (v := { s with ctx.offload := none }) rfl hadmitted (if_neg idle) rfl (fun _ h => congrArg CtxState.offload (h.ctx rfl))

theorem runs_dumpRegister {host length : DWord} (hadmitted : Admitted s r 0x0A04) (haligned : host.toNat % 4096 = 0)
    (hroom : 64 + 2 * dumpSize (dumpSections s) ≤ length.toNat) :
    Runs (.dumpRegister r host length) s (fun u =>
      u.cnt.ring = some { addr := host.toNat, length := length.toNat, written := 0, sequence := 0, base := 0,
                          size := dumpSize (dumpSections s), dropped := 0 } ∧
      Answered u r (okResponse s r 0x0A04 (readback 0x0A04 r.tag (bufferBytes host.toNat length.toNat))
        (bytesLE 4 (dumpSize (dumpSections s)) ++ bytesLE 4 (dumpSlots length.toNat (dumpSize (dumpSections s)))))) := by
  have fits : ¬ (host.toNat % 4096 ≠ 0 ∨ length.toNat < 64 + 2 * dumpSize (dumpSections s)) :=
    not_or.mpr ⟨not_not.mpr haligned, Nat.not_lt.mpr hroom⟩
  exact runs_settled (v := { s with cnt.ring := some _ }) rfl hadmitted (if_neg fits) rfl (fun _ h => (h.staged rfl).2.2)

theorem runs_dumpRelease (hadmitted : Admitted s r 0x0A05) :
    Runs (.dumpRelease r) s (fun u => u.cnt.ring = none ∧
      Answered u r (okResponse s r 0x0A05 (readback 0x0A05 r.tag (bufferBytes 0 0))
        (bytesLE 4 ((s.cnt.ring.map DumpRing.written).getD 0)))) :=
  runs_settled (v := { s with cnt.ring := none }) rfl hadmitted rfl rfl (fun _ h => (h.staged rfl).2.2)

/-! ### Counters -/

theorem runs_counterConfig {kind : Byte} {first count : Half} {words : List Half} (hadmitted : Admitted s r 0x0A01)
    (hlen : words.length = counterCount (blockOf kind.toNat 0)) (hblocks : blocksExist kind.toNat first.toNat count.toNat = true)
    (hwords : words.all (configOk kind.toNat) = true) :
    Runs (.counterConfig r kind first count words) s (fun u =>
      u.cnt.stagedConfig = s.cnt.stagedConfig ++ (namedBlocks kind.toNat first.toNat count.toNat).flatMap (fun b =>
        words.zipIdx.map (fun x => (nextTick s, counterKey b x.2, x.1)))) := by
  have inRange : ¬ (!blocksExist kind.toNat first.toNat count.toNat || !words.all (configOk kind.toNat)) = true := by
    rw [hblocks, hwords]
    exact Bool.false_ne_true
  refine runs_staged rfl hadmitted ?_
  exact ⟨_, _, _, (if_neg (not_not.mpr hlen)).trans (if_neg inRange), fun _ h => (h.staged rfl).1⟩

theorem runs_counterClear {kind mask : Byte} {first count : Half} (hadmitted : Admitted s r 0x0A03)
    (hblocks : blocksExist kind.toNat first.toNat count.toNat = true) :
    Runs (.counterClear r kind first count mask) s (fun u =>
      u.cnt.stagedClear = s.cnt.stagedClear ++ (namedBlocks kind.toNat first.toNat count.toNat).flatMap (fun b =>
        ((List.range (counterCount b)).filter (fun k => mask.getLsbD k)).map (fun k => (nextTick s, counterKey b k)))) := by
  refine runs_staged rfl hadmitted ?_
  exact ⟨_, _, _, if_pos hblocks, fun _ h => (h.staged rfl).2.1⟩

/-! ### Filters of the AOM -/

theorem runs_aomFilterLoad {filter : BitVec 1024} (hadmitted : Admitted s r 0x0603) (hopen : bitsOf filter 5 0 ∉ protectedSlots)
    (hlow : 1 ≤ bitsOf filter 5 0) (hhigh : bitsOf filter 5 0 ≤ 32) (hvalid : filterOk filter = true)
    (hroom : otherInstrs s (bitsOf filter 5 0) + ftCount filter ≤ 256) :
    Runs (.aomFilterLoad r filter) s (fun u => u.aom.staged = s.aom.staged ++ [(bitsOf filter 5 0, some filter)] ∧
      Answered u r (okResponse s r 0x0603 (readback 0x0603 r.tag (bytesLE 128 filter.toNat)) [])) := by
  have unprotected : ¬ protectedSlots.contains (bitsOf filter 5 0) = true := by simpa using hopen
  have fits : ¬ (bitsOf filter 5 0 < 1 ∨ 32 < bitsOf filter 5 0 ∨ (!filterOk filter) = true ∨
      256 < otherInstrs s (bitsOf filter 5 0) + ftCount filter) := by
    rw [hvalid]
    simp only [Bool.not_true, Bool.false_eq_true, false_or]
    omega
  refine runs_settled (v := { s with aom.staged := s.aom.staged ++ [(bitsOf filter 5 0, some filter)] }) rfl hadmitted ?_ rfl ?_
  · exact (if_neg unprotected).trans (if_neg fits)
  · exact fun _ h => congrArg AomState.staged (h.aom rfl)

theorem runs_aomFilterRemove {slot : Byte} (hadmitted : Admitted s r 0x0604) (hopen : slot.toNat ∉ protectedSlots)
    (hlow : 1 ≤ slot.toNat) (hhigh : slot.toNat ≤ 32) :
    Runs (.aomFilterRemove r slot) s (fun u => u.aom.staged = s.aom.staged ++ [(slot.toNat, none)]) := by
  have unprotected : ¬ protectedSlots.contains slot.toNat = true := by simpa using hopen
  have fits : ¬ (slot.toNat < 1 ∨ 32 < slot.toNat) := by omega
  refine runs_staged rfl hadmitted ?_
  exact ⟨_, _, _, (if_neg unprotected).trans (if_neg fits), fun _ h => congrArg AomState.staged (h.aom rfl)⟩

end

/-! ### Acknowledged events -/

theorem msiEvent_acked (s : State) : (msiEvent s).ev.acked = s.ev.acked := by
  unfold msiEvent
  extract_lets due
  split <;> rfl

theorem storeEvent_acked (s : State) (e : EventRec) : (storeEvent s e).ev.acked = s.ev.acked := by
  simp only [storeEvent, msiEvent_acked, sendEvents_ev]

theorem raise_acked (s : State) (code : Nat) (u : UnitRef) (level : Nat) (ps : List Nat) :
    (raise s code u level ps).ev.acked = s.ev.acked := by
  unfold raise
  split
  · rw [storeEvent_acked]
  · rfl

/-- The event that reports what was lost acknowledges nothing, and leaves the counter frame. -/
theorem ackEvents_acked (s : State) (seq : Word) :
    (ackEvents s seq).ev.acked = max s.ev.acked (seq.toNat + 1) ∧ now (ackEvents s seq) = now s := by
  unfold ackEvents
  cases s.ev.lost with
  | none => exact ⟨rfl, rfl⟩
  | some lost => exact ⟨raise_acked .., now_raise ..⟩

theorem acknowledged_changes (s : State) (r : Req) (opcode : Nat) (state body : List Byte) :
    ChangesOnly { wire := true, traffic := true, outbox := true, mail := true } s (acknowledged s r opcode state body) :=
  acknowledged_touch rfl rfl rfl rfl (ChangesOnly.refl s)

theorem runs_eventAck {r : Req} {s : State} {seq : Word} (hadmitted : Admitted s r 0x0106) (hseq : seq.toNat < s.ev.nextSeq.toNat) :
    Runs (.eventAck r seq) s (fun u => u.ev.acked = max s.ev.acked (seq.toNat + 1) ∧
      Answered u r (okResponse s r 0x0106 (readback 0x0106 r.tag (bytesLE 4 seq.toNat)) [])) := by
  obtain ⟨hacked, hnow⟩ := ackEvents_acked s seq
  have hexec : exec (.eventAck r seq) s = .next (acknowledged (ackEvents s seq) r 0x0106 (bytesLE 4 seq.toNat) []) := by
    show execEventAck r seq s = _
    rw [execEventAck, serve_of_admitted hadmitted, if_pos hseq]
  refine ⟨_, hexec, (congrArg EventState.acked ((acknowledged_changes ..).ev rfl)).trans hacked, ?_⟩
  rw [okResponse, ← hnow]
  exact answered_respond ..

/-- Settles O45: each command in turn keeps or stages what was sent, and what its answer adds to the state leaves that. -/
theorem registrationsAndConfigurationsAreKept : Obligations.RegistrationsAndConfigurationsAreKept := by
  intro r host length kind mask slot first count words filter seq s
  exact ⟨runs_offloadRegister, runs_offloadRelease, runs_dumpRegister, runs_dumpRelease, runs_counterConfig, runs_counterClear,
    runs_aomFilterLoad, runs_aomFilterRemove, runs_eventAck⟩

end Sys2Proof.Machine
end

section
/-!
PROOFS. The engines' results in tile memory: VECTOR (R199), ATTEND (R226), COMPRESS (R213) and a plain DMA (R247).
-/
namespace Sys2Proof.Machine
open Sys2Proof

/-! ### Operands without poison -/

/-- With no poison in memory no write covers a poisoned unit in part. -/
theorem placePartial_of_clean {s : State} (hhbm : s.mem.hbmPoison = []) (htile : s.mem.tilePoison = []) (p : Place) (n : Nat) :
    placePartial s p n = [] := by
  have unmarked := placeMarks_of_clean hhbm htile p n
  cases p with
  | tile t off => exact congrArg (List.filter _) unmarked
  | hbm a => exact congrArg (List.filter _) unmarked
  | none => rfl

/-- The parts that reading and writing operands may change where no poison is consumed. -/
def movedParts : Parts := { ops := true, traffic := true }

/-- Operands in memory without poison consume nothing: traffic is counted, and outputs are marked as read. -/
theorem useOperands_of_clean {s : State} (hhbm : s.mem.hbmPoison = []) (htile : s.mem.tilePoison = []) (gen t op : Nat)
    (ins : List (Place × Nat)) (out : Place × Nat) : ChangesOnly movedParts s (useOperands s gen t op ins out) := by
  have unmarked : ins.flatMap (fun x => placeMarks s x.1 x.2) ++ placePartial s out.1 out.2 = [] := by
    simp [placeMarks_of_clean hhbm htile, placePartial_of_clean hhbm htile]
  simp only [useOperands, unmarked]
  exact touch_foldl (countWrite_touch rfl (.refl s)) (fun _ _ h => countRead_touch rfl rfl h)

/-! ### A result and what reports on it -/

/-- A running plan frame's write to tile memory reads back. -/
theorem tileBytes_placeWrite {s : State} {f : PlanFrame} (hrun : s.fr.running = some f) (tl off : Nat) (bytes : List Byte)
    (poison : Nat → Option (Nat × Nat)) : tileBytes (placeWrite s f.gen (.tile tl off) bytes poison) tl off bytes.length = bytes := by
  have opened : (!openGen s f.gen) = false := by simp [openGen, hrun]
  rw [placeWrite, opened, if_neg Bool.false_ne_true]
  exact tileBytes_writeTile ..

/-- The parts that an engine may change after its result is written. -/
def notedParts : Parts := { runs := true, num := true, traffic := true, ev := true, outbox := true }

/-- An operation that moves its operands, writes its result to tile memory and notes its shares and flags leaves that result. -/
theorem tileBytes_of_result {s s₁ u : State} {f : PlanFrame} {tl off : Nat} {bytes : List Byte} {poison : Nat → Option (Nat × Nat)}
    (hrun : s.fr.running = some f) (moved : ChangesOnly movedParts s s₁)
    (noted : ChangesOnly notedParts (placeWrite s₁ f.gen (.tile tl off) bytes poison) u) : tileBytes u tl off bytes.length = bytes := by
  rw [tileBytes_of_changesOnly noted rfl]
  exact tileBytes_placeWrite ((moved.running rfl).trans hrun) ..

/-- An engine's operation in flight acts on the running plan frame and completes. -/
theorem withOp_of_inFlight {s : State} {op cls : Nat} {f : PlanFrame} {t : Template} {d : Desc} (hrun : s.fr.running = some f)
    (hdesc : runningDesc s op = some (t, d)) (hflight : inFlight f op = true) (hclass : dsClass d = cls)
    (effect : PlanFrame → Template → Desc → State → State) : withOp s op cls effect = finishOp (effect f t d s) op := by
  rw [withOp, hrun, hdesc]
  exact if_pos ⟨hflight, hclass⟩

theorem tileBytes_finishOp (s : State) (op tl off n : Nat) : tileBytes (finishOp s op) tl off n = tileBytes s tl off n := rfl

/-! ### The four operations -/

/-- A BF16 word takes two bytes. -/
theorem length_flatMap_bytesLE_two (out : List Half) : (out.flatMap (fun h => bytesLE 2 h.toNat)).length = 2 * out.length := by
  simp [List.length_flatMap, bytesLE, Nat.mul_comm]

theorem length_placeBytes (s : State) (p : Place) (n : Nat) : (placeBytes s p n).length = n := by
  cases p <;> simp [placeBytes, tileBytes, hbmBytes, readBytes]

section
variable {s : State} {f : PlanFrame} {t : Template} {d : Desc} {tl off : Nat} (hrun : s.fr.running = some f)
  (hhbm : s.mem.hbmPoison = []) (htile : s.mem.tilePoison = [])
include hrun hhbm htile

theorem tileBytes_vectorOp (hplace : placeOf s t f d d.d6 = .tile tl off) :
    let out := vecCompute s d (placeOf s t f d d.d4) (placeOf s t f d d.d5) (.tile tl off)
    tileBytes (vectorOp none f t d s) tl off out.bytes.length = out.bytes := by
  intro out
  simp only [vectorOp, hplace]
  exact tileBytes_of_result hrun (useOperands_of_clean hhbm htile ..)
    (noteNonFinite_touch rfl rfl rfl rfl (noteShares_touch rfl rfl (.refl _)))

theorem tileBytes_compressOp (hplace : placeOf s t f d d.d5 = .tile tl off) :
    let xs := floatsAt s (placeOf s t f d d.d4) (32 * cpBlocks d) true
    let bytes := ((List.range (cpBlocks d)).map (fun b => compressBlock ((xs.drop (32 * b)).take 32))).flatMap
      (fun b => bytesLE 1 b.1 ++ b.2.1.map (fun q => BitVec.ofInt 8 q))
    tileBytes (compressOp none f t d s) tl off bytes.length = bytes := by
  intro xs bytes
  simp only [compressOp, hplace]
  exact tileBytes_of_result hrun (useOperands_of_clean hhbm htile ..)
    (noteNonFinite_touch rfl rfl rfl rfl (noteShares_touch rfl rfl (.refl _)))

theorem tileBytes_attendOp (hplace : placeOf s t f d d.d6 = .tile tl off) :
    let w := atWidth d
    let q := floatsAt s ((placeOf s t f d d.d4).plus 64) w true
    let n := ctxLengthAt s f.gen (atContext d)
    let pool := placeOf s t f d d.d5
    let out := attend q (kvRows s pool (atContext d) (atHead d) w n false) (kvRows s pool (atContext d) (atHead d) w n true)
      ((floatsAt s (placeOf s t f d d.d4) 1 false).headD .zero)
    tileBytes (attendOp none f t d s) tl off (2 * out.length) = out.flatMap (fun h => bytesLE 2 h.toNat) := by
  intro w q n pool out
  rw [← length_flatMap_bytesLE_two]
  simp only [attendOp, hplace]
  exact tileBytes_of_result hrun (useOperands_of_clean hhbm htile ..)
    (noteNonFinite_touch rfl rfl rfl rfl (noteFloats_touch rfl rfl (.refl _)))

/-- A plain DMA between places on the package copies its source's bytes; poison that a copy would carry is not in the bytes. -/
theorem tileBytes_dmaOp (hplace : placeOf s t f d d.d5 = .tile tl off) (hsrc : oprSpace d.d4 ≠ 4) (hdst : oprSpace d.d5 ≠ 4)
    (hplain : dmTranspose d = false) :
    tileBytes (dmaOp f t d s) tl off (dmBytes d) = placeBytes s (placeOf s t f d d.d4) (dmBytes d) := by
  have unmarked : placePartial s (.tile tl off) (dmBytes d) = [] := placePartial_of_clean hhbm htile ..
  have moved : ChangesOnly movedParts s (countWrite (countRead s (dsTile d) (placeOf s t f d d.d4) (dmBytes d)) (dsTile d)
      (.tile tl off) (dmBytes d)) := countWrite_touch rfl (countRead_touch rfl rfl (.refl s))
  have copied := tileBytes_placeWrite ((moved.running rfl).trans hrun) tl off (placeBytes s (placeOf s t f d d.d4) (dmBytes d))
    (copyPoison s (placeOf s t f d d.d4) (.tile tl off) (dmBytes d))
  rw [length_placeBytes] at copied
  simp only [dmaOp, hdst, hsrc, hplain, hplace, copyBytes, unmarked, if_false, Bool.false_eq_true]
  exact copied

end

/-! ### The cycle that a command carries is not read with its operands -/

theorem placeOf_atCycle (s : State) (cyc : Nat) (t : Template) (f : PlanFrame) (d : Desc) (w : DWord) :
    placeOf (atCycle s cyc) t f d w = placeOf s t f d w := rfl
theorem floatsAt_atCycle (s : State) (cyc : Nat) (p : Place) (n : Nat) (isBf16 : Bool) :
    floatsAt (atCycle s cyc) p n isBf16 = floatsAt s p n isBf16 := rfl
theorem vecCompute_atCycle (s : State) (cyc : Nat) (d : Desc) (a b o : Place) :
    vecCompute (atCycle s cyc) d a b o = vecCompute s d a b o := rfl
theorem kvRows_atCycle (s : State) (cyc : Nat) (pool : Place) (n head w count : Nat) (value : Bool) :
    kvRows (atCycle s cyc) pool n head w count value = kvRows s pool n head w count value := rfl
theorem ctxLengthAt_atCycle (s : State) (cyc gen n : Nat) : ctxLengthAt (atCycle s cyc) gen n = ctxLengthAt s gen n := rfl

/-- Settles O26: each operation is in flight, so its engine acts on the state at the command's cycle, whose memory is that before. -/
theorem engineResultsReachTheirDestination : Obligations.EngineResultsReachTheirDestination := by
  intro op cyc s f t d tl off hrun hdesc hflight hhbm htile
  have acts : ∀ cls effect, dsClass d = cls → withOp (atCycle s cyc) op cls effect = finishOp (effect f t d (atCycle s cyc)) op :=
    fun _ effect hclass => withOp_of_inFlight (s := atCycle s cyc) hrun hdesc hflight hclass effect
  refine ⟨fun hclass hplace => ⟨_, rfl, ?vector⟩, fun hclass hplace => ⟨_, rfl, ?attend⟩,
    fun hclass hplace => ⟨_, rfl, ?compress⟩, fun hclass hplace hsrc hdst hplain => ⟨_, rfl, ?dma⟩⟩
  all_goals
    rw [acts _ _ hclass]
    dsimp only
    rw [tileBytes_finishOp]
  case vector =>
    have computed := tileBytes_vectorOp (s := atCycle s cyc) hrun hhbm htile hplace
    simp only [placeOf_atCycle, vecCompute_atCycle] at computed
    exact computed
  case attend =>
    have attended := tileBytes_attendOp (s := atCycle s cyc) hrun hhbm htile hplace
    simp only [placeOf_atCycle, floatsAt_atCycle, kvRows_atCycle, ctxLengthAt_atCycle] at attended
    exact attended
  case compress => exact tileBytes_compressOp (s := atCycle s cyc) hrun hhbm htile hplace
  case dma => exact tileBytes_dmaOp (s := atCycle s cyc) hrun hhbm htile hplace hsrc hdst hplain

end Sys2Proof.Machine
end

section
/-!
PROOFS. Shared observations (R320), the Mirror's records and tally (R429, R430), prefetched blocks (R219, R220) and off-load writes
(R215, R217).
-/
namespace Sys2Proof.Machine
open Sys2Proof

/-! ### Shared observations -/

theorem exec_scaleObservation {s : State} {rank : Rank} (hmember : rank.val ∉ s.link.expelled) (frame : Word) (index : Half)
    (maxIn maxAll : Word) (ovf qnt : Bool) : exec (.scaleObservation rank frame index maxIn maxAll ovf qnt) s =
      .next (settleAllShared { s with num.sharedIn := s.num.sharedIn ++
        [⟨rank.val, false, frame.toNat, index.toNat, ⟨maxIn, maxAll, ovf, qnt⟩⟩] }) :=
  if_neg (by simpa using hmember)

theorem settleShared_of_partial {s : State} {i f : Nat} (h : sharedWhole s i f = false) : settleShared s i f = s := by
  simp only [settleShared, h, Bool.false_and, Bool.false_eq_true, if_false]

/-- The combined observation of an index and plan frame, and whether this package's own was in warm-up. -/
def combinedObs (s : State) (i f : Nat) : Observation := (sharedObs s i f).foldl (fun a x => combine a x.obs) Observation.none
def warmObs (s : State) (i f : Nat) : Bool := (sharedObs s i f).any (fun x => x.rank == s.plan.rank.getD 0 && x.warm)

/-- The state without the observations of an index and plan frame. -/
def withoutShared (s : State) (i f : Nat) : State :=
  { s with num.sharedIn := s.num.sharedIn.filter (fun x => !(x.index == i && x.frame == f)) }

/-- Settling a whole index takes its observations, and applies what they combine to if that is an observation at all. -/
theorem settleShared_num {s : State} {i f : Nat} {own : SharedObs} (hwhole : sharedWhole s i f = true) (hown : own ∈ sharedObs s i f)
    (hrank : own.rank = s.plan.rank.getD 0) : (settleShared s i f).num =
      if (combinedObs s i f).quantised || (combinedObs s i f).overflow then
        (applyObservation (withoutShared s i f) i f (warmObs s i f) (combinedObs s i f)).num
      else (withoutShared s i f).num := by
  have reported : (sharedObs s i f).any (fun x => x.rank == s.plan.rank.getD 0) = true :=
    List.any_eq_true.mpr ⟨own, hown, by simpa using hrank⟩
  unfold settleShared
  simp only [hwhole, reported, Bool.and_self, if_true]
  change State.num (if ((combinedObs s i f).quantised || (combinedObs s i f).overflow) = true then _ else withoutShared s i f) = _
  split
  · split
    · exact raise_num ..
    · rfl
  · rfl

/-- The scales after an observation that quantised are those of its application. -/
theorem settleShared_of_whole {s : State} {i f : Nat} {own : SharedObs} (hwhole : sharedWhole s i f = true) (hown : own ∈ sharedObs s i f)
    (hrank : own.rank = s.plan.rank.getD 0) :
    (settleShared s i f).num.sharedIn = s.num.sharedIn.filter (fun x => !(x.index == i && x.frame == f)) ∧
    ((combinedObs s i f).quantised = true →
      (settleShared s i f).num.scales = (applyObservation s i f (warmObs s i f) (combinedObs s i f)).num.scales) := by
  rw [settleShared_num hwhole hown hrank]
  refine ⟨by split <;> rfl, fun hquantised => ?_⟩
  rw [hquantised, Bool.true_or, if_pos rfl]
  rfl

/-! ### The Mirror's tally -/

/-- The expulsion of one member whom the verdict names, with its event. -/
def expelNamed (s : State) (x : Nat × Nat) : State := floodExpel (raise s x.2 unitPackage 3 [x.1]) x.1

/-- The parts that an expulsion may change. -/
def expulsionParts : Parts := { sync := true, traffic := true, ev := true, outbox := true }

theorem expelNamed_changes {s₀ s : State} (h : ChangesOnly expulsionParts s₀ s) (x : Nat × Nat) :
    ChangesOnly expulsionParts s₀ (expelNamed s x) := floodExpel_touch rfl (raise_touch rfl rfl rfl h)

theorem flood_expelTargets (s : State) (k : SyncKind) (frame payload : Nat) :
    (flood s k frame payload).link.expelTargets = s.link.expelTargets := by
  unfold flood
  extract_lets
  split <;> rfl

/-- An expulsion that stands is not taken back by another. -/
theorem mem_expelTargets_expelNamed {s : State} {y : Nat × Nat} (h : y ∈ s.link.expelTargets) (x : Nat × Nat) :
    y ∈ (expelNamed s x).link.expelTargets := by
  have kept : y ∈ (raise s x.2 unitPackage 3 [x.1]).link.expelTargets := by rwa [raise_link]
  unfold expelNamed floodExpel
  extract_lets frame flooded
  have still : y ∈ flooded.link.expelTargets := by rwa [flood_expelTargets]
  dsimp only
  split
  · exact still
  · exact List.mem_append_left _ still

theorem expelFrame_expelNamed (s : State) (x : Nat × Nat) : expelFrame (expelNamed s x) = expelFrame s := by
  have named := expelNamed_changes (ChangesOnly.refl s) x
  simp only [expelFrame, named.now rfl, named.cycle rfl]

/-- Every member of a verdict stands to be expelled once all its expulsions are flooded. -/
theorem foldl_expelNamed (l : List (Nat × Nat)) (s : State) :
    ChangesOnly expulsionParts s (l.foldl expelNamed s) ∧
    (∀ y ∈ s.link.expelTargets, y ∈ (l.foldl expelNamed s).link.expelTargets) ∧
    ∀ x ∈ l, (expelFrame s + 1, x.1) ∈ (l.foldl expelNamed s).link.expelTargets := by
  induction l generalizing s with
  | nil => exact ⟨.refl s, fun _ h => h, fun _ h => absurd h (List.not_mem_nil)⟩
  | cons x l ih =>
    obtain ⟨changes, keeps, expels⟩ := ih (expelNamed s x)
    refine ⟨(expelNamed_changes (.refl s) x).trans changes, fun y hy => keeps y (mem_expelTargets_expelNamed hy x), fun z hz => ?_⟩
    rcases List.mem_cons.mp hz with rfl | hz
    · have named := floodExpel_expels (raise s z.2 unitPackage 3 [z.1]) z.1
      rw [show expelFrame (raise s z.2 unitPackage 3 [z.1]) = expelFrame s by simp only [expelFrame, now_raise, raise_fr]] at named
      exact keeps _ named
    · rw [← expelFrame_expelNamed s x]
      exact expels z hz

/-- Before the 16th tick of its round a tally waits (R430). -/
theorem mirrorTally_waits {s : State} {own : MirrorRecord} (hown : s.upd.mirrorOwn = some own) (hearly : now s < s.upd.mirrorTick + 16)
    (cyc : Nat) : exec (.mirrorTally cyc) s = .next (atCycle s cyc) := by
  show execMirrorTally cyc s = _
  simp only [execMirrorTally, atCycle_upd, hown]
  exact if_pos hearly

/-- The state in which a round of the Mirror has ended. -/
def roundEnded (s : State) (own : MirrorRecord) : State :=
  { s with upd.mirrorOwn := none, upd.mirrorRecords := s.upd.mirrorRecords.filter (fun x => x.count != own.count) }

/-- The records that a referee judges a round by. -/
def roundRecords (s : State) (own : MirrorRecord) : List MirrorRecord :=
  own :: s.upd.mirrorRecords.filter (fun x => x.group == own.group && x.count == own.count && x.rank != own.rank)

theorem mirrorTally_judges {s : State} {own : MirrorRecord} (hown : s.upd.mirrorOwn = some own) (hdue : s.upd.mirrorTick + 16 ≤ now s)
    (hreferee : own.rank ∈ referees s) (hmembers : 1 < (groupMembers s).length) (cyc : Nat) : exec (.mirrorTally cyc) s =
      .next ((mirrorVerdict (groupMembers s) (roundRecords s own)).foldl expelNamed (roundEnded (atCycle s cyc) own)) := by
  have due : ¬ now s < s.upd.mirrorTick + 16 := Nat.not_lt.mpr hdue
  have judges : ¬ ((!(referees s).contains own.rank) = true ∨ (groupMembers s).length ≤ 1) := by
    simpa [hreferee] using hmembers
  show execMirrorTally cyc s = _
  simp only [execMirrorTally, atCycle_upd, hown]
  exact (if_neg due).trans (if_neg judges)

theorem runs_mirrorTally {s : State} {own : MirrorRecord} (hown : s.upd.mirrorOwn = some own) (hdue : s.upd.mirrorTick + 16 ≤ now s)
    (hreferee : own.rank ∈ referees s) (hmembers : 1 < (groupMembers s).length) (cyc : Nat) : Runs (.mirrorTally cyc) s (fun u =>
      u.upd.mirrorOwn = none ∧ u.upd.mirrorRecords = s.upd.mirrorRecords.filter (fun x => x.count != own.count) ∧
      ∀ x ∈ mirrorVerdict (groupMembers s)
          (own :: s.upd.mirrorRecords.filter (fun x => x.group == own.group && x.count == own.count && x.rank != own.rank)),
        (expelFrame (atCycle s cyc) + 1, x.1) ∈ u.link.expelTargets) := by
  obtain ⟨changes, -, expels⟩ :=
    foldl_expelNamed (mirrorVerdict (groupMembers s) (roundRecords s own)) (roundEnded (atCycle s cyc) own)
  exact ⟨_, mirrorTally_judges hown hdue hreferee hmembers cyc, congrArg UpdState.mirrorOwn (changes.upd rfl),
    congrArg UpdState.mirrorRecords (changes.upd rfl), expels⟩

/-! ### Prefetched blocks -/

/-- The prefetches without one that is done. -/
theorem deliverBlock_prefetches (s : State) (p : Prefetch) (data : List Byte) (poisoned : Bool) :
    (deliverBlock s p data poisoned).ctx.prefetches = s.ctx.prefetches.filter (fun x => !(x == p)) := by
  have written : ∀ mark, (if p.toHbm then writeHbm s .plain p.dest data mark
      else writeTile s none (p.dest / 2 ^ 23) (p.dest % 2 ^ 23) data mark).ctx = s.ctx := fun mark => by
    split
    · exact (writeHbm_changes ..).ctx rfl
    · exact (writeTile_changes ..).ctx rfl
  exact congrArg (fun c : CtxState => c.prefetches.filter (fun x => !(x == p))) (written _)

theorem tileBytes_deliverBlock {p : Prefetch} (h : p.toHbm = false) (s : State) (data : List Byte) :
    tileBytes (deliverBlock s p data false) (p.dest / 2 ^ 23) (p.dest % 2 ^ 23) data.length = data := by
  unfold deliverBlock
  extract_lets mark written
  have tile : written = writeTile s none (p.dest / 2 ^ 23) (p.dest % 2 ^ 23) data noPoison := by
    simp only [written, h]
    rfl
  show tileBytes written _ _ _ = _
  rw [tile]
  exact tileBytes_writeTile ..

theorem hbmBytes_deliverBlock {p : Prefetch} (h : p.toHbm = true) {s : State} (hclean : s.mem.hbmPoison = []) (data : List Byte) :
    hbmBytes (deliverBlock s p data false) p.dest data.length = data := by
  unfold deliverBlock
  extract_lets mark written
  have hbm : written = writeHbm s .plain p.dest data noPoison := by
    simp only [written, h]
    rfl
  show hbmBytes written _ _ = _
  rw [hbm]
  exact hbmBytes_writeHbm s .plain p.dest data hclean

/-- The prefetches after a failed read: repeated once, and then given up. -/
def afterFailure (l : List Prefetch) (p : Prefetch) : List Prefetch :=
  if p.reread then l.filter (fun x => !(x == p)) else l.map (fun x => if x = p then { x with reread := true } else x)

theorem prefetchFailed_prefetches (s : State) (p : Prefetch) : (prefetchFailed s p).ctx.prefetches = afterFailure s.ctx.prefetches p := by
  unfold prefetchFailed afterFailure
  split
  · rw [raise_ctx, deliverBlock_prefetches]
  · rfl

/-- A block that passes has the size of a block, so that its data are 4,096 bytes. -/
theorem length_data_of_blockPasses {s : State} {p : Prefetch} {bytes : List Byte} (h : blockPasses s p bytes = true) :
    (bytes.take 4096).length = 4096 := by
  have size : bytes.length = 4160 := by
    simp only [blockPasses, Bool.and_eq_true, beq_iff_eq] at h
    obtain ⟨⟨⟨⟨⟨size, -⟩, -⟩, -⟩, -⟩, -⟩ := h
    exact size
  rw [List.length_take, size]
  rfl

/-- The state in which a block's completion is judged: its bytes are counted at the host link. -/
def blockArrived (s : State) (n cyc : Nat) : State := portBytes (active (atCycle s cyc) (blockIo 0) 1 n) 0 n

/-- The state after a block that passed: delivered, and a correction if it took a second read. -/
def blockTaken (s : State) (p : Prefetch) (bytes : List Byte) : State :=
  let v := deliverBlock s p (bytes.take 4096) false
  if p.reread then countCorrected v else v

theorem blockTaken_keeps (s : State) (p : Prefetch) (bytes : List Byte) :
    (blockTaken s p bytes).ctx = (deliverBlock s p (bytes.take 4096) false).ctx ∧
    (blockTaken s p bytes).mem = (deliverBlock s p (bytes.take 4096) false).mem := by
  unfold blockTaken
  extract_lets v
  split <;> exact ⟨rfl, rfl⟩

theorem exec_prefetchCompletion {s : State} {block : Nat} {p : Prefetch} (hread : prefetchOf s block = some p) (bytes : List Byte)
    (completed : Bool) (cyc : Nat) : exec (.prefetchCompletion block bytes completed cyc) s =
      .next (if (completed && blockPasses s p bytes) = true then blockTaken (blockArrived s bytes.length cyc) p bytes
        else prefetchFailed (blockArrived s bytes.length cyc) p) := by
  have found : prefetchOf (portBytes (active (atCycle s cyc) (blockIo 0) 1 bytes.length) 0 bytes.length) block = some p := hread
  show execPrefetchCompletion block bytes completed cyc s = _
  simp only [execPrefetchCompletion, found]
  rfl

theorem runs_prefetchCompletion {s : State} {block : Nat} {p : Prefetch} {bytes : List Byte} (hread : prefetchOf s block = some p)
    (hpasses : blockPasses s p bytes = true) (cyc : Nat) : Runs (.prefetchCompletion block bytes true cyc) s (fun u =>
      u.ctx.prefetches = s.ctx.prefetches.filter (fun x => !(x == p)) ∧
      (p.toHbm = false → tileBytes u (p.dest / 2 ^ 23) (p.dest % 2 ^ 23) 4096 = bytes.take 4096) ∧
      (p.toHbm = true → s.mem.hbmPoison = [] → hbmBytes u p.dest 4096 = bytes.take 4096)) := by
  obtain ⟨hctx, hmem⟩ := blockTaken_keeps (blockArrived s bytes.length cyc) p bytes
  have size := length_data_of_blockPasses hpasses
  refine ⟨_, exec_prefetchCompletion hread bytes true cyc, ?_⟩
  rw [hpasses, Bool.and_self, if_pos rfl]
  dsimp only
  rw [hctx, deliverBlock_prefetches]
  refine ⟨rfl, fun htile => ?_, fun hhbm hclean => ?_⟩
  · have delivered := tileBytes_deliverBlock htile (blockArrived s bytes.length cyc) (bytes.take 4096)
    rwa [size, tileBytes, ← hmem] at delivered
  · have delivered := hbmBytes_deliverBlock hhbm (s := blockArrived s bytes.length cyc) hclean (bytes.take 4096)
    rwa [size, hbmBytes, ← hmem] at delivered

theorem runs_prefetchCompletion_failed {s : State} {block : Nat} {p : Prefetch} {bytes : List Byte} {completed : Bool}
    (hread : prefetchOf s block = some p) (hfails : blockPasses s p bytes = false ∨ completed = false) (cyc : Nat) :
    Runs (.prefetchCompletion block bytes completed cyc) s (fun u => u.ctx.prefetches = afterFailure s.ctx.prefetches p) := by
  have failed : ¬ (completed && blockPasses s p bytes) = true := by
    rcases hfails with h | h <;> simp [h]
  refine ⟨_, exec_prefetchCompletion hread bytes completed cyc, ?_⟩
  rw [if_neg failed]
  exact prefetchFailed_prefetches ..

theorem runs_prefetchTimeout {s : State} {block : Nat} {p : Prefetch} (hread : prefetchOf s block = some p) (cyc : Nat) :
    Runs (.prefetchTimeout block cyc) s (fun u => u.ctx.prefetches = afterFailure s.ctx.prefetches p) := by
  have found : prefetchOf (atCycle s cyc) block = some p := hread
  refine ⟨prefetchFailed (atCycle s cyc) p, ?_, prefetchFailed_prefetches ..⟩
  show execPrefetchTimeout block cyc s = _
  simp only [execPrefetchTimeout, found]

/-! ### Off-load writes -/

/-- The bytes of a block that an off-load write forms from its data: R216's trailer and CRC follow. -/
def offloadBytes (s : State) (f : PlanFrame) (t : Template) (d : Desc) (block : Nat) : List Byte :=
  let data := placeBytes s ((placeOf s t f d d.d4).plus (4096 * (block - firstBlock t f d.d5))) 4096
  let produced := (Config.freeWord s.free).toNat + 2 ^ 32 * ((Config.freeWord (s.free + 1)).toNat % 65536)
  blockBytes data (trailerHead block (dsTensor d) produced f.step (rankField s))

/-- Where a block of the transfer is due and lies in the buffer, its bytes are written there, and host memory is otherwise kept. -/
theorem offloadBlock_host {s : State} {op block : Nat} {f : PlanFrame} {t : Template} {d : Desc} {addr len : Nat}
    (hrun : s.fr.running = some f) (hdesc : runningDesc s op = some (t, d)) (hbuffer : s.ctx.offload = some (addr, len))
    (hissued : (inFlight f op || isCompleted f op) = true) (hclass : dsClass d = 4) (hspace : oprSpace d.d5 = 4)
    (hreplay : f.replay = false) (hfirst : firstBlock t f d.d5 ≤ block) (hlast : block < firstBlock t f d.d5 + blockCount d)
    (hcycle : 2400 ≤ s.fr.cycle) (hfits : 4160 * (block + 1) ≤ len) :
    (offloadBlock s op block).mem.host = writeBytes s.mem.host (addr + 4160 * block) (offloadBytes s f t d block) := by
  have due : ((inFlight f op || isCompleted f op) = true) ∧ dsClass d = 4 ∧ oprSpace d.d5 = 4 ∧ f.replay = false ∧
      firstBlock t f d.d5 ≤ block ∧ block < firstBlock t f d.d5 + blockCount d ∧ 2400 ≤ s.fr.cycle ∧ blockSize * (block + 1) ≤ len :=
    ⟨hissued, hclass, hspace, hreplay, hfirst, hlast, hcycle, hfits⟩
  have counted : ∀ (v : State) (p : Place) (n : Nat), (countRead v (dsTile d) p n).mem.host = v.mem.host := fun v _ _ =>
    ChangesOnly.hostMemory (W := movedParts) (countRead_touch rfl rfl (.refl v)) rfl
  simp only [offloadBlock, hrun, hdesc, hbuffer]
  rw [if_pos due]
  exact congrArg (fun m => writeBytes m _ _) (counted { s with free := s.free + 2 } _ _)

theorem runs_offloadWrite {s : State} {op : Fin 1048576} {block cyc : Nat} {f : PlanFrame} {t : Template} {d : Desc} {addr len : Nat}
    (hrun : s.fr.running = some f) (hdesc : runningDesc s op = some (t, d)) (hbuffer : s.ctx.offload = some (addr, len))
    (hissued : (inFlight f op || isCompleted f op) = true) (hclass : dsClass d = 4) (hspace : oprSpace d.d5 = 4)
    (hreplay : f.replay = false) (hfirst : firstBlock t f d.d5 ≤ block) (hlast : block < firstBlock t f d.d5 + blockCount d)
    (hcycle : 2400 ≤ cyc) (hfits : 4160 * (block + 1) ≤ len) :
    Runs (.offloadWrite op block cyc) s (fun u =>
      hostBytes u (addr + 4160 * block) (offloadBytes s f t d block).length = offloadBytes s f t d block ∧
      ∀ a n, a + n ≤ addr + 4160 * block ∨ addr + 4160 * block + (offloadBytes s f t d block).length ≤ a →
        hostBytes u a n = hostBytes s a n) := by
  have written := offloadBlock_host (s := atCycle s cyc) hrun hdesc hbuffer hissued hclass hspace hreplay hfirst hlast hcycle hfits
  refine ⟨_, rfl, ?_, fun a n hother => ?_⟩
  · rw [hostBytes, written]
    exact readBytes_writeBytes ..
  · rw [hostBytes, written]
    exact readBytes_writeBytes_other hother

/-- Settles O48: one lemma for each of the commands, the two readings of a tally and of a read apart. -/
theorem observationsMirrorAndOffloadAct : Obligations.ObservationsMirrorAndOffloadAct := by
  intro rank frame maxIn maxAll index ovf qnt record cyc block bytes completed op s
  refine ⟨fun hmember => exec_scaleObservation hmember frame index maxIn maxAll ovf qnt,
    fun i f own => ⟨settleShared_of_partial, settleShared_of_whole⟩, rfl,
    fun own hown => ⟨fun hearly => mirrorTally_waits hown hearly cyc, fun hdue hreferee hmembers =>
      runs_mirrorTally hown hdue hreferee hmembers cyc⟩,
    fun p hread => ⟨fun hpasses => runs_prefetchCompletion hread hpasses cyc,
      fun hfails => runs_prefetchCompletion_failed hread hfails cyc, runs_prefetchTimeout hread cyc⟩,
    fun f t d addr len hrun hdesc hbuffer hissued hclass hspace hreplay hfirst hlast hcycle hfits =>
      runs_offloadWrite hrun hdesc hbuffer hissued hclass hspace hreplay hfirst hlast hcycle hfits⟩

end Sys2Proof.Machine
end

section
/-!
PROOFS. Plans and scheduling: the issue of an operation (R251, R443), its completion by each digital engine (R251), and the test
slot (R261, R420).
-/
namespace Sys2Proof.Machine
open Sys2Proof

/-! ### Issue -/

/-- In a running plan frame that describes the operation, OPERATION_ISSUE turns on three conditions, read at the command's cycle. -/
theorem exec_operationIssue {s : State} {op : Fin 1048576} {f : PlanFrame} {t : Template} {d : Desc} (hrun : s.fr.running = some f)
    (hdesc : runningDesc s op = some (t, d)) (cyc : Nat) :
    exec (.operationIssue op cyc) s = .next (if opReady (atCycle s cyc) f t d && !(lowerReady (atCycle s cyc) f t d) &&
      decide (limiterLevel s (dsTile d) < 16) then issueOp (atCycle s cyc) op else atCycle s cyc) := by
  have hdesc' : runningDesc (atCycle s cyc) op = some (t, d) := hdesc
  show execOperationIssue op cyc s = _
  simp only [execOperationIssue, atCycle_fr_running, hrun, hdesc']
  rfl

theorem issueOp_of_running {s : State} {f : PlanFrame} (hrun : s.fr.running = some f) (op : Nat) :
    issueOp s op = { s with
      fr.running := some { f with inflight := f.inflight ++ [{ op := op, cycle := s.fr.cycle, vectors := 0, checks := 0 }] } } := by
  rw [issueOp, hrun]
  rfl

/-- Settles O19: with the three conditions met the operation joins those in flight; at level 16 the third fails. -/
theorem operationsIssueWhenReady : Obligations.OperationsIssueWhenReady := by
  intro op cyc s f t d hrun hdesc
  refine ⟨fun hready hlowest hlevel => ?_, fun hlevel => ?_⟩
  · rw [exec_operationIssue hrun hdesc, hready, hlowest, decide_eq_true hlevel, issueOp_of_running (s := atCycle s cyc) hrun]
    rfl
  · rw [exec_operationIssue hrun hdesc, decide_eq_false (Nat.not_lt.mpr hlevel), Bool.and_false]
    rfl

/-! ### What a plan frame has in flight, completed and failed -/

/-- The operations in flight, the operations completed and the failed checks of a plan frame. -/
def PlanFrame.standing (f : PlanFrame) : List InFlight × List Nat × List FailedCheck := (f.inflight, f.completed, f.failures)

/-- The same of the running plan frame, if one runs. -/
def standing (s : State) : Option (List InFlight × List Nat × List FailedCheck) := s.fr.running.map PlanFrame.standing

theorem standing_of_fr {s u : State} (h : u.fr = s.fr) : standing u = standing s := by rw [standing, h, standing]

theorem ChangesOnly.standing {W : Parts} {s u : State} (h : ChangesOnly W s u) (hruns : W.runs = false) : standing u = standing s :=
  congrArg (Option.map PlanFrame.standing) (h.running hruns)

theorem standing_foldl {β : Type} {g : State → β → State} (hg : ∀ s x, standing (g s x) = standing s) (l : List β) (s : State) :
    standing (l.foldl g s) = standing s :=
  List.foldlRecOn l g (motive := fun v => standing v = standing s) rfl (fun v kept x _ => (hg v x).trans kept)

/-- What an engine notes in its run's plan frame beside these three leaves them. -/
theorem standing_modGen {g : PlanFrame → PlanFrame} (s : State) (gen : Nat)
    (hg : ∀ p, (g p).standing = p.standing := by intro p; rfl) : standing (modGen s gen g) = standing s := by
  have each : ∀ p : PlanFrame, (if p.gen = gen then g p else p).standing = p.standing := fun p => by
    split
    · exact hg p
    · rfl
  simp only [standing, modGen, Option.map_map]
  exact congrArg (Option.map · s.fr.running) (funext each)

theorem standing_addExc (s : State) (gen : Nat) (e : ExcEntry) : standing (addExc s gen e) = standing s :=
  standing_modGen s gen (fun p => by split <;> rfl)

@[simp] theorem standing_noteNonFinite (s : State) (gen t op : Nat) (flag : Option (Nat × Nat × Nat)) :
    standing (noteNonFinite s gen t op flag) = standing s := by
  cases flag with
  | none => rfl
  | some x =>
    have counted : standing (modGen (addExc s gen (excEntry s 5 t 0 0 0 op x.1 x.2.1 x.2.2 0)) gen
        (fun p => { p with nonfinite := p.nonfinite + 1 })) = standing s :=
      (standing_modGen ..).trans (standing_addExc ..)
    unfold noteNonFinite
    dsimp only
    split
    · exact (standing_of_fr (raise_fr ..)).trans counted
    · exact counted

@[simp] theorem standing_noteShares (s : State) (gen tensor n zeros sat nf : Nat) :
    standing (noteShares s gen tensor n zeros sat nf) = standing s := by
  unfold noteShares
  split
  · exact standing_modGen ..
  · rfl

@[simp] theorem standing_noteFloats (s : State) (gen tensor : Nat) (xs : List FVal) :
    standing (noteFloats s gen tensor xs) = standing s := standing_noteShares ..

@[simp] theorem standing_noteObservation (s : State) (f : PlanFrame) (index : Nat) (o : Observation) :
    standing (noteObservation s f index o) = standing s := by
  unfold noteObservation
  split
  · rfl
  · exact standing_modGen ..

@[simp] theorem standing_noteQuantised (s : State) (gen tensor outliers elements : Nat) :
    standing (noteQuantised s gen tensor outliers elements) = standing s := standing_modGen ..

@[simp] theorem standing_placeWrite (s : State) (gen : Nat) (p : Place) (bytes : List Byte) (poison : Nat → Option (Nat × Nat)) :
    standing (placeWrite s gen p bytes poison) = standing s :=
  (placeWrite_touch (W := { hbm := true, tileMem := true, traffic := true }) rfl rfl rfl (.refl s)).standing rfl

@[simp] theorem standing_checkResidue_none (s : State) (gen t engine op : Nat) :
    standing (checkResidue s gen t engine op none) = standing s := rfl

theorem standing_sampleContext (f : PlanFrame) (d : Desc) (p : Place) (src : Desc) (v : Nat) (s : State) (i : Nat) :
    standing (sampleContext f d p src v s i) = standing s :=
  (sampleContext_touch (W := { hbm := true, traffic := true }) rfl rfl (.refl s)).standing rfl

/-- Moving bytes from place to place, and counting them, leaves what the plan frame has in flight, completed and failed. -/
theorem standing_moved (s : State) (gen tile : Nat) (src dst : Place) (n m : Nat) (bytes : List Byte)
    (poison : Nat → Option (Nat × Nat)) :
    standing (placeWrite (countWrite (countRead s tile src n) tile dst m) gen dst bytes poison) = standing s :=
  (standing_placeWrite ..).trans
    ((countWrite_touch (W := movedParts) rfl (countRead_touch rfl rfl (.refl s))).standing rfl)

/-! ### The engines' operations -/

section
variable {s : State} (hhbm : s.mem.hbmPoison = []) (htile : s.mem.tilePoison = [])
include hhbm htile

theorem standing_useOperands (gen t op : Nat) (ins : List (Place × Nat)) (out : Place × Nat) :
    standing (useOperands s gen t op ins out) = standing s := (useOperands_of_clean hhbm htile ..).standing rfl

variable (f : PlanFrame) (t : Template) (d : Desc)

theorem standing_matrixOp : standing (matrixOp none f t d s) = standing s := by
  simp only [matrixOp, standing_checkResidue_none]
  split
  · simp only [standing_noteShares, standing_foldl (fun _ _ => standing_placeWrite ..), standing_useOperands hhbm htile]
  · simp only [standing_noteNonFinite, standing_noteFloats, standing_foldl (fun _ _ => standing_placeWrite ..),
      standing_useOperands hhbm htile]

theorem standing_vectorOp : standing (vectorOp none f t d s) = standing s := by
  simp [vectorOp, standing_useOperands hhbm htile]

theorem standing_compressOp : standing (compressOp none f t d s) = standing s := by
  simp [compressOp, standing_useOperands hhbm htile]

theorem standing_attendOp : standing (attendOp none f t d s) = standing s := by
  simp [attendOp, standing_useOperands hhbm htile]

theorem standing_quantiseOp : standing (quantiseOp none f t d s) = standing s := by
  simp only [quantiseOp, standing_checkResidue_none, standing_noteNonFinite, standing_noteShares, standing_noteQuantised,
    standing_noteObservation, standing_placeWrite]
  exact standing_useOperands hhbm htile ..

theorem standing_sampleOp : standing (sampleOp none f t d s) = standing s := by
  unfold sampleOp
  split
  · rfl
  · simp [standing_foldl (fun _ _ => standing_sampleContext ..), standing_useOperands hhbm htile]

theorem standing_copyBytes (gen tile op : Nat) (src dst : Place) (n : Nat) :
    standing (copyBytes s gen tile op src dst n) = standing s := by
  simp only [copyBytes, placePartial_of_clean hhbm htile]
  exact standing_moved ..

theorem standing_transposedCopy (gen tile op : Nat) (src dst : Place) :
    standing (transposedCopy s gen tile op src dst d) = standing s := by
  simp only [transposedCopy, placePartial_of_clean hhbm htile]
  exact standing_moved ..

theorem standing_dmaOp : standing (dmaOp f t d s) = standing s := by
  unfold dmaOp
  extract_lets src dst
  repeat' split
  · rfl
  · rfl
  · rfl
  · exact standing_transposedCopy hhbm htile ..
  · exact standing_copyBytes hhbm htile ..

end

theorem standing_programOp (f : PlanFrame) (t : Template) (d : Desc) (s : State) : standing (programOp f t d s) = standing s := by
  unfold programOp
  extract_lets k
  split <;> rfl

/-! ### Completion -/

/-- Completing an operation in flight moves it from those in flight to those completed, and fails no check. -/
theorem finishOp_completes {u : State} {f : PlanFrame} {op : Nat} (hstanding : standing u = some f.standing)
    (hflight : inFlight f op = true) : ∃ g, (finishOp u op).fr.running = some g ∧ g.completed = f.completed ++ [op] ∧
      g.inflight = f.inflight.filter (fun x => x.op != op) ∧ g.failures = f.failures := by
  obtain ⟨p, hrun, hp⟩ := Option.map_eq_some_iff.mp hstanding
  obtain ⟨hinflight, hcompleted, hfailures⟩ : p.inflight = f.inflight ∧ p.completed = f.completed ∧ p.failures = f.failures := by
    simpa [PlanFrame.standing] using hp
  have flying : inFlight p op = true := by rw [inFlight, hinflight]; exact hflight
  refine ⟨{ p with inflight := p.inflight.filter (fun x => x.op != op), completed := p.completed ++ [op] }, ?_, ?_⟩
  · simp only [finishOp, hrun, Option.map_some, if_pos flying]
  · dsimp only
    rw [hinflight, hcompleted]
    exact ⟨rfl, rfl, hfailures⟩

/-- An engine whose effect leaves what the plan frame has in flight, completed and failed completes its operation. -/
theorem runs_withOp {c : Instr} {s : State} {op cls cyc : Nat} {f : PlanFrame} {t : Template} {d : Desc}
    {effect : PlanFrame → Template → Desc → State → State} (hrun : s.fr.running = some f) (hdesc : runningDesc s op = some (t, d))
    (hflight : inFlight f op = true) (hclass : dsClass d = cls) (hexec : exec c s = .next (withOp (atCycle s cyc) op cls effect))
    (hkept : standing (effect f t d (atCycle s cyc)) = standing (atCycle s cyc)) :
    Runs c s (fun u => ∃ g, u.fr.running = some g ∧ g.completed = f.completed ++ [op] ∧
      g.inflight = f.inflight.filter (fun x => x.op != op) ∧ g.failures = f.failures) := by
  have before : standing (atCycle s cyc) = some f.standing := congrArg (Option.map PlanFrame.standing) hrun
  refine ⟨_, hexec, ?_⟩
  rw [withOp_of_inFlight (s := atCycle s cyc) hrun hdesc hflight hclass]
  exact finishOp_completes (hkept.trans before) hflight

/-- Settles O25: each engine's effect keeps what the frame has in flight, completed and failed, so that its operation's completion is
all that changes there. -/
theorem enginesCompleteTheirOperations : Obligations.EnginesCompleteTheirOperations := by
  intro op cyc s f t d hrun hdesc hflight hhbm htile c hc
  have completes := fun {cls} {effect} (hclass : dsClass d = cls) (hexec : exec c s = .next (withOp (atCycle s cyc) op cls effect)) =>
    runs_withOp hrun hdesc hflight hclass hexec
  simp only [List.mem_cons, List.not_mem_nil, or_false, Prod.mk.injEq] at hc
  rcases hc with ⟨rfl, hclass⟩ | ⟨rfl, hclass⟩ | ⟨rfl, hclass⟩ | ⟨rfl, hclass⟩ | ⟨rfl, hclass⟩ | ⟨rfl, hclass⟩ | ⟨rfl, hclass⟩ |
    ⟨rfl, hclass⟩ | ⟨rfl, hclass⟩
  · exact completes hclass rfl (standing_matrixOp (s := atCycle s cyc) hhbm htile f t d)
  · exact completes hclass rfl (standing_vectorOp (s := atCycle s cyc) hhbm htile f t d)
  · exact completes hclass rfl (standing_dmaOp (s := atCycle s cyc) hhbm htile f t d)
  · exact completes hclass rfl (standing_programOp f t d _)
  · exact completes hclass rfl (standing_attendOp (s := atCycle s cyc) hhbm htile f t d)
  · exact completes hclass rfl (standing_sampleOp (s := atCycle s cyc) hhbm htile f t d)
  · exact completes hclass rfl (standing_quantiseOp (s := atCycle s cyc) hhbm htile f t d)
  · exact completes hclass rfl (standing_compressOp (s := atCycle s cyc) hhbm htile f t d)
  · exact completes hclass rfl rfl

/-! ### The test slot -/

theorem tileOf_of_changesOnly {W : Parts} {s u : State} (h : ChangesOnly W s u) (htiles : W.tiles = false) (t : Nat) :
    tileOf u t = tileOf s t := congrArg (tget TileState.fresh · t) (h.tiles htiles)

theorem tileOf_skipTest (s : State) (t : Nat) :
    tileOf (skipTest s t) t = { tileOf s t with skipped := (tileOf s t).skipped + 1 } :=
  tileOf_modTile s t (fun x => { x with skipped := x.skipped + 1 })

/-- A repeat leaves the tile's repeats whatever its result, which goes to the unit's health record. -/
theorem repeats_runRepeat (s : State) (t : Nat) (x : TestRepeat) (pass : Bool) :
    (tileOf (runRepeat s t x pass) t).repeats = (tileOf s t).repeats.drop 1 := by
  have reported : ∀ v : State, ChangesOnly { traffic := true, ev := true, hl := true, outbox := true } v
      (if pass then repeatPassed v x.unit else repeatFailed v x.unit) := fun v =>
    touch_ite (fun _ => repeatPassed_touch rfl rfl rfl rfl (.refl v)) (fun _ => repeatFailed_touch rfl rfl rfl rfl (.refl v))
  unfold runRepeat
  rw [tileOf_of_changesOnly (reported _) rfl, tileOf_modTile]

theorem repeats_marginFailure (s : State) (t : Nat) (u : UnitRef) (item pattern : Nat) :
    (tileOf (marginFailure s t u item pattern) t).repeats = (tileOf s t).repeats ++ [⟨u, item, pattern⟩] := by
  rw [marginFailure, tileOf_modTile]

/-- The repeats that an item adds: one if it failed. -/
theorem repeats_item (s : State) (t : Nat) (pass : Bool) (u : UnitRef) (item pattern : Nat) :
    (tileOf (if pass then s else marginFailure s t u item pattern) t).repeats =
      (tileOf s t).repeats ++ (if pass then [] else [⟨u, item, pattern⟩]) := by
  cases pass with
  | true => exact (List.append_nil _).symm
  | false => exact repeats_marginFailure ..

theorem repeats_runItems (s : State) (t v : Nat) (arrayPass enginePass : Bool) (reads : List CellRead) :
    (tileOf (runItems s t v arrayPass enginePass reads) t).repeats = (tileOf s t).repeats ++
      ((if arrayPass then [] else [⟨unitArray (arrKey t (v % 16)), 16 + v % 16, v / 16 % 64⟩]) ++
       (if enginePass then [] else [⟨unitTile t, v % 8, v / 8 % 64⟩])) := by
  have readBack : ∀ k q, tileOf (testReadback s k q reads) t = tileOf s t := fun _ _ =>
    tileOf_of_changesOnly (testReadback_touch (W := { arrays := true, cells := true }) rfl rfl (.refl s)) rfl t
  unfold runItems
  dsimp only
  rw [repeats_item, repeats_item, readBack, List.append_assoc]

section
variable {s : State} {t : Nat} (htest : testTile s = some t) (arrayPass enginePass : Bool) (reads : List CellRead)
include htest

theorem answers_testSlotRun : ∃ u, exec (.testSlotRun arrayPass enginePass reads) s = .next u := by
  show ∃ u, execTestSlotRun arrayPass enginePass reads s = .next u
  rw [execTestSlotRun, htest]
  exact ⟨_, rfl⟩

theorem exec_testSlotRun_of_skipped (hskips : testRuns s t = false) :
    exec (.testSlotRun arrayPass enginePass reads) s = .next (skipTest s t) := by
  show execTestSlotRun arrayPass enginePass reads s = _
  simp [execTestSlotRun, htest, hskips]

theorem exec_testSlotRun_of_repeat (hruns : testRuns s t = true) {x : TestRepeat} {rest : List TestRepeat}
    (hrepeats : (tileOf s t).repeats = x :: rest) : exec (.testSlotRun arrayPass enginePass reads) s =
      .next (runRepeat s t x (if x.item < 16 then enginePass else arrayPass)) := by
  show execTestSlotRun arrayPass enginePass reads s = _
  simp [execTestSlotRun, htest, hruns, hrepeats]

theorem exec_testSlotRun_of_items (hruns : testRuns s t = true) (hnone : (tileOf s t).repeats = []) (hframe : visitFrame s ≤ 1007) :
    exec (.testSlotRun arrayPass enginePass reads) s = .next (runItems s t (visitFrame s) arrayPass enginePass reads) := by
  show execTestSlotRun arrayPass enginePass reads s = _
  simp [execTestSlotRun, htest, hruns, hnone, hframe]

end

/-- Settles O30: a test is skipped, takes the oldest repeat, or runs its two items, each of which adds its repeat if it failed. -/
theorem testSlotsRunOrAreSkipped : Obligations.TestSlotsRunOrAreSkipped := by
  intro arrayPass enginePass reads s t htest
  obtain ⟨u, hu⟩ := answers_testSlotRun htest arrayPass enginePass reads
  have answered : ∀ {v : State}, exec (.testSlotRun arrayPass enginePass reads) s = .next v → u = v := fun hv =>
    Host.Outcome.next.inj (hu.symm.trans hv)
  refine ⟨u, hu, fun hskips => ?_, fun hruns => ⟨fun x rest hrepeats => ?_, fun hnone hframe => ?_⟩⟩
  · rw [answered (exec_testSlotRun_of_skipped htest _ _ _ hskips), tileOf_skipTest]
  · rw [answered (exec_testSlotRun_of_repeat htest _ _ _ hruns hrepeats), repeats_runRepeat, hrepeats]
    rfl
  · rw [answered (exec_testSlotRun_of_items htest _ _ _ hruns hnone hframe), repeats_runItems, hnone, List.nil_append]

end Sys2Proof.Machine
end

section
/-!
PROOFS. Main memory: who may change the weight versions (R312), what the decoder leaves of a codeword read (R280 to R282, R285), and
what a plan write leaves in HBM, its poison and its journal (R278, R283 to R285).
-/
namespace Sys2Proof.Machine
open Sys2Proof

/-! ### The versions -/

/-- Without a restart the versions move at the tick and at a plan's preparation. -/
theorem allowedBy_versions {c : Instr} (htick : ∀ i, c ≠ .frameTick i) (hprepare : c ≠ .preparationComplete)
    (hrun : restarts c = false) : (allowedBy c).versions = false := by
  cases c with
  | frameTick i => exact absurd rfl (htick i)
  | preparationComplete => exact absurd rfl hprepare
  | powerOn | pgAonLoss | sysRstNRise | resetWarm | resetPowerCycle | fwActivate => exact Bool.noConfusion hrun
  | _ => rfl

/-- Settles O10: every command is steady but for what `allowedBy` names, and that is the versions for the excepted commands only. -/
theorem versionsFlipOnlyAtTicks : Obligations.VersionsFlipOnlyAtTicks :=
  fun c s t h htick hprepare hrun =>
    Prod.mk.inj ((exec_steady c s t h).versions (allowedBy_versions htick hprepare hrun))

/-! ### Entries of a table that lists a key or does not -/

section
variable {α : Type}

@[simp] theorem tfind_tput_same (t : Table α) (x : Nat) (v : α) : tfind (tput t x v) x = some v := by
  induction t with
  | nil => simp [tput, tfind]
  | cons e t ih =>
    simp only [tput]
    split
    · simp [tfind]
    · next hne =>
      split
      · simp [tfind]
      · simp [tfind, hne, ih]

theorem tfind_tput_other (t : Table α) {x y : Nat} (v : α) (h : y ≠ x) : tfind (tput t x v) y = tfind t y := by
  induction t with
  | nil => simp [tput, tfind, h.symm]
  | cons e t ih =>
    simp only [tput]
    split
    · next he => simp [tfind, h.symm, he]
    · split
      · simp [tfind, h.symm]
      · simp [tfind, ih]

theorem tfind_terase_other (t : Table α) {x y : Nat} (h : y ≠ x) : tfind (terase t x) y = tfind t y := by
  induction t with
  | nil => rfl
  | cons e t ih =>
    simp only [terase] at ih
    by_cases he : e.1 = x
    · simp [terase, tfind, he, h.symm, ih]
    · simp [terase, tfind, he, ih]

@[simp] theorem tfind_terase_same (t : Table α) (x : Nat) : tfind (terase t x) x = none := by
  induction t with
  | nil => rfl
  | cons e t ih =>
    simp only [terase] at ih
    by_cases he : e.1 = x
    · simp [terase, he, ih]
    · simp [terase, tfind, he, ih]

end

/-! ### Codewords and their marks -/

/-- The codeword of an address has the address's mark. -/
theorem hbmMark_line (s : State) (a : Nat) : hbmMark s (a / 64 * 64) = hbmMark s a := by
  unfold hbmMark
  rw [Nat.mul_div_cancel _ (by decide)]

theorem hbmMarks_of_clean {s : State} (hclean : s.mem.hbmPoison = []) (a n : Nat) : hbmMarks s a n = [] := by
  simp [hbmMarks, hbmMark, hclean, tfind]

/-- Clearing the mark of a codeword that has none leaves every mark as it was. -/
theorem hbmMark_putLine_none {s : State} {line : Nat} (h : hbmMark s line = none) (data : List Byte) (x : Nat) :
    hbmMark (putLine s line data none) x = hbmMark s x := by
  show tfind (terase s.mem.hbmPoison line) (x / 64 * 64) = tfind s.mem.hbmPoison (x / 64 * 64)
  by_cases hx : x / 64 * 64 = line
  · have hline : hbmMark s x = none := by rw [← hbmMark_line, hx, h]
    have hfind : tfind s.mem.hbmPoison (x / 64 * 64) = none := hline
    rw [hfind, hx, tfind_terase_same]
  · exact tfind_terase_other _ hx

/-- A codeword stored with a mark has the mark. -/
theorem hbmMark_putLine_some {line : Nat} (haligned : line % 64 = 0) (s : State) (data : List Byte) (m : PoisonMark) :
    hbmMark (putLine s line data (some m)) line = some m := by
  have hline : line / 64 * 64 = line := by omega
  rw [hbmMark, hline]
  exact tfind_tput_same ..

theorem hbmBytes_putLine (s : State) (line : Nat) (data : List Byte) (m : Option PoisonMark) :
    hbmBytes (putLine s line data m) line data.length = data := by
  cases m with
  | none => exact readBytes_writeBytes _ _ _
  | some m => exact readBytes_writeBytes _ _ _

/-- Bytes written where they were read leave the memory's content as it was. -/
theorem tget_writeBytes_readBytes (m : Table Byte) (a n x : Nat) : tget 0 (writeBytes m a (readBytes m a n)) x = tget 0 m x := by
  have hlength : (readBytes m a n).length = n := by simp [readBytes]
  by_cases hx : a ≤ x ∧ x < a + n
  · obtain ⟨k, rfl⟩ := Nat.exists_eq_add_of_le hx.1
    rw [tget_writeBytes_inside (by omega : k < (readBytes m a n).length)]
    simp [readBytes]
  · exact tget_writeBytes_other (by omega)

/-! ### Reads without errors -/

/-- No byte of HBM, no mark and no count of a stack differs. -/
structure SameHbm (s u : State) : Prop where
  byte : ∀ x, tget 0 u.mem.hbm x = tget 0 s.mem.hbm x
  mark : ∀ x, hbmMark u x = hbmMark s x
  counts : u.mem.counts = s.mem.counts

namespace SameHbm

theorem of_mem {s u : State} (h : u.mem = s.mem) : SameHbm s u :=
  ⟨fun _ => by rw [h], fun _ => by rw [hbmMark, h, hbmMark], by rw [h]⟩

theorem trans {s t u : State} (h : SameHbm s t) (k : SameHbm t u) : SameHbm s u :=
  ⟨fun x => (k.byte x).trans (h.byte x), fun x => (k.mark x).trans (h.mark x), k.counts.trans h.counts⟩

/-- A codeword without a mark, stored again as it is. -/
theorem putLine {s : State} {line : Nat} (h : hbmMark s line = none) : SameHbm s (putLine s line (hbmBytes s line 64) none) :=
  ⟨tget_writeBytes_readBytes _ _ _, hbmMark_putLine_none h _, rfl⟩

end SameHbm

/-- No errors: every syndrome is 0, and the decoder calls the codeword clean. -/
theorem decodeSyndrome_no_errors : decodeSyndrome (errorSyndrome []) = .clean := by decide +kernel

/-- The poison pattern without errors is no correctable pattern, and the decoder tells it. -/
theorem decodeSyndrome_poison_no_errors :
    decodeSyndrome (List.zipWith (· ^^^ ·) (errorSyndrome []) poisonSyndrome) = .poison := by decide +kernel

theorem addPattern_no_errors (data : List Byte) : addPattern data (errorPattern []) = data := List.zipIdx_map_fst 0 data

/-- An unpoisoned codeword read without errors is stored again as it is. -/
theorem readCodeword_clean {s : State} {line : Nat} (h : hbmMark s line = none) :
    readCodeword s line [] = putLine (stackRead s (devStack line) 64) line (hbmBytes s line 64) none := by
  simp only [readCodeword, h, Option.isSome_none, Bool.false_eq_true, if_false, decodeSyndrome_no_errors, addPattern_no_errors]

/-- A poisoned codeword read without errors is only read. -/
theorem readCodeword_poisoned {s : State} {line : Nat} {m : PoisonMark} (h : hbmMark s line = some m) :
    readCodeword s line [] = stackRead s (devStack line) 64 := by
  have marked : hbmMark (stackRead s (devStack line) 64) line = some m := h
  simp only [readCodeword, h, marked, Option.isSome_some, if_true, decodeSyndrome_poison_no_errors]

theorem readCodeword_same (s : State) (line : Nat) : SameHbm s (readCodeword s line []) := by
  have read : SameHbm s (stackRead s (devStack line) 64) := .of_mem rfl
  cases h : hbmMark s line with
  | none =>
    rw [readCodeword_clean h]
    exact read.trans (.putLine h)
  | some m =>
    rw [readCodeword_poisoned h]
    exact read

/-! ### An uncorrectable codeword -/

@[simp] theorem stackOf_modStack (s : State) (k : Nat) (f : StackCounts → StackCounts) : stackOf (modStack s k f) k = f (stackOf s k) :=
  tget_tmod_same _ _ _ _

theorem modStack_hbm (s : State) (k : Nat) (f : StackCounts → StackCounts) : (modStack s k f).mem.hbm = s.mem.hbm := rfl

theorem hbmMark_modStack (s : State) (k : Nat) (f : StackCounts → StackCounts) (x : Nat) : hbmMark (modStack s k f) x = hbmMark s x := rfl

@[simp] theorem stackOf_putLine (s : State) (line : Nat) (data : List Byte) (m : Option PoisonMark) (k : Nat) :
    stackOf (putLine s line data m) k = stackOf s k := by
  cases m <;> rfl

/-- A stack's counts, where HBM may not change. -/
theorem ChangesOnly.stackOf {W : Parts} {s u : State} (h : ChangesOnly W s u) (hhbm : W.hbm = false) (k : Nat) :
    stackOf u k = stackOf s k := by
  have counts : u.mem.counts = s.mem.counts := congrArg (fun x => x.2.2.2.2.2) (h.hbm hhbm)
  rw [Machine.stackOf, counts]
  rfl

/-- The counted and charged reading of an uncorrectable codeword. -/
def countUncorrectable (s : State) (line : Nat) : State :=
  raiseCharged (modStack (stackRead s (devStack line) 64) (devStack line) (fun c => { c with uncorrectables := c.uncorrectables + 1 }))
    0x0303 (unitStack (devStack line)) noLevel [line] 2 true

/-- An unpoisoned codeword that the decoder cannot correct becomes the poison pattern. -/
theorem readCodeword_uncorrectable {s : State} {line : Nat} {errs : SymbolErrors} (h : hbmMark s line = none)
    (hdecode : decodeSyndrome (errorSyndrome errs) = .uncorrectable) : readCodeword s line errs =
      putLine (countUncorrectable s line) line poisonData
        (some { gen := lastWriter (countUncorrectable s line) line, origin := 1, number := devStack line }) := by
  simp only [readCodeword, h, Option.isSome_none, Bool.false_eq_true, if_false, hdecode]
  rfl

theorem uncorrectables_countUncorrectable (s : State) (line : Nat) :
    (stackOf (countUncorrectable s line) (devStack line)).uncorrectables = (stackOf s (devStack line)).uncorrectables + 1 := by
  have charged := raiseCharged_touch (W := { traffic := true, ev := true, hl := true, outbox := true }) (code := 0x0303)
    (u := unitStack (devStack line)) (level := noLevel) (ps := [line]) (kind := 2) (counted := true) rfl rfl rfl rfl
    (.refl (modStack (stackRead s (devStack line) 64) (devStack line) (fun c => { c with uncorrectables := c.uncorrectables + 1 })))
  rw [countUncorrectable, charged.stackOf rfl, stackOf_modStack]
  rfl

theorem devStack_line (a : Nat) : devStack (a / 64 * 64) = devStack a := by
  unfold devStack
  omega

/-! ### HBM_READ and SCRUB_READ -/

theorem exec_hbmRead_unmapped {st : StackId} {off : BitVec 36} {s : State} (h : hbmMapped s (st.val * 2 ^ 36 + off.toNat) = false)
    (errs : SymbolErrors) (cyc : Nat) : exec (.hbmRead st off errs cyc) s = .fault (.unmapped (st.val * 2 ^ 36 + off.toNat)) := by
  show execHbmRead st off errs cyc s = _
  simp only [execHbmRead, h, Bool.false_eq_true, if_false]

theorem exec_hbmRead_mapped {st : StackId} {off : BitVec 36} {s : State} (h : hbmMapped s (st.val * 2 ^ 36 + off.toNat) = true)
    (errs : SymbolErrors) (cyc : Nat) : exec (.hbmRead st off errs cyc) s =
      .next (readCodeword (atCycle s cyc) ((st.val * 2 ^ 36 + off.toNat) / 64 * 64) errs) := by
  show execHbmRead st off errs cyc s = _
  simp only [execHbmRead, h, if_true]

theorem runs_hbmRead_uncorrectable {st : StackId} {off : BitVec 36} {cyc : Nat} {s : State} {a : Nat}
    (ha : a = st.val * 2 ^ 36 + off.toNat) {errs : SymbolErrors} (hmapped : hbmMapped s a = true) (hmark : hbmMark s a = none)
    (hdecode : decodeSyndrome (errorSyndrome errs) = .uncorrectable) :
    Runs (.hbmRead st off errs cyc) s (fun u => hbmBytes u (a / 64 * 64) 64 = List.replicate 64 0 ∧
      (hbmMark u a).map (fun m => (m.origin, m.number)) = some (1, devStack a) ∧
      (stackOf u (devStack a)).uncorrectables = (stackOf s (devStack a)).uncorrectables + 1) := by
  subst ha
  refine ⟨_, exec_hbmRead_mapped hmapped errs cyc, ?_⟩
  rw [readCodeword_uncorrectable (s := atCycle s cyc) ((hbmMark_line _ _).trans hmark) hdecode]
  refine ⟨hbmBytes_putLine _ _ poisonData _, ?_, ?_⟩
  · rw [← hbmMark_line, hbmMark_putLine_some (Nat.mul_mod_left ..), devStack_line]
    rfl
  · have counted := uncorrectables_countUncorrectable (atCycle s cyc) ((st.val * 2 ^ 36 + off.toNat) / 64 * 64)
    rw [devStack_line] at counted
    rw [stackOf_putLine, counted]
    rfl

/-- The state after the scrub's reads without errors. -/
def scrubbed (s : State) (k : Nat) : State :=
  (scrubLines s k).zipIdx.foldl (fun t x => if t.mem.hbmJournal.any (fun p => p.addr == x.1) then t else readCodeword t x.1 []) s

theorem scrubbed_same (s : State) (k : Nat) : SameHbm s (scrubbed s k) := by
  have read : ∀ (t : State) (line : Nat), SameHbm s t →
      SameHbm s (if t.mem.hbmJournal.any (fun p => p.addr == line) then t else readCodeword t line []) := fun t line h => by
    split
    · exact h
    · exact h.trans (readCodeword_same t line)
  exact List.foldlRecOn (motive := SameHbm s) _ _ (.of_mem rfl) (fun t h x _ => read t x.1 h)

theorem exec_scrubRead_no_errors (st : StackId) (s : State) : exec (.scrubRead st []) s =
    .next (modStack (scrubbed s st) st (fun c => { c with scrub := (c.scrub + 4096) % stackBytes s st })) := rfl

/-- Settles O34: a codeword without errors is stored again as it is, or is poisoned and only read; an uncorrectable one becomes the
poison pattern; the scrub is such reads in a row. -/
theorem hbmReadsDecode : Obligations.HbmReadsDecode := by
  intro st off cyc s a
  refine ⟨fun errs hmapped => exec_hbmRead_unmapped hmapped errs cyc, fun hmapped => ?_,
    fun errs hmapped hmark hdecode => runs_hbmRead_uncorrectable rfl hmapped hmark hdecode, ?_⟩
  · have same := readCodeword_same (atCycle s cyc) (a / 64 * 64)
    exact ⟨_, exec_hbmRead_mapped hmapped [] cyc, fun x => ⟨same.byte x, same.mark x⟩⟩
  · have same := scrubbed_same s st
    refine ⟨_, exec_scrubRead_no_errors st s, fun x => ?_, ?_⟩
    · rw [modStack_hbm, hbmMark_modStack]
      exact ⟨same.byte x, same.mark x⟩
    · rw [stackOf_modStack, stackOf, same.counts]
      rfl

/-! ### HBM_WRITE -/

/-- With no poison in HBM a plan write consumes none: it is the write alone, journaled or not. -/
theorem planWrite_of_clean {s : State} (hclean : s.mem.hbmPoison = []) (a : Nat) (data : List Byte)
    (poison : Nat → Option (Nat × Nat)) : planWrite s a data poison =
      writeHbm s (if s.fr.running.isNone || unjournaledAt s a then .plain else .journaled (runningGen s)) a data poison := by
  simp only [planWrite, partialPoison, hbmMarks_of_clean hclean, List.filter_nil, ite_self, consumeMarks, List.foldl_nil]

theorem writeHbm_line {a : Nat} {bytes : List Byte} (haligned : a % 64 = 0) (hlength : bytes.length = 64) (s : State) (m : WriteMode)
    (poison : Nat → Option (Nat × Nat)) : writeHbm s m a bytes poison = writeLine s m a a bytes (poison a) := by
  rw [writeHbm, hlength, linesOf_whole haligned]
  rfl

theorem covers_line {a n : Nat} (h : n = 64) : covers 64 a a n = true := by
  subst h
  simp [covers]

@[simp] theorem journal_putLine (s : State) (line : Nat) (data : List Byte) (m : Option PoisonMark) :
    (putLine s line data m).mem.hbmJournal = s.mem.hbmJournal := by
  cases m <;> rfl

@[simp] theorem mem_stackWritten (s : State) (k n : Nat) : (stackWritten s k n).mem = s.mem := rfl

/-- A run's write of a whole codeword journals as `saveLine` does. -/
theorem writeLine_journal {bytes : List Byte} (hlength : bytes.length = 64) (s : State) (gen a : Nat) (poison : Option (Nat × Nat)) :
    (writeLine s (.journaled gen) a a bytes poison).mem.hbmJournal = (saveLine s gen a).mem.hbmJournal := by
  cases poison <;>
    simp only [writeLine, covers_line hlength, Bool.not_true, Bool.and_false, Bool.false_eq_true, if_true, if_false, journal_putLine,
      mem_stackWritten]

/-- The first write of a run to a codeword keeps its pre-image. -/
theorem mem_journal_saveLine {s : State} {gen line : Nat} (hfirst : s.mem.hbmJournal.any (fun x => x.gen == gen && x.addr == line) = false) :
    { gen := gen, addr := line, data := hbmBytes s line 64, poison := hbmMark s line } ∈ (saveLine s gen line).mem.hbmJournal := by
  rw [saveLine, if_neg (by rw [hfirst]; exact Bool.false_ne_true)]
  exact List.mem_append_right _ (List.mem_singleton_self _)

/-- Poisoned data marks the codeword with the writing run. -/
theorem hbmMark_writeLine_poisoned {bytes : List Byte} {a : Nat} (haligned : a % 64 = 0) (s : State) (gen origin number : Nat) :
    hbmMark (writeLine s (.journaled gen) a a bytes (some (origin, number))) a =
      some { gen := some gen, origin := origin, number := number } := hbmMark_putLine_some haligned ..

/-- What marks the data of a HBM_WRITE (R285: poison of HBM's origin, with the stack's number). -/
def writtenPoison (st : StackId) (poisoned : Bool) : Nat → Option (Nat × Nat) := fun _ => if poisoned then some (1, st.val) else none

theorem exec_hbmWrite_unmapped {st : StackId} {off : BitVec 36} {data : List Byte} {s : State} {l : Nat}
    (h : (linesOf (st.val * 2 ^ 36 + off.toNat) data.length).find? (fun l => !(hbmMapped s l)) = some l) (poisoned : Bool) (cyc : Nat) :
    exec (.hbmWrite st off data poisoned cyc) s = .fault (.unmapped l) := by
  show execHbmWrite st off data poisoned cyc s = _
  simp only [execHbmWrite, h]

theorem exec_hbmWrite_mapped {st : StackId} {off : BitVec 36} {data : List Byte} {s : State}
    (h : (linesOf (st.val * 2 ^ 36 + off.toNat) data.length).find? (fun l => !(hbmMapped s l)) = none) (poisoned : Bool) (cyc : Nat) :
    exec (.hbmWrite st off data poisoned cyc) s =
      .next (planWrite (atCycle s cyc) (st.val * 2 ^ 36 + off.toNat) data (writtenPoison st poisoned)) := by
  show execHbmWrite st off data poisoned cyc s = _
  simp only [execHbmWrite, h]
  rfl

/-- A running plan frame's write of a whole codeword that is journaled. -/
theorem planWrite_line {s : State} {f : PlanFrame} {a : Nat} {data : List Byte} (hclean : s.mem.hbmPoison = [])
    (hrun : s.fr.running = some f) (hjournaled : unjournaledAt s a = false) (haligned : a % 64 = 0) (hlength : data.length = 64)
    (poison : Nat → Option (Nat × Nat)) :
    planWrite s a data poison = writeLine s (.journaled f.gen) a a data (poison a) := by
  rw [planWrite_of_clean hclean, writeHbm_line haligned hlength]
  simp [hrun, hjournaled, runningGen]

/-- Settles O35: without poison a plan write is the write alone; of one codeword it journals as `saveLine` does. -/
theorem hbmWritesReadBack : Obligations.HbmWritesReadBack := by
  intro st off data cyc s a
  refine ⟨fun l p hunmapped => exec_hbmWrite_unmapped hunmapped p cyc, fun hmapped hclean => ⟨?_, ?_⟩⟩
  · refine ⟨_, exec_hbmWrite_mapped hmapped false cyc, ?_⟩
    rw [planWrite_of_clean (s := atCycle s cyc) hclean]
    refine ⟨hbmBytes_writeHbm (atCycle s cyc) _ a data hclean, fun x houtside => ?_⟩
    exact ((writeHbm_byte (atCycle s cyc) _ a data hclean x).2).trans (if_neg (by omega))
  · intro haligned hlength f hrun hjournaled p
    refine ⟨_, exec_hbmWrite_mapped hmapped p cyc, ?_⟩
    have hline : planWrite (atCycle s cyc) a data (writtenPoison st p) =
        writeLine (atCycle s cyc) (.journaled f.gen) a a data (writtenPoison st p a) :=
      planWrite_line (s := atCycle s cyc) hclean hrun hjournaled haligned hlength _
    rw [hline]
    refine ⟨fun hfirst => ?_, fun hpoisoned => ?_⟩
    · have unmarked : hbmMark (atCycle s cyc) a = none := by simp [hbmMark, hclean, tfind]
      rw [writeLine_journal hlength]
      have saved := mem_journal_saveLine (s := atCycle s cyc) (line := a) hfirst
      rwa [unmarked] at saved
    · subst hpoisoned
      exact hbmMark_writeLine_poisoned haligned _ _ _ _

end Sys2Proof.Machine
end

section
/-!
PROOFS. The update engines: an instruction on the lanes' registers (R294 to R297), what the instructions that reach memory leave there
(R293, R298, R300), and the scan, the folding of chunks and the rerun (R299, R301, R309, R313).
-/
namespace Sys2Proof.Machine
open Sys2Proof

/-! ### What each step of a fold establishes for its own element -/

/-- Where every step of a fold does something for its own element, and no step undoes it for an element that is apart from its own, it
stands at the end for every element of a list whose elements are apart. `I` holds all along. -/
theorem foldl_establishes {σ β : Type} {g : σ → β → σ} {I : σ → Prop} {P : β → σ → Prop} {R : β → β → Prop}
    (hinv : ∀ t x, I t → I (g t x)) (hdoes : ∀ t x, I t → P x (g t x)) (hkeeps : ∀ t x y, R x y → I t → P x t → P x (g t y)) :
    ∀ {xs : List β} {t : σ}, xs.Pairwise R → I t → ∀ x ∈ xs, P x (xs.foldl g t) := by
  intro xs
  induction xs with
  | nil => intro t _ _ x hx; exact absurd hx List.not_mem_nil
  | cons b xs ih =>
    intro t hapart ht x hx
    obtain ⟨hb, hrest⟩ := List.pairwise_cons.mp hapart
    rcases List.mem_cons.mp hx with rfl | hx
    · have kept : I (xs.foldl g (g t x)) ∧ P x (xs.foldl g (g t x)) :=
        List.foldlRecOn (motive := fun u => I u ∧ P x u) xs g ⟨hinv t x ht, hdoes t x ht⟩
          (fun u hu y hy => ⟨hinv u y hu.1, hkeeps u x y (hb y hy) hu.1 hu.2⟩)
      exact kept.2
    · exact ih hrest (hinv t b ht) x hx

/-! ### Registers -/

/-- A vector register written by all lanes reads, in each lane, as that lane wrote it. -/
theorem tget_lanes_same {d l : Nat} (hl : l < 64) (f : Nat → Word) (v : Table Word) :
    tget 0 ((List.range 64).foldl (fun v lane => tset 0 v (16 * lane + d) (f lane)) v) (16 * l + d) = f l :=
  foldl_establishes (I := fun _ => True) (P := fun lane (v : Table Word) => tget 0 v (16 * lane + d) = f lane) (R := (· ≠ ·))
    (fun _ _ _ => trivial) (fun _ _ _ => tget_tset_same ..)
    (fun _ x y hne _ h => (tget_tset_other _ _ _ (by omega)).trans h) List.nodup_range trivial l (List.mem_range.mpr hl)

theorem tget_lanes_other {d x : Nat} (hx : ∀ lane, x ≠ 16 * lane + d) (f : Nat → Word) (v : Table Word) :
    tget 0 ((List.range 64).foldl (fun v lane => tset 0 v (16 * lane + d) (f lane)) v) x = tget 0 v x :=
  List.foldlRecOn (motive := fun u => tget 0 u x = tget 0 v x) _ _ rfl (fun _ h lane _ => (tget_tset_other _ _ _ (hx lane)).trans h)

theorem laneReg_putReg_same {d l : Nat} (hl : l < 64) (e : UpdEngine) (f : Nat → Word) :
    laneReg (putReg e d f) l d = f (if d < 16 then l else 0) := by
  unfold laneReg putReg
  split
  · exact tget_lanes_same hl f _
  · exact tget_tset_same ..

theorem laneReg_putReg_other {d r : Nat} (hr : r ≠ d) (e : UpdEngine) (f : Nat → Word) (l : Nat) :
    laneReg (putReg e d f) l r = laneReg e l r := by
  unfold laneReg putReg
  by_cases hd : d < 16
  · by_cases hv : r < 16
    · simp only [hd, hv, if_true]
      exact tget_lanes_other (fun lane => by omega) f _
    · simp only [hd, hv, if_true, if_false]
  · by_cases hv : r < 16
    · simp only [hd, hv, if_true, if_false]
    · simp only [hd, hv, if_false]
      exact tget_tset_other _ _ _ (by omega)

theorem work_putReg (e : UpdEngine) (d : Nat) (f : Nat → Word) : (putReg e d f).work = e.work := by
  unfold putReg
  split <;> rfl

/-! ### An engine with a next instruction in its sequence -/

/-- The sequence that an engine is in: its pass's body or prologue. -/
def sequenceOf (p : PlanImage) (w : EngineWork) : List Word :=
  if w.inBody then (passOf (programOf p (workGroup p w)) w.pass).2 else (passOf (programOf p (workGroup p w)) w.pass).1

/-- Engine k works at w under plan p, its chunk is not done, and another instruction of the sequence follows. -/
structure MidSequence (s : State) (k : Nat) (p : PlanImage) (w : EngineWork) : Prop where
  loaded : s.plan.loaded = some p
  work : (engineOf s k).work = some w
  undone : chunkDone p w = false
  more : w.pc + 1 < (sequenceOf p w).length

namespace MidSequence
variable {s t : State} {k : Nat} {p : PlanImage} {w : EngineWork}

theorem keep (h : MidSequence s k p w) (hplan : t.plan.loaded = s.plan.loaded) (hwork : (engineOf t k).work = (engineOf s k).work) :
    MidSequence t k p w := ⟨hplan.trans h.loaded, hwork.trans h.work, h.undone, h.more⟩

theorem moveOp (h : MidSequence s k p w) (d : Nat) (f : UpdEngine → Nat → Word) : MidSequence (moveOp s k d f) k p w :=
  h.keep rfl (by rw [Machine.moveOp, engineOf_modEngine, work_putReg])

theorem elements (h : MidSequence s k p w) : engineElements s k = some (p, workGroup p w, workElements p w) := by
  simp only [engineElements, updPlan, h.loaded, h.work]

/-- The engine's next instruction is the next of the sequence. -/
theorem advance_eq (h : MidSequence s k p w) :
    advance s k = modEngine s k (fun e => { e with work := some { w with pc := w.pc + 1 } }) := by
  have hmore : w.pc + 1 < (if w.inBody then (passOf (programOf p (workGroup p w)) w.pass).2.length
      else (passOf (programOf p (workGroup p w)) w.pass).1.length) := by
    rw [← apply_ite List.length]
    exact h.more
  simp only [advance, updPlan, h.loaded, h.work, h.undone, Bool.false_eq_true, if_false, hmore, if_true]

theorem engineOf_advance (h : MidSequence s k p w) :
    engineOf (advance s k) k = { engineOf s k with work := some { w with pc := w.pc + 1 } } := by
  rw [h.advance_eq, engineOf_modEngine]

theorem laneReg_advance (h : MidSequence s k p w) (l r : Nat) :
    laneReg (engineOf (advance s k) k) l r = laneReg (engineOf s k) l r := by
  rw [h.engineOf_advance]
  rfl

theorem mem_advance (h : MidSequence s k p w) : (advance s k).mem = s.mem := by
  rw [h.advance_eq]
  rfl

theorem reds_advance (h : MidSequence s k p w) : (advance s k).upd.reds = s.upd.reds := by
  rw [h.advance_eq]
  rfl

end MidSequence

/-- Without a residue mismatch an instruction is its effect, and then the next one. -/
theorem issued_none (s : State) (st : StackId) (en : Fin 8) : issued s st en none = advance s (engineNo st en) := rfl

/-! ### The arithmetic instructions -/

theorem engineOf_moveOp (s : State) (k d : Nat) (f : UpdEngine → Nat → Word) :
    engineOf (moveOp s k d f) k = putReg (engineOf s k) d (fun lane => f (engineOf s k) lane) := engineOf_modEngine ..

/-- What an instruction leaves that writes register d from each lane's own operands. -/
def Computed (s : State) (k d : Nat) (w : EngineWork) (value : UpdEngine → Nat → Word) (u : State) : Prop :=
  ChangesOnly { upd := true } s u ∧ (engineOf u k).work = some { w with pc := w.pc + 1 } ∧
    (∀ l < 64, laneReg (engineOf u k) l d = value (engineOf s k) (if d < 16 then l else 0)) ∧
    (∀ l r, l < 64 → r < 32 → r ≠ d → laneReg (engineOf u k) l r = laneReg (engineOf s k) l r)

theorem computed_moveOp {s : State} {k : Nat} {p : PlanImage} {w : EngineWork} (h : MidSequence s k p w) (d : Nat)
    (value : UpdEngine → Nat → Word) : Computed s k d w value (advance (moveOp s k d value) k) := by
  have moved := h.moveOp d value
  refine ⟨advance_touch rfl (moveOp_touch rfl (.refl s)), ?_, fun l hl => ?_, fun l r _ _ hr => ?_⟩
  · rw [moved.engineOf_advance]
  · rw [moved.laneReg_advance, engineOf_moveOp]
    exact laneReg_putReg_same hl _ _
  · rw [moved.laneReg_advance, engineOf_moveOp]
    exact laneReg_putReg_other hr _ _ _

/-- Settles O31: each arithmetic instruction writes its register from the lanes' operands and goes on to the next. -/
theorem updateEnginesCompute : Obligations.UpdateEnginesCompute := by
  intro st en d a b c s p w hloaded hwork hundone hmore o
  rw [← apply_ite List.length] at hmore
  have mid : MidSequence s (engineNo st en) p w := ⟨hloaded, hwork, hundone, hmore⟩
  refine ⟨fun x hx => ⟨_, ?_, computed_moveOp mid d x.2⟩, advance s (engineNo st en), rfl, advance_touch rfl (.refl s),
    mid.engineOf_advance⟩
  revert x
  simp only [List.forall_mem_cons]
  exact ⟨rfl, rfl, rfl, rfl, rfl, rfl, rfl, rfl, rfl, rfl, rfl, rfl, rfl, rfl, rfl, fun _ h => absurd h List.not_mem_nil⟩

/-! ### LDS -/

theorem enginePoison_of_clean {s : State} (hclean : s.mem.hbmPoison = []) (a n : Nat) : enginePoison s a n = s := by
  rw [enginePoison, hbmMarks_of_clean hclean]
  rfl

/-- The state in which LDS writes its register: the stream's bytes are read, and without poison nothing is consumed. -/
def streamRead (s : State) (a n : Nat) : State := stackRead s (devStack a) (64 * (linesOf a n).length)

/-- What LDS writes in a lane: the stored element as FP32 in a lane that works on one, +0 in the others. -/
def streamLane (s : State) (elems a size lane : Nat) : Word :=
  if lane < elems then streamWord (hbmBytes s (a + size * lane) size) else 0

theorem loadStream_of_clean {s : State} {k stream a size : Nat} {p : PlanImage} {e : BitVec 512} {elems : List Nat}
    (helems : engineElements s k = some (p, e, elems)) (hclean : s.mem.hbmPoison = []) (hstream : stream ≠ 7)
    (haddr : streamAddr p e s.fr.master.toNat stream (elems.headD 0) = some (a, size)) (d : Nat) :
    loadStream s k d stream =
      moveOp (streamRead s a (size * elems.length)) k d (fun _ lane => streamLane s elems.length a size lane) := by
  simp only [loadStream, helems, hstream, if_false, haddr, enginePoison_of_clean hclean]
  rfl

/-- LDS with another instruction to follow: each lane's register takes the lane's element. -/
theorem runs_lds {st : StackId} {en : Fin 8} {s : State} {p : PlanImage} {w : EngineWork} (h : MidSequence s (engineNo st en) p w)
    (hclean : s.mem.hbmPoison = []) {d : Fin 32} {stream : Fin 8} {a size : Nat} (hd : d.val < 16) (hstream : stream ≠ 7)
    (haddr : streamAddr p (workGroup p w) s.fr.master.toNat stream ((workElements p w).headD 0) = some (a, size)) (cyc : Nat) :
    Runs (.lds st en d stream cyc) s (fun u => ∀ l < 64, laneReg (engineOf u (engineNo st en)) l d =
      streamLane s (workElements p w).length a size l) := by
  have stream_ne : stream.val ≠ 7 := fun hval => hstream (Fin.ext hval)
  have mid : MidSequence (atCycle s cyc) (engineNo st en) p w := h.keep rfl rfl
  have read : MidSequence (streamRead (atCycle s cyc) a (size * (workElements p w).length)) (engineNo st en) p w := mid.keep rfl rfl
  refine ⟨_, rfl, fun l hl => ?_⟩
  rw [loadStream_of_clean mid.elements hclean stream_ne haddr, issued_none, (read.moveOp _ _).laneReg_advance, engineOf_moveOp,
    laneReg_putReg_same hl, if_pos hd]
  rfl

/-! ### STS -/

theorem streamSize_cases (e : BitVec 512) (stream : Nat) :
    streamSize e stream = 0 ∨ streamSize e stream = 2 ∨ streamSize e stream = 4 := by
  unfold streamSize
  repeat' split
  all_goals omega

theorem length_bytesLE (n v : Nat) : (bytesLE n v).length = n := by simp [bytesLE]

/-- STS stores as many bytes as the stream's elements have. -/
theorem length_storeBytes (s : State) (p : PlanImage) {e : BitVec 512} {stream : Nat} (hsize : streamSize e stream ≠ 0) (i : Nat)
    (x : Word) : (storeBytes s p e stream i x).length = streamSize e stream := by
  unfold storeBytes
  split
  · next hmaster => subst hmaster; exact length_bytesLE ..
  · split
    · next htwo => rw [htwo]; exact length_bytesLE ..
    · next htwo =>
      rw [length_bytesLE]
      have := streamSize_cases e stream
      omega

/-- A stream of the bank lies at its offset in the group's bank, its elements one after another. -/
theorem streamAddr_bank {e : BitVec 512} {stream : Nat} (hsize : streamSize e stream ≠ 0) (p : PlanImage) (v i : Nat) :
    streamAddr p e v stream i =
      some (groupAddr p e (streamOffset e stream + streamSize e stream * i) v, streamSize e stream) := by
  have gradient : stream ≠ 1 := fun h => hsize (by subst h; rfl)
  have preconditioned : stream ≠ 6 := fun h => hsize (by subst h; rfl)
  simp only [streamAddr, gradient, preconditioned, hsize, if_false]

theorem groupAddr_add {p : PlanImage} {e : BitVec 512} (hregion : (p.regions[gpBankRegion e]?).isSome = true) (off n v : Nat) :
    groupAddr p e (off + n) v = groupAddr p e off v + n := by
  obtain ⟨r, hr⟩ := Option.isSome_iff_exists.mp hregion
  simp only [groupAddr, engAddr, hr]
  split <;> omega

theorem hbmBytes_writeHbm_other {s : State} (hclean : s.mem.hbmPoison = []) (m : WriteMode) {a b n : Nat} {bytes : List Byte}
    (h : b + n ≤ a ∨ a + bytes.length ≤ b) : hbmBytes (writeHbm s m a bytes noPoison) b n = hbmBytes s b n := by
  refine List.map_congr_left (fun k hk => ?_)
  have hk := List.mem_range.mp hk
  exact ((writeHbm_byte s m a bytes hclean _).2).trans (if_neg (by omega))

/-- An element of a size ends where a later one starts, or before. -/
theorem mul_add_le_mul {i j : Nat} (h : i < j) (size : Nat) : size * i + size ≤ size * j :=
  (Nat.mul_succ size i).symm.le.trans (Nat.mul_le_mul_left size h)

/-- The lanes with their elements: no two lanes work on the same element. -/
theorem lanes_apart (p : PlanImage) (w : EngineWork) : (workElements p w).zipIdx.Pairwise (fun x y => x.1 ≠ y.1) := by
  have distinct : (workElements p w).Nodup := by
    unfold workElements
    split
    · exact List.nodup_range.map (fun _ _ h => Nat.add_left_cancel h)
    · exact List.nodup_nil
  rw [← List.zipIdx_map_fst 0 (workElements p w)] at distinct
  exact List.pairwise_map.mp distinct

/-- What one lane of STS does, for a stream whose elements start at an address: nothing where its element's mask bit is 0. -/
def storeLane (s : State) (p : PlanImage) (e : BitVec 512) (stream start : Nat) (eng : UpdEngine) (a : Nat) (t : State)
    (x : Nat × Nat) : State :=
  if maskBit s p e s.fr.master.toNat x.1 then
    writeHbm t .plain (start + streamSize e stream * x.1) (storeBytes s p e stream x.1 (laneReg eng x.2 a)) noPoison
  else t

/-- Where a stream of a group's bank starts in the alternate bank. -/
def alternateStart (s : State) (p : PlanImage) (e : BitVec 512) (stream : Nat) : Nat :=
  groupAddr p e (streamOffset e stream) (s.fr.master.toNat + 1)

theorem storeStream_lanes {s : State} {k stream a : Nat} {p : PlanImage} {e : BitVec 512} {elems : List Nat}
    (helems : engineElements s k = some (p, e, elems)) (hsize : streamSize e stream ≠ 0)
    (hregion : (p.regions[gpBankRegion e]?).isSome = true) :
    storeStream s k stream a = elems.zipIdx.foldl
      (storeLane s p e stream (alternateStart s p e stream) (engineOf s k) a) s := by
  simp only [storeStream, helems, hsize, if_false, streamAddr_bank hsize, groupAddr_add hregion]
  rfl

section
variable {s : State} {p : PlanImage} {e : BitVec 512} {stream start a : Nat} {eng : UpdEngine}
theorem poison_storeLane {t : State} (ht : t.mem.hbmPoison = []) (x : Nat × Nat) :
    (storeLane s p e stream start eng a t x).mem.hbmPoison = [] := by
  unfold storeLane
  split
  · exact (writeHbm_byte t .plain _ _ ht 0).1
  · exact ht

variable (hsize : streamSize e stream ≠ 0)
include hsize

theorem hbmBytes_storeLane_same {t : State} (ht : t.mem.hbmPoison = []) {x : Nat × Nat} (hmask : maskBit s p e s.fr.master.toNat x.1 = true) :
    hbmBytes (storeLane s p e stream start eng a t x) (start + streamSize e stream * x.1) (streamSize e stream) =
      storeBytes s p e stream x.1 (laneReg eng x.2 a) := by
  rw [storeLane, if_pos hmask]
  have written := hbmBytes_writeHbm t .plain (start + streamSize e stream * x.1) (storeBytes s p e stream x.1 (laneReg eng x.2 a)) ht
  rwa [length_storeBytes s p hsize] at written

theorem hbmBytes_storeLane_other {t : State} (ht : t.mem.hbmPoison = []) {x : Nat × Nat} {i : Nat} (h : i ≠ x.1) :
    hbmBytes (storeLane s p e stream start eng a t x) (start + streamSize e stream * i) (streamSize e stream) =
      hbmBytes t (start + streamSize e stream * i) (streamSize e stream) := by
  unfold storeLane
  split
  · refine hbmBytes_writeHbm_other ht _ ?_
    rw [length_storeBytes s p hsize]
    rcases Nat.lt_or_gt_of_ne h with hbelow | habove
    · have := mul_add_le_mul hbelow (streamSize e stream)
      omega
    · have := mul_add_le_mul habove (streamSize e stream)
      omega
  · rfl

end

/-- After STS every unmasked element has its lane's value at its place in the alternate bank. -/
theorem hbmBytes_storeStream {s : State} {k stream a : Nat} {p : PlanImage} {w : EngineWork} (h : MidSequence s k p w)
    (hclean : s.mem.hbmPoison = []) (hsize : streamSize (workGroup p w) stream ≠ 0)
    (hregion : (p.regions[gpBankRegion (workGroup p w)]?).isSome = true) {l i : Nat} (hlane : (workElements p w)[l]? = some i)
    (hmask : maskBit s p (workGroup p w) s.fr.master.toNat i = true) :
    hbmBytes (storeStream s k stream a)
        (alternateStart s p (workGroup p w) stream + streamSize (workGroup p w) stream * i)
        (streamSize (workGroup p w) stream) =
      storeBytes s p (workGroup p w) stream i (laneReg (engineOf s k) l a) := by
  rw [storeStream_lanes h.elements hsize hregion]
  exact foldl_establishes (I := fun t => t.mem.hbmPoison = []) (R := fun x y => x.1 ≠ y.1)
    (g := storeLane s p (workGroup p w) stream (alternateStart s p (workGroup p w) stream) (engineOf s k) a)
    (P := fun x t => maskBit s p (workGroup p w) s.fr.master.toNat x.1 = true →
      hbmBytes t (alternateStart s p (workGroup p w) stream + streamSize (workGroup p w) stream * x.1)
          (streamSize (workGroup p w) stream) =
        storeBytes s p (workGroup p w) stream x.1 (laneReg (engineOf s k) x.2 a))
    (fun t x ht => poison_storeLane ht x) (fun t x ht => hbmBytes_storeLane_same hsize ht)
    (fun t x y hne ht hx hm => (hbmBytes_storeLane_other hsize ht hne).trans (hx hm))
    (lanes_apart p w) hclean (i, l) (List.mk_mem_zipIdx_iff_getElem?.mpr hlane) hmask

/-- STS to a stream of the bank, in a region that the plan has. -/
theorem runs_sts {st : StackId} {en : Fin 8} {s : State} {p : PlanImage} {w : EngineWork} (h : MidSequence s (engineNo st en) p w)
    (hclean : s.mem.hbmPoison = []) {stream : Fin 8} (hsize : streamSize (workGroup p w) stream ≠ 0)
    (hregion : (p.regions[gpBankRegion (workGroup p w)]?).isSome = true) (a : Fin 32) :
    Runs (.sts st en stream a) s (fun u => ∀ l i, (workElements p w)[l]? = some i →
      maskBit s p (workGroup p w) s.fr.master.toNat i = true → ∀ addr,
      streamAddr p (workGroup p w) (s.fr.master.toNat + 1) stream i = some (addr, streamSize (workGroup p w) stream) →
      hbmBytes u addr (streamSize (workGroup p w) stream) =
        storeBytes s p (workGroup p w) stream i (laneReg (engineOf s (engineNo st en)) l a)) := by
  have stored := storeStream_touch (W := { hbm := true, traffic := true }) (k := engineNo st en) (stream := stream.val) (a := a.val)
    rfl rfl (.refl s)
  have mid : MidSequence (storeStream s (engineNo st en) stream a) (engineNo st en) p w :=
    h.keep (congrArg PlanState.loaded (stored.plan rfl)) (by rw [engineOf, stored.upd rfl]; rfl)
  refine ⟨_, rfl, fun l i hlane hmask addr haddr => ?_⟩
  rw [streamAddr_bank hsize, groupAddr_add hregion, Option.some.injEq, Prod.mk.injEq] at haddr
  rw [issued_none, hbmBytes, mid.mem_advance, ← haddr.1]
  exact hbmBytes_storeStream h hclean hsize hregion hlane hmask

/-! ### RED -/

theorem redKey_ne {i j : Nat} (h : i ≠ j) (prog slot group : Nat) : redKey prog slot group i ≠ redKey prog slot group j := by
  unfold redKey
  omega

/-- What one lane of RED adds to the slot's operands. -/
def addLane (s : State) (p : PlanImage) (e : BitVec 512) (slot : Nat) (eng : UpdEngine) (a : Nat) (t : Table Word) (x : Nat × Nat) :
    Table Word :=
  if maskBit s p e s.fr.master.toNat x.1 then tput t (redKey (gpProgram e) slot (gpNumber e) x.1) (laneReg eng x.2 a) else t

theorem tfind_addLane_same {s : State} {p : PlanImage} {e : BitVec 512} {x : Nat × Nat} (hmask : maskBit s p e s.fr.master.toNat x.1 = true)
    (slot : Nat) (eng : UpdEngine) (a : Nat) (t : Table Word) :
    tfind (addLane s p e slot eng a t x) (redKey (gpProgram e) slot (gpNumber e) x.1) = some (laneReg eng x.2 a) := by
  rw [addLane, if_pos hmask]
  exact tfind_tput_same ..

theorem tfind_addLane_other {i : Nat} {x : Nat × Nat} (h : i ≠ x.1) (s : State) (p : PlanImage) (e : BitVec 512)
    (slot : Nat) (eng : UpdEngine) (a : Nat) (t : Table Word) :
    tfind (addLane s p e slot eng a t x) (redKey (gpProgram e) slot (gpNumber e) i) =
      tfind t (redKey (gpProgram e) slot (gpNumber e) i) := by
  unfold addLane
  split
  · exact tfind_tput_other _ _ (redKey_ne h _ _ _)
  · rfl

theorem reds_addRed {s : State} {k : Nat} {p : PlanImage} {w : EngineWork} (h : MidSequence s k p w) (hpass : w.pass = 1) (slot a : Nat) :
    (addRed s k slot a).upd.reds = (workElements p w).zipIdx.foldl (addLane s p (workGroup p w) slot (engineOf s k) a) s.upd.reds := by
  simp only [addRed, h.elements, h.work, hpass, if_true]
  rfl

theorem engineOf_addRed (s : State) (k slot a j : Nat) : engineOf (addRed s k slot a) j = engineOf s j := by
  unfold addRed
  split
  · split <;> rfl
  · rfl

/-- After RED in pass 1 the slot has each unmasked lane's operand under its element. -/
theorem runs_red {st : StackId} {en : Fin 8} {s : State} {p : PlanImage} {w : EngineWork} (h : MidSequence s (engineNo st en) p w)
    (hpass : w.pass = 1) (slot : Fin 4) (a : Fin 32) :
    Runs (.red st en slot a) s (fun u => ∀ l i, (workElements p w)[l]? = some i →
      maskBit s p (workGroup p w) s.fr.master.toNat i = true →
      tfind u.upd.reds (redKey (gpProgram (workGroup p w)) slot (gpNumber (workGroup p w)) i) =
        some (laneReg (engineOf s (engineNo st en)) l a)) := by
  have mid : MidSequence (addRed s (engineNo st en) slot a) (engineNo st en) p w :=
    h.keep (congrArg PlanState.loaded ((addRed_touch (W := { upd := true }) rfl (.refl s)).plan rfl)) (by rw [engineOf_addRed])
  refine ⟨_, rfl, fun l i hlane hmask => ?_⟩
  rw [issued_none, mid.reds_advance, reds_addRed h hpass]
  exact foldl_establishes (I := fun _ => True) (R := fun x y => x.1 ≠ y.1)
    (g := addLane s p (workGroup p w) slot (engineOf s (engineNo st en)) a)
    (P := fun x t => maskBit s p (workGroup p w) s.fr.master.toNat x.1 = true →
      tfind t (redKey (gpProgram (workGroup p w)) slot (gpNumber (workGroup p w)) x.1) =
        some (laneReg (engineOf s (engineNo st en)) x.2 a))
    (fun _ _ _ => trivial) (fun t x _ hm => tfind_addLane_same hm ..)
    (fun t x y hne _ hx hm => (tfind_addLane_other hne ..).trans (hx hm))
    (lanes_apart p w) trivial (i, l) (List.mk_mem_zipIdx_iff_getElem?.mpr hlane) hmask

/-- Settles O32: LDS, STS and RED, each lane at its own element. -/
theorem updateEnginesReachMemory : Obligations.UpdateEnginesReachMemory := by
  intro st en s p w e hloaded hwork hundone hbody hmore hclean hgroup
  subst hgroup
  have mid : MidSequence s (engineNo st en) p w := ⟨hloaded, hwork, hundone, by rw [sequenceOf, if_pos hbody]; exact hmore⟩
  exact ⟨fun d stream cyc a size hd hstream haddr => runs_lds mid hclean hd hstream haddr cyc,
    fun stream a hsize hregion => runs_sts mid hclean hsize hregion a, fun slot a hpass => runs_red mid hpass slot a⟩

/-! ### The scan -/

/-- Whether a group's gradients are bad depends on HBM and the master's version alone. -/
theorem gradientBad_congr {s t : State} (hhbm : t.mem.hbm = s.mem.hbm) (hmaster : t.fr.master = s.fr.master) (p : PlanImage) :
    gradientBad t p = gradientBad s p := by
  funext e
  simp only [gradientBad, maskBit, hbmBytes, hhbm, hmaster]

/-- The step's decision: whether it is scanned, and whether it is skipped. -/
def decision (s : State) : Bool × Bool := (s.upd.scanned, s.upd.skipped)

theorem ChangesOnly.decision {W : Parts} {s u : State} (h : ChangesOnly W s u) (hupd : W.upd = false) : decision u = decision s := by
  rw [Machine.decision, h.upd hupd]
  rfl

theorem decision_foldl {β : Type} {g : State → β → State} (hg : ∀ s x, decision (g s x) = decision s) (l : List β) (s : State) :
    decision (l.foldl g s) = decision s :=
  List.foldlRecOn (motive := fun t => decision t = decision s) l g rfl (fun t h x _ => (hg t x).trans h)

theorem decision_copyBank (s : State) (p : PlanImage) (e : BitVec 512) (off n : Nat) : decision (copyBank s p e off n) = decision s :=
  (copyBank_touch (W := { hbm := true, traffic := true }) rfl rfl (.refl s)).decision rfl

theorem decision_putDigest (s : State) (group chunk : Nat) (bytes : List Byte) : decision (putDigest s group chunk bytes) = decision s := rfl

theorem decision_digestArea (s : State) (p : PlanImage) (e : BitVec 512) : decision (digestArea s p e) = decision s :=
  decision_foldl (fun _ _ => decision_putDigest ..) _ s

theorem decision_copyGroup (s : State) (p : PlanImage) (e : BitVec 512) : decision (copyGroup s p e) = decision s := by
  unfold copyGroup
  dsimp only
  rw [decision_digestArea, decision_foldl (g := fun s c => digestChunk s p e c) (fun _ _ => decision_putDigest ..)]
  split
  · exact decision_foldl (fun _ _ => decision_copyBank ..) _ s
  · rw [decision_copyBank]
    exact decision_foldl (fun _ _ => decision_copyBank ..) _ s

theorem decision_enterGroup (s : State) (p : PlanImage) (k pass pos : Nat) : decision (enterGroup s p k pass pos) = decision s := by
  unfold enterGroup
  split
  · rfl
  · split <;> rfl

theorem decision_raise (s : State) (code : Nat) (u : UnitRef) (level : Nat) (ps : List Nat) :
    decision (raise s code u level ps) = decision s := by
  rw [decision, raise_upd]
  rfl

/-- The reads of a scan: every group's gradients, and without poison nothing else. -/
def gradientsRead (s : State) (p : PlanImage) : State :=
  p.update.groups.foldl (fun s e =>
    let a := engAddr p (gpGradRegion e) (gpGradBase e) s.fr.master.toNat
    stackRead (enginePoison s a (2 * gpElements e)) (devStack a) (64 * (linesOf a (2 * gpElements e)).length)) s

theorem gradientsRead_changes {s : State} (hclean : s.mem.hbmPoison = []) (p : PlanImage) :
    ChangesOnly { traffic := true } s (gradientsRead s p) := by
  refine touch_foldl (.refl s) (fun t e h => ?_)
  have clean : t.mem.hbmPoison = [] := (congrArg (fun x => x.2.1) (h.hbm rfl)).trans hclean
  dsimp only
  rw [enginePoison_of_clean clean]
  exact stackRead_touch rfl h

/-- What a scan leaves, with its decision. -/
theorem decision_scanGradients {s : State} (hclean : s.mem.hbmPoison = []) (p : PlanImage) :
    decision (scanGradients s p) = (true, p.update.groups.any (gradientBad s p)) := by
  have read := gradientsRead_changes hclean p
  have bad : gradientBad (gradientsRead s p) p = gradientBad s p :=
    gradientBad_congr (congrArg Prod.fst (read.hbm rfl)) (read.versions rfl).1 p
  unfold scanGradients
  extract_lets t b x v
  have decided : decision v = (true, p.update.groups.any (gradientBad s p)) :=
    congrArg (fun x => (true, p.update.groups.any x)) bad
  split
  · rw [decision_foldl (fun _ _ => decision_copyGroup ..), decision_raise, decided]
  · rw [decision_foldl (fun _ _ => decision_enterGroup ..), decided]

theorem runs_updateScan {s : State} {p : PlanImage} (hloaded : s.plan.loaded = some p) (hclean : s.mem.hbmPoison = [])
    (hfirst : s.upd.scanned = false) : Runs .updateScan s (fun u => u.upd.scanned = true ∧
      u.upd.skipped = p.update.groups.any (gradientBad s p)) := by
  refine ⟨scanGradients s p, ?_, Prod.mk.inj (decision_scanGradients hclean p)⟩
  show execUpdateScan s = _
  simp only [execUpdateScan, updPlan, hloaded, hfirst, Bool.false_eq_true, if_false]

theorem exec_updateScan_again {s : State} {p : PlanImage} (hloaded : s.plan.loaded = some p) (hscanned : s.upd.scanned = true) :
    exec .updateScan s = .next s := by
  show execUpdateScan s = _
  simp only [execUpdateScan, updPlan, hloaded, hscanned, if_true]

/-! ### Chunks -/

/-- A digest stands under a key. -/
def Folded (s : State) (key : Nat) : Prop := (tfind s.upd.chunkDigests key).isSome = true

theorem Folded.of_upd {s u : State} {key : Nat} (h : Folded s key) (hupd : u.upd.chunkDigests = s.upd.chunkDigests) : Folded u key := by
  rw [Folded, hupd]
  exact h

theorem folded_putDigest_same (s : State) (group chunk : Nat) (bytes : List Byte) :
    Folded (putDigest s group chunk bytes) (digestKey group chunk) := by
  rw [Folded, putDigest, tfind_tput_same]
  rfl

theorem Folded.putDigest {s : State} {key : Nat} (h : Folded s key) (group chunk : Nat) (bytes : List Byte) :
    Folded (putDigest s group chunk bytes) key := by
  by_cases hkey : key = digestKey group chunk
  · rw [hkey]
    exact folded_putDigest_same ..
  · rw [Folded, Machine.putDigest, tfind_tput_other _ _ hkey]
    exact h

theorem Folded.digestArea {s : State} {key : Nat} (h : Folded s key) (p : PlanImage) (e : BitVec 512) : Folded (digestArea s p e) key :=
  List.foldlRecOn (motive := fun t => Folded t key) _ _ h (fun _ ht _ _ => ht.putDigest ..)

theorem chunkDigests_groupRatio (s : State) (p : PlanImage) (e : BitVec 512) :
    (groupRatio s p e).upd.chunkDigests = s.upd.chunkDigests := by
  unfold groupRatio
  split <;> rfl

theorem Folded.finishGroup {s : State} {key : Nat} (h : Folded s key) (p : PlanImage) (e : BitVec 512) : Folded (finishGroup s p e) key := by
  have roots := finishRoots_touch (W := { hbm := true, traffic := true, ev := true, outbox := true }) (p := p) (e := e) rfl rfl rfl rfl (.refl s)
  unfold Machine.finishGroup
  split
  · exact ((h.of_upd (congrArg UpdState.chunkDigests (roots.upd rfl))).digestArea p e).of_upd (chunkDigests_groupRatio ..)
  · exact h

/-- In the last pass a chunk that is complete has its digest. -/
theorem folded_completeChunk {p : PlanImage} {e : BitVec 512} {pass : Nat} (hlast : pass = lastPass (programOf p e)) (s : State) (chunk : Nat) :
    Folded (completeChunk s p e pass chunk) (digestKey (gpNumber e) chunk) := by
  rw [completeChunk, if_pos hlast]
  exact (folded_putDigest_same ..).finishGroup p e

theorem chunkDigests_nextChunk (s : State) (p : PlanImage) (k : Nat) (w : EngineWork) :
    (nextChunk s p k w).upd.chunkDigests = s.upd.chunkDigests := by
  unfold nextChunk enterGroup
  split
  · rfl
  · split
    · rfl
    · split <;> rfl

theorem engineOf_nextChunk {p : PlanImage} {w : EngineWork} (hmore : w.chunk + 8 < groupChunks (workGroup p w)) (s : State) (k : Nat) :
    engineOf (nextChunk s p k w) k =
      { engineOf s k with work := some { w with chunk := w.chunk + 8, pc := 0, batch := 0 }, vectors := [] } := by
  rw [nextChunk, if_pos hmore, engineOf_modEngine]

theorem exec_updateChunkComplete {st : StackId} {en : Fin 8} {s : State} {p : PlanImage} {w : EngineWork}
    (hloaded : s.plan.loaded = some p) (hwork : (engineOf s (engineNo st en)).work = some w) (hdone : chunkDone p w = true) (cyc : Nat) :
    exec (.updateChunkComplete st en cyc) s =
      .next (nextChunk (completeChunk (atCycle s cyc) p (workGroup p w) w.pass w.chunk) p (engineNo st en) w) := by
  have loaded : updPlan (atCycle s cyc) = some p := hloaded
  have work : (engineOf (atCycle s cyc) (8 * st.val + en.val)).work = some w := hwork
  show execUpdateChunkComplete st en cyc s = _
  simp only [execUpdateChunkComplete, loaded, work, hdone, if_true]
  rfl

theorem runs_updateChunkComplete {st : StackId} {en : Fin 8} {s : State} {p : PlanImage} {w : EngineWork}
    (hloaded : s.plan.loaded = some p) (hwork : (engineOf s (engineNo st en)).work = some w) (hdone : chunkDone p w = true) (cyc : Nat) :
    Runs (.updateChunkComplete st en cyc) s (fun u =>
      (w.pass = lastPass (programOf p (workGroup p w)) → Folded u (digestKey (gpNumber (workGroup p w)) w.chunk)) ∧
      (w.chunk + 8 < groupChunks (workGroup p w) →
        (engineOf u (engineNo st en)).work = some { w with chunk := w.chunk + 8, pc := 0, batch := 0 } ∧
        (engineOf u (engineNo st en)).vectors = [])) := by
  refine ⟨_, exec_updateChunkComplete hloaded hwork hdone cyc, fun hlast => ?_, fun hmore => ?_⟩
  · exact (folded_completeChunk hlast _ _).of_upd (chunkDigests_nextChunk ..)
  · rw [engineOf_nextChunk hmore]
    exact ⟨rfl, rfl⟩

/-! ### The rerun -/

/-- The state in which a rerun scans: nothing of the abandoned attempt is left. -/
def attemptCleared (s : State) : State :=
  { s with upd.engines := [], upd.reds := [], upd.chunkDigests := [], upd.ratioD := [], upd.ratioW := [] }

theorem runs_updateRedo {s : State} {p : PlanImage} (hloaded : s.plan.loaded = some p) (hclean : s.mem.hbmPoison = [])
    (habandoned : s.upd.abandoned = true) (hredo : s.upd.redo = true) :
    Runs .updateRedo s (fun u => p.update.groups.any (gradientBad s p) = false → u.upd.engines = []) := by
  have decided : (scanGradients (attemptCleared s) p).upd.skipped = p.update.groups.any (gradientBad s p) :=
    (Prod.mk.inj (decision_scanGradients (s := attemptCleared s) hclean p)).2
  have redone : exec .updateRedo s = if (scanGradients (attemptCleared s) p).upd.skipped then .next (scanGradients (attemptCleared s) p)
      else .next { runPassAll (runPassAll (scanGradients (attemptCleared s) p) p 1) p 2 with upd.engines := [] } := by
    show execUpdateRedo s = _
    simp only [execUpdateRedo, updPlan, hloaded]
    rw [if_pos ⟨habandoned, hredo⟩]
    rfl
  rw [decided] at redone
  cases hbad : p.update.groups.any (gradientBad s p) with
  | true =>
    rw [hbad, if_pos rfl] at redone
    exact ⟨_, redone, fun h => Bool.noConfusion h⟩
  | false =>
    rw [hbad, if_neg Bool.false_ne_true] at redone
    exact ⟨_, redone, fun _ => rfl⟩

/-- Settles O33: the scan decides once, a complete chunk is folded before the next, and a rerun clears the engines. -/
theorem updatesScanFoldAndRedo : Obligations.UpdatesScanFoldAndRedo := by
  intro s p hloaded hclean
  exact ⟨runs_updateScan hloaded hclean, exec_updateScan_again hloaded,
    fun st en cyc w hwork hdone => runs_updateChunkComplete hloaded hwork hdone cyc, runs_updateRedo hloaded hclean⟩

end Sys2Proof.Machine
end

section
/-!
PROOFS. The tick's loss (R367), the flooded sync events (R370 to R373), and the members' measurements and messages (R357, R366, R374).
-/
namespace Sys2Proof.Machine
open Sys2Proof

/-! ### Links and groups after an update of the other -/

@[simp] theorem linkOf_modGroup (s : State) (d : Nat) (f : GroupState → GroupState) (l : Nat) : linkOf (modGroup s d f) l = linkOf s l := rfl
@[simp] theorem groupOf_modLink (s : State) (l : Nat) (f : LinkState → LinkState) (d : Nat) : groupOf (modLink s l f) d = groupOf s d := rfl
@[simp] theorem linkOf_relay (s : State) (e : SyncEvent) (ls : List Nat) (l : Nat) : linkOf (relay s e ls) l = linkOf s l := rfl
@[simp] theorem linkOf_raise (s : State) (code : Nat) (u : UnitRef) (level : Nat) (ps : List Nat) (l : Nat) :
    linkOf (raise s code u level ps) l = linkOf s l := by rw [linkOf, raise_link]; rfl

/-! ### TICK_LOSS -/

/-- The tick that an EXPEL sent at a cycle names (R432). -/
theorem succ_expelFrame_atCycle (s : State) (cyc : Nat) :
    expelFrame (atCycle s cyc) + 1 = if cyc + 19200 ≤ 120000 then now s + 1 else now s + 2 := by
  show (if cyc + 19200 ≤ 120000 then now s else now s + 1) + 1 = _
  split <;> rfl

/-- A package without a rank has no job to leave: it floods nothing. -/
theorem takeL3_link_of_unranked {s : State} (hrank : s.plan.rank = none) (code : Nat) (u : UnitRef) (ps : List Nat) :
    (takeL3 s code u ps).link = s.link := by
  unfold takeL3
  extract_lets raised fr levelled announced
  have unranked : announced.plan.rank = none := by rw [raise_plan, raise_plan, hrank]
  rw [unranked]
  exact (raise_link ..).trans (raise_link ..)

/-- Settles O17: the escalation of the state at the command's cycle. -/
theorem tickLossTakesL3 : Obligations.TickLossTakesL3 := by
  intro cyc s
  refine ⟨_, rfl, fun r hrank => ?_, fun f hrunning => ?_, fun hrank => takeL3_link_of_unranked (s := atCycle s cyc) hrank ..⟩
  · rw [← succ_expelFrame_atCycle]
    exact takeL3_expels (s := atCycle s cyc) hrank ..
  · exact ⟨{ f with level := max f.level 3 }, by rw [takeL3_running, atCycle_fr_running, hrunning]; rfl, Nat.le_max_right ..⟩

/-! ### What a flooded event leaves of the floods before it -/

/-- Every event that s has seen is seen in t, and every one that waits to be forwarded in s waits in t. -/
structure KeepsFloods (s t : State) : Prop where
  seen : ∀ x ∈ s.link.seen, x ∈ t.link.seen
  forward : ∀ x ∈ s.link.forward, x ∈ t.link.forward

namespace KeepsFloods
variable {s t : State}

theorem refl (s : State) : KeepsFloods s s := ⟨fun _ h => h, fun _ h => h⟩

theorem trans {u : State} (h : KeepsFloods s t) (k : KeepsFloods t u) : KeepsFloods s u :=
  ⟨fun x hx => k.seen x (h.seen x hx), fun x hx => k.forward x (h.forward x hx)⟩

theorem of_link (h : t.link = s.link) : KeepsFloods s t :=
  ⟨fun _ hx => h ▸ hx, fun _ hx => h ▸ hx⟩

theorem of_changes {W : Parts} (h : ChangesOnly W s t) (hsync : W.sync = false) : KeepsFloods s t := by
  have seen : t.link.seen = s.link.seen := congrArg Prod.fst (h.sync hsync)
  exact ⟨fun _ hx => seen ▸ hx, fun _ hx => h.forward hsync ▸ hx⟩

theorem ite {c : Prop} [Decidable c] {t' : State} (ht : KeepsFloods s t) (ht' : KeepsFloods s t') :
    KeepsFloods s (if c then t else t') := by
  split
  · exact ht
  · exact ht'

end KeepsFloods

theorem keepsFloods_flood (s : State) (k : SyncKind) (frame payload : Nat) : KeepsFloods s (flood s k frame payload) := by
  refine ⟨(mem_seen_flood s k frame payload).2, fun x hx => ?_⟩
  unfold flood
  extract_lets
  split
  · exact hx
  · exact List.mem_append_left _ hx

theorem keepsFloods_notePrepared (s : State) (rank : Nat) : KeepsFloods s (notePrepared s rank) := by
  rcases notePrepared_cases s rank with hsame | ⟨payload, hstarts⟩
  · exact .of_link (by rw [hsame]; rfl)
  · rw [hstarts]
    have counted : KeepsFloods s (countPrepared s rank) := .of_link rfl
    exact (counted.trans (keepsFloods_flood ..)).trans (.of_changes (noteStart_touch (W := { plan := true }) rfl (.refl _)) rfl)

theorem keepsFloods_floodExpel (s : State) (rank : Nat) : KeepsFloods s (floodExpel s rank) :=
  (keepsFloods_flood ..).trans ⟨fun _ h => h, fun _ h => h⟩

theorem keepsFloods_takeL4 (s : State) : KeepsFloods s (takeL4 s) := by
  unfold takeL4
  extract_lets raised fr levelled
  have told : KeepsFloods s levelled := .of_link (raise_link ..)
  split
  · exact told.trans (keepsFloods_floodExpel ..)
  · exact told

theorem keepsFloods_decideRedo (s : State) : KeepsFloods s (decideRedo s) := by
  unfold decideRedo
  extract_lets ms all
  have rollback : KeepsFloods s (takeL4 { s with upd.completeReports := [] }) :=
    .trans (t := { s with upd.completeReports := [] }) (.of_link rfl) (keepsFloods_takeL4 _)
  exact .ite (.ite (.of_link rfl) rollback) (.refl s)

theorem keepsFloods_noteComplete (s : State) (rank attempt : Nat) (whole : Bool) : KeepsFloods s (noteComplete s rank attempt whole) := by
  have reported : KeepsFloods s { s with upd.completeReports := s.upd.completeReports ++ [(rank, whole)] } := .of_link rfl
  exact .ite (reported.trans (keepsFloods_decideRedo _)) (.refl s)

/-- Acting on an event may flood others, and takes none back. -/
theorem keepsFloods_actOn (s : State) (e : SyncEvent) : KeepsFloods s (actOn s e) := by
  unfold actOn
  split
  · exact .of_changes (addHold_touch (W := { holds := true }) rfl (.refl s)) rfl
  · exact .of_changes (addHold_touch (W := { holds := true }) rfl (.refl s)) rfl
  · exact .of_link rfl
  · exact .of_link rfl
  · exact keepsFloods_noteComplete ..
  · exact .ite (keepsFloods_notePrepared ..) (.refl s)
  · exact .ite (.of_changes (noteStart_touch (W := { plan := true }) rfl (.refl s)) rfl) (.refl s)
  · exact .ite (.of_changes (noteAbort_touch (W := { answerParts with plan := true }) rfl rfl rfl rfl rfl rfl (.refl s)) rfl) (.refl s)
  · exact .ite (.refl s) ⟨fun _ h => h, fun _ h => h⟩
  all_goals exact .refl s

/-! ### What each kind of flooded event does -/

theorem mem_holdTargets_addHold (s : State) (frame : Nat) : frame + 1 ∈ (addHold s frame).fr.holdTargets := by
  unfold addHold
  split
  case isTrue h => exact List.contains_iff_mem.mp h
  case isFalse => exact List.mem_cons_self ..

theorem mem_expelTargets_noteExpel (s : State) (frame rank : Nat) : (frame + 1, rank) ∈ (noteExpel s frame rank).link.expelTargets := by
  unfold noteExpel
  split
  case isTrue h => exact List.contains_iff_mem.mp h
  case isFalse => exact List.mem_append_right _ (List.mem_singleton_self _)

theorem mem_prepared_notePrepared (s : State) (rank : Nat) : rank ∈ (notePrepared s rank).plan.prepared := by
  have counted := mem_prepared_countPrepared s rank
  rcases notePrepared_cases s rank with hsame | ⟨payload, hstarts⟩
  · rwa [hsame]
  · rw [← (flood_keeps (countPrepared s rank) .start (now s + 64) payload).1] at counted
    rw [hstarts, noteStart]
    split <;> exact counted

/-- Outside an abandoned attempt a report of completeness is kept and decides nothing. -/
theorem completeReports_noteComplete {s : State} {attempt : Nat} (habandoned : s.upd.abandoned = false) (hattempt : attempt = s.upd.attempt)
    (rank : Nat) (whole : Bool) :
    (noteComplete s rank attempt whole).upd.completeReports = s.upd.completeReports ++ [(rank, whole)] := by
  rw [noteComplete, if_pos hattempt, decideRedo, habandoned]
  exact congrArg (fun u : State => u.upd.completeReports) (if_neg (fun h => Bool.noConfusion h.1))

theorem noteAbort_drops {s : State} (hstage : s.plan.stage ≠ .idle) (reason : Nat) :
    (noteAbort s reason).plan.stage = .idle ∧ (noteAbort s reason).plan.loaded = none := by
  rw [noteAbort, if_neg hstage]
  exact ⟨rfl, rfl⟩

/-- UPDATE_DONE's report is that of its operands (R311). -/
theorem reports_actOn_updateDone (s : State) (origin : Rank) (frame : Nat) (version : Word) (attempt : Byte) (skipped : Bool) :
    (actOn s (syncEvent .updateDone origin frame (version.toNat + attempt.toNat * 2 ^ 32 + bitNat skipped * 2 ^ 40))).upd.reports =
      s.upd.reports ++ [{ rank := origin.val, version := version.toNat, attempt := attempt.toNat, skipped := skipped }] := by
  obtain ⟨hversion, hattempt, hskipped⟩ :
      (version.toNat + attempt.toNat * 2 ^ 32 + bitNat skipped * 2 ^ 40) % 2 ^ 32 = version.toNat ∧
      (version.toNat + attempt.toNat * 2 ^ 32 + bitNat skipped * 2 ^ 40) / 2 ^ 32 % 256 = attempt.toNat ∧
      ((version.toNat + attempt.toNat * 2 ^ 32 + bitNat skipped * 2 ^ 40) / 2 ^ 40 % 2 == 1) = skipped := by
    have := version.isLt
    have := attempt.isLt
    cases skipped <;> simp [bitNat] <;> omega
  simp only [actOn, syncEvent, noteDone, hversion, hattempt, hskipped]

/-- COMPLETE's report is that of its operands, for the current attempt and outside an abandoned one (R313). -/
theorem completeReports_actOn_complete {s : State} {attempt : Byte} (habandoned : s.upd.abandoned = false)
    (hattempt : attempt.toNat = s.upd.attempt) (origin : Rank) (frame : Nat) (whole : Bool) :
    (actOn s (syncEvent .complete origin frame (attempt.toNat + bitNat whole * 256))).upd.completeReports =
      s.upd.completeReports ++ [(origin.val, whole)] := by
  obtain ⟨hnumber, hwhole⟩ : (attempt.toNat + bitNat whole * 256) % 256 = attempt.toNat ∧
      ((attempt.toNat + bitNat whole * 256) / 256 % 2 == 1) = whole := by
    have := attempt.isLt
    cases whole <;> simp [bitNat] <;> omega
  simp only [actOn, syncEvent, hnumber, hwhole]
  exact completeReports_noteComplete habandoned hattempt ..

theorem mem_prepared_actOn_prepared {s : State} {plan : Word} (hplan : plan = planIdField s) (origin : Rank) (frame : Nat) :
    origin.val ∈ (actOn s (syncEvent .prepared origin frame plan.toNat)).plan.prepared := by
  have named : plan.toNat % 2 ^ 32 = (planIdField s).toNat := by rw [Nat.mod_eq_of_lt plan.isLt, hplan]
  have acts : actOn s (syncEvent .prepared origin frame plan.toNat) = notePrepared s origin := if_pos named
  rw [acts]
  exact mem_prepared_notePrepared ..

theorem actOn_start_starts {s : State} {plan : Word} (hplan : plan = planIdField s) (hstage : s.plan.stage = .prepared) (origin : Rank)
    (frame : Nat) : (actOn s (syncEvent .start origin frame plan.toNat)).plan.stage = .starting ∧
      (actOn s (syncEvent .start origin frame plan.toNat)).plan.startFrame = some frame := by
  have named : plan.toNat % 2 ^ 32 = (planIdField s).toNat := by rw [Nat.mod_eq_of_lt plan.isLt, hplan]
  have acts : actOn s (syncEvent .start origin frame plan.toNat) = noteStart s frame := if_pos named
  rw [acts, noteStart_of_prepared hstage]
  exact ⟨rfl, rfl⟩

theorem actOn_abort_drops {s : State} {plan : Word} (hplan : plan = planIdField s) (hstage : s.plan.stage ≠ .idle) (origin : Rank)
    (frame : Nat) (reason : Byte) :
    (actOn s (syncEvent .abort origin frame (plan.toNat + reason.toNat * 2 ^ 32))).plan.stage = .idle ∧
      (actOn s (syncEvent .abort origin frame (plan.toNat + reason.toNat * 2 ^ 32))).plan.loaded = none := by
  have named : (plan.toNat + reason.toNat * 2 ^ 32) % 2 ^ 32 = (planIdField s).toNat := by
    rw [Nat.add_mul_mod_self_right, Nat.mod_eq_of_lt plan.isLt, hplan]
  have acts : actOn s (syncEvent .abort origin frame (plan.toNat + reason.toNat * 2 ^ 32)) = noteAbort s _ := if_pos named
  rw [acts]
  exact noteAbort_drops hstage _

theorem mem_expelTargets_actOn_expel (s : State) (origin : Rank) (frame : Nat) (rank : Rank) :
    (frame + 1, rank.val) ∈ (actOn s (syncEvent .expel origin frame rank.val)).link.expelTargets := by
  have acts : actOn s (syncEvent .expel origin frame rank.val) = noteExpel s frame (rank.val % 1024) := rfl
  rw [acts, Nat.mod_eq_of_lt rank.isLt]
  exact mem_expelTargets_noteExpel ..

/-! ### A flooded event as it arrives -/

/-- The state with an event marked as seen, and waiting on every other live link. -/
def spread (s : State) (link : Nat) (e : SyncEvent) : State :=
  relay { s with link.seen := (e.kind, e.origin, e.frame) :: s.link.seen } e ((liveLinks s).filter (· != link))

theorem receiveFlood_of_seen {s : State} {e : SyncEvent} (h : s.link.seen.contains (e.kind, e.origin, e.frame) = true) (link : Nat) :
    receiveFlood s link e = s := if_pos h

theorem receiveFlood_of_new {s : State} {e : SyncEvent} (hnew : s.link.seen.contains (e.kind, e.origin, e.frame) = false)
    (htime : targetPassed s e = false) (link : Nat) : receiveFlood s link e = actOn (spread s link e) e := by
  have ontime : ¬ targetPassed (spread s link e) e = true := by
    rw [show targetPassed (spread s link e) e = targetPassed s e from rfl, htime]
    exact Bool.false_ne_true
  rw [receiveFlood, hnew, if_neg Bool.false_ne_true]
  exact if_neg ontime

/-- The command of a flooded event: a copy changes nothing but the cycle read; a new event in time spreads, and is acted on. -/
theorem runs_flooded {c : Instr} {s v : State} {link : Nat} {e : SyncEvent} {acts : State → Prop} (hread : v = { s with fr.cycle := v.fr.cycle })
    (hexec : exec c s = .next (receiveFlood v link e)) (hacts : acts (actOn (spread v link e) e)) :
    (s.link.seen.contains (e.kind, e.origin, e.frame) = true → Runs c s (fun u => u = { s with fr.cycle := u.fr.cycle })) ∧
    (s.link.seen.contains (e.kind, e.origin, e.frame) = false → targetPassed s e = false → Runs c s (fun u =>
      ((e.kind, e.origin, e.frame) ∈ u.link.seen ∧
        ∃ x ∈ u.link.forward, x.event = e ∧ x.links = (liveLinks s).filter (· != link)) ∧ acts u)) := by
  have link_eq : v.link = s.link := by rw [hread]
  refine ⟨fun hseen => ⟨_, hexec, ?_⟩, fun hnew htime => ⟨_, hexec, ?_⟩⟩
  · rw [receiveFlood_of_seen (link_eq ▸ hseen)]
    exact hread
  · have same : targetPassed v e = targetPassed s e := by rw [hread]; rfl
    have live : liveLinks v = liveLinks s := by rw [hread]; rfl
    have floods := keepsFloods_actOn (spread v link e) e
    rw [receiveFlood_of_new (link_eq ▸ hnew) (same.trans htime)]
    refine ⟨⟨floods.seen _ (List.mem_cons_self ..), _, floods.forward _ (List.mem_append_right _ (List.mem_singleton_self _)), rfl, ?_⟩,
      hacts⟩
    rw [← live]

/-- Settles O37: `runs_flooded` for each of the nine commands, with what its event does. -/
theorem floodedEventsActOnce : Obligations.FloodedEventsActOnce := by
  intro link origin rank frame cyc cause unit attempt reason pos version plan skipped whole s c e hmem
  simp only [List.mem_cons, Prod.mk.injEq, List.not_mem_nil, or_false] at hmem
  rcases hmem with ⟨rfl, rfl⟩ | ⟨rfl, rfl⟩ | ⟨rfl, rfl⟩ | ⟨rfl, rfl⟩ | ⟨rfl, rfl⟩ | ⟨rfl, rfl⟩ | ⟨rfl, rfl⟩ | ⟨rfl, rfl⟩ | ⟨rfl, rfl⟩
  · exact runs_flooded (v := atCycle s cyc) rfl rfl
      ⟨fun _ => mem_holdTargets_addHold .., nofun, nofun, nofun, nofun, nofun, nofun, nofun⟩
  · exact runs_flooded (v := atCycle s cyc) rfl rfl
      ⟨fun _ => mem_holdTargets_addHold .., nofun, nofun, nofun, nofun, nofun, nofun, nofun⟩
  · exact runs_flooded (v := s) rfl rfl ⟨nofun, fun _ => rfl, nofun, nofun, nofun, nofun, nofun, nofun⟩
  · exact runs_flooded (v := s) rfl rfl
      ⟨nofun, nofun, fun _ => reports_actOn_updateDone .., nofun, nofun, nofun, nofun, nofun⟩
  · exact runs_flooded (v := atCycle s cyc) rfl rfl
      ⟨nofun, nofun, nofun, fun _ habandoned hattempt => completeReports_actOn_complete (s := spread (atCycle s cyc) link _) habandoned hattempt ..,
        nofun, nofun, nofun, nofun⟩
  · exact runs_flooded (v := s) rfl rfl
      ⟨nofun, nofun, nofun, nofun, fun _ hplan => mem_prepared_actOn_prepared (s := spread s link _) hplan .., nofun, nofun, nofun⟩
  · exact runs_flooded (v := s) rfl rfl
      ⟨nofun, nofun, nofun, nofun, nofun, fun _ hplan hstage => actOn_start_starts (s := spread s link _) hplan hstage .., nofun, nofun⟩
  · exact runs_flooded (v := s) rfl rfl
      ⟨nofun, nofun, nofun, nofun, nofun, nofun, fun _ hplan hstage => actOn_abort_drops (s := spread s link _) hplan hstage .., nofun⟩
  · exact runs_flooded (v := atCycle s cyc) rfl rfl
      ⟨nofun, nofun, nofun, nofun, nofun, nofun, nofun, fun _ => mem_expelTargets_actOn_expel ..⟩

/-! ### Measurements, alignment and messages -/

theorem runs_echoMeasurement (link : LinkId) (token : Half) (s : State) : Runs (.echoMeasurement link token) s (fun u =>
    (linkOf u link).echoes = (linkOf s link).echoes ++ [token.toNat] ∧
    ∃ x ∈ u.link.forward, x.event.kind = .echoReq ∧ x.event.payload = token.toNat ∧ x.links = [link.val]) := by
  refine ⟨_, rfl, ?_, _, List.mem_append_right _ (List.mem_singleton_self _), rfl, rfl, rfl⟩
  rw [linkOf_relay, linkOf_modLink]

theorem runs_echoReq (link : LinkId) (token : Half) (turnaround : Word) (s : State) : Runs (.echoReq link token turnaround) s (fun u =>
    ∃ x ∈ u.link.forward, x.event.kind = .echoReply ∧ x.event.payload % 2 ^ 16 = token.toNat ∧
      x.event.payload / 2 ^ 16 = turnaround.toNat ∧ x.links = [link.val]) := by
  have htoken := token.isLt
  refine ⟨_, rfl, _, List.mem_append_right _ (List.mem_singleton_self _), rfl, ?_, ?_, rfl⟩
  · rw [Nat.add_mul_mod_self_right, Nat.mod_eq_of_lt htoken]
  · rw [Nat.add_mul_div_right _ _ (by decide), Nat.div_eq_of_lt htoken, Nat.zero_add]

/-- A reply to a token in use measures the link; beyond 400 ns the link counts as down besides. -/
theorem runs_echoReply {link : LinkId} {token : Half} {s : State} (htoken : token.toNat ∈ (linkOf s link).echoes)
    (turnaround roundTrip : Word) : Runs (.echoReply link token turnaround roundTrip) s (fun u =>
      (linkOf u link).delay = min ((roundTrip.toNat - turnaround.toNat) / 2) 65535 ∧
      (linkOf u link).echoes = (linkOf s link).echoes.erase token.toNat ∧
      (linkOf u link).width = if 25600 < (roundTrip.toNat - turnaround.toNat) / 2 then 0 else (linkOf s link).width) := by
  unfold Runs
  show ∃ u, execEchoReply link token turnaround roundTrip s = _ ∧ _
  rw [execEchoReply, if_pos (List.contains_iff_mem.mpr htoken)]
  extract_lets d measured
  have read : linkOf measured link.val =
      { linkOf s link.val with echoes := (linkOf s link.val).echoes.erase token.toNat, delay := min d 65535 } := linkOf_modLink ..
  by_cases hfar : 25600 < d
  · rw [if_pos hfar, if_pos hfar]
    refine ⟨_, rfl, ?_⟩
    rw [linkOf_raise, linkOf_modLink, read]
    exact ⟨rfl, rfl, rfl⟩
  · rw [if_neg hfar, if_neg hfar]
    refine ⟨_, rfl, ?_⟩
    rw [read]
    exact ⟨rfl, rfl, rfl⟩

theorem runs_c0Message (link : LinkId) (m : C0Message) (s : State) : Runs (.c0Message link m) s (fun u =>
    (s.plan.rank = some m.dest.val → u.link.delivered = s.link.delivered ++ [m] ∧ u.link.messages = s.link.messages) ∧
    (s.plan.rank ≠ some m.dest.val → u.link.delivered = s.link.delivered ∧
      u.link.messages = if m.dest.val ∈ s.link.expelled then s.link.messages else s.link.messages ++ [m])) := by
  unfold Runs
  show ∃ u, execC0Message link m s = _ ∧ _
  rw [execC0Message]
  by_cases hown : s.plan.rank = some m.dest.val
  · rw [if_pos hown]
    exact ⟨_, rfl, fun _ => ⟨rfl, rfl⟩, fun hother => absurd hown hother⟩
  · rw [if_neg hown]
    by_cases hexpelled : m.dest.val ∈ s.link.expelled
    · rw [if_pos (List.contains_iff_mem.mpr hexpelled)]
      exact ⟨s, rfl, fun h => absurd h hown, fun _ => ⟨rfl, (if_pos hexpelled).symm⟩⟩
    · rw [if_neg (fun h => hexpelled (List.contains_iff_mem.mp h))]
      exact ⟨_, rfl, fun h => absurd h hown, fun _ => ⟨rfl, (if_neg hexpelled).symm⟩⟩

/-- Settles O38: TICK and MEMBER_ALIGNED act where their conditions hold; the other commands have a lemma each. -/
theorem membersMeasureAlignAndPassMessages : Obligations.MembersMeasureAlignAndPassMessages := by
  refine ⟨runs_echoMeasurement, runs_echoReq, fun link token turnaround roundTrip s htoken => runs_echoReply htoken turnaround roundTrip,
    fun link frame departure aligned arrival s hparent => ?_, fun frame s hstage hcount haligned => ?_, runs_c0Message⟩
  · exact ⟨_, if_pos hparent, rfl⟩
  · exact ⟨_, if_pos ⟨hstage, hcount, by rw [haligned]; rfl⟩, rfl, rfl⟩

end Sys2Proof.Machine
end

section
/-!
PROOFS. The lanes of a link: failure and degrade (R362, R363), eye measurements and admission (R382, R383), and training (R341, R499).
-/
namespace Sys2Proof.Machine
open Sys2Proof

/-! ### A lane's failure -/

/-- A change of one link leaves the others. -/
theorem linkOf_modLink_other (s : State) {l k : Nat} (h : k ≠ l) (f : LinkState → LinkState) : linkOf (modLink s l f) k = linkOf s k :=
  tget_tmod_other _ _ _ h

/-- An event charged to its unit moves neither the frame timebase nor the links. -/
theorem raiseCharged_keeps (s : State) (code : Nat) (u : UnitRef) (level : Nat) (ps : List Nat) (kind : Nat) (counted : Bool) :
    (raiseCharged s code u level ps kind counted).fr = s.fr ∧ (raiseCharged s code u level ps kind counted).link = s.link := by
  obtain ⟨hfr, hlink⟩ := charge_keeps (raise s code u level ps) u kind counted false code
  exact ⟨hfr.trans (raise_fr ..), hlink.trans (raise_link ..)⟩

theorem linkOf_raiseCharged (s : State) (code : Nat) (u : UnitRef) (level : Nat) (ps : List Nat) (kind : Nat) (counted : Bool) (l : Nat) :
    linkOf (raiseCharged s code u level ps kind counted) l = linkOf s l := by
  rw [linkOf, (raiseCharged_keeps ..).2, ← linkOf]

/-- The first tick at least 20 µs away (R363). -/
def laneTestTick (s : State) : Nat := if s.fr.cycle + 24000 ≤ 120000 then now s + 1 else now s + 2

theorem linkOf_linkDown (s : State) (l : Nat) :
    linkOf (linkDown s l) l = { linkOf s l with width := 0, testTick := some (laneTestTick s) } :=
  (linkOf_modGroup ..).trans (linkOf_modLink ..)

/-- A link whose lane fails has the lane marked, is down, and has its test ahead. -/
theorem linkOf_laneFail {s : State} {l lane : Nat} (hsound : (linkOf s l).failed.getLsbD lane = false) :
    linkOf (laneFail s l lane) l =
      { linkOf s l with failed := (linkOf s l).failed ||| (1 <<< lane), width := 0, testTick := some (laneTestTick s) } := by
  rw [laneFail, hsound, if_neg Bool.false_ne_true, linkOf_linkDown, linkOf_raiseCharged, linkOf_modLink]
  simp only [laneTestTick, now, (raiseCharged_keeps ..).1, modLink_fr]

theorem runs_laneFailure {link : LinkId} {lane : Fin 4} {s : State} (hsound : (linkOf s link).failed.getLsbD lane = false) (cyc : Nat) :
    Runs (.laneFailure link lane cyc) s (fun u => (linkOf u link).width = 0 ∧
      (linkOf u link).failed = (linkOf s link).failed ||| (1 <<< lane.val) ∧
      (linkOf u link).testTick = some (if cyc + 24000 ≤ 120000 then now s + 1 else now s + 2)) := by
  refine ⟨_, rfl, ?_⟩
  dsimp only
  rw [linkOf_laneFail (s := atCycle s cyc) hsound]
  exact ⟨rfl, rfl, rfl⟩

/-! ### Degrade and retrain -/

/-- A link with its test behind it, under a set of failed lanes. -/
def laneTested (s : State) (l : Nat) (f : BitVec 4) : State := modLink s l (fun k => { k with failed := f, testTick := none })

theorem exec_laneDegradeRetrain {link : LinkId} {s : State} {t : Nat} (htest : (linkOf s link).testTick = some t) (hdue : t + 1 ≤ now s)
    (hclock : s.pin.linkref = true) (failed f : BitVec 4) (hf : (linkOf s link).failed ||| failed = f) :
    exec (.laneDegradeRetrain link failed) s = .next (
      if !(f.getLsbD 0 || f.getLsbD 1) || !(f.getLsbD 2 || f.getLsbD 3) then
        raise (modLink (laneTested s link f) link (fun k => { k with width := 1, pair := f.getLsbD 0 || f.getLsbD 1 }))
          0x0510 (unitLink link) noLevel []
      else laneTested s link f) := by
  have due : ¬ now s < t + 1 := Nat.not_lt.mpr hdue
  have clock : (laneTested s link f).pin.linkref = true := hclock
  show execLaneDegradeRetrain link failed s = _
  simp only [execLaneDegradeRetrain, htest, hf, if_neg due]
  rw [← laneTested, clock]
  simp only [Bool.true_and, Bool.not_or, ← apply_ite Host.Outcome.next, Bool.not_and, Bool.not_not]

theorem runs_laneDegradeRetrain {link : LinkId} {s : State} {t : Nat} (htest : (linkOf s link).testTick = some t) (hdue : t + 1 ≤ now s)
    (hclock : s.pin.linkref = true) (failed : BitVec 4) : Runs (.laneDegradeRetrain link failed) s (fun u =>
      let f := (linkOf s link).failed ||| failed
      (linkOf u link).failed = f ∧ (linkOf u link).testTick = none ∧
      ((f.getLsbD 0 || f.getLsbD 1) = false → (linkOf u link).width = 1 ∧ (linkOf u link).pair = false) ∧
      ((f.getLsbD 0 || f.getLsbD 1) = true → (f.getLsbD 2 || f.getLsbD 3) = false →
        (linkOf u link).width = 1 ∧ (linkOf u link).pair = true) ∧
      ((f.getLsbD 0 || f.getLsbD 1) = true → (f.getLsbD 2 || f.getLsbD 3) = true → (linkOf u link).width = (linkOf s link).width)) := by
  generalize hf : (linkOf s link).failed ||| failed = f
  have read : linkOf (laneTested s link f) link = { linkOf s link with failed := f, testTick := none } := linkOf_modLink ..
  refine ⟨_, exec_laneDegradeRetrain htest hdue hclock failed f hf, ?_⟩
  dsimp only
  generalize (f.getLsbD 0 || f.getLsbD 1) = lowFails
  generalize (f.getLsbD 2 || f.getLsbD 3) = highFails
  cases lowFails with
  | false =>
    rw [if_pos (by rfl), linkOf_raise, linkOf_modLink, read]
    exact ⟨rfl, rfl, fun _ => ⟨rfl, rfl⟩, nofun, nofun⟩
  | true =>
    cases highFails with
    | false =>
      rw [if_pos (by rfl), linkOf_raise, linkOf_modLink, read]
      exact ⟨rfl, rfl, nofun, fun _ _ => ⟨rfl, rfl⟩, nofun⟩
    | true =>
      rw [if_neg (by decide), read]
      exact ⟨rfl, rfl, nofun, nofun, fun _ _ => rfl⟩

/-! ### Eye measurements and admission -/

/-- A lane with an eye's figures. -/
def measuredLane (a : LaneState) (height width : Half) (ser : Word) : LaneState :=
  { a with height := height.toNat, width := width.toNat, ser := ser }

/-- The state with an eye's figures kept. -/
def eyeKept (s : State) (l lane : Nat) (height width : Half) (ser : Word) : State :=
  modLink s l (fun k => { k with lanes := tmod LaneState.zero k.lanes lane (fun a => measuredLane a height width ser) })

/-- A link that all lanes of an admission bring back. -/
def admittedLink (k : LinkState) : LinkState := { k with width := 2, pair := false, failed := 0, testTick := none }

/-- What an admission does once its lane is judged: it brings back a link below full width that every lane passes. -/
def bringBack (admission : Bool) (s : State) (l : Nat) : Result :=
  if admission ∧ s.pin.linkref ∧ (linkOf s l).width ≠ 2 ∧ !(linkOf s l).miscabled ∧
      (List.range 4).all (fun i => laneAdmitted (tget LaneState.zero (linkOf s l).lanes i)) then
    .next (modLink s l admittedLink)
  else .next s

section
variable {link : LinkId} {lane : Fin 4} {height width : Half} {ser : Word} {admission : Bool} {s : State}

theorem linkOf_eyeKept : linkOf (eyeKept s link lane height width ser) link = { linkOf s link with
    lanes := tmod LaneState.zero (linkOf s link).lanes lane (fun a => measuredLane a height width ser) } := linkOf_modLink ..

/-- The figures kept are those that are judged. -/
theorem tget_lanes_eyeKept : tget LaneState.zero (linkOf (eyeKept s link lane height width ser) link).lanes lane =
    measuredLane (tget LaneState.zero (linkOf s link).lanes lane) height width ser := by
  rw [linkOf_eyeKept]
  exact tget_tmod_same _ _ _ (fun a => measuredLane a height width ser)

theorem exec_eyeMeasurement_of_failed
    (hfails : laneFailed (measuredLane (tget LaneState.zero (linkOf s link).lanes lane) height width ser) = true ∨
      (admission = true ∧ laneAdmitted (measuredLane (tget LaneState.zero (linkOf s link).lanes lane) height width ser) = false)) :
    exec (.eyeMeasurement link lane height width ser admission) s = .next (laneFail (eyeKept s link lane height width ser) link lane) := by
  rw [← tget_lanes_eyeKept] at hfails
  exact if_pos (hfails.imp_right (fun h => ⟨h.1, (Bool.not_eq_true' _).mpr h.2⟩))

theorem exec_eyeMeasurement_of_sound
    (hworks : laneFailed (measuredLane (tget LaneState.zero (linkOf s link).lanes lane) height width ser) = false)
    (hsound : laneSound (measuredLane (tget LaneState.zero (linkOf s link).lanes lane) height width ser) = true)
    (hpasses : admission = true → laneAdmitted (measuredLane (tget LaneState.zero (linkOf s link).lanes lane) height width ser) = true) :
    exec (.eyeMeasurement link lane height width ser admission) s = bringBack admission (eyeKept s link lane height width ser) link := by
  rw [← tget_lanes_eyeKept] at hworks hsound hpasses
  generalize hv : eyeKept s link lane height width ser = v at hworks hsound hpasses ⊢
  have judged : exec (.eyeMeasurement link lane height width ser admission) s =
      if laneFailed (tget LaneState.zero (linkOf v link).lanes lane) = true ∨
          (admission = true ∧ (!laneAdmitted (tget LaneState.zero (linkOf v link).lanes lane)) = true) then
        .next (laneFail v link lane)
      else bringBack admission (if laneSound (tget LaneState.zero (linkOf v link).lanes lane) then v
        else modHealth (raiseCharged v 0x0514 (unitLink link) noLevel [] 5 false) (unitLink link) (fun r => { r with marginal := true }))
        link := by
    rw [← hv]
    rfl
  rw [judged, if_pos hsound, if_neg]
  rintro (hfails | ⟨hadmission, hfails⟩)
  · exact Bool.noConfusion (hworks.symm.trans hfails)
  · rw [hpasses hadmission] at hfails
    exact Bool.noConfusion hfails

end

/-- Figures that fail, or do not pass an admission, fail the lane. -/
theorem runs_eyeMeasurement_of_failed {link : LinkId} {lane : Fin 4} {height width : Half} {ser : Word} {admission : Bool} {s : State}
    (hfails : laneFailed (measuredLane (tget LaneState.zero (linkOf s link).lanes lane) height width ser) = true ∨
      (admission = true ∧ laneAdmitted (measuredLane (tget LaneState.zero (linkOf s link).lanes lane) height width ser) = false))
    (hmark : (linkOf s link).failed.getLsbD lane = false) :
    Runs (.eyeMeasurement link lane height width ser admission) s (fun u => (linkOf u link).width = 0 ∧
      (linkOf u link).failed = (linkOf s link).failed ||| (1 <<< lane.val)) := by
  have unmarked : (linkOf (eyeKept s link lane height width ser) link).failed.getLsbD lane = false := by rwa [linkOf_eyeKept]
  refine ⟨_, exec_eyeMeasurement_of_failed hfails, ?_⟩
  dsimp only
  rw [linkOf_laneFail unmarked, linkOf_eyeKept]
  exact ⟨rfl, rfl⟩

/-- An admission that all four lanes pass brings its link back. -/
theorem bringBack_of_all {s : State} {l : Nat} (hclock : s.pin.linkref = true) (hwidth : (linkOf s l).width ≠ 2)
    (hcable : (linkOf s l).miscabled = false) (hlanes : ∀ i : Fin 4, laneAdmitted (tget LaneState.zero (linkOf s l).lanes i) = true) :
    bringBack true s l = .next (modLink s l admittedLink) := by
  have all : (List.range 4).all (fun i => laneAdmitted (tget LaneState.zero (linkOf s l).lanes i)) = true :=
    List.all_eq_true.mpr (fun i hi => hlanes ⟨i, List.mem_range.mp hi⟩)
  exact if_pos ⟨rfl, hclock, hwidth, by rw [hcable]; rfl, all⟩

/-! ### Training -/

/-- The training of one link (R499). -/
def trainLink (down : List LinkId) (s : State) (l : Nat) : State := modLink s l (fun k =>
  { k with width := if down.any (fun x => x.val == l) || !s.pin.linkref then 0 else 2, pair := false, failed := 0 })

/-- A link as a training leaves it, where `clock` is LINKREF's presence. -/
def Trained (down : List LinkId) (clock : Bool) (l : Nat) (s : State) : Prop :=
  (linkOf s l).width = (if down.any (fun x => x.val == l) || !clock then 0 else 2) ∧ (linkOf s l).failed = 0

theorem trained_trainLink (down : List LinkId) (s : State) (l : Nat) : Trained down s.pin.linkref l (trainLink down s l) := by
  rw [Trained, trainLink, linkOf_modLink]
  exact ⟨rfl, rfl⟩

theorem Trained.trainLink {down : List LinkId} {clock : Bool} {l k : Nat} {s : State} (h : Trained down clock l s) (hne : l ≠ k) :
    Trained down clock l (trainLink down s k) := by
  rwa [Trained, Machine.trainLink, linkOf_modLink_other _ hne]

theorem runs_laneTraining {s : State} (hstage : s.pin.stage = 4) (down : List LinkId) :
    Runs (.laneTraining down) s (fun u => u.pin.stage = 5 ∧
      ∀ l : LinkId, (linkOf u l).width = (if l ∈ down ∨ s.pin.linkref = false then 0 else 2) ∧ (linkOf u l).failed = 0) := by
  have trains : ∀ l : LinkId, Trained down s.pin.linkref l ((List.range 48).foldl (trainLink down) s) := fun l =>
    foldl_establishes (g := trainLink down) (I := fun v => v.pin.linkref = s.pin.linkref) (P := Trained down s.pin.linkref) (R := (· ≠ ·))
      (fun _ _ h => h) (fun v k h => h ▸ trained_trainLink down v k) (fun _ _ _ hne _ h => h.trainLink hne)
      List.nodup_range rfl l.val (List.mem_range.mpr l.isLt)
  generalize hv : (List.range 48).foldl (trainLink down) s = v at trains
  have hexec : exec (.laneTraining down) s = .next { v with pin.stage := 5 } := hv ▸ if_pos hstage
  refine ⟨_, hexec, rfl, fun l => ?_⟩
  obtain ⟨hwidth, hfailed⟩ := trains l
  have stays : (down.any (fun x => x.val == l.val) || !s.pin.linkref) = true ↔ l ∈ down ∨ s.pin.linkref = false := by
    simp [Fin.val_inj]
  exact ⟨hwidth.trans (if_congr stays rfl rfl), hfailed⟩

/-- Settles O40: one lemma for each of the commands, the three judgements of an eye apart. -/
theorem lanesFailRetrainAndAreAdmitted : Obligations.LanesFailRetrainAndAreAdmitted := by
  refine ⟨fun link lane cyc s hsound => runs_laneFailure hsound cyc,
    fun link failed s t htest hdue hclock => runs_laneDegradeRetrain htest hdue hclock failed,
    fun link lane height width ser admission s => ⟨runs_eyeMeasurement_of_failed, fun hworks hsound hadmission => ?_,
      fun hworks hsound hadmission hclock hcable hwidth hlanes => ?_⟩,
    fun down s hstage => runs_laneTraining hstage down⟩
  · refine ⟨_, ?_, linkOf_eyeKept⟩
    rw [exec_eyeMeasurement_of_sound hworks hsound (fun h => Bool.noConfusion (hadmission.symm.trans h)), hadmission]
    exact if_neg (fun h => Bool.noConfusion h.1)
  · have kept : linkOf (eyeKept s link lane height width ser) link = _ := linkOf_eyeKept
    have passes := hlanes lane
    rw [tget_tmod_same] at passes
    have hexec : exec (.eyeMeasurement link lane height width ser admission) s =
        .next (modLink (eyeKept s link lane height width ser) link admittedLink) := by
      rw [exec_eyeMeasurement_of_sound hworks hsound (fun _ => passes), hadmission]
      exact bringBack_of_all hclock (by rwa [kept]) (by rwa [kept]) (by rwa [kept])
    refine ⟨_, hexec, ?_⟩
    dsimp only
    rw [linkOf_modLink]
    exact ⟨rfl, rfl, rfl⟩

end Sys2Proof.Machine
end

section
/-!
PROOFS. The links' flits: receipt and acknowledgement (R344, R347, R348, R355, R358), transmission (R352, R353), and retry (R358, R360).
-/
namespace Sys2Proof.Machine
open Sys2Proof

/-! ### What an update leaves of the links and the groups -/

section
variable {W : Parts} {s t : State}

theorem ChangesOnly.linkOf (h : ChangesOnly W s t) (hwire : W.wire = false) (l : Nat) : linkOf t l = linkOf s l :=
  congrArg (tget LinkState.fresh · l) (congrArg Prod.fst (h.wire hwire))

theorem ChangesOnly.groupOf (h : ChangesOnly W s t) (hwire : W.wire = false) (d : Nat) : groupOf t d = groupOf s d :=
  congrArg (tget GroupState.fresh · d) (congrArg (·.2.1) (h.wire hwire))

end

theorem rxListAt_congr {s t : State} (h : t.plan = s.plan) (d pos : Nat) : rxListAt t d pos = rxListAt s d pos := by
  simp only [rxListAt, neighbour, slotListAt, h]

theorem slotPlace_congr {s t : State} (hplan : t.plan = s.plan) (hmaster : t.fr.master = s.fr.master)
    (hrunning : t.fr.running = s.fr.running) (kind : Nat) (source : Bool) (tp : Template) (iter : Nat) (w : DWord) :
    slotPlace t kind source tp iter w = slotPlace s kind source tp iter w := by
  simp only [slotPlace, bankAddr, hplan, hmaster, hrunning]

/-! ### A flit that arrives clean -/

/-- A received codeword in a link's counters (R381). -/
def countReceived (c : LinkCounters) : LinkCounters := { c with received := c.received + 1 }

/-- A link whose lanes' runs of uncorrectable codewords end (R362). -/
def endRuns (k : LinkState) : LinkState :=
  { k with lanes := (List.range 4).foldl (fun t i => tmod LaneState.zero t i (fun a => { a with badRun := 0 })) k.lanes }

/-- A clean codeword is counted and ends its lanes' runs; but for that link and the port's count it changes nothing. -/
theorem countCodeword_clean (s : State) (l : Nat) :
    countCodeword s l .clean = modLink (portBytes (countLink s l countReceived) (3 + 2 * l) 640) l endRuns := rfl

theorem linkOf_countCodeword_clean (s : State) (l : Nat) :
    linkOf (countCodeword s l .clean) l = endRuns { linkOf s l with counters := countReceived (linkOf s l).counters } := by
  rw [countCodeword_clean, linkOf_modLink]
  exact congrArg endRuns (linkOf_modLink ..)

/-- Counting a clean codeword leaves the plan, the frame timebase and the Lakes. -/
theorem countCodeword_clean_keeps (s : State) (l : Nat) : (countCodeword s l .clean).plan = s.plan ∧
    (countCodeword s l .clean).fr = s.fr ∧ (countCodeword s l .clean).lakes = s.lakes := by
  simp only [countCodeword_clean, countLink, modLink_plan, portBytes_plan, modLink_fr, portBytes_fr, modLink_lakes, portBytes_lakes, and_self]

theorem groupOf_countCodeword_clean (s : State) (l d : Nat) : groupOf (countCodeword s l .clean) d = groupOf s d := by
  rw [countCodeword_clean, groupOf_modLink]
  exact groupOf_modLink ..

/-- The next flit of a stream is one of its entry's. -/
theorem entry_of_nextFlit {list : List (BitVec 256)} {entry flit entry' flit' t : Nat} {late : Bool} {e : BitVec 256}
    (h : nextFlit list entry flit t late = some (entry', flit', e)) : list[entry']? = some e := by
  unfold nextFlit at h
  split at h
  case h_1 => cases h
  case h_2 hentry =>
    split at h
    · split at h
      · cases h; exact hentry
      · cases h
    · split at h
      case h_1 => cases h
      case h_2 hnext =>
        split at h
        · cases h; exact hnext
        · cases h

/-- A flit counts towards its entry's delivery (R355). -/
def countDelivered (e : BitVec 256) (entry : Nat) (g : GroupState) : GroupState :=
  { g with rx := modEntry g.rx entry (fun p =>
      { p with delivered := p.delivered + 1, done := p.done || decide (slFlits e = p.delivered + 1) }) }

theorem writeFlit_tile (s : State) (l t off : Nat) (bytes : List Byte) (poison : Nat) :
    ∃ mark, writeFlit s l (.tile t off) bytes poison false = writeTile s none t off bytes mark := ⟨_, rfl⟩

/-- A flit bound for tile memory is written there, with marks where it is poisoned, and counts towards its entry's delivery. -/
theorem deliverFlit_tile {s : State} {l d pos entry flit i t off : Nat} {list : List (BitVec 256)} {tp : Template} {e : BitVec 256}
    (hlist : rxListAt s d pos = some (list, tp, i)) (hentry : list[entry]? = some e)
    (hplace : (slotPlace s (slKind e) false tp i (slDest e)).plus (640 * flit) = .tile t off) (payload : List Byte) (poison : Nat) :
    ∃ mark, deliverFlit s l d pos entry flit payload poison false =
      modGroup (writeTile s none t off (payload.take (min 640 (slBytes e - 640 * flit))) mark) d (countDelivered e entry) := by
  obtain ⟨off', hdest⟩ : ∃ off', slotPlace s (slKind e) false tp i (slDest e) = .tile t off' := by
    cases h : slotPlace s (slKind e) false tp i (slDest e) with
    | tile t' off' => rw [h] at hplace; cases hplace; exact ⟨off', rfl⟩
    | hbm a => rw [h] at hplace; cases hplace
    | none => rw [h] at hplace; cases hplace
  rw [hdest] at hplace
  obtain ⟨mark, written⟩ := writeFlit_tile s l t off (payload.take (min 640 (slBytes e - 640 * flit))) poison
  simp only [deliverFlit, hlist, hentry, hdest, hplace, countGradient, ite_self, Bool.false_eq_true, if_false, written]
  exact ⟨mark, rfl⟩

/-! ### A data flit -/

/-- The record that a receiver keeps of a flit in its first sending. -/
def firstSending (s : State) (l t pos entry flit : Nat) : FlitRec :=
  { member := linkMember l, time := t, frame := now s, firstMember := linkMember l, firstTime := t, plan := pos, entry := entry,
    flit := flit, tries := 0 }

/-- The state with a flit acknowledged, its stream past it, and the flit not yet delivered. -/
def accepted (s : State) (l t : Nat) (r : FlitRec) : State :=
  let v := modGroup (advanceRx s (linkDir l) r.entry r.flit) (linkDir l) (fun g => { g with missing := g.missing ++ [r] })
  modGroup (ackArrival v l t true) (linkDir l) (fun g => { g with missing := g.missing.erase r })

/-- The next flit of the stream, with room for it in the Lake, is acknowledged and delivered. -/
theorem receiveData_of_next {s : State} {l t pos entry flit i : Nat} {list : List (BitVec 256)} {tp : Template} {e : BitVec 256}
    (hpos : slotPos s = some pos) (hlist : rxListAt s (linkDir l) pos = some (list, tp, i))
    (hnext : nextFlit list (groupOf s (linkDir l)).rxEntry (groupOf s (linkDir l)).rxFlit t true = some (entry, flit, e))
    (hcredit : creditFor s l = true) (payload : List Byte) (poison : Nat) : receiveData s l t payload poison true =
      deliverFlit (accepted s l t (firstSending s l t pos entry flit)) l (linkDir l) pos entry flit payload poison false := by
  simp only [receiveData, hpos, hlist, hnext, Option.bind_some, Option.map_some, Option.getD_some, if_true]
  exact if_pos hcredit

theorem accepted_keeps (s : State) (l t : Nat) (r : FlitRec) : (accepted s l t r).plan = s.plan ∧ (accepted s l t r).fr = s.fr := by
  simp only [accepted, ackArrival, advanceRx, modGroup_plan, modLink_plan, modGroup_fr, modLink_fr, and_self]

theorem groupOf_accepted (s : State) (l t : Nat) (r : FlitRec) : (groupOf (accepted s l t r) (linkDir l)).rxEntry = r.entry ∧
    (groupOf (accepted s l t r) (linkDir l)).rxFlit = r.flit + 1 := by
  simp only [accepted, ackArrival, advanceRx, groupOf_modGroup, groupOf_modLink, and_self]

theorem linkOf_accepted (s : State) (l t : Nat) (r : FlitRec) :
    linkOf (accepted s l t r) l = { linkOf s l with ackHigh := t, ackPrev := false, ackValid := true } := by
  simp only [accepted, ackArrival, advanceRx, linkOf_modGroup, linkOf_modLink, if_true]

theorem tileBytes_modGroup (s : State) (d : Nat) (f : GroupState → GroupState) (t off n : Nat) :
    tileBytes (modGroup s d f) t off n = tileBytes s t off n := rfl

/-- What is left of a flit that is delivered to tile memory: the stream past it, its acknowledgement, and its bytes. -/
theorem receiveData_delivers {s : State} {l t pos entry flit i tl off : Nat} {list : List (BitVec 256)} {tp : Template} {e : BitVec 256}
    {payload : List Byte} (hpos : slotPos s = some pos) (hlist : rxListAt s (linkDir l) pos = some (list, tp, i))
    (hnext : nextFlit list (groupOf s (linkDir l)).rxEntry (groupOf s (linkDir l)).rxFlit t true = some (entry, flit, e))
    (hcredit : creditFor s l = true) (hplace : (slotPlace s (slKind e) false tp i (slDest e)).plus (640 * flit) = .tile tl off)
    (hlength : min 640 (slBytes e - 640 * flit) ≤ payload.length) (poison : Nat) :
    (groupOf (receiveData s l t payload poison true) (linkDir l)).rxEntry = entry ∧
    (groupOf (receiveData s l t payload poison true) (linkDir l)).rxFlit = flit + 1 ∧
    linkOf (receiveData s l t payload poison true) l = { linkOf s l with ackHigh := t, ackPrev := false, ackValid := true } ∧
    tileBytes (receiveData s l t payload poison true) tl off (min 640 (slBytes e - 640 * flit)) =
      payload.take (min 640 (slBytes e - 640 * flit)) := by
  rw [receiveData_of_next hpos hlist hnext hcredit payload poison]
  obtain ⟨hentry, hflit⟩ := groupOf_accepted s l t (firstSending s l t pos entry flit)
  have hlink := linkOf_accepted s l t (firstSending s l t pos entry flit)
  obtain ⟨plan, fr⟩ := accepted_keeps s l t (firstSending s l t pos entry flit)
  generalize accepted s l t (firstSending s l t pos entry flit) = v at hentry hflit hlink plan fr ⊢
  rw [← rxListAt_congr plan] at hlist
  rw [← slotPlace_congr plan (congrArg FrameState.master fr) (congrArg FrameState.running fr)] at hplace
  obtain ⟨mark, delivered⟩ := deliverFlit_tile (l := l) hlist (entry_of_nextFlit hnext) hplace payload poison
  have bytes := tileBytes_writeTile v none tl off (payload.take (min 640 (slBytes e - 640 * flit))) mark
  have written := writeTile_changes v none tl off (payload.take (min 640 (slBytes e - 640 * flit))) mark
  rw [List.length_take, Nat.min_eq_left hlength] at bytes
  rw [delivered, groupOf_modGroup, linkOf_modGroup, tileBytes_modGroup, written.groupOf rfl, written.linkOf rfl]
  exact ⟨hentry, hflit, hlink, bytes⟩

theorem exec_flitReceive_data (link : LinkId) (time : Fin 15620) (poison : BitVec 10) (payload : List Byte) (outcome : FlitOutcome)
    (cyc : Nat) (s : State) : exec (.flitReceive link time false poison payload outcome cyc) s =
      .next (receiveData (countCodeword (atCycle s cyc) link outcome) link time payload poison.toNat (arrived outcome)) := rfl

/-- A flit that arrives clean, in its turn, with room, for tile memory (R348, R355, R358). -/
theorem runs_flitReceive_clean {link : LinkId} {time : Fin 15620} {payload : List Byte} {s : State} {pos entry flit i t off : Nat}
    {list : List (BitVec 256)} {tp : Template} {e : BitVec 256} (hpos : slotPos s = some pos)
    (hlist : rxListAt s (linkDir link) pos = some (list, tp, i))
    (hnext : nextFlit list (groupOf s (linkDir link)).rxEntry (groupOf s (linkDir link)).rxFlit time true = some (entry, flit, e))
    (hcredit : creditFor s link = true)
    (hplace : (slotPlace s (slKind e) false tp i (slDest e)).plus (640 * flit) = .tile t off)
    (hlength : min 640 (slBytes e - 640 * flit) ≤ payload.length) (poison : BitVec 10) (cyc : Nat) :
    Runs (.flitReceive link time false poison payload .clean cyc) s (fun u =>
      (groupOf u (linkDir link)).rxEntry = entry ∧ (groupOf u (linkDir link)).rxFlit = flit + 1 ∧
      (linkOf u link).ackHigh = time.val ∧ (linkOf u link).ackValid = true ∧
      (linkOf u link).counters.received = (linkOf s link).counters.received + 1 ∧
      tileBytes u t off (min 640 (slBytes e - 640 * flit)) = payload.take (min 640 (slBytes e - 640 * flit))) := by
  have group := groupOf_countCodeword_clean (atCycle s cyc) link (linkDir link)
  have counted := linkOf_countCodeword_clean (atCycle s cyc) link
  obtain ⟨plan, fr, lakes⟩ := countCodeword_clean_keeps (atCycle s cyc) link
  refine ⟨_, exec_flitReceive_data .., ?_⟩
  dsimp only [arrived]
  generalize countCodeword (atCycle s cyc) link .clean = v at group counted plan fr lakes ⊢
  have pos' : slotPos v = some pos := by rw [slotPos, fr]; exact hpos
  have credit : creditFor v link = true := by rw [creditFor, holdsCredits, lakeOf, lakes]; exact hcredit
  rw [atCycle_plan] at plan
  rw [← rxListAt_congr plan] at hlist
  rw [← slotPlace_congr plan (by rw [fr]; rfl) (by rw [fr]; rfl)] at hplace
  obtain ⟨hentry, hflit, hlink, hbytes⟩ := receiveData_delivers pos' hlist (group ▸ hnext) credit hplace hlength poison.toNat
  rw [hentry, hflit, hlink, hbytes, counted]
  exact ⟨rfl, rfl, rfl, rfl, rfl, rfl⟩

/-! ### A flit that arrives uncorrectable -/

/-- The flit time of an uncorrectable flit is listed as not acknowledged. -/
theorem mem_nacks_ackArrival (s : State) (l t : Nat) : (t, false) ∈ (linkOf (ackArrival s l t false) l).nacks := by
  rw [ackArrival, linkOf_modLink]
  exact List.mem_append_right _ (List.mem_singleton_self _)

theorem receiveData_of_uncorrectable (s : State) (l t : Nat) (payload : List Byte) (poison : Nat) :
    ∃ v, receiveData s l t payload poison false = ackArrival v l t false := by
  unfold receiveData
  extract_lets d g pos list
  split
  · exact ⟨s, rfl⟩
  · exact ⟨_, rfl⟩

theorem receiveRetry_of_uncorrectable (s : State) (l t : Nat) (payload : List Byte) (poison : Nat) :
    ∃ v, receiveRetry s l t payload poison false = ackArrival v l t false := by
  unfold receiveRetry
  extract_lets d c
  split
  · exact ⟨s, rfl⟩
  · extract_lets v
    split
    · exact ⟨v, rfl⟩
    · exact ⟨v, rfl⟩

theorem runs_flitReceive_uncorrectable (link : LinkId) (time : Fin 15620) (retry : Bool) (poison : BitVec 10) (payload : List Byte)
    (lanes : BitVec 4) (cyc : Nat) (s : State) : Runs (.flitReceive link time retry poison payload (.uncorrectable lanes) cyc) s
      (fun u => (time.val, false) ∈ (linkOf u link).nacks) := by
  cases retry with
  | false =>
    obtain ⟨v, hv⟩ := receiveData_of_uncorrectable (countCodeword (atCycle s cyc) link (.uncorrectable lanes)) link time payload poison.toNat
    exact ⟨_, congrArg Host.Outcome.next hv, mem_nacks_ackArrival ..⟩
  | true =>
    obtain ⟨v, hv⟩ := receiveRetry_of_uncorrectable (countCodeword (atCycle s cyc) link (.uncorrectable lanes)) link time payload poison.toNat
    exact ⟨_, congrArg Host.Outcome.next hv, mem_nacks_ackArrival ..⟩

/-! ### A control flit that arrives clean -/

theorem discover_of_none {w : ControlWords} (h : w.discovery = none) (s : State) (l : Nat) : discover s l w = s := by
  unfold discover
  rw [h]

/-- A view with no member down takes no link down. -/
theorem takeView_of_up {w : ControlWords} (h : ∀ v ∈ w.view, v ≠ 0) (s : State) (l : Nat) : takeView s l w = s := by
  unfold takeView
  refine List.foldlRecOn (motive := fun u => u = s) _ _ rfl (fun u hu x hx => ?_)
  have up : x.1 ≠ 0 := h x.1 (List.fst_mem_of_mem_zipIdx hx)
  exact (if_neg (fun hdown => up hdown.1)).trans hu

/-- Without a retry list only the carrier's expected retry flits change. -/
theorem takeRetries_of_nil {w : ControlWords} (h : w.retries = []) (s : State) (l : Nat) : takeRetries s l w =
    modGroup s (linkDir l) (fun g => { g with expected := g.expected.filter (fun x => x.1 != linkMember l) }) := by
  simp only [takeRetries, h, List.filter_nil, List.map_nil, List.append_nil, List.foldl_nil]

theorem modGroup_delivered (s : State) (d : Nat) (f : GroupState → GroupState) : (modGroup s d f).link.delivered = s.link.delivered := rfl

/-- Taking the place of a C0 position leaves what waits for acknowledgement and what is delivered. -/
theorem takeC0Position_keeps (s : State) (l t : Nat) :
    (groupOf (takeC0Position s l t) (linkDir l)).buffer = (groupOf s (linkDir l)).buffer ∧
    (takeC0Position s l t).link.delivered = s.link.delivered := by
  unfold takeC0Position
  extract_lets d g list
  split
  · exact ⟨rfl, rfl⟩
  · split
    · split
      · rw [groupOf_modGroup, advanceRx, groupOf_modGroup]
        exact ⟨rfl, rfl⟩
      · exact ⟨rfl, rfl⟩
    · exact ⟨rfl, rfl⟩

/-- A message is delivered where it is for this rank; it moves neither the plan nor a group. -/
theorem takeC0_keeps (s : State) (m : C0Message) :
    (takeC0 s m).link.delivered = s.link.delivered ++ (if s.plan.rank == some m.dest.val then [m] else []) ∧
    (takeC0 s m).plan = s.plan ∧ (takeC0 s m).link.groups = s.link.groups := by
  unfold takeC0
  by_cases hown : s.plan.rank = some m.dest.val
  · rw [if_pos hown, if_pos (beq_iff_eq.mpr hown)]
    exact ⟨rfl, rfl, rfl⟩
  · rw [if_neg hown, if_neg (fun h => hown (beq_iff_eq.mp h)), List.append_nil]
    split <;> exact ⟨rfl, rfl, rfl⟩

/-- Messages are delivered in order. -/
theorem foldl_takeC0 (ms : List C0Message) (s : State) :
    (ms.foldl takeC0 s).link.delivered = s.link.delivered ++ ms.filter (fun m => s.plan.rank == some m.dest.val) ∧
    (ms.foldl takeC0 s).link.groups = s.link.groups := by
  induction ms generalizing s with
  | nil => exact ⟨(List.append_nil _).symm, rfl⟩
  | cons m ms ih =>
    obtain ⟨hdelivered, hplan, hgroups⟩ := takeC0_keeps s m
    obtain ⟨delivered, groups⟩ := ih (takeC0 s m)
    refine ⟨?_, groups.trans hgroups⟩
    rw [List.foldl_cons, delivered, hdelivered, hplan, List.append_assoc, List.filter_cons]
    split <;> rfl

theorem buffer_failFlit (g : GroupState) (r : FlitRec) : (failFlit g r).buffer = g.buffer.erase r := by
  unfold failFlit
  extract_lets
  split <;> rfl

theorem buffer_foldl_failFlit (rs : List FlitRec) (g : GroupState) : (rs.foldl failFlit g).buffer = g.buffer.diff rs := by
  induction rs generalizing g with
  | nil => rfl
  | cons r rs ih => rw [List.foldl_cons, ih, List.diff_cons, buffer_failFlit]

theorem buffer_foldl_ackFlit (list : List (BitVec 256)) (rs : List FlitRec) (g : GroupState) :
    (rs.foldl (ackFlit list) g).buffer = g.buffer.diff rs := by
  induction rs generalizing g with
  | nil => rfl
  | cons r rs ih => rw [List.foldl_cons, ih, List.diff_cons, ackFlit]

/-- The counter frame that an acknowledgement's previous-frame bit names. -/
def frameNamed (s : State) (previous : Bool) : Nat := if previous then now s - 1 else now s

/-- A flit of this link that the far end's words acknowledge (R358). -/
def Acknowledged (s : State) (l : Nat) (w : ControlWords) (r : FlitRec) : Prop :=
  r.member = linkMember l ∧ w.nacks.any (fun n => n.1 == r.time && frameNamed s n.2 == r.frame) = false ∧ w.ackValid = true ∧
    (r.frame < frameNamed s w.ackPrev ∨ (r.frame = frameNamed s w.ackPrev ∧ r.time ≤ w.ackHigh))

/-- An acknowledged flit leaves the retry buffer. -/
theorem not_mem_buffer_takeAcks {s : State} {l : Nat} {w : ControlWords} {r : FlitRec} (hnodup : (groupOf s (linkDir l)).buffer.Nodup)
    (hack : Acknowledged s l w r) : r ∉ (groupOf (takeAcks s l w) (linkDir l)).buffer := by
  obtain ⟨hmember, hnack, hvalid, hhigh⟩ := hack
  unfold takeAcks
  extract_lets d m list frameOf nacked g failed acked
  rw [groupOf_modGroup, buffer_foldl_ackFlit, buffer_foldl_failFlit]
  intro hmem
  obtain ⟨hleft, hnot⟩ := (hnodup.diff.mem_sdiff_iff).mp hmem
  have kept : r ∈ g.buffer := (hnodup.mem_sdiff_iff.mp hleft).1
  refine hnot (List.mem_filter.mpr ⟨kept, ?_⟩)
  have unlisted : nacked r = false := hnack
  have upTo : (decide (r.frame < frameOf w.ackPrev) || (r.frame == frameOf w.ackPrev && decide (r.time ≤ w.ackHigh))) = true := by
    simp only [Bool.or_eq_true, Bool.and_eq_true, decide_eq_true_eq, beq_iff_eq]
    exact hhigh
  rw [unlisted, hvalid, upTo, beq_iff_eq.mpr hmember]
  rfl

/-- CONTROL_FLIT without retries, events, discovery and members down: the acknowledgements are taken, and then the messages. -/
theorem exec_controlFlit_plain {w : ControlWords} (hretries : w.retries = []) (hevents : w.events = []) (hdiscovery : w.discovery = none)
    (hview : ∀ v ∈ w.view, v ≠ 0) (link : LinkId) (time : Fin 15620) (cyc : Nat) (s : State) :
    exec (.controlFlit link time w .clean cyc) s = .next (w.messages.foldl takeC0 (modGroup
      (takeAcks (takeC0Position (countCodeword (atCycle s cyc) link .clean) link time) link w) (linkDir link)
      (fun g => { g with expected := g.expected.filter (fun x => x.1 != linkMember link) }))) := by
  show execControlFlit link time w .clean cyc s = _
  simp only [execControlFlit, arrived, if_true, hevents, List.foldl_nil, discover_of_none hdiscovery, takeView_of_up hview,
    takeRetries_of_nil hretries]

/-- The state in which a clean control flit's words are taken. -/
theorem takeC0Position_countCodeword_clean (s : State) (l t : Nat) :
    let v := takeC0Position (countCodeword s l .clean) l t
    v.plan = s.plan ∧ now v = now s ∧ v.link.delivered = s.link.delivered ∧
      (groupOf v (linkDir l)).buffer = (groupOf s (linkDir l)).buffer := by
  obtain ⟨plan, fr, -⟩ := countCodeword_clean_keeps s l
  obtain ⟨buffer, delivered⟩ := takeC0Position_keeps (countCodeword s l .clean) l t
  have placed : ChangesOnly { wire := true } (countCodeword s l .clean) (takeC0Position (countCodeword s l .clean) l t) :=
    takeC0Position_touch rfl (.refl _)
  rw [groupOf_countCodeword_clean] at buffer
  exact ⟨(placed.plan rfl).trans plan, (placed.now rfl).trans (by rw [now, fr, ← now]), delivered, buffer⟩

/-- A control flit's messages for this rank are delivered in order, and what it acknowledges leaves the retry buffer. -/
theorem runs_controlFlit {w : ControlWords} {link : LinkId} {s : State} (hretries : w.retries = []) (hevents : w.events = [])
    (hdiscovery : w.discovery = none) (hview : ∀ v ∈ w.view, v ≠ 0) (hnodup : (groupOf s (linkDir link)).buffer.Nodup)
    (time : Fin 15620) (cyc : Nat) : Runs (.controlFlit link time w .clean cyc) s (fun u =>
      u.link.delivered = s.link.delivered ++ w.messages.filter (fun m => s.plan.rank == some m.dest.val) ∧
      ∀ r, Acknowledged s link w r → r ∉ (groupOf u (linkDir link)).buffer) := by
  refine ⟨_, exec_controlFlit_plain hretries hevents hdiscovery hview link time cyc s, ?_⟩
  obtain ⟨plan, hnow, delivered, buffer⟩ := takeC0Position_countCodeword_clean (atCycle s cyc) link time
  generalize takeC0Position (countCodeword (atCycle s cyc) link .clean) link time = v at plan hnow delivered buffer ⊢
  constructor
  · rw [(foldl_takeC0 ..).1, modGroup_delivered, modGroup_plan, takeAcks, modGroup_delivered, modGroup_plan, delivered, plan]
    rfl
  · intro r hack
    have acknowledged : Acknowledged v link w r := by
      simp only [Acknowledged, frameNamed, hnow]
      exact hack
    rw [groupOf, (foldl_takeC0 ..).2, ← groupOf, groupOf_modGroup]
    exact not_mem_buffer_takeAcks (buffer ▸ hnodup) acknowledged

end Sys2Proof.Machine
end

section
/-!
PROOFS. What a link group sends: its control positions (R347), its data positions (R353, R354), and its retries (R358, R360).
-/
namespace Sys2Proof.Machine
open Sys2Proof

/-! ### What stands on the wire -/

/-- Every flit on the wire of a group in s is there in t. -/
structure KeepsWire (d : Nat) (s t : State) : Prop where
  mem : ∀ f ∈ (groupOf s d).wire, f ∈ (groupOf t d).wire

theorem KeepsWire.refl (d : Nat) (s : State) : KeepsWire d s s := ⟨fun _ h => h⟩

theorem KeepsWire.trans {d : Nat} {s t u : State} (h : KeepsWire d s t) (k : KeepsWire d t u) : KeepsWire d s u :=
  ⟨fun f hf => k.mem f (h.mem f hf)⟩

theorem KeepsWire.of_groups {d : Nat} {s t : State} (h : t.link.groups = s.link.groups) : KeepsWire d s t :=
  ⟨fun _ hf => (congrArg (fun x => (tget GroupState.fresh x d).wire) h).symm ▸ hf⟩

/-- What is appended to the wire leaves what stands there. -/
theorem KeepsWire.of_append {d : Nat} {s t : State} {fs : List TxFlit} (h : (groupOf t d).wire = (groupOf s d).wire ++ fs) :
    KeepsWire d s t := ⟨fun _ hf => h ▸ List.mem_append_left _ hf⟩

theorem keepsWire_modGroup (s : State) (d : Nat) {f : GroupState → GroupState} (hf : ∀ g, (f g).wire = g.wire) :
    KeepsWire d s (modGroup s d f) := .of_append (fs := []) (by rw [groupOf_modGroup, hf, List.append_nil])

/-- Every link has the same width in both states. -/
def SameWidths (s t : State) : Prop := ∀ l, (linkOf t l).width = (linkOf s l).width

theorem SameWidths.trans {s t u : State} (h : SameWidths s t) (k : SameWidths t u) : SameWidths s u := fun l => (k l).trans (h l)

theorem SameWidths.of_links {s t : State} (h : t.link.links = s.link.links) : SameWidths s t :=
  fun l => congrArg (fun x => (tget LinkState.fresh x l).width) h

theorem SameWidths.hasPosition {s t : State} (h : SameWidths s t) (l time : Nat) : hasPosition t l time = hasPosition s l time := by
  simp only [Machine.hasPosition, h l]

theorem sameWidths_modLink (s : State) (l : Nat) {f : LinkState → LinkState} (hf : ∀ k, (f k).width = k.width) :
    SameWidths s (modLink s l f) := by
  intro k
  by_cases h : k = l
  · rw [h, linkOf_modLink, hf]
  · rw [linkOf_modLink_other _ h]

theorem groupOf_portBytes (s : State) (p n d : Nat) : groupOf (portBytes s p n) d = groupOf s d := rfl

/-- A flit put on the wire stands behind those that were there. -/
theorem wire_putWire (s : State) (d : Nat) (f : TxFlit) : (groupOf (putWire s d f) d).wire = (groupOf s d).wire ++ [f] := by
  rw [putWire, groupOf_portBytes, groupOf_modGroup]

theorem takeMessage_links (s : State) (d : Nat) :
    (takeMessage s d).1.link.links = s.link.links ∧ (takeMessage s d).1.link.groups = s.link.groups := by
  unfold takeMessage
  split <;> exact ⟨rfl, rfl⟩

/-! ### A control position -/

theorem wire_foldl_ackFlit (list : List (BitVec 256)) (rs : List FlitRec) (g : GroupState) : (rs.foldl (ackFlit list) g).wire = g.wire :=
  List.foldlRecOn (motive := fun x : GroupState => x.wire = g.wire) rs _ rfl (fun _ h _ _ => h)

/-- A link's control flit stands on its group's wire behind what was there, and no link's width changes. -/
theorem controlFlitOn_sends (s : State) (d m t : Nat) :
    (∃ f, (groupOf (controlFlitOn s d m t) d).wire = (groupOf s d).wire ++ [f] ∧ f.member = m ∧ f.time = t ∧ f.kind = 2) ∧
    SameWidths s (controlFlitOn s d m t) := by
  unfold controlFlitOn
  extract_lets l g dead list events listed acked link forwarded counted taken sent
  obtain ⟨hlinks, hgroups⟩ := takeMessage_links counted d
  have wire : (groupOf sent d).wire = (groupOf s d).wire :=
    calc (groupOf sent d).wire = (groupOf taken.1 d).wire := by rw [groupOf_modLink]
      _ = (groupOf acked d).wire := by rw [groupOf, hgroups]; rfl
      _ = (groupOf listed d).wire := by rw [groupOf_modGroup, wire_foldl_ackFlit]
      _ = (groupOf s d).wire := by rw [groupOf_modGroup]
  have before : SameWidths s counted := sameWidths_modLink forwarded l (fun _ => rfl)
  have after : SameWidths taken.1 sent := sameWidths_modLink taken.1 l (fun _ => rfl)
  refine ⟨⟨_, by rw [wire_putWire, wire], rfl, rfl, rfl⟩, ?_⟩
  exact (before.trans (.of_links hlinks)).trans (after.trans (.of_links rfl))

/-- A control position of one link: it sends its control flit, if it is not down. -/
def controlStep (d t : Nat) (s : State) (m : Nat) : State := if hasPosition s (linkAt d m) t then controlFlitOn s d m t else s

theorem controlStep_keeps (d t : Nat) (s : State) (m : Nat) : KeepsWire d s (controlStep d t s m) ∧ SameWidths s (controlStep d t s m) := by
  unfold controlStep
  split
  · obtain ⟨⟨f, hwire, -⟩, hwidths⟩ := controlFlitOn_sends s d m t
    exact ⟨.of_append hwire, hwidths⟩
  · exact ⟨.refl d s, fun _ => rfl⟩

/-- The sync events that no link has still to carry are dropped. -/
def dropForwarded (s : State) : State := { s with link.forward := s.link.forward.filter (fun f => !f.links.isEmpty) }

theorem groupOf_dropForwarded (s : State) (d : Nat) : groupOf (dropForwarded s) d = groupOf s d := rfl

theorem controlPosition_eq (s : State) (d t : Nat) : controlPosition s d t = dropForwarded ((List.range 8).foldl (controlStep d t) s) := by
  unfold controlPosition controlStep dropForwarded
  rfl

/-- Whether a control flit of a member stands on a group's wire. -/
def ControlSent (d m t : Nat) (s : State) : Prop := ∃ f ∈ (groupOf s d).wire, f.member = m ∧ f.time = t ∧ f.kind = 2

theorem ControlSent.keep {d m t : Nat} {s u : State} (h : ControlSent d m t s) (hkeeps : KeepsWire d s u) : ControlSent d m t u := by
  obtain ⟨f, hmem, hf⟩ := h
  exact ⟨f, hkeeps.mem f hmem, hf⟩

theorem controlSent_controlStep {d m t : Nat} {s : State} (hposition : hasPosition s (linkAt d m) t = true) :
    ControlSent d m t (controlStep d t s m) := by
  rw [controlStep, if_pos hposition]
  obtain ⟨⟨f, hwire, hf⟩, -⟩ := controlFlitOn_sends s d m t
  exact ⟨f, hwire ▸ List.mem_append_right _ (List.mem_singleton_self f), hf⟩

/-- Every link with a position sends a control flit (R347). -/
theorem runs_controlPosition {dir : Fin 6} {time : Fin 15620} (htime : time.val % 32 = 0) (s : State) :
    Runs (.slotEntryTransmit dir time) s (fun u => ∀ m : Fin 8, hasPosition s (linkAt dir m) time = true → ControlSent dir m time u) := by
  have sent : ∀ m ∈ List.range 8, hasPosition s (linkAt dir m) time = true →
      ControlSent dir m time ((List.range 8).foldl (controlStep dir time) s) :=
    foldl_establishes (g := controlStep dir time) (I := SameWidths s) (R := (· ≠ ·))
      (P := fun m u => hasPosition s (linkAt dir m) time = true → ControlSent dir m time u)
      (fun v k h => h.trans (controlStep_keeps dir time v k).2)
      (fun v k h hposition => controlSent_controlStep (by rwa [h.hasPosition]))
      (fun v k j _ _ h hposition => (h hposition).keep (controlStep_keeps dir time v j).1)
      List.nodup_range (fun _ => rfl)
  refine ⟨_, if_pos htime, fun m hposition => ?_⟩
  rw [ControlSent, controlPosition_eq, groupOf_dropForwarded]
  exact sent m (List.mem_range.mpr m.isLt) hposition

/-! ### A data position -/

theorem keepsWire_putWire (s : State) (d : Nat) (f : TxFlit) : KeepsWire d s (putWire s d f) := .of_append (wire_putWire ..)

theorem keepsWire_takeMessage (s : State) (d : Nat) : KeepsWire d s (takeMessage s d).1 := .of_groups (takeMessage_links s d).2

theorem keepsWire_sendRetry (s : State) (d t : Nat) (r : FlitRec) : KeepsWire d s (sendRetry s d t r) := by
  unfold sendRetry
  extract_lets data r' listed counted raised
  have events : ChangesOnly { traffic := true, ev := true, outbox := true } counted raised := raiseOnce_touch rfl rfl rfl (.refl _)
  have moved : KeepsWire d s listed := keepsWire_modGroup s d (fun _ => rfl)
  have told : KeepsWire d listed raised := .of_groups (congrArg (·.2.1) (events.wire rfl))
  exact (moved.trans told).trans (keepsWire_putWire ..)

theorem keepsWire_sendNext (s : State) (d m t : Nat) : KeepsWire d s (sendNext s d m t) := by
  unfold sendNext
  extract_lets g pos
  split
  · exact .refl d s
  · split
    · exact .refl d s
    · extract_lets moved taken counted data r kept
      have first : KeepsWire d s moved := keepsWire_modGroup s d (fun _ => rfl)
      split
      · have second : KeepsWire d taken.1 counted := keepsWire_modGroup taken.1 d (fun _ => rfl)
        exact ((first.trans (keepsWire_takeMessage ..)).trans second).trans (keepsWire_putWire ..)
      · have second : KeepsWire d moved kept := keepsWire_modGroup moved d (fun _ => rfl)
        exact (first.trans second).trans (keepsWire_putWire ..)

theorem keepsWire_dataPosition (s : State) (d m t : Nat) : KeepsWire d s (dataPosition s d m t) := by
  unfold dataPosition
  split
  · exact keepsWire_sendRetry ..
  · split
    · exact keepsWire_sendNext ..
    · exact .refl d s

/-- A data position of one link. -/
def dataStep (d t : Nat) (s : State) (m : Nat) : State := if hasPosition s (linkAt d m) t then dataPosition s d m t else s

theorem keepsWire_dataStep (d t : Nat) (s : State) (m : Nat) : KeepsWire d s (dataStep d t s m) := by
  unfold dataStep
  split
  · exact keepsWire_dataPosition ..
  · exact .refl d s

theorem keepsWire_foldl_dataStep (d t : Nat) (ms : List Nat) (s : State) : KeepsWire d s (ms.foldl (dataStep d t) s) :=
  List.foldlRecOn (motive := KeepsWire d s) ms _ (.refl d s) (fun v h m _ => h.trans (keepsWire_dataStep d t v m))

/-- Where no link below a member has a position, the group's positions begin with that member's. -/
theorem foldl_dataStep_lowest {s : State} {d t : Nat} {m : Fin 8} (hposition : hasPosition s (linkAt d m) t = true)
    (hlowest : ∀ k : Fin 8, k < m → hasPosition s (linkAt d k) t = false) :
    KeepsWire d (dataPosition s d m t) ((List.range 8).foldl (dataStep d t) s) := by
  obtain ⟨below, above, hsplit⟩ := List.append_of_mem (List.mem_range.mpr m.isLt)
  have rising := List.pairwise_lt_range (n := 8)
  rw [hsplit, List.pairwise_append] at rising
  have idle : below.foldl (dataStep d t) s = s := by
    refine List.foldlRecOn (motive := (· = s)) below _ rfl (fun v hv k hk => ?_)
    have lower : k < m.val := rising.2.2 k hk m List.mem_cons_self
    rw [hv, dataStep, if_neg (Bool.eq_false_iff.mp (hlowest ⟨k, lower.trans m.isLt⟩ lower))]
  rw [hsplit, List.foldl_append, idle, List.foldl_cons, dataStep, if_pos hposition]
  exact keepsWire_foldl_dataStep d t above _

theorem slotListAt_congr {s t : State} (h : t.plan = s.plan) (rank pos d : Nat) : slotListAt t rank pos d = slotListAt s rank pos d := by
  simp only [slotListAt, h]

theorem flitPayload_modGroup (s : State) (d : Nat) (f : GroupState → GroupState) (e : BitVec 256) (tp : Template) (i k : Nat) :
    flitPayload (modGroup s d f) e tp i k = flitPayload s e tp i k := rfl

/-- A link without a retry due sends the next flit of its stream. -/
theorem dataPosition_sends {s : State} {d m t entry flit i own pos : Nat} {e : BitVec 256} {list : List (BitVec 256)} {tp : Template}
    (hlisted : (groupOf s d).listed.find? (fun r => r.member == m) = none) (hruns : slotsRun s = true)
    (hnext : nextFlit (txList s d) (groupOf s d).txEntry (groupOf s d).txFlit t s.fr.late = some (entry, flit, e)) (hkind : slKind e ≠ 3)
    (hroom : (groupOf s d).buffer.length < 8192) (hrank : s.plan.rank = some own) (hpos : slotPos s = some pos)
    (hlist : slotListAt s own pos d = some (list, tp, i)) :
    ∃ v, dataPosition s d m t = putWire v d ⟨m, t, 1, entry, flit, (flitPayload s e tp i flit).1, (flitPayload s e tp i flit).2⟩ := by
  have room : ¬ 8192 ≤ (groupOf s d).buffer.length := Nat.not_le.mpr hroom
  simp only [dataPosition, hlisted, hruns, Bool.true_or, if_true, sendNext, hnext, if_neg room, if_neg hkind]
  rw [modGroup_plan, hrank, hpos, Option.bind_some, Option.getD_some, slotListAt_congr (modGroup_plan ..), hlist]
  simp only [flitPayload_modGroup]
  exact ⟨_, rfl⟩

/-- The next flit of the stream is sent on the lowest link with a position (R353). -/
theorem runs_dataPosition {dir : Fin 6} {time : Fin 15620} {s : State} {m : Fin 8} {entry flit i own pos : Nat} {e : BitVec 256}
    {list : List (BitVec 256)} {tp : Template} (htime : time.val % 32 ≠ 0) (hposition : hasPosition s (linkAt dir m) time = true)
    (hlowest : ∀ k : Fin 8, k < m → hasPosition s (linkAt dir k) time = false)
    (hlisted : (groupOf s dir).listed.find? (fun r => r.member == m.val) = none) (hruns : slotsRun s = true)
    (hnext : nextFlit (txList s dir) (groupOf s dir).txEntry (groupOf s dir).txFlit time s.fr.late = some (entry, flit, e))
    (hkind : slKind e ≠ 3) (hroom : (groupOf s dir).buffer.length < 8192) (hrank : s.plan.rank = some own) (hpos : slotPos s = some pos)
    (hlist : slotListAt s own pos dir = some (list, tp, i)) :
    Runs (.slotEntryTransmit dir time) s (fun u => ∃ f ∈ (groupOf u dir).wire, f.member = m.val ∧ f.time = time.val ∧ f.kind = 1 ∧
      f.entry = entry ∧ f.flit = flit ∧ f.payload = (flitPayload s e tp i flit).1 ∧ f.poison = (flitPayload s e tp i flit).2) := by
  obtain ⟨v, hsent⟩ := dataPosition_sends (m := m.val) hlisted hruns hnext hkind hroom hrank hpos hlist
  have stays := foldl_dataStep_lowest hposition hlowest
  rw [hsent] at stays
  generalize hfolded : (List.range 8).foldl (dataStep dir time) s = u at stays
  have hexec : exec (.slotEntryTransmit dir time) s = .next u := hfolded ▸ if_neg htime
  have sent := stays.mem _ (wire_putWire v .. ▸ List.mem_append_right _ (List.mem_singleton_self _))
  exact ⟨u, hexec, _, sent, rfl, rfl, rfl, rfl, rfl, rfl, rfl⟩

/-! ### Retry -/

/-- A flit that failed leaves the retry buffer, and waits for retry or is abandoned (R358, R360). -/
theorem runs_retryTimeout {dir : Fin 6} {member : Fin 8} {time : Fin 15620} {previous : Bool} {s : State} {r : FlitRec}
    (hfound : (groupOf s dir).buffer.find? (fun r => r.member == member.val && r.time == time.val &&
      r.frame == (if previous then now s - 1 else now s)) = some r) :
    Runs (.retryTimeout dir member time previous) s (fun u => (groupOf u dir).buffer = (groupOf s dir).buffer.erase r ∧
      (r.tries < 3 → (groupOf u dir).queue = (groupOf s dir).queue ++ [r]) ∧
      (3 ≤ r.tries → (groupOf u dir).abandoned = (groupOf s dir).abandoned ++ [r])) := by
  have hexec : exec (.retryTimeout dir member time previous) s = .next (modGroup s dir (fun g => failFlit g r)) := by
    show execRetryTimeout dir member time previous s = _
    simp only [execRetryTimeout, hfound]
  refine ⟨_, hexec, ?_⟩
  dsimp only
  rw [groupOf_modGroup]
  refine ⟨buffer_failFlit .., fun hagain => ?_, fun hlast => ?_⟩
  · rw [failFlit, if_neg (Nat.not_le.mpr hagain)]
  · rw [failFlit, if_pos hlast]

/-- Settles O39: one lemma for each kind of flit. -/
theorem linksCarryFlits : Obligations.LinksCarryFlits := by
  refine ⟨fun link time poison payload cyc s pos entry flit i t off list tp e hpos hlist hnext hcredit hplace hlength =>
      runs_flitReceive_clean hpos hlist hnext hcredit hplace hlength poison cyc,
    runs_flitReceive_uncorrectable, fun link time w cyc s hretries hevents hdiscovery hview hnodup => ?_,
    fun dir time s htime => runs_controlPosition htime s,
    fun dir time s m entry flit i own pos e list tp => runs_dataPosition,
    fun dir member time previous s r => runs_retryTimeout⟩
  obtain ⟨u, hexec, hdelivered, hgone⟩ := runs_controlFlit hretries hevents hdiscovery hview hnodup time cyc
  exact ⟨u, hexec, hdelivered, fun r _ hmember hnack hvalid hhigh => hgone r ⟨hmember, hnack, hvalid, hhigh⟩⟩

end Sys2Proof.Machine
end

section
/-!
PROOFS. The Lakes' queues: an item joins the tail of its Lake's queue in free cells (R386, R392), a consumer takes its class's first item
(R395, R397), and shared credits are lent (R394); a producer without credits waits (R406).
-/
namespace Sys2Proof.Machine
open Sys2Proof

/-! ### A Lake after a change -/

theorem lakeOf_modLake (s : State) (l : Nat) (f : LakeState → LakeState) : lakeOf (modLake s l f) l = f (lakeOf s l) :=
  tget_tmod_same _ _ _ _

/-- One who waits for credits is counted, and nothing else of the Lake changes (R406). -/
theorem lakeOf_waitCredit (s : State) (l cls : Nat) :
    lakeOf (waitCredit s l cls) l =
      { lakeOf s l with creditWait := tmod 0 (lakeOf s l).creditWait cls (fun n => satTo (2 ^ 32 - 1) (n + 1)) } :=
  lakeOf_modLake ..

/-! ### Free cells -/

theorem le_of_mem_freeCells {q : LakeState} {c : Nat} : ∀ {fuel n i : Nat}, c ∈ freeCells q fuel n i → i ≤ c := by
  intro fuel
  induction fuel with
  | zero => intro n i h; exact absurd h List.not_mem_nil
  | succ fuel ih =>
    intro n i h
    cases n with
    | zero => exact absurd h List.not_mem_nil
    | succ n =>
      rw [freeCells] at h
      split at h
      · exact Nat.le_of_succ_le (ih h)
      · rcases List.mem_cons.mp h with rfl | h
        · exact Nat.le_refl _
        · exact Nat.le_of_succ_le (ih h)

/-- The search goes upwards: no cell is named twice. -/
theorem nodup_freeCells (q : LakeState) : ∀ fuel n i : Nat, (freeCells q fuel n i).Nodup := by
  intro fuel
  induction fuel with
  | zero => intro n i; exact List.nodup_nil
  | succ fuel ih =>
    intro n i
    cases n with
    | zero => exact List.nodup_nil
    | succ n =>
      rw [freeCells]
      split
      · exact ih _ _
      · exact List.nodup_cons.mpr ⟨fun h => Nat.not_succ_le_self i (le_of_mem_freeCells h), ih _ _⟩

/-! ### Writing an item -/

theorem items_spendCredits (io : Bool) (q : LakeState) (cls port n : Nat) : (spendCredits io q cls port n).1.items = q.items := by
  simp only [spendCredits]
  split <;> rfl

theorem items_linkTail (q : LakeState) (cls first : Nat) : (linkTail q cls first).items = q.items := by
  rw [linkTail]
  split
  · rfl
  · split <;> rfl

/-- The eight words of an item's cell number i, with zeros behind the item's last word (R386). -/
def cellWords (words : List DWord) (i : Nat) : List DWord := (List.range 8).map (fun k => words.getD (8 * i + k) 0)

/-- A Lake with an item's words written into its cells, each under its tag. -/
def writeCells (q : LakeState) (words : List DWord) (tag : Nat × Nat → DWord) (xs : List (Nat × Nat)) : LakeState :=
  xs.foldl (fun q x => { q with cells := tput q.cells x.1 (mkCell (tag x) (cellWords words x.2)) }) q

theorem items_writeCells (q : LakeState) (words : List DWord) (tag : Nat × Nat → DWord) (xs : List (Nat × Nat)) :
    (writeCells q words tag xs).items = q.items :=
  List.foldlRecOn (motive := fun t : LakeState => t.items = q.items) _ _ rfl (fun _ h _ _ => h)

/-- Each of an item's cells holds its words, as no later word of the item goes into the same cell. -/
theorem payload_writeCells {cells : List Nat} (hcells : cells.Nodup) (q : LakeState) (words : List DWord) (tag : Nat × Nat → DWord) :
    ∀ x ∈ cells.zipIdx, (tfind (writeCells q words tag cells.zipIdx).cells x.1).map Cell.payload = some (cellWords words x.2) := by
  have hapart : cells.zipIdx.Pairwise (fun x y => x.1 ≠ y.1) := by
    rw [← List.zipIdx_map_fst 0 cells] at hcells
    exact List.pairwise_map.mp hcells
  refine foldl_establishes (I := fun _ => True)
    (P := fun (x : Nat × Nat) (t : LakeState) => (tfind t.cells x.1).map Cell.payload = some (cellWords words x.2))
    (fun _ _ _ => trivial) (fun t x _ => ?_) (fun t x y hne _ hx => ?_) hapart trivial
  · exact congrArg (Option.map Cell.payload) (tfind_tput_same ..)
  · exact (congrArg (Option.map Cell.payload) (tfind_tput_other _ _ hne)).trans hx

/-- What an item that is put into a Lake leaves there: its cells written, and the item behind the others. -/
theorem lakeOf_putItem (s : State) (l cls kind port : Nat) (words : List DWord) (poison : List Nat) (rest : Bool) :
    ∃ (q : LakeState) (tag : Nat × Nat → DWord) (it : LakeItem), q.items = (lakeOf s l).items ∧
      it.cls = cls ∧ it.kind = kind ∧ it.port = port ∧
      it.cells = freeCells (lakeOf s l) (lakeCells (isIoLake l)) (itemCells words) 0 ∧
      lakeOf (putItem s l cls kind port words poison rest) l =
        { writeCells q words tag it.cells.zipIdx with items := (writeCells q words tag it.cells.zipIdx).items ++ [it] } :=
  ⟨linkTail (spendCredits (isIoLake l) (lakeOf s l) cls port (itemCells words)).1 cls _, _, ⟨cls, kind, _, port, _⟩,
    (items_linkTail ..).trans (items_spendCredits ..), rfl, rfl, rfl, rfl, lakeOf_modLake ..⟩

/-- A producer that holds credits for an item's cells puts it at the tail, its words in the lowest free cells (R386, R392). -/
theorem runs_itemEnqueue_held {lake : LakeId} {cls : Fin 5} {kind port : Fin 64} {words : List DWord} {s : State}
    (hcredits : holdsCredits s lake cls port (itemCells words) = true) (poison : List Nat) (rest : Bool) :
    Runs (.itemEnqueue lake cls kind port words poison rest) s (fun u =>
      let cells := freeCells (lakeOf s lake) (lakeCells (isIoLake lake)) (itemCells words) 0
      (∃ it : LakeItem, (lakeOf u lake).items = (lakeOf s lake).items ++ [it] ∧
        it.cls = cls.val ∧ it.kind = kind.val ∧ it.port = port.val ∧ it.cells = cells) ∧
      ∀ x ∈ cells.zipIdx, (tfind (lakeOf u lake).cells x.1).map Cell.payload = some (cellWords words x.2)) := by
  have hexec : exec (.itemEnqueue lake cls kind port words poison rest) s =
      .next (putItem s lake cls kind port words poison rest) := if_pos hcredits
  obtain ⟨q, tag, it, hitems, hcls, hkind, hport, hcells, hlake⟩ := lakeOf_putItem s lake cls kind port words poison rest
  refine ⟨_, hexec, ⟨it, ?_, hcls, hkind, hport, hcells⟩, ?_⟩
  · rw [hlake, items_writeCells, hitems]
  · rw [hlake, ← hcells]
    exact payload_writeCells (hcells ▸ nodup_freeCells ..) q words tag

/-- A producer without credits for all of the item's cells waits (R392, R406). -/
theorem runs_itemEnqueue_waits {lake : LakeId} {cls : Fin 5} {kind port : Fin 64} {words : List DWord} {s : State}
    (hcredits : holdsCredits s lake cls port (itemCells words) = false) (poison : List Nat) (rest : Bool) :
    Runs (.itemEnqueue lake cls kind port words poison rest) s (fun u =>
      (lakeOf u lake).items = (lakeOf s lake).items ∧ (lakeOf u lake).cells = (lakeOf s lake).cells ∧
      tget 0 (lakeOf u lake).creditWait cls = satTo (2 ^ 32 - 1) (tget 0 (lakeOf s lake).creditWait cls + 1)) := by
  have hexec : exec (.itemEnqueue lake cls kind port words poison rest) s = .next (waitCredit s lake cls) :=
    if_neg (Bool.eq_false_iff.mp hcredits)
  refine ⟨_, hexec, ?_⟩
  dsimp only
  rw [lakeOf_waitCredit]
  exact ⟨rfl, rfl, tget_tmod_same 0 _ _ (fun n => satTo (2 ^ 32 - 1) (n + 1))⟩

/-! ### Taking an item -/

/-- A cell's return goes to the credits: it takes no item from the queue. -/
theorem items_refillCell (q : LakeState) (cls port : Nat) : (refillCell q cls port).items = q.items := by
  rw [refillCell]
  split
  · rfl
  · split
    · rfl
    · split <;> rfl

theorem items_freeItem (q : LakeState) (it : LakeItem) : (freeItem q it).items = q.items :=
  List.foldlRecOn (motive := fun t : LakeState => t.items = q.items) _ _ rfl
    (fun t h _ _ => (items_refillCell t it.cls it.port).trans h)

/-- The report of a parity failure, and the consumption of an item's poison, which may discard a run, change no Lake (R399, R400). -/
theorem lakes_reportTaken (s : State) (l : Nat) (cells : List Cell) (bad : List Nat) (compute : Bool) :
    let reported := if bad.isEmpty then s else raiseOnce s 1 0x0310 (lakeUnit l) noLevel []
    (if compute then consumeItem reported l cells bad else reported).lakes = s.lakes := by
  intro reported
  have report : ChangesOnly { traffic := true, ev := true, outbox := true } s reported :=
    touch_ite (fun _ => .refl s) (fun _ => raiseOnce_touch rfl rfl rfl (.refl s))
  have consumed : ChangesOnly
      { runs := true, tiles := true, arrays := true, ops := true, hbm := true, tileMem := true, upd := true, sync := true,
        traffic := true, ev := true, hl := true, outbox := true } reported (consumeItem reported l cells bad) :=
    consumeItem_touch rfl rfl rfl rfl rfl rfl rfl rfl rfl rfl rfl rfl (.refl reported)
  cases compute
  · exact report.lakes rfl
  · exact (consumed.lakes rfl).trans (report.lakes rfl)

/-- The Lake that an item was taken from: the item's cells are free, and its delivered cells are kept. -/
theorem lakeOf_takeItem (s : State) (l : Nat) (it : LakeItem) (flips : List (Nat × DWord)) (compute : Bool) :
    ∃ poison : Table Nat, lakeOf (takeItem s l it flips compute) l =
      { freeItem { lakeOf s l with items := (lakeOf s l).items.erase it } it with
        poison := poison
        taken := (it.cells.zipIdx.map (fun c =>
          deliverCell ((tfind (lakeOf s l).cells c.1).getD (mkCell 0 [])) flips (8 * c.2))).map Prod.fst } :=
  ⟨_, (congrArg (tget LakeState.fresh · l) (lakes_reportTaken ..)).trans (lakeOf_modLake ..)⟩

/-- A consumer with its output credits takes its class's first item, whose cells are delivered in order (R395, R398). -/
theorem runs_itemDequeue_first {lake : LakeId} {cls : Fin 5} {s : State} {it : LakeItem}
    (hfirst : headItem (lakeOf s lake) cls = some it) (hready : outputReady (lakeOf s lake) cls = true)
    (flips : List (Nat × DWord)) (compute : Bool) (cyc : Nat) :
    Runs (.itemDequeue lake cls flips 0 compute cyc) s (fun u => (lakeOf u lake).items = (lakeOf s lake).items.erase it ∧
      (lakeOf u lake).taken = it.cells.zipIdx.map (fun c =>
        (deliverCell ((tfind (lakeOf s lake).cells c.1).getD (mkCell 0 [])) flips (8 * c.2)).1)) := by
  have hfirst' : headItem (lakeOf (atCycle s cyc) lake) cls = some it := hfirst
  have hready' : outputReady (lakeOf (atCycle s cyc) lake) cls = true := hready
  have hexec : exec (.itemDequeue lake cls flips 0 compute cyc) s = .next (takeItem (atCycle s cyc) lake it flips compute) := by
    show execItemDequeue lake cls flips 0 compute cyc s = _
    simp [execItemDequeue, hfirst', hready']
  obtain ⟨poison, hlake⟩ := lakeOf_takeItem (atCycle s cyc) lake it flips compute
  refine ⟨_, hexec, ?_⟩
  dsimp only
  rw [hlake]
  exact ⟨items_freeItem .., List.map_map ..⟩

/-- A consumer of an empty queue takes the idle item (R397). -/
theorem runs_itemDequeue_empty {lake : LakeId} {cls : Fin 5} {s : State} (hempty : headItem (lakeOf s lake) cls = none)
    (flips : List (Nat × DWord)) (compute : Bool) (cyc : Nat) :
    Runs (.itemDequeue lake cls flips 0 compute cyc) s (fun u =>
      (lakeOf u lake).items = (lakeOf s lake).items ∧ (lakeOf u lake).taken = [idleCell s cls]) := by
  have hempty' : headItem (lakeOf (atCycle s cyc) lake) cls = none := hempty
  have hexec : exec (.itemDequeue lake cls flips 0 compute cyc) s =
      .next (modLake (atCycle s cyc) lake (fun q => { q with taken := [idleCell (atCycle s cyc) cls] })) := by
    show execItemDequeue lake cls flips 0 compute cyc s = _
    simp only [execItemDequeue, hempty']
  refine ⟨_, hexec, ?_⟩
  dsimp only
  rw [lakeOf_modLake]
  exact ⟨rfl, rfl⟩

/-! ### Borrowing credits -/

/-- Where the limits allow it, 16 shared cells are lent to the class and the port (R394). -/
theorem runs_creditBorrow_lends {lake : LakeId} {cls : Fin 5} {s : State} (hlimits : canBorrow s lake cls = true) (port : Fin 64) :
    Runs (.creditBorrow lake cls port) s (fun u =>
      tget 0 (lakeOf u lake).lent cls = tget 0 (lakeOf s lake).lent cls + 16 ∧
      borrowedCredits (lakeOf u lake) cls port = borrowedCredits (lakeOf s lake) cls port + 16) := by
  refine ⟨_, if_pos hlimits, ?_⟩
  simp only [lakeOf_modLake, borrowedCredits, tget_tmod_same, and_self]

/-- Where they do not, the borrower waits (R394, R406). -/
theorem runs_creditBorrow_waits {lake : LakeId} {cls : Fin 5} {s : State} (hlimits : canBorrow s lake cls = false) (port : Fin 64) :
    Runs (.creditBorrow lake cls port) s (fun u =>
      (lakeOf u lake).lent = (lakeOf s lake).lent ∧ (lakeOf u lake).borrowed = (lakeOf s lake).borrowed) := by
  have hexec : exec (.creditBorrow lake cls port) s = .next (waitCredit s lake cls) := if_neg (Bool.eq_false_iff.mp hlimits)
  refine ⟨_, hexec, ?_⟩
  dsimp only
  rw [lakeOf_waitCredit]
  exact ⟨rfl, rfl⟩

/-- Settles O36: an item joins or its producer waits, a consumer takes the first item or the idle one, and credits are lent or waited
for. -/
theorem lakesQueueItemsAndLendCredits : Obligations.LakesQueueItemsAndLendCredits :=
  fun _ _ _ => ⟨fun _ _ _ poison rest =>
      ⟨fun hcredits => runs_itemEnqueue_held hcredits poison rest, fun hcredits => runs_itemEnqueue_waits hcredits poison rest⟩,
    fun flips compute cyc => ⟨fun _ hfirst hready => runs_itemDequeue_first hfirst hready flips compute cyc,
      fun hempty => runs_itemDequeue_empty hempty flips compute cyc⟩,
    fun port => ⟨fun hlimits => runs_creditBorrow_lends hlimits port, fun hlimits => runs_creditBorrow_waits hlimits port⟩⟩

end Sys2Proof.Machine
end

section
/-!
PROOFS. The invariant of the whole machine: reset meets it, and every step keeps it.
-/
namespace Sys2Proof.Machine
open Sys2Proof

/-- Settles O4: after reset the memories and the rings are empty, 16 tokens are in the bucket, and no leaf has been used. -/
theorem resetMeetsInvariant : Obligations.ResetMeetsInvariant where
  hbm := rfl
  tile := rfl
  host := rfl
  buffers := rfl
  events := Nat.zero_le _
  tokens := Nat.le_refl _
  versions := Nat.zero_le _
  monitors := Nat.zero_le _
  leaf := Nat.zero_le _

/-- The invariant does not speak of the queue. -/
theorem Inv.pending {s : State} (h : Inv s) (rest : List Instr) : Inv { s with pending := rest } :=
  ⟨h.hbm, h.tile, h.host, h.buffers, h.events, h.tokens, h.versions, h.monitors, h.leaf⟩

/-- A command that answers a next state keeps the invariant, which is one of the things that `exec_steady` says of each command. -/
theorem exec_inv {c : Instr} {s t : State} (h : exec c s = .next t) (hs : Inv s) : Inv t := (exec_steady c s t h).inv hs

/-- Settles O5: an idle step changes nothing, and every other step is a command's effect on the state with the queue's rest. -/
theorem everyStepKeepsInvariant : Obligations.EveryStepKeepsInvariant := by
  intro s t hs hstep
  unfold step at hstep
  cases hpending : s.pending with
  | nil =>
    rw [hpending] at hstep
    cases hstep
    exact hs
  | cons c rest =>
    rw [hpending] at hstep
    exact exec_inv hstep (hs.pending rest)

end Sys2Proof.Machine
end

section
/-!
PROOFS. Events are stored, limited, sent again and charged (R407, R408, R413, R414, R473); seconds of health time, the fold of the
health history (R410, R413), Eomet's restart (R467), and the dump ring (R515, R518).
-/
namespace Sys2Proof.Machine
open Sys2Proof

/-! ### Storing and limiting -/

theorem msiEvent_nextSeq (s : State) : (msiEvent s).ev.nextSeq = s.ev.nextSeq := by
  unfold msiEvent
  extract_lets due
  split <;> rfl

theorem msiEvent_suppressed (s : State) : (msiEvent s).ev.suppressed = s.ev.suppressed := by
  unfold msiEvent
  extract_lets due
  split <;> rfl

theorem storeEvent_nextSeq (s : State) (e : EventRec) : (storeEvent s e).ev.nextSeq = s.ev.nextSeq + 1 := by
  simp only [storeEvent, msiEvent_nextSeq, sendEvents_ev]

theorem storeEvent_suppressed (s : State) (e : EventRec) : (storeEvent s e).ev.suppressed = s.ev.suppressed := by
  simp only [storeEvent, msiEvent_suppressed, sendEvents_ev]

theorem storeEvent_hl (s : State) (e : EventRec) : (storeEvent s e).hl = s.hl := by rw [storeEvent_frame]

/-- Below the limit, and for EV-0122, an event is stored: the ring's latest record is its own, under the next number (R407, R408). -/
theorem runs_eventRaise {code : Half} {s : State} (hroom : tget 0 s.ev.counts code.toNat < 64 ∨ code = 0x0122) (unit : UnitRef)
    (level : Fin 8) (ps : List DWord) : Runs (.eventRaise code unit level ps none) s (fun u =>
      u.ev.ring.getLast? = some (eventRecord s code.toNat unit level.val 0 (ps.map BitVec.toNat)) ∧ u.ev.nextSeq = s.ev.nextSeq + 1 ∧
      tget 0 u.ev.counts code.toNat = tget 0 s.ev.counts code.toNat + 1) := by
  have stored : raise s code.toNat unit level.val (ps.map BitVec.toNat) =
      storeEvent { s with ev.counts := tmod 0 s.ev.counts code.toNat (· + 1) }
        (eventRecord s code.toNat unit level.val 0 (ps.map BitVec.toNat)) :=
    if_pos (hroom.imp_right (congrArg BitVec.toNat))
  refine ⟨_, rfl, ?_⟩
  dsimp only
  rw [stored, storeEvent_ring, storeEvent_nextSeq, storeEvent_counts]
  exact ⟨List.getLast?_concat, rfl, tget_tmod_same 0 s.ev.counts code.toNat (· + 1)⟩

theorem exec_eventRaise_limited {code : Half} {s : State} (hfull : 64 ≤ tget 0 s.ev.counts code.toNat) (hcode : code ≠ 0x0122)
    (unit : UnitRef) (level : Fin 8) (ps : List DWord) : exec (.eventRaise code unit level ps none) s =
      .next { s with ev.suppressed := tmod 0 s.ev.suppressed code.toNat (· + 1) } := by
  have limited : ¬ (tget 0 s.ev.counts code.toNat < 64 ∨ code.toNat = 0x0122) :=
    not_or.mpr ⟨Nat.not_lt.mpr hfull, fun h => hcode (BitVec.eq_of_toNat_eq h)⟩
  exact congrArg Host.Outcome.next (if_neg limited)

/-! ### Charges -/

theorem health_modHealth (s : State) (u : UnitRef) (f : HealthRec → HealthRec) : health (modHealth s u f) u = f (health s u) :=
  tget_tmod_same ..

theorem health_raise (s : State) (code : Nat) (u : UnitRef) (level : Nat) (ps : List Nat) (v : UnitRef) :
    health (raise s code u level ps) v = health s v := by rw [health, raise_hl]; rfl

/-- A charge counts under its fault kind, whether or not the event is counted or the unit is retired (R413 to R416). -/
theorem charge_counters (s : State) (u : UnitRef) (kind : Nat) (counted nominal : Bool) (code : Nat) :
    tget 0 (health (charge s u kind counted nominal code) u).counters kind = satTo 65535 (tget 0 (health s u).counters kind + 1) := by
  unfold charge
  extract_lets r0 r1 r2 perm entry recorded hl logged
  have counters : r2.counters = r1.counters := by
    dsimp only [r2]
    split <;> rfl
  have counts : tget 0 r1.counters kind = satTo 65535 (tget 0 (health s u).counters kind + 1) :=
    tget_tmod_same 0 r0.counters kind (fun c => satTo 65535 (c + 1))
  have record : health logged u = r2 := health_modHealth s u (fun _ => r2)
  have retired : health (setUnitState logged u .retired code) u =
      { health logged u with state := .retired, since := logged.hl.time, cause := code % 65536 } := health_modHealth ..
  split
  · rwa [health_raise, retired, record, counters]
  · rwa [record, counters]

/-- A charge enters the log, with its time (R413). -/
theorem charge_logs (s : State) (u : UnitRef) (kind : Nat) (counted nominal : Bool) (code : Nat) :
    ∃ e ∈ (charge s u kind counted nominal code).hl.log, e.unit = u ∧ e.counter = kind ∧ e.counted = counted ∧ e.nominal = nominal ∧
      e.code = code % 65536 ∧ e.time = s.hl.time := by
  unfold charge
  extract_lets r0 r1 r2 perm entry recorded hl logged
  have entered : entry ∈ logged.hl.log := List.mem_append_right _ (List.mem_singleton_self _)
  refine ⟨entry, ?_, rfl, rfl, rfl, rfl, rfl, rfl⟩
  split
  · rw [raise_hl]
    exact entered
  · exact entered

theorem runs_eventRaise_charged (code : Half) (unit : UnitRef) (level : Fin 8) (ps : List DWord) (k : Fin 8) (counted nominal : Bool)
    (s : State) : Runs (.eventRaise code unit level ps (some (k, counted, nominal))) s (fun u =>
      tget 0 (health u unit).counters k.val = satTo 65535 (tget 0 (health s unit).counters k.val + 1) ∧
      ∃ e ∈ u.hl.log, e.unit = unit ∧ e.counter = k.val ∧ e.counted = counted ∧ e.nominal = nominal ∧ e.code = code.toNat ∧
        e.time = s.hl.time) := by
  refine ⟨_, rfl, ?_, ?_⟩
  · rw [charge_counters, health_raise]
  · have logged := charge_logs (raise s code.toNat unit level.val (ps.map BitVec.toNat)) unit k.val counted nominal code.toNat
    rwa [raise_hl, Nat.mod_eq_of_lt code.isLt] at logged

/-! ### Sending records again -/

/-- With fuel for them all, every record lies in one of the groups, and no group is larger than n. -/
theorem mem_recordGroups {n : Nat} {e : EventRec} : ∀ {fuel : Nat} {es : List EventRec}, es.length ≤ n * fuel → e ∈ es →
    ∃ g ∈ recordGroups n fuel es, e ∈ g ∧ g.length ≤ n := by
  intro fuel
  induction fuel with
  | zero =>
    intro es hlen he
    have := List.length_pos_of_mem he
    omega
  | succ fuel ih =>
    intro es hlen he
    have more : ¬ es.isEmpty = true := by
      rw [List.isEmpty_iff]
      exact List.ne_nil_of_mem he
    rw [recordGroups, if_neg more]
    rw [← List.take_append_drop n es] at he
    rcases List.mem_append.mp he with htake | hdrop
    · exact ⟨_, List.mem_cons_self, htake, List.length_take_le ..⟩
    · have rest : (es.drop n).length ≤ n * fuel := by
        rw [List.length_drop]
        rw [Nat.mul_succ] at hlen
        omega
      obtain ⟨g, hg, heg, hlen⟩ := ih rest hdrop
      exact ⟨g, List.mem_cons_of_mem _ hg, heg, hlen⟩

theorem foldl_sendEvents_changes (s : State) (groups : List (List EventRec)) :
    ChangesOnly { traffic := true, outbox := true } s (groups.foldl sendEvents s) :=
  touch_foldl (g := sendEvents) (ChangesOnly.refl s) (fun _ _ h => sendEvents_touch rfl rfl h)

/-- The datagram of a group of records has left for the collector. -/
def SentGroup (recs : List EventRec) (s : State) : Prop :=
  ∃ dest port n auth, OutMsg.events dest port n (recs.flatMap eventBytes) auth ∈ s.eo.outbox

theorem sentGroup_sendEvents (s : State) {recs : List EventRec} (h : recs ≠ []) : SentGroup recs (sendEvents s recs) := by
  cases recs with
  | nil => exact absurd rfl h
  | cons e rest => exact ⟨_, _, _, _, List.mem_cons_self⟩

theorem SentGroup.sendEvents {g : List EventRec} {s : State} (h : SentGroup g s) (recs : List EventRec) :
    SentGroup g (sendEvents s recs) := by
  cases recs with
  | nil => exact h
  | cons e rest =>
    obtain ⟨dest, port, n, auth, hsent⟩ := h
    exact ⟨dest, port, n, auth, List.mem_cons_of_mem _ hsent⟩

theorem sentGroup_foldl {groups : List (List EventRec)} (s : State) {g : List EventRec} (hg : g ∈ groups) (hne : g ≠ []) :
    SentGroup g (groups.foldl sendEvents s) :=
  foldl_establishes (g := sendEvents) (I := fun _ => True) (P := fun recs s => recs ≠ [] → SentGroup recs s) (R := fun _ _ => True)
    (fun _ _ h => h) (fun s _ _ => sentGroup_sendEvents s) (fun _ _ recs _ _ h hrecs => (h hrecs).sendEvents recs)
    (List.pairwise_of_forall fun _ _ => trivial) trivial g hg hne

theorem runs_eventResend {s : State} (hring : s.ev.ring.length ≤ 8192) : Runs .eventResend s (fun u => u.ev = s.ev ∧
    ∀ e ∈ s.ev.ring, s.ev.acked ≤ e.seq.toNat → ∃ dest port n auth, ∃ recs : List EventRec,
      e ∈ recs ∧ recs.length ≤ 16 ∧ OutMsg.events dest port n (recs.flatMap eventBytes) auth ∈ u.eo.outbox) := by
  refine ⟨_, rfl, ?_, fun e he hacked => ?_⟩
  · exact (foldl_sendEvents_changes s _).ev rfl
  · have unacked : e ∈ s.ev.ring.filter (fun e => decide (s.ev.acked ≤ e.seq.toNat)) := List.mem_filter.mpr ⟨he, decide_eq_true hacked⟩
    have fits : (s.ev.ring.filter (fun e => decide (s.ev.acked ≤ e.seq.toNat))).length ≤ 16 * 512 :=
      (List.length_filter_le ..).trans hring
    obtain ⟨recs, hgroup, hmem, hlen⟩ := mem_recordGroups fits unacked
    obtain ⟨dest, port, n, auth, hsent⟩ := sentGroup_foldl s hgroup (List.ne_nil_of_mem hmem)
    exact ⟨dest, port, n, auth, recs, hmem, hlen, hsent⟩

/-! ### A second of health time -/

/-- Each suppressed code takes one sequence number, and no count. -/
theorem foldl_suppressionEvent (l : List (Nat × Nat)) (s : State) :
    let u := l.foldl suppressionEvent s
    u.hl = s.hl ∧ u.ev.counts = s.ev.counts ∧ u.ev.suppressed = s.ev.suppressed ∧ u.ev.nextSeq = s.ev.nextSeq + BitVec.ofNat 32 l.length := by
  induction l generalizing s with
  | nil => exact ⟨rfl, rfl, rfl, (BitVec.add_zero _).symm⟩
  | cons x l ih =>
    obtain ⟨htime, hcounts, hsuppressed, hseq⟩ := ih (suppressionEvent s x)
    refine ⟨htime.trans (storeEvent_hl ..), hcounts.trans (storeEvent_counts ..), hsuppressed.trans (storeEvent_suppressed ..), ?_⟩
    rw [List.foldl_cons, hseq, suppressionEvent, storeEvent_nextSeq, List.length_cons, BitVec.add_assoc, Nat.add_comm, BitVec.ofNat_add]
    rfl

theorem runs_eventSuppressionEnd (s : State) : Runs .eventSuppressionEnd s (fun u => u.hl.time = s.hl.time + 1 ∧ u.ev.counts = [] ∧
    u.ev.suppressed = [] ∧ u.ev.nextSeq = s.ev.nextSeq + BitVec.ofNat 32 s.ev.suppressed.length) := by
  obtain ⟨htime, hcounts, hsuppressed, hseq⟩ := foldl_suppressionEvent s.ev.suppressed
    { s with hl.time := s.hl.time + 1, ev.counts := [], ev.suppressed := [] }
  exact ⟨_, rfl, congrArg HealthState.time htime, hcounts, hsuppressed, hseq⟩

/-! ### The fold of the health history -/

/-- The wear of every row group is saved, and marks the start of the next interval. -/
theorem saveIntervals_saved {s : State} : ∀ x ∈ (saveIntervals s).arrays, ∀ g ∈ x.2.groups, g.2.saved = g.2.wear ∧ g.2.mark = g.2.wear := by
  intro x hx g hg
  obtain ⟨y, -, rfl⟩ := List.mem_map.mp hx
  obtain ⟨z, -, rfl⟩ := List.mem_map.mp hg
  exact ⟨rfl, rfl⟩

/-- A failed write is marked and reported, whether or not it has been reported before, and folds nothing. -/
theorem runs_healthFold_fails (s : State) : Runs (.healthFold true) s (fun u =>
    u.hl.norFailing = true ∧ u.hl.norReported = true ∧ u.hl.folded = s.hl.folded) := by
  refine ⟨norFails s, rfl, ?_⟩
  unfold norFails
  extract_lets hl failing
  split
  case isTrue hreported => exact ⟨rfl, hreported, rfl⟩
  case isFalse =>
    rw [raise_hl]
    exact ⟨rfl, rfl, rfl⟩

/-! ### Eomet's restart -/

theorem raise_changes (s : State) (code : Nat) (u : UnitRef) (level : Nat) (ps : List Nat) :
    ChangesOnly { traffic := true, ev := true, outbox := true } s (raise s code u level ps) :=
  raise_touch rfl rfl rfl (ChangesOnly.refl s)

theorem runs_eometRestart {s : State} (hdog : s.pin.watchdog = true) (hdue : s.pin.restartDue = false) : Runs .eometRestart s (fun u =>
    u.eo.opened = [] ∧ u.eo.peerOpen = [] ∧ u.eo.reassembly = [] ∧ u.eo.restarts = s.eo.restarts + 1 ∧ u.plan.loadReq = none ∧
    u.pin.watchdog = false ∧ u.pin.heartbeatAge = 0 ∧ u.eo.live = s.eo.live ∧ u.plan.loaded = s.plan.loaded) := by
  have due : s.pin.watchdog = true ∧ (!s.pin.restartDue) = true := ⟨hdog, by rw [hdue]; rfl⟩
  refine ⟨restartEomet s, if_pos due, ?_⟩
  unfold restartEomet
  extract_lets plan pin ctx eo restarted
  have raised := raise_changes restarted 0x0102 unitPackage noLevel [restarted.eo.restarts]
  have mail := raised.mail rfl
  simp only [Prod.mk.injEq] at mail
  obtain ⟨_, _, _, hopened, hpeers, _, hparts, _, _, hrestarts⟩ := mail
  have hlive := congrArg Prod.fst (raised.settings rfl)
  dsimp only
  rw [raised.plan rfl, raised.pin rfl]
  exact ⟨hopened, hpeers, hparts, hrestarts, rfl, rfl, rfl, hlive, rfl⟩

/-! ### The dump ring -/

theorem length_ringHeader (r : DumpRing) : (ringHeader r).length = 64 := by
  simp only [ringHeader, List.length_append, length_bytesLE, List.length_replicate]

/-- A record that lies beyond the header is still there after the header is written. -/
theorem hostBytes_record_header (s : State) {a b : Nat} {record header : List Byte} (h : b + header.length ≤ a) :
    hostBytes (writeHost (writeHost s a record) b header) b header.length = header ∧
    hostBytes (writeHost (writeHost s a record) b header) a record.length = record :=
  ⟨hostBytes_writeHost .., (readBytes_writeBytes_other (.inr h)).trans (hostBytes_writeHost s a record)⟩

theorem resizeRing_addr (r : DumpRing) (size : Nat) : (resizeRing r size).addr = r.addr := by
  unfold resizeRing
  split <;> rfl

section
variable {s : State} {r q : DumpRing} {x : Snapshot}

theorem runs_dumpRecordWrite_delivered (hring : s.cnt.ring = some r) (hshadow : s.cnt.shadow = some x) (hdue : dumpDue s x.frame = true)
    (hq : resizeRing r (dumpSize (dumpSections s)) = q) {record : List Byte} (hrecord : dumpRecord s x (dumpSections s) q.sequence = record)
    (hcomplete : x.complete = true) (hup : s.pin.pcieUp = true) :
    Runs (.dumpRecordWrite true) s (fun u => u.cnt.ring = some { q with written := q.written + 1, sequence := q.sequence + 1 } ∧
      hostBytes u r.addr 64 = ringHeader { q with written := q.written + 1, sequence := q.sequence + 1 } ∧
      hostBytes u (r.addr + 64 + dumpSlot q * q.size) record.length = record) := by
  rw [← show q.addr = r.addr from hq ▸ resizeRing_addr ..]
  generalize hdone : ({ q with written := q.written + 1, sequence := q.sequence + 1 } : DumpRing) = done
  have hexec : exec (.dumpRecordWrite true) s = .next { writeHost (writeHost s (q.addr + 64 + dumpSlot q * q.size) record) q.addr
      (ringHeader done) with cnt.ring := some done } := by
    show execDumpRecordWrite true s = _
    unfold execDumpRecordWrite
    rw [hring, hshadow]
    dsimp only
    rw [if_pos hdue, hcomplete, hup, hq, hrecord, hdone]
    rfl
  have beyond : q.addr + (ringHeader done).length ≤ q.addr + 64 + dumpSlot q * q.size := by
    rw [length_ringHeader]
    exact Nat.le_add_right ..
  obtain ⟨header, stays⟩ := hostBytes_record_header s (record := record) beyond
  rw [length_ringHeader] at header
  exact ⟨_, hexec, rfl, header, stays⟩

/-- A record that is not delivered takes its number all the same, and is counted as dropped. -/
theorem runs_dumpRecordWrite_dropped (hring : s.cnt.ring = some r) (hshadow : s.cnt.shadow = some x) (hdue : dumpDue s x.frame = true)
    (hq : resizeRing r (dumpSize (dumpSections s)) = q) : Runs (.dumpRecordWrite false) s (fun u =>
      u.cnt.ring = some { q with sequence := q.sequence + 1, dropped := q.dropped + 1 } ∧ u.mem.host = s.mem.host) := by
  generalize hdone : ({ q with sequence := q.sequence + 1, dropped := q.dropped + 1 } : DumpRing) = done
  have hexec : exec (.dumpRecordWrite false) s =
      .next (dropEvent { s with cnt.ring := some done, cnt.dumpDrops := s.cnt.dumpDrops + 1 }) := by
    show execDumpRecordWrite false s = _
    unfold execDumpRecordWrite
    rw [hring, hshadow]
    dsimp only
    rw [if_pos hdue, hq, hdone]
    rfl
  have changed : ChangesOnly { traffic := true, cnt := true, ev := true, outbox := true }
      { s with cnt.ring := some done, cnt.dumpDrops := s.cnt.dumpDrops + 1 } _ := dropEvent_touch rfl rfl rfl rfl (ChangesOnly.refl _)
  have steady : Steady {} { s with cnt.ring := some done, cnt.dumpDrops := s.cnt.dumpDrops + 1 } _ := dropEvent_steady (Steady.refl _)
  exact ⟨_, hexec, steady.dump rfl, changed.hostMemory rfl⟩

end

/-- Settles O51: one lemma for each of the commands, by whether it stores or only counts, writes or fails, delivers or drops. -/
theorem eventsHealthAndDumpsAreKept : Obligations.EventsHealthAndDumpsAreKept := by
  intro code unit level ps k counted nominal s
  refine ⟨fun hroom => runs_eventRaise hroom unit level ps, fun hfull hcode => exec_eventRaise_limited hfull hcode unit level ps,
    runs_eventRaise_charged code unit level ps k counted nominal s, runs_eventResend, runs_eventSuppressionEnd s, ?_,
    runs_healthFold_fails s, rfl, runs_eometRestart, rfl, ?_⟩
  · exact ⟨norWritten (saveIntervals s), rfl, rfl, rfl, rfl, saveIntervals_saved⟩
  · exact fun r x hring hshadow hdue =>
      ⟨runs_dumpRecordWrite_delivered hring hshadow hdue rfl rfl, runs_dumpRecordWrite_dropped hring hshadow hdue rfl⟩

end Sys2Proof.Machine
end

section
/-!
PROOFS. The self-test: its start, a tile's part, and its end (R424 to R426).
-/
namespace Sys2Proof.Machine
open Sys2Proof

/-! ### The start -/

theorem runs_selftest {r : Req} {s : State} (hadmitted : Admitted s r 0x0903) (hopen : canOpen s 0x0903 = true)
    (hidle : planRuns s = false) (hfree : s.pin.selftest = false) : Runs (.selftest r) s (fun u =>
      u.pin.selftest = true ∧ u.pin.selftestTile = 0 ∧ u.pin.selftestPermanent = 0 ∧ u.pin.selftestMarginal = 0 ∧
      u.eo.opened = s.eo.opened ++ [{ opcode := 0x0903, req := r, args := [] }]) := by
  have hexec : exec (.selftest r) s = .next (recoverySelftest (accept s r 0x0903 [] [])) := by
    show execSelftest r s = _
    rw [execSelftest, serveC_of_admitted hadmitted hopen, hidle, hfree]
    rfl
  exact ⟨_, hexec, rfl, rfl, rfl, rfl, accept_opened ..⟩

/-! ### A tile's part -/

/-- A table restricted to the keys of a kind lists those keys as before, and no other. -/
theorem tfind_filter_keys {α : Type} (p : Nat → Bool) (t : Table α) (a : Nat) :
    tfind (t.filter (fun x => p x.1)) a = if p a = true then tfind t a else none := by
  induction t with
  | nil => exact (ite_self none).symm
  | cons e t ih =>
    obtain ⟨k, v⟩ := e
    by_cases hk : k = a
    · subst hk
      by_cases hp : p k = true
      · simp [hp, tfind]
      · simp [hp, ih]
    · by_cases hp : p k = true
      · simp [hp, hk, tfind, ih]
      · simp [hp, hk, tfind, ih]

/-- Of tile memory, a tile's part clears the tile's own 8 MiB (R425). -/
theorem tfind_selftestMemories (s : State) (t a : Nat) :
    tfind (selftestMemories s t).mem.tile a = if a / 2 ^ 23 = t then none else tfind s.mem.tile a := by
  refine (tfind_filter_keys (fun a => !(a / 2 ^ 23 == t)) s.mem.tile a).trans ?_
  simp

theorem charge_pin (s : State) (u : UnitRef) (kind : Nat) (counted nominal : Bool) (code : Nat) :
    (charge s u kind counted nominal code).pin = s.pin := by
  have charged : ChangesOnly { traffic := true, ev := true, hl := true, outbox := true } s (charge s u kind counted nominal code) :=
    charge_touch rfl rfl rfl rfl (ChangesOnly.refl s)
  exact charged.pin rfl

theorem foldl_selftestNominal_pin (us : List UnitRef) (s : State) : (us.foldl selftestNominal s).pin =
    { s.pin with selftestPermanent := s.pin.selftestPermanent + us.length } := by
  induction us generalizing s with
  | nil => rfl
  | cons u us ih =>
    rw [List.foldl_cons, ih, selftestNominal]
    dsimp only
    rw [charge_pin, raise_pin, List.length_cons, Nat.add_assoc, Nat.add_comm 1]

theorem foldl_selftestMargin_pin (us : List UnitRef) (s : State) : (us.foldl selftestMargin s).pin =
    { s.pin with selftestMarginal := s.pin.selftestMarginal + us.length } := by
  induction us generalizing s with
  | nil => rfl
  | cons u us ih =>
    rw [List.foldl_cons, ih, selftestMargin]
    dsimp only
    rw [modHealth_pin, charge_pin, List.length_cons, Nat.add_assoc, Nat.add_comm 1]

/-- A unit that passes has its latest pass now. -/
def notePass (s : State) (u : UnitRef) : State := modHealth s u (fun r => { r with lastPass := s.hl.time })

/-- What a tile's part records once its memories are clear: the failures, the passes and the calibrations. -/
def partResults (t : Nat) (bad marginal passed : List UnitRef) (arrays : List Nat) (s : State) : State :=
  arrays.foldl (fun s a => calibrate s (arrKey t a)) (passed.foldl notePass (marginal.foldl selftestMargin (bad.foldl selftestNominal s)))

/-- The parts that the results of a tile's part may change. -/
def resultParts : Parts :=
  { free := true, runs := true, arrays := true, traffic := true, pin := true, ev := true, hl := true, outbox := true }

section
variable (t : Nat) (bad marginal passed : List UnitRef) (arrays : List Nat) (s : State)

theorem partResults_changes : ChangesOnly resultParts s (partResults t bad marginal passed arrays s) :=
  touch_foldl (touch_foldl (touch_foldl (touch_foldl (ChangesOnly.refl s)
    (fun _ _ h => selftestNominal_touch rfl rfl rfl rfl rfl h)) (fun _ _ h => selftestMargin_touch rfl rfl rfl rfl rfl h))
    (fun _ _ h => modHealth_touch rfl h)) (fun _ _ h => calibrate_touch rfl rfl rfl rfl rfl rfl rfl h)

/-- Of the pins, the results count the failures, each under its kind. -/
theorem partResults_pin : (partResults t bad marginal passed arrays s).pin =
    { s.pin with selftestPermanent := s.pin.selftestPermanent + bad.length,
                 selftestMarginal := s.pin.selftestMarginal + marginal.length } := by
  have passes : ChangesOnly { free := true, runs := true, arrays := true, traffic := true, ev := true, hl := true, outbox := true }
      (marginal.foldl selftestMargin (bad.foldl selftestNominal s)) (partResults t bad marginal passed arrays s) :=
    touch_foldl (touch_foldl (ChangesOnly.refl _) (fun _ _ h => modHealth_touch rfl h))
      (fun _ _ h => calibrate_touch rfl rfl rfl rfl rfl rfl rfl h)
  rw [passes.pin rfl, foldl_selftestMargin_pin, foldl_selftestNominal_pin]

end

theorem exec_selftestTile {s : State} (hself : s.pin.selftest = true) (hmore : s.pin.selftestTile < 256)
    (nominalFails marginFails : List UnitRef) : ∃ passed arrays, exec (.selftestTile nominalFails marginFails) s =
      .next { partResults s.pin.selftestTile ((selftestUnits s.pin.selftestTile).filter (fun u => nominalFails.contains u))
        ((selftestUnits s.pin.selftestTile).filter (fun u => marginFails.contains u && !(nominalFails.contains u))) passed arrays
        (selftestMemories s s.pin.selftestTile) with pin.selftestTile := s.pin.selftestTile + 1 } :=
  ⟨_, _, if_pos ⟨hself, hmore⟩⟩

theorem runs_selftestTile {s : State} (hself : s.pin.selftest = true) (hmore : s.pin.selftestTile < 256)
    (nominalFails marginFails : List UnitRef) : Runs (.selftestTile nominalFails marginFails) s (fun u =>
      u.pin.selftest = true ∧ u.pin.selftestTile = s.pin.selftestTile + 1 ∧
      u.pin.selftestPermanent = s.pin.selftestPermanent +
        (selftestUnits s.pin.selftestTile).countP (fun x => nominalFails.contains x) ∧
      u.pin.selftestMarginal = s.pin.selftestMarginal +
        (selftestUnits s.pin.selftestTile).countP (fun x => marginFails.contains x && !(nominalFails.contains x)) ∧
      (∀ a, a / 2 ^ 23 = s.pin.selftestTile → tfind u.mem.tile a = none) ∧
      (∀ a, a / 2 ^ 23 ≠ s.pin.selftestTile → tfind u.mem.tile a = tfind s.mem.tile a) ∧
      tget LakeState.fresh u.lakes s.pin.selftestTile = LakeState.fresh) := by
  obtain ⟨passed, arrays, hexec⟩ := exec_selftestTile hself hmore nominalFails marginFails
  refine ⟨_, hexec, ?_⟩
  have changed := partResults_changes s.pin.selftestTile ((selftestUnits s.pin.selftestTile).filter (fun u => nominalFails.contains u))
    ((selftestUnits s.pin.selftestTile).filter (fun u => marginFails.contains u && !(nominalFails.contains u))) passed arrays
    (selftestMemories s s.pin.selftestTile)
  have tile := congrArg Prod.fst (changed.tileMem rfl)
  dsimp only at tile ⊢
  rw [partResults_pin, changed.lakes rfl, List.countP_eq_length_filter, List.countP_eq_length_filter]
  refine ⟨hself, rfl, rfl, rfl, fun a ha => ?_, fun a ha => ?_, tget_terase_same ..⟩
  · rw [tile, tfind_selftestMemories, if_pos ha]
  · rw [tile, tfind_selftestMemories, if_neg ha]

/-! ### The end -/

theorem resumeLoad_of_unstaged {s : State} (h : s.plan.staged = none) : resumeLoad s = s := by
  unfold resumeLoad
  rw [h]
  cases openOnce s 0x0801 <;> rfl

theorem changeEvent_opened (s : State) (r : Req) (opcode : Nat) : (changeEvent s r opcode).eo.opened = s.eo.opened := by
  obtain ⟨-, -, hopened, -, -⟩ := (raise_changes s 0x0106 unitNone noLevel [opcode, r.tag.toNat, 0, portField r.port]).mailboxes rfl
  exact hopened

/-- The command that asked for the self-test is closed and answered; nobody is where it was the boot or a recovery that asked. -/
def answerSelftest (s : State) : State :=
  match openOnce s 0x0903 with
  | some c => respond (changeEvent (closeCommand s c) c.req 0x0903) c.req 0x0903 .ok true []
      (bytesLE 2 s.pin.selftestPermanent ++ bytesLE 2 s.pin.selftestMarginal)
  | none => s

theorem answerSelftest_changes (s : State) : ChangesOnly answerParts s (answerSelftest s) := by
  unfold answerSelftest
  cases openOnce s 0x0903 with
  | none => exact ChangesOnly.refl s
  | some c => exact respond_touch rfl rfl rfl rfl (changeEvent_touch rfl rfl rfl (closeCommand_touch rfl (ChangesOnly.refl s)))

theorem answerSelftest_answered {s : State} {c : OpenCommand} (hopen : openOnce s 0x0903 = some c) :
    (answerSelftest s).eo.opened = s.eo.opened.erase c ∧ Answered (answerSelftest s) c.req ⟨0x0903, .ok, c.req.tag, true, now s, [],
      bytesLE 2 s.pin.selftestPermanent ++ bytesLE 2 s.pin.selftestMarginal⟩ := by
  unfold answerSelftest
  rw [hopen]
  dsimp only
  have hnow : now (changeEvent (closeCommand s c) c.req 0x0903) = now s := now_raise ..
  rw [respond_opened, changeEvent_opened, ← hnow]
  exact ⟨rfl, answered_respond ..⟩

theorem runs_selftestDone {s : State} (hself : s.pin.selftest = true) (hlast : s.pin.selftestTile = 256) (hload : s.plan.staged = none) :
    Runs .selftestDone s (fun u => u.pin.selftest = false ∧ ∀ c, openOnce s 0x0903 = some c → u.eo.opened = s.eo.opened.erase c ∧
      Answered u c.req ⟨0x0903, .ok, c.req.tag, true, now s, [],
        bytesLE 2 s.pin.selftestPermanent ++ bytesLE 2 s.pin.selftestMarginal⟩) := by
  have answered := answerSelftest_changes { s with pin.selftest := false }
  have unstaged : (answerSelftest { s with pin.selftest := false }).plan.staged = none := by
    rw [answered.plan rfl]
    exact hload
  have hexec : exec .selftestDone s = .next (answerSelftest { s with pin.selftest := false }) := by
    show execSelftestDone s = _
    rw [execSelftestDone, if_pos ⟨hself, hlast⟩, ← resumeLoad_of_unstaged unstaged]
    rfl
  exact ⟨_, hexec, congrArg PinState.selftest (answered.pin rfl),
    fun c hopen => answerSelftest_answered (s := { s with pin.selftest := false }) hopen⟩

/-- Settles O53: the start, a tile's part and the end, each by its own lemma. -/
theorem selftestsTestTilesAndAnswer : Obligations.SelftestsTestTilesAndAnswer := by
  intro r nominalFails marginFails s
  exact ⟨runs_selftest, fun hself hmore => runs_selftestTile hself hmore nominalFails marginFails, runs_selftestDone⟩

end Sys2Proof.Machine
end

section
/-!
PROOFS. STOP, at a position or at once (R432, R482), and RESET, warm or as a power cycle (R486, R496, R499, R528).
-/
namespace Sys2Proof.Machine
open Sys2Proof

section
variable {W : Parts} {s t : State}

theorem ChangesOnly.stopAt (h : ChangesOnly W s t) (hframe : W.frame = false) : t.fr.stopAt = s.fr.stopAt := by
  have k := h.frame hframe
  simp only [Prod.mk.injEq] at k
  obtain ⟨_, _, _, _, _, _, _, _, _, _, _, _, _, _, _, _, _, _, _, hstop⟩ := k
  exact hstop

theorem ChangesOnly.expelTargets (h : ChangesOnly W s t) (hsync : W.sync = false) : t.link.expelTargets = s.link.expelTargets := by
  have k := h.sync hsync
  simp only [Prod.mk.injEq] at k
  obtain ⟨_, _, _, _, _, _, _, _, _, _, htargets⟩ := k
  exact htargets

end

/-! ### Escalation at a cycle -/

/-- The escalation that a state takes at a cycle: a running plan frame has level 3, and the package's own rank stands to be expelled at
the expulsion tick (R140, R432). -/
structure Escalated (s : State) (cyc : Nat) (u : State) : Prop where
  level : ∀ f, s.fr.running = some f → ∃ g, u.fr.running = some g ∧ 3 ≤ g.level
  expels : ∀ r, s.plan.rank = some r → (if cyc + 19200 ≤ 120000 then now s + 1 else now s + 2, r) ∈ u.link.expelTargets

theorem succ_expelFrame {s v : State} {cyc : Nat} (hnow : now v = now s) (hcycle : v.fr.cycle = cyc) :
    expelFrame v + 1 = if cyc + 19200 ≤ 120000 then now s + 1 else now s + 2 := by
  rw [expelFrame, hnow, hcycle]
  split <;> rfl

theorem escalated_takeL3 {s v : State} {cyc : Nat} (hnow : now v = now s) (hcycle : v.fr.cycle = cyc)
    (hrunning : v.fr.running = s.fr.running) (hrank : v.plan.rank = s.plan.rank) (code : Nat) (u : UnitRef) (ps : List Nat) :
    Escalated s cyc (takeL3 v code u ps) where
  level f hf := ⟨{ f with level := max f.level 3 }, by rw [takeL3_running, hrunning, hf]; rfl, Nat.le_max_right ..⟩
  expels r hr := succ_expelFrame hnow hcycle ▸ takeL3_expels (hrank.trans hr) ..

/-- What comes after an escalation leaves it, where it moves neither the runs nor the sync events. -/
theorem Escalated.changed {W : Parts} {s u v : State} {cyc : Nat} (h : Escalated s cyc u) (k : ChangesOnly W u v) (hruns : W.runs = false)
    (hsync : W.sync = false) : Escalated s cyc v :=
  ⟨k.running hruns ▸ h.level, k.expelTargets hsync ▸ h.expels⟩

/-! ### STOP -/

theorem runs_stopAtPosition {r : Req} {pos : Word} {s : State} (hadmitted : Admitted s r 0x0103) (hrun : planRuns s = true)
    (hahead : firstUnbegun s ≤ pos.toNat) (hinside : pos.toNat < loadedFrames s) :
    Runs (.stopAtPosition r pos) s (fun u => u.fr.stopAt = some pos.toNat ∧ u.fr.run = s.fr.run ∧
      let halt := bytesLE 6 (beginFrameOf s pos.toNat)
      Answered u r (okResponse s r 0x0103 (readback 0x0103 r.tag halt) halt)) := by
  have hexec : exec (.stopAtPosition r pos) s = .next (settled { s with fr.stopAt := some pos.toNat } r 0x0103
      (bytesLE 6 (beginFrameOf s pos.toNat)) (bytesLE 6 (beginFrameOf s pos.toNat))) := by
    show execStopAtPosition r pos s = _
    rw [execStopAtPosition, serve_of_admitted hadmitted]
    exact congrArg Host.Outcome.next (if_pos ⟨hrun, hahead, hinside⟩)
  have changed := settled_changes { s with fr.stopAt := some pos.toNat } r 0x0103 (bytesLE 6 (beginFrameOf s pos.toNat))
    (bytesLE 6 (beginFrameOf s pos.toNat))
  exact ⟨_, hexec, changed.stopAt rfl, (changed.position rfl).2, answered_settled ..⟩

/-- The stop is the escalation of the state at the command's cycle, and then its answer. -/
theorem runs_stopNow {r : Req} {cyc : Nat} {s : State} (hadmitted : Admitted s r 0x0103) (hrun : planRuns s = true) :
    Runs (.stopNow r cyc) s (fun u =>
      (∀ k, s.plan.rank = some k → ((if cyc + 19200 ≤ 120000 then now s + 1 else now s + 2), k) ∈ u.link.expelTargets) ∧
      (∀ f, s.fr.running = some f → ∃ g, u.fr.running = some g ∧ 3 ≤ g.level) ∧ ∃ halt,
      Answered u r (okResponse s r 0x0103 (readback 0x0103 r.tag halt) halt)) := by
  have admitted : Admitted (atCycle s cyc) r 0x0103 := hadmitted
  have hexec : exec (.stopNow r cyc) s = .next (settled (takeL3 (atCycle s cyc) 0x0115 unitPackage []) r 0x0103
      (bytesLE 6 (expelFrame (atCycle s cyc) + 1)) (bytesLE 6 (expelFrame (atCycle s cyc) + 1))) := by
    show execStopNow r cyc s = _
    rw [execStopNow, serve_of_admitted admitted]
    exact congrArg Host.Outcome.next (if_pos hrun)
  generalize bytesLE 6 (expelFrame (atCycle s cyc) + 1) = halt at hexec
  have escalated : Escalated s cyc (takeL3 (atCycle s cyc) 0x0115 unitPackage []) :=
    escalated_takeL3 (s := s) (v := atCycle s cyc) rfl rfl rfl rfl 0x0115 unitPackage []
  obtain ⟨level, expels⟩ := escalated.changed (settled_changes _ r 0x0103 halt halt) rfl rfl
  have hnow : now (takeL3 (atCycle s cyc) 0x0115 unitPackage []) = now s := (takeL3_changes (atCycle s cyc) ..).now rfl
  refine ⟨_, hexec, expels, level, halt, ?_⟩
  rw [okResponse, ← hnow]
  exact answered_settled ..

/-! ### What a reset leaves -/

theorem resetSettings_changes (s : State) : ChangesOnly { settings := true } s (resetSettings s) :=
  resetSettings_touch rfl (ChangesOnly.refl s)

/-- What stands after a reset of either kind: the plan, the frame timebase and what is open are gone; host memory, the tensor cells, the
owner's key and the firmware's slots are kept. -/
structure AfterReset (s u : State) : Prop where
  plan : u.plan = State.reset.plan
  fr : u.fr = State.reset.fr
  opened : u.eo.opened = []
  ctx : u.ctx = State.reset.ctx
  host : u.mem.host = s.mem.host
  cells : u.cells = s.cells
  ownerKey : u.eo.ownerKey = s.eo.ownerKey
  fwSlots : u.eo.fwSlots = s.eo.fwSlots
  fwPreferred : u.eo.fwPreferred = s.eo.fwPreferred

/-- What a reset keeps of the state before it, it keeps of one further back that agrees in this. -/
theorem AfterReset.of_changed {W : Parts} {s v u : State} (h : AfterReset v u) (k : ChangesOnly W s v) (hhost : W.host = false)
    (hcells : W.cells = false) (hkeys : W.keys = false) : AfterReset s u := by
  have keys := k.keys hkeys
  simp only [Prod.mk.injEq] at keys
  obtain ⟨howner, _, _, _, _, _, _, _, hslots, hpreferred, _⟩ := keys
  exact { h with
    host := h.host.trans (k.hostMemory hhost), cells := h.cells.trans (k.cells hcells), ownerKey := h.ownerKey.trans howner,
    fwSlots := h.fwSlots.trans hslots, fwPreferred := h.fwPreferred.trans hpreferred }

/-- The boot line at which a warm reset begins is at most that of the AOM's standby. -/
theorem warmReset_pin (s : State) : (warmReset s).pin.enables = s.pin.enables ∧ (warmReset s).pin.goods = s.pin.goods ∧
    (warmReset s).pin.stage = if 2 ≤ s.pin.stage ∧ allGood s = true then 3 else min 2 s.pin.stage := by
  have hpin : (resetSettings s).pin = s.pin := (resetSettings_changes s).pin rfl
  rw [allGood, ← hpin]
  unfold warmReset
  generalize resetSettings s = v
  dsimp only
  split
  case isTrue h => exact ⟨rfl, rfl, (if_pos (h.imp_left min_eq_left_iff.mp)).symm⟩
  case isFalse h => exact ⟨rfl, rfl, (if_neg (mt (And.imp_left min_eq_left_iff.mpr) h)).symm⟩

theorem afterReset_warmReset (s : State) : AfterReset s (warmReset s) := by
  refine AfterReset.of_changed (v := resetSettings s) ?_ (resetSettings_changes s) rfl rfl rfl
  unfold warmReset
  generalize resetSettings s = v
  dsimp only
  split <;> exact ⟨rfl, rfl, rfl, rfl, rfl, rfl, rfl, rfl, rfl⟩

theorem ChangesOnly.tokens {W : Parts} {s t : State} (h : ChangesOnly W s t) (hkeys : W.keys = false) : t.eo.tokens = s.eo.tokens := by
  have keys := h.keys hkeys
  simp only [Prod.mk.injEq] at keys
  obtain ⟨_, _, _, htokens, _⟩ := keys
  exact htokens

theorem ChangesOnly.stacks {W : Parts} {s t : State} (h : ChangesOnly W s t) (hhbm : W.hbm = false) :
    t.mem.hbm = s.mem.hbm ∧ t.mem.hbmPoison = s.mem.hbmPoison := by
  have k := h.hbm hhbm
  simp only [Prod.mk.injEq] at k
  obtain ⟨hbytes, hpoison, _⟩ := k
  exact ⟨hbytes, hpoison⟩

/-- A warm reset keeps what the stacks hold and what Eomet's memory holds, and loads the default filters (R492, R499). -/
theorem warmReset_keeps (s : State) : (warmReset s).mem.hbm = s.mem.hbm ∧ (warmReset s).mem.hbmPoison = s.mem.hbmPoison ∧
    (warmReset s).eo.tokens = s.eo.tokens ∧ (warmReset s).aom.slots = defaultFilters := by
  have settings := resetSettings_changes s
  rw [← (settings.stacks rfl).1, ← (settings.stacks rfl).2, ← settings.tokens rfl]
  unfold warmReset
  generalize resetSettings s = v
  dsimp only
  split <;> exact ⟨rfl, rfl, rfl, rfl⟩

theorem afterReset_coldReset (clean : Bool) (s : State) : AfterReset s (coldReset clean s) := by
  refine AfterReset.of_changed (v := resetSettings s) ?_ (resetSettings_changes s) rfl rfl rfl
  exact ⟨rfl, rfl, rfl, rfl, rfl, rfl, rfl, rfl, rfl⟩

/-- The rails that a cold reset removes are those that were enabled, in order (R528). -/
theorem coldReset_removed (clean : Bool) (s : State) :
    (coldReset clean s).pin.removed = downOrder.filter (fun g => s.pin.enables.contains g) := by
  rw [← (resetSettings_changes s).pin rfl]
  rfl

/-! ### RESET -/

/-- The parts that the answer and the orderly stop before a reset may change. -/
def stopParts : Parts := { answerParts with arrays := true, hl := true }

theorem orderlyStop_changes (s : State) (r : Req) : ChangesOnly stopParts s (orderlyStop (resetAnswer s r 0x0104)) :=
  orderlyStop_touch rfl rfl (answer_touch rfl rfl rfl rfl (changeEvent_touch rfl rfl rfl (ChangesOnly.refl s)))

theorem runs_resetWarm {r : Req} {s : State} (hadmitted : Admitted s r 0x0104) (hidle : planRuns s = false) :
    Runs (.resetWarm r) s (fun u =>
      u.plan = State.reset.plan ∧ u.fr = State.reset.fr ∧ u.eo.opened = [] ∧ u.ctx = State.reset.ctx ∧ u.aom.slots = defaultFilters ∧
      u.mem.hbm = s.mem.hbm ∧ u.mem.hbmPoison = s.mem.hbmPoison ∧ u.mem.host = s.mem.host ∧ u.cells = s.cells ∧
      u.eo.ownerKey = s.eo.ownerKey ∧ u.eo.fwSlots = s.eo.fwSlots ∧ u.eo.tokens = s.eo.tokens ∧
      u.pin.enables = s.pin.enables ∧ u.pin.goods = s.pin.goods ∧
      u.pin.stage = if 2 ≤ s.pin.stage ∧ allGood s = true then 3 else min 2 s.pin.stage) := by
  have stopped := orderlyStop_changes s r
  generalize hv : orderlyStop (resetAnswer s r 0x0104) = v at stopped
  have hexec : exec (.resetWarm r) s = .next (warmReset v) := by
    show execResetWarm r s = _
    rw [execResetWarm, serve_of_admitted hadmitted, hidle, ← hv]
    rfl
  have after := (afterReset_warmReset v).of_changed stopped rfl rfl rfl
  obtain ⟨hhbm, hpoison, htokens, hfilters⟩ := warmReset_keeps v
  obtain ⟨henables, hgoods, hstage⟩ := warmReset_pin v
  rw [allGood, stopped.pin rfl] at hstage
  rw [stopped.pin rfl] at henables hgoods
  exact ⟨_, hexec, after.plan, after.fr, after.opened, after.ctx, hfilters, hhbm.trans (stopped.stacks rfl).1,
    hpoison.trans (stopped.stacks rfl).2, after.host, after.cells, after.ownerKey, after.fwSlots, htokens.trans (stopped.tokens rfl),
    henables, hgoods, hstage⟩

theorem runs_resetPowerCycle {r : Req} {s : State} (hadmitted : Admitted s r 0x0104) (hidle : planRuns s = false) :
    Runs (.resetPowerCycle r) s (fun u =>
      u.plan = State.reset.plan ∧ u.fr = State.reset.fr ∧ u.eo.opened = [] ∧ u.ctx = State.reset.ctx ∧ u.aom.slots = bootFilters ∧
      u.mem.hbm = [] ∧ u.mem.host = s.mem.host ∧ u.cells = s.cells ∧ u.eo.ownerKey = s.eo.ownerKey ∧ u.eo.fwSlots = s.eo.fwSlots ∧
      u.pin.stage = 0 ∧ u.pin.enables = [] ∧ u.pin.goods = [] ∧
      u.pin.removed = downOrder.filter (fun g => s.pin.enables.contains g)) := by
  have stopped := orderlyStop_changes s r
  generalize hv : orderlyStop (resetAnswer s r 0x0104) = v at stopped
  have hexec : exec (.resetPowerCycle r) s = .next (coldReset true v) := by
    show execResetPowerCycle r s = _
    rw [execResetPowerCycle, serve_of_admitted hadmitted, hidle, ← hv]
    rfl
  have after := (afterReset_coldReset true v).of_changed stopped rfl rfl rfl
  have removed := coldReset_removed true v
  rw [stopped.pin rfl] at removed
  exact ⟨_, hexec, after.plan, after.fr, after.opened, after.ctx, rfl, rfl, after.host, after.cells, after.ownerKey, after.fwSlots,
    rfl, rfl, rfl, removed⟩

/-- Settles O54: each mode of STOP and each kind of RESET by its own lemma. -/
theorem stopsAndResets : Obligations.StopsAndResets :=
  fun _ _ _ _ => ⟨runs_stopAtPosition, runs_stopNow, runs_resetWarm, runs_resetPowerCycle⟩

end Sys2Proof.Machine
end

section
/-!
PROOFS. The boot: power-on (R499), the firmware that the ROM chooses (R497, R498), the rail groups with their power-goods (R527, R529),
and the stages up to the last (R424, R499).
-/
namespace Sys2Proof.Machine
open Sys2Proof

/-! ### Power-on -/

theorem afterReset_powerOnReset (s : State) : AfterReset s (powerOnReset s) :=
  { afterReset_coldReset false s with }

theorem runs_powerOn (s : State) : Runs .powerOn s (fun u =>
    u.pin.stage = 0 ∧ u.pin.pgAon = true ∧ u.plan = State.reset.plan ∧ u.fr = State.reset.fr ∧ u.mem.hbm = [] ∧
    u.cells = s.cells ∧ u.eo.fwSlots = s.eo.fwSlots ∧ u.eo.fwPreferred = s.eo.fwPreferred ∧ u.eo.ownerKey = s.eo.ownerKey ∧
    u.aom.slots = bootFilters) := by
  have after := afterReset_powerOnReset s
  exact ⟨_, rfl, rfl, rfl, after.plan, after.fr, rfl, after.cells, after.fwSlots, after.fwPreferred, after.ownerKey, rfl⟩

/-! ### The firmware -/

/-- An event below the limit stands in the ring. -/
theorem raise_stores {s : State} {code : Nat} (h : tget 0 s.ev.counts code < 64) (u : UnitRef) (level : Nat) (ps : List Nat) :
    eventRecord s code u level 0 ps ∈ (raise s code u level ps).ev.ring := by
  obtain ⟨l, hring⟩ := raise_ring h u level ps
  rw [hring]
  exact List.mem_append_right _ (List.mem_singleton_self _)

/-- The ROM refuses a firmware slot: it is empty, or its image does not verify or has too low a security version. -/
def SlotRefused (s : State) (slot : Bool) : Prop :=
  ∀ f, tfind s.eo.fwSlots (bitNat slot) = some f → slotVerifies f = false ∨ slotSecurity f < s.eo.otpSecurity

/-- The state in which a firmware slot has booted. -/
def booted (s : State) (slot : Bool) (f : FwSlot) : State :=
  { s with
    pin.stage := 1, pin.recovery := false, eo.fwActive := slot, eo.fwVersion := imageVersion f, eo.fwSecurity := slotSecurity f }

theorem trySlot_boots {s : State} {slot : Bool} {f : FwSlot} (hslot : tfind s.eo.fwSlots (bitNat slot) = some f)
    (hverifies : slotVerifies f = true) (hsecurity : s.eo.otpSecurity ≤ slotSecurity f) : trySlot s slot = (booted s slot f, true) := by
  unfold trySlot
  rw [hslot]
  dsimp only
  rw [hverifies, if_neg (by decide), if_neg (Nat.not_lt.mpr hsecurity)]
  rfl

/-- A slot that is refused leaves at most EV-0706. -/
theorem trySlot_refused {s : State} {slot : Bool} (h : SlotRefused s slot) :
    (trySlot s slot).2 = false ∧ ((trySlot s slot).1 = s ∨ (trySlot s slot).1 = raise s 0x0706 unitNone noLevel []) := by
  unfold trySlot
  cases hslot : tfind s.eo.fwSlots (bitNat slot) with
  | none => exact ⟨rfl, .inl rfl⟩
  | some f =>
    dsimp only
    split
    · exact ⟨rfl, .inl rfl⟩
    case isFalse hverifies =>
      have low : slotSecurity f < s.eo.otpSecurity := (h f hslot).resolve_left (by simpa using hverifies)
      rw [if_pos low]
      exact ⟨rfl, .inr rfl⟩

/-- What a refused slot leaves for the ROM's further choice. -/
structure SameBoot (s t : State) : Prop where
  pin : t.pin = s.pin
  fwSlots : t.eo.fwSlots = s.eo.fwSlots
  fwPreferred : t.eo.fwPreferred = s.eo.fwPreferred
  otpSecurity : t.eo.otpSecurity = s.eo.otpSecurity
  counts : tget 0 t.ev.counts 0x0701 = tget 0 s.ev.counts 0x0701

theorem sameBoot_raise (s : State) : SameBoot s (raise s 0x0706 unitNone noLevel []) := by
  have raised := raise_changes s 0x0706 unitNone noLevel []
  have keys := raised.keys rfl
  simp only [Prod.mk.injEq] at keys
  obtain ⟨_, _, _, _, _, _, _, hsecurity, hslots, hpreferred, _⟩ := keys
  exact ⟨raised.pin rfl, hslots, hpreferred, hsecurity, counts_raise_other s (by decide) ..⟩

theorem sameBoot_of_refused {s : State} {slot : Bool} (h : SlotRefused s slot) : SameBoot s (trySlot s slot).1 := by
  rcases (trySlot_refused h).2 with same | raised
  · rw [same]
    exact ⟨rfl, rfl, rfl, rfl, rfl⟩
  · rw [raised]
    exact sameBoot_raise s

theorem SlotRefused.of_same {s t : State} {slot : Bool} (h : SlotRefused s slot) (k : SameBoot s t) : SlotRefused t slot := by
  unfold SlotRefused
  rw [k.fwSlots, k.otpSecurity]
  exact h

/-- What the ROM makes of the second slot. -/
def trySecond (s : State) : State :=
  if (trySlot s (!s.eo.fwPreferred)).2 then (trySlot s (!s.eo.fwPreferred)).1
  else raise { (trySlot s (!s.eo.fwPreferred)).1 with pin.recovery := true } 0x0701 unitPackage noLevel []

theorem exec_firmwareVerify {s : State} (hstage : s.pin.stage = 0) (hpower : s.pin.pgAon = true) (hrecovery : s.pin.recovery = false) :
    exec .firmwareVerify s = .next (if (trySlot s s.eo.fwPreferred).2 then (trySlot s s.eo.fwPreferred).1
      else trySecond (trySlot s s.eo.fwPreferred).1) := by
  have verifies : ¬ (s.pin.stage ≠ 0 ∨ (!s.pin.pgAon) = true ∨ s.pin.recovery = true) := by
    rw [hstage, hpower, hrecovery]
    decide
  show execFirmwareVerify s = _
  rw [execFirmwareVerify, if_neg verifies]
  dsimp only [trySecond]
  split <;> rfl

/-- What a boot of a slot leaves, as the statement names it. -/
def BootsInto (u : State) (slot : Bool) (f : FwSlot) : Prop :=
  u.pin.stage = 1 ∧ u.pin.recovery = false ∧ u.eo.fwActive = slot ∧ u.eo.fwVersion = imageVersion f ∧ u.eo.fwSecurity = slotSecurity f

section
variable {s : State}

/-- After a refusal of the preferred slot the other one boots, where its image may. -/
theorem trySecond_boots {f : FwSlot} (hslot : tfind s.eo.fwSlots (bitNat (!s.eo.fwPreferred)) = some f)
    (hverifies : slotVerifies f = true) (hsecurity : s.eo.otpSecurity ≤ slotSecurity f) :
    BootsInto (trySecond s) (!s.eo.fwPreferred) f := by
  rw [trySecond, trySlot_boots hslot hverifies hsecurity]
  exact ⟨rfl, rfl, rfl, rfl, rfl⟩

/-- After both refusals the package is in recovery, with EV-0701 (R497). -/
theorem trySecond_recovers (h : SlotRefused s (!s.eo.fwPreferred)) : (trySecond s).pin.stage = s.pin.stage ∧
    (trySecond s).pin.recovery = true ∧ (tget 0 s.ev.counts 0x0701 < 64 → ∃ e ∈ (trySecond s).ev.ring, e.code = 0x0701) := by
  have same := sameBoot_of_refused h
  rw [trySecond, (trySlot_refused h).1, if_neg Bool.false_ne_true]
  generalize (trySlot s (!s.eo.fwPreferred)).1 = t at same
  rw [raise_pin, ← same.pin, ← same.counts]
  exact ⟨rfl, rfl, fun few => ⟨_, raise_stores (s := { t with pin.recovery := true }) few .., rfl⟩⟩

theorem runs_firmwareVerify (hstage : s.pin.stage = 0) (hpower : s.pin.pgAon = true) (hrecovery : s.pin.recovery = false) :
    Runs .firmwareVerify s (fun u =>
      let boots := fun (sl : Bool) => ∀ f, tfind s.eo.fwSlots (bitNat sl) = some f → slotVerifies f = true →
        s.eo.otpSecurity ≤ slotSecurity f → BootsInto u sl f
      boots s.eo.fwPreferred ∧ (SlotRefused s s.eo.fwPreferred → boots (!s.eo.fwPreferred)) ∧
      (SlotRefused s s.eo.fwPreferred → SlotRefused s (!s.eo.fwPreferred) → u.pin.stage = 0 ∧ u.pin.recovery = true ∧
        (tget 0 s.ev.counts 0x0701 < 64 → ∃ e ∈ u.ev.ring, e.code = 0x0701))) := by
  refine ⟨_, exec_firmwareVerify hstage hpower hrecovery, fun f hslot hverifies hsecurity => ?_,
    fun hrefused f hslot hverifies hsecurity => ?_, fun hrefused hother => ?_⟩
  · rw [trySlot_boots hslot hverifies hsecurity]
    exact ⟨rfl, rfl, rfl, rfl, rfl⟩
  · have same := sameBoot_of_refused hrefused
    rw [(trySlot_refused hrefused).1, if_neg Bool.false_ne_true]
    generalize (trySlot s s.eo.fwPreferred).1 = t at same
    rw [← same.fwPreferred, ← same.fwSlots] at hslot
    rw [← same.fwPreferred]
    exact trySecond_boots hslot hverifies (same.otpSecurity ▸ hsecurity)
  · have same := sameBoot_of_refused hrefused
    rw [(trySlot_refused hrefused).1, if_neg Bool.false_ne_true]
    generalize (trySlot s s.eo.fwPreferred).1 = t at same
    obtain ⟨stays, recovers, reports⟩ := trySecond_recovers (same.fwPreferred ▸ hother.of_same same)
    rw [same.pin, hstage] at stays
    exact ⟨stays, recovers, same.counts ▸ reports⟩

/-! ### The last stage -/

theorem runs_bootComplete (hstage : s.pin.stage = 5) : Runs .bootComplete s (fun u => u.pin.stage = 6 ∧ u.fr.run = .ready ∧
    u.pin.selftest = true ∧ u.pin.selftestTile = 0 ∧ u.eo.otpSecurity = max s.eo.otpSecurity s.eo.fwSecurity) := by
  let v : State := { s with
    pin.stage := 6, fr.run := .ready, eo.otpSecurity := max s.eo.otpSecurity s.eo.fwSecurity,
    pin.selftest := true, pin.selftestTile := 0, pin.selftestPermanent := 0, pin.selftestMarginal := 0, pin.selftestStart := true }
  have recorded : ChangesOnly { traffic := true, ev := true, hl := true, outbox := true } v
      (otpEntry (raise v 0x0101 unitPackage noLevel [])) :=
    otpEntry_touch rfl rfl rfl rfl (raise_touch rfl rfl rfl (ChangesOnly.refl v))
  have keys := recorded.keys rfl
  simp only [Prod.mk.injEq] at keys
  obtain ⟨_, _, _, _, _, _, _, hsecurity, _⟩ := keys
  have hexec : exec .bootComplete s = .next (otpEntry (raise v 0x0101 unitPackage noLevel [])) := if_neg (not_not.mpr hstage)
  refine ⟨_, hexec, ?_⟩
  dsimp only
  rw [recorded.pin rfl, (recorded.position rfl).2]
  exact ⟨rfl, rfl, rfl, rfl, hsecurity⟩

/-! ### The rails -/

variable {g : RailGroup}

/-- A group that is enabled and not good is one whose power-good is awaited. -/
theorem awaitsGood (henabled : s.pin.enables.contains g = true) (hdown : s.pin.goods.contains g = false) :
    ¬ ((!(s.pin.enables.contains g)) = true ∨ s.pin.goods.contains g = true) := by
  rw [henabled, hdown]
  decide

theorem exec_powerGoodAssert (henabled : s.pin.enables.contains g = true) (hdown : s.pin.goods.contains g = false) :
    exec (.powerGoodAssert g) s = .next
      (if s.pin.stage = 2 ∧ downOrder.all (fun x => (s.pin.goods ++ [g]).contains x) = true
        then enterStage3 { s with pin.goods := s.pin.goods ++ [g] } else { s with pin.goods := s.pin.goods ++ [g] }) :=
  if_neg (awaitsGood henabled hdown)

theorem runs_powerGoodAssert (henabled : s.pin.enables.contains g = true) (hdown : s.pin.goods.contains g = false) :
    Runs (.powerGoodAssert g) s (fun u => u.pin.goods = s.pin.goods ++ [g] ∧ u.pin.enables = s.pin.enables ∧
      (if s.pin.stage = 2 ∧ downOrder.all (fun x => (s.pin.goods ++ [g]).contains x) = true then
        u.pin.stage = 3 ∧ u.pin.faultN = false ∧ u.mem.tile = [] ∧ u.lakes = [] else u.pin.stage = s.pin.stage ∧ u.mem = s.mem)) := by
  refine ⟨_, exec_powerGoodAssert henabled hdown, ?_⟩
  split
  · exact ⟨rfl, rfl, rfl, rfl, rfl, rfl⟩
  · exact ⟨rfl, rfl, rfl, rfl⟩

/-- The parts that a halt may change. -/
def haltParts : Parts :=
  { runs := true, frame := true, tiles := true, arrays := true, ops := true, hbm := true, tileMem := true, upd := true, plan := true,
    lakes := true }

theorem haltNow_changes (s : State) : ChangesOnly haltParts s (haltNow s) :=
  haltNow_touch rfl rfl rfl rfl rfl rfl rfl rfl rfl rfl (ChangesOnly.refl s)

/-- What the fall of the rails makes of the pins (R528). -/
theorem removeRails_pin (s : State) : (removeRails s).pin = { s.pin with
    removed := downOrder.filter (fun g => s.pin.enables.contains g), enables := [], goods := [], poweringDown := false,
    downAtTick := false, stage := min 2 s.pin.stage, selftest := false } := by
  unfold removeRails
  split
  · dsimp only
    rw [(haltNow_changes s).pin rfl]
  · rfl

theorem runs_powerGoodTimeout (henabled : s.pin.enables.contains g = true) (hdown : s.pin.goods.contains g = false) :
    Runs (.powerGoodTimeout g) s (fun u => u.pin.enables = [] ∧ u.pin.goods = [] ∧ u.pin.faultN = true ∧ u.pin.standbyFault = true ∧
      u.pin.removed = downOrder.filter (fun x => s.pin.enables.contains x)) := by
  refine ⟨_, if_neg (awaitsGood henabled hdown), ?_⟩
  dsimp only
  rw [raise_pin, removeRails_pin]
  exact ⟨rfl, rfl, rfl, rfl, rfl⟩

theorem expelByAom_changes (s : State) : ChangesOnly { sync := true } s (expelByAom s) := expelByAom_touch rfl (ChangesOnly.refl s)

/-- A power down that begins sheds, and holds ALERT_N (R459, R538). -/
theorem powerDown_begins (h : s.pin.poweringDown = false) : (powerDown s).pow.shed = true ∧ ∃ atTick, (powerDown s).pin =
    { s.pin with poweringDown := true, alertHold := true, downAtTick := atTick } := by
  unfold powerDown
  rw [h, if_neg Bool.false_ne_true]
  dsimp only
  split
  · rw [(expelByAom_changes _).pow rfl, (expelByAom_changes _).pin rfl]
    exact ⟨rfl, true, rfl⟩
  · exact ⟨rfl, s.pin.downAtTick, rfl⟩

/-- The event of the cause leaves the power down to begin. -/
theorem powerDown_raise (h : s.pin.poweringDown = false) (code : Nat) (u : UnitRef) :
    (powerDown (raise s code u noLevel [])).pow.shed = true ∧ ∃ atTick, (powerDown (raise s code u noLevel [])).pin =
      { s.pin with poweringDown := true, alertHold := true, downAtTick := atTick } := by
  have begins := powerDown_begins (s := raise s code u noLevel []) (by rw [raise_pin]; exact h)
  rwa [raise_pin] at begins

/-- Latching a bit of some pages' status changes the status alone. -/
theorem foldl_latch (bit : Nat) (pages : List Nat) (s : State) :
    ∃ status, pages.foldl (fun s p => latch s p bit) s = { s with pin.status := status } := by
  induction pages generalizing s with
  | nil => exact ⟨s.pin.status, rfl⟩
  | cons p pages ih => exact ih (latch s p bit)

theorem runs_powerGoodLoss (hgood : s.pin.goods.contains g = true) (hup : s.pin.poweringDown = false) (cyc : Nat) :
    Runs (.powerGoodLoss g cyc) s (fun u =>
      u.pin.poweringDown = true ∧ u.pow.shed = true ∧ u.pin.faultN = true ∧ u.pin.goods = s.pin.goods.erase g) := by
  obtain ⟨status, hlatched⟩ := foldl_latch 11 ((List.range 14).filter (fun p => pageGroup p == some g))
    { atCycle s cyc with pin.goods := s.pin.goods.erase g }
  have hexec : exec (.powerGoodLoss g cyc) s = .next (powerDown (raise
      { atCycle s cyc with pin.goods := s.pin.goods.erase g, pin.status := status, pin.faultN := true } 0x0616 unitPackage noLevel [])) := by
    have known : ¬ (!(s.pin.goods.contains g)) = true := by rw [hgood]; decide
    have begins : ¬ s.pin.poweringDown = true := by rw [hup]; decide
    refine (if_neg known).trans ((if_neg begins).trans ?_)
    exact congrArg (fun v : State => Host.Outcome.next (powerDown (raise { v with pin.faultN := true } 0x0616 unitPackage noLevel [])))
      hlatched
  obtain ⟨hshed, atTick, hdown⟩ := powerDown_raise
    (s := { atCycle s cyc with pin.goods := s.pin.goods.erase g, pin.status := status, pin.faultN := true }) hup 0x0616 unitPackage
  refine ⟨_, hexec, ?_⟩
  dsimp only
  rw [hdown]
  exact ⟨rfl, hshed, rfl, rfl⟩

end

/-- Settles O57: one lemma for each of the commands; those that only set a stage or an enable are their guard. -/
theorem theBootVerifiesPowersAndCompletes : Obligations.TheBootVerifiesPowersAndCompletes := by
  intro g cyc s
  refine ⟨runs_powerOn s, runs_firmwareVerify, fun hstage => if_pos hstage, fun hstage => if_pos hstage, runs_bootComplete,
    fun hmay => congrArg Host.Outcome.next (if_pos hmay), fun henabled hdown =>
      ⟨runs_powerGoodAssert henabled hdown, runs_powerGoodTimeout henabled hdown⟩, fun hgood hup => runs_powerGoodLoss hgood hup cyc, ?_⟩
  exact ⟨_, rfl, rfl, rfl, rfl, rfl, rfl, rfl⟩

end Sys2Proof.Machine
end

section
/-!
PROOFS. The reset pins (R532), the clocks (R531) and the thermal trip (R543); what a function-level reset and a link-down drop of the
host's (R470, R518), and the endpoint's errors (R534).
-/
namespace Sys2Proof.Machine
open Sys2Proof

/-! ### SYS_RST_N -/

/-- The parts that the fall of the rails may change. -/
def railParts : Parts := { haltParts with wire := true, pin := true }

theorem removeRails_changes (s : State) : ChangesOnly railParts s (removeRails s) :=
  removeRails_touch rfl rfl rfl rfl rfl rfl rfl rfl rfl rfl rfl rfl (ChangesOnly.refl s)

theorem expelByAom_expels {s : State} {rank : Nat} (hrank : s.plan.rank = some rank) :
    (expelFrame s + 1, rank) ∈ (expelByAom s).link.expelTargets := by
  unfold expelByAom
  rw [hrank]
  exact mem_expelTargets_noteExpel ..

/-- A running plan's package expels itself before its rails fall. -/
def expelIfRunning (s : State) : State := if planRuns s = true then expelByAom s else s

theorem expelIfRunning_changes (s : State) : ChangesOnly { sync := true } s (expelIfRunning s) :=
  touch_ite (fun _ => expelByAom_changes s) (fun _ => ChangesOnly.refl s)

theorem runs_sysRstNLow (cyc : Nat) (s : State) : Runs (.sysRstNLow cyc) s (fun u =>
    u.pin.sysRst = true ∧ u.pin.enables = [] ∧ u.pin.goods = [] ∧ u.pin.thermtripN = false ∧
    u.pin.stage = min 2 s.pin.stage ∧ u.pin.removed = downOrder.filter (fun g => s.pin.enables.contains g) ∧
    (∀ r, planRuns s = true → s.plan.rank = some r →
      (if cyc + 19200 ≤ 120000 then now s + 1 else now s + 2, r) ∈ u.link.expelTargets)) := by
  have hexec : exec (.sysRstNLow cyc) s = .next { removeRails (expelIfRunning (atCycle s cyc)) with
      pin.sysRst := true, pin.thermtripN := false } := rfl
  have fell := removeRails_pin (expelIfRunning (atCycle s cyc))
  rw [(expelIfRunning_changes (atCycle s cyc)).pin rfl] at fell
  refine ⟨_, hexec, ?_⟩
  dsimp only
  rw [fell, (removeRails_changes _).expelTargets rfl]
  refine ⟨rfl, rfl, rfl, rfl, rfl, rfl, fun r hrun hrank => ?_⟩
  have runs : expelIfRunning (atCycle s cyc) = expelByAom (atCycle s cyc) := if_pos hrun
  rw [runs, ← succ_expelFrame_atCycle]
  exact expelByAom_expels (s := atCycle s cyc) hrank

theorem runs_sysRstNRise {s : State} (hlow : s.pin.sysRst = true) : Runs .sysRstNRise s (fun u => u.pin.sysRst = false ∧
    u.pin.stage = 0 ∧ u.pin.enables = [] ∧ u.plan = State.reset.plan ∧ u.fr = State.reset.fr ∧ u.cells = s.cells ∧
    u.eo.fwSlots = s.eo.fwSlots) := by
  have after := afterReset_coldReset false s
  exact ⟨_, if_pos hlow, rfl, rfl, rfl, after.plan, after.fr, after.cells, after.fwSlots⟩

/-! ### Power downs with an event -/

theorem powerDown_changes (s : State) : ChangesOnly { sync := true, pow := true, pin := true } s (powerDown s) :=
  powerDown_touch rfl rfl rfl (ChangesOnly.refl s)

/-- A power down leaves the other pins, whether it begins or goes on. -/
theorem powerDown_pin (s : State) : ∃ hold atTick, (powerDown s).pin =
    { s.pin with poweringDown := true, alertHold := hold, downAtTick := atTick } := by
  cases h : s.pin.poweringDown with
  | false =>
    obtain ⟨-, atTick, hpin⟩ := powerDown_begins h
    exact ⟨true, atTick, hpin⟩
  | true =>
    refine ⟨s.pin.alertHold, s.pin.downAtTick, ?_⟩
    rw [powerDown, if_pos h, ← h]

/-- An event of a code of which fewer than 64 were in the second of s stands in u's ring, with its parameters (R408). -/
def StoredIn (s u : State) (code : Nat) (ps : List Nat) : Prop :=
  tget 0 s.ev.counts code < 64 → ∃ e ∈ u.ev.ring, e.code = code ∧ e.ps = ps

theorem storedIn_raise {s v : State} (hcounts : v.ev.counts = s.ev.counts) (code : Nat) (u : UnitRef) (level : Nat) {ps : List Nat} (hps : ps.length ≤ 4) :
    StoredIn s (raise v code u level ps) code ps := by
  intro few
  exact ⟨_, raise_stores (s := v) (by rwa [hcounts]) u level ps, rfl, List.take_of_length_le hps⟩

section
variable {s v : State}

/-- The event of a cause, and the power down that it asks for. -/
theorem powerDown_raise_stored (hcounts : v.ev.counts = s.ev.counts) (hdown : v.pin.poweringDown = s.pin.poweringDown) (code : Nat) (u : UnitRef) :
    (s.pin.poweringDown = false → (powerDown (raise v code u noLevel [])).pow.shed = true) ∧
    StoredIn s (powerDown (raise v code u noLevel [])) code [] := by
  refine ⟨fun hup => (powerDown_raise (hdown.trans hup) code u).1, ?_⟩
  rw [StoredIn, (powerDown_changes _).ev rfl]
  exact storedIn_raise hcounts code u noLevel (Nat.zero_le _)

theorem runs_thermalTrip (die : Fin 6) (cyc : Nat) (s : State) : Runs (.thermalTrip die cyc) s (fun u =>
    u.pin.thermtripN = true ∧ u.pin.poweringDown = true ∧ (s.pin.poweringDown = false → u.pow.shed = true) ∧ StoredIn s u 0x0618 []) := by
  refine ⟨_, rfl, ?_⟩
  dsimp only
  generalize (if die.val < 4 then unitPackage else unitIoDie (die.val - 4)) = unit
  obtain ⟨sheds, stored⟩ := powerDown_raise_stored (s := s) (v := { atCycle s cyc with pin.thermtripN := true }) rfl rfl 0x0618 unit
  obtain ⟨hold, atTick, hpin⟩ := powerDown_pin (raise { atCycle s cyc with pin.thermtripN := true } 0x0618 unit noLevel [])
  rw [raise_pin] at hpin
  rw [hpin]
  exact ⟨rfl, rfl, sheds, stored⟩

theorem runs_refclkLoss (cyc : Nat) (s : State) : Runs (.refclkLoss cyc) s (fun u =>
    u.pin.refclk = false ∧ u.pin.poweringDown = true ∧ (s.pin.poweringDown = false → u.pow.shed = true) ∧ StoredIn s u 0x0617 []) := by
  obtain ⟨sheds, stored⟩ := powerDown_raise_stored (s := s) (v := { atCycle s cyc with pin.refclk := false }) rfl rfl 0x0617 unitPackage
  obtain ⟨hold, atTick, hpin⟩ := powerDown_pin (raise { atCycle s cyc with pin.refclk := false } 0x0617 unitPackage noLevel [])
  rw [raise_pin] at hpin
  refine ⟨_, rfl, ?_⟩
  dsimp only
  rw [hpin]
  exact ⟨rfl, rfl, sheds, stored⟩

end

/-! ### LINKREF -/

theorem linkOf_linkDown_other (s : State) {l k : Nat} (h : l ≠ k) : linkOf (linkDown s k) l = linkOf s l :=
  (linkOf_modGroup ..).trans (linkOf_modLink_other s h _)

/-- A link that is down stays so while other links, or itself, go down. -/
theorem width_linkDown {s : State} {l : Nat} (h : (linkOf s l).width = 0) (k : Nat) : (linkOf (linkDown s k) l).width = 0 := by
  by_cases hk : l = k
  · rw [hk, linkOf_linkDown]
  · rwa [linkOf_linkDown_other s hk]

theorem runs_linkrefLoss (s : State) : Runs .linkrefLoss s (fun u => u.pin.linkref = false ∧ ∀ l, l < 48 → (linkOf u l).width = 0) := by
  let v : State := { s with pin.linkref := false }
  let up := (List.range 48).filter (fun l => (linkOf v l).width != 0)
  have changed : ChangesOnly { wire := true } v (up.foldl linkDown v) :=
    touch_foldl (ChangesOnly.refl v) (fun _ _ h => linkDown_touch rfl h)
  refine ⟨up.foldl linkDown v, rfl, congrArg PinState.linkref (changed.pin rfl), fun l hl => ?_⟩
  by_cases hdown : (linkOf v l).width = 0
  · exact List.foldlRecOn (motive := fun u => (linkOf u l).width = 0) up linkDown hdown (fun _ h k _ => width_linkDown h k)
  · have falls : l ∈ up := List.mem_filter.mpr ⟨List.mem_range.mpr hl, bne_iff_ne.mpr hdown⟩
    exact foldl_establishes (I := fun _ => True) (P := fun l u => (linkOf u l).width = 0) (R := fun _ _ => True) (fun _ _ h => h)
      (fun u l _ => by rw [linkOf_linkDown]) (fun _ _ k _ _ h => width_linkDown h k) (List.pairwise_of_forall fun _ _ => trivial)
      trivial l falls

/-! ### What the host loses -/

theorem mem_of_tfind {α : Type} {t : Table α} {x : Nat} {v : α} (h : tfind t x = some v) : (x, v) ∈ t := by
  induction t with
  | nil => cases h
  | cons e t ih =>
    unfold tfind at h
    split at h
    case isTrue hx =>
      cases h
      exact hx ▸ List.mem_cons_self
    case isFalse => exact List.mem_cons_of_mem _ (ih h)

theorem tfind_mapValues {α β : Type} (f : α → β) (t : Table α) (x : Nat) :
    tfind (t.map (fun e => (e.1, f e.2))) x = (tfind t x).map f := by
  induction t with
  | nil => rfl
  | cons e t ih =>
    simp only [List.map_cons, tfind, ih]
    split <;> rfl

/-- A transaction that is not open: unknown, committed or closed. -/
def NotOpen (id : Nat) (s : State) : Prop := ∀ t, txnOf s id = some t → t.phase ≠ .opened

theorem txnOf_raise (s : State) (code : Nat) (u : UnitRef) (level : Nat) (ps : List Nat) (id : Nat) :
    txnOf (raise s code u level ps) id = txnOf s id := by
  have settings := (raise_changes s code u level ps).settings rfl
  simp only [Prod.mk.injEq] at settings
  obtain ⟨_, _, htxns, _⟩ := settings
  rw [txnOf, htxns]
  rfl

theorem notOpen_rollbackTxn (s : State) (id : Nat) : NotOpen id (rollbackTxn s id) := by
  unfold rollbackTxn
  cases hfound : txnOf s id with
  | none => exact fun t h => absurd (hfound.symm.trans h) nofun
  | some t =>
    dsimp only
    split
    · intro t' h
      rw [txnOf_raise] at h
      cases (tfind_tput_same s.eo.txns id _).symm.trans h
      exact nofun
    case isFalse hphase =>
      intro t' h
      cases hfound.symm.trans h
      exact hphase

theorem txnOf_rollbackTxn_other (s : State) {id k : Nat} (h : id ≠ k) : txnOf (rollbackTxn s k) id = txnOf s id := by
  unfold rollbackTxn
  cases txnOf s k with
  | none => rfl
  | some t =>
    dsimp only
    split
    · rw [txnOf_raise]
      exact tfind_tput_other s.eo.txns _ h
    · rfl

theorem NotOpen.rollbackTxn {s : State} {id : Nat} (h : NotOpen id s) (k : Nat) : NotOpen id (rollbackTxn s k) := by
  by_cases hk : id = k
  · exact hk ▸ notOpen_rollbackTxn s id
  · rwa [NotOpen, txnOf_rollbackTxn_other s hk]

/-- No transaction of the host is open after the rollback (R470, R490). -/
theorem notOpen_rollbackHost {s : State} {id : Nat} {t : Txn} (hfound : txnOf s id = some t) (howner : t.owner = .host) :
    NotOpen id (rollbackHost s) := by
  have listed : (id, t) ∈ s.eo.txns.filter (fun x => x.2.owner == .host) :=
    List.mem_filter.mpr ⟨mem_of_tfind hfound, beq_iff_eq.mpr howner⟩
  exact foldl_establishes (g := fun s x => Machine.rollbackTxn s x.1) (I := fun _ => True) (P := fun (x : Nat × Txn) s => NotOpen x.1 s)
    (R := fun _ _ => True) (fun _ _ h => h) (fun s x _ => notOpen_rollbackTxn s x.1) (fun _ _ y _ _ h => h.rollbackTxn y.1)
    (List.pairwise_of_forall fun _ _ => trivial) trivial (id, t) listed

/-- What a function-level reset and a link-down drop of the host's: the open requests with DONE, the accepted commands and the open
transactions (R470). -/
structure HostDropped (s u : State) : Prop where
  slots : ∀ x ∈ u.eo.slots, x.2.openReq = none ∧ x.2.done = 0
  opened : ∀ c ∈ u.eo.opened, fromHost c.req = false
  txns : ∀ id t, txnOf s id = some t → t.owner = .host → ∀ t', txnOf u id = some t' → t'.phase ≠ .opened

/-- A transaction whose committing request, where it came from the host, is abandoned. -/
def withoutHostCommit (t : Txn) : Txn := { t with commitReq := if t.commitReq.any fromHost then none else t.commitReq }

theorem txnOf_dropHost (s : State) (id : Nat) : txnOf (dropHost s) id = (txnOf (rollbackHost s) id).map withoutHostCommit :=
  tfind_mapValues withoutHostCommit (rollbackHost s).eo.txns id

theorem hostDropped_dropHost (s : State) : HostDropped s (dropHost s) where
  slots x hx := by
    obtain ⟨y, -, rfl⟩ := List.mem_map.mp hx
    exact ⟨rfl, rfl⟩
  opened c hc := by simpa using (List.mem_filter.mp hc).2
  txns id t hfound howner t' h := by
    rw [txnOf_dropHost] at h
    obtain ⟨t₀, hkept, rfl⟩ := Option.map_eq_some_iff.mp h
    exact notOpen_rollbackHost hfound howner t₀ hkept

theorem HostDropped.changed {W : Parts} {s u v : State} (h : HostDropped s u) (k : ChangesOnly W u v) (hmail : W.mail = false)
    (hsettings : W.settings = false) : HostDropped s v := by
  obtain ⟨hslots, -, hopened, -, -⟩ := k.mailboxes hmail
  have settings := k.settings hsettings
  simp only [Prod.mk.injEq] at settings
  obtain ⟨_, _, htxns, _⟩ := settings
  exact ⟨hslots ▸ h.slots, hopened ▸ h.opened, by simpa only [txnOf, htxns] using h.txns⟩

/-- The host is dropped, with the escalation that R222 asks for while a plan places host DMA. -/
def loseHost (s : State) : State :=
  if placesHostDma (dropHost s) = true then takeL3 (dropHost s) 0x0121 unitPackage [] else dropHost s

theorem loseHost_pin (s : State) : (loseHost s).pin = s.pin := by
  have dropped := (dropHost_changes s).pin rfl
  unfold loseHost
  split
  · rw [(takeL3_changes ..).pin rfl, dropped]
  · exact dropped

theorem hostDropped_loseHost (s : State) : HostDropped s (loseHost s) := by
  have dropped := hostDropped_dropHost s
  unfold loseHost
  split
  · exact dropped.changed (takeL3_changes ..) rfl rfl
  · exact dropped

/-- The host's loss neither registers nor releases a dump ring. -/
theorem loseHost_ring (s : State) : (loseHost s).cnt.ring = s.cnt.ring := by
  have dropped : Steady {} s (dropHost s) := dropHost_steady (Steady.refl s)
  have steady : Steady {} s (loseHost s) := steady_ite (fun _ => takeL3_steady dropped) (fun _ => dropped)
  exact steady.dump rfl

theorem loseHost_escalates {s : State} (hplaces : placesHostDma s = true) : Escalated s s.fr.cycle (loseHost s) := by
  have dropped := dropHost_changes s
  obtain ⟨req, hplan⟩ := dropHost_plan s
  have places : placesHostDma (dropHost s) = true := (placesHostDma_dropHost s).trans hplaces
  rw [loseHost, if_pos places]
  exact escalated_takeL3 (dropped.now rfl) (dropped.cycle rfl) (dropped.running rfl) (by rw [hplan]; rfl) ..

/-! ### Link-downs and the function-level reset -/

theorem runs_perstNLow (cyc : Nat) (s : State) : Runs (.perstNLow cyc) s (fun u => u.pin.perst = true ∧ u.pin.pcieUp = false ∧
    (∀ x ∈ u.eo.slots, x.2.openReq = none ∧ x.2.done = 0) ∧ (∀ c ∈ u.eo.opened, fromHost c.req = false) ∧
    (placesHostDma s = true → Escalated s cyc u)) := by
  have hexec : exec (.perstNLow cyc) s = .next (loseHost { atCycle s cyc with pin.perst := true, pin.pcieUp := false }) := rfl
  have dropped := hostDropped_loseHost { atCycle s cyc with pin.perst := true, pin.pcieUp := false }
  refine ⟨_, hexec, ?_⟩
  dsimp only
  rw [loseHost_pin]
  refine ⟨rfl, rfl, dropped.slots, dropped.opened, fun hplaces => ?_⟩
  obtain ⟨level, expels⟩ := loseHost_escalates (s := { atCycle s cyc with pin.perst := true, pin.pcieUp := false }) hplaces
  exact ⟨level, expels⟩

theorem runs_functionLevelReset (cyc : Nat) (s : State) : Runs (.functionLevelReset cyc) s (fun u => u.cnt.ring = none ∧ u.pin = s.pin ∧
    HostDropped s u ∧ (placesHostDma s = true → Escalated s cyc u)) := by
  have hexec : exec (.functionLevelReset cyc) s = .next (loseHost { atCycle s cyc with cnt.ring := none }) := rfl
  refine ⟨_, hexec, loseHost_ring _, loseHost_pin _, ?_, fun hplaces => ?_⟩
  · obtain ⟨slots, opened, txns⟩ := hostDropped_loseHost { atCycle s cyc with cnt.ring := none }
    exact ⟨slots, opened, txns⟩
  · obtain ⟨level, expels⟩ := loseHost_escalates (s := { atCycle s cyc with cnt.ring := none }) hplaces
    exact ⟨level, expels⟩

/-! ### The endpoint's errors -/

section
variable (cyc : Nat) (s : State)

theorem runs_pcieError_uncorrectable (aer : Word) :
    Runs (.pcieError (.uncorrectable aer false) cyc) s (fun u => StoredIn s u 0x0125 [aer.toNat] ∧ u.pin = s.pin) :=
  ⟨_, rfl, storedIn_raise (v := atCycle s cyc) rfl 0x0125 unitNone noLevel (by decide : 1 ≤ 4), raise_pin ..⟩

theorem runs_pcieError_fatal (aer : Word) : Runs (.pcieError (.uncorrectable aer true) cyc) s (fun u =>
    u.pin.pcieUp = false ∧ ∀ x ∈ u.eo.slots, x.2.openReq = none ∧ x.2.done = 0) := by
  have hexec : exec (.pcieError (.uncorrectable aer true) cyc) s =
      .next (loseHost { raise (atCycle s cyc) 0x0125 unitNone noLevel [aer.toNat] with pin.pcieUp := false }) := rfl
  generalize hlost : ({ raise (atCycle s cyc) 0x0125 unitNone noLevel [aer.toNat] with pin.pcieUp := false } : State) = lost at hexec
  refine ⟨loseHost lost, hexec, ?_, (hostDropped_loseHost lost).slots⟩
  rw [loseHost_pin, ← hlost]

theorem runs_pcieError_narrow (w v : Nat) : Runs (.pcieError (.narrow w v) cyc) s (fun u =>
    u.pin.pcieUp = true ∧ u.pin.pcieWidth = w ∧ u.pin.pcieSpeed = v ∧ StoredIn s u 0x0126 [w, v]) := by
  refine ⟨_, rfl, ?_⟩
  dsimp only
  rw [raise_pin]
  exact ⟨rfl, rfl, rfl, storedIn_raise (by rfl) 0x0126 unitNone noLevel (by decide : 2 ≤ 4)⟩

/-- A correctable error is reported where none of the same 1,024 frames has been (R534, R546). -/
theorem runs_pcieError_correctable : Runs (.pcieError .correctable cyc) s (fun u =>
    if tget 0 s.ev.once (0x0124 * 65536 + unitKey unitNone) = now s / 1024 + 1 then u.pin.pcieErrors = s.pin.pcieErrors + 1 ∧ u.ev = s.ev
    else u.pin.pcieErrors = 0 ∧ StoredIn s u 0x0124 [s.pin.pcieErrors + 1]) := by
  refine ⟨correctableError (atCycle s cyc), rfl, ?_⟩
  dsimp only
  split
  case isTrue hdone =>
    have counts : correctableError (atCycle s cyc) = { atCycle s cyc with pin.pcieErrors := s.pin.pcieErrors + 1 } := if_pos hdone
    rw [counts]
    exact ⟨rfl, rfl⟩
  case isFalse hnew =>
    have reports : correctableError (atCycle s cyc) = raise { atCycle s cyc with
        pin.pcieErrors := 0, ev.once := tset 0 s.ev.once (0x0124 * 65536 + unitKey unitNone) (now s / 1024 + 1) }
        0x0124 unitNone noLevel [s.pin.pcieErrors + 1] := (if_neg hnew).trans (if_neg hnew)
    rw [reports, raise_pin]
    exact ⟨rfl, storedIn_raise (by rfl) 0x0124 unitNone noLevel (by decide : 1 ≤ 4)⟩

end

/-- Settles O58: one lemma for each of the pins, the clocks and the errors. -/
theorem pinsClocksAndPcieErrorsAct : Obligations.PinsClocksAndPcieErrorsAct := by
  intro cyc die aer w v s stored escalates
  obtain ⟨t, hlow, hperst, hup, hslots, hopened, hescalates⟩ := runs_perstNLow cyc s
  obtain ⟨u, hreset, hring, hpin, ⟨slots, opened, txns⟩, escalated⟩ := runs_functionLevelReset cyc s
  exact ⟨runs_sysRstNLow cyc s, runs_sysRstNRise,
    ⟨t, hlow, hperst, hup, hslots, hopened, fun h => ⟨(hescalates h).level, (hescalates h).expels⟩⟩, rfl,
    runs_thermalTrip die cyc s, runs_refclkLoss cyc s, runs_linkrefLoss s,
    ⟨u, hreset, hring, hpin, slots, opened, txns, fun h => ⟨(escalated h).level, (escalated h).expels⟩⟩,
    runs_pcieError_uncorrectable cyc s aer, runs_pcieError_fatal cyc s aer, runs_pcieError_narrow cyc s w v,
    runs_pcieError_correctable cyc s⟩

end Sys2Proof.Machine
end

section
/-!
PROOFS. The queue and the identity (R477, R481), and what no command turns back: attestation leaves and fuses (R500), the OTP's marks
(R497, R544), and the keys and the firmware images but by their own commands (R498, R502, R503).
-/
namespace Sys2Proof.Machine
open Sys2Proof

/-! ### One-way marks -/

/-- Settles O6: that a leaf and a fuse never go back is among the things that every command keeps. -/
theorem noLeafIsUsedTwice : Obligations.NoLeafIsUsedTwice :=
  fun c s t hs h => ⟨(exec_steady c s t h).leaf hs, (exec_steady c s t h).fuses⟩

/-- Settles O7: as O6, for the OTP's security version and its record of a hot junction. -/
theorem otpMarksAreOneWay : Obligations.OtpMarksAreOneWay :=
  fun c s t h => ⟨(exec_steady c s t h).security, (exec_steady c s t h).hot⟩

/-! ### The keys and the firmware images -/

theorem allowedBy_owner {c : Instr} (hset : ∀ r k, c ≠ .ownerKeySet r k) : (allowedBy c).owner = false := by
  cases c with
  | ownerKeySet r k => exact absurd rfl (hset r k)
  | _ => rfl

theorem allowedBy_mgmt {c : Instr} (hset : ∀ r k, c ≠ .mgmtKeySet r k) : (allowedBy c).mgmt = false := by
  cases c with
  | mgmtKeySet r k => exact absurd rfl (hset r k)
  | _ => rfl

theorem allowedBy_image {c : Instr} (harrives : ∀ r, c ≠ .fwStageDone r) (hactivate : ∀ r k, c ≠ .fwActivate r k) :
    (allowedBy c).image = false := by
  cases c with
  | fwStageDone r => exact absurd rfl (harrives r)
  | fwActivate r k => exact absurd rfl (hactivate r k)
  | _ => rfl

/-- Settles O12: every command, a reset too, is steady but for what `allowedBy` names, and that is each key and the firmware slots for
their own commands only. -/
theorem keysAndImagesChangeOnlyByTheirCommands : Obligations.KeysAndImagesChangeOnlyByTheirCommands := by
  intro c s t h
  have steady := exec_steady c s t h
  exact ⟨fun hset => Prod.mk.inj (steady.owner (allowedBy_owner hset)), fun hset => steady.mgmt (allowedBy_mgmt hset),
    fun harrives hactivate => Prod.mk.inj (steady.image (allowedBy_image harrives hactivate))⟩

/-! ### The queue -/

theorem step_of_front {c : Instr} {rest : List Instr} {s : State} (h : s.pending = c :: rest) :
    step s = exec c { s with pending := rest } := by
  rw [step, h]

/-- Settles O1: the queue without its front is the state's own. -/
theorem stepRunsFront : Obligations.StepRunsFront :=
  fun _ _ => step_of_front rfl

/-- Settles O3: the front leaves the queue before its command runs, and no command changes the queue or the identity. -/
theorem queueIsFirstInFirstOut : Obligations.QueueIsFirstInFirstOut := by
  intro c rest s t hpending hstep
  rw [step_of_front hpending] at hstep
  have steady := exec_steady c _ t hstep
  exact ⟨steady.pending, steady.id⟩

end Sys2Proof.Machine
end

section
/-!
PROOFS. Entry to D3hot, which is a link-down of the PCIe endpoint (R470, R535).
-/
namespace Sys2Proof.Machine
open Sys2Proof

/-- A link-down loses the host, from the state at its cycle with the link down. -/
theorem exec_d3hotEntry (cyc : Nat) (s : State) :
    exec (.d3hotEntry cyc) s = .next (loseHost { atCycle s cyc with pin.pcieUp := false }) := rfl

/-- The parts that the loss of the host may change. -/
def lossParts : Parts :=
  { runs := true, sync := true, plan := true, traffic := true, ctx := true, ev := true, outbox := true, mail := true, settings := true }

theorem loseHost_changes (s : State) : ChangesOnly lossParts s (loseHost s) := by
  have dropped : ChangesOnly lossParts s (dropHost s) := dropHost_touch rfl rfl rfl rfl rfl rfl rfl (ChangesOnly.refl s)
  exact touch_ite (fun _ => takeL3_touch rfl rfl rfl rfl rfl dropped) (fun _ => dropped)

/-- Settles O56: the two commands are one function; what it drops is `loseHost`'s, which touches no memory, and its escalation is that of
O55. -/
theorem d3hotIsALinkDown : Obligations.D3hotIsALinkDown := by
  intro cyc s
  have same : exec (.d3hotEntry cyc) s = exec (.pcieLinkDown cyc) s := rfl
  obtain ⟨u, hdown, hpcie, escalates⟩ := linkDownEscalates cyc s
  have hexec : exec (.d3hotEntry cyc) s = .next u := same.trans hdown
  obtain rfl : loseHost { atCycle s cyc with pin.pcieUp := false } = u := Host.Outcome.next.inj ((exec_d3hotEntry cyc s).symm.trans hexec)
  have changed := loseHost_changes { atCycle s cyc with pin.pcieUp := false }
  obtain ⟨slots, opened, txns⟩ := hostDropped_loseHost { atCycle s cyc with pin.pcieUp := false }
  exact ⟨same, _, hexec, hpcie, slots, opened, txns, (changed.stacks rfl).1, changed.hostMemory rfl, escalates⟩

end Sys2Proof.Machine
end

section
/-!
PROOFS. Droop (R445), the peak source (R447), a throttle's expiry (R459) and the power-down sequence (R528).
-/
namespace Sys2Proof.Machine
open Sys2Proof

/-! ### Droop -/

theorem tileOf_modTile_other (s : State) {t k : Nat} (h : k ≠ t) (f : TileState → TileState) : tileOf (modTile s t f) k = tileOf s k :=
  tget_tmod_other _ _ f h

/-- The other tiles of a command's own are named by their numbers. -/
theorem otherTiles {s u : State} {tile : TileId} (h : ∀ k : Nat, k ≠ tile.val → tileOf u k = tileOf s k) :
    ∀ t : TileId, t ≠ tile → tileOf u t = tileOf s t :=
  fun t ht => h t.val (Fin.val_ne_of_ne ht)

/-- What a supply below the threshold makes of a tile, in which an episode ran already or begins. -/
def drooped (level : Nat) (begins : Bool) (x : TileState) : TileState :=
  { x with droop := level, droopLow := true, droopSeen := true, droopEpisodes := x.droopEpisodes + bitNat begins }

theorem tileOf_droopTile (s : State) (t : Nat) :
    tileOf (droopTile s t) t = drooped (setting s 0x00060105) (decide ((tileOf s t).droop = 0)) (tileOf s t) :=
  tileOf_modTile s t (drooped (setting s 0x00060105) (decide ((tileOf s t).droop = 0)))

theorem tileOf_droopTile_other (s : State) {t k : Nat} (h : k ≠ t) : tileOf (droopTile s t) k = tileOf s k :=
  tileOf_modTile_other s h (drooped (setting s 0x00060105) (decide ((tileOf s t).droop = 0)))

theorem mem_droopNow_droopTile (s : State) (t : Nat) : dieOf t ∈ (droopTile s t).pow.droopNow := by
  show dieOf t ∈ if s.pow.droopNow.contains (dieOf t) then s.pow.droopNow else s.pow.droopNow ++ [dieOf t]
  split
  case isTrue listed => exact List.contains_iff_mem.mp listed
  case isFalse => exact List.mem_append_right _ (List.mem_singleton_self _)

theorem runs_droop (tile : TileId) (s : State) : Runs (.droop tile) s (fun u =>
    (tileOf u tile).droop = setting s 0x00060105 ∧ (tileOf u tile).droopLow = true ∧ dieOf tile ∈ u.pow.droopNow ∧
    (tileOf u tile).droopEpisodes = (tileOf s tile).droopEpisodes + (if (tileOf s tile).droop = 0 then 1 else 0) ∧
    ∀ t : TileId, t ≠ tile → tileOf u t = tileOf s t) := by
  refine ⟨droopTile s tile, rfl, ?_⟩
  dsimp only
  rw [tileOf_droopTile]
  refine ⟨rfl, rfl, mem_droopNow_droopTile s tile, ?_, otherTiles fun _ h => tileOf_droopTile_other s h⟩
  simp only [drooped, bitNat, decide_eq_true_eq]

theorem runs_droopHoldExpiry {tile : TileId} {s : State} (hlow : (tileOf s tile).droopLow = true) :
    Runs (.droopHoldExpiry tile) s (fun u =>
      tileOf u tile = { tileOf s tile with droop := (tileOf s tile).droop - 1, droopLow := false } ∧
      ∀ t : TileId, t ≠ tile → tileOf u t = tileOf s t) :=
  ⟨droopDown s tile, congrArg Host.Outcome.next (if_pos hlow), tileOf_modTile s tile _, otherTiles fun _ h => tileOf_modTile_other s h _⟩

/-- Between the expiry of the hold and the next droop the tile's supply is not low, so that a decay step leaves that mark. -/
theorem runs_droopDecayStep {tile : TileId} {s : State} (hhigh : (tileOf s tile).droopLow = false) :
    Runs (.droopDecayStep tile) s (fun u =>
      tileOf u tile = { tileOf s tile with droop := (tileOf s tile).droop - 1 } ∧
      ∀ t : TileId, t ≠ tile → tileOf u t = tileOf s t) := by
  have falls : ¬ (tileOf s tile).droopLow = true := by rw [hhigh]; exact Bool.false_ne_true
  refine ⟨droopDown s tile, congrArg Host.Outcome.next (if_neg falls), ?_, otherTiles fun _ h => tileOf_modTile_other s h _⟩
  rw [droopDown, tileOf_modTile, ← hhigh]

/-! ### The peak source -/

/-- A die's peak level, and its samples in a row below 95 % of the limit. -/
def peakOf (s : State) (die : Nat) : Nat × Nat := (tget 0 s.pow.peak die, tget 0 s.pow.peakBelow die)

/-- What a sample makes of them (R447). -/
def peakStep (limit4 : Int) (power : Nat) (x : Nat × Nat) : Nat × Nat :=
  if limit4 < 4 * (power : Int) then (min 15 (x.1 + 4), 0)
  else if 400 * (power : Int) < 95 * limit4 then (if x.2 = 15 then (x.1 - 1, 0) else (x.1, x.2 + 1))
  else (x.1, 0)

/-- A die's sample with its two tables written. -/
def peakWritten (limit4 : Int) (s : State) (die power : Nat) : State :=
  { s with
    pow.peak := tset 0 s.pow.peak die (peakStep limit4 power (peakOf s die)).1,
    pow.peakBelow := tset 0 s.pow.peakBelow die (peakStep limit4 power (peakOf s die)).2 }

theorem peakDie_eq (limit4 : Int) (s : State) (die power : Nat) : peakDie limit4 s die power =
    let w := peakWritten limit4 s die power
    if 0 < (peakStep limit4 power (peakOf s die)).1 ∧ !(w.pow.peakNow.contains die) then { w with pow.peakNow := w.pow.peakNow ++ [die] } else w :=
  rfl

/-- Of the power state, a die's sample changes those two tables and the list of active dies. -/
theorem peakOf_peakDie (limit4 : Int) (s : State) (die power d : Nat) :
    peakOf (peakDie limit4 s die power) d = peakOf (peakWritten limit4 s die power) d := by
  rw [peakDie_eq]
  dsimp only
  split <;> rfl

theorem peakOf_peakDie_same (limit4 : Int) (s : State) (die power : Nat) :
    peakOf (peakDie limit4 s die power) die = peakStep limit4 power (peakOf s die) := by
  rw [peakOf_peakDie]
  exact Prod.ext (tget_tset_same ..) (tget_tset_same ..)

theorem peakOf_peakDie_other (limit4 : Int) (s : State) {die d : Nat} (power : Nat) (h : d ≠ die) :
    peakOf (peakDie limit4 s die power) d = peakOf s d := by
  rw [peakOf_peakDie]
  exact Prod.ext (tget_tset_other 0 _ _ h) (tget_tset_other 0 _ _ h)

/-- Each die's sample reads and writes its own die only. -/
theorem peakOf_samples (limit4 : Int) (core0 core1 core2 core3 : Nat) (s : State) :
    ∀ x ∈ [(0, core0), (1, core1), (2, core2), (3, core3)],
      peakOf ([(0, core0), (1, core1), (2, core2), (3, core3)].foldl (fun s x => peakDie limit4 s x.1 x.2) s) x.1 =
        peakStep limit4 x.2 (peakOf s x.1) := by
  simp [peakOf_peakDie_same, peakOf_peakDie_other]

/-- PEAK_SAMPLE after the four dies: the rest of the package's power is kept, and an active die is reported. -/
def peakReported (s : State) (other : Nat) : State :=
  let s := { s with pow.otherPower := other }
  if s.pow.peakNow.isEmpty then s else raiseOnce s 1 0x0603 unitPackage noLevel []

theorem exec_peakSample (core0 core1 core2 core3 other : Nat) (s : State) :
    exec (.peakSample core0 core1 core2 core3 other) s = .next (peakReported
      ([(0, core0), (1, core1), (2, core2), (3, core3)].foldl (fun v x => peakDie (dieLimit4 s) v x.1 x.2) s) other) := by
  show execPeakSample core0 core1 core2 core3 other s = _
  rw [execPeakSample, peakReported]

theorem peakReported_pow (s : State) (other : Nat) : (peakReported s other).pow = { s.pow with otherPower := other } := by
  have reported : ChangesOnly { traffic := true, ev := true, outbox := true } { s with pow.otherPower := other } (peakReported s other) :=
    touch_ite (fun _ => ChangesOnly.refl _) (fun _ => raiseOnce_touch rfl rfl rfl (ChangesOnly.refl _))
  exact reported.pow rfl

/-- The four cases of a sample exclude each other. -/
theorem peakStep_cases (limit4 : Int) (power level below : Nat) :
    let x := peakStep limit4 power (level, below)
    (limit4 < 4 * (power : Int) → x = (min 15 (level + 4), 0)) ∧
    (4 * (power : Int) ≤ limit4 → 400 * (power : Int) < 95 * limit4 → below = 15 → x = (level - 1, 0)) ∧
    (4 * (power : Int) ≤ limit4 → 400 * (power : Int) < 95 * limit4 → below ≠ 15 → x = (level, below + 1)) ∧
    (4 * (power : Int) ≤ limit4 → 95 * limit4 ≤ 400 * (power : Int) → x = (level, 0)) :=
  ⟨fun habove => if_pos habove,
   fun hwithin hlow hlast => (if_neg (Int.not_lt.mpr hwithin)).trans ((if_pos hlow).trans (if_pos hlast)),
   fun hwithin hlow hmore => (if_neg (Int.not_lt.mpr hwithin)).trans ((if_pos hlow).trans (if_neg hmore)),
   fun hwithin hnear => (if_neg (Int.not_lt.mpr hwithin)).trans (if_neg (Int.not_lt.mpr hnear))⟩

theorem runs_peakSample (core0 core1 core2 core3 other : Nat) (s : State) :
    Runs (.peakSample core0 core1 core2 core3 other) s (fun u => u.pow.otherPower = other ∧
      ∀ x ∈ [(0, core0), (1, core1), (2, core2), (3, core3)],
        let power : Int := x.2
        let level := tget 0 s.pow.peak x.1
        let below := tget 0 s.pow.peakBelow x.1
        (dieLimit4 s < 4 * power → tget 0 u.pow.peak x.1 = min 15 (level + 4) ∧ tget 0 u.pow.peakBelow x.1 = 0) ∧
        (4 * power ≤ dieLimit4 s → 400 * power < 95 * dieLimit4 s → below = 15 →
          tget 0 u.pow.peak x.1 = level - 1 ∧ tget 0 u.pow.peakBelow x.1 = 0) ∧
        (4 * power ≤ dieLimit4 s → 400 * power < 95 * dieLimit4 s → below ≠ 15 →
          tget 0 u.pow.peak x.1 = level ∧ tget 0 u.pow.peakBelow x.1 = below + 1) ∧
        (4 * power ≤ dieLimit4 s → 95 * dieLimit4 s ≤ 400 * power →
          tget 0 u.pow.peak x.1 = level ∧ tget 0 u.pow.peakBelow x.1 = 0)) := by
  refine ⟨_, exec_peakSample .., ?_⟩
  dsimp only
  rw [peakReported_pow]
  refine ⟨rfl, fun x hx => ?_⟩
  have sampled := peakOf_samples (dieLimit4 s) core0 core1 core2 core3 s x hx
  obtain ⟨above, last, more, near⟩ := peakStep_cases (dieLimit4 s) x.2 (tget 0 s.pow.peak x.1) (tget 0 s.pow.peakBelow x.1)
  exact ⟨fun h => Prod.mk.inj (sampled.trans (above h)), fun h hlow hlast => Prod.mk.inj (sampled.trans (last h hlow hlast)),
    fun h hlow hmore => Prod.mk.inj (sampled.trans (more h hlow hmore)), fun h hnear => Prod.mk.inj (sampled.trans (near h hnear))⟩

/-! ### The power-down sequence -/

/-- A halt discards the frames and leaves the run halted. -/
theorem haltNow_run (s : State) : (haltNow s).fr.run = .halted := by
  have spliced : ChangesOnly { lakes := true }
      { discardAll s with
        fr.running := none, fr.run := .halted, fr.late := false, plan.overrun := false, plan.stopAsked := false } (haltNow s) :=
    spliceLakes_touch rfl (ChangesOnly.refl _)
  exact (spliced.position rfl).2

theorem removeRails_run {s : State} (hloaded : s.plan.loaded.isSome = true) (hrun : s.fr.run ≠ .ready) :
    (removeRails s).fr.run = .halted := by
  rw [removeRails, if_pos ⟨hloaded, hrun⟩]
  exact haltNow_run s

/-- With its rails a package loses the width of every link. -/
theorem removeRails_width (s : State) : ∀ l ∈ (removeRails s).link.links, l.2.width = 0 := by
  intro l hl
  obtain ⟨x, -, rfl⟩ := List.mem_map.mp hl
  rfl

theorem runs_powerDownSequence {s : State} (hdown : s.pin.poweringDown = true) : Runs .powerDownSequence s (fun u =>
    u.pin.enables = [] ∧ u.pin.goods = [] ∧ u.pin.poweringDown = false ∧ u.pin.stage = min 2 s.pin.stage ∧
    u.pin.removed = downOrder.filter (fun g => s.pin.enables.contains g) ∧ (∀ l, l ∈ u.link.links → l.2.width = 0) ∧
    (s.plan.loaded.isSome = true → s.fr.run ≠ .ready → u.fr.run = .halted)) := by
  refine ⟨removeRails s, congrArg Host.Outcome.next (if_pos hdown), ?_⟩
  dsimp only
  rw [removeRails_pin]
  exact ⟨rfl, rfl, rfl, rfl, rfl, removeRails_width s, removeRails_run⟩

/-- Settles O49: one lemma for each of the commands; a throttle's expiry is its guard. -/
theorem droopPeakAndPowerDown : Obligations.DroopPeakAndPowerDown := by
  intro tile slot core0 core1 core2 core3 other s
  refine ⟨runs_droop tile s, runs_droopHoldExpiry, runs_droopDecayStep, runs_peakSample core0 core1 core2 core3 other s, fun hended => ?_,
    runs_powerDownSequence⟩
  have released : ¬ (filterState s slot).last = true := by rw [hended]; exact Bool.false_ne_true
  exact congrArg Host.Outcome.next (if_neg released)

end Sys2Proof.Machine
end

section
/-!
PROOFS. The SMBus telemetry port (R537, R538), the JTAG port (R540), and ARP and ICMP (R471).
-/
namespace Sys2Proof.Machine
open Sys2Proof

/-! ### PAGE and CLEAR_FAULTS -/

theorem exec_page {p : Byte} (h : p.toNat < 14 ∨ p = 0xFF) (s : State) :
    exec (.page p true) s = .next { s with pin.page := p.toNat, pin.reply := some [] } := by
  have selects : (true && (decide (p.toNat < 14) || p == 0xFF)) = true := by
    simpa only [Bool.true_and, Bool.or_eq_true, decide_eq_true_eq, beq_iff_eq] using h
  exact congrArg Host.Outcome.next (if_pos selects)

/-- Latching a bit of a page sets it, and leaves the other pages' words. -/
theorem status_latch (s : State) (p bit : Nat) :
    tget 0 (latch s p bit).pin.status p = tget 0 s.pin.status p ||| BitVec.ofNat 16 (2 ^ bit) ∧
    ∀ q, q ≠ p → tget 0 (latch s p bit).pin.status q = tget 0 s.pin.status q :=
  ⟨tget_tmod_same 0 s.pin.status p (fun w => w ||| BitVec.ofNat 16 (2 ^ bit)),
   fun _ h => tget_tmod_other 0 s.pin.status (fun w => w ||| BitVec.ofNat 16 (2 ^ bit)) h⟩

/-- A bad PEC latches cml of the selected page, and of no other. -/
theorem runs_page_bad (p : Byte) (s : State) : Runs (.page p false) s (fun u => u.pin.page = s.pin.page ∧ u.pin.reply = none ∧
    bitOf (tget 0 u.pin.status s.pin.page) 1 = true ∧ ∀ q, q ≠ s.pin.page → tget 0 u.pin.status q = tget 0 s.pin.status q) := by
  obtain ⟨latched, others⟩ := status_latch s s.pin.page 1
  refine ⟨smbusBad s, rfl, rfl, rfl, ?_, others⟩
  show bitOf (tget 0 (latch s s.pin.page 1).pin.status s.pin.page) 1 = true
  rw [latched]
  simp [bitOf]

theorem clearPages_of_page (t : Table Half) {p : Nat} (h : p ≠ 0xFF) :
    tget 0 (clearPages t p) p = 0 ∧ ∀ q, q ≠ p → tget 0 (clearPages t p) q = tget 0 t q := by
  rw [clearPages, if_neg h]
  exact ⟨tget_terase_same 0 t p, fun q hq => tget_terase_other 0 t hq⟩

theorem runs_clearFaults (s : State) : Runs (.clearFaults true) s (fun u => u.pin.reply = some [] ∧ u.pin.alertHold = false ∧
    (s.pin.page = 0xFF → u.pin.status = []) ∧ (s.pin.page ≠ 0xFF → tget 0 u.pin.status s.pin.page = 0 ∧
      ∀ q, q ≠ s.pin.page → tget 0 u.pin.status q = tget 0 s.pin.status q)) :=
  ⟨_, rfl, rfl, rfl, fun hall => if_pos hall, clearPages_of_page s.pin.status⟩

/-! ### Reads -/

/-- A read of a page below 14 changes the reply alone. -/
theorem smbusRead_of_page {s : State} (h : s.pin.page < 14) (f : Nat → List Byte) :
    Host.Outcome.next (φ := Fault) (ρ := Refusal) (smbusRead s f) = .next { s with pin.reply := some (f s.pin.page) } :=
  congrArg Host.Outcome.next (if_pos h)

/-- ALERT_N is asserted while a shed holds it, or a bit of some page is latched. -/
theorem alertN_iff (s : State) : alertN s = true ↔ s.pin.alertHold = true ∨ ∃ x ∈ s.pin.status, x.2 ≠ 0 := by
  simp only [alertN, Bool.or_eq_true, List.any_eq_true, bne_iff_ne]

/-! ### ARP and ICMP -/

section
variable {s : State}

theorem exec_arpRequest (hserves : eometServes s = true) (mac : BitVec 48) (ip : Word) : exec (.arpRequest mac ip (ownAddress s)) s =
    .next { s with eo.outbox := .arpReply (ownMac s) (ownAddress s) mac ip :: s.eo.outbox } := by
  have answers : (eometServes s && ownAddress s == ownAddress s) = true := by rw [hserves, beq_self_eq_true]; rfl
  exact congrArg Host.Outcome.next (if_pos answers)

theorem exec_icmpEchoRequest (hserves : eometServes s = true) (addr : Word) (payload : List Byte) :
    exec (.icmpEchoRequest addr payload) s = .next { s with eo.outbox := .icmpReply addr payload :: s.eo.outbox } :=
  congrArg Host.Outcome.next (if_pos hserves)

end

/-- Settles O59: PAGE and CLEAR_FAULTS by their lemmas; a read of a page replies with that page's bytes; the commands without a
condition are their definitions. -/
theorem telemetryTestAndNetworkPorts : Obligations.TelemetryTestAndNetworkPorts := by
  intro p code mac ip addr payload s replies
  refine ⟨fun h => exec_page h s, runs_page_bad p s, runs_clearFaults s, rfl, rfl, rfl, fun hpage => ?_, rfl, alertN_iff s, rfl,
    fun hserves => exec_arpRequest hserves mac ip, fun hserves => exec_icmpEchoRequest hserves addr payload⟩
  have reads := smbusRead_of_page hpage
  exact ⟨reads _, reads _, reads _, reads _, reads _, reads _⟩

end Sys2Proof.Machine
end

section
/-!
PROOFS. The always-on monitor: its instructions and its samples (R493), and what a filter that fires does (R459, R460, R492).
-/
namespace Sys2Proof.Machine
open Sys2Proof

/-! ### LD -/

/-- Of some inputs, x names one with the least value and one with the greatest. -/
structure Extremes (s : State) (js : List Nat) (x : Nat × Nat) : Prop where
  least_mem : x.1 ∈ js
  greatest_mem : x.2 ∈ js
  bounds : ∀ j ∈ js, aomInput s x.1 ≤ aomInput s j ∧ aomInput s j ≤ aomInput s x.2

theorem extremes_singleton (s : State) (i : Nat) : Extremes s [i] (i, i) where
  least_mem := List.mem_singleton_self i
  greatest_mem := List.mem_singleton_self i
  bounds j hj := by rw [List.mem_singleton.mp hj]; exact ⟨le_refl _, le_refl _⟩

/-- One more input takes the place of the least, of the greatest, or of neither. -/
theorem Extremes.next {s : State} {js : List Nat} {x : Nat × Nat} (h : Extremes s js x) (i : Nat) :
    Extremes s (js ++ [i]) (if aomInput s i < aomInput s x.1 then i else x.1, if aomInput s x.2 < aomInput s i then i else x.2) where
  least_mem := by
    dsimp only
    split
    · exact List.mem_append_right _ (List.mem_singleton_self i)
    · exact List.mem_append_left _ h.least_mem
  greatest_mem := by
    dsimp only
    split
    · exact List.mem_append_right _ (List.mem_singleton_self i)
    · exact List.mem_append_left _ h.greatest_mem
  bounds j hj := by
    have here : j ∈ js ∨ j = i := (List.mem_append.mp hj).imp_right List.mem_singleton.mp
    constructor
    · dsimp only
      split
      case isTrue hless =>
        exact here.elim (fun hold => hless.le.trans (h.bounds j hold).1) (fun hnew => hnew ▸ le_refl _)
      case isFalse hmore =>
        exact here.elim (fun hold => (h.bounds j hold).1) (fun hnew => hnew ▸ not_lt.mp hmore)
    · dsimp only
      split
      case isTrue hmore =>
        exact here.elim (fun hold => (h.bounds j hold).2.trans hmore.le) (fun hnew => hnew ▸ le_refl _)
      case isFalse hless =>
        exact here.elim (fun hold => (h.bounds j hold).2) (fun hnew => hnew ▸ not_lt.mp hless)

theorem extremes_spec (s : State) (i : Nat) (is : List Nat) : Extremes s (i :: is) (extremes s is i) := by
  have each : ∀ (is js : List Nat) (x : Nat × Nat), Extremes s js x → Extremes s (js ++ is) (is.foldl (fun a i =>
      (if aomInput s i < aomInput s a.1 then i else a.1, if aomInput s a.2 < aomInput s i then i else a.2)) x) := by
    intro is
    induction is with
    | nil => intro js x h; rwa [List.append_nil]
    | cons i is ih =>
      intro js x h
      have rest := ih (js ++ [i]) _ (h.next i)
      rwa [List.append_assoc, List.singleton_append] at rest
  exact each is [i] (i, i) (extremes_singleton s i)

/-- The state after LD with a least and a greatest input. -/
def ldState (s : State) (x : Nat × Nat) : State :=
  { s with aom := { s.aom with lo := aomInput s x.1, hi := aomInput s x.2, loFrom := x.1, hiFrom := x.2, pc := s.aom.pc + 1 } }

theorem exec_ld {i : Fin 4096} {s : State} (h : ldInputs s i ≠ []) :
    ∃ x, Extremes s (ldInputs s i) x ∧ exec (.ld i) s = .next (ldState s x) := by
  have hexec : exec (.ld i) s = .next (aomLd s i) := rfl
  rw [hexec, aomLd]
  cases hinputs : ldInputs s i with
  | nil => exact absurd hinputs h
  | cons i0 is => exact ⟨extremes s is i0, extremes_spec s i0 is, rfl⟩

theorem runs_ld {i : Fin 4096} {s : State} (h : ldInputs s i ≠ []) : Runs (.ld i) s (fun u =>
    (∃ lo hi m n, u = { s with aom := { s.aom with lo := lo, hi := hi, loFrom := m, hiFrom := n, pc := s.aom.pc + 1 } }) ∧
    u.aom.loFrom ∈ ldInputs s i ∧ u.aom.hiFrom ∈ ldInputs s i ∧
    u.aom.lo = aomInput s u.aom.loFrom ∧ u.aom.hi = aomInput s u.aom.hiFrom ∧
    ∀ j ∈ ldInputs s i, u.aom.lo ≤ aomInput s j ∧ aomInput s j ≤ u.aom.hi) := by
  obtain ⟨x, found, hexec⟩ := exec_ld h
  exact ⟨_, hexec, ⟨_, _, _, _, rfl⟩, found.least_mem, found.greatest_mem, rfl, rfl, found.bounds⟩

/-! ### Comparisons -/

theorem aboveConst_fin (x c : Rat) : aboveConst x (.fin c) = true ↔ c < x := decide_eq_true_iff

theorem belowConst_fin (x c : Rat) : belowConst x (.fin c) = true ↔ x < c := decide_eq_true_iff

/-! ### AOM_SAMPLE -/

/-- What the SMBus pages' samples leave: the monitor and the heartbeat's age. -/
structure KeepsMonitor (s t : State) : Prop where
  aom : t.aom = s.aom
  age : t.pin.heartbeatAge = s.pin.heartbeatAge

namespace KeepsMonitor
variable {s t u : State}

theorem refl (s : State) : KeepsMonitor s s := ⟨rfl, rfl⟩

theorem trans (h : KeepsMonitor s t) (k : KeepsMonitor t u) : KeepsMonitor s u := ⟨k.aom.trans h.aom, k.age.trans h.age⟩

theorem latchIf (h : KeepsMonitor s t) (c : Prop) [Decidable c] (p bit : Nat) : KeepsMonitor s (if c then latch t p bit else t) := by
  split
  · exact ⟨h.aom, h.age⟩
  · exact h

theorem foldl {β : Type} {g : State → β → State} (hg : ∀ s x, KeepsMonitor s (g s x)) (l : List β) (s : State) :
    KeepsMonitor s (l.foldl g s) :=
  List.foldlRecOn (motive := KeepsMonitor s) l g (refl s) (fun _ h x _ => h.trans (hg _ x))

end KeepsMonitor

theorem keepsMonitor_pageSample (s : State) (p : Nat) : KeepsMonitor s (pageSample s p) := by
  unfold pageSample
  refine ((KeepsMonitor.latchIf ?_ _ p 5).latchIf _ p 15).latchIf _ p 2
  exact ⟨rfl, rfl⟩

theorem keepsMonitor_pagesMean (s : State) : KeepsMonitor s (pagesMean s) := by
  unfold pagesMean
  refine KeepsMonitor.trans ?_ (KeepsMonitor.foldl (fun t p => (KeepsMonitor.refl t).latchIf _ p 4) _ _)
  exact ⟨rfl, rfl⟩

/-- What the SMBus pages make of a sample. -/
def pagesSampled (s : State) : State :=
  let s := (List.range 14).foldl pageSample s
  if s.pin.samples = 100 then pagesMean s else s

theorem keepsMonitor_pagesSampled (s : State) : KeepsMonitor s (pagesSampled s) := by
  have sampled := KeepsMonitor.foldl keepsMonitor_pageSample (List.range 14) s
  unfold pagesSampled
  dsimp only
  split
  · exact sampled.trans (keepsMonitor_pagesMean _)
  · exact sampled

/-- The inputs of a sample as the monitor takes them in. -/
def inputsTaken (s : State) (inputs : List (Nat × Rat)) : State :=
  let s := { s with
    aom.inputs := inputs.foldl (fun (t : Table Rat) (x : Nat × Rat) => tset 0 t x.1 x.2) s.aom.inputs,
    pin.heartbeatAge := s.pin.heartbeatAge + 10, pin.samples := s.pin.samples + 1 }
  let hot := s.aom.inputs.any (fun (x : Nat × Rat) => (decide (x.1 < 256) || x.1 == 264 || x.1 == 265) && decide (125 < x.2))
  { s with pin.otpHot := s.pin.otpHot || hot }

theorem keepsMonitor_takeSamples (s : State) (inputs : List (Nat × Rat)) :
    KeepsMonitor (inputsTaken s inputs) (takeSamples s inputs) := by
  have parts : takeSamples s inputs = pagesSampled (inputsTaken s inputs) := by
    unfold takeSamples pagesSampled inputsTaken
    extract_lets aom pin taken hot pin' sampled
    rfl
  rw [parts]
  exact keepsMonitor_pagesSampled (inputsTaken s inputs)

/-- Of inputs that are sampled once each, every one stands as it was sampled. -/
theorem tget_foldl_tset {inputs : List (Nat × Rat)} (h : (inputs.map Prod.fst).Nodup) (t : Table Rat) :
    ∀ x ∈ inputs, tget 0 (inputs.foldl (fun (t : Table Rat) (x : Nat × Rat) => tset 0 t x.1 x.2) t) x.1 = x.2 :=
  foldl_establishes (I := fun _ => True) (P := fun (x : Nat × Rat) t => tget 0 t x.1 = x.2) (R := fun x y => x.1 ≠ y.1)
    (fun _ _ h => h) (fun t x _ => tget_tset_same 0 t x.1 x.2)
    (fun t _ y hxy _ hx => (tget_tset_other 0 t y.2 hxy).trans hx) (List.pairwise_map.mp h) trivial

theorem exec_aomSample (inputs : List (Nat × Rat)) (cyc : Nat) (s : State) :
    let v := takeSamples (atCycle s cyc) inputs
    exec (.aomSample inputs cyc) s = .next (s.aom.slots.foldl (fun s x => runFilter s x.1 x.2) v) ∧
    v.pin.heartbeatAge = s.pin.heartbeatAge + 10 ∧
    ((inputs.map Prod.fst).Nodup → ∀ x ∈ inputs, tget 0 v.aom.inputs x.1 = x.2) := by
  have taken := keepsMonitor_takeSamples (atCycle s cyc) inputs
  have slots : (takeSamples (atCycle s cyc) inputs).aom.slots = s.aom.slots := by rw [taken.aom]; rfl
  refine ⟨?_, taken.age, fun hnodup => ?_⟩
  · rw [← slots]
    rfl
  · rw [taken.aom]
    exact tget_foldl_tset hnodup s.aom.inputs

/-! ### A filter's run -/

/-- The instructions of a filter's program. -/
def filterProg (w : BitVec 1024) : List (Nat × Nat) := (List.range (ftCount w)).map (ftInstr w)

/-- The state after a filter's program. -/
def ranProgram (s : State) (slot : Nat) (w : BitVec 1024) : State :=
  (filterProg w).foldl aomInstr { s with aom.cur := slot, aom.pc := 0 }

/-- The same, with the condition noted for the next sample. -/
def notedProgram (s : State) (slot : Nat) (w : BitVec 1024) : State :=
  modFilter (ranProgram s slot w) slot (fun f => { f with last := (ranProgram s slot w).aom.cond })

theorem ranProgram_changes (s : State) (slot : Nat) (w : BitVec 1024) :
    ChangesOnly { aom := true } { s with aom.cur := slot, aom.pc := 0 } (ranProgram s slot w) :=
  touch_foldl (ChangesOnly.refl _) (fun _ _ h => aomInstr_touch rfl h)

/-- A program runs where each of its LDs has an input. -/
theorem runFilter_of_inputs {s : State} (slot : Nat) {w : BitVec 1024} (h : ∀ x ∈ filterProg w, x.1 = 1 → ldInputs s x.2 ≠ []) :
    runFilter s slot w =
      if (ranProgram s slot w).aom.cond && !(filterState (ranProgram s slot w) slot).last then fireFilter (notedProgram s slot w) slot w
      else if (ranProgram s slot w).aom.cond && ftAction w == 2 then throttle (notedProgram s slot w) slot w
      else notedProgram s slot w := by
  have up : ¬ (filterProg w).any (fun x => x.1 == 1 && (ldInputs s x.2).isEmpty) = true := by
    simp only [List.any_eq_true, Bool.and_eq_true, beq_iff_eq, List.isEmpty_iff]
    rintro ⟨x, hx, hld, hnone⟩
    exact h x hx hld hnone
  exact if_neg up

theorem fireFilter_aom (s : State) (slot : Nat) (w : BitVec 1024) : (fireFilter s slot w).aom = s.aom := by
  have fired : ChangesOnly { runs := true, sync := true, pow := true, traffic := true, pin := true, ev := true, outbox := true } s
      (fireFilter s slot w) := fireFilter_touch rfl rfl rfl rfl rfl rfl rfl (ChangesOnly.refl s)
  exact fired.aom rfl

theorem throttle_aom (s : State) (slot : Nat) (w : BitVec 1024) : (throttle s slot w).aom = s.aom := by
  have throttled : ChangesOnly { pow := true } s (throttle s slot w) := throttle_touch rfl (ChangesOnly.refl s)
  exact throttled.aom rfl

/-- A filter's memory reads back as changed. -/
theorem filterState_modFilter (s : State) (slot : Nat) (f : FilterState → FilterState) :
    filterState (modFilter s slot f) slot = f (filterState s slot) := tget_tmod_same ..

/-- What a filter does leaves the condition that was noted. -/
theorem runFilter_last {s : State} (slot : Nat) {w : BitVec 1024} (h : ∀ x ∈ filterProg w, x.1 = 1 → ldInputs s x.2 ≠ []) :
    (filterState (runFilter s slot w) slot).last = (ranProgram s slot w).aom.cond := by
  have noted : (filterState (notedProgram s slot w) slot).last = (ranProgram s slot w).aom.cond := by
    rw [notedProgram, filterState_modFilter]
  have kept : (runFilter s slot w).aom = (notedProgram s slot w).aom := by
    rw [runFilter_of_inputs slot h]
    split
    · exact fireFilter_aom ..
    · split
      · exact throttle_aom ..
      · rfl
  rw [filterState, kept]
  exact noted

/-! ### A filter that fires -/

/-- A throttle sets the level of every die it names. -/
theorem throttle_level {s : State} {slot : Nat} {w : BitVec 1024} {d : Nat} (h : d ∈ throttleDies s w) :
    tget 0 (throttle s slot w).pow.aomLevels (4 * slot + d) = ftLevel w := by
  have each := foldl_establishes (σ := State) (I := fun _ => True)
    (g := fun (s : State) d => { s with pow.aomLevels := tset 0 s.pow.aomLevels (4 * slot + d) (ftLevel w) })
    (P := fun d s => tget 0 s.pow.aomLevels (4 * slot + d) = ftLevel w) (R := fun _ _ => True)
    (fun _ _ h => h) (fun t d _ => tget_tset_same 0 _ _ _)
  refine each (fun t x y _ _ hx => ?_) (List.pairwise_of_forall fun _ _ => trivial) trivial d h
  by_cases hxy : x = y
  · rw [hxy]
    exact tget_tset_same ..
  · exact (tget_tset_other 0 _ _ (by omega)).trans hx

/-- The dies of a throttle that is not by source are those of the filter's mask. -/
theorem mem_throttleDies {s : State} {w : BitVec 1024} (hmask : ftBySource w = false) {d : Fin 4} (h : (ftDies w).testBit d = true) :
    d.val ∈ throttleDies s w := by
  rw [throttleDies, hmask, if_neg Bool.false_ne_true]
  exact List.mem_filter.mpr ⟨List.mem_range.mpr d.isLt, h⟩

/-- A filter other than 8 raises its event and takes its action. -/
theorem fireFilter_of_action {s : State} {slot : Nat} {w : BitVec 1024} (hslot : slot ≠ 8) :
    (ftAction w = 2 → ftBySource w = false → ∀ d : Fin 4, (ftDies w).testBit d = true →
      tget 0 (fireFilter s slot w).pow.aomLevels (4 * slot + d) = ftLevel w) ∧
    (ftAction w = 3 → (fireFilter s slot w).pow.shed = true) ∧
    (ftAction w = 4 → s.pin.poweringDown = false →
      (fireFilter s slot w).pow.shed = true ∧ (fireFilter s slot w).pin.poweringDown = true) := by
  rw [fireFilter, if_neg hslot]
  refine ⟨fun haction hmask d hd => ?_, fun haction => ?_, fun haction hup => ?_⟩
  · rw [haction]
    exact throttle_level (mem_throttleDies hmask hd)
  · rw [haction]
    rfl
  · rw [haction]
    obtain ⟨sheds, atTick, hpin⟩ := powerDown_raise hup (ftEvent w) unitPackage
    exact ⟨sheds, congrArg PinState.poweringDown hpin⟩

theorem runFilter_fires {s : State} {slot : Nat} {w : BitVec 1024} (h : ∀ x ∈ filterProg w, x.1 = 1 → ldInputs s x.2 ≠ [])
    (hcond : (ranProgram s slot w).aom.cond = true) (hbefore : (filterState (ranProgram s slot w) slot).last = false) :
    runFilter s slot w = fireFilter (notedProgram s slot w) slot w := by
  rw [runFilter_of_inputs slot h, hcond, hbefore]
  rfl

/-- Settles O50: LD by its lemma, the other instructions by their definitions, and a filter's run by the lemmas above. -/
theorem monitorProgramsAndSamples : Obligations.MonitorProgramsAndSamples := by
  intro i inputs cyc slot w s next f keep
  refine ⟨runs_ld, rfl, rfl, fun hconst => ⟨?_, ?_, fun c x hc => ?_⟩, fun hconst => ?_, rfl, rfl, rfl, rfl, exec_aomSample inputs cyc s, ?_⟩
  · exact congrArg Host.Outcome.next (if_neg (Nat.not_le.mpr hconst))
  · exact congrArg Host.Outcome.next (if_neg (Nat.not_le.mpr hconst))
  · rw [hc]
    exact ⟨aboveConst_fin x c, belowConst_fin x c⟩
  · exact congrArg Host.Outcome.next (if_neg (Nat.not_le.mpr hconst))
  · intro prog c d hinputs
    have pinKept : (notedProgram s slot w).pin = s.pin := (ranProgram_changes s slot w).pin rfl
    refine ⟨runFilter_last slot hinputs, fun hcond hbefore hslot => ?_⟩
    rw [runFilter_fires hinputs hcond hbefore]
    obtain ⟨throttles, sheds, falls⟩ := fireFilter_of_action (s := notedProgram s slot w) (w := w) hslot
    exact ⟨throttles, sheds, fun haction hup => falls haction (pinKept ▸ hup)⟩

end Sys2Proof.Machine
end

section
/-!
PROOFS. Settings and transactions: what SETTING_SET and the TXN commands stage, commit and discard (R486 to R490).
-/
namespace Sys2Proof.Machine
open Sys2Proof

/-! ### Answers that acknowledge -/

/-- An admitted command that acknowledges a state: that state stands but for the answer's traces, and the answer is on the port. -/
theorem runs_acknowledged {c : Instr} {s v : State} {r : Req} {opcode : Nat} {f : State → State} {state body : List Byte}
    (hexec : exec c s = .next (serve s r opcode f)) (hadmitted : Admitted s r opcode) (hacks : f s = acknowledged v r opcode state body)
    (hnow : now v = now s) {p : State → Prop}
    (hp : ∀ u, ChangesOnly { wire := true, traffic := true, outbox := true, mail := true } v u → p u) :
    Runs c s (fun u => p u ∧ Answered u r (okResponse s r opcode (readback opcode r.tag state) body)) := by
  refine ⟨_, hexec, ?_⟩
  rw [serve_of_admitted hadmitted, hacks, okResponse, ← hnow]
  exact ⟨hp _ (acknowledged_changes ..), answered_respond ..⟩

section
variable {W : Parts} {s t : State}

/-- The staged values and the transactions, with their next identifier. -/
theorem ChangesOnly.stagedSettings (h : ChangesOnly W s t) (hsettings : W.settings = false) :
    t.eo.staged = s.eo.staged ∧ t.eo.txns = s.eo.txns ∧ t.eo.nextTxn = s.eo.nextTxn := by
  have k := h.settings hsettings
  simp only [Prod.mk.injEq] at k
  obtain ⟨_, hstaged, htxns, hnext⟩ := k
  exact ⟨hstaged, htxns, hnext⟩

theorem ChangesOnly.txnOf (h : ChangesOnly W s t) (hsettings : W.settings = false) (id : Nat) : txnOf t id = txnOf s id :=
  congrArg (tfind · id) (h.stagedSettings hsettings).2.1

end

/-! ### SETTING_SET -/

theorem runs_settingSet {r : Req} {id value : Word} {s : State} (hadmitted : Admitted s r 0x0108) (hvalid : stageFault id value = none)
    (hidle : settingIsLive s id.toNat = false) (hfree : holderOf s id.toNat = none) : Runs (.settingSet r id value) s (fun u =>
      tfind u.eo.staged id.toNat = some { value := value, notBefore := nextTick s, txn := none, req := some r } ∧
      Answered u r (okResponse s r 0x0108 (readback 0x0108 r.tag (pairBytes [(id.toNat, value)])) [])) := by
  let v : State := { s with
    eo.staged := tput s.eo.staged id.toNat { value := value, notBefore := nextTick s, txn := none, req := some r } }
  refine runs_acknowledged (v := v) rfl hadmitted ?_ rfl (fun u h => ?_)
  · dsimp only
    rw [hvalid, hidle, hfree]
    rfl
  · rw [(h.stagedSettings rfl).1]
    exact tfind_tput_same ..

/-! ### Transactions -/

theorem txnOf_setTxn (s : State) (id : Nat) (t : Txn) : txnOf (setTxn s id t) id = some t := tfind_tput_same ..

/-- A transaction that TXN_BEGIN opens for a port. -/
def begunTxn (port : Port) : Txn :=
  { owner := portOwner port, phase := .opened, pairs := [], effect := 0, tickDone := false, commitReq := none }

theorem runs_txnBegin {r : Req} {s : State} (hadmitted : Admitted s r 0x0109) (hroom : openTxns s < 4) : Runs (.txnBegin r) s (fun u =>
    (u.eo.nextTxn = s.eo.nextTxn + 1 ∧ tfind u.eo.txns s.eo.nextTxn = some (begunTxn r.port)) ∧
    Answered u r (okResponse s r 0x0109 (readback 0x0109 r.tag (bytesLE 4 s.eo.nextTxn)) (bytesLE 4 s.eo.nextTxn))) := by
  let v : State := { setTxn s s.eo.nextTxn (begunTxn r.port) with eo.nextTxn := s.eo.nextTxn + 1 }
  refine runs_acknowledged (v := v) rfl hadmitted (if_neg (Nat.not_le.mpr hroom)) rfl (fun u h => ?_)
  obtain ⟨-, htxns, hnext⟩ := h.stagedSettings rfl
  exact ⟨hnext, (congrArg (tfind · s.eo.nextTxn) htxns).trans (txnOf_setTxn ..)⟩

theorem onTxn_of_open {s : State} {r : Req} {txn : Word} {t : Txn} (hfound : txnOf s txn.toNat = some t) (hphase : t.phase = .opened)
    (howner : t.owner = portOwner r.port) (opcode : Nat) (f : State → Nat → Txn → State) :
    onTxn s r opcode txn f = f s txn.toNat t := by
  rw [onTxn, hfound]
  dsimp only
  rw [if_neg (not_not.mpr hphase), if_neg (not_not.mpr howner)]

section
variable {r : Req} {txn : Word} {t : Txn} {s : State} (hfound : txnOf s txn.toNat = some t) (hphase : t.phase = .opened)
include hfound hphase

section
variable (howner : t.owner = portOwner r.port)
include howner

theorem runs_txnStage {pairs : List (Word × Word)} (hadmitted : Admitted s r 0x010A) (hlength : 0 < pairs.length ∧ pairs.length ≤ 256)
    (hvalid : pairsFault s txn.toNat pairs = none) (hroom : (pairTable t.pairs pairs).length ≤ 256) :
    Runs (.txnStage r txn pairs) s (fun u =>
      txnOf u txn.toNat = some { t with pairs := pairTable t.pairs pairs } ∧
      Answered u r (okResponse s r 0x010A (readback 0x010A r.tag (pairBytes (pairTable [] pairs))) [])) := by
  refine runs_acknowledged (v := setTxn s txn.toNat { t with pairs := pairTable t.pairs pairs }) rfl hadmitted ?_ rfl
    (fun u h => (h.txnOf rfl _).trans (txnOf_setTxn ..))
  have fits : ¬ (pairs.length = 0 ∨ 256 < pairs.length) := by omega
  dsimp only
  rw [onTxn_of_open hfound hphase howner, if_neg fits, hvalid]
  exact if_neg (Nat.not_lt.mpr hroom)

/-- The commitment is accepted: the transaction stays open as a command until its effect frame. -/
theorem runs_txnCommit {target : BitVec 48} (hadmitted : Admitted s r 0x010B) (hopen : canOpen s 0x010B = true)
    (htarget : target = 0 ∨ (nextTick s < target.toNat ∧ target.toNat ≤ now s + 2 ^ 24)) : Runs (.txnCommit r txn target) s (fun u =>
      txnOf u txn.toNat = some { t with
        phase := .committed, effect := if target = 0 then nextTick s else target.toNat, commitReq := some r } ∧
      u.eo.opened = s.eo.opened ++ [{ opcode := 0x010B, req := r, args := [txn.toNat] }]) := by
  have zero : target.toNat = 0 ↔ target = 0 := ⟨fun h => BitVec.eq_of_toNat_eq h, fun h => h ▸ rfl⟩
  have inRange : ¬ (target.toNat ≠ 0 ∧ (target.toNat ≤ nextTick s ∨ now s + 2 ^ 24 < target.toNat)) := by
    rintro ⟨hsome, hout⟩
    have later := htarget.resolve_left (mt zero.mpr hsome)
    omega
  refine ⟨_, rfl, ?_⟩
  rw [serveC_of_admitted hadmitted hopen]
  dsimp only
  rw [onTxn_of_open hfound hphase howner, if_neg inRange]
  simp only [zero]
  exact ⟨((accept_changes ..).txnOf rfl _).trans (txnOf_setTxn ..), accept_opened ..⟩

theorem runs_txnRollback (hadmitted : Admitted s r 0x010C) : Runs (.txnRollback r txn) s (fun u =>
    txnOf u txn.toNat = some { t with phase := .closed, pairs := [] } ∧
    Answered u r (okResponse s r 0x010C (readback 0x010C r.tag (bytesLE 4 txn.toNat)) [])) :=
  runs_acknowledged (v := dropTxn s txn.toNat t) rfl hadmitted (onTxn_of_open hfound hphase howner ..) rfl
    (fun _ h => (h.txnOf rfl _).trans (txnOf_setTxn ..))

end

/-- The event of the timeout leaves the settings and the transactions as the rollback made them. -/
theorem runs_txnTimeout : Runs (.txnTimeout txn) s (fun u => txnOf u txn.toNat = some { t with phase := .closed, pairs := [] } ∧
    u.eo.staged = s.eo.staged ∧ u.eo.live = s.eo.live) := by
  have hexec : exec (.txnTimeout txn) s = .next (raise (dropTxn s txn.toNat t) 0x0108 unitNone noLevel []) := by
    show Host.Outcome.next (rollbackTxn s txn.toNat) = _
    rw [rollbackTxn, hfound]
    exact congrArg Host.Outcome.next (if_pos hphase)
  have raised := raise_changes (dropTxn s txn.toNat t) 0x0108 unitNone noLevel []
  exact ⟨_, hexec, (raised.txnOf rfl _).trans (txnOf_setTxn ..), (raised.stagedSettings rfl).1, raised.live rfl⟩

end

theorem runs_txnStatus {r : Req} {txn : Word} {t : Txn} {s : State} (hfound : txnOf s txn.toNat = some t)
    (howner : t.owner = portOwner r.port) (hadmitted : Admitted s r 0x010D) : Runs (.txnStatus r txn) s (fun u =>
      Answered u r (okResponse s r 0x010D [] (bytesLE 1 (if t.phase = .opened then 1 else if t.phase = .committed then 2 else 3) ++
        bytesLE 2 t.pairs.length ++ bytesLE 6 t.effect))) := by
  refine runs_query rfl hadmitted ?_
  dsimp only
  rw [hfound]
  dsimp only
  rw [if_neg (not_not.mpr howner)]
  cases t.phase <;> rfl

/-- Settles O42: one lemma for each of the commands. -/
theorem settingsAndTransactionsStageValues : Obligations.SettingsAndTransactionsStageValues := by
  intro r id value txn pairs target t s
  refine ⟨runs_settingSet, fun hadmitted hroom => ?_, fun hfound hphase howner => ⟨runs_txnStage hfound hphase howner,
    runs_txnCommit hfound hphase howner, runs_txnRollback hfound hphase howner, runs_txnTimeout hfound hphase⟩, runs_txnStatus⟩
  obtain ⟨u, hexec, ⟨hnext, hbegun⟩, hanswer⟩ := runs_txnBegin hadmitted hroom
  exact ⟨u, hexec, hnext, hbegun, hanswer⟩

end Sys2Proof.Machine
end

section
/-!
PROOFS. Firmware images (R498), attestation (R500), and the owner and management keys (R502, R503).
-/
namespace Sys2Proof.Machine
open Sys2Proof

/-- The keys, the attestation's tokens and next leaf, and the firmware's slots. -/
theorem ChangesOnly.security {W : Parts} {s t : State} (h : ChangesOnly W s t) (hkeys : W.keys = false) :
    (t.eo.ownerKey = s.eo.ownerKey ∧ t.eo.ownerCounter = s.eo.ownerCounter) ∧ (t.eo.tokens = s.eo.tokens ∧ t.eo.leaf = s.eo.leaf) ∧
    (t.eo.fwSlots = s.eo.fwSlots ∧ t.eo.fwPreferred = s.eo.fwPreferred) := by
  have k := h.keys hkeys
  simp only [Prod.mk.injEq] at k
  obtain ⟨howner, hcounter, _, htokens, hleaf, _, _, _, hslots, hpreferred, _⟩ := k
  exact ⟨⟨howner, hcounter⟩, ⟨htokens, hleaf⟩, ⟨hslots, hpreferred⟩⟩

/-- A state whose event is raised and whose request is answered stands but for the traces of both. -/
structure ReportedAnswer (v : State) (r : Req) (opcode : Nat) (st : Status) (digest body : List Byte) (u : State) : Prop where
  changes : ChangesOnly answerParts v u
  opened : u.eo.opened = v.eo.opened
  answered : Answered u r ⟨opcode, st, r.tag, true, now v, digest, body⟩

theorem reportedAnswer (v : State) (r : Req) (opcode : Nat) (st : Status) (digest body : List Byte) (code : Nat) (ps : List Nat) :
    ReportedAnswer v r opcode st digest body (respond (raise v code unitNone noLevel ps) r opcode st true digest body) where
  changes := respond_touch rfl rfl rfl rfl (raise_touch rfl rfl rfl (ChangesOnly.refl v))
  opened := (respond_opened ..).trans ((raise_changes v code unitNone noLevel ps).mailboxes rfl).2.2.1
  answered := by
    rw [← now_raise v code unitNone noLevel ps]
    exact answered_respond ..

section
variable {r : Req} {s : State}

/-! ### Firmware -/

theorem runs_fwStage {host : DWord} {length : Word} (hadmitted : Admitted s r 0x0701) (hopen : canOpen s 0x0701 = true)
    (hleast : 4096 ≤ length.toNat) (hmost : length.toNat ≤ 8388608) : Runs (.fwStage r host length) s (fun u =>
      u.eo.opened = s.eo.opened ++ [{ opcode := 0x0701, req := r, args := [host.toNat, length.toNat] }]) :=
  runs_accepted rfl hadmitted hopen (if_pos ⟨hleast, hmost⟩)

/-- The state in which an image has arrived in the slot that is not active. -/
def imageArrived (s : State) (c : OpenCommand) (f : FwSlot) (length : Nat) : State :=
  hostIn (closeCommand { s with eo.fwSlots := tput s.eo.fwSlots (idleSlot s) f } c) length

theorem imageArrived_changes (s : State) (c : OpenCommand) (f : FwSlot) (length : Nat) :
    ChangesOnly { traffic := true } (closeCommand { s with eo.fwSlots := tput s.eo.fwSlots (idleSlot s) f } c) (imageArrived s c f length) :=
  hostIn_touch rfl (ChangesOnly.refl _)

theorem runs_fwStageDone {c : OpenCommand} (hopen : openCommand s r 0x0701 = some c) : Runs (.fwStageDone r) s (fun u =>
    let f := slotImage s (c.args.getD 0 0) (c.args.getD 1 0)
    let m := imageManifest s (c.args.getD 0 0) (c.args.getD 1 0)
    tfind u.eo.fwSlots (idleSlot s) = some f ∧ u.eo.opened = s.eo.opened.erase c ∧ u.eo.fwPreferred = s.eo.fwPreferred ∧
    (slotVerifies f = true → Answered u r (okResponse s r 0x0701 (readback 0x0701 r.tag m) m)) ∧
    (slotVerifies f = false → Answered u r
      { opcode := 0x0701, status := .signature, tag := r.tag, final := true, frame := now s, digest := [], body := [] })) := by
  generalize hf : slotImage s (c.args.getD 0 0) (c.args.getD 1 0) = f
  generalize hm : imageManifest s (c.args.getD 0 0) (c.args.getD 1 0) = m
  have hexec : exec (.fwStageDone r) s = .next (if slotVerifies f
      then respond (changeEvent (imageArrived s c f (c.args.getD 1 0)) r 0x0701) r 0x0701 .ok true (readback 0x0701 r.tag m) m
      else respond (raise (imageArrived s c f (c.args.getD 1 0)) 0x0702 unitNone noLevel []) r 0x0701 .signature true [] []) := by
    show execFwStageDone r s = _
    rw [execFwStageDone, hopen, ← hf, ← hm]
    rfl
  have arrived := imageArrived_changes s c f (c.args.getD 1 0)
  generalize imageArrived s c f (c.args.getD 1 0) = v at hexec arrived
  obtain ⟨-, -, hslots, hpreferred⟩ := arrived.security rfl
  obtain ⟨-, -, hopened, -, -⟩ := arrived.mailboxes rfl
  have hnow : now v = now s := arrived.now rfl
  have stands : ∀ {st digest body u}, ReportedAnswer v r 0x0701 st digest body u → tfind u.eo.fwSlots (idleSlot s) = some f ∧
      u.eo.opened = s.eo.opened.erase c ∧ u.eo.fwPreferred = s.eo.fwPreferred := by
    intro st digest body u reported
    obtain ⟨-, -, hslots', hpreferred'⟩ := reported.changes.security rfl
    refine ⟨?_, reported.opened.trans hopened, hpreferred'.trans hpreferred⟩
    rw [hslots', hslots]
    exact tfind_tput_same ..
  refine ⟨_, hexec, ?_⟩
  dsimp only
  rw [okResponse, ← hnow]
  cases slotVerifies f with
  | true =>
    have reported := reportedAnswer v r 0x0701 .ok (readback 0x0701 r.tag m) m 0x0106 [0x0701, r.tag.toNat, 0, portField r.port]
    obtain ⟨hslot, hclosed, hkept⟩ := stands reported
    exact ⟨hslot, hclosed, hkept, fun _ => reported.answered, nofun⟩
  | false =>
    have reported := reportedAnswer v r 0x0701 .signature [] [] 0x0702 []
    obtain ⟨hslot, hclosed, hkept⟩ := stands reported
    exact ⟨hslot, hclosed, hkept, nofun, fun _ => reported.answered⟩

/-- The slot is preferred before the orderly stop, and the reset keeps what lies in the NOR. -/
theorem runs_fwActivate {slot : Byte} (hadmitted : Admitted s r 0x0702) (hidle : planRuns s = false) (hslot : slot.toNat ≤ 1) :
    Runs (.fwActivate r slot) s (fun u => u.eo.fwPreferred = (slot == 1) ∧ u.eo.fwSlots = s.eo.fwSlots ∧ u.pin.stage = 0 ∧
      u.pin.enables = [] ∧ u.plan.loaded = none) := by
  let v : State := { draw s with eo.fwPreferred := slot == 1 }
  let digested := bytesLE 8 (Config.bootControlWord s.free).toNat
  have hexec : exec (.fwActivate r slot) s = .next (coldReset true (orderlyStop (settled v r 0x0702 digested []))) := by
    have idle : ¬ planRuns s = true := by rw [hidle]; exact Bool.false_ne_true
    show execFwActivate r slot s = _
    rw [execFwActivate, serve_of_admitted hadmitted]
    exact congrArg Host.Outcome.next ((if_neg idle).trans (if_neg (Nat.not_lt.mpr hslot)))
  have stopped : ChangesOnly stopParts v (orderlyStop (settled v r 0x0702 digested [])) :=
    orderlyStop_touch rfl rfl (settled_touch rfl rfl rfl rfl rfl (ChangesOnly.refl v))
  have after := (afterReset_coldReset true _).of_changed stopped rfl rfl rfl
  exact ⟨_, hexec, after.fwPreferred, after.fwSlots, rfl, rfl, congrArg PlanState.loaded after.plan⟩

/-! ### Attestation -/

/-- The state in which an attestation signs: a new reservation fuse is blown where one is needed. -/
def signingState (s : State) : State := if needsFuse s then blowFuse s else s

theorem signingState_keeps (s : State) : now (signingState s) = now s ∧ (signingState s).eo.tokens = s.eo.tokens ∧
    (signingState s).eo.leaf = if needsFuse s then 64 * s.eo.leafFuses else s.eo.leaf := by
  unfold signingState
  split
  · have raised := raise_changes { s with
      eo.leaf := 64 * s.eo.leafFuses, eo.leafFuses := s.eo.leafFuses + 1, eo.leafReady := true } 0x0707 unitNone noLevel []
    obtain ⟨-, ⟨htokens, hleaf⟩, -⟩ := raised.security rfl
    exact ⟨now_raise .., htokens, hleaf⟩
  · exact ⟨rfl, rfl, rfl⟩

/-- A signature uses a token and a leaf. -/
def leafUsed (s : State) : State := { s with eo.tokens := s.eo.tokens - 1, eo.leaf := s.eo.leaf + 1 }

/-- The body of ATTEST's answer: the report and its signature. -/
def attestBody (s : State) (nonce : BitVec 256) : List Byte :=
  attestReport s nonce s.eo.leaf ++ Config.hssSign s.eo.leaf (attestReport s nonce s.eo.leaf)

theorem exec_attest {nonce : BitVec 256} (hadmitted : Admitted s r 0x0703) (htoken : s.eo.tokens ≠ 0)
    (hfuse : needsFuse s = true → s.eo.leafFuses < 16384) :
    exec (.attest r nonce) s = .next (answer (leafUsed (signingState s)) r 0x0703 (attestBody (signingState s) nonce)) := by
  have left : ¬ (s.eo.tokens = 0 ∨ (needsFuse s = true ∧ 16384 ≤ s.eo.leafFuses)) :=
    not_or.mpr ⟨htoken, fun h => Nat.not_le.mpr (hfuse h.1) h.2⟩
  show execAttest r nonce s = _
  rw [execAttest, serve_of_admitted hadmitted, if_neg left]
  rfl

theorem runs_attest {nonce : BitVec 256} (hadmitted : Admitted s r 0x0703) (htoken : s.eo.tokens ≠ 0)
    (hfuse : needsFuse s = true → s.eo.leafFuses < 16384) : Runs (.attest r nonce) s (fun u =>
      u.eo.tokens = s.eo.tokens - 1 ∧
      u.eo.leaf = (if needsFuse s then 64 * s.eo.leafFuses else s.eo.leaf) + 1 ∧
      Answered u r (okResponse s r 0x0703 [] (attestBody (signingState s) nonce))) := by
  obtain ⟨hnow, htokens, hleaf⟩ := signingState_keeps s
  refine ⟨_, exec_attest hadmitted htoken hfuse, ?_⟩
  rw [← htokens, ← hleaf, okResponse, ← hnow]
  generalize attestBody (signingState s) nonce = body
  obtain ⟨-, ⟨htokens', hleaf'⟩, -⟩ := (respond_changes (leafUsed (signingState s)) r 0x0703 .ok true [] body).security rfl
  exact ⟨htokens', hleaf', answered_respond (leafUsed (signingState s)) r 0x0703 .ok [] body⟩

/-! ### Keys -/

/-- The key that an accepted record installs; zeros install none (R502). -/
def installedKey (record : List Byte) : Option (List Byte) :=
  if recordKey record = List.replicate 60 0 then none else some (recordKey record)

theorem runs_ownerKeySet {record : List Byte} (hadmitted : Admitted s r 0x0705) (hlength : record.length = 8192)
    (hidle : planRuns s = false) : Runs (.ownerKeySet r record) s (fun u =>
      (recordAccepted s record = true → u.eo.ownerKey = installedKey record ∧ u.eo.ownerCounter = recordCounter record ∧
        Answered u r (okResponse s r 0x0705 (readback 0x0705 r.tag (keyDigest (installedKey record))) [])) ∧
      (recordAccepted s record = false → u.eo.ownerKey = s.eo.ownerKey ∧ u.eo.ownerCounter = s.eo.ownerCounter ∧ Answered u r
        { opcode := 0x0705, status := .signature, tag := r.tag, final := true, frame := now s, digest := [], body := [] })) := by
  let installed : State := { s with eo.ownerKey := installedKey record, eo.ownerCounter := recordCounter record }
  let reported := raise installed 0x0704 unitNone noLevel []
  have hexec : exec (.ownerKeySet r record) s = .next (if recordAccepted s record
      then settled reported r 0x0705 (keyDigest (installedKey record)) []
      else refuse (raise s 0x0702 unitNone noLevel []) r 0x0705 .signature) := by
    have idle : ¬ planRuns s = true := by rw [hidle]; exact Bool.false_ne_true
    show execOwnerKeySet r record s = _
    rw [execOwnerKeySet, serve_of_admitted hadmitted]
    exact congrArg Host.Outcome.next ((if_neg (not_not.mpr hlength)).trans (if_neg idle))
  refine ⟨_, hexec, ?_⟩
  cases recordAccepted s record with
  | true =>
    obtain ⟨⟨hkey, hcounter⟩, -⟩ := (settled_changes reported r 0x0705 (keyDigest (installedKey record)) []).security rfl
    obtain ⟨⟨hkey', hcounter'⟩, -⟩ := (raise_changes installed 0x0704 unitNone noLevel []).security rfl
    have hnow : now reported = now s := now_raise ..
    refine ⟨fun _ => ⟨hkey.trans hkey', hcounter.trans hcounter', ?_⟩, nofun⟩
    rw [okResponse, ← hnow]
    exact answered_settled ..
  | false =>
    have refused := reportedAnswer s r 0x0705 .signature [] [] 0x0702 []
    obtain ⟨⟨hkey, hcounter⟩, -⟩ := refused.changes.security rfl
    exact ⟨nofun, fun _ => ⟨hkey, hcounter, refused.answered⟩⟩

/-- No port's answer lies with the management key. -/
theorem Answered.withMgmtKey {u : State} {x : Response} (h : Answered u r x) (k : Option (List Byte)) :
    Answered { u with eo.mgmtKey := k } r x := by
  obtain ⟨port, tag, seq⟩ := r
  cases port <;> exact h

theorem runs_mgmtKeySet {key : BitVec 256} (hadmitted : Admitted s r 0x0706) : Runs (.mgmtKeySet r key) s (fun u =>
    let k := if key = 0 then none else some (bytesLE 32 key.toNat)
    u.eo.mgmtKey = k ∧ Answered u r (okResponse s r 0x0706 (readback 0x0706 r.tag (keyDigest k)) [])) := by
  refine ⟨_, rfl, ?_⟩
  rw [serve_of_admitted hadmitted]
  exact ⟨rfl, (answered_settled ..).withMgmtKey _⟩

end

/-- Settles O46: one lemma for each of the commands. -/
theorem firmwareKeysAndAttestation : Obligations.FirmwareKeysAndAttestation := by
  intro r host length slot nonce key record s
  exact ⟨runs_fwStage, fun _ => runs_fwStageDone, runs_fwActivate, runs_attest, rfl, runs_ownerKeySet, runs_mgmtKeySet⟩

end Sys2Proof.Machine
end
